-- ==== Sys2Proof/Word.lean ====
section
/-! DEFINITION. The plain words of the UW-1048 model: bytes, register words, and the sorted
key maps that hold sparse state. Only types stand here; their operations are in Machine/Maps.lean. -/

namespace Sys2Proof

/-- A byte of a store, a stack or host memory. -/
abbrev Byte := BitVec 8

/-- A 32-bit register or flit word (R7). -/
abbrev Word32 := BitVec 32

/-- A 64-bit value: a stamp (R145), a register pair (R7). -/
abbrev Word64 := BitVec 64

/-- Sparse state by number: pairs of key and value with keys strictly rising. -/
abbrev KMap (α : Type) := List (Nat × α)

end Sys2Proof
end

