-- ==== Sys2Proof/Syntax.lean ====
section
/-! DEFINITION. The commands of the block: one constructor of `Instr` for each row of
spec/opcode_table.json. The table gives no operands; those here are the data that the row's rule
says the step receives (log entry 1). -/

namespace Sys2Proof

abbrev ChaseId := Fin 256
abbrev QueueId := Fin 1024
abbrev FormeId := Fin 16
abbrev StackId := Fin 32
abbrev LinkId := Fin 16
abbrev GroupId := Fin 4
abbrev PortId := Fin 4
/-- A stream entry (R292). -/
abbrev EntryId := Fin 16384

/-- A logical core by row and logical column (R20). -/
structure CoreRef where
  row : Fin 1024
  lcol : Fin 1024
  deriving DecidableEq, Repr

/-- A physical core or router by row and physical column (R16). -/
structure RouterRef where
  row : Fin 1024
  pcol : Fin 1056
  deriving DecidableEq, Repr

/-- Who makes a register access (R530). -/
inductive Requester where
  | host (h : PortId)
  | management
  deriving DecidableEq, Repr

/-- A fabric flit (R145, R148): stamp, route word, 68 payload bytes, its index within its packet
(R160) and its poison mark (R376). -/
structure Flit where
  stamp : Word64
  route : Word32
  payload : List Byte
  index : Nat
  poison : Bool
  deriving DecidableEq, Repr

/-- The formats of R42. -/
inductive Fmt where
  | n4 | i4 | t2 | f8 | f8w | b16 | f32 | s8
  deriving DecidableEq, Repr

/-- Element types of the vector unit (R117). -/
inductive VFmt where
  | b16 | f32 | int32
  deriving DecidableEq, Repr

/-- An operation of a core: the stamp of the work it does, and its forme instruction address (R192, R209). -/
structure OpAt where
  core : CoreRef
  stamp : Word64
  instr : Nat
  deriving DecidableEq, Repr

/-- A row operand of a unit: a store row, one of the eight register rows (R116), a static receive slot to
read, or a static send slot to write (R143). -/
inductive VRow where
  | store (addr : Nat)
  | reg (r : Fin 8)
  | recv (slot : Fin 128)
  | send (slot : Fin 128)
  deriving DecidableEq, Repr

/-- A vector operation's core, element type, sources and destination (R116, R192), its stamp and instruction address. -/
structure VOp where
  core : CoreRef
  fmt : VFmt
  a : VRow
  b : VRow
  c : VRow
  dst : VRow
  stamp : Word64
  instr : Nat
  deriving DecidableEq, Repr

/-- The comparison of a COMPARE operation (R117). -/
inductive CmpKind where
  | lt | le | eq
  deriving DecidableEq, Repr

/-- A press feed (R107 to R115): a data row of a tile (R113), or the latched row (R110); the
first of the held rows; the accumulator that takes the terms, its output tensor and element, and the A0 of an element that no
reduction record names (R60, R190).
`expert` is the resident routed expert whose rows the tile
holds (R252), `uTarget` the overlay target whose intermediate is formed (R273). -/
structure FeedOp where
  core : CoreRef
  tile : Nat
  dataRow : Nat
  fed : Fmt
  sparse : Bool
  latched : Bool
  held : Fmt
  file : Nat
  acc : Fin 64
  tensor : Nat
  anchor : Int
  element : Nat
  stamp : Word64
  instr : Nat
  expert : Option Nat
  uTarget : Option Nat
  deriving DecidableEq, Repr

/-- The place of a block in the KV entry of a stamp's position (R211, R216): its KV group and number. -/
structure KvPlace where
  group : Nat
  block : Nat
  deriving DecidableEq, Repr

/-- Packed elements in the store (R52): the addresses of the codes and of the block scales, and the format. -/
structure PackedSrc where
  codes : Nat
  scales : Nat
  fmt : Fmt
  deriving DecidableEq, Repr

/-- Landed packets in the order of PART (R146, R160): the address of the first, the distance, their number, the
elements of each and whether they are F32 or B16. -/
structure PartsSrc where
  base : Nat
  stride : Nat
  parts : Nat
  elems : Nat
  wide : Bool
  deriving DecidableEq, Repr

/-- Where the group results of a head landed, in order, and its stick leaf (R230, R233). -/
structure MergeSrc where
  base : Nat
  stride : Nat
  stick : Nat
  deriving DecidableEq, Repr

/-- The outputs of a token's experts in the store (R260): the addresses of the gate weights, of each selected expert's
output by ascending index, and of each shared expert's, all B16; the output elements here, and the A0 of their sums. -/
structure CombineSrc where
  weights : Nat
  outs : List Nat
  shared : List Nat
  count : Nat
  anchor : Int
  deriving DecidableEq, Repr

/-- What a reduction computes: the sum in its accumulator, or, as the forme's operations do by the rules, a non-exact
combination in canonical order (R146), the final merge of a head (R230), the scores of page selection for a KV group
(R237), a layer's routing (R257 to R259), its predictor (R266), `last` for the last batch slot, or the combination of its
experts' outputs (R260). -/
inductive CloseRole where
  | sum
  | ordered (x : PartsSrc)
  | merge (x : MergeSrc)
  | scores (query : PackedSrc) (group : Nat) (anchor : Int)
  | router (input : PackedSrc) (anchor : Int)
  | predict (input : PackedSrc) (anchor : Int) (last : Bool)
  | combine (x : CombineSrc)
  deriving DecidableEq, Repr

/-- Closing a reduction (R64 to R77): its accumulator (for N4 and I4 output the first of 32), output
format, B16 channel scales (none, or one for each element), place, and the figures of a reduction that no
record names (R190). `split` says that
several cores share it; `owner` is the owning core; `kv` names a KV entry's block in place of `dst` and `scaleDst`. -/
structure CloseOp where
  core : CoreRef
  acc : Fin 64
  tensor : Nat
  out : Fmt
  scales : List Nat
  dst : Nat
  scaleDst : Nat
  layer : Nat
  recomputeLen : Nat
  split : Bool
  owner : CoreRef
  contributors : List CoreRef
  terms : Nat
  stamp : Word64
  instr : Nat
  kv : Option KvPlace
  role : CloseRole
  deriving DecidableEq, Repr

/-- A LONG_PARTIAL flit at the owning core (R68 to R70): the accumulator and A0 of each record, the
contributing cores, the terms of the reduction record. -/
structure PartialOp where
  core : CoreRef
  flit : Flit
  accs : List (Fin 64)
  tensor : Nat
  anchor : Int
  contributors : List CoreRef
  terms : Nat
  layer : Nat
  recomputeLen : Nat
  deriving DecidableEq, Repr

/-- A RE_ANCHOR packet at a contributor (R70). -/
structure ReAnchorOp where
  core : CoreRef
  tensor : Nat
  element : Nat
  anchor : Int
  layer : Nat
  recomputeLen : Nat
  owner : CoreRef
  stamp : Word64
  deriving DecidableEq, Repr

/-- The outlier lane's gather (R86): a fed row of stationary elements from element `first`, meeting
the dynamic outliers of a site that the token's main pass (0) or an extra pass takes. -/
structure GatherOp where
  core : CoreRef
  tile : Nat
  dataRow : Nat
  pass : Nat
  fed : Fmt
  sparse : Bool
  site : Nat
  first : Nat
  acc : Fin 64
  tensor : Nat
  anchor : Int
  element : Nat
  stamp : Word64
  instr : Nat
  deriving DecidableEq, Repr

/-- The direction of an integer shift. -/
inductive ShiftKind where
  | left | right | arith
  deriving DecidableEq, Repr

/-- The data the device reads from host memory at the fetch of a GENERATE (R299). -/
structure HostData where
  prompt : List Nat
  ext : List Byte
  mask : List Byte
  fails : Bool
  deriving DecidableEq, Repr

/-- The image a load command reads (R352), and whether a host read of it fails. -/
structure LoadSource where
  image : List Byte
  fails : Bool
  deriving DecidableEq, Repr

/-- One lane of a step at keeper group 0 (R285, R322): its logits as F32 bits. -/
structure LaneOut where
  logits : List Nat
  deriving DecidableEq, Repr

/-- What an audit's reads outside the cores returned for one layer (R372, R374): whether the golden copy as read, its
parity reconstruction, the host image and a neighbour's image match the layer's digest. -/
structure AuditFinding where
  forme : FormeId
  layer : Nat
  goldenOk : Bool
  parityOk : Bool
  hostOk : Bool
  linkOk : Bool
  deriving DecidableEq, Repr

/-- A queue's state as it is handed over (R408). -/
structure HandedQueue where
  queue : Nat
  sqBase : Nat
  rqBase : Nat
  sqLog2 : Nat
  rqLog2 : Nat
  priority : Nat
  sqHead : Nat
  sqTail : Nat
  rqHead : Nat
  rqTail : Nat
  phase : Bool
  deriving DecidableEq, Repr

/-- A stream as it is handed over (R396, R408): its replay record, token history, extension block and mask, and the bytes
of the galleys below DLEN, by index, then layer and KV group. -/
structure HandedStream where
  record : List Byte
  tokens : List Nat
  ext : List Byte
  mask : List Byte
  galleys : List (List Byte)
  deriving DecidableEq, Repr

/-- A paused conversation as it is handed over (R337, R408), with its galleys in the same order. Its KV was written under the
weight identity, variant version and overlay versions named; each of `overlays` is owner × 2^32 + number × 2^16 + version, the
owner 0 for a PUBLIC overlay (R279). -/
structure HandedConv where
  tenant : Nat
  handle : Nat
  forme : Nat
  vlen : Nat
  pausedAt : Nat
  ttl : Nat
  queue : Nat
  tokens : List Nat
  ident : List Byte
  variant : Option Nat
  overlays : List Nat
  galleys : List (List Byte)
  deriving DecidableEq, Repr

/-- What a HANDOVER message carries (R508): queue state, a replay record with what belongs to it, or a conversation. -/
inductive Handed where
  | queue (x : HandedQueue)
  | stream (x : HandedStream)
  | conv (x : HandedConv)
  deriving DecidableEq, Repr

/-- What one lane's identity sequence tells (R504). -/
structure LaneIdent where
  lane : Nat
  serial : Nat
  die : Nat
  peerLane : Nat
  flipped : Bool
  deriving DecidableEq, Repr

/-- One sensor pair's readings, 1/16 °C (R444). -/
structure PairReading where
  pair : Nat
  a : Int
  b : Int
  deriving DecidableEq, Repr

/-- The tray's three devices (R522): none where a device does not answer. -/
structure TrayReading where
  supply : Option Int
  return_ : Option Int
  flow : Option Nat
  deriving DecidableEq, Repr

/-- The latch inputs of one millisecond (R439). -/
structure CurrentReading where
  inputMv : Nat
  inputI : Nat
  moduleW : Nat
  stackI : Nat
  portI : Nat
  lampI : Nat
  coreAvg : List Nat
  corePeak : List Nat
  transitAvg : List Nat
  deriving DecidableEq, Repr

/-- A clock compared with the crystal (R465), by its CLK.PLL_SEL coding. -/
structure ClockReading where
  domain : Nat
  inst : Nat
  present : Bool
  khz : Nat
  commandedKhz : Nat
  slewing : Bool
  deriving DecidableEq, Repr

/-- A core's self-test result in a kindling or a retest (R388, R390). -/
structure CoreResult where
  place : RouterRef
  coreFails : Bool
  routerFails : Bool
  test : Nat
  deriving DecidableEq, Repr

/-- An operation of the lens (R79 to R82). -/
structure LensOp where
  core : CoreRef
  site : Nat
  first : Nat
  fmt : VFmt
  src : Nat
  dst : Nat
  outlierDst : Nat
  stamp : Word64
  instr : Nat
  deriving DecidableEq, Repr

/-- An operation of the position rotator (R121, R122). -/
structure RotateOp where
  core : CoreRef
  table : Nat
  halves : Bool
  width : Nat
  bf16 : Bool
  src : Nat
  dst : Nat
  stamp : Word64
  instr : Nat
  deriving DecidableEq, Repr

/-- An ARM operation (R159), or, with `free`, the forme's freeing of the entry (R161); `waited` are the cycles that the landings
of parked flits waited for a bank (R136). -/
structure ArmOp where
  core : CoreRef
  entry : Fin 32
  free : Bool
  req : Nat
  pos : Nat
  layer : Nat
  partLo : Nat
  partHi : Nat
  flits : Nat
  base : Nat
  stride : Nat
  waited : Nat
  deriving DecidableEq, Repr

/-- The outlier test of one block (R84 to R87): its row, where the row goes with zeros in the outliers' places, its site, the
index of its first element, the token's stamp; `last` ends the detection of the token and layer. -/
structure OutlierOp where
  core : CoreRef
  fmt : VFmt
  src : VRow
  dst : VRow
  block : Fin 2
  site : Nat
  first : Nat
  stamp : Word64
  instr : Nat
  last : Bool
  deriving DecidableEq, Repr

/-- The packed data of a slug (R52, R53, R54): the store addresses of the codes and of the block scales, the format, the
first block, and the blocks of the tensor from there on. -/
structure SlugSrc where
  codes : Nat
  scales : Nat
  fmt : Fmt
  blocks : Nat
  deriving DecidableEq, Repr

/-- A leaf partial (R226, R227): the galley, the query's blocks in the store, the blocks of an entry that serve as key and
as value, the softmax factor, the A0 of scores, sum and output, the length of the sums' recompute (R67), and whether it is the
last leaf of the galley for its token (R244). -/
structure LeafSrc where
  galley : Nat
  query : PackedSrc
  keys : List Nat
  vals : List Nat
  factor : Nat
  scoreA0 : Int
  sumA0 : Int
  outA0 : Int
  recomputeLen : Nat
  last : Bool
  deriving DecidableEq, Repr

/-- A group result (R230): the group's number, and where its leaves landed, the first at `base`. -/
structure GroupSrc where
  group : Nat
  base : Nat
  stride : Nat
  deriving DecidableEq, Repr

/-- What SEND_DYNAMIC sends: its flit, a slug, or a flit of the packet of a leaf or a group result (R232). -/
inductive SendSrc where
  | flit
  | slug (x : SlugSrc)
  | leaf (x : LeafSrc)
  | group (x : GroupSrc)
  deriving DecidableEq, Repr

/-- A dynamic send: its flit, what the flit carries, and its instruction address. -/
structure SendOp where
  flit : Flit
  src : SendSrc
  instr : Nat
  deriving DecidableEq, Repr

/-- A command that port D serves requests for: its core, and the cycles that they waited for a bank (R136, R137; log entry
95). -/
structure PortOp where
  core : CoreRef
  waited : Nat
  deriving DecidableEq, Repr

/-- An ISSUE operation: its core, the cycles that port D's reads for it waited (R136), and the stamp of its work (R209). -/
structure IssueOp where
  core : CoreRef
  waited : Nat
  stamp : Word64
  deriving DecidableEq, Repr

/-- Where a requester reads, and whether it reads 64 bits at once (R529, R530). -/
structure ReadAt where
  addr : Nat
  wide : Bool
  deriving DecidableEq, Repr

/-- The acknowledgement of a flit of a stack write (R178, R514): its core, descriptor and number; and the cycles that port D
waited for a bank. -/
structure StackAck where
  core : CoreRef
  desc : Nat
  flit : Nat
  waited : Nat
  deriving DecidableEq, Repr

/-- What an issued descriptor is part of: nothing further, the binding of a cold expert (R261), or the fetch of the next
galley that the stamp's token attends to in a KV group (R242, R244), or page summaries of a layer and KV group from T1
(R243). -/
inductive IssueUse where
  | plain
  | cold (expert : Nat)
  | galley (group : Nat)
  | summaries (layer group : Nat)
  deriving DecidableEq, Repr

/-- The quantise operation on one block of 32 elements of a row (R77). -/
structure QuantOp where
  core : CoreRef
  fmt : VFmt
  src : VRow
  block : Fin 2
  i4 : Bool
  dst : Nat
  scaleDst : Nat
  stamp : Word64
  instr : Nat
  blockIndex : Nat
  layer : Nat
  kv : Option KvPlace
  deriving DecidableEq, Repr

/-- The commands, in the order of spec/opcode_table.json. -/
inductive Instr where
  | generate (q : QueueId) (rec : List Byte) (h : HostData)
  | cancel (q : QueueId) (rec : List Byte)
  | release (q : QueueId) (rec : List Byte)
  | mooringSet (q : QueueId) (rec : List Byte)
  | mooringClear (q : QueueId) (rec : List Byte)
  | badKind (q : QueueId) (rec : List Byte)
  | loadForme (q : QueueId) (rec : List Byte) (src : LoadSource)
  | replace (q : QueueId) (rec : List Byte) (src : LoadSource)
  | unloadForme (q : QueueId) (rec : List Byte)
  | loadVariant (q : QueueId) (rec : List Byte) (src : LoadSource)
  | loadOverlay (q : QueueId) (rec : List Byte) (src : LoadSource)
  | deleteVariant (q : QueueId) (rec : List Byte)
  | deleteOverlay (q : QueueId) (rec : List Byte)
  | sqTail (q : QueueId) (v : Nat)
  | rqHead (q : QueueId) (v : Nat)
  | admission (e : EntryId)
  | waveLaunch (f : FormeId)
  | token (e : EntryId) (lanes : List LaneOut) (heads : List LaneOut) (poisoned : Bool)
  | galleyResident (g : Nat)
  | galleyFetchDone (g : Nat)
  | galleyToT2 (tenant handle : Nat)
  | t2CopyAck (g : Nat)
  | convExpiry (tenant handle : Nat)
  | convTombstoneLapse (tenant handle : Nat)
  | telemetrySecond
  | numeric
  | expert (first : Nat)
  | usageCounts
  | usageIntervalClose
  | interruptCoalesceTime (q : QueueId)
  | loadStaged (f : FormeId)
  | swapBegin (f : FormeId)
  | swapLayerWritten (f : FormeId) (digestOk : Bool)
  | unloadDrained (f : FormeId)
  | auditSweep (found : List AuditFinding)
  | linkSource (f : FormeId)
  | loadAsk (k : LinkId) (expect : List Byte)
  | loadOffer (k : LinkId) (ident : List Byte)
  | loadTake (k : LinkId) (ident : List Byte) (layer : Nat)
  | loadData (k : LinkId) (offset : Nat) (bytes : List Byte)
  | loadEnd (k : LinkId) (layer : Nat)
  | ident (k : LinkId) (serial die grade cores : Nat) (idents : List (List Byte))
  | version (k : LinkId) (offers : List (Nat × Nat))
  | announce (k : LinkId) (priority serial hops : Nat)
  | pdelay (k : LinkId) (offset : Int) (delay : Nat)
  | pdelayTimer (k : LinkId)
  | timeSourceLoss
  | mirror (k : LinkId) (data : List Byte)
  | handover (k : LinkId) (h : Handed)
  | linkFrame (k : LinkId) (frame : List Byte) (uncorrectable : Bool)
  | lnkLaneSpared (k : LinkId) (lane : Fin 32)
  | detect (k : LinkId) (lanes : Nat)
  | signalLook (k : LinkId) (signal : Bool)
  | identify (k : LinkId) (lanes : List LaneIdent)
  | equalise (k : LinkId) (coefficients : List Nat)
  | lock (k : LinkId) (good : Nat)
  | lnkDown (k : LinkId) (framesLost : Nat)
  | peerLost (k : LinkId)
  | splitPacket (k : LinkId) (f : Flit)
  | retrain (k : LinkId) (v : Nat)
  | flitHop (r : RouterRef) (input : Fin 7) (f : Flit) (badLanes : List Nat)
  | gateFlit (o : PortOp) (f : Flit)
  | parkStale (c : CoreRef) (i : Nat)
  | fabDeadlock (r : RouterRef) (cls : Fin 8) (input : Fin 7) (stamp : Word64)
  | fabricLockup (n : ChaseId)
  | readReq (c : CoreRef) (addr len : Nat) (src : CoreRef) (stamp : Word64) (waited : Nat)
  | readData (o : PortOp) (desc k : Nat) (f : Flit)
  | write (c : CoreRef) (f : Flit) (src : CoreRef) (desc : Nat)
  | remoteWriteStored (o : PortOp)
  | writeAck (o : PortOp) (desc k : Nat)
  | nack (o : PortOp) (desc k : Nat) (badAddress : Bool)
  | longPartial (o : PartialOp)
  | reAnchor (o : ReAnchorOp)
  | control (r : RouterRef) (payload : List Byte)
  | event (i : Nat)
  | descriptorComplete (o : PortOp) (desc : Nat)
  | streamDue (c : CoreRef) (desc : Nat)
  | slipTimeout (n : ChaseId) (i : Nat)
  | scrub (c : CoreRef) (addr waited : Nat)
  | endOp (c : CoreRef)
  | loop (c : CoreRef) (count bodyCycles bodyWords : Nat)
  | arm (a : ArmOp)
  | check (c : CoreRef) (entries : List (Fin 32))
  | fenceD (c : CoreRef)
  | fenceS (c : CoreRef)
  | fenceA (c : CoreRef)
  | issue (o : IssueOp) (addr : Nat) (instr : Nat) (conflict : Bool) (use_ : IssueUse)
  | waitEvent (c : CoreRef) (flag : Fin 64)
  | feed (f : FeedOp)
  | latch (c : CoreRef) (cycles : Nat)
  | fileLoad (o : OpAt) (addr : Nat) (side : Bool) (row : Fin 32)
  | close (o : CloseOp)
  | save (o : OpAt) (acc : Fin 64) (dst : Nat)
  | restore (o : OpAt) (acc : Fin 64) (src : Nat)
  | outlierGather (o : GatherOp)
  | add (o : VOp)
  | subtract (o : VOp)
  | multiply (o : VOp)
  | fusedMultiplyAdd (o : VOp)
  | min (o : VOp)
  | max (o : VOp)
  | abs (o : VOp)
  | negate (o : VOp)
  | sqrt (o : VOp)
  | rsqrt (o : VOp)
  | rcp (o : VOp)
  | exp2 (o : VOp)
  | log2 (o : VOp)
  | sigmoid (o : VOp)
  | tanh (o : VOp)
  | erf (o : VOp)
  | convert (o : VOp) (src dst : Fmt)
  | quantise (o : QuantOp)
  | compare (o : VOp) (kind : CmpKind)
  | select (o : VOp)
  | runningMax (o : VOp)
  | argmax (o : VOp)
  | integerAdd (o : VOp)
  | shift (o : VOp) (kind : ShiftKind)
  | and (o : VOp)
  | or (o : VOp)
  | xor (o : VOp)
  | outlierTest (o : OutlierOp)
  | silu (o : VOp)
  | gelu (o : VOp)
  | lensRotate (o : LensOp)
  | positionRotate (o : RotateOp)
  | sendStatic (c : CoreRef) (slot : Fin 128) (stamp : Word64) (payload : List Byte) (poison : Bool)
  | sendDynamic (c : CoreRef) (o : SendOp)
  | snap (n : ChaseId)
  | clear (n : ChaseId)
  | keeperHalt (n : ChaseId)
  | haltEnd (n : ChaseId)
  | chaseHalted (n : ChaseId)
  | slipLongest (r : Requester) (n : ChaseId)
  | parkMax (r : Requester) (n : ChaseId)
  | ringLost (r : Requester)
  | suppressed (r : Requester)
  | logLost (r : Requester)
  | convExpired (r : Requester)
  | pairLowRead (r : Requester) (o : ReadAt)
  | registerWrite (r : Requester) (addr : Nat) (wide : Bool) (v : Nat)
  | badAccess (r : Requester) (addr : Nat) (isRead : Bool)
  | noAnswer (r : Requester) (addr : Nat) (isRead : Bool)
  | queueEnable (v : Nat)
  | queueDisable (v : Nat)
  | limitGib (v : Nat)
  | ringEn (v : Nat)
  | ringHead (v : Nat)
  | telEn (v : Nat)
  | head (v : Nat)
  | retentionRequest
  | retentionExit (byHost : Bool)
  | retentionWave
  | blockReset (v : Nat)
  | quiesceDone
  | rstQuiesceTimeout (held : Nat)
  | softwareModuleReset (v : Nat)
  | forceStep (v : Nat)
  | locked (page : Nat)
  | intervalS (v : Nat)
  | rdSeq (v : Nat)
  | ackSeq (v : Nat)
  | kmbVersion (g : GroupId)
  | groupState (g : GroupId)
  | streamQuery (g : GroupId)
  | ack (g : GroupId)
  | winCtl (off v : Nat)
  | target (v : Nat)
  | t2DirectoryRead (r : Requester) (index : Nat)
  | mctpControl (bus : Fin 2) (eid : Nat)
  | pldmBase (bus : Fin 2) (cmd : Nat)
  | pldmMonitoring (bus : Fin 2) (cmd arg : Nat)
  | pldmFru (bus : Fin 2)
  | pldmFirmwareUpdate (component : Nat) (image : List Byte) (verified : Bool)
  | readReg (bus : Fin 2) (addr : Nat)
  | readRegTimeout (bus : Fin 2) (addr : Nat)
  | readFaultLog (bus : Fin 2) (i : Nat)
  | readUsage (bus : Fin 2) (seq : Nat)
  | shutdown
  | moduleReset (force : Bool)
  | setdasa (addr : Nat)
  | entdaa (addr : Nat)
  | mgtBusShort (bus : Fin 2)
  | mgtPinStuck (pin : Fin 3)
  | trayRead (t : TrayReading)
  | stopTimeout
  | handoverComplete
  | mgtTrayShort (lines : Nat)
  | trayProbe (shorted : Bool) (t : TrayReading)
  | pwrInputLoss (mv : Nat)
  | pwrInputOver (mv : Nat)
  | inputBandChange (mv : Nat)
  | pwrInputReversed
  | pwrBusDegraded (conv : Fin 40)
  | fabTransitLost (n : ChaseId) (cause : Nat)
  | clockChange (n : ChaseId) (up : Bool)
  | pwrSenseOpen (n : ChaseId) (point : Fin 4)
  | hint (n : ChaseId) (i : Nat)
  | pwrOcWarn (n : ChaseId) (current : Nat)
  | ocLimitReturn (n : ChaseId)
  | pwrRailFault (n : ChaseId) (cause current : Nat)
  | railRetry (n : ChaseId) (results : List CoreResult)
  | unpark (n : ChaseId) (results : List CoreResult)
  | switchOn (n : ChaseId)
  | switchOnRecheck (n : ChaseId)
  | pwrSwitchDeferred (n : ChaseId)
  | bankGate (n : ChaseId) (b : Fin 36)
  | bankGated (n : ChaseId) (b : Fin 36)
  | bankOpen (n : ChaseId) (b : Fin 36)
  | currentLatch (r : CurrentReading)
  | sensorSample (rs : List PairReading)
  | estimatorSample (meanW : Nat)
  | fModStep (powerW : Nat)
  | chaseThermalAction (n : ChaseId)
  | thermalCycle
  | suspectDecay (seg : Fin 16384)
  | powerOn
  | brownOut (lampRail : Bool)
  | resetN (low : Bool)
  | perst (h : PortId) (asserted : Bool)
  | rstWatchdog (g : GroupId)
  | rstLockup (g : GroupId)
  | clockMonitor (rs : List ClockReading)
  | rstLampXtal
  | rstFabricRef (bGood : Bool)
  | timeSyncPoint (corrections : List Nat)
  | releaseStep (k : Fin 11) (inst : Nat)
  | pllCountDone (domain inst : Nat)
  | rstPllNoLock (domain inst : Nat)
  | rstStepTimeout (k : Nat)
  | refclkRecovered (h : PortId)
  | kindlingWave
  | chaseLit (n : ChaseId) (results : List CoreResult)
  | fabricDrained (i : Nat)
  | retestDone (i : Nat) (results : List CoreResult)
  | reloadDone (i : Nat)
  | kprVoteMinority (g : GroupId) (core : Fin 3)
  | kprVoteSplit (g : GroupId)
  | keeperRebuilt (g : GroupId)
  | streamMinute
  | stkFailed (n : StackId) (cause : Nat)
  | stackRetrain (n : StackId) (ok : Bool)
  | stkRebuilt (n : StackId)
  | stackWriteAck (o : StackAck)
  | hstLinkDown (h : PortId)
  | slotDigestCheck (slot : Nat) (ok : Bool)
  | slotScrubDone (slot : Nat)
  | keeperBooted (g : GroupId)
  | stackTrained (n : StackId) (profileMajor profileMinor : Nat) (identity : Nat)
  | hostLinkUp (h : PortId) (width speed : Nat) (cxl : Bool)
  deriving DecidableEq, Repr

end Sys2Proof
end

