-- ==== Sys2Proof/Config.lean ====
section
/-! DEFINITION. What an implementation fixes and what the spec leaves free. Every constant here is
opaque: nothing can evaluate it, so a statement about it holds for every value (log entry 2). -/

namespace Sys2Proof.Config

/-- The free value number `n` (log entry 2): used where the spec states no result and the
machine goes on. The counter of `State.free` supplies `n`. -/
opaque freeValue : Nat → Nat

/-- A result the spec does not state, as a function of the operation's code and operands
(log entry 2), for example an operation on operands for which no rule states a value. -/
opaque freeResult : Nat → List Nat → Nat

/-- The private half of the usage key (R551): it never leaves the lamp domain (log entry 109). -/
opaque usageKey : Nat

/-- The nonce of an ECDSA signature over a digest (R341): the spec leaves it open (log entry 109). -/
opaque signNonce : List Byte → Nat

/-- The verdict of a schedule check of R206 whose operand encoding the spec does not give
(FORME_ALLOC, FORME_BANK, FORME_DESC, FORME_MARGIN, FORME_GATE by schedule, FORME_HINT,
FORME_RETAIN, FORME_DATA, FORME_LENS): the check's number and the image (log entry 12). `true` is a breach. -/
opaque scheduleBreach : Nat → List Byte → Bool

/-- The vocabulary V of a forme (R343, F_VOCAB): no field of the image that the spec lays out
states it (log entry 13). -/
opaque vocabulary : List Byte → Nat

/-- Keeper and lamp firmware versions (R544, R553): no value is given. -/
opaque firmwareVersion : Nat → Nat

/-- The verdict of IMPOSE_LANE (R144, R206) on an image and, for each part, the send cycle and the landing cycle of each
transfer as imposition chose them: the cycles at which programs write send slots and read receive slots stand in operands
of which the spec does not say which function has which (log entry 12). -/
opaque laneBreach : List Byte → List (List (Nat × Nat)) → Bool

/-- The bytes of store words that change in a lamp cycle (R101 to R106), by lamp time: store word, byte position and
difference. The spec says that such errors occur, not when (log entry 81). -/
opaque upsets : Nat → List (Nat × Nat × Nat)

/-- The bytes of stack-tier words that change in a lamp cycle (R511), as `upsets` gives those of the stores (log entry 81). -/
opaque stackUpsets : Nat → List (Nat × Nat × Nat)

/-- The file rows whose bytes lose their parity in a lamp cycle (R376), by lamp time: core number, unit of R193, and file
slot. The spec says that such errors occur, not when (log entry 88). -/
opaque parityUpsets : Nat → List (Nat × Nat × Nat)

/-- A row of a stationary N4 tensor, its codes and its block scales (R188, R236, R257, R266), by image, layer, tensor and
row: where a tensor's elements stand in the WEIGHTS section, and a variant's router rows in its image, is not given (log
entry 85). -/
opaque tensorRow : List Byte → Nat → Nat → Nat → List Byte × List Byte

end Sys2Proof.Config
end

