-- ==== Sys2Proof/Machine/Numeric.lean ====
section
/-! DEFINITION. Number formats (R42 to R49), exact values, and the conversions that round once
(R73 to R78). Exact values are rational numbers; a rounding function returns bits. -/

namespace Sys2Proof.Machine

/-- 2 to an integer power, exactly. -/
def pow2 (k : Int) : Rat := if 0 ≤ k then ((2 ^ k.toNat : Nat) : Rat) else 1 / ((2 ^ (-k).toNat : Nat) : Rat)

/-- The floor of log2 of a positive rational. -/
def floorLog2 (q : Rat) : Int :=
  let e : Int := (Nat.log2 q.num.natAbs : Int) - (Nat.log2 q.den : Int)
  if pow2 e ≤ q then e else e - 1

/-- Nearest natural number to a rational that is not negative, ties to even (R75). -/
def nearestNat (q : Rat) : Nat :=
  let n := q.num.natAbs / q.den
  let r := 2 * (q.num.natAbs % q.den)
  if r < q.den then n else if q.den < r then n + 1 else if n % 2 = 0 then n else n + 1

/-- A binary format's figures: exponent bits, mantissa bits, bias (R42). -/
structure FloatShape where
  ebits : Nat
  mbits : Nat
  bias : Nat
  deriving DecidableEq, Repr

def FloatShape.f32 : FloatShape := ⟨8, 23, 127⟩
def FloatShape.b16 : FloatShape := ⟨8, 7, 127⟩
def FloatShape.f8 : FloatShape := ⟨4, 3, 7⟩
def FloatShape.f8w : FloatShape := ⟨5, 2, 15⟩

/-- A decoded number: NaN, an infinity, or a finite value with the sign kept for zero. -/
inductive FVal where
  | nan
  | inf (neg : Bool)
  | fin (neg : Bool) (q : Rat)
  deriving DecidableEq, Repr

/-- The exponent of the last place of the subnormals. -/
def FloatShape.kmin (s : FloatShape) : Int := 1 - (s.bias : Int) - (s.mbits : Int)

/-- The code of +∞ in an IEEE format. -/
def FloatShape.infCode (s : FloatShape) : Nat := (2 ^ s.ebits - 1) * 2 ^ s.mbits

/-- The sign bit of a format. -/
def FloatShape.signBit (s : FloatShape) : Nat := 2 ^ (s.ebits + s.mbits)

/-- The magnitude code nearest to a positive value, without a limit above: codes run on in
ascending order, so a carry into the exponent needs no case of its own. -/
def FloatShape.magCode (s : FloatShape) (q : Rat) : Nat :=
  if q ≤ 0 then 0 else
  let k := Max.max (floorLog2 q - (s.mbits : Int)) s.kmin
  let m := nearestNat (q / pow2 k)
  if m < 2 ^ s.mbits then m else (k - s.kmin + 1).toNat * 2 ^ s.mbits + (m - 2 ^ s.mbits)

/-- IEEE decoding (R47, R48). -/
def FloatShape.decodeIeee (s : FloatShape) (bits : Nat) : FVal :=
  let neg := decide (bits / s.signBit % 2 = 1)
  let e := bits / 2 ^ s.mbits % 2 ^ s.ebits
  let m := bits % 2 ^ s.mbits
  if e = 2 ^ s.ebits - 1 then (if m = 0 then .inf neg else .nan)
  else
    let mag : Rat := if e = 0 then (m : Rat) * pow2 s.kmin
      else ((2 ^ s.mbits + m : Nat) : Rat) * pow2 (s.kmin + (e : Int) - 1)
    .fin neg (if neg then -mag else mag)

/-- The canonical NaN of each format (R48, R76, R47). -/
def FloatShape.canonicalNan (s : FloatShape) : Nat :=
  if s = .f8 then 0x7F else s.infCode + 2 ^ (s.mbits - 1)

/-- Rounding to an IEEE format, nearest, ties to even, overflow to infinity (R75); `negZero` is
the sign that a zero result takes. -/
def FloatShape.roundIeee (s : FloatShape) (negZero : Bool) (q : Rat) : Nat :=
  let neg := if q = 0 then negZero else decide (q < 0)
  let mag := Nat.min (s.magCode |q|) s.infCode
  mag + if neg then s.signBit else 0

/-- Rounding to F8, nearest, ties to even, saturating at 448 (R76). -/
def roundF8 (negZero : Bool) (q : Rat) : Nat :=
  let neg := if q = 0 then negZero else decide (q < 0)
  Nat.min (FloatShape.f8.magCode |q|) 0x7E + if neg then 0x80 else 0

/-- F8 decoding: no infinities, 0x7F and 0xFF are NaN (R46). -/
def decodeF8 (bits : Nat) : FVal :=
  let neg := decide (bits / 128 % 2 = 1)
  let e := bits / 8 % 16
  let m := bits % 8
  if e = 15 ∧ m = 7 then .nan
  else
    let mag : Rat := if e = 0 then (m : Rat) * pow2 FloatShape.f8.kmin
      else ((8 + m : Nat) : Rat) * pow2 (FloatShape.f8.kmin + (e : Int) - 1)
    .fin neg (if neg then -mag else mag)

/-- The bits of a value in an IEEE format. -/
def FloatShape.encode (s : FloatShape) : FVal → Nat
  | .nan => s.canonicalNan
  | .inf neg => s.infCode + if neg then s.signBit else 0
  | .fin neg q => s.roundIeee neg q

/-- The bits of a value in F8 (R76): a NaN is 0x7F, an infinity saturates. -/
def encodeF8 : FVal → Nat
  | .nan => 0x7F
  | .inf neg => 0x7E + if neg then 0x80 else 0
  | .fin neg q => roundF8 neg q

/-- The shape of a vector-unit floating format. -/
def vshape : VFmt → FloatShape
  | .b16 => .b16
  | _ => .f32

def f32 (bits : Nat) : FVal := FloatShape.f32.decodeIeee bits
def b16 (bits : Nat) : FVal := FloatShape.b16.decodeIeee bits

/-- N4 code to its value (R43). Code 0x8 is zero. -/
def n4Value (c : Nat) : Rat :=
  let mag : Rat := match c % 8 with
    | 0 => 0 | 1 => 1 / 2 | 2 => 1 | 3 => 3 / 2 | 4 => 2 | 5 => 3 | 6 => 4 | _ => 6
  if c % 16 / 8 = 1 then -mag else mag

/-- I4 code to its value (R44). -/
def i4Value (c : Nat) : Int := if c % 16 < 8 then (c % 16 : Nat) else ((c % 16 : Nat) : Int) - 16

/-- T2 code to its value (R45): the press decodes 0b10 as zero. -/
def t2Value (c : Nat) : Int := match c % 4 with
  | 1 => 1
  | 3 => -1
  | _ => 0

/-- S8 scale, or none for the zero-block mark (R49). -/
def s8Exp (c : Nat) : Option Int := if c % 256 = 0xFF then none else some ((c % 256 : Nat) - 127)

/-! ### Arithmetic of the vector unit (R117, R119) -/

def FVal.neg : FVal → FVal
  | .nan => .nan
  | .inf n => .inf !n
  | .fin n q => .fin (!n) (-q)

def FVal.abs : FVal → FVal
  | .nan => .nan
  | .inf _ => .inf false
  | .fin _ q => .fin false |q|

/-- The exact sum, with IEEE's rules for infinities and the sign of zero (R48). -/
def FVal.add : FVal → FVal → FVal
  | .nan, _ => .nan
  | _, .nan => .nan
  | .inf a, .inf b => if a = b then .inf a else .nan
  | .inf a, .fin _ _ => .inf a
  | .fin _ _, .inf b => .inf b
  | .fin na a, .fin nb b => .fin (if a + b = 0 then na && nb else decide (a + b < 0)) (a + b)

/-- The exact product (R48). -/
def FVal.mul : FVal → FVal → FVal
  | .nan, _ => .nan
  | _, .nan => .nan
  | .inf a, .inf b => .inf (a != b)
  | .inf a, .fin nb b => if b = 0 then .nan else .inf (a != nb)
  | .fin na a, .inf b => if a = 0 then .nan else .inf (na != b)
  | .fin na a, .fin nb b => .fin (na != nb) (a * b)

def FVal.sub (a b : FVal) : FVal := a.add b.neg

/-- a × b + c, formed exactly (R117: fused, one rounding). -/
def FVal.fma (a b c : FVal) : FVal := (a.mul b).add c

/-- Order with −0 below +0 (log entry 14): negative infinity first. `none` for a NaN. -/
def FVal.lt : FVal → FVal → Bool
  | .nan, _ => false
  | _, .nan => false
  | .inf a, .inf b => a && !b
  | .inf a, .fin _ _ => a
  | .fin _ _, .inf b => !b
  | .fin na a, .fin nb b => decide (a < b) || (decide (a = b) && na && !nb)

/-- The comparison of numbers: −0 equals +0, NaN is unordered (IEEE, R48). -/
def FVal.le : FVal → FVal → Bool
  | .nan, _ => false
  | _, .nan => false
  | .inf a, .inf b => a || !b
  | .inf a, .fin _ _ => a
  | .fin _ _, .inf b => !b
  | .fin _ a, .fin _ b => decide (a ≤ b)

def FVal.eqv (a b : FVal) : Bool := a.le b && b.le a

def FVal.min (a b : FVal) : FVal :=
  match a, b with
  | .nan, _ => .nan
  | _, .nan => .nan
  | _, _ => if b.lt a then b else a

def FVal.max (a b : FVal) : FVal :=
  match a, b with
  | .nan, _ => .nan
  | _, .nan => .nan
  | _, _ => if a.lt b then b else a

/-- The floor of the square root of a natural number by bisection over `fuel` bits. -/
def isqrtAux (n : Nat) : Nat → Nat → Nat
  | 0, r => r
  | b + 1, r => if (r + 2 ^ b) * (r + 2 ^ b) ≤ n then isqrtAux n b (r + 2 ^ b) else isqrtAux n b r

def isqrt (n : Nat) : Nat := isqrtAux n (Nat.log2 n / 2 + 1) 0

/-- A rational that rounds as the square root of `q` does in any format of at most 24 significant
bits: the root to 64 bits below its leading bit, with a sticky half unit when it is not exact. -/
def sqrtSticky (q : Rat) : Rat :=
  if q ≤ 0 then 0 else
  let sh : Int := 64 - floorLog2 q / 2
  let n := (q * pow2 (2 * sh)).num.natAbs / (q * pow2 (2 * sh)).den
  let r := isqrt n
  (((r : Nat) : Rat) + (if ((r * r : Nat) : Rat) = q * pow2 (2 * sh) then 0 else 1 / 2)) * pow2 (-sh)

/-- sqrt (R117; IEEE for the signs of zero and for infinity, R48). -/
def FVal.sqrt : FVal → FVal
  | .nan => .nan
  | .inf n => if n then .nan else .inf false
  | .fin n q => if q = 0 then .fin n 0 else if q < 0 then .nan else .fin false (sqrtSticky q)

/-- rsqrt (R117, R119): +0 gives +∞, a negative number NaN, −0 gives −∞ (IEEE, log entry 14). -/
def FVal.rsqrt : FVal → FVal
  | .nan => .nan
  | .inf n => if n then .nan else .fin false 0
  | .fin n q => if q = 0 then .inf n else if q < 0 then .nan else .fin false (sqrtSticky (1 / q))

/-- rcp (R117; IEEE for zero and infinity, R48). -/
def FVal.rcp : FVal → FVal
  | .nan => .nan
  | .inf n => .fin n 0
  | .fin n q => if q = 0 then .inf n else .fin n (1 / q)

/-! ### Quantisation (R77, R78) -/

/-- The N4 magnitude code nearest to a magnitude, ties to mantissa 0 (R78). -/
def n4MagCode (y : Rat) : Nat :=
  if y ≤ 1 / 4 then 0 else if y < 3 / 4 then 1 else if y ≤ 5 / 4 then 2
  else if y < 7 / 4 then 3 else if y ≤ 5 / 2 then 4 else if y < 7 / 2 then 5
  else if y ≤ 5 then 6 else 7

/-- n4_nearest (R78): the device never writes 0x8 (R43). -/
def n4Nearest (y : Rat) : Nat :=
  let c := n4MagCode |y|
  if c = 0 then 0 else if y < 0 then c + 8 else c

/-- i4_nearest (R78): nearest integer, ties to even, clamped to −8 to +7. -/
def i4Nearest (y : Rat) : Nat :=
  let m := nearestNat |y|
  if y < 0 then (16 - Nat.min m 8) % 16 else Nat.min m 7

/-- One quantised block: its S8 scale code and its 32 codes; `nan` reports NUM_NAN. -/
structure QBlock where
  scale : Nat
  codes : List Nat
  nan : Bool
  deriving DecidableEq, Repr

/-- The exact value of a finite number. -/
def FVal.rat : FVal → Rat
  | .fin _ q => q
  | _ => 0

def FVal.isFinite : FVal → Bool
  | .fin _ _ => true
  | _ => false

def zeroBlock (n : Nat) (nan : Bool) : QBlock := ⟨0xFF, List.replicate n 0, nan⟩

/-- Quantisation of one block to N4 or I4 (R77). -/
def quantiseBlock (toI4 : Bool) (xs : List FVal) : QBlock :=
  if xs.any (fun x => !x.isFinite) then zeroBlock xs.length true else
  let m := xs.foldl (fun m x => Max.max m |x.rat|) 0
  if m = 0 then zeroBlock xs.length false else
  let e := floorLog2 m - 2
  if e < -127 then zeroBlock xs.length false else
  let e := Min.min e 127
  ⟨(e + 127).toNat, xs.map (fun x => (if toI4 then i4Nearest else n4Nearest) (x.rat / pow2 e)), false⟩

/-! ### Dynamic outliers (R84) -/

/-- Whether element x of a finite block is a dynamic outlier at threshold t (0 is off). -/
def isOutlier (t : Rat) (xs : List Rat) (x : Rat) : Bool :=
  t ≠ 0 && decide (t * t * (xs.foldl (fun s y => s + y * y) 0) < 32 * (x * x))

end Sys2Proof.Machine
end

