-- ==== Sys2Proof/Machine/Hash.lean ====
section
/-! DEFINITION. The published codes the spec names: Philox-4×32-10 (R81, R323), SHA-384 (R185, R333,
R346), ECDSA P-384 (R186), CRC-32C (R501) and the Reed–Solomon check bytes of a store word (R101). -/

namespace Sys2Proof.Machine

/-! ### Philox-4×32-10 -/

structure Philox where
  x0 : Nat
  x1 : Nat
  x2 : Nat
  x3 : Nat
  deriving DecidableEq, Repr

def philoxRounds : Nat → Nat → Nat → Philox → Philox
  | 0, _, _, c => c
  | n + 1, k0, k1, c =>
    let p0 := 0xD2511F53 * c.x0
    let p1 := 0xCD9E8D57 * c.x2
    philoxRounds n ((k0 + 0x9E3779B9) % 2 ^ 32) ((k1 + 0xBB67AE85) % 2 ^ 32)
      ⟨(p1 / 2 ^ 32) ^^^ c.x1 ^^^ k0, p1 % 2 ^ 32, (p0 / 2 ^ 32) ^^^ c.x3 ^^^ k1, p0 % 2 ^ 32⟩

/-- Philox-4×32-10 of a 64-bit key and a counter. -/
def philox (key : Nat) (c : Philox) : Philox :=
  philoxRounds 10 (key % 2 ^ 32) (key / 2 ^ 32 % 2 ^ 32)
    ⟨c.x0 % 2 ^ 32, c.x1 % 2 ^ 32, c.x2 % 2 ^ 32, c.x3 % 2 ^ 32⟩

/-- The sampler's draw for position p (R323), an exact F32 value. -/
def philoxU (seed p : Nat) : Rat :=
  (((philox seed ⟨p, 0, 0, 0x534D504C⟩).x0 / 2 ^ 8 : Nat) : Rat) * pow2 (-24)

/-- The lens sign of element i at site r of layer L (R81): true for −1. -/
def lensSign (seed i layer site : Nat) : Bool :=
  let x := philox seed ⟨i / 128, layer, site, 0x4C454E53⟩
  Nat.testBit (x.x0 + 2 ^ 32 * x.x1 + 2 ^ 64 * x.x2 + 2 ^ 96 * x.x3) (i % 128)

/-! ### SHA-384 -/

def isPrime (n : Nat) : Bool := 2 ≤ n && (List.range n).all (fun d => d < 2 || n % d != 0)

def primes80 : List Nat := (List.range 410).filter isPrime

/-- The floor of the cube root by bisection. -/
def icbrtAux (n : Nat) : Nat → Nat → Nat
  | 0, r => r
  | b + 1, r => if (r + 2 ^ b) ^ 3 ≤ n then icbrtAux n b (r + 2 ^ b) else icbrtAux n b r

/-- Round constants: the first 64 fractional bits of the cube roots of the first 80 primes. -/
def shaK : List Nat := primes80.map (fun p => icbrtAux (p * 2 ^ 192) 70 0 % 2 ^ 64)

/-- Initial value: the fractional bits of the square roots of the 9th to 16th primes. -/
def shaInit : List Nat := ((primes80.drop 8).take 8).map (fun p => isqrtAux (p * 2 ^ 128) 70 0 % 2 ^ 64)

def rotr64 (x n : Nat) : Nat := (x / 2 ^ n) ||| (x * 2 ^ (64 - n) % 2 ^ 64)
def not64 (x : Nat) : Nat := 2 ^ 64 - 1 - x

def shaSchedule : Nat → List Nat → List Nat
  | 0, w => w
  | n + 1, w =>
    -- w is held latest first
    let s0 := let x := w.getD 14 0; rotr64 x 1 ^^^ rotr64 x 8 ^^^ (x / 2 ^ 7)
    let s1 := let x := w.getD 1 0; rotr64 x 19 ^^^ rotr64 x 61 ^^^ (x / 2 ^ 6)
    shaSchedule n (((w.getD 15 0 + s0 + w.getD 6 0 + s1) % 2 ^ 64) :: w)

def shaRound (h : List Nat) (kw : Nat × Nat) : List Nat :=
  match h with
  | [a, b, c, d, e, f, g, hh] =>
    let s1 := rotr64 e 14 ^^^ rotr64 e 18 ^^^ rotr64 e 41
    let ch := (e &&& f) ^^^ (not64 e &&& g)
    let t1 := hh + s1 + ch + kw.1 + kw.2
    let s0 := rotr64 a 28 ^^^ rotr64 a 34 ^^^ rotr64 a 39
    let mj := (a &&& b) ^^^ (a &&& c) ^^^ (b &&& c)
    [(t1 + s0 + mj) % 2 ^ 64, a, b, c, (d + t1) % 2 ^ 64, e, f, g]
  | h => h

/-- Big-endian number of a byte list. -/
def beNat (bs : List Byte) : Nat := bs.foldl (fun n b => n * 256 + b.toNat) 0
/-- Little-endian number of a byte list. -/
def leNat (bs : List Byte) : Nat := bs.foldr (fun b n => b.toNat + 256 * n) 0
/-- The low `n` bytes of a number, least significant first. -/
def leBytes : Nat → Nat → List Byte
  | 0, _ => []
  | n + 1, v => BitVec.ofNat 8 v :: leBytes n (v / 256)
def beBytes (n v : Nat) : List Byte := (leBytes n v).reverse
/-- The slice of `n` bytes from `off`, with zeros beyond the end. -/
def slice (bs : List Byte) (off n : Nat) : List Byte :=
  let x := (bs.drop off).take n
  x ++ List.replicate (n - x.length) 0
def leAt (bs : List Byte) (off n : Nat) : Nat := leNat (slice bs off n)

def shaBlocks : Nat → List Byte → List Nat → List Nat
  | 0, _, h => h
  | n + 1, bs, h =>
    let w := (List.range 16).map (fun i => beNat (slice bs (8 * i) 8))
    let ws := (shaSchedule 64 w.reverse).reverse
    let h' := ((shaK.zip ws).foldl shaRound h)
    shaBlocks n (bs.drop 128) (List.zipWith (fun a b => (a + b) % 2 ^ 64) h h')

/-- SHA-384 of a message of bytes. -/
def sha384 (m : List Byte) : List Byte :=
  let z := (239 - m.length % 128) % 128
  let padded := m ++ [0x80] ++ List.replicate z 0 ++ beBytes 16 (8 * m.length)
  (((shaBlocks (padded.length / 128) padded shaInit).take 6).map (beBytes 8)).flatten

/-! ### ECDSA P-384 -/

def p384P : Nat := 2 ^ 384 - 2 ^ 128 - 2 ^ 96 + 2 ^ 32 - 1
def p384N : Nat :=
  0xFFFFFFFFFFFFFFFFFFFFFFFFFFFFFFFFFFFFFFFFFFFFFFFFC7634D81F4372DDF581A0DB248B0A77AECEC196ACCC52973
def p384G : Nat × Nat :=
  (0xAA87CA22BE8B05378EB1C71EF320AD746E1D3B628BA79B9859F741E082542A385502F25DBF55296C3A545E3872760AB7,
   0x3617DE4A96262C6F5D9E98BF9292DC29F8F41DBD289A147CE9DA3113B5F0B8C00A60B1CE1D7E819D7A431D7C90EA0E5F)

/-- a^e mod m over the low `n` bits of e. -/
def powMod (a e m : Nat) : Nat → Nat
  | 0 => 1 % m
  | n + 1 =>
    let r := powMod a (e / 2) m n
    if e % 2 = 1 then r * r % m * a % m else r * r % m

def invMod (a m : Nat) : Nat := powMod a (m - 2) m 384

/-- Affine addition on P-384; none is the point at infinity. -/
def ecAdd : Option (Nat × Nat) → Option (Nat × Nat) → Option (Nat × Nat)
  | none, b => b
  | a, none => a
  | some (x1, y1), some (x2, y2) =>
    if x1 = x2 ∧ (y1 + y2) % p384P = 0 then none
    else
      let l := if x1 = x2 then (3 * x1 * x1 + 3 * (p384P - 1)) * invMod (2 * y1 % p384P) p384P % p384P
        else (y2 + p384P - y1) * invMod ((x2 + p384P - x1) % p384P) p384P % p384P
      let x3 := (l * l + 2 * p384P - x1 - x2) % p384P
      some (x3, (l * (x1 + p384P - x3) + p384P - y1) % p384P)

def ecMul (k : Nat) (q : Option (Nat × Nat)) : Nat → Option (Nat × Nat)
  | 0 => none
  | n + 1 =>
    let h := ecMul (k / 2) q n
    let d := ecAdd h h
    if k % 2 = 1 then ecAdd d q else d

/-- ECDSA P-384 verification over a digest (R186). -/
def ecdsaVerify (key : Nat × Nat) (digest : List Byte) (r s : Nat) : Bool :=
  if r = 0 ∨ s = 0 ∨ p384N ≤ r ∨ p384N ≤ s then false
  else
    let w := invMod s p384N
    match ecAdd (ecMul (beNat digest * w % p384N) (some p384G) 384) (ecMul (r * w % p384N) (some key) 384) with
    | none => false
    | some (x, _) => x % p384N == r

/-- ECDSA P-384 signature over a digest with private key `d` and nonce `k`: r, then s (R341). -/
def ecdsaSign (d k : Nat) (digest : List Byte) : Nat × Nat :=
  let r := match ecMul (k % p384N) (some p384G) 384 with
    | some (x, _) => x % p384N
    | none => 0
  (r, invMod (k % p384N) p384N * (beNat digest + r * d) % p384N)

/-! ### CRC-32C and Reed–Solomon -/

def crcBits : Nat → Nat → Nat
  | 0, c => c
  | n + 1, c => crcBits n (if c % 2 = 1 then (c / 2) ^^^ 0x82F63B78 else c / 2)

/-- CRC-32C (R501). -/
def crc32c (bs : List Byte) : Nat :=
  (bs.foldl (fun c b => crcBits 8 (c ^^^ b.toNat)) 0xFFFFFFFF) ^^^ 0xFFFFFFFF

/-- Multiplication in GF(2^8) with x^8 + x^4 + x^3 + x^2 + 1 (R101). -/
def gfMulAux : Nat → Nat → Nat → Nat
  | 0, _, _ => 0
  | n + 1, a, b =>
    let a2 := if a < 128 then 2 * a else (2 * a) ^^^ 0x11D
    (if b % 2 = 1 then a else 0) ^^^ gfMulAux n a2 (b / 2)

def gfMul (a b : Nat) : Nat := gfMulAux 8 a b

/-- The coefficients of g(x) below x^4, from x^3 down (R101). -/
def rsGen : List Nat :=
  let mulRoot := fun (r : Nat) (g : List Nat) =>
    List.zipWith (fun a b => a ^^^ b) (g ++ [0]) (0 :: g.map (gfMul r))
  (mulRoot 8 (mulRoot 4 (mulRoot 2 (mulRoot 1 [1])))).tail

/-- One step of the division: the remainder's four bytes, from x^3 down. -/
def rsStep (rem : List Nat) (d : Nat) : List Nat :=
  let f := (rem.getD 0 0) ^^^ d
  List.zipWith (fun a b => a ^^^ b) (rem.tail ++ [0]) (rsGen.map (gfMul f))

/-- The four check bytes of a 64-byte word (R101): check byte j is the coefficient of x^(3−j). -/
def rsCheck (word : List Byte) : List Byte :=
  ((word.map BitVec.toNat).foldl rsStep [0, 0, 0, 0]).map (BitVec.ofNat 8)

end Sys2Proof.Machine
end

