-- ==== Sys2Proof/Machine/Exact.lean ====
section
/-! DEFINITION. The exact sum: terms, the 176-bit long accumulator, window overflow and closing
(R55 to R76), the press's element layouts (R51 to R54, R113 to R115), and the sampler (R322). -/

namespace Sys2Proof.Machine

/-- A long accumulator (R59, R68). `operands` are the exact terms of the open reduction, which the
forme keeps resident until the output tensor closes (R71, R72); `partials` and `partTerms` count the
long partials that an owner has added and their terms (R69). -/
structure Acc where
  acc : Int
  anchor : Int
  termOvf : Bool
  trunc : Bool
  nan : Bool
  poison : Bool
  recomputes : Nat
  terms : Nat
  element : Nat
  partials : Nat
  partTerms : Nat
  operands : List Rat
  deriving DecidableEq, Repr

def Acc.empty (anchor : Int) (element : Nat) : Acc :=
  ⟨0, anchor, false, false, false, false, 0, 0, element, 0, 0, []⟩

/-- Signed reading of an n-bit field. -/
def signed (n v : Nat) : Int := if v % 2 ^ n < 2 ^ (n - 1) then ((v % 2 ^ n : Nat) : Int) else ((v % 2 ^ n : Nat) : Int) - 2 ^ n

/-- A sum in the 176 bits of the long accumulator (R59). -/
def wrap176 (i : Int) : Int := signed 176 (i % 2 ^ 176).toNat

/-- Truncation toward zero (R61). -/
def truncInt (q : Rat) : Int := if 0 ≤ q then q.floor else -(-q).floor

/-- A term in the accumulator's unit at anchor A (R61): value ÷ 2^(A − 96), truncated. -/
def termInt (anchor : Int) (t : Rat) : Int := truncInt (t * pow2 (96 - anchor))

/-- The window's limit for a term (R64). -/
def windowLimit : Int := 2 ^ 159

/-- Adds one exact term (R59, R61, R62, R64). A term of 2^159 units or more marks the overflow, and what of it
the 176 bits do not hold is dropped (log entry 68), in one core and in several alike. -/
def Acc.addTerm (a : Acc) (t : Rat) : Acc :=
  let i := termInt a.anchor t
  { a with
    acc := wrap176 (a.acc + i)
    termOvf := a.termOvf || decide (windowLimit ≤ |i|)
    trunc := a.trunc || decide ((i : Rat) ≠ t * pow2 (96 - a.anchor))
    operands := t :: a.operands }

/-- The element formed again from all its terms at another anchor (R65). -/
def Acc.reform (a : Acc) (anchor : Int) : Acc :=
  (a.operands.foldr (fun t b => b.addTerm t)
    { a with acc := 0, anchor := anchor, termOvf := false, trunc := false, operands := [] })

/-- Window overflow (R64). -/
def Acc.overflows (a : Acc) : Bool :=
  a.termOvf || decide (a.acc < -windowLimit) || decide (windowLimit ≤ a.acc)

/-- Recomputes while the element overflows, at most three times (R65). -/
def Acc.settle : Nat → Acc → Acc
  | 0, a => a
  | n + 1, a =>
    if a.overflows then Acc.settle n { (a.reform (a.anchor + 32)) with recomputes := a.recomputes + 1 }
    else a

/-- The closed element: settled, and clamped when it still overflows (R66). -/
def Acc.closed (a : Acc) : Acc × Bool :=
  let b := a.settle (3 - a.recomputes)
  if b.overflows then
    ({ b with acc := Max.max (-windowLimit) (Min.min (windowLimit - 1) b.acc) }, true)
  else (b, false)

/-- The exact value of the sum. -/
def Acc.value (a : Acc) : Rat := (a.acc : Rat) * pow2 (a.anchor - 96)

/-- A B16 channel scale as an exact factor, 1 when absent (R74). -/
def scaleVal (c : Option Nat) : FVal :=
  match c with
  | none => .fin false 1
  | some b => b16 b

/-- V × c exactly, NaN where the mark is set (R74, R75). R74 gives a zero no sign: DESIGN CHOICE (log entry 71),
a zero sum counts as +0 and takes the sign of a negative channel scale. -/
def Acc.scaled (a : Acc) (c : Option Nat) : FVal :=
  if a.nan then .nan else (FVal.fin (decide (a.acc < 0)) a.value).mul (scaleVal c)

/-- The output bits of an unscaled format (R75, R76); CLOSE and CONVERT ask for B16, F32, F8 and F8W only. -/
def roundOut (fmt : Fmt) (x : FVal) : Nat :=
  match fmt with
  | .b16 => FloatShape.b16.encode x
  | .f32 => FloatShape.f32.encode x
  | .f8w => FloatShape.f8w.encode x
  | _ => encodeF8 x

def fmtBytes : Fmt → Nat
  | .b16 => 2
  | .f32 => 4
  | _ => 1

/-- The 32-byte long-partial record (R68): ACC in 176-bit two's complement. -/
def Acc.record (a : Acc) : List Byte :=
  leBytes 22 (a.acc % 2 ^ 176).toNat ++ leBytes 2 (a.anchor % 2 ^ 16).toNat ++
  leBytes 1 ((if a.termOvf then 1 else 0) + (if a.trunc then 2 else 0) + (if a.nan then 4 else 0)
    + 8 * (a.recomputes % 4)) ++
  leBytes 3 a.terms ++ leBytes 4 a.element

/-- A record read back (R68, R108). -/
def Acc.ofRecord (bs : List Byte) (operands : List Rat) : Acc :=
  let fl := leAt bs 24 1
  ⟨signed 176 (leAt bs 0 22), signed 16 (leAt bs 22 2), fl.testBit 0, fl.testBit 1, fl.testBit 2,
    false, fl / 8 % 4, leAt bs 25 3, leAt bs 28 4, 0, 0, operands⟩

/-! ### Elements of rows and blocks -/

/-- Four-bit code of element e of a packed run (R52). -/
def nibbleAt (bs : List Byte) (e : Nat) : Nat :=
  let b := (bs.getD (e / 2) 0).toNat
  if e % 2 = 0 then b % 16 else b / 16

/-- T2 code of element e (R52). -/
def t2At (bs : List Byte) (e : Nat) : Nat := (bs.getD (e / 4) 0).toNat / 4 ^ (e % 4) % 4

/-- Codes packed as four-bit elements (R52). -/
def packNibbles : List Nat → List Byte
  | a :: b :: rest => BitVec.ofNat 8 (a % 16 + 16 * (b % 16)) :: packNibbles rest
  | [a] => [BitVec.ofNat 8 (a % 16)]
  | [] => []

/-- The integer of a four-bit or T2 code in its own unit: halves for N4 (R56). -/
def codeInt (fmt : Fmt) (c : Nat) : Int :=
  match fmt with
  | .n4 => (n4Value c * 2).num
  | .i4 => i4Value c
  | _ => t2Value c

/-- The unit exponent a format brings to its pair (R56). -/
def codeQ : Fmt → Int
  | .n4 => 1
  | _ => 0

/-- An element on its way into a product: an exact value, or a NaN or infinity (R58), or an element
of a zero block, which forms no product (R115), or a position that 2:4 leaves out, whose product the press
does not form either (R63, R114): with a NaN or infinity it sets no mark (DEDUCED, log entry 91). -/
inductive Elem where
  | val (q : Rat)
  | bad
  | skip
  | out
  deriving DecidableEq, Repr

def elemOf : FVal → Elem
  | .fin _ q => .val q
  | _ => .bad

/-- The dense elements of a row, with the scale byte of each block (R49, R52, R113). -/
def rowElems (fmt : Fmt) (bytes scales : List Byte) : List Elem :=
  let scaled := fun (blk : Nat) (v : Rat) =>
    match s8Exp (scales.getD blk 0).toNat with
    | none => Elem.skip
    | some e => Elem.val (v * pow2 e)
  match fmt with
  | .n4 => (List.range (2 * bytes.length)).map (fun e => scaled (e / 32) (n4Value (nibbleAt bytes e)))
  | .i4 => (List.range (2 * bytes.length)).map (fun e => scaled (e / 32) ((i4Value (nibbleAt bytes e) : Int) : Rat))
  | .t2 => (List.range (4 * bytes.length)).map (fun e => scaled (e / 64) ((t2Value (t2At bytes e) : Int) : Rat))
  | .f8 => bytes.map (fun b => elemOf (decodeF8 b.toNat))
  | .f8w => bytes.map (fun b => elemOf (FloatShape.f8w.decodeIeee b.toNat))
  | .b16 => (List.range (bytes.length / 2)).map (fun i => elemOf (b16 (leAt bytes (2 * i) 2)))
  | .f32 => (List.range (bytes.length / 4)).map (fun i => elemOf (f32 (leAt bytes (4 * i) 4)))
  | .s8 => bytes.map (fun b => match s8Exp b.toNat with
      | none => .skip
      | some e => .val (pow2 e))

/-- The two positions a 2:4 pattern code keeps (R114); none for an invalid code. -/
def keptPair : Nat → Option (Nat × Nat)
  | 0 => some (0, 1)
  | 1 => some (0, 2)
  | 2 => some (0, 3)
  | 3 => some (1, 2)
  | 4 => some (1, 3)
  | 5 => some (2, 3)
  | _ => none

/-- A 2:4 row expanded to its dense positions (R113, R114): dropped positions and groups with an
invalid code form no products. The scales, 16 bytes, come first in the metadata, the pattern codes after. -/
def sparseElems (fmt : Fmt) (bytes meta_ : List Byte) : List Elem :=
  let groups := if fmt = .t2 then 256 else 128
  let per := if fmt = .t2 then 64 else 32
  (List.range groups).flatMap (fun g =>
    let code := nibbleAt (meta_.drop 16) g
    (List.range 4).map (fun pos =>
      match s8Exp (meta_.getD ((4 * g + pos) / per) 0).toNat with
      | none => Elem.skip
      | some e =>
        let at_ := fun k => (if fmt = .t2 then ((t2Value (t2At bytes (2 * g + k)) : Int) : Rat)
          else if fmt = .n4 then n4Value (nibbleAt bytes (2 * g + k))
          else ((i4Value (nibbleAt bytes (2 * g + k)) : Int) : Rat)) * pow2 e
        match keptPair code with
        | none => Elem.out
        | some (p, q) => if pos = p then .val (at_ 0) else if pos = q then .val (at_ 1) else .out))

/-- Formats of the four-bit lane (R55). -/
def isFourBit : Fmt → Bool
  | .n4 => true
  | .i4 => true
  | .t2 => true
  | _ => false

/-- What meeting elements give: the exact terms, whether a product has a NaN or infinite operand,
the term positions covered, and the blocks skipped. -/
structure Terms where
  terms : List Rat
  nan : Bool
  positions : Nat
  skips : Nat
  deriving DecidableEq, Repr

/-- One product (R57, R58). -/
def productTerm (x y : Elem) : Terms :=
  match x, y with
  | .skip, _ => ⟨[], false, 1, 0⟩
  | _, .skip => ⟨[], false, 1, 0⟩
  | .out, _ => ⟨[], false, 1, 0⟩
  | _, .out => ⟨[], false, 1, 0⟩
  | .val a, .val b => ⟨[a * b], false, 1, 0⟩
  | _, _ => ⟨[], true, 1, 0⟩

def Terms.append (a b : Terms) : Terms := ⟨a.terms ++ b.terms, a.nan || b.nan, a.positions + b.positions, a.skips + b.skips⟩

/-- One block of 32 products in the short adder (R56): one term, or a skip (R115). -/
def blockTerm (xs ys : List Elem) : Terms :=
  let ps := List.zipWith productTerm xs ys
  if (xs ++ ys).any (fun e => e == .skip) then ⟨[], false, 1, 1⟩
  else ⟨[(ps.flatMap Terms.terms).foldl (fun s t => s + t) 0], ps.any Terms.nan, 1, 0⟩

/-- Blocks of 32 (R56). -/
def blockTerms : Nat → List Elem → List Elem → Terms
  | 0, _, _ => ⟨[], false, 0, 0⟩
  | n + 1, xs, ys =>
    if xs.isEmpty || ys.isEmpty then ⟨[], false, 0, 0⟩
    else (blockTerm (xs.take 32) (ys.take 32)).append (blockTerms n (xs.drop 32) (ys.drop 32))

/-- The terms of a fed run meeting a held run (R55). -/
def meetTerms (fed held : Fmt) (xs ys : List Elem) : Terms :=
  if isFourBit fed && isFourBit held then blockTerms (xs.length / 32) xs ys
  else
    let t := (List.zipWith productTerm xs ys).foldl Terms.append ⟨[], false, 0, 0⟩
    { t with skips := (List.zipWith (fun x y => x == Elem.skip || y == Elem.skip) xs ys).countP id / 32 }

def Acc.addTerms (a : Acc) (t : Terms) : Acc :=
  let b := t.terms.foldl Acc.addTerm a
  { b with nan := b.nan || t.nan, terms := b.terms + t.positions }

/-- Pairs of formats the press accepts (R55): streamed, then stationary. -/
def pairAccepted (streamed stationary : Fmt) : Bool :=
  match streamed, stationary with
  | .n4, .n4 | .n4, .i4 | .n4, .t2 | .i4, .n4 | .i4, .i4 | .i4, .t2 => true
  | .f8, .n4 | .f8, .i4 | .f8, .t2 | .f8, .f8 => true
  | .b16, .n4 | .b16, .i4 | .b16, .t2 | .b16, .f8 | .b16, .b16 => true
  | _, _ => false

/-- Output formats of a reduction (R42, R47): T2 is for weights, S8 for scales, and the press writes no F8W. -/
def closable (f : Fmt) : Bool := f == .n4 || f == .i4 || f == .f8 || f == .b16 || f == .f32

/-- The stationary formats that meet dynamic outliers (R55). -/
def gatherable (f : Fmt) : Bool := pairAccepted .b16 f

/-- The exact sum of products from anchor A0 on, settled and clamped as a reduction is (R62, R65, R66), and whether it still
overflowed. -/
def exactClosed (fed held : Fmt) (anchor : Int) (xs ys : List Elem) : Acc × Bool :=
  ((Acc.empty anchor 0).addTerms (meetTerms fed held xs ys)).closed

/-- The exact sum alone. -/
def exactSum (fed held : Fmt) (anchor : Int) (xs ys : List Elem) : Acc := (exactClosed fed held anchor xs ys).1

/-- The elements of blocks `bs` of N4 codes and scales (R52). -/
def packedBlocks (codes scales : List Byte) (bs : List Nat) : List Elem :=
  bs.flatMap (fun b => rowElems .n4 (slice codes (16 * b) 16) (slice scales b 1))

end Sys2Proof.Machine
end

