-- ==== Sys2Proof/Machine/State.lean ====
section
/-! DEFINITION. The state of the block as plain data, its faults and refusals, and the state right
after reset. INVENTORY.md names the rule of each field. -/

namespace Sys2Proof.Machine

/-- Why a step stops with a fault. -/
inductive Fault where
  /-- Raised by a meaning whose operand has a size that no such command can have (a command record
  that is not 64 bytes, R289; a link frame that is not 336, R501). Safe: no hardware command has such an operand. -/
  | illFormed (mnemonic : String)
  deriving DecidableEq, Repr

/-- Why a command has no meaning. -/
inductive Refusal where
  /-- Raised by the dispatch for a command that has no meaning yet. Safe. -/
  | notModelled (mnemonic : String)
  deriving DecidableEq, Repr

/-- A byte-addressed memory: listed bytes by rising address, none of them zero; an unlisted byte
reads as zero (log entry 4). -/
abbrev Memory := List Host.Cell

/-- A row of a register or press file with its poison mark (R107, R116, R376). -/
structure Row where
  bytes : List Byte
  poison : Bool
  deriving DecidableEq, Repr

/-- The binding that a cold-slot program's descriptor is part of (R261): a slot of a layer, and its expert. -/
structure ColdBind where
  forme : Nat
  layer : Nat
  slot : Nat
  expert : Nat
  deriving DecidableEq, Repr

/-- The status of a completed descriptor (R126, R131, R135). -/
inductive DescStatus where
  | ok | zeroLength | badDescriptor | poison | targetOff | badAddress
  deriving DecidableEq, Repr

/-- A stream-engine descriptor (R124) in a core's queue, its place in issue order, the next flit to
send, the flits outstanding, its status so far, the cold slot that it fills, its place among port D's requests, and the layer and KV group whose summaries it brings (R243). -/
structure Desc where
  seq : Nat
  kind : Nat
  flags : Nat
  prefetcher : Nat
  depth : Nat
  length : Nat
  src : Nat
  dst : Nat
  srcStride : Nat
  dstStride : Nat
  rows : Nat
  dstScale : Nat
  stamp : Nat
  due : Nat
  tclass : Nat
  eventId : Nat
  tag : Nat
  next : Nat
  outstanding : List Nat
  status : DescStatus
  bind : Option ColdBind
  at_ : Nat
  sums : Option (Nat × Nat) := none
  deriving DecidableEq, Repr

/-- A remote write waiting in a write buffer (R132, R133), with its place in the order in which port D's requests came
(R97). -/
structure WBuf where
  addr : Nat
  data : List Byte
  counted : Bool
  poison : Bool
  src : CoreRef
  stamp : Nat
  at_ : Nat
  deriving DecidableEq, Repr

/-- The states of a gate entry (R161). -/
inductive GateState where
  | disarmed | armed | filling | complete | released
  deriving DecidableEq, Repr

/-- A gate entry (R159 to R162). -/
structure Gate where
  st : GateState
  req : Nat
  pos : Nat
  layer : Nat
  partLo : Nat
  partHi : Nat
  flits : Nat
  base : Nat
  stride : Nat
  landed : List Nat
  deriving DecidableEq, Repr

/-- A parked flit and the chase clock cycle it was parked in (R163). -/
structure Parked where
  flit : Flit
  since : Nat
  deriving DecidableEq, Repr

/-- A dynamic outlier (R84 to R86): site, element index, B16 value, and its poison mark (R377). -/
structure Outlier where
  site : Nat
  elem : Nat
  val : Nat
  poison : Bool
  deriving DecidableEq, Repr

/-- The dynamic outliers of a token in a layer, over all its cores (R85 to R87): by REQ, POS and LAYER, in
rising order of site and element; `ended` once detection has ended. -/
structure OutlierSet where
  req : Nat
  pos : Nat
  layer : Nat
  items : List Outlier
  ended : Bool
  deriving DecidableEq, Repr

/-- The press latch (R110): the fed row, its metadata, the further cycles it is kept, and whether a LATCH has
set them already. -/
structure Latch where
  row : Row
  meta_ : List Byte
  left : Nat
  kept : Bool
  deriving DecidableEq, Repr

/-- A contributor's accumulator that stays for a RE_ANCHOR (R70, R71): its reduction's stamp, its tensor and element, the
schedule cycle until which its operands are retained. -/
structure Retained where
  stamp : Nat
  tensor : Nat
  element : Nat
  until_ : Nat
  acc : Acc
  deriving DecidableEq, Repr

/-- Further recomputes of an element (R165): the cycle at which the one before ends, how many are left, and the
cycles of each. -/
structure Redo where
  at_ : Nat
  left : Nat
  len : Nat
  deriving DecidableEq, Repr

/-- A dynamic packet that a core has begun to send on a class (R154): its route word without EOP, its stamp,
the index of its next flit. -/
structure TxOpen where
  cls : Nat
  route : Nat
  stamp : Nat
  next : Nat
  deriving DecidableEq, Repr

/-- A loop that a core's sequencer is in (R194): the word and the schedule cycle, counted in the pass, at which the present
iteration began, the body's words and cycles, and the iterations left with this one. -/
structure LoopAt where
  word : Nat
  base : Nat
  words : Nat
  cycles : Nat
  left : Nat
  deriving DecidableEq, Repr

/-- A flit that reached its core, in order of arrival (R97). -/
structure Arrived where
  at_ : Nat
  flit : Flit
  deriving DecidableEq, Repr

/-- The state of one core (INVENTORY, "per core"). `holdFrom` and `holdTo` bound its hold in chase clock cycles
(R171). `retained` and `saved` are the operands that stay resident for a recompute (R71): of split elements,
and of saved accumulators by address. `parity` lists the file slots with bad parity by unit (R376, log entry 88): press rows and, from 32, side rows; vector
register rows; static send slots and, from 128, receive slots. `uses` are the use cycles of checked gate entries (R164); `fences` the
fences that wait; `inbox` the packets that reached the core and are not taken yet (R133, R163); `txWait` the packets that wait
for one of their class that the core is sending (R154). `arrived` counts port D's requests (R97). `op` is the next word of the core's program in its `pass` (R141, R192). -/
structure Core where
  lag : Nat
  holdFrom : Nat
  holdTo : Nat
  slipEnd : Nat
  redo : List Redo
  file : KMap Row
  side : KMap Row
  accs : KMap Acc
  retained : List Retained
  saved : List (Nat × Acc)
  latch : Option Latch
  gather : List Rat
  vregs : KMap Row
  descs : KMap Desc
  issued : Nat
  finished : List (Nat × DescStatus)
  flags : List Nat
  waiting : Option Nat
  wbuf : List WBuf
  gates : KMap Gate
  park : List Parked
  inbox : List Arrived
  arrived : Nat
  txOpen : List TxOpen
  txWait : List Flit
  sendFile : KMap Flit
  recvFile : KMap Flit
  parity : List (Nat × Nat)
  pass : Nat
  op : Nat
  loops : List LoopAt
  uses : List (Nat × Nat)
  fences : List (Nat × Nat × Nat)
  cntPress : Nat
  cntZeroSkip : Nat
  cntCorrOne : Nat
  cntCorrTwo : Nat
  cntPoison : Nat
  cntNarrowWait : Nat
  cntWbFull : Nat
  cntNack : Nat
  deriving DecidableEq, Repr

/-- A slip request of a chase (R165 to R168). `start` is the first frozen cycle; `stop` is the cycle
after the last, none while an open request's condition is unmet. -/
structure Slip where
  source : Nat
  core : Option CoreRef
  start : Nat
  stop : Option Nat
  what : Nat
  timedOut : Bool
  deriving DecidableEq, Repr

/-- A far bank of a chase that is not open (R431 to R433): closing or opening since a chase clock cycle, gated. -/
inductive BankState where
  | closing (since : Nat)
  | gated
  | opening (since : Nat)
  deriving DecidableEq, Repr

/-- The numeric event counts of one layer in one chase (R88). -/
structure NumCnt where
  recomputes : Nat
  exhausted : Nat
  passes : Nat
  tokens : Nat
  nans : Nat
  deriving DecidableEq, Repr

/-- A static-lane flit on its way (R142, R143): the chase time of its landing, its core and receive slot. -/
structure Lane where
  lands : Nat
  core : CoreRef
  slot : Nat
  flit : Flit
  deriving DecidableEq, Repr

/-- The state of one chase (INVENTORY, "per chase"). `rampAt` is the lamp time at which its core rail began to ramp (R429),
`vacatedAt` that at which a part last left it (R431). `freezeAt` and `thawAt` are the first frozen cycle of a freeze interval
and the end of one, as the regulator and shunt were given them last (R200). -/
structure Chase where
  clk : Nat
  time : Nat
  lanes : List Lane
  slips : List Slip
  run : Nat
  running : Bool
  transitOk : Bool
  pllOk : Bool
  banks : KMap BankState
  hints : List (Nat × Nat)
  hintLevel : Nat
  freezeAt : Option Nat
  thawAt : Option Nat
  limThermal : Nat
  limOc : Nat
  limBus : Nat
  limSense : Nat
  limNbr : Nat
  trim : Int
  waitSince : Option Nat
  railFaultAt : Option Nat
  rampAt : Nat
  vacatedAt : Nat
  hotMs : Nat
  coolMs : Nat
  parkedFor : Bool
  counts : KMap NumCnt
  deriving DecidableEq, Repr

/-- A flit in flight at a router input (R153 to R156), in order of arrival. `queued` while it stands before the
input's buffer, in the boundary's or the gateway's dual-clock queue or in the core that sends it; `since` is the chase
clock cycle of its arrival there, or since which it heads its class; `goal` the edge router that its source chose of a
rim endpoint's (R149). -/
structure FlitAt where
  router : RouterRef
  input : Nat
  flit : Flit
  queued : Bool
  since : Nat
  goal : Option (Int × Int) := none
  deriving DecidableEq, Repr

/-- A credit on its way back over a chase boundary (R156): the place at a router input that it stands for, and the sending
chase's clock cycle in which it arrives. -/
structure Credit where
  router : RouterRef
  input : Nat
  cls : Nat
  at_ : Nat
  deriving DecidableEq, Repr

/-- A flit in the dual-clock queue of a rim gateway (R37, R156), with the router that it left. -/
structure RimFlit where
  router : RouterRef
  flit : Flit
  deriving DecidableEq, Repr

/-- A packet whose head has passed a router (R154): its input and class, and the output that its flits take. -/
structure PacketAt where
  router : RouterRef
  input : Nat
  cls : Nat
  out : Nat
  deriving DecidableEq, Repr

/-- A fault record's fields but for SEQ and TIME (R381); `none` reads as all ones. `sent` tells that the EVENT packet of a
core's or router's item has entered the fabric (R150). -/
structure FaultItem where
  code : Nat
  hard : Bool
  replay : Bool
  stamp : Option Nat
  block : Option Nat
  chase : Option Nat
  row : Option Nat
  pcol : Option Nat
  lcol : Option Nat
  instr : Option Nat
  cycle : Option Nat
  x0 : Option Nat
  x1 : Option Nat
  x2 : Option Nat
  x3 : Option Nat
  sent : Bool := false
  deriving DecidableEq, Repr

/-- A logged fault record (R381). -/
structure FaultRec where
  item : FaultItem
  repeat_ : Bool
  seq : Nat
  time : Nat
  deriving DecidableEq, Repr

/-- The phases of a recovery (R390, R411). It is HALTING until every chase of its set is halted and
DRAINING from then on; both are `halting` here. -/
inductive RecPhase where
  | halting | retesting | reloading | replaying
  deriving DecidableEq, Repr

/-- A recovery in progress (R389, R390): its faulting chase, the recovery set, the fault items to
retest, its kind (R382), the chases whose whole self-test it awaits and those whose parts it places
again (R398), the cores to reload, the parts to fill again (forme, layer, part), and the
replayed streams by entry and stream order. -/
structure Recovery where
  phase : RecPhase
  chase : Nat
  chases : List Nat
  formes : List Nat
  items : List FaultItem
  since : Nat
  kind : Nat
  selfTest : List Nat
  move : List Nat
  cores : List Nat
  parts : List (Nat × Nat × Nat)
  replays : List (Nat × Nat)
  deriving DecidableEq, Repr

/-- Faults (10): items on their way, poison records whose words are not rewritten yet, log,
suppression marks, records seen (R381), recoveries, and the lamp time of the last re-imposition. -/
structure Faults where
  items : List FaultItem
  evidence : List FaultItem
  log : List FaultRec
  suppress : List (Nat × Nat × Nat)
  seen : List (Nat × Nat × Nat)
  recoveries : List Recovery
  lastReimpose : Option Nat
  deriving DecidableEq, Repr

/-- An errata map entry (R385); a column of 0x7F is none. `since` is the lamp time of its last soft fault or decay (R390). -/
structure Errata where
  posA : Nat
  posB : Nat
  aRouter : Bool
  bRouter : Bool
  aField : Bool
  bField : Bool
  suspect : Nat
  suspectCol : Nat
  since : Nat
  deriving DecidableEq, Repr

/-- An errata extension record in use (R386). -/
structure ErrataExt where
  chase : Nat
  row : Nat
  pos : Nat
  router : Bool
  field : Bool
  deriving DecidableEq, Repr

/-- The errata map and what is drawn from it (R385, R386, R21). -/
structure ErrataMap where
  entries : KMap Errata
  widths : KMap Nat
  ext : List ErrataExt
  shift : KMap (List Nat)
  deriving DecidableEq, Repr

/-- A response record owed to a ring (R294): its 32 bytes without PHASE, and the stream entry that
its writing frees. -/
structure Resp where
  bytes : List Byte
  frees : Option Nat
  deriving DecidableEq, Repr

/-- A submission queue (R289 to R295). `used` counts the response records not freed;
`blocked` marks a head command that waits for a stream entry or for ring space (R292, R294). -/
structure Queue where
  sqTail : Nat
  sqHead : Nat
  bells : List (Nat × Nat)
  rqHead : Nat
  rqTail : Nat
  used : Nat
  phase : Bool
  owed : List Resp
  blocked : Bool
  since : Nat
  sinceAt : Option Nat
  port : Nat
  deriving DecidableEq, Repr

/-- A step in flight (R285, R324). `parts` gives, by layer, the number n of participants that stands in the batch slot
(R229). -/
structure Step where
  count : Nat
  h : Nat
  guesses : List Nat
  depth : Nat
  launched : Nat
  parts : List (Nat × Nat)
  deriving DecidableEq, Repr

/-- A stream entry (R292, R396 and the rules of 08). `unmoored` says that its mooring was cleared while it was QUEUED (R315). -/
structure Stream where
  cmd : List Byte
  ext : List Byte
  mask : List Byte
  queue : Nat
  order : Nat
  state : Nat
  resume : Nat
  holdRing : Bool
  holdBarrier : Bool
  holdRecovery : Bool
  req : Option Nat
  vlen : Nat
  tlen : Nat
  tokens : List Nat
  start : Nat
  known : Nat
  delivered : Nat
  replayTo : Nat
  step : Option Step
  guesses : List Nat
  depth : Nat
  proofSteps : Nat
  accepts : List Bool
  reaches : List Bool
  slot : Nat
  period : Nat
  turn : Nat
  ident : List Byte
  gen : Nat
  variant : Option Nat
  overlays : List Nat
  crossed : Bool
  everCrossed : Bool
  prefixHit : Nat
  cancels : List (Nat × Nat)
  lastTime : Option Nat
  lastCount : Nat
  lastLogprobs : List Nat
  rqNext : Nat
  lastRecs : List (Nat × List Byte)
  created : Bool
  lostState : Bool
  minuteFault : Bool
  unmoored : Bool := false
  deriving DecidableEq, Repr

/-- A CANCEL that waits for a GENERATE not yet fetched (R329). -/
structure Tombstone where
  target : Nat
  cid : Nat
  tail : Nat
  ahead : Nat
  from_ : Nat
  fromCid : Nat
  deriving DecidableEq, Repr

/-- A conversation (R337 to R339). `paused` says that it has paused, from when on its time to live runs (R339). -/
structure Conv where
  tenant : Nat
  handle : Nat
  forme : Nat
  tokens : List Nat
  vlen : Nat
  claimed : Option Nat
  held : Bool
  paused : Bool
  pausedAt : Nat
  ttl : Nat
  queue : Nat
  ident : List Byte
  variant : Option Nat
  overlays : List Nat
  deriving DecidableEq, Repr

/-- A mooring (R312 to R319). -/
structure Mooring where
  tenant : Nat
  forme : Nat
  streams : Nat
  rate : Nat
  itl : Nat
  period : Nat
  unmet : Bool
  cleared : Bool
  deriving DecidableEq, Repr

/-- Serving state of keeper group 0 (08). `answered` holds the CANCELs, by queue and CID, whose targets' terminal records have
been written and whose own completions follow (R330). -/
structure Serve where
  queues : KMap Queue
  streams : KMap Stream
  tombstones : List Tombstone
  convs : List Conv
  convTombs : List (Nat × Nat × Nat)
  convFifo : List Nat
  convWait : List (Nat × Nat)
  moorings : KMap Mooring
  order : Nat
  answered : List (Nat × Nat)
  deriving DecidableEq, Repr

/-- The states of a galley (R238). -/
inductive GalleyState where
  | composing | pending | resident | spilled | fetching | paused | host | free
  deriving DecidableEq, Repr

/-- Who a galley belongs to (R147, R246): a stream entry, a conversation, or the prefix tree. -/
inductive Owner where
  | stream (e : Nat)
  | conv (tenant handle : Nat)
  | tree
  deriving DecidableEq, Repr

/-- A node of the prefix tree (R333 to R336). -/
structure PrefixNode where
  key : List Byte
  parent : Option (List Byte)
  tokens : List Nat
  galleys : List Nat
  lastHit : Nat
  pub : Bool
  tenant : Nat
  forme : Nat
  block : Nat
  deriving DecidableEq, Repr

/-- A galley (R210 to R249). `length` counts its entries: 256, or fewer for a partial galley. `summary` is KEY and SCALES
of its page summary (R236), none before its flush; `flushed` its place in the order of flushes (R243); `late` the nodes
that enter the prefix tree when it is RESIDENT although its request has ended (R335). -/
structure Galley where
  owner : Owner
  forme : Nat
  layer : Nat
  group : Nat
  index : Nat
  st : GalleyState
  tenant : Nat
  pub : Bool
  t0 : Option Nat
  t1 : Option Nat
  t2 : Option Nat
  bytes : Nat
  length : Nat
  holders : List Nat
  tree : Nat
  req : Option Nat
  summary : List Byte := []
  flushed : Nat := 0
  late : List PrefixNode := []
  deriving DecidableEq, Repr

/-- A fetch slot of a stream's layer and group in one ATTENTION part (R242). -/
structure FetchSlot where
  stream : Nat
  part : Nat
  layer : Nat
  group : Nat
  galley : Nat
  deriving DecidableEq, Repr

/-- The candidates that page selection took for a token's query at a layer and KV group (R235, R237), by galley index. -/
structure Pick where
  stream : Nat
  layer : Nat
  group : Nat
  pos : Nat
  galleys : List Nat
  deriving DecidableEq, Repr

/-- Galleys, tiers and the prefix tree (06, 08). `flushes` counts flushes (R243), `picks` are the selections of the
passes in flight, `leafs` the galleys whose leaves have been sent in them (R244), `brought` the galleys whose summaries a
stream's descriptors have brought from T1 in its pass (R243). -/
structure Kv where
  galleys : KMap Galley
  next : Nat
  fetch : List FetchSlot
  nodes : List PrefixNode
  t1 : List (Nat × Nat)
  t2 : List (Nat × Nat)
  t2Scrub : List (Nat × Nat)
  flushes : Nat
  picks : List Pick
  leafs : List Nat
  brought : List (Nat × Nat)
  deriving DecidableEq, Repr

/-- A part placed in a chase (R189, R203): its descriptor's figures, its position, the static lanes' send cycles
and link cycles, and the chase time of its first pass (R139). -/
structure Placed where
  layer : Nat
  layout : Nat
  part : Nat
  chase : Nat
  row : Nat
  col : Nat
  rows : Nat
  cols : Nat
  flags : Nat
  schedLen : Nat
  posOffset : Int
  weightOff : Nat
  weightLen : Nat
  descOff : Nat
  sends : List Nat
  links : List (Nat × Nat)
  start : Nat
  waiting : Bool
  deriving DecidableEq, Repr

/-- A section of a golden copy in the stack tier (R361): its image's identity, its type, layer and layout (type 0 for the
header and the section table), its address and its bytes. -/
structure Golden where
  ident : List Byte
  ty : Nat
  layer : Nat
  layout : Nat
  at_ : Nat
  len : Nat
  deriving DecidableEq, Repr

/-- A replacement in progress (R363 to R370), with the host image that stays readable (R353). -/
structure Repl where
  image : List Byte
  ident : List Byte
  policy : Nat
  queue : Nat
  cid : Nat
  changed : List Nat
  keepHost : Option (Nat × Nat)
  staged : Bool
  swapping : Bool
  written : Nat
  deriving DecidableEq, Repr

/-- What a lane of a batch slot carries: a position with its input token, or zero blocks with their scale byte (R285, R286). -/
inductive LaneIn where
  | position (pos token : Nat)
  | zeroBlocks (scale : Byte)
  deriving DecidableEq, Repr

/-- A batch slot of a wave: the stream whose step it carries, if any, and its lanes (R285, R286). -/
structure WaveSlot where
  stream : Option Nat
  lanes : List LaneIn
  deriving DecidableEq, Repr

/-- A forme index in use (05, 09). `rewrite` lists the layers to write again from the golden copy once no step is in flight
(R372, R374); `tNs`, `cyclesD` and `cycleNs` are T, D and C as fixed last, at lamp time `fixedAt` (R287); `lastWave` is the
lamp time of its last wave, and `wave` that wave's batch slots (R286); `keepHost` the address and length of the host image
that KEEP_HOST keeps readable (R353). -/
structure Forme where
  image : List Byte
  ident : List Byte
  layouts : List Nat
  parts : List Placed
  gen : Nat
  vocab : Nat
  tNs : Rat
  cyclesD : Nat
  cycleNs : Rat
  fixedAt : Nat
  timed : Nat
  minT : Rat
  waves : Nat
  lastWave : Option Nat
  wave : List WaveSlot
  repl : Option Repl
  replWait : List Repl
  unload : Option (Nat × Nat)
  keepHost : Option (Nat × Nat)
  quarantined : List Nat
  rewrite : List Nat
  lastAudit : KMap Nat
  deriving DecidableEq, Repr

/-- A load command that waits: held until its condition comes (R356, R357, R276, R482); `since` is the lamp time of its
fetch; `headOk` says that what a neighbour sent first has been checked (R358). -/
structure Load where
  queue : Nat
  cmd : List Byte
  image : List Byte
  source : Option Nat
  offers : List (Nat × List Byte)
  layersOk : Nat
  fromLink : Bool
  capacity : Bool
  slotWait : Bool
  since : Nat
  headOk : Bool := false
  deriving DecidableEq, Repr

/-- The states of an overlay slot or a variant version's set of slots (R275). -/
inductive SlotState where
  | loading | active | retiring | scrubbing
  deriving DecidableEq, Repr

/-- An overlay slot in use, or a variant version's private slots as one unit (R270 to R282). -/
structure Slot where
  st : SlotState
  isVariant : Bool
  forme : Nat
  tenant : Nat
  number : Nat
  version : Nat
  pub : Bool
  need : List (Nat × Nat)
  image : List Byte
  pins : Nat
  queue : Nat
  cid : Nat
  deriving DecidableEq, Repr

/-- The states of a cold slot (R261). -/
inductive ColdState where
  | empty | streaming | loaded
  deriving DecidableEq, Repr

/-- A cold slot and its expert (R261), the bytes that completed descriptors of its binding moved, and whether a miss
bound it (R268). -/
structure ColdSlot where
  st : ColdState
  expert : Nat
  landed : Nat
  miss : Bool
  deriving DecidableEq, Repr

/-- The experts that a token selected at a layer (R258), how often a core of the layer's slot parts has ended its pass
since, and whether the layer's pass has ended with that, so that they are protected no more (R262). -/
structure Selected where
  req : Nat
  pos : Nat
  experts : List Nat
  ends : Nat
  closed : Bool
  deriving DecidableEq, Repr

/-- The experts of one layer of a forme (R261 to R268): its cold slots, the observed counts, the positions that passed, the
selections of the passes in flight, and the predicted set with the one that its predictor is forming. -/
structure ColdLayer where
  forme : Nat
  layer : Nat
  slots : List ColdSlot
  counts : KMap Nat
  passed : Nat
  selected : List Selected
  predicted : List Nat
  predicting : List Nat
  deriving DecidableEq, Repr

/-- What a layer's expert parts counted since the last EXPERT record (R284). -/
structure ExpertCount where
  selections : Nat
  streams : Nat
  hits : Nat
  misses : Nat
  slip : Nat
  deriving DecidableEq, Repr

/-- The activity of a mooring and tenant in an interval (R341). -/
structure UsagePair where
  mooring : Nat
  tenant : Nat
  tokens : Nat
  steps : Nat
  prompt : Nat
  prefixPos : Nat
  done : Nat
  cancelled : Nat
  breach : Nat
  gaps : List Nat
  deriving DecidableEq, Repr

/-- A closed usage record (R341). -/
structure UsageRec where
  seq : Nat
  bytes : List Byte
  deriving DecidableEq, Repr

/-- Telemetry and usage evidence (08, 15). `pairs` is what keeper group 0 counted since it last
sent counts; `open_` is the lamp domain's open interval. -/
structure Tele where
  held : List (List Byte)
  groupHeld : List (List Byte)
  gaps : KMap (List Nat)
  tokens : KMap Nat
  steps : KMap Nat
  pairs : List UsagePair
  open_ : List UsagePair
  openSynced : Bool
  store : List UsageRec
  nextLen : Nat
  seq : Nat
  experts : KMap ExpertCount
  deriving DecidableEq, Repr

/-- Keeper groups (R400 to R403): group, core and lamp time of votes lost; group and lamp time of splits. -/
structure Keepers where
  minor : List (Nat × Nat × Nat)
  splits : List (Nat × Nat)
  deriving DecidableEq, Repr

/-- The partner module (R407, R408): what it confirmed, what it mirrored or handed to this module
(message kind and bytes), the queues handed to it, and a live handover in progress with its cause. -/
structure Partner where
  capacityOk : Bool
  ringsOk : Bool
  received : List (Nat × List Byte)
  handed : List Nat
  sending : Option Nat
  deriving DecidableEq, Repr

/-- An announcement received on a link (R509). -/
structure Announced where
  priority : Nat
  serial : Nat
  hops : Nat
  deriving DecidableEq, Repr

/-- An Irlar link (R500 to R510). `logical` lists the physical lane of each logical lane; `replay` the
frames not acknowledged, the oldest first; `coeffs` the stored coefficients by peer serial, peer
die and physical lane; `refused` tells that the link is held down (R14, R504, R505). -/
structure Link where
  good : List Nat
  logical : List Nat
  spares : List Nat
  txSeq : Nat
  rxSeq : Nat
  replay : List (List Byte)
  nakRuns : Nat
  nak : Bool
  trained : List Nat
  coeffs : List (Nat × Nat × Nat × Nat)
  gotIdent : Bool
  gotVersion : Bool
  peerCores : Nat
  peerGrade : Nat
  peerIdents : List (List Byte)
  ann : Option Announced
  lastExchange : Option Nat
  retrainAt : Option Nat
  downAt : Option Nat
  refused : Bool
  asks : List (List Byte)
  deriving DecidableEq, Repr

/-- A memory stack (R515, R516): failed retrainings, the lamp time at which its rebuild began, that of its last
failure or failed retraining with the failure's cause, those of the words that it found uncorrectable, and how far a rebuild
has come in its present stripe (log entry 112). -/
structure Stack where
  retrains : Nat
  rebuildAt : Nat
  failedAt : Nat
  cause : Nat
  poisonAt : List Nat
  paced : Nat
  deriving DecidableEq, Repr

/-- The states of a sensor pair (R445), by their codes in THM.PAIR_STAT. -/
inductive PairState where
  | agree | flagged | oneFailed | suspect | bothFailed
  deriving DecidableEq, Repr

/-- A sensor pair (R444 to R446): the readings, the value in use, the state, runs of samples of 50 µs
(more than 4 °C apart, within 4 °C, more than 20 °C apart, in SUSPECT or a survivor far from the estimate),
the sensors marked failed, the run of samples at 105 °C, and whether THM_JUNCTION_LIMIT holds. -/
structure Pair where
  a : Int
  b : Int
  used : Int
  st : PairState
  apart : Nat
  near : Nat
  far : Nat
  farRun : Nat
  failedA : Bool
  failedB : Bool
  hot : Nat
  junction : Bool
  deriving DecidableEq, Repr

/-- The thermal manager's state (12): the estimator's samples and θ in °C/kW (R450); the cap's drop, its
tenths of a second and the chases whose parking was refused (R453); ms since F_mod rose and with power over
the cap at its floor (R452); the tray (R448, R522); the outlet's last values (R455); the cycle count (R457); the lamp time of the last sudden stop. -/
structure Thermal where
  samples : List Rat
  theta : Rat
  capDrop : Rat
  dropTick : Nat
  refused : List Nat
  fModWait : Nat
  overCap : Nat
  tray : Option TrayReading
  swapped : Bool
  cross : Nat
  crossKind : Nat
  lowFlow : Nat
  flowStep : Nat
  specRuns : Nat
  outlets : List Int
  extreme : Option Int
  turn : Int
  rising : Bool
  halves20 : Nat
  halves40 : Nat
  halves60 : Nat
  lifeAlarm : Bool
  stoppedAt : Nat
  deriving DecidableEq, Repr

/-- Power tree state beyond the registers: the reverse-input latch (R413), the rail shutdown sequence has
run (R438), the next wave of a retention exit (R436). -/
structure Power where
  reversedLatch : Bool
  shut : Bool
  wave : Nat
  deriving DecidableEq, Repr

/-- Sideband pins (R477, R489). -/
structure Pins where
  modReady : Bool
  modFaultN : Bool
  thermtripN : Bool
  alertN : Bool
  resetLow : Nat
  lowSince : Option Nat
  perst : List Bool
  surpriseDown : Bool
  deriving DecidableEq, Repr

/-- The release controller (R472, R475): PLLs by domain and instance that completed the count or failed it,
released steps and instances, the sequence stopped (R476), the next kindling wave and the chases that
kindle (R483), the lamp time of power good, reset causes to record once the lamp is lit (R470), forced steps
(R473), the lamp time of each step's first release and of the end of the last kindling wave. -/
structure Release where
  counted : List (Nat × Nat)
  released : List (Nat × Nat)
  pllFailed : List (Nat × Nat)
  stopped : Bool
  waves : Nat
  kindling : List Nat
  poweredAt : Nat
  causes : List Nat
  forced : List Nat
  stepAt : List (Nat × Nat)
  waveEnd : Nat
  deriving DecidableEq, Repr

/-- A block reset in progress (R479): the page identity of its block, the source code (R468) and the lamp time
of its quiesce request. -/
structure BlkReset where
  ident : Nat
  source : Nat
  since : Nat
  deriving DecidableEq, Repr

/-- The management endpoint (R517 to R523): shorted buses and the lamp time of the last finding, events not
yet read, whether SetEventReceiver named a receiver, firmware components in the inactive and the active bank,
the dynamic address. -/
structure Mgmt where
  ignored : List (Nat × Nat)
  events : List FaultRec
  receiver : Bool
  staged : List (Nat × List Byte)
  active : List (Nat × List Byte)
  dynAddr : Nat
  deriving DecidableEq, Repr

/-- The block's outputs, and what reads returned. -/
structure Io where
  pairLatch : KMap Nat
  pairLow : KMap Nat
  readData : KMap Nat
  msix : List Nat
  linkOut : List (Nat × List Byte)
  mgmtOut : List (Nat × List Byte)
  irqPages : List Nat
  deriving DecidableEq, Repr

/-- The three memories and their poison marks (03, 14). `errs` lists, by store word, the byte positions in error
(0 to 63 data, 64 to 67 check bytes, R101) with what they are off by; `stackErrs` those of the stack tier (R511). -/
structure Mem where
  store : Memory
  errs : KMap (KMap Nat)
  storePoison : List Nat
  stack : Memory
  stackErrs : KMap (KMap Nat)
  stackPoison : List Nat
  host : Memory
  deriving DecidableEq, Repr

/-- The state of the block. -/
structure State where
  pending : List Instr
  lampTime : Nat
  slew : Int
  slewCycles : Nat
  syncs : List (Nat × Nat)
  free : Nat
  regs : KMap Nat
  io : Io
  mem : Mem
  cores : KMap Core
  chases : KMap Chase
  fabric : List FlitAt
  packets : List PacketAt
  turns : KMap Nat
  credits : List Credit
  taken : KMap Nat
  rim : List RimFlit
  outliers : List OutlierSet
  faults : Faults
  errata : ErrataMap
  serve : Serve
  kv : Kv
  golden : List Golden
  formes : KMap Forme
  loads : List Load
  slots : KMap Slot
  cold : List ColdLayer
  tele : Tele
  keepers : Keepers
  partner : Partner
  links : KMap Link
  stks : KMap Stack
  pairs : KMap Pair
  thermal : Thermal
  power : Power
  pins : Pins
  release : Release
  blkReset : Option BlkReset
  mgmt : Mgmt
  keys : List (Nat × Nat × Nat)
  lastSweep : Nat
  deriving DecidableEq, Repr

/-- The block right after reset (INVENTORY, "State"): every register at its reset value, nothing
listed in any memory, nothing in progress. -/
def State.reset : State :=
  { pending := []
    lampTime := 0
    slew := 0
    slewCycles := 0
    syncs := []
    free := 0
    regs := []
    io := ⟨[], [], [], [], [], [], []⟩
    mem := ⟨[], [], [], [], [], [], []⟩
    cores := []
    chases := []
    fabric := []
    packets := []
    turns := []
    credits := []
    taken := []
    rim := []
    outliers := []
    faults := ⟨[], [], [], [], [], [], none⟩
    errata := ⟨[], [], [], []⟩
    serve := ⟨[], [], [], [], [], [], [], [], 0, []⟩
    kv := ⟨[], 0, [], [], [], [], [], 0, [], [], []⟩
    golden := []
    formes := []
    loads := []
    slots := []
    cold := []
    tele := ⟨[], [], [], [], [], [], [], false, [], 60, 0, []⟩
    keepers := ⟨[], []⟩
    partner := ⟨false, false, [], [], none⟩
    links := []
    stks := []
    pairs := []
    thermal := ⟨[], 11 / 5, 1, 0, [], 0, 0, none, false, 0, 0, 0, 0, 0, [], none, 0, true, 0, 0, 0, false, 0⟩
    power := ⟨false, false, 0⟩
    pins := ⟨false, false, true, true, 0, none, [true, true, true, true], false⟩
    release := ⟨[], [], [], false, 0, [], 0, [], [], [], 0⟩
    blkReset := none
    mgmt := ⟨[], [], false, [], [], 0⟩
    keys := []
    lastSweep := 0 }

end Sys2Proof.Machine
end

