-- ==== Sys2Proof/Machine/Maps.lean ====
section
/-! DEFINITION. Operations on sparse maps and on byte memories, all of which keep the canonical form
(keys strictly rising; no listed byte equal to what an unlisted one reads as). -/

namespace Sys2Proof.Machine

/-- The value at key `k`, none where the map lists none. -/
def kget? {α : Type} : KMap α → Nat → Option α
  | [], _ => none
  | (k', v) :: r, k => if k' = k then some v else kget? r k

/-- The map with `v` at key `k`. -/
def kset {α : Type} : KMap α → Nat → α → KMap α
  | [], k, v => [(k, v)]
  | (k', v') :: r, k, v =>
    if k < k' then (k, v) :: (k', v') :: r
    else if k = k' then (k, v) :: r
    else (k', v') :: kset r k v

/-- The map without key `k`. -/
def kdel {α : Type} : KMap α → Nat → KMap α
  | [], _ => []
  | (k', v) :: r, k => if k' = k then kdel r k else (k', v) :: kdel r k

/-- The value at key `k`, or `d`. -/
def kgetD {α : Type} (m : KMap α) (k : Nat) (d : α) : α := (kget? m k).getD d

/-- The map with the value at `k` (or `d`) changed by `f`. -/
def kmod {α : Type} (m : KMap α) (k : Nat) (d : α) (f : α → α) : KMap α := kset m k (f (kgetD m k d))

/-- The map with the value at `k` changed by `f`, where it lists one. -/
def kadj {α : Type} (m : KMap α) (k : Nat) (f : α → α) : KMap α :=
  match kget? m k with
  | some v => kset m k (f v)
  | none => m

/-- The lowest number from `i` on, of `n`, that the map does not list. -/
def kfree {α : Type} (m : KMap α) : Nat → Nat → Option Nat
  | _, 0 => none
  | i, n + 1 => if (kget? m i).isNone then some i else kfree m (i + 1) n

/-- Keys strictly rising. -/
abbrev KMap.sorted {α : Type} (m : KMap α) : Prop := m.Pairwise (fun a b => a.1 < b.1)

/-- The byte at address `a`; an unlisted byte reads as zero (log entry 4). -/
def memRead (m : Memory) (a : Nat) : Byte := kgetD m a 0

/-- The memory with byte `b` at address `a`. -/
def memWrite (m : Memory) (a : Nat) (b : Byte) : Memory := if b = 0 then kdel m a else kset m a b

/-- The canonical form of a memory. -/
abbrev Memory.wf (m : Memory) : Prop :=
  m.Pairwise (fun a b => a.1 < b.1) ∧ ∀ c ∈ m, c.2 ≠ 0

/-- `n` bytes from address `a` up. -/
def memReadBytes (m : Memory) (a n : Nat) : List Byte := (List.range n).map (fun i => memRead m (a + i))

/-- The memory with the bytes `bs` from address `a` up. -/
def memWriteBytes (m : Memory) (a : Nat) : List Byte → Memory
  | [] => m
  | b :: bs => memWriteBytes (memWrite m a b) (a + 1) bs

/-- The memory with the `n` bytes from `a` up zero. -/
def memZero (m : Memory) (a n : Nat) : Memory := m.filter (fun c => c.1 < a || a + n ≤ c.1)

/-- The numbers of a list outside `[a, a + n)`. -/
def dropRange (l : List Nat) (a n : Nat) : List Nat := l.filter (fun c => c < a || a + n ≤ c)

/-- The list with `x` added once. -/
def addOnce {α : Type} [DecidableEq α] (l : List α) (x : α) : List α := if x ∈ l then l else l ++ [x]

end Sys2Proof.Machine
end

