-- ==== Sys2Proof/Machine/Regs.lean ====
section
/-! DEFINITION. The register fields of every page, one constant each under the spec's own name (page,
register, field), and the operations that read and write one field. A field that the spec gives no
reset value has the value of log entry 3. -/

namespace Sys2Proof.Machine

/-- The access codes of R6. -/
inductive Access where
  | ro | rw | w1c | w1s | wo | rc | rwl
  deriving DecidableEq, Repr

/-- A register field: block type code of its page (R532; 0 for the header), offset, lowest bit,
width, access, reset value, words of an array, and whether it is a 64-bit pair (R7). -/
structure Fld where
  page : Nat
  off : Nat
  lo : Nat
  width : Nat
  acc : Access
  reset : Nat
  count : Nat
  pair : Bool
  deriving DecidableEq, Repr

/-- `PAGE_ID.TYPE` (R533). -/
def Reg.PAGE_ID_TYPE : Fld := ⟨0x00, 0x000, 16, 16, .ro, 0, 1, false⟩

/-- `PAGE_ID.INSTANCE` (R533). -/
def Reg.PAGE_ID_INSTANCE : Fld := ⟨0x00, 0x000, 0, 16, .ro, 0, 1, false⟩

/-- `PAGE_VER.MAJOR` (R533). -/
def Reg.PAGE_VER_MAJOR : Fld := ⟨0x00, 0x004, 16, 16, .ro, 1, 1, false⟩

/-- `PAGE_VER.MINOR` (R533). -/
def Reg.PAGE_VER_MINOR : Fld := ⟨0x00, 0x004, 0, 16, .ro, 0, 1, false⟩

/-- `PAGE_CAPS.FUSED_LOCK` (R533). Its reset value is the model's (log entry 3). -/
def Reg.PAGE_CAPS_FUSED_LOCK : Fld := ⟨0x00, 0x008, 4, 1, .ro, 0, 1, false⟩

/-- `PAGE_CAPS.LAMP_SERVED` (R533). Its reset value is the model's (log entry 3). -/
def Reg.PAGE_CAPS_LAMP_SERVED : Fld := ⟨0x00, 0x008, 3, 1, .ro, 0, 1, false⟩

/-- `PAGE_CAPS.LOCK` (R533). Its reset value is the model's (log entry 3). -/
def Reg.PAGE_CAPS_LOCK : Fld := ⟨0x00, 0x008, 2, 1, .ro, 0, 1, false⟩

/-- `PAGE_CAPS.QUIESCE` (R533). Its reset value is the model's (log entry 3). -/
def Reg.PAGE_CAPS_QUIESCE : Fld := ⟨0x00, 0x008, 1, 1, .ro, 0, 1, false⟩

/-- `PAGE_CAPS.IRQ` (R533). -/
def Reg.PAGE_CAPS_IRQ : Fld := ⟨0x00, 0x008, 0, 1, .ro, 1, 1, false⟩

/-- `PAGE_BEACON.CHANGED` (R533). -/
def Reg.PAGE_BEACON_CHANGED : Fld := ⟨0x00, 0x00C, 8, 1, .w1c, 0, 1, false⟩

/-- `PAGE_BEACON.STATE` (R533). -/
def Reg.PAGE_BEACON_STATE : Fld := ⟨0x00, 0x00C, 0, 3, .ro, 0, 1, false⟩

/-- `PAGE_ERR.WR_REFUSED` (R533). -/
def Reg.PAGE_ERR_WR_REFUSED : Fld := ⟨0x00, 0x010, 31, 1, .w1c, 0, 1, false⟩

/-- `PAGE_ERR.BAD_ACCESS` (R533). -/
def Reg.PAGE_ERR_BAD_ACCESS : Fld := ⟨0x00, 0x010, 29, 1, .w1c, 0, 1, false⟩

/-- `PAGE_ERR.UNDERRUN` (R533). -/
def Reg.PAGE_ERR_UNDERRUN : Fld := ⟨0x00, 0x010, 28, 1, .w1c, 0, 1, false⟩

/-- `PAGE_ERR.NO_ANSWER` (R533). -/
def Reg.PAGE_ERR_NO_ANSWER : Fld := ⟨0x00, 0x010, 27, 1, .w1c, 0, 1, false⟩

/-- `PAGE_ERR.CLASS` (R533). -/
def Reg.PAGE_ERR_CLASS : Fld := ⟨0x00, 0x010, 0, 5, .w1c, 0, 1, false⟩

/-- `PAGE_IRQ_STAT.ERR` (R533). -/
def Reg.PAGE_IRQ_STAT_ERR : Fld := ⟨0x00, 0x014, 1, 1, .ro, 0, 1, false⟩

/-- `PAGE_IRQ_STAT.BEACON` (R533). -/
def Reg.PAGE_IRQ_STAT_BEACON : Fld := ⟨0x00, 0x014, 0, 1, .ro, 0, 1, false⟩

/-- `PAGE_IRQ_EN.ERR_EN` (R533). -/
def Reg.PAGE_IRQ_EN_ERR_EN : Fld := ⟨0x00, 0x018, 1, 1, .rw, 0, 1, false⟩

/-- `PAGE_IRQ_EN.BEACON_EN` (R533). -/
def Reg.PAGE_IRQ_EN_BEACON_EN : Fld := ⟨0x00, 0x018, 0, 1, .rw, 0, 1, false⟩

/-- `PAGE_CTL.RESET_REQ` (R533). -/
def Reg.PAGE_CTL_RESET_REQ : Fld := ⟨0x00, 0x01C, 2, 1, .ro, 0, 1, false⟩

/-- `PAGE_CTL.QUIESCE_REQ` (R533). -/
def Reg.PAGE_CTL_QUIESCE_REQ : Fld := ⟨0x00, 0x01C, 1, 1, .ro, 0, 1, false⟩

/-- `PAGE_CTL.ENABLE` (R533). -/
def Reg.PAGE_CTL_ENABLE : Fld := ⟨0x00, 0x01C, 0, 1, .ro, 0, 1, false⟩

/-- `PAGE_QUIESCE.HELD` (R533). -/
def Reg.PAGE_QUIESCE_HELD : Fld := ⟨0x00, 0x020, 16, 16, .ro, 0, 1, false⟩

/-- `PAGE_QUIESCE.IDLE` (R533). -/
def Reg.PAGE_QUIESCE_IDLE : Fld := ⟨0x00, 0x020, 0, 1, .ro, 0, 1, false⟩

/-- `PAGE_LOCK.LOCKED` (R533). -/
def Reg.PAGE_LOCK_LOCKED : Fld := ⟨0x00, 0x024, 0, 1, .w1s, 0, 1, false⟩

/-- `PAGE.TIME_LO` (R533). -/
def Reg.PAGE_TIME_LO : Fld := ⟨0x00, 0x028, 0, 32, .ro, 0, 1, false⟩

/-- `PAGE.TIME_HI` (R533). -/
def Reg.PAGE_TIME_HI : Fld := ⟨0x00, 0x02C, 0, 32, .ro, 0, 1, false⟩

/-- `SYS.LIVE_CORES` (R543). -/
def Reg.SYS_LIVE_CORES : Fld := ⟨0x01, 0x040, 0, 21, .ro, 0, 1, false⟩

/-- `SYS.LIVE_STORE_MIB` (R543). -/
def Reg.SYS_LIVE_STORE_MIB : Fld := ⟨0x01, 0x044, 0, 19, .ro, 0, 1, false⟩

/-- `SYS.SHIP_CORES` (R543). Its reset value is the model's (log entry 3). -/
def Reg.SYS_SHIP_CORES : Fld := ⟨0x01, 0x048, 0, 21, .ro, 1048576, 1, false⟩

/-- `SYS.STEPPING` (R543). -/
def Reg.SYS_STEPPING : Fld := ⟨0x01, 0x04C, 8, 8, .ro, 177, 1, false⟩

/-- `SYS.GRADE` (R543). Its reset value is the model's (log entry 3). -/
def Reg.SYS_GRADE : Fld := ⟨0x01, 0x04C, 0, 2, .ro, 0, 1, false⟩

/-- `SYS.SERIAL` (R543). Its reset value is the model's (log entry 3). -/
def Reg.SYS_SERIAL : Fld := ⟨0x01, 0x050, 0, 32, .ro, 0, 4, false⟩

/-- `SYS.FORME_MAJOR` (R543). -/
def Reg.SYS_FORME_MAJOR : Fld := ⟨0x01, 0x060, 16, 16, .ro, 1, 1, false⟩

/-- `SYS.FORME_MINOR` (R543). -/
def Reg.SYS_FORME_MINOR : Fld := ⟨0x01, 0x060, 0, 16, .ro, 2, 1, false⟩

/-- `SYS.LINK_MAJOR` (R543). -/
def Reg.SYS_LINK_MAJOR : Fld := ⟨0x01, 0x064, 16, 16, .ro, 1, 1, false⟩

/-- `SYS.LINK_MINOR` (R543). -/
def Reg.SYS_LINK_MINOR : Fld := ⟨0x01, 0x064, 0, 16, .ro, 1, 1, false⟩

/-- `SYS.PROFILE_MAJOR` (R543). -/
def Reg.SYS_PROFILE_MAJOR : Fld := ⟨0x01, 0x068, 16, 16, .ro, 1, 1, false⟩

/-- `SYS.PROFILE_MINOR` (R543). -/
def Reg.SYS_PROFILE_MINOR : Fld := ⟨0x01, 0x068, 0, 16, .ro, 0, 1, false⟩

/-- `SYS.IRQ_CTL.EN` (R543). -/
def Reg.SYS_IRQ_CTL_EN : Fld := ⟨0x01, 0x070, 31, 1, .rw, 0, 1, false⟩

/-- `SYS.IRQ_CTL.VECTOR` (R543). -/
def Reg.SYS_IRQ_CTL_VECTOR : Fld := ⟨0x01, 0x070, 0, 11, .rw, 0, 1, false⟩

/-- `SYS.IRQ_FIRST.VALID` (R543). -/
def Reg.SYS_IRQ_FIRST_VALID : Fld := ⟨0x01, 0x074, 31, 1, .ro, 0, 1, false⟩

/-- `SYS.IRQ_FIRST.PAGE` (R543). -/
def Reg.SYS_IRQ_FIRST_PAGE : Fld := ⟨0x01, 0x074, 0, 12, .ro, 0, 1, false⟩

/-- `SYS.BAD_ACCESS_ADDR` (R543). -/
def Reg.SYS_BAD_ACCESS_ADDR : Fld := ⟨0x01, 0x078, 0, 26, .ro, 0, 1, false⟩

/-- `SYS.BAD_ACCESS_CNT` (R543). -/
def Reg.SYS_BAD_ACCESS_CNT : Fld := ⟨0x01, 0x07C, 0, 32, .ro, 0, 1, false⟩

/-- `SYS.MOD_FAULT` (R543). -/
def Reg.SYS_MOD_FAULT : Fld := ⟨0x01, 0x080, 1, 1, .ro, 0, 1, false⟩

/-- `SYS.MOD_READY` (R543). -/
def Reg.SYS_MOD_READY : Fld := ⟨0x01, 0x080, 0, 1, .ro, 0, 1, false⟩

/-- `SYS.FORMES` (R543). -/
def Reg.SYS_FORMES : Fld := ⟨0x01, 0x084, 0, 16, .ro, 0, 1, false⟩

/-- `LAMP.TIME` (R544). -/
def Reg.LAMP_TIME : Fld := ⟨0x02, 0x040, 0, 64, .ro, 0, 1, true⟩

/-- `LAMP.TIME_CTL.SYNCED` (R544). -/
def Reg.LAMP_TIME_CTL_SYNCED : Fld := ⟨0x02, 0x048, 9, 1, .ro, 0, 1, false⟩

/-- `LAMP.TIME_CTL.SOURCE` (R544). -/
def Reg.LAMP_TIME_CTL_SOURCE : Fld := ⟨0x02, 0x048, 8, 1, .ro, 0, 1, false⟩

/-- `LAMP.TIME_CTL.PRIORITY` (R544). -/
def Reg.LAMP_TIME_CTL_PRIORITY : Fld := ⟨0x02, 0x048, 0, 8, .rw, 128, 1, false⟩

/-- `LAMP.OFFSET` (R544). -/
def Reg.LAMP_OFFSET : Fld := ⟨0x02, 0x04C, 0, 32, .ro, 0, 1, false⟩

/-- `LAMP.FW_VER` (R544). Its reset value is the model's (log entry 3). -/
def Reg.LAMP_FW_VER : Fld := ⟨0x02, 0x050, 0, 32, .ro, 0, 1, false⟩

/-- `LAMP.KEY_SEL` (R544). -/
def Reg.LAMP_KEY_SEL : Fld := ⟨0x02, 0x054, 0, 3, .rw, 0, 1, false⟩

/-- `LAMP.KEY_PRESENT` (R544). Its reset value is the model's (log entry 3). -/
def Reg.LAMP_KEY_PRESENT : Fld := ⟨0x02, 0x058, 0, 1, .ro, 0, 1, false⟩

/-- `LAMP.KEY_DIGEST` (R544). Its reset value is the model's (log entry 3). -/
def Reg.LAMP_KEY_DIGEST : Fld := ⟨0x02, 0x060, 0, 32, .ro, 0, 12, false⟩

/-- `LAMP.NV_WRITES` (R544). Its reset value is the model's (log entry 3). -/
def Reg.LAMP_NV_WRITES : Fld := ⟨0x02, 0x090, 0, 32, .ro, 0, 1, false⟩

/-- `LAMP.RAIL_MV` (R544). -/
def Reg.LAMP_RAIL_MV : Fld := ⟨0x02, 0x094, 0, 16, .ro, 0, 1, false⟩

/-- `RST.CAUSE` (R486). Its reset value is the model's (log entry 3). -/
def Reg.RST_CAUSE : Fld := ⟨0x03, 0x040, 0, 8, .w1c, 0, 1, false⟩

/-- `RST.STAGE.KINDLE_DONE` (R486). -/
def Reg.RST_STAGE_KINDLE_DONE : Fld := ⟨0x03, 0x044, 20, 1, .ro, 0, 1, false⟩

/-- `RST.STAGE.WAVE` (R486). -/
def Reg.RST_STAGE_WAVE : Fld := ⟨0x03, 0x044, 16, 4, .ro, 0, 1, false⟩

/-- `RST.STAGE.STEP` (R486). -/
def Reg.RST_STAGE_STEP : Fld := ⟨0x03, 0x044, 0, 4, .ro, 0, 1, false⟩

/-- `RST.CHASES.FAULT_CNT` (R486). -/
def Reg.RST_CHASES_FAULT_CNT : Fld := ⟨0x03, 0x048, 16, 9, .ro, 0, 1, false⟩

/-- `RST.CHASES.LIT_CNT` (R486). -/
def Reg.RST_CHASES_LIT_CNT : Fld := ⟨0x03, 0x048, 0, 9, .ro, 0, 1, false⟩

/-- `RST.BLK_SEL` (R486). -/
def Reg.RST_BLK_SEL : Fld := ⟨0x03, 0x04C, 0, 32, .rw, 0, 1, false⟩

/-- `RST.BLK_CTL.KEY` (R486). -/
def Reg.RST_BLK_CTL_KEY : Fld := ⟨0x03, 0x050, 24, 8, .wo, 0, 1, false⟩

/-- `RST.BLK_CTL.RESULT` (R486). -/
def Reg.RST_BLK_CTL_RESULT : Fld := ⟨0x03, 0x050, 4, 2, .ro, 0, 1, false⟩

/-- `RST.BLK_CTL.BUSY` (R486). -/
def Reg.RST_BLK_CTL_BUSY : Fld := ⟨0x03, 0x050, 1, 1, .ro, 0, 1, false⟩

/-- `RST.BLK_CTL.GO` (R486). -/
def Reg.RST_BLK_CTL_GO : Fld := ⟨0x03, 0x050, 0, 1, .w1s, 0, 1, false⟩

/-- `RST.MOD_CTL.KEY` (R486). -/
def Reg.RST_MOD_CTL_KEY : Fld := ⟨0x03, 0x054, 24, 8, .wo, 0, 1, false⟩

/-- `RST.MOD_CTL.FORCE` (R486). -/
def Reg.RST_MOD_CTL_FORCE : Fld := ⟨0x03, 0x054, 1, 1, .rw, 0, 1, false⟩

/-- `RST.MOD_CTL.GO` (R486). -/
def Reg.RST_MOD_CTL_GO : Fld := ⟨0x03, 0x054, 0, 1, .w1s, 0, 1, false⟩

/-- `RST.FORCE.FORCE_STEP` (R486). -/
def Reg.RST_FORCE_FORCE_STEP : Fld := ⟨0x03, 0x058, 0, 4, .rwl, 0, 1, false⟩

/-- `RST.POR_COUNT` (R486). Its reset value is the model's (log entry 3). -/
def Reg.RST_POR_COUNT : Fld := ⟨0x03, 0x05C, 0, 32, .ro, 0, 1, false⟩

/-- `RST.MOD_RESETS` (R486). -/
def Reg.RST_MOD_RESETS : Fld := ⟨0x03, 0x060, 0, 32, .ro, 0, 1, false⟩

/-- `RST.BLK_RESETS` (R486). -/
def Reg.RST_BLK_RESETS : Fld := ⟨0x03, 0x064, 0, 32, .ro, 0, 1, false⟩

/-- `RST.QUIESCE_TIMEOUTS` (R486). -/
def Reg.RST_QUIESCE_TIMEOUTS : Fld := ⟨0x03, 0x068, 0, 32, .ro, 0, 1, false⟩

/-- `RST.WR_REFUSED` (R486). -/
def Reg.RST_WR_REFUSED : Fld := ⟨0x03, 0x06C, 0, 32, .ro, 0, 1, false⟩

/-- `RST.STEP_TIME` (R486). -/
def Reg.RST_STEP_TIME : Fld := ⟨0x03, 0x070, 0, 32, .ro, 0, 10, false⟩

/-- `RST.KINDLE_TIME` (R486). -/
def Reg.RST_KINDLE_TIME : Fld := ⟨0x03, 0x098, 0, 32, .ro, 0, 1, false⟩

/-- `RST.PIN_FUSE` (R486). Its reset value is the model's (log entry 3). -/
def Reg.RST_PIN_FUSE : Fld := ⟨0x03, 0x09C, 0, 32, .ro, 0, 1, false⟩

/-- `CLK.REF_STAT.LREF_OK` (R487). -/
def Reg.CLK_REF_STAT_LREF_OK : Fld := ⟨0x04, 0x040, 12, 4, .ro, 0, 1, false⟩

/-- `CLK.REF_STAT.REFCLK_OK` (R487). -/
def Reg.CLK_REF_STAT_REFCLK_OK : Fld := ⟨0x04, 0x040, 8, 4, .ro, 0, 1, false⟩

/-- `CLK.REF_STAT.FREF_SEL` (R487). -/
def Reg.CLK_REF_STAT_FREF_SEL : Fld := ⟨0x04, 0x040, 4, 1, .ro, 0, 1, false⟩

/-- `CLK.REF_STAT.FREF_B_OK` (R487). -/
def Reg.CLK_REF_STAT_FREF_B_OK : Fld := ⟨0x04, 0x040, 3, 1, .ro, 0, 1, false⟩

/-- `CLK.REF_STAT.FREF_A_OK` (R487). -/
def Reg.CLK_REF_STAT_FREF_A_OK : Fld := ⟨0x04, 0x040, 2, 1, .ro, 0, 1, false⟩

/-- `CLK.REF_STAT.LAMP_INTERNAL` (R487). -/
def Reg.CLK_REF_STAT_LAMP_INTERNAL : Fld := ⟨0x04, 0x040, 1, 1, .ro, 0, 1, false⟩

/-- `CLK.REF_STAT.LAMP_XTAL_OK` (R487). -/
def Reg.CLK_REF_STAT_LAMP_XTAL_OK : Fld := ⟨0x04, 0x040, 0, 1, .ro, 1, 1, false⟩

/-- `CLK.PLL_SEL.DOMAIN` (R487). -/
def Reg.CLK_PLL_SEL_DOMAIN : Fld := ⟨0x04, 0x044, 12, 4, .rw, 0, 1, false⟩

/-- `CLK.PLL_SEL.INSTANCE` (R487). -/
def Reg.CLK_PLL_SEL_INSTANCE : Fld := ⟨0x04, 0x044, 0, 8, .rw, 0, 1, false⟩

/-- `CLK.PLL_STAT.LOCKED` (R487). -/
def Reg.CLK_PLL_STAT_LOCKED : Fld := ⟨0x04, 0x048, 31, 1, .ro, 0, 1, false⟩

/-- `CLK.PLL_STAT.COUNTED` (R487). -/
def Reg.CLK_PLL_STAT_COUNTED : Fld := ⟨0x04, 0x048, 30, 1, .ro, 0, 1, false⟩

/-- `CLK.PLL_STAT.GATED` (R487). -/
def Reg.CLK_PLL_STAT_GATED : Fld := ⟨0x04, 0x048, 29, 1, .ro, 1, 1, false⟩

/-- `CLK.PLL_STAT.FREQ` (R487). -/
def Reg.CLK_PLL_STAT_FREQ : Fld := ⟨0x04, 0x048, 0, 11, .ro, 0, 1, false⟩

/-- `CLK.LOCK_LOSSES` (R487). -/
def Reg.CLK_LOCK_LOSSES : Fld := ⟨0x04, 0x04C, 0, 32, .ro, 0, 1, false⟩

/-- `CLK.MON_FAILS` (R487). -/
def Reg.CLK_MON_FAILS : Fld := ⟨0x04, 0x050, 0, 32, .ro, 0, 1, false⟩

/-- `CLK.SYNC_ERR` (R487). -/
def Reg.CLK_SYNC_ERR : Fld := ⟨0x04, 0x054, 0, 8, .ro, 0, 1, false⟩

/-- `CLK.FREF_SWITCHES` (R487). -/
def Reg.CLK_FREF_SWITCHES : Fld := ⟨0x04, 0x058, 0, 32, .ro, 0, 1, false⟩

/-- `PWR.INPUT_V` (R442). -/
def Reg.PWR_INPUT_V : Fld := ⟨0x05, 0x040, 0, 16, .ro, 0, 1, false⟩

/-- `PWR.INPUT_I` (R442). -/
def Reg.PWR_INPUT_I : Fld := ⟨0x05, 0x044, 0, 16, .ro, 0, 1, false⟩

/-- `PWR.INPUT_STAT.REVERSED_SEEN` (R442). -/
def Reg.PWR_INPUT_STAT_REVERSED_SEEN : Fld := ⟨0x05, 0x048, 4, 1, .w1c, 0, 1, false⟩

/-- `PWR.INPUT_STAT.OVER` (R442). -/
def Reg.PWR_INPUT_STAT_OVER : Fld := ⟨0x05, 0x048, 3, 1, .ro, 0, 1, false⟩

/-- `PWR.INPUT_STAT.LOSS` (R442). -/
def Reg.PWR_INPUT_STAT_LOSS : Fld := ⟨0x05, 0x048, 2, 1, .ro, 0, 1, false⟩

/-- `PWR.INPUT_STAT.HIGH` (R442). -/
def Reg.PWR_INPUT_STAT_HIGH : Fld := ⟨0x05, 0x048, 1, 1, .ro, 0, 1, false⟩

/-- `PWR.INPUT_STAT.LOW` (R442). -/
def Reg.PWR_INPUT_STAT_LOW : Fld := ⟨0x05, 0x048, 0, 1, .ro, 0, 1, false⟩

/-- `PWR.MODULE_P` (R442). -/
def Reg.PWR_MODULE_P : Fld := ⟨0x05, 0x04C, 0, 16, .ro, 0, 1, false⟩

/-- `PWR.CAP` (R442). -/
def Reg.PWR_CAP : Fld := ⟨0x05, 0x050, 0, 16, .ro, 36000, 1, false⟩

/-- `PWR.I_STACKS` (R442). -/
def Reg.PWR_I_STACKS : Fld := ⟨0x05, 0x054, 0, 16, .ro, 0, 1, false⟩

/-- `PWR.I_PORTS` (R442). -/
def Reg.PWR_I_PORTS : Fld := ⟨0x05, 0x058, 0, 16, .ro, 0, 1, false⟩

/-- `PWR.I_LAMP` (R442). -/
def Reg.PWR_I_LAMP : Fld := ⟨0x05, 0x05C, 0, 16, .ro, 0, 1, false⟩

/-- `PWR.MS_SEQ` (R442). -/
def Reg.PWR_MS_SEQ : Fld := ⟨0x05, 0x060, 0, 32, .ro, 0, 1, false⟩

/-- `PWR.RETAIN_CTL.REQ` (R442). -/
def Reg.PWR_RETAIN_CTL_REQ : Fld := ⟨0x05, 0x064, 0, 1, .rw, 0, 1, false⟩

/-- `PWR.RETAIN_STAT.REFUSED` (R442). -/
def Reg.PWR_RETAIN_STAT_REFUSED : Fld := ⟨0x05, 0x068, 8, 1, .w1c, 0, 1, false⟩

/-- `PWR.RETAIN_STAT.STATE` (R442). -/
def Reg.PWR_RETAIN_STAT_STATE : Fld := ⟨0x05, 0x068, 0, 3, .ro, 0, 1, false⟩

/-- `PWR.BUS_OK` (R442). Its reset value is the model's (log entry 3). -/
def Reg.PWR_BUS_OK : Fld := ⟨0x05, 0x070, 0, 64, .ro, 1099511627775, 1, true⟩

/-- `PWR.SHUTDOWN_CAUSE` (R442). Its reset value is the model's (log entry 3). -/
def Reg.PWR_SHUTDOWN_CAUSE : Fld := ⟨0x05, 0x078, 0, 3, .ro, 0, 1, false⟩

/-- `THM.HOTTEST` (R460). -/
def Reg.THM_HOTTEST : Fld := ⟨0x06, 0x040, 0, 16, .ro, 0, 1, false⟩

/-- `THM.HOT_PAIR` (R460). -/
def Reg.THM_HOT_PAIR : Fld := ⟨0x06, 0x044, 0, 9, .ro, 0, 1, false⟩

/-- `THM.SAMPLES` (R460). -/
def Reg.THM_SAMPLES : Fld := ⟨0x06, 0x048, 24, 8, .ro, 0, 1, false⟩

/-- `THM.THETA` (R460). Its reset value is the model's (log entry 3). -/
def Reg.THM_THETA : Fld := ⟨0x06, 0x048, 0, 16, .ro, 2200, 1, false⟩

/-- `THM.THETA_FUSE` (R460). Its reset value is the model's (log entry 3). -/
def Reg.THM_THETA_FUSE : Fld := ⟨0x06, 0x04C, 0, 16, .ro, 2200, 1, false⟩

/-- `THM.CAP` (R460). -/
def Reg.THM_CAP : Fld := ⟨0x06, 0x050, 0, 16, .ro, 36000, 1, false⟩

/-- `THM.TARGET` (R460). -/
def Reg.THM_TARGET : Fld := ⟨0x06, 0x054, 0, 12, .rw, 1440, 1, false⟩

/-- `THM.F_MOD` (R460). -/
def Reg.THM_F_MOD : Fld := ⟨0x06, 0x058, 0, 11, .ro, 1400, 1, false⟩

/-- `THM.SENSOR_SEL` (R460). -/
def Reg.THM_SENSOR_SEL : Fld := ⟨0x06, 0x05C, 0, 9, .rw, 0, 1, false⟩

/-- `THM.SENSOR_DATA.READ_B` (R460). -/
def Reg.THM_SENSOR_DATA_READ_B : Fld := ⟨0x06, 0x060, 16, 16, .ro, 0, 1, false⟩

/-- `THM.SENSOR_DATA.READ_A` (R460). -/
def Reg.THM_SENSOR_DATA_READ_A : Fld := ⟨0x06, 0x060, 0, 16, .ro, 0, 1, false⟩

/-- `THM.PAIR_STAT.PAIR_STATE` (R460). -/
def Reg.THM_PAIR_STAT_PAIR_STATE : Fld := ⟨0x06, 0x064, 16, 3, .ro, 0, 1, false⟩

/-- `THM.PAIR_STAT.USED` (R460). -/
def Reg.THM_PAIR_STAT_USED : Fld := ⟨0x06, 0x064, 0, 16, .ro, 0, 1, false⟩

/-- `THM.FAILED` (R460). -/
def Reg.THM_FAILED : Fld := ⟨0x06, 0x068, 16, 9, .ro, 0, 1, false⟩

/-- `THM.FLAGGED` (R460). -/
def Reg.THM_FLAGGED : Fld := ⟨0x06, 0x068, 0, 9, .ro, 0, 1, false⟩

/-- `THM.CYCLES_20` (R460). Its reset value is the model's (log entry 3). -/
def Reg.THM_CYCLES_20 : Fld := ⟨0x06, 0x06C, 0, 32, .ro, 0, 1, false⟩

/-- `THM.CYCLES_40` (R460). Its reset value is the model's (log entry 3). -/
def Reg.THM_CYCLES_40 : Fld := ⟨0x06, 0x070, 0, 32, .ro, 0, 1, false⟩

/-- `THM.CYCLES_60` (R460). Its reset value is the model's (log entry 3). -/
def Reg.THM_CYCLES_60 : Fld := ⟨0x06, 0x074, 0, 32, .ro, 0, 1, false⟩

/-- `THM.LIFE_USED` (R460). Its reset value is the model's (log entry 3). -/
def Reg.THM_LIFE_USED : Fld := ⟨0x06, 0x078, 0, 20, .ro, 0, 1, false⟩

/-- `THM.TRIPS` (R460). Its reset value is the model's (log entry 3). -/
def Reg.THM_TRIPS : Fld := ⟨0x06, 0x07C, 0, 16, .ro, 0, 1, false⟩

/-- `CLT.IN_T` (R461). -/
def Reg.CLT_IN_T : Fld := ⟨0x07, 0x040, 0, 16, .ro, 0, 1, false⟩

/-- `CLT.OUT_T` (R461). -/
def Reg.CLT_OUT_T : Fld := ⟨0x07, 0x044, 0, 16, .ro, 0, 1, false⟩

/-- `CLT.TRAY_SUPPLY_T` (R461). -/
def Reg.CLT_TRAY_SUPPLY_T : Fld := ⟨0x07, 0x048, 0, 16, .ro, 0, 1, false⟩

/-- `CLT.TRAY_RETURN_T` (R461). -/
def Reg.CLT_TRAY_RETURN_T : Fld := ⟨0x07, 0x04C, 0, 16, .ro, 0, 1, false⟩

/-- `CLT.FLOW` (R461). -/
def Reg.CLT_FLOW : Fld := ⟨0x07, 0x050, 0, 16, .ro, 0, 1, false⟩

/-- `CLT.STAT.STOPPED` (R461). -/
def Reg.CLT_STAT_STOPPED : Fld := ⟨0x07, 0x054, 6, 1, .ro, 0, 1, false⟩

/-- `CLT.STAT.SLOW_FLOW` (R461). -/
def Reg.CLT_STAT_SLOW_FLOW : Fld := ⟨0x07, 0x054, 5, 1, .ro, 0, 1, false⟩

/-- `CLT.STAT.HOSE_REVERSED` (R461). -/
def Reg.CLT_STAT_HOSE_REVERSED : Fld := ⟨0x07, 0x054, 4, 1, .ro, 0, 1, false⟩

/-- `CLT.STAT.TRAY_SWAPPED` (R461). -/
def Reg.CLT_STAT_TRAY_SWAPPED : Fld := ⟨0x07, 0x054, 3, 1, .ro, 0, 1, false⟩

/-- `CLT.STAT.TRAY_LOST` (R461). -/
def Reg.CLT_STAT_TRAY_LOST : Fld := ⟨0x07, 0x054, 2, 1, .ro, 0, 1, false⟩

/-- `CLT.STAT.INLET_OUT` (R461). -/
def Reg.CLT_STAT_INLET_OUT : Fld := ⟨0x07, 0x054, 1, 1, .ro, 0, 1, false⟩

/-- `CLT.STAT.IN_SPEC` (R461). -/
def Reg.CLT_STAT_IN_SPEC : Fld := ⟨0x07, 0x054, 0, 1, .ro, 0, 1, false⟩

/-- `CLT.OUT_SLOPE` (R461). -/
def Reg.CLT_OUT_SLOPE : Fld := ⟨0x07, 0x058, 0, 16, .ro, 0, 1, false⟩

/-- `CLT.STOPS` (R461). Its reset value is the model's (log entry 3). -/
def Reg.CLT_STOPS : Fld := ⟨0x07, 0x05C, 0, 16, .ro, 0, 1, false⟩

/-- `ERR.CTL.RING_EN` (R411). -/
def Reg.ERR_CTL_RING_EN : Fld := ⟨0x08, 0x040, 31, 1, .rw, 0, 1, false⟩

/-- `ERR.CTL.RING_LOG2` (R411). -/
def Reg.ERR_CTL_RING_LOG2 : Fld := ⟨0x08, 0x040, 16, 5, .rw, 6, 1, false⟩

/-- `ERR.CTL.VECTOR` (R411). -/
def Reg.ERR_CTL_VECTOR : Fld := ⟨0x08, 0x040, 0, 11, .rw, 0, 1, false⟩

/-- `ERR.STAT.RECOVERING` (R411). -/
def Reg.ERR_STAT_RECOVERING : Fld := ⟨0x08, 0x044, 31, 1, .ro, 0, 1, false⟩

/-- `ERR.STAT.PHASE` (R411). -/
def Reg.ERR_STAT_PHASE : Fld := ⟨0x08, 0x044, 28, 3, .ro, 0, 1, false⟩

/-- `ERR.STAT.CHASE` (R411). -/
def Reg.ERR_STAT_CHASE : Fld := ⟨0x08, 0x044, 0, 8, .ro, 0, 1, false⟩

/-- `ERR.RING_BASE` (R411). -/
def Reg.ERR_RING_BASE : Fld := ⟨0x08, 0x048, 0, 64, .rw, 0, 1, true⟩

/-- `ERR.RING_HEAD` (R411). -/
def Reg.ERR_RING_HEAD : Fld := ⟨0x08, 0x050, 0, 16, .rw, 0, 1, false⟩

/-- `ERR.RING_TAIL` (R411). -/
def Reg.ERR_RING_TAIL : Fld := ⟨0x08, 0x054, 0, 16, .ro, 0, 1, false⟩

/-- `ERR.RING_LOST` (R411). -/
def Reg.ERR_RING_LOST : Fld := ⟨0x08, 0x058, 0, 32, .rc, 0, 1, false⟩

/-- `ERR.SUPPRESSED` (R411). -/
def Reg.ERR_SUPPRESSED : Fld := ⟨0x08, 0x05C, 0, 32, .rc, 0, 1, false⟩

/-- `ERR.LOG_SEL` (R411). -/
def Reg.ERR_LOG_SEL : Fld := ⟨0x08, 0x060, 0, 6, .rw, 0, 1, false⟩

/-- `ERR.LOG_COUNT` (R411). -/
def Reg.ERR_LOG_COUNT : Fld := ⟨0x08, 0x064, 0, 7, .ro, 0, 1, false⟩

/-- `ERR.LOG_LOST` (R411). -/
def Reg.ERR_LOG_LOST : Fld := ⟨0x08, 0x068, 0, 32, .rc, 0, 1, false⟩

/-- `ERR.SEQ` (R411). -/
def Reg.ERR_SEQ : Fld := ⟨0x08, 0x06C, 0, 32, .ro, 0, 1, false⟩

/-- `ERR.LOG_DATA` (R411). -/
def Reg.ERR_LOG_DATA : Fld := ⟨0x08, 0x080, 0, 32, .ro, 0, 16, false⟩

/-- `ERR.CLASS_CNT` (R411). -/
def Reg.ERR_CLASS_CNT : Fld := ⟨0x08, 0x0C0, 0, 32, .ro, 0, 5, false⟩

/-- `ERR.ERRATA_SEL` (R411). -/
def Reg.ERR_ERRATA_SEL : Fld := ⟨0x08, 0x0D4, 0, 14, .rw, 0, 1, false⟩

/-- `ERR.ERRATA_DATA` (R411). Its reset value is the model's (log entry 3). -/
def Reg.ERR_ERRATA_DATA : Fld := ⟨0x08, 0x0D8, 0, 32, .ro, 0, 1, false⟩

/-- `ERR.SPARE_USE.SEG_TWO` (R411). Its reset value is the model's (log entry 3). -/
def Reg.ERR_SPARE_USE_SEG_TWO : Fld := ⟨0x08, 0x0DC, 16, 15, .ro, 0, 1, false⟩

/-- `ERR.SPARE_USE.SEG_ONE` (R411). Its reset value is the model's (log entry 3). -/
def Reg.ERR_SPARE_USE_SEG_ONE : Fld := ⟨0x08, 0x0DC, 0, 15, .ro, 0, 1, false⟩

/-- `ERR.STREAM_MIN` (R411). -/
def Reg.ERR_STREAM_MIN : Fld := ⟨0x08, 0x0E0, 0, 64, .ro, 0, 1, true⟩

/-- `ERR.FAULT_MIN` (R411). -/
def Reg.ERR_FAULT_MIN : Fld := ⟨0x08, 0x0E8, 0, 64, .ro, 0, 1, true⟩

/-- `ERR.KPR_STAT.REBUILDING` (R411). -/
def Reg.ERR_KPR_STAT_REBUILDING : Fld := ⟨0x08, 0x0F0, 4, 4, .ro, 0, 1, false⟩

/-- `ERR.KPR_STAT.PAIR` (R411). -/
def Reg.ERR_KPR_STAT_PAIR : Fld := ⟨0x08, 0x0F0, 0, 4, .ro, 0, 1, false⟩

/-- `ERR.KPR_MINORITY` (R411). -/
def Reg.ERR_KPR_MINORITY : Fld := ⟨0x08, 0x0F4, 0, 32, .ro, 0, 1, false⟩

/-- `ERR.PARTNER_CTL.ENABLE` (R411). -/
def Reg.ERR_PARTNER_CTL_ENABLE : Fld := ⟨0x08, 0x100, 31, 1, .rwl, 0, 1, false⟩

/-- `ERR.PARTNER_CTL.MIRROR_KV` (R411). -/
def Reg.ERR_PARTNER_CTL_MIRROR_KV : Fld := ⟨0x08, 0x100, 30, 1, .rwl, 0, 1, false⟩

/-- `ERR.PARTNER_CTL.PORTS` (R411). -/
def Reg.ERR_PARTNER_CTL_PORTS : Fld := ⟨0x08, 0x100, 0, 16, .rwl, 0, 1, false⟩

/-- `ERR.PARTNER_STAT.READY` (R411). -/
def Reg.ERR_PARTNER_STAT_READY : Fld := ⟨0x08, 0x104, 31, 1, .ro, 0, 1, false⟩

/-- `ERR.PARTNER_STAT.HANDED` (R411). -/
def Reg.ERR_PARTNER_STAT_HANDED : Fld := ⟨0x08, 0x104, 30, 1, .ro, 0, 1, false⟩

/-- `ERR.PARTNER_STAT.REASON` (R411). -/
def Reg.ERR_PARTNER_STAT_REASON : Fld := ⟨0x08, 0x104, 0, 3, .ro, 5, 1, false⟩

/-- `ERR.PARTNER_ID` (R411). -/
def Reg.ERR_PARTNER_ID : Fld := ⟨0x08, 0x108, 0, 32, .rwl, 0, 4, false⟩

/-- `ERR.RECOVERIES` (R411). -/
def Reg.ERR_RECOVERIES : Fld := ⟨0x08, 0x118, 0, 32, .ro, 0, 1, false⟩

/-- `ERR.LAST_STALL` (R411). -/
def Reg.ERR_LAST_STALL : Fld := ⟨0x08, 0x11C, 0, 32, .ro, 0, 1, false⟩

/-- `ERR.ERRATA_EXT_SEL` (R411). -/
def Reg.ERR_ERRATA_EXT_SEL : Fld := ⟨0x08, 0x120, 0, 12, .rw, 0, 1, false⟩

/-- `ERR.ERRATA_EXT_DATA` (R411). Its reset value is the model's (log entry 3). -/
def Reg.ERR_ERRATA_EXT_DATA : Fld := ⟨0x08, 0x124, 0, 32, .ro, 0, 1, false⟩

/-- `ERR.EXT_USED` (R411). Its reset value is the model's (log entry 3). -/
def Reg.ERR_EXT_USED : Fld := ⟨0x08, 0x128, 16, 13, .ro, 0, 1, false⟩

/-- `ERR.SEG_MORE` (R411). Its reset value is the model's (log entry 3). -/
def Reg.ERR_SEG_MORE : Fld := ⟨0x08, 0x128, 0, 14, .ro, 0, 1, false⟩

/-- `FAB.DETOUR` (R552). -/
def Reg.FAB_DETOUR : Fld := ⟨0x09, 0x040, 0, 32, .ro, 0, 8, false⟩

/-- `FAB.PARITY_EVENTS` (R552). -/
def Reg.FAB_PARITY_EVENTS : Fld := ⟨0x09, 0x060, 0, 32, .ro, 0, 1, false⟩

/-- `FAB.DEADLOCKS` (R552). -/
def Reg.FAB_DEADLOCKS : Fld := ⟨0x09, 0x064, 0, 32, .ro, 0, 1, false⟩

/-- `FAB.BAD_ROUTES` (R552). -/
def Reg.FAB_BAD_ROUTES : Fld := ⟨0x09, 0x068, 0, 32, .ro, 0, 1, false⟩

/-- `FAB.TRANSIT_LOST` (R552). -/
def Reg.FAB_TRANSIT_LOST : Fld := ⟨0x09, 0x06C, 0, 32, .ro, 0, 1, false⟩

/-- `KPR.FENCED` (R553). -/
def Reg.KPR_FENCED : Fld := ⟨0x0A, 0x040, 8, 3, .ro, 0, 4, false⟩

/-- `KPR.STATE` (R553). -/
def Reg.KPR_STATE : Fld := ⟨0x0A, 0x040, 0, 3, .ro, 0, 4, false⟩

/-- `KPR.FW_VER` (R553). -/
def Reg.KPR_FW_VER : Fld := ⟨0x0A, 0x050, 0, 32, .ro, 0, 1, false⟩

/-- `KPR.KAPI_MAJOR` (R553). -/
def Reg.KPR_KAPI_MAJOR : Fld := ⟨0x0A, 0x054, 16, 16, .ro, 0, 1, false⟩

/-- `KPR.KAPI_MINOR` (R553). -/
def Reg.KPR_KAPI_MINOR : Fld := ⟨0x0A, 0x054, 0, 16, .ro, 0, 1, false⟩

/-- `KPR.WDOG_MISSES` (R553). -/
def Reg.KPR_WDOG_MISSES : Fld := ⟨0x0A, 0x058, 0, 32, .ro, 0, 1, false⟩

/-- `HST.PORT_SEL` (R525). -/
def Reg.HST_PORT_SEL : Fld := ⟨0x0B, 0x040, 0, 2, .rw, 0, 1, false⟩

/-- `HST.PORT_STAT.UP` (R525). -/
def Reg.HST_PORT_STAT_UP : Fld := ⟨0x0B, 0x044, 31, 1, .ro, 0, 1, false⟩

/-- `HST.PORT_STAT.FLIT` (R525). -/
def Reg.HST_PORT_STAT_FLIT : Fld := ⟨0x0B, 0x044, 30, 1, .ro, 0, 1, false⟩

/-- `HST.PORT_STAT.CXL` (R525). -/
def Reg.HST_PORT_STAT_CXL : Fld := ⟨0x0B, 0x044, 29, 1, .ro, 0, 1, false⟩

/-- `HST.PORT_STAT.WIDTH` (R525). -/
def Reg.HST_PORT_STAT_WIDTH : Fld := ⟨0x0B, 0x044, 16, 5, .ro, 0, 1, false⟩

/-- `HST.PORT_STAT.SPEED` (R525). -/
def Reg.HST_PORT_STAT_SPEED : Fld := ⟨0x0B, 0x044, 0, 4, .ro, 0, 1, false⟩

/-- `HST.FAILOVERS` (R525). -/
def Reg.HST_FAILOVERS : Fld := ⟨0x0B, 0x048, 0, 32, .ro, 0, 1, false⟩

/-- `HST.AER_CORR` (R525). -/
def Reg.HST_AER_CORR : Fld := ⟨0x0B, 0x04C, 0, 32, .ro, 0, 1, false⟩

/-- `HST.WIN_SEL` (R525). -/
def Reg.HST_WIN_SEL : Fld := ⟨0x0B, 0x050, 0, 6, .rw, 0, 1, false⟩

/-- `HST.WIN_BASE` (R525). -/
def Reg.HST_WIN_BASE : Fld := ⟨0x0B, 0x054, 0, 64, .rw, 0, 1, true⟩

/-- `HST.WIN_SIZE` (R525). -/
def Reg.HST_WIN_SIZE : Fld := ⟨0x0B, 0x05C, 0, 64, .rw, 0, 1, true⟩

/-- `HST.WIN_CTL.FORME` (R525). -/
def Reg.HST_WIN_CTL_FORME : Fld := ⟨0x0B, 0x064, 2, 1, .rw, 0, 1, false⟩

/-- `HST.WIN_CTL.WRITE` (R525). -/
def Reg.HST_WIN_CTL_WRITE : Fld := ⟨0x0B, 0x064, 1, 1, .rw, 0, 1, false⟩

/-- `HST.WIN_CTL.ENABLE` (R525). -/
def Reg.HST_WIN_CTL_ENABLE : Fld := ⟨0x0B, 0x064, 0, 1, .rw, 0, 1, false⟩

/-- `HST.WIN_STAT.WIN_BUSY` (R525). -/
def Reg.HST_WIN_STAT_WIN_BUSY : Fld := ⟨0x0B, 0x068, 1, 1, .w1c, 0, 1, false⟩

/-- `HST.WIN_STAT.RING_REFUSED` (R525). -/
def Reg.HST_WIN_STAT_RING_REFUSED : Fld := ⟨0x0B, 0x068, 0, 1, .w1c, 0, 1, false⟩

/-- `HST.T2_BASE` (R525). -/
def Reg.HST_T2_BASE : Fld := ⟨0x0B, 0x070, 0, 64, .rw, 0, 1, true⟩

/-- `HST.T2_SIZE` (R525). -/
def Reg.HST_T2_SIZE : Fld := ⟨0x0B, 0x078, 0, 64, .rw, 0, 1, true⟩

/-- `HST.CXL_CTL.MEM_EN` (R525). -/
def Reg.HST_CXL_CTL_MEM_EN : Fld := ⟨0x0B, 0x080, 1, 1, .rw, 0, 1, false⟩

/-- `HST.CXL_CTL.CACHE_EN` (R525). -/
def Reg.HST_CXL_CTL_CACHE_EN : Fld := ⟨0x0B, 0x080, 0, 1, .rw, 0, 1, false⟩

/-- `HST.RD_BYTES` (R525). -/
def Reg.HST_RD_BYTES : Fld := ⟨0x0B, 0x088, 0, 64, .ro, 0, 1, true⟩

/-- `HST.WR_BYTES` (R525). -/
def Reg.HST_WR_BYTES : Fld := ⟨0x0B, 0x090, 0, 64, .ro, 0, 1, true⟩

/-- `HST.T2_USED_MIB` (R525). -/
def Reg.HST_T2_USED_MIB : Fld := ⟨0x0B, 0x098, 0, 32, .ro, 0, 1, false⟩

/-- `SRV.Q_SEL` (R343). -/
def Reg.SRV_Q_SEL : Fld := ⟨0x0C, 0x040, 0, 10, .rw, 0, 1, false⟩

/-- `SRV.Q_CTL.ENABLE` (R343). -/
def Reg.SRV_Q_CTL_ENABLE : Fld := ⟨0x0C, 0x044, 31, 1, .rw, 0, 1, false⟩

/-- `SRV.Q_CTL.ADMIN` (R343). -/
def Reg.SRV_Q_CTL_ADMIN : Fld := ⟨0x0C, 0x044, 30, 1, .rw, 0, 1, false⟩

/-- `SRV.Q_CTL.PRIORITY` (R343). -/
def Reg.SRV_Q_CTL_PRIORITY : Fld := ⟨0x0C, 0x044, 28, 2, .rw, 0, 1, false⟩

/-- `SRV.Q_CTL.SQ_LOG2` (R343). -/
def Reg.SRV_Q_CTL_SQ_LOG2 : Fld := ⟨0x0C, 0x044, 20, 5, .rw, 4, 1, false⟩

/-- `SRV.Q_CTL.RQ_LOG2` (R343). -/
def Reg.SRV_Q_CTL_RQ_LOG2 : Fld := ⟨0x0C, 0x044, 15, 5, .rw, 4, 1, false⟩

/-- `SRV.Q_CTL.VECTOR` (R343). -/
def Reg.SRV_Q_CTL_VECTOR : Fld := ⟨0x0C, 0x044, 0, 11, .rw, 0, 1, false⟩

/-- `SRV.SQ_BASE` (R343). -/
def Reg.SRV_SQ_BASE : Fld := ⟨0x0C, 0x048, 0, 64, .rw, 0, 1, true⟩

/-- `SRV.RQ_BASE` (R343). -/
def Reg.SRV_RQ_BASE : Fld := ⟨0x0C, 0x050, 0, 64, .rw, 0, 1, true⟩

/-- `SRV.Q_COALESCE.COUNT` (R343). -/
def Reg.SRV_Q_COALESCE_COUNT : Fld := ⟨0x0C, 0x058, 16, 16, .rw, 0, 1, false⟩

/-- `SRV.Q_COALESCE.TIME` (R343). -/
def Reg.SRV_Q_COALESCE_TIME : Fld := ⟨0x0C, 0x058, 0, 16, .rw, 0, 1, false⟩

/-- `SRV.Q_STAT.RING_HOLD` (R343). -/
def Reg.SRV_Q_STAT_RING_HOLD : Fld := ⟨0x0C, 0x05C, 1, 1, .ro, 0, 1, false⟩

/-- `SRV.Q_STAT.ACTIVE` (R343). -/
def Reg.SRV_Q_STAT_ACTIVE : Fld := ⟨0x0C, 0x05C, 0, 1, .ro, 0, 1, false⟩

/-- `SRV.F_SEL` (R343). -/
def Reg.SRV_F_SEL : Fld := ⟨0x0C, 0x070, 0, 4, .rw, 0, 1, false⟩

/-- `SRV.F_SHAPE.L` (R343). -/
def Reg.SRV_F_SHAPE_L : Fld := ⟨0x0C, 0x074, 16, 5, .ro, 0, 1, false⟩

/-- `SRV.F_SHAPE.H` (R343). -/
def Reg.SRV_F_SHAPE_H : Fld := ⟨0x0C, 0x074, 8, 4, .ro, 0, 1, false⟩

/-- `SRV.F_SHAPE.B` (R343). -/
def Reg.SRV_F_SHAPE_B : Fld := ⟨0x0C, 0x074, 0, 5, .ro, 0, 1, false⟩

/-- `SRV.F_SLOTS` (R343). -/
def Reg.SRV_F_SLOTS : Fld := ⟨0x0C, 0x078, 0, 16, .ro, 0, 1, false⟩

/-- `SRV.F_CYCLE_NS` (R343). -/
def Reg.SRV_F_CYCLE_NS : Fld := ⟨0x0C, 0x07C, 0, 32, .ro, 0, 1, false⟩

/-- `SRV.F_RESERVED` (R343). -/
def Reg.SRV_F_RESERVED : Fld := ⟨0x0C, 0x080, 0, 24, .ro, 0, 1, false⟩

/-- `SRV.F_VOCAB` (R343). -/
def Reg.SRV_F_VOCAB : Fld := ⟨0x0C, 0x084, 0, 24, .ro, 0, 1, false⟩

/-- `SRV.MOOR_LIMIT` (R343). -/
def Reg.SRV_MOOR_LIMIT : Fld := ⟨0x0C, 0x090, 0, 8, .rw, 230, 1, false⟩

/-- `SRV.SLIP_MARGIN` (R343). -/
def Reg.SRV_SLIP_MARGIN : Fld := ⟨0x0C, 0x094, 0, 8, .rw, 10, 1, false⟩

/-- `SRV.QUEUED` (R343). -/
def Reg.SRV_QUEUED : Fld := ⟨0x0C, 0x098, 15, 15, .ro, 0, 1, false⟩

/-- `SRV.LIVE` (R343). -/
def Reg.SRV_LIVE : Fld := ⟨0x0C, 0x098, 0, 15, .ro, 0, 1, false⟩

/-- `SRV.CONV_EXPIRED` (R343). -/
def Reg.SRV_CONV_EXPIRED : Fld := ⟨0x0C, 0x0A0, 0, 64, .rc, 0, 1, true⟩

/-- `PFX.LIMIT_GIB` (R344). -/
def Reg.PFX_LIMIT_GIB : Fld := ⟨0x0D, 0x040, 0, 32, .rw, 256, 1, false⟩

/-- `PFX.HELD_GIB` (R344). -/
def Reg.PFX_HELD_GIB : Fld := ⟨0x0D, 0x044, 0, 32, .ro, 0, 1, false⟩

/-- `PFX.LOOKUPS` (R344). -/
def Reg.PFX_LOOKUPS : Fld := ⟨0x0D, 0x048, 0, 64, .ro, 0, 1, true⟩

/-- `PFX.HITS` (R344). -/
def Reg.PFX_HITS : Fld := ⟨0x0D, 0x050, 0, 64, .ro, 0, 1, true⟩

/-- `LOAD.STAT.BUSY` (R375). -/
def Reg.LOAD_STAT_BUSY : Fld := ⟨0x0E, 0x040, 31, 1, .ro, 0, 1, false⟩

/-- `LOAD.STAT.PHASE` (R375). -/
def Reg.LOAD_STAT_PHASE : Fld := ⟨0x0E, 0x040, 28, 3, .ro, 0, 1, false⟩

/-- `LOAD.STAT.FORME` (R375). -/
def Reg.LOAD_STAT_FORME : Fld := ⟨0x0E, 0x040, 20, 4, .ro, 0, 1, false⟩

/-- `LOAD.STAT.LAST_STATUS` (R375). -/
def Reg.LOAD_STAT_LAST_STATUS : Fld := ⟨0x0E, 0x040, 0, 16, .ro, 0, 1, false⟩

/-- `LOAD.PROGRESS.LAYERS_TOTAL` (R375). -/
def Reg.LOAD_PROGRESS_LAYERS_TOTAL : Fld := ⟨0x0E, 0x044, 16, 9, .ro, 0, 1, false⟩

/-- `LOAD.PROGRESS.LAYERS_DONE` (R375). -/
def Reg.LOAD_PROGRESS_LAYERS_DONE : Fld := ⟨0x0E, 0x044, 0, 9, .ro, 0, 1, false⟩

/-- `LOAD.BYTES` (R375). -/
def Reg.LOAD_BYTES : Fld := ⟨0x0E, 0x048, 0, 64, .ro, 0, 1, true⟩

/-- `LOAD.CTL.STAGE_SHARE` (R375). -/
def Reg.LOAD_CTL_STAGE_SHARE : Fld := ⟨0x0E, 0x050, 8, 8, .rw, 64, 1, false⟩

/-- `LOAD.CTL.AUDIT_EN` (R375). -/
def Reg.LOAD_CTL_AUDIT_EN : Fld := ⟨0x0E, 0x050, 1, 1, .rw, 1, 1, false⟩

/-- `LOAD.CTL.SERVE_LINK` (R375). -/
def Reg.LOAD_CTL_SERVE_LINK : Fld := ⟨0x0E, 0x050, 0, 1, .rw, 0, 1, false⟩

/-- `LOAD.AUDIT_PERIOD` (R375). -/
def Reg.LOAD_AUDIT_PERIOD : Fld := ⟨0x0E, 0x054, 0, 32, .rw, 3600, 1, false⟩

/-- `LOAD.LINK_WAIT` (R375). -/
def Reg.LOAD_LINK_WAIT : Fld := ⟨0x0E, 0x058, 0, 16, .rw, 10, 1, false⟩

/-- `LOAD.F_SEL` (R375). -/
def Reg.LOAD_F_SEL : Fld := ⟨0x0E, 0x060, 0, 4, .rw, 0, 1, false⟩

/-- `LOAD.F_STATE` (R375). -/
def Reg.LOAD_F_STATE : Fld := ⟨0x0E, 0x064, 0, 3, .ro, 0, 1, false⟩

/-- `LOAD.F_GEN` (R375). -/
def Reg.LOAD_F_GEN : Fld := ⟨0x0E, 0x068, 0, 32, .ro, 0, 1, false⟩

/-- `LOAD.F_IDENT` (R375). -/
def Reg.LOAD_F_IDENT : Fld := ⟨0x0E, 0x070, 0, 32, .ro, 0, 12, false⟩

/-- `LOAD.ARBITRATIONS` (R375). -/
def Reg.LOAD_ARBITRATIONS : Fld := ⟨0x0E, 0x0A0, 0, 32, .ro, 0, 1, false⟩

/-- `LOAD.DIVERGED` (R375). -/
def Reg.LOAD_DIVERGED : Fld := ⟨0x0E, 0x0A4, 0, 32, .ro, 0, 1, false⟩

/-- `LOAD.QUARANTINES` (R375). -/
def Reg.LOAD_QUARANTINES : Fld := ⟨0x0E, 0x0A8, 0, 32, .ro, 0, 1, false⟩

/-- `LOAD.AUDIT_SWEEPS` (R375). -/
def Reg.LOAD_AUDIT_SWEEPS : Fld := ⟨0x0E, 0x0AC, 0, 32, .ro, 0, 1, false⟩

/-- `SMP.PROOF_TRIES` (R345). -/
def Reg.SMP_PROOF_TRIES : Fld := ⟨0x0F, 0x040, 0, 64, .ro, 0, 1, true⟩

/-- `SMP.PROOF_ACCEPTS` (R345). -/
def Reg.SMP_PROOF_ACCEPTS : Fld := ⟨0x0F, 0x048, 0, 64, .ro, 0, 1, true⟩

/-- `TEL.CTL.EN` (R545). -/
def Reg.TEL_CTL_EN : Fld := ⟨0x10, 0x040, 31, 1, .rw, 0, 1, false⟩

/-- `TEL.CTL.LOG2` (R545). -/
def Reg.TEL_CTL_LOG2 : Fld := ⟨0x10, 0x040, 16, 5, .rw, 8, 1, false⟩

/-- `TEL.CTL.VECTOR` (R545). -/
def Reg.TEL_CTL_VECTOR : Fld := ⟨0x10, 0x040, 0, 11, .rw, 0, 1, false⟩

/-- `TEL.KIND_EN` (R545). -/
def Reg.TEL_KIND_EN : Fld := ⟨0x10, 0x044, 0, 16, .rw, 240, 1, false⟩

/-- `TEL.BASE` (R545). -/
def Reg.TEL_BASE : Fld := ⟨0x10, 0x048, 0, 64, .rw, 0, 1, true⟩

/-- `TEL.HEAD` (R545). -/
def Reg.TEL_HEAD : Fld := ⟨0x10, 0x050, 0, 16, .rw, 0, 1, false⟩

/-- `TEL.TAIL` (R545). -/
def Reg.TEL_TAIL : Fld := ⟨0x10, 0x054, 0, 16, .ro, 0, 1, false⟩

/-- `TEL.LOST` (R545). -/
def Reg.TEL_LOST : Fld := ⟨0x10, 0x058, 0, 32, .ro, 0, 1, false⟩

/-- `DBG.OPEN` (R555). -/
def Reg.DBG_OPEN : Fld := ⟨0x11, 0x040, 0, 1, .ro, 0, 1, false⟩

/-- `DBG.REFUSED` (R555). -/
def Reg.DBG_REFUSED : Fld := ⟨0x11, 0x044, 0, 32, .ro, 0, 1, false⟩

/-- `DBG.CORE_SEL.VALID` (R555). -/
def Reg.DBG_CORE_SEL_VALID : Fld := ⟨0x11, 0x100, 31, 1, .rwl, 0, 128, false⟩

/-- `DBG.CORE_SEL.ROW` (R555). -/
def Reg.DBG_CORE_SEL_ROW : Fld := ⟨0x11, 0x100, 11, 10, .rwl, 0, 128, false⟩

/-- `DBG.CORE_SEL.LCOL` (R555). -/
def Reg.DBG_CORE_SEL_LCOL : Fld := ⟨0x11, 0x100, 0, 11, .rwl, 0, 128, false⟩

/-- `MGT.ADDR` (R556). Its reset value is the model's (log entry 3). -/
def Reg.MGT_ADDR : Fld := ⟨0x12, 0x040, 0, 7, .ro, 52, 1, false⟩

/-- `MGT.EID.EID_SMB` (R556). -/
def Reg.MGT_EID_EID_SMB : Fld := ⟨0x12, 0x044, 8, 8, .ro, 0, 1, false⟩

/-- `MGT.EID.EID_I3C` (R556). -/
def Reg.MGT_EID_EID_I3C : Fld := ⟨0x12, 0x044, 0, 8, .ro, 0, 1, false⟩

/-- `MGT.BUS_STAT.TRAY_ISOLATED` (R556). -/
def Reg.MGT_BUS_STAT_TRAY_ISOLATED : Fld := ⟨0x12, 0x048, 2, 1, .ro, 0, 1, false⟩

/-- `MGT.BUS_STAT.SMB_OK` (R556). -/
def Reg.MGT_BUS_STAT_SMB_OK : Fld := ⟨0x12, 0x048, 1, 1, .ro, 0, 1, false⟩

/-- `MGT.BUS_STAT.I3C_OK` (R556). -/
def Reg.MGT_BUS_STAT_I3C_OK : Fld := ⟨0x12, 0x048, 0, 1, .ro, 0, 1, false⟩

/-- `MGT.MESSAGES` (R556). -/
def Reg.MGT_MESSAGES : Fld := ⟨0x12, 0x04C, 0, 32, .ro, 0, 1, false⟩

/-- `MGT.EVENTS_PENDING` (R556). -/
def Reg.MGT_EVENTS_PENDING : Fld := ⟨0x12, 0x050, 0, 16, .ro, 0, 1, false⟩

/-- `USE.INTERVAL_S` (R551). -/
def Reg.USE_INTERVAL_S : Fld := ⟨0x13, 0x040, 0, 12, .rw, 60, 1, false⟩

/-- `USE.STAT.EXTENDED` (R551). -/
def Reg.USE_STAT_EXTENDED : Fld := ⟨0x13, 0x044, 31, 1, .ro, 0, 1, false⟩

/-- `USE.STAT.BAD_WRITE` (R551). -/
def Reg.USE_STAT_BAD_WRITE : Fld := ⟨0x13, 0x044, 30, 1, .w1c, 0, 1, false⟩

/-- `USE.STAT.READY` (R551). -/
def Reg.USE_STAT_READY : Fld := ⟨0x13, 0x044, 29, 1, .ro, 0, 1, false⟩

/-- `USE.STAT.ABSENT` (R551). -/
def Reg.USE_STAT_ABSENT : Fld := ⟨0x13, 0x044, 28, 1, .ro, 0, 1, false⟩

/-- `USE.STAT.HELD` (R551). Its reset value is the model's (log entry 3). -/
def Reg.USE_STAT_HELD : Fld := ⟨0x13, 0x044, 0, 14, .ro, 0, 1, false⟩

/-- `USE.SEQ_OLDEST` (R551). Its reset value is the model's (log entry 3). -/
def Reg.USE_SEQ_OLDEST : Fld := ⟨0x13, 0x048, 0, 64, .ro, 0, 1, true⟩

/-- `USE.SEQ_NEWEST` (R551). Its reset value is the model's (log entry 3). -/
def Reg.USE_SEQ_NEWEST : Fld := ⟨0x13, 0x050, 0, 64, .ro, 0, 1, true⟩

/-- `USE.RD_SEQ` (R551). -/
def Reg.USE_RD_SEQ : Fld := ⟨0x13, 0x058, 0, 64, .rw, 0, 1, true⟩

/-- `USE.ACK_SEQ` (R551). -/
def Reg.USE_ACK_SEQ : Fld := ⟨0x13, 0x060, 0, 64, .wo, 0, 1, true⟩

/-- `USE.OPEN_START` (R551). Its reset value is the model's (log entry 3). -/
def Reg.USE_OPEN_START : Fld := ⟨0x13, 0x068, 0, 64, .ro, 0, 1, true⟩

/-- `USE.OPEN_PAIRS` (R551). -/
def Reg.USE_OPEN_PAIRS : Fld := ⟨0x13, 0x070, 0, 16, .ro, 0, 1, false⟩

/-- `USE.KEY_X` (R551). Its reset value is the model's (log entry 3). -/
def Reg.USE_KEY_X : Fld := ⟨0x13, 0x100, 0, 32, .ro, 0, 12, false⟩

/-- `USE.KEY_Y` (R551). Its reset value is the model's (log entry 3). -/
def Reg.USE_KEY_Y : Fld := ⟨0x13, 0x130, 0, 32, .ro, 0, 12, false⟩

/-- `USE.RD_DATA` (R551). -/
def Reg.USE_RD_DATA : Fld := ⟨0x13, 0x800, 0, 32, .ro, 0, 408, false⟩

/-- `CHS.SCHED_CNT_LO/HI.COUNT` (R179). -/
def Reg.CHS_SCHED_CNT : Fld := ⟨0x20, 0x040, 0, 48, .ro, 0, 1, true⟩

/-- `CHS.SCHED_CTL.HALTED` (R179). -/
def Reg.CHS_SCHED_CTL_HALTED : Fld := ⟨0x20, 0x048, 1, 1, .ro, 0, 1, false⟩

/-- `CHS.SCHED_CTL.HALT_REQ` (R179). -/
def Reg.CHS_SCHED_CTL_HALT_REQ : Fld := ⟨0x20, 0x048, 0, 1, .rw, 0, 1, false⟩

/-- `CHS.SLIP_STAT.FROZEN` (R179). -/
def Reg.CHS_SLIP_STAT_FROZEN : Fld := ⟨0x20, 0x04C, 31, 1, .ro, 0, 1, false⟩

/-- `CHS.SLIP_STAT.OPEN_REQS` (R179). -/
def Reg.CHS_SLIP_STAT_OPEN_REQS : Fld := ⟨0x20, 0x04C, 8, 8, .ro, 0, 1, false⟩

/-- `CHS.SLIP_STAT.LAG_MAX` (R179). -/
def Reg.CHS_SLIP_STAT_LAG_MAX : Fld := ⟨0x20, 0x04C, 0, 7, .ro, 0, 1, false⟩

/-- `CHS.SLIP_CYCLES` (R179). -/
def Reg.CHS_SLIP_CYCLES : Fld := ⟨0x20, 0x050, 0, 64, .ro, 0, 1, true⟩

/-- `CHS.SLIP_EVENTS` (R179). -/
def Reg.CHS_SLIP_EVENTS : Fld := ⟨0x20, 0x058, 0, 64, .ro, 0, 1, true⟩

/-- `CHS.SLIP_LONGEST` (R179). -/
def Reg.CHS_SLIP_LONGEST : Fld := ⟨0x20, 0x060, 0, 32, .rc, 0, 1, false⟩

/-- `CHS.SLIP_LIMIT` (R179). -/
def Reg.CHS_SLIP_LIMIT : Fld := ⟨0x20, 0x064, 0, 32, .rw, 4194304, 1, false⟩

/-- `CHS.SLIP_LAST.SOURCE` (R179). -/
def Reg.CHS_SLIP_LAST_SOURCE : Fld := ⟨0x20, 0x068, 12, 3, .ro, 0, 1, false⟩

/-- `CHS.SLIP_LAST.LCOL` (R179). -/
def Reg.CHS_SLIP_LAST_LCOL : Fld := ⟨0x20, 0x068, 6, 6, .ro, 0, 1, false⟩

/-- `CHS.SLIP_LAST.LROW` (R179). -/
def Reg.CHS_SLIP_LAST_LROW : Fld := ⟨0x20, 0x068, 0, 6, .ro, 0, 1, false⟩

/-- `CHS.SLIP_SRC_CNT` (R179). -/
def Reg.CHS_SLIP_SRC_CNT : Fld := ⟨0x20, 0x070, 0, 32, .ro, 0, 8, false⟩

/-- `CHS.GATE_DUP` (R179). -/
def Reg.CHS_GATE_DUP : Fld := ⟨0x20, 0x090, 0, 32, .ro, 0, 1, false⟩

/-- `CHS.GATE_STALE` (R179). -/
def Reg.CHS_GATE_STALE : Fld := ⟨0x20, 0x094, 0, 32, .ro, 0, 1, false⟩

/-- `CHS.PARK_MAX` (R179). -/
def Reg.CHS_PARK_MAX : Fld := ⟨0x20, 0x098, 0, 32, .rc, 0, 1, false⟩

/-- `CHS.DEADLOCK_LIMIT` (R179). -/
def Reg.CHS_DEADLOCK_LIMIT : Fld := ⟨0x20, 0x0A0, 0, 32, .rw, 1048576, 1, false⟩

/-- `CHS.CORE_CNT_CTL.BUSY` (R136). -/
def Reg.CHS_CORE_CNT_CTL_BUSY : Fld := ⟨0x20, 0x400, 2, 1, .ro, 0, 1, false⟩

/-- `CHS.CORE_CNT_CTL.CLEAR` (R136). -/
def Reg.CHS_CORE_CNT_CTL_CLEAR : Fld := ⟨0x20, 0x400, 1, 1, .w1s, 0, 1, false⟩

/-- `CHS.CORE_CNT_CTL.SNAP` (R136). -/
def Reg.CHS_CORE_CNT_CTL_SNAP : Fld := ⟨0x20, 0x400, 0, 1, .w1s, 0, 1, false⟩

/-- `CHS.CORE_CNT_SEL.MODE` (R136). -/
def Reg.CHS_CORE_CNT_SEL_MODE : Fld := ⟨0x20, 0x404, 31, 1, .rw, 0, 1, false⟩

/-- `CHS.CORE_CNT_SEL.LCOL` (R136). -/
def Reg.CHS_CORE_CNT_SEL_LCOL : Fld := ⟨0x20, 0x404, 6, 6, .rw, 0, 1, false⟩

/-- `CHS.CORE_CNT_SEL.LROW` (R136). -/
def Reg.CHS_CORE_CNT_SEL_LROW : Fld := ⟨0x20, 0x404, 0, 6, .rw, 0, 1, false⟩

/-- `CHS.CNT_PRESS` (R137). -/
def Reg.CHS_CNT_PRESS : Fld := ⟨0x20, 0x410, 0, 64, .ro, 0, 1, true⟩

/-- `CHS.CNT_ZERO_SKIP` (R137). -/
def Reg.CHS_CNT_ZERO_SKIP : Fld := ⟨0x20, 0x418, 0, 64, .ro, 0, 1, true⟩

/-- `CHS.CNT_CORR_ONE` (R137). -/
def Reg.CHS_CNT_CORR_ONE : Fld := ⟨0x20, 0x420, 0, 64, .ro, 0, 1, true⟩

/-- `CHS.CNT_CORR_TWO` (R137). -/
def Reg.CHS_CNT_CORR_TWO : Fld := ⟨0x20, 0x428, 0, 64, .ro, 0, 1, true⟩

/-- `CHS.CNT_POISON` (R137). -/
def Reg.CHS_CNT_POISON : Fld := ⟨0x20, 0x430, 0, 64, .ro, 0, 1, true⟩

/-- `CHS.CNT_NARROW_WAIT` (R137). -/
def Reg.CHS_CNT_NARROW_WAIT : Fld := ⟨0x20, 0x438, 0, 64, .ro, 0, 1, true⟩

/-- `CHS.CNT_WB_FULL` (R137). -/
def Reg.CHS_CNT_WB_FULL : Fld := ⟨0x20, 0x440, 0, 64, .ro, 0, 1, true⟩

/-- `CHS.CNT_NACK` (R137). -/
def Reg.CHS_CNT_NACK : Fld := ⟨0x20, 0x448, 0, 64, .ro, 0, 1, true⟩

/-- `CPW.STATE.LOCAL_SENSE` (R443). -/
def Reg.CPW_STATE_LOCAL_SENSE : Fld := ⟨0x21, 0x040, 12, 1, .ro, 0, 1, false⟩

/-- `CPW.STATE.SENSE_OK` (R443). -/
def Reg.CPW_STATE_SENSE_OK : Fld := ⟨0x21, 0x040, 8, 4, .ro, 15, 1, false⟩

/-- `CPW.STATE.DEFERRED` (R443). -/
def Reg.CPW_STATE_DEFERRED : Fld := ⟨0x21, 0x040, 5, 1, .ro, 0, 1, false⟩

/-- `CPW.STATE.PARKED` (R443). -/
def Reg.CPW_STATE_PARKED : Fld := ⟨0x21, 0x040, 4, 1, .ro, 0, 1, false⟩

/-- `CPW.STATE.RAIL` (R443). -/
def Reg.CPW_STATE_RAIL : Fld := ⟨0x21, 0x040, 0, 3, .ro, 0, 1, false⟩

/-- `CPW.CLK_LIMIT` (R443). -/
def Reg.CPW_CLK_LIMIT : Fld := ⟨0x21, 0x044, 0, 11, .ro, 600, 1, false⟩

/-- `CPW.CLK_NOW` (R443). -/
def Reg.CPW_CLK_NOW : Fld := ⟨0x21, 0x048, 0, 11, .ro, 0, 1, false⟩

/-- `CPW.CLK_MAX` (R443). Its reset value is the model's (log entry 3). -/
def Reg.CPW_CLK_MAX : Fld := ⟨0x21, 0x04C, 0, 11, .ro, 1400, 1, false⟩

/-- `CPW.VSET` (R443). -/
def Reg.CPW_VSET : Fld := ⟨0x21, 0x050, 0, 10, .ro, 0, 1, false⟩

/-- `CPW.VMEAS` (R443). -/
def Reg.CPW_VMEAS : Fld := ⟨0x21, 0x054, 0, 10, .ro, 0, 1, false⟩

/-- `CPW.I_CORE_AVG` (R443). -/
def Reg.CPW_I_CORE_AVG : Fld := ⟨0x21, 0x058, 0, 12, .ro, 0, 1, false⟩

/-- `CPW.I_CORE_PEAK` (R443). -/
def Reg.CPW_I_CORE_PEAK : Fld := ⟨0x21, 0x05C, 0, 12, .ro, 0, 1, false⟩

/-- `CPW.I_TRANSIT_AVG` (R443). -/
def Reg.CPW_I_TRANSIT_AVG : Fld := ⟨0x21, 0x060, 0, 12, .ro, 0, 1, false⟩

/-- `CPW.BANK_GATED` (R443). -/
def Reg.CPW_BANK_GATED : Fld := ⟨0x21, 0x064, 0, 64, .ro, 0, 1, true⟩

/-- `CPW.OC_CNT.OC_TRIP` (R443). -/
def Reg.CPW_OC_CNT_OC_TRIP : Fld := ⟨0x21, 0x06C, 16, 16, .ro, 0, 1, false⟩

/-- `CPW.OC_CNT.OC_WARN` (R443). -/
def Reg.CPW_OC_CNT_OC_WARN : Fld := ⟨0x21, 0x06C, 0, 16, .ro, 0, 1, false⟩

/-- `CPW.DEFER_MS` (R443). -/
def Reg.CPW_DEFER_MS : Fld := ⟨0x21, 0x070, 0, 16, .ro, 0, 1, false⟩

/-- `CPW.HINTS` (R443). -/
def Reg.CPW_HINTS : Fld := ⟨0x21, 0x074, 0, 32, .ro, 0, 1, false⟩

/-- `LNK.CTL.ENABLE` (R526). -/
def Reg.LNK_CTL_ENABLE : Fld := ⟨0x22, 0x040, 31, 1, .rw, 1, 1, false⟩

/-- `LNK.CTL.RETRAIN` (R526). -/
def Reg.LNK_CTL_RETRAIN : Fld := ⟨0x22, 0x040, 30, 1, .w1s, 0, 1, false⟩

/-- `LNK.CTL.LOOPBACK` (R526). -/
def Reg.LNK_CTL_LOOPBACK : Fld := ⟨0x22, 0x040, 29, 1, .rwl, 0, 1, false⟩

/-- `LNK.STAT.PHASE` (R526). -/
def Reg.LNK_STAT_PHASE : Fld := ⟨0x22, 0x044, 28, 4, .ro, 0, 1, false⟩

/-- `LNK.STAT.TIME_SYNCED` (R526). -/
def Reg.LNK_STAT_TIME_SYNCED : Fld := ⟨0x22, 0x044, 27, 1, .ro, 0, 1, false⟩

/-- `LNK.STAT.TIME_PATH` (R526). -/
def Reg.LNK_STAT_TIME_PATH : Fld := ⟨0x22, 0x044, 26, 1, .ro, 0, 1, false⟩

/-- `LNK.STAT.STORED` (R526). -/
def Reg.LNK_STAT_STORED : Fld := ⟨0x22, 0x044, 25, 1, .ro, 0, 1, false⟩

/-- `LNK.STAT.WIDTH` (R526). -/
def Reg.LNK_STAT_WIDTH : Fld := ⟨0x22, 0x044, 16, 6, .ro, 0, 1, false⟩

/-- `LNK.STAT.VER_MAJOR` (R526). -/
def Reg.LNK_STAT_VER_MAJOR : Fld := ⟨0x22, 0x044, 8, 8, .ro, 0, 1, false⟩

/-- `LNK.STAT.VER_MINOR` (R526). -/
def Reg.LNK_STAT_VER_MINOR : Fld := ⟨0x22, 0x044, 0, 8, .ro, 0, 1, false⟩

/-- `LNK.LANE_GOOD` (R526). -/
def Reg.LNK_LANE_GOOD : Fld := ⟨0x22, 0x048, 0, 32, .ro, 0, 1, false⟩

/-- `LNK.LANE_ACTIVE` (R526). -/
def Reg.LNK_LANE_ACTIVE : Fld := ⟨0x22, 0x04C, 0, 32, .ro, 0, 1, false⟩

/-- `LNK.LANE_FLIP` (R526). -/
def Reg.LNK_LANE_FLIP : Fld := ⟨0x22, 0x050, 0, 32, .ro, 0, 1, false⟩

/-- `LNK.CAGE_MAP.ORDER_REV` (R526). -/
def Reg.LNK_CAGE_MAP_ORDER_REV : Fld := ⟨0x22, 0x054, 8, 4, .ro, 0, 1, false⟩

/-- `LNK.CAGE_MAP` (R526). -/
def Reg.LNK_CAGE_MAP : Fld := ⟨0x22, 0x054, 0, 8, .ro, 228, 1, false⟩

/-- `LNK.PEER_ID` (R526). -/
def Reg.LNK_PEER_ID : Fld := ⟨0x22, 0x058, 0, 32, .ro, 0, 4, false⟩

/-- `LNK.PEER_DIE` (R526). -/
def Reg.LNK_PEER_DIE : Fld := ⟨0x22, 0x068, 0, 4, .ro, 0, 1, false⟩

/-- `LNK.EXPECT_ID` (R526). -/
def Reg.LNK_EXPECT_ID : Fld := ⟨0x22, 0x06C, 0, 32, .rw, 0, 4, false⟩

/-- `LNK.EXPECT_DIE.EXPECT_ANY` (R526). -/
def Reg.LNK_EXPECT_DIE_EXPECT_ANY : Fld := ⟨0x22, 0x07C, 4, 1, .rw, 1, 1, false⟩

/-- `LNK.EXPECT_DIE` (R526). -/
def Reg.LNK_EXPECT_DIE : Fld := ⟨0x22, 0x07C, 0, 4, .rw, 0, 1, false⟩

/-- `LNK.SPLIT_CTL.SPLIT_EN` (R526). -/
def Reg.LNK_SPLIT_CTL_SPLIT_EN : Fld := ⟨0x22, 0x080, 4, 1, .rw, 0, 1, false⟩

/-- `LNK.SPLIT_CTL.SPLIT_FORME` (R526). -/
def Reg.LNK_SPLIT_CTL_SPLIT_FORME : Fld := ⟨0x22, 0x080, 0, 4, .rw, 0, 1, false⟩

/-- `LNK.TIME_OFFSET` (R526). -/
def Reg.LNK_TIME_OFFSET : Fld := ⟨0x22, 0x084, 0, 32, .ro, 0, 1, false⟩

/-- `LNK.PATH_DELAY` (R526). -/
def Reg.LNK_PATH_DELAY : Fld := ⟨0x22, 0x088, 0, 32, .ro, 0, 1, false⟩

/-- `LNK.FEC_CORR` (R526). -/
def Reg.LNK_FEC_CORR : Fld := ⟨0x22, 0x090, 0, 64, .ro, 0, 1, true⟩

/-- `LNK.FEC_UNCORR` (R526). -/
def Reg.LNK_FEC_UNCORR : Fld := ⟨0x22, 0x098, 0, 32, .ro, 0, 1, false⟩

/-- `LNK.REPLAYS` (R526). -/
def Reg.LNK_REPLAYS : Fld := ⟨0x22, 0x09C, 0, 32, .ro, 0, 1, false⟩

/-- `LNK.RETRAINS` (R526). -/
def Reg.LNK_RETRAINS : Fld := ⟨0x22, 0x0A0, 16, 16, .ro, 0, 1, false⟩

/-- `LNK.SPARE_SWAPS` (R526). -/
def Reg.LNK_SPARE_SWAPS : Fld := ⟨0x22, 0x0A0, 0, 16, .ro, 0, 1, false⟩

/-- `STK.STAT.FAILED_PERM` (R527). -/
def Reg.STK_STAT_FAILED_PERM : Fld := ⟨0x23, 0x040, 31, 1, .ro, 0, 1, false⟩

/-- `STK.STAT.PROF_MAJOR` (R527). -/
def Reg.STK_STAT_PROF_MAJOR : Fld := ⟨0x23, 0x040, 16, 8, .ro, 0, 1, false⟩

/-- `STK.STAT.PROF_MINOR` (R527). -/
def Reg.STK_STAT_PROF_MINOR : Fld := ⟨0x23, 0x040, 8, 8, .ro, 0, 1, false⟩

/-- `STK.STAT.GROUP` (R527). -/
def Reg.STK_STAT_GROUP : Fld := ⟨0x23, 0x040, 4, 2, .ro, 0, 1, false⟩

/-- `STK.STAT.STATE` (R527). -/
def Reg.STK_STAT_STATE : Fld := ⟨0x23, 0x040, 0, 3, .ro, 0, 1, false⟩

/-- `STK.CAP_GB` (R527). -/
def Reg.STK_CAP_GB : Fld := ⟨0x23, 0x044, 0, 16, .ro, 96, 1, false⟩

/-- `STK.REBUILT` (R527). -/
def Reg.STK_REBUILT : Fld := ⟨0x23, 0x048, 0, 32, .ro, 0, 1, false⟩

/-- `STK.CTL.REBUILD_SHARE` (R527). -/
def Reg.STK_CTL_REBUILD_SHARE : Fld := ⟨0x23, 0x04C, 8, 8, .rw, 64, 1, false⟩

/-- `STK.CTL.AUTO_RETRAIN` (R527). -/
def Reg.STK_CTL_AUTO_RETRAIN : Fld := ⟨0x23, 0x04C, 0, 1, .rw, 1, 1, false⟩

/-- `STK.CORR_ONE` (R527). -/
def Reg.STK_CORR_ONE : Fld := ⟨0x23, 0x050, 0, 64, .ro, 0, 1, true⟩

/-- `STK.CORR_TWO` (R527). -/
def Reg.STK_CORR_TWO : Fld := ⟨0x23, 0x058, 0, 32, .ro, 0, 1, false⟩

/-- `STK.POISON` (R527). -/
def Reg.STK_POISON : Fld := ⟨0x23, 0x05C, 0, 32, .ro, 0, 1, false⟩

/-- `STK.LANE_REPAIRS` (R527). -/
def Reg.STK_LANE_REPAIRS : Fld := ⟨0x23, 0x060, 0, 16, .ro, 0, 1, false⟩

/-- `STK.FAILS` (R527). -/
def Reg.STK_FAILS : Fld := ⟨0x23, 0x064, 0, 16, .ro, 0, 1, false⟩

/-- `DBL.SQ_TAIL` (R342). -/
def Reg.DBL_SQ_TAIL : Fld := ⟨0x30, 0x040, 0, 16, .wo, 0, 1, false⟩

/-- `DBL.RQ_HEAD` (R342). -/
def Reg.DBL_RQ_HEAD : Fld := ⟨0x30, 0x044, 0, 16, .wo, 0, 1, false⟩

/-- `DBL.SQ_HEAD` (R342). -/
def Reg.DBL_SQ_HEAD : Fld := ⟨0x30, 0x048, 0, 16, .ro, 0, 1, false⟩

/-- `DBL.RQ_TAIL` (R342). -/
def Reg.DBL_RQ_TAIL : Fld := ⟨0x30, 0x04C, 0, 16, .ro, 0, 1, false⟩

/-- `DBL.STAT.BAD_HEAD` (R342). -/
def Reg.DBL_STAT_BAD_HEAD : Fld := ⟨0x30, 0x050, 1, 1, .w1c, 0, 1, false⟩

/-- `DBL.STAT.BAD_TAIL` (R342). -/
def Reg.DBL_STAT_BAD_TAIL : Fld := ⟨0x30, 0x050, 0, 1, .w1c, 0, 1, false⟩

/-- `KMB.IN_CTL.GO` (R554). -/
def Reg.KMB_IN_CTL_GO : Fld := ⟨0x31, 0x040, 31, 1, .w1s, 0, 1, false⟩

/-- `KMB.IN_CTL.BUSY` (R554). -/
def Reg.KMB_IN_CTL_BUSY : Fld := ⟨0x31, 0x040, 30, 1, .ro, 0, 1, false⟩

/-- `KMB.IN_CTL.LEN` (R554). -/
def Reg.KMB_IN_CTL_LEN : Fld := ⟨0x31, 0x040, 0, 12, .rw, 0, 1, false⟩

/-- `KMB.OUT_STAT.VALID` (R554). -/
def Reg.KMB_OUT_STAT_VALID : Fld := ⟨0x31, 0x044, 31, 1, .ro, 0, 1, false⟩

/-- `KMB.OUT_STAT.OUT_LEN` (R554). -/
def Reg.KMB_OUT_STAT_OUT_LEN : Fld := ⟨0x31, 0x044, 0, 12, .ro, 0, 1, false⟩

/-- `KMB.ACK_CTL.ACK` (R554). -/
def Reg.KMB_ACK_CTL_ACK : Fld := ⟨0x31, 0x048, 0, 1, .w1s, 0, 1, false⟩

/-- `KMB.IN_DATA` (R554). -/
def Reg.KMB_IN_DATA : Fld := ⟨0x31, 0x800, 0, 32, .rw, 0, 256, false⟩

/-- `KMB.OUT_DATA` (R554). -/
def Reg.KMB_OUT_DATA : Fld := ⟨0x31, 0xC00, 0, 32, .ro, 0, 256, false⟩

/-- The fields of the HDR page, high bits first. -/
def fieldsHDR : List Fld :=
  [Reg.PAGE_ID_TYPE, Reg.PAGE_ID_INSTANCE, Reg.PAGE_VER_MAJOR, Reg.PAGE_VER_MINOR,
   Reg.PAGE_CAPS_FUSED_LOCK, Reg.PAGE_CAPS_LAMP_SERVED, Reg.PAGE_CAPS_LOCK,
   Reg.PAGE_CAPS_QUIESCE, Reg.PAGE_CAPS_IRQ, Reg.PAGE_BEACON_CHANGED,
   Reg.PAGE_BEACON_STATE, Reg.PAGE_ERR_WR_REFUSED, Reg.PAGE_ERR_BAD_ACCESS,
   Reg.PAGE_ERR_UNDERRUN, Reg.PAGE_ERR_NO_ANSWER, Reg.PAGE_ERR_CLASS,
   Reg.PAGE_IRQ_STAT_ERR, Reg.PAGE_IRQ_STAT_BEACON, Reg.PAGE_IRQ_EN_ERR_EN,
   Reg.PAGE_IRQ_EN_BEACON_EN, Reg.PAGE_CTL_RESET_REQ, Reg.PAGE_CTL_QUIESCE_REQ,
   Reg.PAGE_CTL_ENABLE, Reg.PAGE_QUIESCE_HELD, Reg.PAGE_QUIESCE_IDLE, Reg.PAGE_LOCK_LOCKED,
   Reg.PAGE_TIME_LO, Reg.PAGE_TIME_HI]

/-- The fields of the SYS page, high bits first. -/
def fieldsSYS : List Fld :=
  [Reg.SYS_LIVE_CORES, Reg.SYS_LIVE_STORE_MIB, Reg.SYS_SHIP_CORES, Reg.SYS_STEPPING,
   Reg.SYS_GRADE, Reg.SYS_SERIAL, Reg.SYS_FORME_MAJOR, Reg.SYS_FORME_MINOR,
   Reg.SYS_LINK_MAJOR, Reg.SYS_LINK_MINOR, Reg.SYS_PROFILE_MAJOR, Reg.SYS_PROFILE_MINOR,
   Reg.SYS_IRQ_CTL_EN, Reg.SYS_IRQ_CTL_VECTOR, Reg.SYS_IRQ_FIRST_VALID,
   Reg.SYS_IRQ_FIRST_PAGE, Reg.SYS_BAD_ACCESS_ADDR, Reg.SYS_BAD_ACCESS_CNT,
   Reg.SYS_MOD_FAULT, Reg.SYS_MOD_READY, Reg.SYS_FORMES]

/-- The fields of the LAMP page, high bits first. -/
def fieldsLAMP : List Fld :=
  [Reg.LAMP_TIME, Reg.LAMP_TIME_CTL_SYNCED, Reg.LAMP_TIME_CTL_SOURCE,
   Reg.LAMP_TIME_CTL_PRIORITY, Reg.LAMP_OFFSET, Reg.LAMP_FW_VER, Reg.LAMP_KEY_SEL,
   Reg.LAMP_KEY_PRESENT, Reg.LAMP_KEY_DIGEST, Reg.LAMP_NV_WRITES, Reg.LAMP_RAIL_MV]

/-- The fields of the RST page, high bits first. -/
def fieldsRST : List Fld :=
  [Reg.RST_CAUSE, Reg.RST_STAGE_KINDLE_DONE, Reg.RST_STAGE_WAVE, Reg.RST_STAGE_STEP,
   Reg.RST_CHASES_FAULT_CNT, Reg.RST_CHASES_LIT_CNT, Reg.RST_BLK_SEL, Reg.RST_BLK_CTL_KEY,
   Reg.RST_BLK_CTL_RESULT, Reg.RST_BLK_CTL_BUSY, Reg.RST_BLK_CTL_GO, Reg.RST_MOD_CTL_KEY,
   Reg.RST_MOD_CTL_FORCE, Reg.RST_MOD_CTL_GO, Reg.RST_FORCE_FORCE_STEP, Reg.RST_POR_COUNT,
   Reg.RST_MOD_RESETS, Reg.RST_BLK_RESETS, Reg.RST_QUIESCE_TIMEOUTS, Reg.RST_WR_REFUSED,
   Reg.RST_STEP_TIME, Reg.RST_KINDLE_TIME, Reg.RST_PIN_FUSE]

/-- The fields of the CLK page, high bits first. -/
def fieldsCLK : List Fld :=
  [Reg.CLK_REF_STAT_LREF_OK, Reg.CLK_REF_STAT_REFCLK_OK, Reg.CLK_REF_STAT_FREF_SEL,
   Reg.CLK_REF_STAT_FREF_B_OK, Reg.CLK_REF_STAT_FREF_A_OK, Reg.CLK_REF_STAT_LAMP_INTERNAL,
   Reg.CLK_REF_STAT_LAMP_XTAL_OK, Reg.CLK_PLL_SEL_DOMAIN, Reg.CLK_PLL_SEL_INSTANCE,
   Reg.CLK_PLL_STAT_LOCKED, Reg.CLK_PLL_STAT_COUNTED, Reg.CLK_PLL_STAT_GATED,
   Reg.CLK_PLL_STAT_FREQ, Reg.CLK_LOCK_LOSSES, Reg.CLK_MON_FAILS, Reg.CLK_SYNC_ERR,
   Reg.CLK_FREF_SWITCHES]

/-- The fields of the PWR page, high bits first. -/
def fieldsPWR : List Fld :=
  [Reg.PWR_INPUT_V, Reg.PWR_INPUT_I, Reg.PWR_INPUT_STAT_REVERSED_SEEN,
   Reg.PWR_INPUT_STAT_OVER, Reg.PWR_INPUT_STAT_LOSS, Reg.PWR_INPUT_STAT_HIGH,
   Reg.PWR_INPUT_STAT_LOW, Reg.PWR_MODULE_P, Reg.PWR_CAP, Reg.PWR_I_STACKS,
   Reg.PWR_I_PORTS, Reg.PWR_I_LAMP, Reg.PWR_MS_SEQ, Reg.PWR_RETAIN_CTL_REQ,
   Reg.PWR_RETAIN_STAT_REFUSED, Reg.PWR_RETAIN_STAT_STATE, Reg.PWR_BUS_OK,
   Reg.PWR_SHUTDOWN_CAUSE]

/-- The fields of the THM page, high bits first. -/
def fieldsTHM : List Fld :=
  [Reg.THM_HOTTEST, Reg.THM_HOT_PAIR, Reg.THM_SAMPLES, Reg.THM_THETA, Reg.THM_THETA_FUSE,
   Reg.THM_CAP, Reg.THM_TARGET, Reg.THM_F_MOD, Reg.THM_SENSOR_SEL,
   Reg.THM_SENSOR_DATA_READ_B, Reg.THM_SENSOR_DATA_READ_A, Reg.THM_PAIR_STAT_PAIR_STATE,
   Reg.THM_PAIR_STAT_USED, Reg.THM_FAILED, Reg.THM_FLAGGED, Reg.THM_CYCLES_20,
   Reg.THM_CYCLES_40, Reg.THM_CYCLES_60, Reg.THM_LIFE_USED, Reg.THM_TRIPS]

/-- The fields of the CLT page, high bits first. -/
def fieldsCLT : List Fld :=
  [Reg.CLT_IN_T, Reg.CLT_OUT_T, Reg.CLT_TRAY_SUPPLY_T, Reg.CLT_TRAY_RETURN_T, Reg.CLT_FLOW,
   Reg.CLT_STAT_STOPPED, Reg.CLT_STAT_SLOW_FLOW, Reg.CLT_STAT_HOSE_REVERSED,
   Reg.CLT_STAT_TRAY_SWAPPED, Reg.CLT_STAT_TRAY_LOST, Reg.CLT_STAT_INLET_OUT,
   Reg.CLT_STAT_IN_SPEC, Reg.CLT_OUT_SLOPE, Reg.CLT_STOPS]

/-- The fields of the ERR page, high bits first. -/
def fieldsERR : List Fld :=
  [Reg.ERR_CTL_RING_EN, Reg.ERR_CTL_RING_LOG2, Reg.ERR_CTL_VECTOR, Reg.ERR_STAT_RECOVERING,
   Reg.ERR_STAT_PHASE, Reg.ERR_STAT_CHASE, Reg.ERR_RING_BASE, Reg.ERR_RING_HEAD,
   Reg.ERR_RING_TAIL, Reg.ERR_RING_LOST, Reg.ERR_SUPPRESSED, Reg.ERR_LOG_SEL,
   Reg.ERR_LOG_COUNT, Reg.ERR_LOG_LOST, Reg.ERR_SEQ, Reg.ERR_LOG_DATA, Reg.ERR_CLASS_CNT,
   Reg.ERR_ERRATA_SEL, Reg.ERR_ERRATA_DATA, Reg.ERR_SPARE_USE_SEG_TWO,
   Reg.ERR_SPARE_USE_SEG_ONE, Reg.ERR_STREAM_MIN, Reg.ERR_FAULT_MIN,
   Reg.ERR_KPR_STAT_REBUILDING, Reg.ERR_KPR_STAT_PAIR, Reg.ERR_KPR_MINORITY,
   Reg.ERR_PARTNER_CTL_ENABLE, Reg.ERR_PARTNER_CTL_MIRROR_KV, Reg.ERR_PARTNER_CTL_PORTS,
   Reg.ERR_PARTNER_STAT_READY, Reg.ERR_PARTNER_STAT_HANDED, Reg.ERR_PARTNER_STAT_REASON,
   Reg.ERR_PARTNER_ID, Reg.ERR_RECOVERIES, Reg.ERR_LAST_STALL, Reg.ERR_ERRATA_EXT_SEL,
   Reg.ERR_ERRATA_EXT_DATA, Reg.ERR_EXT_USED, Reg.ERR_SEG_MORE]

/-- The fields of the FAB page, high bits first. -/
def fieldsFAB : List Fld :=
  [Reg.FAB_DETOUR, Reg.FAB_PARITY_EVENTS, Reg.FAB_DEADLOCKS, Reg.FAB_BAD_ROUTES,
   Reg.FAB_TRANSIT_LOST]

/-- The fields of the KPR page, high bits first. -/
def fieldsKPR : List Fld :=
  [Reg.KPR_FENCED, Reg.KPR_STATE, Reg.KPR_FW_VER, Reg.KPR_KAPI_MAJOR, Reg.KPR_KAPI_MINOR,
   Reg.KPR_WDOG_MISSES]

/-- The fields of the HST page, high bits first. -/
def fieldsHST : List Fld :=
  [Reg.HST_PORT_SEL, Reg.HST_PORT_STAT_UP, Reg.HST_PORT_STAT_FLIT, Reg.HST_PORT_STAT_CXL,
   Reg.HST_PORT_STAT_WIDTH, Reg.HST_PORT_STAT_SPEED, Reg.HST_FAILOVERS, Reg.HST_AER_CORR,
   Reg.HST_WIN_SEL, Reg.HST_WIN_BASE, Reg.HST_WIN_SIZE, Reg.HST_WIN_CTL_FORME,
   Reg.HST_WIN_CTL_WRITE, Reg.HST_WIN_CTL_ENABLE, Reg.HST_WIN_STAT_WIN_BUSY,
   Reg.HST_WIN_STAT_RING_REFUSED, Reg.HST_T2_BASE, Reg.HST_T2_SIZE, Reg.HST_CXL_CTL_MEM_EN,
   Reg.HST_CXL_CTL_CACHE_EN, Reg.HST_RD_BYTES, Reg.HST_WR_BYTES, Reg.HST_T2_USED_MIB]

/-- The fields of the SRV page, high bits first. -/
def fieldsSRV : List Fld :=
  [Reg.SRV_Q_SEL, Reg.SRV_Q_CTL_ENABLE, Reg.SRV_Q_CTL_ADMIN, Reg.SRV_Q_CTL_PRIORITY,
   Reg.SRV_Q_CTL_SQ_LOG2, Reg.SRV_Q_CTL_RQ_LOG2, Reg.SRV_Q_CTL_VECTOR, Reg.SRV_SQ_BASE,
   Reg.SRV_RQ_BASE, Reg.SRV_Q_COALESCE_COUNT, Reg.SRV_Q_COALESCE_TIME,
   Reg.SRV_Q_STAT_RING_HOLD, Reg.SRV_Q_STAT_ACTIVE, Reg.SRV_F_SEL, Reg.SRV_F_SHAPE_L,
   Reg.SRV_F_SHAPE_H, Reg.SRV_F_SHAPE_B, Reg.SRV_F_SLOTS, Reg.SRV_F_CYCLE_NS,
   Reg.SRV_F_RESERVED, Reg.SRV_F_VOCAB, Reg.SRV_MOOR_LIMIT, Reg.SRV_SLIP_MARGIN,
   Reg.SRV_QUEUED, Reg.SRV_LIVE, Reg.SRV_CONV_EXPIRED]

/-- The fields of the PFX page, high bits first. -/
def fieldsPFX : List Fld :=
  [Reg.PFX_LIMIT_GIB, Reg.PFX_HELD_GIB, Reg.PFX_LOOKUPS, Reg.PFX_HITS]

/-- The fields of the LOAD page, high bits first. -/
def fieldsLOAD : List Fld :=
  [Reg.LOAD_STAT_BUSY, Reg.LOAD_STAT_PHASE, Reg.LOAD_STAT_FORME, Reg.LOAD_STAT_LAST_STATUS,
   Reg.LOAD_PROGRESS_LAYERS_TOTAL, Reg.LOAD_PROGRESS_LAYERS_DONE, Reg.LOAD_BYTES,
   Reg.LOAD_CTL_STAGE_SHARE, Reg.LOAD_CTL_AUDIT_EN, Reg.LOAD_CTL_SERVE_LINK,
   Reg.LOAD_AUDIT_PERIOD, Reg.LOAD_LINK_WAIT, Reg.LOAD_F_SEL, Reg.LOAD_F_STATE,
   Reg.LOAD_F_GEN, Reg.LOAD_F_IDENT, Reg.LOAD_ARBITRATIONS, Reg.LOAD_DIVERGED,
   Reg.LOAD_QUARANTINES, Reg.LOAD_AUDIT_SWEEPS]

/-- The fields of the SMP page, high bits first. -/
def fieldsSMP : List Fld :=
  [Reg.SMP_PROOF_TRIES, Reg.SMP_PROOF_ACCEPTS]

/-- The fields of the TEL page, high bits first. -/
def fieldsTEL : List Fld :=
  [Reg.TEL_CTL_EN, Reg.TEL_CTL_LOG2, Reg.TEL_CTL_VECTOR, Reg.TEL_KIND_EN, Reg.TEL_BASE,
   Reg.TEL_HEAD, Reg.TEL_TAIL, Reg.TEL_LOST]

/-- The fields of the DBG page, high bits first. -/
def fieldsDBG : List Fld :=
  [Reg.DBG_OPEN, Reg.DBG_REFUSED, Reg.DBG_CORE_SEL_VALID, Reg.DBG_CORE_SEL_ROW,
   Reg.DBG_CORE_SEL_LCOL]

/-- The fields of the MGT page, high bits first. -/
def fieldsMGT : List Fld :=
  [Reg.MGT_ADDR, Reg.MGT_EID_EID_SMB, Reg.MGT_EID_EID_I3C, Reg.MGT_BUS_STAT_TRAY_ISOLATED,
   Reg.MGT_BUS_STAT_SMB_OK, Reg.MGT_BUS_STAT_I3C_OK, Reg.MGT_MESSAGES,
   Reg.MGT_EVENTS_PENDING]

/-- The fields of the USE page, high bits first. -/
def fieldsUSE : List Fld :=
  [Reg.USE_INTERVAL_S, Reg.USE_STAT_EXTENDED, Reg.USE_STAT_BAD_WRITE, Reg.USE_STAT_READY,
   Reg.USE_STAT_ABSENT, Reg.USE_STAT_HELD, Reg.USE_SEQ_OLDEST, Reg.USE_SEQ_NEWEST,
   Reg.USE_RD_SEQ, Reg.USE_ACK_SEQ, Reg.USE_OPEN_START, Reg.USE_OPEN_PAIRS, Reg.USE_KEY_X,
   Reg.USE_KEY_Y, Reg.USE_RD_DATA]

/-- The fields of the CHS page, high bits first. -/
def fieldsCHS : List Fld :=
  [Reg.CHS_SCHED_CNT, Reg.CHS_SCHED_CTL_HALTED, Reg.CHS_SCHED_CTL_HALT_REQ,
   Reg.CHS_SLIP_STAT_FROZEN, Reg.CHS_SLIP_STAT_OPEN_REQS, Reg.CHS_SLIP_STAT_LAG_MAX,
   Reg.CHS_SLIP_CYCLES, Reg.CHS_SLIP_EVENTS, Reg.CHS_SLIP_LONGEST, Reg.CHS_SLIP_LIMIT,
   Reg.CHS_SLIP_LAST_SOURCE, Reg.CHS_SLIP_LAST_LCOL, Reg.CHS_SLIP_LAST_LROW,
   Reg.CHS_SLIP_SRC_CNT, Reg.CHS_GATE_DUP, Reg.CHS_GATE_STALE, Reg.CHS_PARK_MAX,
   Reg.CHS_DEADLOCK_LIMIT, Reg.CHS_CORE_CNT_CTL_BUSY, Reg.CHS_CORE_CNT_CTL_CLEAR,
   Reg.CHS_CORE_CNT_CTL_SNAP, Reg.CHS_CORE_CNT_SEL_MODE, Reg.CHS_CORE_CNT_SEL_LCOL,
   Reg.CHS_CORE_CNT_SEL_LROW, Reg.CHS_CNT_PRESS, Reg.CHS_CNT_ZERO_SKIP,
   Reg.CHS_CNT_CORR_ONE, Reg.CHS_CNT_CORR_TWO, Reg.CHS_CNT_POISON, Reg.CHS_CNT_NARROW_WAIT,
   Reg.CHS_CNT_WB_FULL, Reg.CHS_CNT_NACK]

/-- The fields of the CPW page, high bits first. -/
def fieldsCPW : List Fld :=
  [Reg.CPW_STATE_LOCAL_SENSE, Reg.CPW_STATE_SENSE_OK, Reg.CPW_STATE_DEFERRED,
   Reg.CPW_STATE_PARKED, Reg.CPW_STATE_RAIL, Reg.CPW_CLK_LIMIT, Reg.CPW_CLK_NOW,
   Reg.CPW_CLK_MAX, Reg.CPW_VSET, Reg.CPW_VMEAS, Reg.CPW_I_CORE_AVG, Reg.CPW_I_CORE_PEAK,
   Reg.CPW_I_TRANSIT_AVG, Reg.CPW_BANK_GATED, Reg.CPW_OC_CNT_OC_TRIP,
   Reg.CPW_OC_CNT_OC_WARN, Reg.CPW_DEFER_MS, Reg.CPW_HINTS]

/-- The fields of the LNK page, high bits first. -/
def fieldsLNK : List Fld :=
  [Reg.LNK_CTL_ENABLE, Reg.LNK_CTL_RETRAIN, Reg.LNK_CTL_LOOPBACK, Reg.LNK_STAT_PHASE,
   Reg.LNK_STAT_TIME_SYNCED, Reg.LNK_STAT_TIME_PATH, Reg.LNK_STAT_STORED,
   Reg.LNK_STAT_WIDTH, Reg.LNK_STAT_VER_MAJOR, Reg.LNK_STAT_VER_MINOR, Reg.LNK_LANE_GOOD,
   Reg.LNK_LANE_ACTIVE, Reg.LNK_LANE_FLIP, Reg.LNK_CAGE_MAP_ORDER_REV, Reg.LNK_CAGE_MAP,
   Reg.LNK_PEER_ID, Reg.LNK_PEER_DIE, Reg.LNK_EXPECT_ID, Reg.LNK_EXPECT_DIE_EXPECT_ANY,
   Reg.LNK_EXPECT_DIE, Reg.LNK_SPLIT_CTL_SPLIT_EN, Reg.LNK_SPLIT_CTL_SPLIT_FORME,
   Reg.LNK_TIME_OFFSET, Reg.LNK_PATH_DELAY, Reg.LNK_FEC_CORR, Reg.LNK_FEC_UNCORR,
   Reg.LNK_REPLAYS, Reg.LNK_RETRAINS, Reg.LNK_SPARE_SWAPS]

/-- The fields of the STK page, high bits first. -/
def fieldsSTK : List Fld :=
  [Reg.STK_STAT_FAILED_PERM, Reg.STK_STAT_PROF_MAJOR, Reg.STK_STAT_PROF_MINOR,
   Reg.STK_STAT_GROUP, Reg.STK_STAT_STATE, Reg.STK_CAP_GB, Reg.STK_REBUILT,
   Reg.STK_CTL_REBUILD_SHARE, Reg.STK_CTL_AUTO_RETRAIN, Reg.STK_CORR_ONE, Reg.STK_CORR_TWO,
   Reg.STK_POISON, Reg.STK_LANE_REPAIRS, Reg.STK_FAILS]

/-- The fields of the DBL page, high bits first. -/
def fieldsDBL : List Fld :=
  [Reg.DBL_SQ_TAIL, Reg.DBL_RQ_HEAD, Reg.DBL_SQ_HEAD, Reg.DBL_RQ_TAIL, Reg.DBL_STAT_BAD_HEAD,
   Reg.DBL_STAT_BAD_TAIL]

/-- The fields of the KMB page, high bits first. -/
def fieldsKMB : List Fld :=
  [Reg.KMB_IN_CTL_GO, Reg.KMB_IN_CTL_BUSY, Reg.KMB_IN_CTL_LEN, Reg.KMB_OUT_STAT_VALID,
   Reg.KMB_OUT_STAT_OUT_LEN, Reg.KMB_ACK_CTL_ACK, Reg.KMB_IN_DATA, Reg.KMB_OUT_DATA]

/-- The fields of a page by its block type code. -/
def fieldsOf : Nat → List Fld
  | 0x01 => fieldsSYS
  | 0x02 => fieldsLAMP
  | 0x03 => fieldsRST
  | 0x04 => fieldsCLK
  | 0x05 => fieldsPWR
  | 0x06 => fieldsTHM
  | 0x07 => fieldsCLT
  | 0x08 => fieldsERR
  | 0x09 => fieldsFAB
  | 0x0A => fieldsKPR
  | 0x0B => fieldsHST
  | 0x0C => fieldsSRV
  | 0x0D => fieldsPFX
  | 0x0E => fieldsLOAD
  | 0x0F => fieldsSMP
  | 0x10 => fieldsTEL
  | 0x11 => fieldsDBG
  | 0x12 => fieldsMGT
  | 0x13 => fieldsUSE
  | 0x20 => fieldsCHS
  | 0x21 => fieldsCPW
  | 0x22 => fieldsLNK
  | 0x23 => fieldsSTK
  | 0x30 => fieldsDBL
  | 0x31 => fieldsKMB
  | _ => []

/-- The number under which a field of an instance is kept. -/
def Fld.key (f : Fld) (inst k : Nat) : Nat :=
  ((f.page * 4096 + f.off + 4 * k) * 32 + f.lo) * 131072 + inst

/-- The value of field `f` of instance `inst`, word `k`: its reset value until something else is
written. -/
def getF (s : State) (f : Fld) (inst : Nat) (k : Nat := 0) : Nat :=
  kgetD s.regs (f.key inst k) f.reset

/-- The register map with `v`, cut to the field's width, in field `f`. -/
def putF (m : KMap Nat) (f : Fld) (v inst k : Nat) : KMap Nat :=
  if v % 2 ^ f.width = f.reset then kdel m (f.key inst k)
  else kset m (f.key inst k) (v % 2 ^ f.width)

/-- The state with `v` in field `f`. -/
def setF (s : State) (f : Fld) (v : Nat) (inst : Nat) (k : Nat := 0) : State :=
  { s with regs := putF s.regs f v inst k }

/-- A field read as a flag. -/
def onF (s : State) (f : Fld) (inst : Nat) (k : Nat := 0) : Bool := getF s f inst k != 0

/-- A flag written. -/
def flagF (s : State) (f : Fld) (b : Bool) (inst : Nat) (k : Nat := 0) : State :=
  setF s f (if b then 1 else 0) inst k

/-- A counter field raised by `n`; it saturates (R411, R552, R525). -/
def addF (s : State) (f : Fld) (n : Nat) (inst : Nat) (k : Nat := 0) : State :=
  setF s f (min (getF s f inst k + n) (2 ^ f.width - 1)) inst k

end Sys2Proof.Machine
end

