-- ==== Sys2Proof/Machine/Flags.lean ====
section
/-! DEFINITION. The codes of the spec: fault codes with their classes (R379, R382, and the tables of
11 to 14), serving and load status codes (R305, R351), the fields of status and fault words. -/

namespace Sys2Proof.Machine

/-- Fault code NUM_WINDOW_EXHAUSTED (R382). -/
def Err.NUM_WINDOW_EXHAUSTED : Nat := 0x1001
/-- Fault code NUM_NAN (R382). -/
def Err.NUM_NAN : Nat := 0x1002
/-- Fault code NUM_PARTIAL_MISMATCH (R382). -/
def Err.NUM_PARTIAL_MISMATCH : Nat := 0x1003
/-- Fault code STORE_TWO_BYTE (R382). -/
def Err.STORE_TWO_BYTE : Nat := 0x2001
/-- Fault code STORE_UNCORRECTABLE (R382). -/
def Err.STORE_UNCORRECTABLE : Nat := 0x2002
/-- Fault code CORE_ADDR_RANGE (R382). -/
def Err.CORE_ADDR_RANGE : Nat := 0x3001
/-- Fault code CORE_BANK_CONFLICT (R382). -/
def Err.CORE_BANK_CONFLICT : Nat := 0x3002
/-- Fault code CORE_DESC_OVERFLOW (R382). -/
def Err.CORE_DESC_OVERFLOW : Nat := 0x3003
/-- Fault code CORE_BAD_DESCRIPTOR (R382). -/
def Err.CORE_BAD_DESCRIPTOR : Nat := 0x3004
/-- Fault code CORE_POS_RANGE (R382). -/
def Err.CORE_POS_RANGE : Nat := 0x3005
/-- Fault code CORE_PARITY (R382). -/
def Err.CORE_PARITY : Nat := 0x3006
/-- Fault code CORE_SELFTEST (R382). -/
def Err.CORE_SELFTEST : Nat := 0x3007
/-- Fault code FAB_BAD_ROUTE (R382). -/
def Err.FAB_BAD_ROUTE : Nat := 0x4001
/-- Fault code FAB_DEADLOCK (R382). -/
def Err.FAB_DEADLOCK : Nat := 0x4002
/-- Fault code FAB_GATE_OVERFILL (R382). -/
def Err.FAB_GATE_OVERFILL : Nat := 0x4003
/-- Fault code FAB_PARITY (R382). -/
def Err.FAB_PARITY : Nat := 0x4004
/-- Fault code FAB_TRANSIT_LOST (R382). -/
def Err.FAB_TRANSIT_LOST : Nat := 0x4005
/-- Fault code SCHED_LAG_LIMIT (R382). -/
def Err.SCHED_LAG_LIMIT : Nat := 0x5001
/-- Fault code SCHED_SLIP_TIMEOUT (R382). -/
def Err.SCHED_SLIP_TIMEOUT : Nat := 0x5002
/-- Fault code FORME_DEFECT (R382). -/
def Err.FORME_DEFECT : Nat := 0x6001
/-- Fault code FORME_MAGIC (R382). -/
def Err.FORME_MAGIC : Nat := 0x6101
/-- Fault code VERSION_UNSUPPORTED (R382). -/
def Err.VERSION_UNSUPPORTED : Nat := 0x6102
/-- Fault code FORME_SIGNATURE (R382). -/
def Err.FORME_SIGNATURE : Nat := 0x6103
/-- Fault code FORME_STRUCTURE (R382). -/
def Err.FORME_STRUCTURE : Nat := 0x6104
/-- Fault code FORME_DIGEST (R382). -/
def Err.FORME_DIGEST : Nat := 0x6105
/-- Fault code FORME_FORMAT (R382). -/
def Err.FORME_FORMAT : Nat := 0x6106
/-- Fault code FORME_ANCHOR (R382). -/
def Err.FORME_ANCHOR : Nat := 0x6107
/-- Fault code FORME_REDUCTION (R382). -/
def Err.FORME_REDUCTION : Nat := 0x6108
/-- Fault code FORME_DATA (R382). -/
def Err.FORME_DATA : Nat := 0x6109
/-- Fault code FORME_LENS (R382). -/
def Err.FORME_LENS : Nat := 0x610A
/-- Fault code FORME_PART (R382). -/
def Err.FORME_PART : Nat := 0x610B
/-- Fault code FORME_OPCODE (R382). -/
def Err.FORME_OPCODE : Nat := 0x610C
/-- Fault code FORME_LOOP (R382). -/
def Err.FORME_LOOP : Nat := 0x610D
/-- Fault code FORME_ALLOC (R382). -/
def Err.FORME_ALLOC : Nat := 0x610E
/-- Fault code FORME_BANK (R382). -/
def Err.FORME_BANK : Nat := 0x610F
/-- Fault code FORME_DESC (R382). -/
def Err.FORME_DESC : Nat := 0x6110
/-- Fault code FORME_MARGIN (R382). -/
def Err.FORME_MARGIN : Nat := 0x6111
/-- Fault code FORME_GATE (R382). -/
def Err.FORME_GATE : Nat := 0x6112
/-- Fault code FORME_HINT (R382). -/
def Err.FORME_HINT : Nat := 0x6113
/-- Fault code FORME_RETAIN (R382). -/
def Err.FORME_RETAIN : Nat := 0x6114
/-- Fault code IMPOSE_FILL (R382). -/
def Err.IMPOSE_FILL : Nat := 0x6115
/-- Fault code IMPOSE_NO_FIT (R382). -/
def Err.IMPOSE_NO_FIT : Nat := 0x6116
/-- Fault code IMPOSE_LANE (R382). -/
def Err.IMPOSE_LANE : Nat := 0x6117
/-- Fault code LOAD_COPY_ARBITRATED (R382). -/
def Err.LOAD_COPY_ARBITRATED : Nat := 0x7001
/-- Fault code LOAD_T0_DIVERGED (R382). -/
def Err.LOAD_T0_DIVERGED : Nat := 0x7002
/-- Fault code LOAD_QUARANTINE (R382). -/
def Err.LOAD_QUARANTINE : Nat := 0x7003
/-- Fault code KPR_VOTE_MINORITY (R382). -/
def Err.KPR_VOTE_MINORITY : Nat := 0x8001
/-- Fault code KPR_VOTE_SPLIT (R382). -/
def Err.KPR_VOTE_SPLIT : Nat := 0x8002
/-- Fault code KPR_CORE_FENCED (R382). -/
def Err.KPR_CORE_FENCED : Nat := 0x8003
/-- Fault code KPR_DOUBLE (R382). -/
def Err.KPR_DOUBLE : Nat := 0x8004
/-- Fault code REPAIR_DONE (R382). -/
def Err.REPAIR_DONE : Nat := 0x9001
/-- Fault code REPAIR_DIVERGED (R382). -/
def Err.REPAIR_DIVERGED : Nat := 0x9002
/-- Fault code REPAIR_BUDGET (R382). -/
def Err.REPAIR_BUDGET : Nat := 0x9003
/-- Fault code MODULE_HANDOVER (R382). -/
def Err.MODULE_HANDOVER : Nat := 0x9004
/-- Fault code PWR_SENSE_OPEN (R382). -/
def Err.PWR_SENSE_OPEN : Nat := 0xA001
/-- Fault code PWR_OC_WARN (R382). -/
def Err.PWR_OC_WARN : Nat := 0xA002
/-- Fault code PWR_RAIL_FAULT (R382). -/
def Err.PWR_RAIL_FAULT : Nat := 0xA003
/-- Fault code PWR_BANK_GATED (R382). -/
def Err.PWR_BANK_GATED : Nat := 0xA004
/-- Fault code PWR_BUS_DEGRADED (R382). -/
def Err.PWR_BUS_DEGRADED : Nat := 0xA005
/-- Fault code PWR_BUS_LIMIT (R382). -/
def Err.PWR_BUS_LIMIT : Nat := 0xA006
/-- Fault code PWR_INPUT_REVERSED (R382). -/
def Err.PWR_INPUT_REVERSED : Nat := 0xA007
/-- Fault code PWR_INPUT_LOSS (R382). -/
def Err.PWR_INPUT_LOSS : Nat := 0xA008
/-- Fault code PWR_INPUT_OVER (R382). -/
def Err.PWR_INPUT_OVER : Nat := 0xA009
/-- Fault code PWR_PARK (R382). -/
def Err.PWR_PARK : Nat := 0xA00A
/-- Fault code PWR_SWITCH_DEFERRED (R382). -/
def Err.PWR_SWITCH_DEFERRED : Nat := 0xA00B
/-- Fault code THM_PAIR_FLAGGED (R382). -/
def Err.THM_PAIR_FLAGGED : Nat := 0xB001
/-- Fault code THM_SENSOR_FAILED (R382). -/
def Err.THM_SENSOR_FAILED : Nat := 0xB002
/-- Fault code THM_JUNCTION_LIMIT (R382). -/
def Err.THM_JUNCTION_LIMIT : Nat := 0xB003
/-- Fault code THM_CAP_UNMET (R382). -/
def Err.THM_CAP_UNMET : Nat := 0xB004
/-- Fault code THM_TRIP (R382). -/
def Err.THM_TRIP : Nat := 0xB005
/-- Fault code THM_LIFE_ALARM (R382). -/
def Err.THM_LIFE_ALARM : Nat := 0xB006
/-- Fault code CLT_SLOW_FLOW (R382). -/
def Err.CLT_SLOW_FLOW : Nat := 0xB101
/-- Fault code CLT_STOP (R382). -/
def Err.CLT_STOP : Nat := 0xB102
/-- Fault code CLT_HOSE_REVERSED (R382). -/
def Err.CLT_HOSE_REVERSED : Nat := 0xB103
/-- Fault code CLT_TRAY_SWAPPED (R382). -/
def Err.CLT_TRAY_SWAPPED : Nat := 0xB104
/-- Fault code CLT_TRAY_LOST (R382). -/
def Err.CLT_TRAY_LOST : Nat := 0xB105
/-- Fault code RST_CAUSE (R382). -/
def Err.RST_CAUSE : Nat := 0xC001
/-- Fault code RST_PLL_NO_LOCK (R382). -/
def Err.RST_PLL_NO_LOCK : Nat := 0xC002
/-- Fault code RST_CLK_FAIL (R382). -/
def Err.RST_CLK_FAIL : Nat := 0xC003
/-- Fault code RST_QUIESCE_TIMEOUT (R382). -/
def Err.RST_QUIESCE_TIMEOUT : Nat := 0xC004
/-- Fault code RST_FORCED_EARLY (R382). -/
def Err.RST_FORCED_EARLY : Nat := 0xC005
/-- Fault code RST_WATCHDOG (R382). -/
def Err.RST_WATCHDOG : Nat := 0xC006
/-- Fault code RST_LOCKUP (R382). -/
def Err.RST_LOCKUP : Nat := 0xC007
/-- Fault code RST_LAMP_XTAL (R382). -/
def Err.RST_LAMP_XTAL : Nat := 0xC008
/-- Fault code RST_FABRIC_REF (R382). -/
def Err.RST_FABRIC_REF : Nat := 0xC009
/-- Fault code RST_STEP_TIMEOUT (R382). -/
def Err.RST_STEP_TIMEOUT : Nat := 0xC00A
/-- Fault code RST_KINDLE_FAULT (R382). -/
def Err.RST_KINDLE_FAULT : Nat := 0xC00B
/-- Fault code HST_FAILOVER (R382). -/
def Err.HST_FAILOVER : Nat := 0xD001
/-- Fault code HST_LINK_DOWN (R382). -/
def Err.HST_LINK_DOWN : Nat := 0xD002
/-- Fault code LNK_LANES_FIXED (R382). -/
def Err.LNK_LANES_FIXED : Nat := 0xD101
/-- Fault code LNK_CAGE_MISMATCH (R382). -/
def Err.LNK_CAGE_MISMATCH : Nat := 0xD102
/-- Fault code LNK_PEER_MISMATCH (R382). -/
def Err.LNK_PEER_MISMATCH : Nat := 0xD103
/-- Fault code LNK_VERSION (R382). -/
def Err.LNK_VERSION : Nat := 0xD104
/-- Fault code LNK_LANE_SPARED (R382). -/
def Err.LNK_LANE_SPARED : Nat := 0xD105
/-- Fault code LNK_NARROWED (R382). -/
def Err.LNK_NARROWED : Nat := 0xD106
/-- Fault code LNK_RETRAIN (R382). -/
def Err.LNK_RETRAIN : Nat := 0xD107
/-- Fault code LNK_DOWN (R382). -/
def Err.LNK_DOWN : Nat := 0xD108
/-- Fault code LNK_TIME_AHEAD (R382). -/
def Err.LNK_TIME_AHEAD : Nat := 0xD109
/-- Fault code STK_FAILED (R382). -/
def Err.STK_FAILED : Nat := 0xD201
/-- Fault code STK_REBUILT (R382). -/
def Err.STK_REBUILT : Nat := 0xD202
/-- Fault code STK_PROFILE (R382). -/
def Err.STK_PROFILE : Nat := 0xD203
/-- Fault code MGT_BUS_SHORT (R382). -/
def Err.MGT_BUS_SHORT : Nat := 0xD301
/-- Fault code MGT_PIN_STUCK (R382). -/
def Err.MGT_PIN_STUCK : Nat := 0xD302
/-- Fault code MGT_TRAY_SHORT (R382). -/
def Err.MGT_TRAY_SHORT : Nat := 0xD303

/-- Status OK (R305, R351). -/
def Sts.OK : Nat := 0x0000
/-- Status ZERO_LENGTH (R305, R351). -/
def Sts.ZERO_LENGTH : Nat := 0x0001
/-- Status ADMITTED (R305, R351). -/
def Sts.ADMITTED : Nat := 0x0002
/-- Status LOAD_STAGED (R305, R351). -/
def Sts.LOAD_STAGED : Nat := 0x0003
/-- Status OVERLAY_SLOT_WAIT (R305, R351). -/
def Sts.OVERLAY_SLOT_WAIT : Nat := 0x0004
/-- Status ALREADY_RESIDENT (R305, R351). -/
def Sts.ALREADY_RESIDENT : Nat := 0x0005
/-- Status REQ_CANCELLED (R305, R351). -/
def Sts.REQ_CANCELLED : Nat := 0x0006
/-- Status BAD_KIND (R305, R351). -/
def Sts.BAD_KIND : Nat := 0x1001
/-- Status BAD_PARAMS (R305, R351). -/
def Sts.BAD_PARAMS : Nat := 0x1002
/-- Status MOORING_FULL (R305, R351). -/
def Sts.MOORING_FULL : Nat := 0x1003
/-- Status MOORING_UNKNOWN (R305, R351). -/
def Sts.MOORING_UNKNOWN : Nat := 0x1004
/-- Status OVERLAY_UNKNOWN (R305, R351). -/
def Sts.OVERLAY_UNKNOWN : Nat := 0x1005
/-- Status CONV_UNKNOWN (R305, R351). -/
def Sts.CONV_UNKNOWN : Nat := 0x1006
/-- Status CONV_BUSY (R305, R351). -/
def Sts.CONV_BUSY : Nat := 0x1007
/-- Status CONTEXT_FULL (R305, R351). -/
def Sts.CONTEXT_FULL : Nat := 0x1008
/-- Status FORME_UNKNOWN (R305, R351). -/
def Sts.FORME_UNKNOWN : Nat := 0x1009
/-- Status NOT_FOUND (R305, R351). -/
def Sts.NOT_FOUND : Nat := 0x100A
/-- Status NOT_ADMIN (R305, R351). -/
def Sts.NOT_ADMIN : Nat := 0x100B
/-- Status BAD_ADDRESS (R305, R351). -/
def Sts.BAD_ADDRESS : Nat := 0x100C
/-- Status MASK_EMPTY (R305, R351). -/
def Sts.MASK_EMPTY : Nat := 0x100D
/-- Status CONV_EXPIRED (R305, R351). -/
def Sts.CONV_EXPIRED : Nat := 0x100E
/-- Status CANCELLED (R305, R351). -/
def Sts.CANCELLED : Nat := 0x1010
/-- Status STACK_FULL (R305, R351). -/
def Sts.STACK_FULL : Nat := 0x1011
/-- Status LOAD_SHAPE (R305, R351). -/
def Sts.LOAD_SHAPE : Nat := 0x1012
/-- Status FORME_BUSY (R305, R351). -/
def Sts.FORME_BUSY : Nat := 0x1013
/-- Status LINK_SOURCE (R305, R351). -/
def Sts.LINK_SOURCE : Nat := 0x1014
/-- Status EXPECT_MISMATCH (R305, R351). -/
def Sts.EXPECT_MISMATCH : Nat := 0x1015
/-- Status FORME_DEFECT (R305, R351). -/
def Sts.FORME_DEFECT : Nat := 0x2001
/-- Status HOST_WRITE_ERROR (R305, R351). -/
def Sts.HOST_WRITE_ERROR : Nat := 0x2002
/-- Status WEIGHTS_LOST (R305, R351). -/
def Sts.WEIGHTS_LOST : Nat := 0x2003
/-- Status LOAD_ROLLED_BACK (R305, R351). -/
def Sts.LOAD_ROLLED_BACK : Nat := 0x2004
/-- Status REPLAY_DIVERGED (R305, R351). -/
def Sts.REPLAY_DIVERGED : Nat := 0x2005
/-- Status MODULE_LOST (R305, R351). -/
def Sts.MODULE_LOST : Nat := 0x2006
/-- Status PEER_LOST (R305, R351). -/
def Sts.PEER_LOST : Nat := 0x2007
/-- Status FORME_MAGIC (R305, R351). -/
def Sts.FORME_MAGIC : Nat := 0x1101
/-- Status VERSION_UNSUPPORTED (R305, R351). -/
def Sts.VERSION_UNSUPPORTED : Nat := 0x1102
/-- Status FORME_SIGNATURE (R305, R351). -/
def Sts.FORME_SIGNATURE : Nat := 0x1103
/-- Status FORME_STRUCTURE (R305, R351). -/
def Sts.FORME_STRUCTURE : Nat := 0x1104
/-- Status FORME_DIGEST (R305, R351). -/
def Sts.FORME_DIGEST : Nat := 0x1105
/-- Status FORME_FORMAT (R305, R351). -/
def Sts.FORME_FORMAT : Nat := 0x1106
/-- Status FORME_ANCHOR (R305, R351). -/
def Sts.FORME_ANCHOR : Nat := 0x1107
/-- Status FORME_REDUCTION (R305, R351). -/
def Sts.FORME_REDUCTION : Nat := 0x1108
/-- Status FORME_DATA (R305, R351). -/
def Sts.FORME_DATA : Nat := 0x1109
/-- Status FORME_LENS (R305, R351). -/
def Sts.FORME_LENS : Nat := 0x110A
/-- Status FORME_PART (R305, R351). -/
def Sts.FORME_PART : Nat := 0x110B
/-- Status FORME_OPCODE (R305, R351). -/
def Sts.FORME_OPCODE : Nat := 0x110C
/-- Status FORME_LOOP (R305, R351). -/
def Sts.FORME_LOOP : Nat := 0x110D
/-- Status FORME_ALLOC (R305, R351). -/
def Sts.FORME_ALLOC : Nat := 0x110E
/-- Status FORME_BANK (R305, R351). -/
def Sts.FORME_BANK : Nat := 0x110F
/-- Status FORME_DESC (R305, R351). -/
def Sts.FORME_DESC : Nat := 0x1110
/-- Status FORME_MARGIN (R305, R351). -/
def Sts.FORME_MARGIN : Nat := 0x1111
/-- Status FORME_GATE (R305, R351). -/
def Sts.FORME_GATE : Nat := 0x1112
/-- Status FORME_HINT (R305, R351). -/
def Sts.FORME_HINT : Nat := 0x1113
/-- Status FORME_RETAIN (R305, R351). -/
def Sts.FORME_RETAIN : Nat := 0x1114
/-- Status IMPOSE_FILL (R305, R351). -/
def Sts.IMPOSE_FILL : Nat := 0x1115
/-- Status IMPOSE_NO_FIT (R305, R351). -/
def Sts.IMPOSE_NO_FIT : Nat := 0x1116
/-- Status IMPOSE_LANE (R305, R351). -/
def Sts.IMPOSE_LANE : Nat := 0x1117

/-- The class of a fault code (R379): 0 CORRECTED, 1 DEFERRED, 2 POISON, 3 FATAL_BLOCK, 4
FATAL_MODULE. Every code of the tables that is not listed below is FATAL_BLOCK. -/
def classOf (code : Nat) : Nat :=
  if code ∈ [0x2001, 0x7001, 0x8001, 0x9001, 0xA001, 0xA002, 0xA005, 0xA006, 0xA007, 0xA00A,
      0xA00B, 0xB001, 0xB002, 0xB003, 0xB004, 0xB006, 0xB101, 0xB103, 0xB104, 0xB105,
      0xC001, 0xC004, 0xC005, 0xC008, 0xC009, 0xD001, 0xD002, 0xD101, 0xD102, 0xD103,
      0xD104, 0xD105, 0xD106, 0xD107, 0xD109, 0xD202, 0xD301, 0xD302, 0xD303] then 0
  else if code ∈ [0x1001, 0x1002] then 1
  else if code ∈ [0x2002, 0x3006, 0x4004] then 2
  else if code ∈ [0x8004, 0x9003, 0x9004, 0xA008, 0xA009, 0xB005, 0xB102, 0xC00A] then 4
  else 3

end Sys2Proof.Machine
end

