-- ==== Sys2Proof/Machine/Ops.lean ====
section
/-! DEFINITION. The shared operations: geometry (01), page headers and the page interrupt (15), host
windows and rings (R496, R558), fault records (R381 to R384), free values. -/

namespace Sys2Proof.Machine

/-! ### Free values -/

/-- The next free value (log entry 2) and the state with the counter advanced. -/
def nextFree (s : State) : Nat × State := (Config.freeValue s.free, { s with free := s.free + 1 })

/-! ### Geometry (R16 to R20) -/

/-- The chase of a logical core (R17, R20). -/
def chaseOf (c : CoreRef) : Nat := 16 * (c.row.val / 64) + c.lcol.val / 64

/-- The number under which a logical core is kept. -/
def coreKey (c : CoreRef) : Nat := c.row.val * 1024 + c.lcol.val

/-- The row segment of a logical core (R385): 64 × chase + local row. -/
def segOf (c : CoreRef) : Nat := 64 * chaseOf c + c.row.val % 64

/-- The local physical columns of a row segment that carry logical cores (R19). -/
def goodCols (s : State) (seg : Nat) : List Nat :=
  (List.range 66).filter (fun x => !(kgetD s.errata.shift seg []).contains x)

/-- The local physical column of logical local column `j` of a row segment (R19). -/
def physLocal (s : State) (seg j : Nat) : Option Nat := (goodCols s seg)[j]?

/-- The logical local column at local physical column `p` (R19), none for a retired or spare one and at or beyond the
chase's width (R23). -/
def logicalLocal (s : State) (seg p : Nat) : Option Nat :=
  let j := (goodCols s seg).idxOf p
  if j < kgetD s.errata.widths (seg / 64) 64 ∧ j < (goodCols s seg).length then some j else none

/-- The physical column of a logical core (R17, R19). -/
def physCol (s : State) (c : CoreRef) : Option Nat :=
  (physLocal s (segOf c) (c.lcol.val % 64)).map (fun p => 66 * (c.lcol.val / 64) + p)

/-- The logical width of a chase (R23): 64 until the errata map says otherwise. -/
def widthOf (s : State) (n : Nat) : Nat := kgetD s.errata.widths n 64

/-- The logical column of a core exists at its chase's width (R23). -/
def coreExists (s : State) (c : CoreRef) : Bool := decide (c.lcol.val % 64 < widthOf s (chaseOf c))

/-- The chase of a router (R17). -/
def chaseOfRouter (r : RouterRef) : Nat := 16 * (r.row.val / 64) + r.pcol.val / 66

/-! ### Parts of the state -/

/-- A core right after reset: units empty or zero (log entry 5). -/
def Core.reset : Core :=
  { lag := 0, holdFrom := 0, holdTo := 0, slipEnd := 0, redo := [], file := [], side := [], accs := []
    retained := [], saved := [], latch := none, gather := [], vregs := [], descs := []
    issued := 0, finished := [], flags := [], waiting := none, wbuf := [], gates := [], park := []
    inbox := [], arrived := 0, txOpen := [], txWait := [], sendFile := [], recvFile := [], parity := [], pass := 0, op := 0, loops := [], uses := [], fences := []
    cntPress := 0, cntZeroSkip := 0, cntCorrOne := 0, cntCorrTwo := 0, cntPoison := 0
    cntNarrowWait := 0, cntWbFull := 0, cntNack := 0 }

def getCore (s : State) (c : CoreRef) : Core := kgetD s.cores (coreKey c) Core.reset
def setCore (s : State) (c : CoreRef) (k : Core) : State := { s with cores := kset s.cores (coreKey c) k }
def modCore (s : State) (c : CoreRef) (f : Core → Core) : State := setCore s c (f (getCore s c))

/-- A chase right after reset. The clock limits of R418 stand at the highest clock. -/
def Chase.reset : Chase :=
  { clk := 0, time := 0, lanes := [], slips := [], run := 0, running := false, transitOk := true, pllOk := true
    banks := [], hints := [], hintLevel := 0, freezeAt := none, thawAt := none, limThermal := 1400, limOc := 1400, limBus := 1400
    limSense := 1400, limNbr := 1400, trim := 0, waitSince := none, railFaultAt := none
    rampAt := 0, vacatedAt := 0
    hotMs := 0, coolMs := 0, parkedFor := false, counts := [] }

def getChase (s : State) (n : Nat) : Chase := kgetD s.chases n Chase.reset
def setChase (s : State) (n : Nat) (c : Chase) : State := { s with chases := kset s.chases n c }
def modChase (s : State) (n : Nat) (f : Chase → Chase) : State := setChase s n (f (getChase s n))

/-! ### Pages (R528, R532) -/

/-- The page identity of a block: type and instance (R533). -/
def identOf (ty inst : Nat) : Nat := ty * 65536 + inst

/-- The page number of a block type code and instance (R528, R532); HST and KPR are one page. -/
def pageNo (ty inst : Nat) : Nat :=
  if ty = 0x20 then 256 + inst
  else if ty = 0x21 then 512 + inst
  else if ty = 0x22 then 768 + inst
  else if ty = 0x23 then 784 + inst
  else if ty = 0x30 then 1024 + inst
  else if ty = 0x31 then 2048 + inst
  else ty - 1

/-- The page number that a page identity names. -/
def pageOfIdent (i : Nat) : Nat := pageNo (i / 65536) (i % 65536)

/-- The block type code and instance of a page number, none for a reserved one (R528). -/
def pageType (p : Nat) : Option (Nat × Nat) :=
  if p ≤ 18 then some (p + 1, 0)
  else if 256 ≤ p ∧ p < 512 then some (0x20, p - 256)
  else if 512 ≤ p ∧ p < 768 then some (0x21, p - 512)
  else if 768 ≤ p ∧ p < 784 then some (0x22, p - 768)
  else if 784 ≤ p ∧ p < 816 then some (0x23, p - 784)
  else if 1024 ≤ p ∧ p < 2048 then some (0x30, p - 1024)
  else if 2048 ≤ p ∧ p < 2052 then some (0x31, p - 2048)
  else none

/-- Pages that the lamp controller serves (R532, R535). -/
def lampServed (ty : Nat) : Bool := ty ∈ [0x01, 0x02, 0x03, 0x04, 0x06, 0x07, 0x08, 0x0A, 0x11, 0x12, 0x13]

/-- Pages with FUSED_LOCK (R535). -/
def fusedLock (ty : Nat) : Bool := ty ∈ [0x03, 0x22, 0x11]

/-- RWL fields of a page ignore writes (R538): its lock is set, or it has FUSED_LOCK and the debug lock is
closed. -/
def pageLocked (s : State) (p : Nat) : Bool :=
  onF s Reg.PAGE_LOCK_LOCKED p || ((pageType p).any (fun t => fusedLock t.1) && !onF s Reg.DBG_OPEN 0)

/-- The beacon states (R536). -/
def Beacon.dark : Nat := 0
def Beacon.kindling : Nat := 1
def Beacon.lit : Nat := 2
def Beacon.occulting : Nat := 3
def Beacon.fault : Nat := 4
def Beacon.extinguished : Nat := 5

/-- The beacon of a page (R443, R536): a CPW page follows its CHS page; a doorbell page follows SRV and
a mailbox page FAB, which the same keeper complex serves (log entry 24). -/
def beaconOf (s : State) (p : Nat) : Nat :=
  getF s Reg.PAGE_BEACON_STATE
    (if 512 ≤ p ∧ p < 768 then p - 256 else if 1024 ≤ p ∧ p < 2048 then 11 else if 2048 ≤ p then 8 else p)

/-- The beacon of chase n. -/
def chaseBeacon (s : State) (n : Nat) : Nat := beaconOf s (256 + n)

/-! ### MSI-X and the page interrupt (R540) -/

/-- An MSI-X message. -/
def msix (s : State) (v : Nat) : State := { s with io := { s.io with msix := s.io.msix ++ [v] } }

/-- `PAGE_ERR` as a word. -/
def pageErr (s : State) (p : Nat) : Nat :=
  getF s Reg.PAGE_ERR_WR_REFUSED p * 2 ^ 31 + getF s Reg.PAGE_ERR_BAD_ACCESS p * 2 ^ 29
    + getF s Reg.PAGE_ERR_UNDERRUN p * 2 ^ 28 + getF s Reg.PAGE_ERR_NO_ANSWER p * 2 ^ 27
    + getF s Reg.PAGE_ERR_CLASS p

/-- `PAGE_IRQ_STAT` AND `PAGE_IRQ_EN` of a page is non-zero (R533, R540). -/
def irqPending (s : State) (p : Nat) : Bool :=
  (pageErr s p != 0 && onF s Reg.PAGE_IRQ_EN_ERR_EN p)
    || (onF s Reg.PAGE_BEACON_CHANGED p && onF s Reg.PAGE_IRQ_EN_BEACON_EN p)

/-- The page interrupt after a change on page `p` (R540): one message as the page becomes pending. -/
def refreshIrq (s : State) (p : Nat) : State :=
  if irqPending s p then
    if p ∈ s.io.irqPages then s
    else
      let s := { s with io := { s.io with irqPages := p :: s.io.irqPages } }
      if onF s Reg.SYS_IRQ_CTL_EN 0 then msix s (getF s Reg.SYS_IRQ_CTL_VECTOR 0) else s
  else { s with io := { s.io with irqPages := s.io.irqPages.filter (· != p) } }

/-- The lamp time of the last event of a page (R539). -/
def pageEvent (s : State) (p : Nat) : State :=
  setF (setF s Reg.PAGE_TIME_LO s.lampTime p) Reg.PAGE_TIME_HI (s.lampTime / 2 ^ 32) p

/-- Sets bits of a `PAGE_ERR` field (R533, R539, R540). -/
def setPageErr (s : State) (p : Nat) (f : Fld) (v : Nat) : State :=
  let old := getF s f p
  let s' := setF s f (old ||| v) p
  refreshIrq (if old ||| v = old then s' else pageEvent s' p) p

/-- The block registers of a page answer: KINDLING, LIT or OCCULTING (R536). -/
def answers (s : State) (p : Nat) : Bool := decide (beaconOf s p ∈ [1, 2, 3])

/-- A write of a block register of page `p`: `f`, or refused while the page does not answer (R474, R536). -/
def regWrite (s : State) (p : Nat) (f : State → State) : State :=
  if answers s p then f s
  else addF (setPageErr s p Reg.PAGE_ERR_WR_REFUSED 1) Reg.RST_WR_REFUSED 1 0

/-- A beacon change (R536, R539, R540). -/
def setBeacon (s : State) (p st : Nat) : State :=
  if getF s Reg.PAGE_BEACON_STATE p = st then s
  else refreshIrq (pageEvent (setF (setF s Reg.PAGE_BEACON_STATE st p) Reg.PAGE_BEACON_CHANGED 1 p) p) p

/-- The beacon of chase `n`, which its CPW page follows (R443). -/
def setChaseBeacon (s : State) (n st : Nat) : State := setBeacon (setBeacon s (256 + n) st) (512 + n) st

/-- The width of a chase as it stands: 0 while its beacon reads FAULT (R399), else the errata map's. -/
def runWidth (s : State) (n : Nat) : Nat := if chaseBeacon s n = Beacon.fault then 0 else widthOf s n

/-- The live logical cores (R40): 64 × W over the LIT chases. -/
def liveCores (s : State) : Nat :=
  ((List.range 256).map (fun n => if chaseBeacon s n = Beacon.lit then 64 * widthOf s n else 0)).sum

/-! ### Host windows and host memory (R496) -/

/-- `[a, a + len)` lies in host window `w`, with WRITE where `wr`. -/
def inWindow (s : State) (w a len : Nat) (wr : Bool) : Bool :=
  let base := getF s Reg.HST_WIN_BASE w
  let size := getF s Reg.HST_WIN_SIZE w
  onF s Reg.HST_WIN_CTL_ENABLE w && (!wr || onF s Reg.HST_WIN_CTL_WRITE w)
    && decide (0 < size) && decide (base ≤ a) && decide (a + len ≤ base + size)

/-- `[a, a + len)` lies wholly within an enabled host window (R496). -/
def inWindows (s : State) (a len : Nat) (wr : Bool) : Bool :=
  (List.range 64).any (fun w => inWindow s w a len wr)

/-- The device writes host memory (R494); `HST.WR_BYTES` counts (R525). -/
def hostWrite (s : State) (a : Nat) (bs : List Byte) : State :=
  addF { s with mem := { s.mem with host := memWriteBytes s.mem.host a bs } } Reg.HST_WR_BYTES bs.length 0

/-! ### The fault ring and the telemetry ring (R558) -/

/-- A ring's registers and its record size. -/
structure Ring where
  log2 : Fld
  base : Fld
  head : Fld
  tail : Fld
  lost : Fld
  size : Nat
  deriving DecidableEq, Repr

/-- The host fault ring (R384, R411). -/
def errRing : Ring :=
  ⟨Reg.ERR_CTL_RING_LOG2, Reg.ERR_RING_BASE, Reg.ERR_RING_HEAD, Reg.ERR_RING_TAIL, Reg.ERR_RING_LOST, 64⟩

/-- The telemetry ring (R545). -/
def telRing : Ring := ⟨Reg.TEL_CTL_LOG2, Reg.TEL_BASE, Reg.TEL_HEAD, Reg.TEL_TAIL, Reg.TEL_LOST, 32⟩

/-- The slots of a ring. -/
def ringSlots (s : State) (r : Ring) : Nat := 2 ^ getF s r.log2 0

/-- Writes one record: a full ring first loses its oldest one (R558). -/
def ringPut (s : State) (r : Ring) (bs : List Byte) : State :=
  let n := ringSlots s r
  let t := getF s r.tail 0
  let s := if (t + 1) % n = getF s r.head 0 then
      addF (setF s r.head ((getF s r.head 0 + 1) % n) 0) r.lost 1 0
    else s
  let s := hostWrite s (getF s r.base 0 + r.size * t) bs
  setF s r.tail ((t + 1) % n) 0

/-- A host write of a ring's head (R558): only within the span from head to tail. -/
def ringHeadWrite (s : State) (r : Ring) (v : Nat) : State :=
  let n := ringSlots s r
  let h := getF s r.head 0
  let t := getF s r.tail 0
  if v < n ∧ (v + n - h) % n ≤ (t + n - h) % n then setF s r.head v 0 else s

/-- Empties a ring (R558). -/
def ringEmpty (s : State) (r : Ring) : State := setF (setF s r.head 0 0) r.tail 0 0

/-! ### Fault records (R381 to R384) -/

/-- A fault item of code `c` in which no other field applies. -/
def faultItem (c : Nat) : FaultItem :=
  { code := c, hard := false, replay := false, stamp := none, block := none, chase := none
    row := none, pcol := none, lcol := none, instr := none, cycle := none
    x0 := none, x1 := none, x2 := none, x3 := none }

/-- An item of the block with page identity `b` and extra words `xs` (R381). -/
def blockItem (c b : Nat) (xs : List Nat) : FaultItem :=
  { faultItem c with block := some b, x0 := xs[0]?, x1 := xs[1]?, x2 := xs[2]?, x3 := xs[3]? }

/-- An item of a chase, which carries its CHS page (R381). -/
def chaseItem (c n : Nat) (xs : List Nat) : FaultItem := { blockItem c (identOf 0x20 n) xs with chase := some n }

/-- An item of a chase's rail or bank gating, which carries its CPW page (R381). -/
def railItem (c n : Nat) (xs : List Nat) : FaultItem := { blockItem c (identOf 0x21 n) xs with chase := some n }

/-- An item of a core (R381), with its core time as schedule cycle (R140). -/
def coreItem (s : State) (code : Nat) (c : CoreRef) (xs : List Nat) : FaultItem :=
  { chaseItem code (chaseOf c) xs with
    row := some c.row.val, pcol := physCol s c, lcol := some c.lcol.val
    cycle := some (((getChase s (chaseOf c)).time + 2 ^ 48 - (getCore s c).lag) % 2 ^ 48) }

/-- An item of a router (R381). -/
def routerItem (code : Nat) (r : RouterRef) (xs : List Nat) : FaultItem :=
  { chaseItem code (chaseOfRouter r) xs with row := some r.row.val, pcol := some r.pcol.val }

/-- A field of a record: all ones where it does not apply (R381). -/
def ones (n : Nat) (v : Option Nat) : List Byte := leBytes n (v.getD (2 ^ (8 * n) - 1))

/-- The 64 bytes of a fault record (R381). -/
def recordBytes (r : FaultRec) : List Byte :=
  leBytes 2 r.item.code ++ leBytes 1 (classOf r.item.code)
    ++ leBytes 1 ((if r.item.hard then 1 else 0) + (if r.item.replay then 2 else 0) + (if r.repeat_ then 4 else 0))
    ++ leBytes 4 r.seq ++ leBytes 8 r.time ++ ones 8 r.item.stamp ++ ones 4 r.item.block
    ++ ones 2 r.item.chase ++ ones 2 r.item.row ++ ones 2 r.item.pcol ++ ones 2 r.item.lcol
    ++ ones 4 r.item.instr ++ ones 8 r.item.cycle ++ ones 4 r.item.x0 ++ ones 4 r.item.x1
    ++ ones 4 r.item.x2 ++ ones 4 r.item.x3

/-- The source of a record (R383): the core it names, else its block. -/
def faultSource (it : FaultItem) : Nat :=
  match it.row, it.pcol with
  | some r, some p => 2 ^ 40 + r * 1056 + p
  | _, _ => it.block.getD (2 ^ 32 - 1)

/-- The whole second of lamp time (R383). -/
def lampSecond (s : State) : Nat := s.lampTime / 1000000000

/-- The data of a PLDM event for a record (R8, R519): its code, its class and its lamp time. The places are the model's
(log entry 1: the standard's layout is not given). -/
def eventBytes (r : FaultRec) : List Byte := leBytes 2 r.item.code ++ leBytes 1 (classOf r.item.code) ++ leBytes 8 r.time

/-- A PLDM event for a record of class FATAL_BLOCK or FATAL_MODULE or of families 0xB and 0xD
(R519): sent to the receiver, or signalled until it is read. -/
def pldmEvent (s : State) (r : FaultRec) : State :=
  if 3 ≤ classOf r.item.code ∨ r.item.code / 4096 = 0xB ∨ r.item.code / 4096 = 0xD then
    if s.mgmt.receiver then { s with io := { s.io with mgmtOut := s.io.mgmtOut ++ [(2, eventBytes r)] } }
    else
      let s := { s with mgmt := { s.mgmt with events := s.mgmt.events ++ [r] } }
      let s := setF s Reg.MGT_EVENTS_PENDING (min s.mgmt.events.length 0xFFFF) 0
      { s with pins := { s.pins with alertN := false } }
  else s

/-- `MOD_FAULT_N` goes low at a FATAL_MODULE record (R489). -/
def modFault (s : State) (code : Nat) : State :=
  if classOf code = 4 then
    setF { s with pins := { s.pins with modFaultN := false } } Reg.SYS_MOD_FAULT 1 0
  else s

/-- The record written to the host fault ring while it is enabled (R384). -/
def ringFault (s : State) (r : FaultRec) : State :=
  if onF s Reg.ERR_CTL_RING_EN 0 then
    msix (ringPut s errRing (recordBytes r)) (getF s Reg.ERR_CTL_VECTOR 0)
  else s

/-- The record put at the head of the lamp fault log of 64 (R384). -/
def pushLog (s : State) (r : FaultRec) : State :=
  let lost := if s.faults.log.length < 64 then 0 else 1
  addF { s with faults := { s.faults with log := (r :: s.faults.log).take 64 } } Reg.ERR_LOG_LOST lost 0

/-- The same CORRECTED or DEFERRED code of the same source was recorded in this second (R383). -/
def suppressed (s : State) (it : FaultItem) : Bool :=
  decide (classOf it.code ≤ 1) && s.faults.suppress.contains (it.code, faultSource it, lampSecond s)

/-- What R209 and R381 compare of a record with a stamp: code, stamp and instruction address, all ones
where it does not apply. -/
def seenKey (it : FaultItem) : Option (Nat × Nat × Nat) := it.stamp.map (fun st => (it.code, st, it.instr.getD (2 ^ 32 - 1)))

/-- Same code, stamp and instruction address as an earlier record (R209, R381). -/
def isRepeat (s : State) (it : FaultItem) : Bool := (seenKey it).any (fun k => s.faults.seen.contains k)

/-- A fault record reaches the lamp domain (R381 to R384): counted by class, then suppressed within
its second, or logged, written to the ring, flagged on the page it names and signalled. -/
def logFault (s : State) (it : FaultItem) : State :=
  let s := addF s Reg.ERR_CLASS_CNT 1 0 (classOf it.code)
  if suppressed s it then addF s Reg.ERR_SUPPRESSED 1 0
  else
    let seq := getF s Reg.ERR_SEQ 0 + 1
    let r : FaultRec := ⟨it, isRepeat s it, seq, s.lampTime⟩
    let s := setF s Reg.ERR_SEQ seq 0
    let s := pushLog s r
    let s := { s with faults := { s.faults with
      suppress := (it.code, faultSource it, lampSecond s)
        :: s.faults.suppress.filter (fun x => x.2.2 = lampSecond s)
      seen := match seenKey it with
        | some k => addOnce s.faults.seen k
        | none => s.faults.seen } }
    let s := match it.block with
      | some b => setPageErr s (pageOfIdent b) Reg.PAGE_ERR_CLASS (2 ^ classOf it.code)
      | none => s
    let s := ringFault s r
    let s := modFault s it.code
    pldmEvent s r

/-- A fault item on its way to keeper group 2, where the command EVENT receives it (R390). -/
def raise (s : State) (it : FaultItem) : State :=
  { s with faults := { s.faults with items := s.faults.items ++ [it] } }

/-! ### Poison of store words (R105, R377) -/

/-- The 64-byte words that `[a, a + n)` touches. -/
def wordsOf (a n : Nat) : List Nat := (List.range ((a + n + 63) / 64 - a / 64)).map (fun i => a / 64 + i)

/-- The 64-byte words that lie wholly within `[a, a + n)`. -/
def wholeWords (a n : Nat) : List Nat := (wordsOf a n).filter (fun w => a ≤ 64 * w && 64 * w + 64 ≤ a + n)

/-- Any word of `[a, a + n)` is poisoned. -/
def anyPoison (marks : List Nat) (a n : Nat) : Bool := (wordsOf a n).any (fun w => marks.contains w)

/-- The marks after a write of `[a, a + n)` (R105, R377): fresh data clears the words it covers
whole; poisoned data marks every word it touches. -/
def markWrite (marks : List Nat) (a n : Nat) (poison : Bool) : List Nat :=
  if poison then (wordsOf a n).foldl addOnce marks
  else marks.filter (fun w => !(wholeWords a n).contains w)

/-- The bytes of one core's store (R90). -/
def coreBytes : Nat := 0x50000

/-- The place in `mem.store` of a local address of a core. -/
def storeAddr (c : CoreRef) (a : Nat) : Nat := coreKey c * coreBytes + a

/-- Writes bytes at a local address of a core. A word written whole gets fresh check bytes (R98, R105). -/
def storeWrite (s : State) (c : CoreRef) (a : Nat) (bs : List Byte) (poison : Bool) : State :=
  { s with mem := { s.mem with
      errs := s.mem.errs.filter (fun e => !(wholeWords (storeAddr c a) bs.length).contains e.1)
      store := memWriteBytes s.mem.store (storeAddr c a) bs
      storePoison := markWrite s.mem.storePoison (storeAddr c a) bs.length poison } }

/-- Reads bytes at a local address of a core. -/
def storeRead (s : State) (c : CoreRef) (a n : Nat) : List Byte := memReadBytes s.mem.store (storeAddr c a) n

/-- Whether a read of a core's store meets poison. -/
def storePoisoned (s : State) (c : CoreRef) (a n : Nat) : Bool := anyPoison s.mem.storePoison (storeAddr c a) n

/-! ### The stack tier (R511 to R515) -/

/-- Where a stack-tier address lies: its stack, the stack of its parity, its stripe, the offset in both (R513). -/
structure StackPlace where
  stack : Nat
  parity : Nat
  stripe : Nat
  offset : Nat
  deriving DecidableEq, Repr

/-- The place of a stack-tier address (R513). -/
def stackPlace (a : Nat) : StackPlace :=
  let u := a / 4096
  let g := u % 4
  let row := u / 4
  let stripe := row / 7
  let d := row % 7
  let p := stripe % 8
  { stack := 4 * (if d < p then d else d + 1) + g, parity := 4 * p + g, stripe := stripe, offset := 4096 * stripe + a % 4096 }

/-- The seven addresses whose data units share a stripe, a stack offset and a parity unit with address `a`, itself
among them (R513, R514). -/
def stripeAddrs (a : Nat) : List Nat :=
  (List.range 7).map (fun d => (((stackPlace a).stripe * 7 + d) * 4 + a / 4096 % 4) * 4096 + a % 4096)

/-- The parity byte of a stripe (R514): the XOR of its seven data units at one stack offset. -/
def parityByte (s : State) (a : Nat) : Byte := (stripeAddrs a).foldl (fun b x => b ^^^ memRead s.mem.stack x) 0

/-- A unit that its stack does not give (R515, R516): the stack is FAILED, or the stripe is not rebuilt yet. -/
def unitDown (s : State) (a : Nat) : Bool :=
  let p := stackPlace a
  getF s Reg.STK_STAT_STATE p.stack == 3
    || (getF s Reg.STK_STAT_STATE p.stack == 4 && decide (getF s Reg.STK_REBUILT p.stack ≤ p.stripe))

/-- A byte read from the stack tier (R515): a unit that its stack does not give is reconstructed from parity and the
other units of its stripe. -/
def stackByte (s : State) (a : Nat) : Byte :=
  if unitDown s a then ((stripeAddrs a).filter (· != a)).foldl (fun b x => b ^^^ memRead s.mem.stack x) (parityByte s a)
  else memRead s.mem.stack a

/-- A word of the stack tier reads as poisoned: marked, or reconstructed from a stripe with a marked one (R377, R515). -/
def stackMark (s : State) (w : Nat) : Bool :=
  s.mem.stackPoison.contains w
    || (unitDown s (64 * w) && (stripeAddrs (64 * w)).any (fun x => s.mem.stackPoison.contains (x / 64)))

/-- Any word of `[a, a + n)` in the stack tier reads as poisoned. -/
def stackPoisoned (s : State) (a n : Nat) : Bool := (wordsOf a n).any (stackMark s)

/-- Words of a range with errors, by rising number. -/
def errsIn (m : KMap (KMap Nat)) (a n : Nat) : KMap (KMap Nat) := m.filter (fun e => decide (a / 64 ≤ e.1 ∧ 64 * e.1 < a + n))

/-- The errors of a word after a strike of byte position `p` by `v`. -/
def strikeWord (m : KMap (KMap Nat)) (w p v : Nat) : KMap (KMap Nat) :=
  let old := kgetD m w []
  let now := (kgetD old p 0) ^^^ v
  let new := if now = 0 then kdel old p else kset old p now
  if new = [] then kdel m w else kset m w new

/-- Data bytes as the errors of a word leave them (R105). -/
def spoilBytes (m : Memory) (w : Nat) (es : KMap Nat) : Memory :=
  es.foldl (fun m e =>
    if e.1 < 64 then memWrite m (64 * w + e.1) (memRead m (64 * w + e.1) ^^^ BitVec.ofNat 8 e.2) else m) m

def getStk (s : State) (n : Nat) : Stack := kgetD s.stks n ⟨0, 0, 0, 0, [], 0⟩
def setStk (s : State) (n : Nat) (x : Stack) : State := { s with stks := kset s.stks n x }

/-- What a stack controller finds in a word with errors (R102, R103, R105, R511): one or two bytes are corrected and
counted, three or more poison the word. -/
def meetStackWord (s : State) (w : Nat) (es : KMap Nat) : State :=
  let n := (stackPlace (64 * w)).stack
  let t := { s with mem := { s.mem with stackErrs := kdel s.mem.stackErrs w } }
  if es.length = 1 then addF t Reg.STK_CORR_ONE 1 n
  else if es.length = 2 then addF t Reg.STK_CORR_TWO 1 n
  else
    let t := { t with mem := { t.mem with
      stack := spoilBytes t.mem.stack w es, stackPoison := addOnce t.mem.stackPoison w } }
    let x := getStk t n
    let t := setStk t n { x with poisonAt := x.poisonAt.filter (fun y => decide (s.lampTime < y + 1000000000)) ++ [s.lampTime] }
    addF t Reg.STK_POISON 1 n

/-- What a read of `[a, a + n)` in the stack tier finds (R511). -/
def meetStack (s : State) (a n : Nat) : State := (errsIn s.mem.stackErrs a n).foldl (fun s e => meetStackWord s e.1 e.2) s

/-- Reads bytes of the stack tier. -/
def stackRead (s : State) (a n : Nat) : List Byte := (List.range n).map (fun i => stackByte s (a + i))

/-- Writes bytes at a stack-tier address (R513, R514): the data unit, and its stripe's parity by `parityByte`. -/
def stackWrite (s : State) (a : Nat) (bs : List Byte) (poison : Bool) : State :=
  { s with mem := { s.mem with
      stack := memWriteBytes s.mem.stack a bs
      stackErrs := s.mem.stackErrs.filter (fun e => !(wholeWords a bs.length).contains e.1)
      stackPoison := markWrite s.mem.stackPoison a bs.length poison } }

end Sys2Proof.Machine
end

