-- ==== Sys2Proof/Machine/Flits.lean ====
section
/-! DEFINITION. Dynamic flits and their route words (R145 to R150), and how they enter the fabric (R155). -/

namespace Sys2Proof.Machine

/-! ### Flits (R145, R148) -/

def flitDcol (f : Flit) : Nat := f.route.toNat % 2 ^ 11
def flitDrow (f : Flit) : Nat := f.route.toNat / 2 ^ 11 % 2 ^ 10
def flitClass (f : Flit) : Nat := f.route.toNat / 2 ^ 21 % 8
def flitEop (f : Flit) : Bool := f.route.toNat.testBit 24
def flitKind (f : Flit) : Nat := f.route.toNat / 2 ^ 25 % 16

/-- A route word (R148) of one-flit packets and last flits. -/
def routeWord (dcol drow tclass kind : Nat) : Word32 :=
  BitVec.ofNat 32 (dcol + drow * 2 ^ 11 + tclass * 2 ^ 21 + 2 ^ 24 + kind * 2 ^ 25)

/-- The packet kinds (R150). -/
def Kind.activation : Nat := 0x0
def Kind.longPartial : Nat := 0x1
def Kind.reAnchor : Nat := 0x2
def Kind.reducePartial : Nat := 0x3
def Kind.readReq : Nat := 0x4
def Kind.readData : Nat := 0x5
def Kind.write : Nat := 0x6
def Kind.writeAck : Nat := 0x7
def Kind.nack : Nat := 0x8

def Kind.token : Nat := 0x9
def Kind.control : Nat := 0xA
def Kind.event : Nat := 0xB

/-- The class of a packet kind to a core (R150). -/
def Kind.cls (k : Nat) : Nat :=
  if k = 1 ∨ k = 2 then 1 else if k = 4 then 3 else if k = 6 then 2 else if k = 5 ∨ k = 7 ∨ k = 8 then 4
  else if k = 0xA ∨ k = 0xB then 6 else 0

/-- The kinds that pass through the reorder gate. -/
def gateKind (k : Nat) : Bool := k == 0x0 || k == 0x1 || k == 0x3

/-- Flits of one class held at a router input, in its buffer or before it. -/
def heldAt (s : State) (r : RouterRef) (input cls : Nat) (queued : Bool) : Nat :=
  (s.fabric.filter (fun x => x.router == r && x.input == input && flitClass x.flit == cls && x.queued == queued)).length

/-- A flit put before a router input (R155, R156). It stands in the input's buffer of four per class, or waits: at a
boundary or a gateway in the dual-clock queue, and at the core's own input in the core. `goal` is the edge router that
its source chose (R149). -/
def enterFabric (s : State) (r : RouterRef) (input : Nat) (f : Flit) (queued : Bool) (goal : Option (Int × Int)) : State :=
  { s with fabric := s.fabric ++ [⟨r, input, f, queued, (getChase s (chaseOfRouter r)).clk, goal⟩] }

/-- A flit leaves core `c` into its router (input 6 is the core's own), for which it waits while that holds four of
the class (R155). -/
def emitFlit (s : State) (c : CoreRef) (f : Flit) : State :=
  match physCol s c with
  | some p =>
    let r : RouterRef := ⟨c.row, Fin.ofNat 1056 p⟩
    enterFabric s r 6 f (decide (4 ≤ heldAt s r 6 (flitClass f) false) || decide (0 < heldAt s r 6 (flitClass f) true)) none
  | none => s

/-- A one-flit packet leaves core `c`; while the core is sending a packet of its class it waits for that one's end
(R154). -/
def emitPacket (s : State) (c : CoreRef) (f : Flit) : State :=
  if (getCore s c).txOpen.any (fun t => t.cls == flitClass f) then modCore s c (fun k => { k with txWait := k.txWait ++ [f] })
  else emitFlit s c f

/-- The packets that waited for the end of one of class `cls` leave the core (R154). -/
def flushWaiting (s : State) (c : CoreRef) (cls : Nat) : State :=
  ((getCore s c).txWait.filter (fun f => flitClass f == cls)).foldl (fun s f => emitFlit s c f)
    (modCore s c (fun k => { k with txWait := k.txWait.filter (fun f => flitClass f != cls) }))

/-- A one-flit packet from core `c` to core `d`. The payload is filled with zeros to 68 bytes. -/
def sendTo (s : State) (c d : CoreRef) (kind tclass : Nat) (stamp : Nat) (payload : List Byte) (poison : Bool) : State :=
  emitPacket s c ⟨BitVec.ofNat 64 stamp, routeWord d.lcol.val d.row.val tclass kind, slice payload 0 68, 0, poison⟩

/-- A packet that `p` picks has been taken at its rim endpoint: it stands in a gateway's queue, or it was the first one on its
way there. -/
def dropFlit (s : State) (p : Flit → Bool) : State :=
  if s.rim.any (fun x => p x.flit) then { s with rim := s.rim.eraseP (fun x => p x.flit) }
  else { s with fabric := s.fabric.eraseP (fun x => p x.flit) }

/-- Bytes that the spec lays down no layout for (log entry 2): the payload of a packet kind without one. -/
def freeBytes (code : Nat) (args : List Nat) (n : Nat) : List Byte := leBytes n (Config.freeResult code args)

end Sys2Proof.Machine
end

