-- ==== Sys2Proof/Machine/Image.lean ====
section
/-! DEFINITION. Reading the forme container (R181 to R196, R210, R253 to R255, R347): header, section
table, declarations, layouts, programs, and the weight identity (R346). -/

namespace Sys2Proof.Machine

/-- A section table entry and its index (R183). -/
structure Sec where
  idx : Nat
  ty : Nat
  flags : Nat
  layer : Nat
  layout : Nat
  off : Nat
  len : Nat
  deriving DecidableEq, Repr

def imgMinor (img : List Byte) : Nat := leAt img 4 2
def imgMajor (img : List Byte) : Nat := leAt img 6 2
def imgRequired (img : List Byte) : Nat := leAt img 8 2
def imgSections (img : List Byte) : Nat := leAt img 12 2
def imgLayers (img : List Byte) : Nat := leAt img 14 2
def imgLensSeed (img : List Byte) : Nat := leAt img 16 8
def imgFill (img : List Byte) : Nat := leAt img 24 2
def imgB (img : List Byte) : Nat := leAt img 26 1
def imgH (img : List Byte) : Nat := leAt img 27 1
def imgSigner (img : List Byte) : Nat := leAt img 28 4
def imgSigOff (img : List Byte) : Nat := leAt img 112 8
def imgKind (img : List Byte) : Nat := leAt img 120 2
def imgOverlay (img : List Byte) : Nat := leAt img 122 2
def imgVersion (img : List Byte) : Nat := leAt img 124 2
def imgBase (img : List Byte) : List Byte := slice img 128 48
def imgL (img : List Byte) : Nat := leAt img 176 1
def imgSampler (img : List Byte) : Nat := leAt img 178 2

/-- Entry `i` of the section table (R183). -/
def secAt (img : List Byte) (i : Nat) : Sec :=
  let o := 256 + 32 * i
  ⟨i, leAt img o 2, leAt img (o + 2) 2, leAt img (o + 4) 2, leAt img (o + 6) 1, leAt img (o + 8) 8, leAt img (o + 16) 8⟩

def secs (img : List Byte) : List Sec := (List.range (imgSections img)).map (secAt img)
def secBytes (img : List Byte) (s : Sec) : List Byte := slice img s.off s.len
def secsOf (img : List Byte) (ty layer : Nat) : List Sec := (secs img).filter (fun s => s.ty == ty && s.layer == layer)
def globalSec (img : List Byte) (ty : Nat) : Option Sec := (secs img).find? (fun s => s.ty == ty)

/-- The section table's bytes. -/
def tableBytes (img : List Byte) : List Byte := slice img 256 (32 * imgSections img)

/-- The bytes a layer's digest covers (R185): its sections in table order. -/
def layerBytes (img : List Byte) (l : Nat) : List Byte :=
  ((secs img).filter (fun s => s.layer == l)).flatMap (secBytes img)

/-- The bytes the global digest covers (R185): global sections but DIGESTS and SIGNATURE. -/
def globalBytes (img : List Byte) : List Byte :=
  ((secs img).filter (fun s => s.layer == 0xFFFF && s.ty != 0x0001 && s.ty != 0x0009)).flatMap (secBytes img)

/-- The DIGESTS section (R185). -/
def digests (img : List Byte) : List Byte := ((globalSec img 0x0001).map (secBytes img)).getD []
def layerDigest (img : List Byte) (l : Nat) : List Byte := slice (digests img) (48 * l) 48
def globalDigest (img : List Byte) : List Byte := layerDigest img (imgLayers img)

/-- The weight identity (R346): the header with NAME, TABLE_DIGEST and SIGNATURE_OFFSET zero, then
DIGESTS. -/
def identity (img : List Byte) : List Byte :=
  sha384 (slice img 0 32 ++ List.replicate 88 0 ++ slice img 120 136 ++ digests img)

/-- The bytes a signature covers (R186). -/
def signedBytes (img : List Byte) : List Byte := slice img 0 256 ++ tableBytes img ++ digests img

/-- A tensor record (R188). -/
structure Tensor where
  idx : Nat
  fmt : Nat
  flags : Nat
  rows : Nat
  cols : Nat
  a0 : Int
  deriving DecidableEq, Repr

/-- A rotation-site record (R188); channels as index and pre-scale. -/
structure Site where
  site : Nat
  log2g : Nat
  threshold : Nat
  tensor : Nat
  channels : List (Nat × Nat)
  deriving DecidableEq, Repr

/-- An attention record (R210). -/
structure Attn where
  kv : Nat
  groups : Nat
  blocks : Nat
  layerGroup : Nat
  selection : Bool
  summary : Nat
  window : Nat
  topk : Nat
  deriving DecidableEq, Repr

/-- A layer declaration, and whether its records lie within the section. -/
structure Decl where
  tensors : List Tensor
  sites : List Site
  attnByte : Nat
  attn : Attn
  fits : Bool
  deriving DecidableEq, Repr

def tensorAt (b : List Byte) (o : Nat) : Tensor :=
  ⟨leAt b o 2, leAt b (o + 2) 1, leAt b (o + 3) 1, leAt b (o + 4) 4, leAt b (o + 8) 4, signed 16 (leAt b (o + 12) 2)⟩

def siteAt (b : List Byte) (o : Nat) : Site :=
  ⟨leAt b o 1, leAt b (o + 1) 1, leAt b (o + 2) 2, leAt b (o + 4) 2,
    (List.range (leAt b (o + 6) 1)).map (fun i => (leAt b (o + 8 + 4 * i) 3, leAt b (o + 11 + 4 * i) 1))⟩

/-- `n` site records from `o`, and the offset after them. -/
def sitesFrom (b : List Byte) : Nat → Nat → List Site × Nat
  | 0, o => ([], o)
  | n + 1, o =>
    let s := siteAt b o
    let r := sitesFrom b n (o + 8 + 4 * s.channels.length)
    (s :: r.1, r.2)

def attnAt (b : List Byte) (o : Nat) : Attn :=
  ⟨leAt b o 2, leAt b (o + 2) 1, leAt b (o + 3) 1, leAt b (o + 4) 1, leAt b (o + 5) 1 % 2 == 1, leAt b (o + 6) 2,
    leAt b (o + 8) 4, leAt b (o + 12) 2⟩

/-- The declaration in a LAYER_DECL section's bytes (R188, R210). -/
def declOf (b : List Byte) : Decl :=
  let nt := leAt b 0 2
  let st := sitesFrom b (leAt b 2 2) (16 + 16 * nt)
  let ab := leAt b 4 1
  ⟨(List.range nt).map (fun i => tensorAt b (16 + 16 * i)), st.1, ab, attnAt b st.2,
    decide (st.2 + (if ab = 1 then 16 else 0) ≤ b.length)⟩

def declSec (img : List Byte) (l : Nat) : List Byte := ((secsOf img 0x0003 l).head?.map (secBytes img)).getD []
def declAt (img : List Byte) (l : Nat) : Decl := declOf (declSec img l)

/-- The attention record of a layer, where it has one (R210). -/
def attnOf (img : List Byte) (l : Nat) : Option Attn :=
  let d := declAt img l
  if d.attnByte = 1 then some d.attn else none

/-- A part descriptor (R189), with its index in the layout. -/
structure PartD where
  num : Nat
  part : Nat
  layer : Nat
  layout : Nat
  rows : Nat
  cols : Nat
  flags : Nat
  programMap : Nat
  allocMap : Nat
  reductions : Nat
  reductionCount : Nat
  transferCount : Nat
  transfers : Nat
  hints : Nat
  hintCount : Nat
  passLen : Nat
  laneCycles : Nat
  gatePeak : Nat
  parkPeak : Nat
  posOffset : Int
  schedLen : Nat
  weightOff : Nat
  weightLen : Nat
  deriving DecidableEq, Repr

def partAt (b : List Byte) (i : Nat) : PartD :=
  let o := 16 + 64 * i
  { num := i, part := leAt b o 2 % 4096, layer := leAt b (o + 2) 1, layout := leAt b (o + 3) 1
    rows := leAt b (o + 4) 1, cols := leAt b (o + 5) 1, flags := leAt b (o + 6) 2
    programMap := leAt b (o + 8) 4, allocMap := leAt b (o + 12) 4, reductions := leAt b (o + 16) 4
    reductionCount := leAt b (o + 20) 2, transferCount := leAt b (o + 22) 2, transfers := leAt b (o + 24) 4
    hints := leAt b (o + 28) 4, hintCount := leAt b (o + 32) 2, passLen := leAt b (o + 34) 2
    laneCycles := leAt b (o + 36) 2
    gatePeak := leAt b (o + 38) 1, parkPeak := leAt b (o + 39) 1, posOffset := signed 32 (leAt b (o + 40) 4)
    schedLen := leAt b (o + 44) 4, weightOff := leAt b (o + 48) 8, weightLen := leAt b (o + 56) 8 }

/-- The bytes of a LAYOUT section. -/
def layoutBytes (img : List Byte) (l y : Nat) : List Byte :=
  (((secsOf img 0x0004 l).find? (fun s => s.layout == y)).map (secBytes img)).getD []
def layoutParts (b : List Byte) : List PartD := (List.range (leAt b 0 2)).map (partAt b)
def partsOf (img : List Byte) (l y : Nat) : List PartD := layoutParts (layoutBytes img l y)
/-- The layer length in schedule cycles (R189). -/
def layerLen (img : List Byte) (l y : Nat) : Nat := leAt (layoutBytes img l y) 4 4
/-- The layouts of a layer (R557). -/
def layoutCount (img : List Byte) (l : Nat) : Nat := (secsOf img 0x0004 l).length
def programBytes (img : List Byte) (l y : Nat) : List Byte :=
  (((secsOf img 0x0005 l).find? (fun s => s.layout == y)).map (secBytes img)).getD []
def weightsBytes (img : List Byte) (l : Nat) : List Byte := ((secsOf img 0x0006 l).head?.map (secBytes img)).getD []

/-- A reduction record (R190). -/
structure Redn where
  tensor : Nat
  flags : Nat
  first : Nat
  count : Nat
  a0 : Int
  contributors : Nat
  terms : Nat
  ownerRow : Nat
  ownerCol : Nat
  ownerPart : Nat
  recomputeLen : Nat
  retainUntil : Nat
  deriving DecidableEq, Repr

def rednAt (b : List Byte) (o : Nat) : Redn :=
  ⟨leAt b o 2, leAt b (o + 2) 2, leAt b (o + 4) 4, leAt b (o + 8) 4, signed 16 (leAt b (o + 12) 2), leAt b (o + 14) 2,
    leAt b (o + 16) 4, leAt b (o + 20) 1, leAt b (o + 21) 1, leAt b (o + 22) 2, leAt b (o + 24) 4, leAt b (o + 28) 4⟩

def rednsOf (b : List Byte) (p : PartD) : List Redn :=
  (List.range p.reductionCount).map (fun i => rednAt b (p.reductions + 32 * i))

/-- A static transfer record (R191). -/
structure Xfer where
  srcRow : Nat
  srcCol : Nat
  dstRow : Nat
  dstCol : Nat
  sendSlot : Nat
  recvSlot : Nat
  ready : Nat
  need : Nat
  deriving DecidableEq, Repr

def xferAt (b : List Byte) (o : Nat) : Xfer :=
  ⟨leAt b o 1, leAt b (o + 1) 1, leAt b (o + 2) 1, leAt b (o + 3) 1, leAt b (o + 4) 2, leAt b (o + 6) 2, leAt b (o + 8) 4,
    leAt b (o + 12) 4⟩

def xfersOf (b : List Byte) (p : PartD) : List Xfer :=
  (List.range p.transferCount).map (fun i => xferAt b (p.transfers + 16 * i))

/-- An allocation record (R196). -/
structure Alloc where
  addr : Nat
  kind : Nat
  len : Nat
  from_ : Nat
  until_ : Nat
  deriving DecidableEq, Repr

def allocAt (b : List Byte) (o : Nat) : Alloc :=
  ⟨leAt b o 4 % 2 ^ 19, leAt b (o + 3) 1, leAt b (o + 4) 4, leAt b (o + 8) 4, leAt b (o + 12) 4⟩

/-- The allocation records of core (r, c) of a part (R189, R196). -/
def allocsOf (b : List Byte) (p : PartD) (r c : Nat) : List Alloc :=
  let o := p.allocMap + 8 * (r * p.cols + c)
  (List.range (leAt b (o + 4) 4)).map (fun i => allocAt b (leAt b o 4 + 16 * i))

/-- The program index of core (r, c) of a part (R189). -/
def programOf (b : List Byte) (p : PartD) (r c : Nat) : Nat := leAt b (p.programMap + 4 * (r * p.cols + c)) 4

/-- An activity hint record (R199): cycle, kind, current in 0.1 A. -/
def hintsOf (b : List Byte) (p : PartD) : List (Nat × Nat × Nat) :=
  (List.range p.hintCount).map (fun i =>
    let o := p.hints + 8 * i
    (leAt b o 4, leAt b (o + 4) 1, leAt b (o + 6) 2))

/-- An operation word (R192). -/
structure OpWord where
  unit : Nat
  fn : Nat
  flags : Nat
  cycle : Nat
  operands : Nat
  deriving DecidableEq, Repr

def opAt (prog : List Byte) (i : Nat) : OpWord :=
  let o := 16 * i
  ⟨leAt prog o 2 / 4096, leAt prog o 2 % 4096, leAt prog (o + 2) 2, leAt prog (o + 4) 4, leAt prog (o + 8) 8⟩

/-- The fields of an operation word's OPERANDS (R192): addresses A, B and C, C also an immediate, and format and mode. -/
def OpWord.addrA (w : OpWord) : Nat := w.operands % 2 ^ 19
def OpWord.addrB (w : OpWord) : Nat := w.operands / 2 ^ 19 % 2 ^ 19
def OpWord.addrC (w : OpWord) : Nat := w.operands / 2 ^ 38 % 2 ^ 19
def OpWord.mode (w : OpWord) : Nat := w.operands / 2 ^ 57

/-- The units and functions of R193. -/
def opValid (w : OpWord) : Bool :=
  match w.unit with
  | 0x0 => decide (1 ≤ w.fn ∧ w.fn ≤ 9)
  | 0x1 => decide (1 ≤ w.fn ∧ w.fn ≤ 7)
  | 0x2 => decide ((1 ≤ w.fn ∧ w.fn ≤ 8) ∨ (0x10 ≤ w.fn ∧ w.fn ≤ 0x12) ∨ w.fn = 0x18 ∨ w.fn = 0x19
      ∨ (0x20 ≤ w.fn ∧ w.fn ≤ 0x22) ∨ w.fn = 0x28 ∨ w.fn = 0x29 ∨ (0x30 ≤ w.fn ∧ w.fn ≤ 0x33)
      ∨ (0x38 ≤ w.fn ∧ w.fn ≤ 0x3C) ∨ w.fn = 0x40 ∨ w.fn = 0x48 ∨ w.fn = 0x49)
  | 0x3 => w.fn == 1
  | 0x4 => w.fn == 1
  | 0x5 => w.fn == 1 || w.fn == 2
  | _ => false

def isEnd (w : OpWord) : Bool := w.unit == 0 && w.fn == 1
def isLoop (w : OpWord) : Bool := w.unit == 0 && w.fn == 2
def loopCount (w : OpWord) : Nat := w.operands % 2 ^ 16
def loopCycles (w : OpWord) : Nat := w.operands / 2 ^ 16 % 2 ^ 32
def loopWords (w : OpWord) : Nat := w.operands / 2 ^ 48

/-- The EXPERTS header (R253). -/
structure Experts where
  routed : Nat
  shared : Nat
  topk : Nat
  batchSlots : Nat
  privSlots : Nat
  coldSlots : Nat
  predK : Nat
  gateFn : Nat
  predFrom : Nat
  routerTensor : Nat
  predTensor : Nat
  imageBytes : Nat
  targets : Nat
  overlaySlots : Nat
  cold : List Bool
  pop : List Nat
  offs : List Nat
  fits : Bool
  target : List Nat
  maxRank : List Nat
  uTensor : List Nat
  uA0 : List Int
  recordsOk : Bool
  targetsOk : Bool
  deriving DecidableEq, Repr

def expertsOf (b : List Byte) : Experts :=
  let n := leAt b 0 2
  let t := leAt b 20 2
  let e := fun i => 32 + 16 * i
  let q := fun i => 32 + 16 * n + 8 * i
  { routed := n, shared := leAt b 2 1, topk := leAt b 3 1, batchSlots := leAt b 4 1, privSlots := leAt b 5 1
    coldSlots := leAt b 6 2, predK := leAt b 8 1, gateFn := leAt b 9 1, predFrom := leAt b 10 2
    routerTensor := leAt b 12 2, predTensor := leAt b 14 2, imageBytes := leAt b 16 4, targets := t
    overlaySlots := leAt b 22 1
    cold := (List.range n).map (fun i => leAt b (e i + 2) 1 % 2 == 1)
    pop := (List.range n).map (fun i => leAt b (e i + 4) 4)
    offs := (List.range n).map (fun i => leAt b (e i + 8) 8)
    fits := decide (32 + 16 * n + 8 * t ≤ b.length)
    target := (List.range t).map (fun i => leAt b (q i) 2)
    maxRank := (List.range t).map (fun i => leAt b (q i + 2) 1)
    uTensor := (List.range t).map (fun i => leAt b (q i + 4) 2)
    uA0 := (List.range t).map (fun i => signed 16 (leAt b (q i + 6) 2))
    recordsOk := (List.range n).all (fun i => leAt b (e i) 2 == i)
    targetsOk := (List.range t).all (fun i =>
      let r := leAt b (q i + 2) 1
      let a := signed 16 (leAt b (q i + 6) 2)
      (r == 32 || r == 64) && decide (-512 ≤ a ∧ a ≤ 415)) }

/-- The EXPERTS section of a layer, where it has one. -/
def expertsSec (img : List Byte) (l : Nat) : Option Sec := (secsOf img 0x0007 l).head?
def expertsAt (img : List Byte) (l : Nat) : Option Experts :=
  (expertsSec img l).map (fun s => expertsOf (secBytes img s))

/-- The DEGRADE list (R202). -/
def degradeList (img : List Byte) : List Nat :=
  match globalSec img 0x0008 with
  | some s => (List.range (s.len / 2)).map (fun i => leAt img (s.off + 2 * i) 2)
  | none => []

/-- The rotary frequency tables (R120, R184): a count byte, then tables of 128 five-byte entries. -/
def freqCount (img : List Byte) : Nat := ((globalSec img 0x0002).map (fun s => leAt (secBytes img s) 0 1)).getD 0
def freqAt (img : List Byte) (table i : Nat) : Nat :=
  ((globalSec img 0x0002).map (fun s => leAt (secBytes img s) (1 + 640 * table + 5 * i) 5)).getD 0

end Sys2Proof.Machine
end

