-- ==== Sys2Proof/Machine/Checks.lean ====
section
/-! DEFINITION. The load-time checks of R206 in their order, each over the rules it names, with the
location fields of R207; the checks of variant and overlay images (R347). -/

namespace Sys2Proof.Machine

/-- The location fields of R207; none where a field does not apply. -/
structure Loc where
  sec : Option Nat
  layer : Option Nat
  layout : Option Nat
  part : Option Nat
  core : Option (Nat × Nat)
  offset : Option Nat
  item : Option Nat
  instr : Option Nat
  cycle : Option Nat
  chase : Option Nat
  deriving DecidableEq, Repr

def Loc.none_ : Loc := ⟨none, none, none, none, none, none, none, none, none, none⟩
def Loc.off (o : Nat) : Loc := { Loc.none_ with offset := some o }
def Loc.section_ (s : Sec) (o : Nat) : Loc := { Loc.none_ with sec := some s.idx, offset := some o }
def Loc.layerItem (l i : Nat) : Loc := { Loc.none_ with layer := some l, item := some i }
def Loc.partOf (l y p : Nat) : Loc := { Loc.none_ with layer := some l, layout := some y, part := some p }

/-- A refusal: the check's place in R206 (1 to 23) and its location. -/
structure Refuse where
  check : Nat
  loc : Loc
  deriving DecidableEq, Repr

/-- The status of a refusal (R351) and the code of its fault record (R382). -/
def Refuse.status (r : Refuse) : Nat := 0x1100 + r.check
def Refuse.code (r : Refuse) : Nat := 0x6100 + r.check

/-- Packs the fields of an extra word: all ones where none applies (R207, log entry 15). -/
def packWord (fs : List (Option Nat × Nat × Nat)) : Option Nat :=
  if fs.all (fun f => f.1.isNone) then none
  else some ((fs.map (fun f => (f.1.getD (2 ^ f.2.2 - 1) % 2 ^ f.2.2) * 2 ^ f.2.1)).sum)

/-- The fault record of a refusal or a forme defect (R207, R209): its block is the LOAD page. -/
def locItem (code : Nat) (l : Loc) : FaultItem :=
  { faultItem code with
    block := some (identOf 0x0E 0)
    chase := l.chase, instr := l.instr, cycle := l.cycle
    x0 := packWord [(l.sec, 0, 16), (l.layer, 16, 8), (l.layout, 24, 2)]
    x1 := packWord [(l.part, 0, 12), (l.core.map (·.1), 12, 6), (l.core.map (·.2), 18, 6)]
    x2 := l.offset, x3 := l.item }

/-- A failing item of a check: where it stands in the file, and its location fields. -/
abbrev Cand := Nat × Loc

/-- The failing item that comes first in file order (R206). -/
def firstInFile (cs : List Cand) : Option Loc :=
  (cs.foldl (fun (b : Option Cand) x => match b with
    | some y => if x.1 < y.1 then some x else b
    | none => some x) none).map (·.2)

/-- A candidate where its test holds. -/
def cand (bad : Bool) (pos : Nat) (l : Loc) : List Cand := if bad then [(pos, l)] else []

/-- A failing header field, by its offset. -/
def headBad (bad : Bool) (o : Nat) : List Cand := cand bad o (Loc.off o)

/-- A failing section table entry; no offset within a section applies. -/
def entryBad (bad : Bool) (s : Sec) : List Cand := cand bad (256 + 32 * s.idx) { Loc.none_ with sec := some s.idx }

/-- A failing item at offset `o` within a section. -/
def secItem (bad : Bool) (s : Sec) (o : Nat) : List Cand := cand bad (s.off + o) (Loc.section_ s o)

/-- FORME_MAGIC. -/
def checkMagic (img : List Byte) : Option Loc :=
  firstInFile (headBad (decide (img.length < 256)) 0 ++ headBad (slice img 0 4 != [0x46#8, 0x4F#8, 0x52#8, 0x4D#8]) 0
    ++ headBad (leAt img 10 2 != 256) 10)

/-- VERSION_UNSUPPORTED (R187). -/
def checkVersion (img : List Byte) : Option Loc :=
  firstInFile (headBad (imgMajor img != 1) 6 ++ headBad (decide (2 < imgRequired img)) 8)

/-- A table entry lies wholly within the file (R183). -/
def secInside (img : List Byte) (s : Sec) : Bool := decide (s.off + s.len ≤ img.length)

/-- FORME_SIGNATURE (R186): the table and the two entries, then the signature under the key of the
slot. `keys` lists the fused slots. -/
def checkSignature (keys : List (Nat × Nat × Nat)) (img : List Byte) : Option Loc :=
  let ds := (secs img).filter (fun s => s.ty == 0x0001)
  let sg := (secs img).filter (fun s => s.ty == 0x0009)
  let bad :=
    if img.length < 256 + 32 * imgSections img then true
    else match ds, sg with
      | [d], [g] =>
        if g.off ≠ imgSigOff img ∨ g.len < 96 ∨ ¬secInside img d ∨ ¬secInside img g then true
        else match keys.find? (fun k => k.1 == imgSigner img) with
          | some (_, x, y) =>
            !(ecdsaVerify (x, y) (sha384 (signedBytes img)) (beNat (slice img g.off 48))
                (beNat (slice img (g.off + 48) 48)))
          | none => true
      | _, _ => true
  if bad then some Loc.none_ else none

/-- Known section types (R184). -/
def knownSec (ty : Nat) : Bool := decide (1 ≤ ty ∧ ty ≤ 9)

/-- A section type that belongs to a layer (R184). -/
def layerSec (ty : Nat) : Bool := decide (3 ≤ ty ∧ ty ≤ 7)

/-- Two extents overlap. -/
def overlap (a n b m : Nat) : Bool := decide (a < b + m ∧ b < a + n)

/-- R183 and R184 of one entry. An empty section that starts strictly inside another one overlaps it; one that starts inside
the table does not (DESIGN CHOICE, log entry 102). -/
def secBad (img : List Byte) (s : Sec) : Bool :=
  s.off % 64 != 0 || !secInside img s
    || (0 < s.len && overlap s.off s.len 0 (256 + 32 * imgSections img))
    || ((secs img).any (fun t => decide (t.idx < s.idx) && overlap s.off s.len t.off t.len))
    || (!knownSec s.ty && s.flags % 2 == 0)

/-- R557 of one entry: its layer and layout fields. -/
def secPlaceBad (img : List Byte) (s : Sec) : Bool :=
  if !knownSec s.ty then s.layer != 0xFFFF && decide (imgLayers img ≤ s.layer)
  else if s.ty = 4 ∨ s.ty = 5 then decide (imgLayers img ≤ s.layer) || decide (3 < s.layout)
  else if layerSec s.ty then decide (imgLayers img ≤ s.layer) || s.layout != 0xFF
  else s.layer != 0xFFFF || s.layout != 0xFF

/-- A second section of one type, layer and layout (R184, R557). -/
def secTwice (img : List Byte) (s : Sec) : Bool :=
  knownSec s.ty && (secs img).any (fun t => decide (t.idx < s.idx) && t.ty == s.ty && t.layer == s.layer && t.layout == s.layout)

/-- A layer lacks its LAYER_DECL, or its layouts and programs are not numbered 0 to k − 1 alike (R557). -/
def layerLacks (img : List Byte) (l : Nat) : Bool :=
  let k := layoutCount img l
  (secsOf img 3 l).isEmpty || decide (k < 1) || (secsOf img 5 l).length != k
    || (List.range k).any (fun y =>
        !((secsOf img 4 l).any (fun s => s.layout == y)) || !((secsOf img 5 l).any (fun s => s.layout == y)))

/-- R181 of any image's header, and TABLE_DIGEST. -/
def containerBad (img : List Byte) : List Cand :=
  headBad (decide (imgMinor img < imgRequired img)) 8
    ++ headBad (decide (imgSections img < 1 ∨ 4096 < imgSections img)) 12 ++ headBad (decide (256 < imgLayers img)) 14
    ++ headBad (decide (imgFill img < 1 ∨ 1024 < imgFill img)) 24 ++ headBad (sha384 (tableBytes img) != slice img 64 48) 64

/-- R181 and R182 of a forme's header, and TABLE_DIGEST. -/
def headerBad (img : List Byte) : List Cand :=
  containerBad img ++ headBad (decide (imgB img < 1 ∨ 16 < imgB img)) 26 ++ headBad (decide (8 < imgH img)) 27
    ++ headBad (decide (imgL img < 1 + imgH img ∨ 16 < imgL img ∨ 16 < imgB img * imgL img)) 176
    ++ headBad (decide (imgLayers img ≤ imgSampler img)) 178

/-- The layers of the layer group of layer `l` before it do not reach it, or are 16 already (R210). -/
def groupBad (img : List Byte) (l : Nat) : Bool :=
  match attnOf img l with
  | some a =>
    let mine := (List.range l).filter (fun m => (attnOf img m).any (fun b => b.layerGroup == a.layerGroup))
    !mine.isEmpty && (decide (16 ≤ mine.length) || !(mine.contains (l - 1)))
  | none => false

/-- The attention record's ranges (R210). -/
def attnBad (d : Decl) : Bool :=
  let a := d.attn
  match d.tensors.find? (fun t => t.idx == a.kv), d.tensors.find? (fun t => t.idx == a.summary) with
  | some k, some m =>
    k.fmt != 1 || k.cols != 32 * a.blocks || decide (a.groups < 1) || decide (16 < a.groups)
      || decide (a.blocks < 1) || decide (30 < a.blocks) || m.fmt != 1 || m.flags / 4 % 2 != 1
      || m.rows != 96 || m.cols != 32 * a.blocks
      || a.window % 256 != 0 || decide (a.window < 256) || decide (16777216 < a.window)
      || decide (a.topk < 1) || decide (1024 < a.topk)
  | _, _ => true

/-- A LAYER_DECL's structure (R188, R210): its counts against its length, ATTENTION, the attention record. -/
def declBad (img : List Byte) (s : Sec) : List Cand :=
  let b := secBytes img s
  let nt := leAt b 0 2
  let d := declOf b
  let o := (sitesFrom b (leAt b 2 2) (16 + 16 * nt)).2
  let tensorsFit := decide (16 + 16 * nt ≤ b.length)
  secItem (!tensorsFit) s 0 ++ secItem (tensorsFit && decide (b.length < o)) s 2
    ++ secItem (decide (1 < d.attnByte) || (d.attnByte == 1 && decide (o ≤ b.length ∧ b.length < o + 16))) s 4
    ++ secItem (d.attnByte == 1 && d.fits && (attnBad d || groupBad img s.layer)) s o

/-- A LAYOUT section's tables lie within it, and SAMPLER flags stand where R182 has them. -/
def layoutBad (img : List Byte) (s : Sec) : List Cand :=
  let b := secBytes img s
  let n := b.length
  if n < 16 + 64 * leAt b 0 2 then [(s.off, Loc.section_ s 0)]
  else
    let ps := layoutParts b
    (ps.flatMap (fun p =>
      let o := 16 + 64 * p.num
      let cells := p.rows * p.cols
      secItem (p.flags % 2 == 1 && s.layer != imgSampler img) s (o + 6)
        ++ secItem (decide (n < p.programMap + 4 * cells)) s (o + 8)
        ++ secItem (decide (n < p.allocMap + 8 * cells)) s (o + 12)
        ++ secItem (0 < p.reductionCount && decide (n < p.reductions + 32 * p.reductionCount)) s (o + 16)
        ++ secItem (0 < p.transferCount && decide (n < p.transfers + 16 * p.transferCount)) s (o + 24)
        ++ secItem (0 < p.hintCount && decide (n < p.hints + 8 * p.hintCount)) s (o + 28)
        ++ secItem (p.weightLen != 0 && (secsOf img 6 s.layer).isEmpty) s (o + 56)
        ++ (if n < p.allocMap + 8 * cells then []
          else (List.range cells).flatMap (fun i =>
            let c := leAt b (p.allocMap + 8 * i + 4) 4
            secItem (0 < c && decide (n < leAt b (p.allocMap + 8 * i) 4 + 16 * c)) s (p.allocMap + 8 * i)))))
    ++ secItem (s.layer == imgSampler img && !(ps.any (fun p => p.flags % 2 == 1))) s 0

/-- A layer declares no stationary N4 tensor of this index with so many rows (R253). -/
def n4Lacks (img : List Byte) (layer idx rows : Nat) : Bool :=
  !((declAt img layer).tensors.any (fun t => t.idx == idx && t.fmt == 1 && t.flags / 4 % 2 == 1 && t.rows == rows))

/-- An overlay target record's tensors (R255): TARGET is stationary, U_TENSOR is N4 of MAX_RANK columns. -/
def targetBad (d : Decl) (e : Experts) (i : Nat) : Bool :=
  !(d.tensors.any (fun t => t.idx == e.target.getD i 0 && t.flags / 4 % 2 == 1))
    || !(d.tensors.any (fun t => t.idx == e.uTensor.getD i 0 && t.fmt == 1 && t.cols == e.maxRank.getD i 0))

/-- R256 for one EXPERTS section. `slots` is the OVERLAY_SLOTS of the first layer with overlay targets. PRED_TENSOR is a
tensor of the layer that runs the predictor (DESIGN CHOICE, log entry 87). -/
def expertsBad (img : List Byte) (slots : Nat) (s : Sec) : List Cand :=
  let e := expertsOf (secBytes img s)
  let n := e.routed
  let d := declAt img s.layer
  secItem (!e.fits || decide (1024 < n)) s 0 ++ secItem (decide (8 < e.shared)) s 2
    ++ secItem (decide (16 < e.topk ∨ n + e.privSlots < e.topk) || (e.topk == 0 && (n != 0 || e.privSlots != 0))) s 3
    ++ secItem (e.batchSlots != imgB img * imgL img) s 4 ++ secItem (decide (64 < e.privSlots)) s 5
    ++ secItem (decide (256 < e.coldSlots)
        || (e.cold.contains true && decide (e.coldSlots < min (e.batchSlots * e.topk) (e.cold.count true)))) s 6
    ++ secItem (decide (16 < e.predK)) s 8 ++ secItem (decide (1 < e.gateFn)) s 9
    ++ secItem (e.predFrom != 0xFFFF && e.predFrom + 2 != s.layer) s 10
    ++ secItem (0 < n && n4Lacks img s.layer e.routerTensor n) s 12
    ++ secItem ((e.predTensor == 0xFFFF) != (e.predK == 0)
        || (e.predTensor != 0xFFFF && e.predFrom != 0xFFFF && n4Lacks img e.predFrom e.predTensor n)) s 14 ++ secItem (e.imageBytes % 68 != 0) s 16
    ++ secItem (decide (32 < e.targets)) s 20
    ++ secItem (decide (64 < e.overlaySlots) || (e.targets != 0 && e.overlaySlots != slots)) s 22
    ++ secItem (!e.recordsOk) s 32 ++ secItem (!e.targetsOk) s (32 + 16 * n)
    ++ (List.range e.targets).flatMap (fun i => secItem (targetBad d e i) s (32 + 16 * n + 8 * i))

/-- R202: the entries at or beyond LAYER_COUNT, or of a layer already at its highest layout. -/
def degradeBad (img : List Byte) (s : Sec) : Nat → List Nat → List Nat → List Cand
  | _, _, [] => []
  | i, seen, l :: r =>
    secItem (decide (imgLayers img ≤ l ∨ layoutCount img l ≤ seen.count l + 1)) s (2 * i) ++ degradeBad img s (i + 1) (l :: seen) r

/-- The failing items within one section's content. -/
def contentBad (img : List Byte) (slots : Nat) (s : Sec) : List Cand :=
  secItem (s.len == 0 && (s.ty == 3 || s.ty == 4 || s.ty == 5)) s 0
    ++ (match s.ty with
    | 1 => secItem (s.len != 48 * (imgLayers img + 1)) s 0
    | 2 => secItem (0 < s.len && decide (s.len < 1 + 640 * leAt img s.off 1)) s 0
    | 3 => if s.len = 0 then [] else declBad img s
    | 4 => if s.len = 0 then [] else layoutBad img s
    | 5 => secItem (s.len % 16 != 0) s 0
    | 7 => expertsBad img slots s
    | 8 => secItem (s.len % 2 != 0) s 0 ++ degradeBad img s 0 [] (degradeList img)
    | _ => [])

/-- FORME_STRUCTURE (R181 to R184, R188, R202, R208, R210, R256, R557). What a layer lacks stands after the table. -/
def checkStructure (img : List Byte) : Option Loc :=
  let ss := secs img
  let slots := ((ss.filter (fun s => s.ty == 7)).map (fun s => expertsOf (secBytes img s))).find? (fun e => e.targets != 0)
  firstInFile (headerBad img
    ++ ss.flatMap (fun s => entryBad (secBad img s || secPlaceBad img s || secTwice img s) s)
    ++ cand ((List.range (imgLayers img)).any (layerLacks img)) (256 + 32 * ss.length) Loc.none_
    ++ (if ss.any (secBad img) then [] else ss.flatMap (contentBad img (slots.elim 0 Experts.overlaySlots))))

/-- FORME_DIGEST (R185): the digests stand in DIGESTS. -/
def checkDigest (img : List Byte) : Option Loc :=
  let at_ := { Loc.none_ with sec := (globalSec img 0x0001).map Sec.idx }
  ((List.range (imgLayers img)).find? (fun l => sha384 (layerBytes img l) != layerDigest img l)).map
      (fun l => { at_ with layer := some l })
  <|> (if sha384 (globalBytes img) ≠ globalDigest img then some at_ else none)

/-- Where a section of a layer (and layout) starts in the file. -/
def secPos (img : List Byte) (ty l y : Nat) : Nat :=
  ((secsOf img ty l).find? (fun s => y == 0xFF || s.layout == y)).elim 0 Sec.off

/-- Where the tensor record `i` of a layer stands. -/
def tensorPos (img : List Byte) (l i : Nat) : Nat := secPos img 3 l 0xFF + 16 + 16 * i

/-- The tensors of the forme that a test refuses. -/
def badTensors (img : List Byte) (f : Tensor → Bool) : List Cand :=
  (List.range (imgLayers img)).flatMap (fun l =>
    (declAt img l).tensors.zipIdx.flatMap (fun t => cand (f t.1) (tensorPos img l t.2) (Loc.layerItem l t.1.idx)))

/-- FORME_FORMAT (R42, R47). -/
def checkFormat (img : List Byte) : Option Loc :=
  firstInFile (badTensors img (fun t => decide (t.fmt < 1 ∨ 8 < t.fmt) || (t.fmt == 5 && t.flags / 2 % 4 != 0)))

/-- Every (layer, layout) of the image. -/
def layouts (img : List Byte) : List (Nat × Nat) :=
  (List.range (imgLayers img)).flatMap (fun l => (List.range (layoutCount img l)).map (fun y => (l, y)))

/-- The failing items of every part: a test gives their offsets in the LAYOUT section. -/
def badParts (img : List Byte) (f : Nat → Nat → List Byte → PartD → List Cand) : List Cand :=
  (layouts img).flatMap (fun ly =>
    let b := layoutBytes img ly.1 ly.2
    (layoutParts b).flatMap (fun p => (f ly.1 ly.2 b p).map (fun c => (secPos img 4 ly.1 ly.2 + c.1, c.2))))

/-- A descriptor's place in its LAYOUT section. -/
def PartD.pos (p : PartD) : Nat := 16 + 64 * p.num

/-- The reduction records of a part that a test refuses; the item is the record's index. -/
def badRedns (l y : Nat) (b : List Byte) (p : PartD) (f : Nat → Redn → Bool) : List Cand :=
  (rednsOf b p).zipIdx.flatMap (fun r =>
    cand (f r.2 r.1) (p.reductions + 32 * r.2) { Loc.partOf l y p.part with item := some r.2 })

/-- FORME_ANCHOR (R60, R190). -/
def checkAnchor (img : List Byte) : Option Loc :=
  firstInFile (badTensors img (fun t => t.flags / 2 % 2 == 1 && decide (t.a0 < -512 ∨ 415 < t.a0))
    ++ badParts img (fun l y b p => badRedns l y b p (fun _ r =>
      decide (r.a0 < -512 ∨ 415 < r.a0)
        || ((declAt img l).tensors.find? (fun t => t.idx == r.tensor)).any (fun t => t.a0 != r.a0))))

/-- The elements of an OUTPUT tensor that the layout's records name, each once, are fewer than its elements (R190). -/
def coverBad (rs : List Redn) (t : Tensor) : Bool :=
  let ends := ((rs.filter (fun r => r.tensor == t.idx && 0 < r.count)).map (fun r => (r.first, r.first + r.count))).mergeSort
    (fun a b => decide (a.1 ≤ b.1))
  decide (ends.foldl (fun n e => if e.1 ≤ n then max n e.2 else n) 0 < t.rows * t.cols)

/-- A reduction record's ranges (R63, R190), or elements that an earlier record of the layout names. -/
def rednBad (parts : List PartD) (d : Decl) (before : List Redn) (r : Redn) : Bool :=
  decide (r.contributors < 1 ∨ 4096 < r.contributors ∨ 65536 < r.terms)
    || !(d.tensors.any (fun t => t.idx == r.tensor && t.flags / 2 % 2 == 1 && decide (r.first + r.count ≤ t.rows * t.cols)))
    || !(parts.any (fun p => p.part == r.ownerPart && decide (r.ownerRow < p.rows ∧ r.ownerCol < p.cols)))
    || before.any (fun q => q.tensor == r.tensor && overlap q.first q.count r.first r.count)

/-- The records of a layout before record `i` of part `p`. -/
def rednsBefore (b : List Byte) (p : PartD) (i : Nat) : List Redn :=
  ((layoutParts b).filter (fun q => decide (q.num < p.num))).flatMap (rednsOf b) ++ (rednsOf b p).take i

/-- FORME_REDUCTION (R50, R63, R190). An element that no record names is its tensor's failure. -/
def checkReduction (img : List Byte) : Option Loc :=
  firstInFile (badTensors img (fun t => ((t.fmt == 1 || t.fmt == 2) && t.cols % 32 != 0) || (t.fmt == 3 && t.cols % 64 != 0))
    ++ badParts img (fun l y b p => badRedns l y b p (fun i r => rednBad (layoutParts b) (declAt img l) (rednsBefore b p i) r))
    ++ (layouts img).flatMap (fun ly =>
      let rs := (partsOf img ly.1 ly.2).flatMap (rednsOf (layoutBytes img ly.1 ly.2))
      (declAt img ly.1).tensors.zipIdx.flatMap (fun t => cand (t.1.flags / 2 % 2 == 1 && coverBad rs t.1)
        (tensorPos img ly.1 t.2) { Loc.layerItem ly.1 t.1.idx with layout := some ly.2 })))

/-- The location of a breach that `Config.scheduleBreach` finds: free, as far as its check has fields (log entry 12). -/
def openLoc (n : Nat) (img : List Byte) : Loc :=
  let v := fun (k m : Nat) => some (Config.freeResult 0x206 [n, k, leNat img] % m)
  let l := { Loc.none_ with layer := v 0 256 }
  let p := { l with layout := v 1 4, part := v 2 4096 }
  let c := { p with core := some (Config.freeResult 0x206 [n, 3, leNat img] % 64, Config.freeResult 0x206 [n, 4, leNat img] % 64) }
  match n with
  | 10 => { l with item := v 9 16 }
  | 9 => { l with sec := v 5 65536, offset := v 6 (2 ^ 32) }
  | 19 => { c with cycle := v 8 (2 ^ 48) }
  | 20 => { c with item := v 9 (2 ^ 32) }
  | 23 => { p with item := v 9 (2 ^ 32), chase := v 10 256 }
  | 16 => { c with instr := v 7 (2 ^ 32) }
  | 18 => { c with instr := v 7 (2 ^ 32) }
  | _ => { c with instr := v 7 (2 ^ 32), cycle := v 8 (2 ^ 48) }

/-- A check that the spec's layouts do not settle: the verdict of `Config.scheduleBreach` (log entry 12), where the image
holds what could breach it. -/
def checkOpen (n : Nat) (could : Bool) (img : List Byte) : Option Loc :=
  if could && Config.scheduleBreach n img then some (openLoc n img) else none

/-- A byte of data that may hold T2 code 0b10 or a 2:4 code from 6 on. -/
def dataSuspect (b : Byte) : Bool :=
  let x := b.toNat
  (List.range 4).any (fun i => x / 4 ^ i % 4 == 2) || decide (6 ≤ x % 16 ∨ 6 ≤ x / 16)

/-- FORME_DATA (R45, R114, R256): only a four-bit or ternary STATIONARY tensor has such codes; which of the WEIGHTS bytes are
ternary, which four-bit and which 2:4 codes is not given (log entry 12). -/
def checkData (img : List Byte) : Option Loc :=
  checkOpen 9 ((List.range (imgLayers img)).any (fun l => (weightsBytes img l).any dataSuspect
    && (declAt img l).tensors.any (fun t => t.flags / 4 % 2 == 1 && decide (1 ≤ t.fmt ∧ t.fmt ≤ 3)))) img

/-- FORME_DATA of a variant or overlay image, whose declarations stand in its base forme (R347). -/
def checkDataSlot (img : List Byte) : Option Loc :=
  checkOpen 9 ((List.range (imgLayers img)).any (fun l => (weightsBytes img l).any dataSuspect)) img

/-- A rotation site's rules (R79, R82, R84). -/
def siteBad (d : Decl) (s : Site) : Bool :=
  decide (15 < s.site ∨ s.log2g < 5 ∨ 13 < s.log2g) || !(s.threshold == 0 || decide (0x4000 ≤ s.threshold ∧ s.threshold ≤ 0x40B0))
    || !(d.tensors.any (fun t => t.idx == s.tensor && t.cols % 2 ^ s.log2g == 0 && s.channels.all (fun ch => decide (ch.1 < t.cols))))

/-- The failing sites of a layer from offset `o`: `k` sites and `n` channels stand before them. The 17th site and the
site with the 65th channel fail too. -/
def sitesBad (l pos : Nat) (d : Decl) : Nat → Nat → Nat → List Site → List Cand
  | _, _, _, [] => []
  | o, k, n, s :: r =>
    let m := n + s.channels.length
    cand (siteBad d s || decide (16 ≤ k ∨ 64 < m)) (pos + o) (Loc.layerItem l s.site)
      ++ sitesBad l pos d (o + 8 + 4 * s.channels.length) (k + 1) m r

/-- FORME_LENS (R79, R82, R84, R120): the sites' records, then whether the programs keep each lens group on one core. -/
def checkLens (img : List Byte) : Option Loc :=
  firstInFile ((List.range (imgLayers img)).flatMap (fun l =>
      let d := declAt img l
      sitesBad l (secPos img 3 l 0xFF) d (16 + 16 * d.tensors.length) 0 0 d.sites)
    ++ cand (decide (16 < freqCount img)) ((globalSec img 2).elim 0 Sec.off) Loc.none_)
  <|> checkOpen 10 ((List.range (imgLayers img)).any (fun l => !(declAt img l).sites.isEmpty)) img

/-- A part descriptor's ranges (R189, R206), and those of its program map and transfers (R191, R192). -/
def partBad (img : List Byte) (l y : Nat) (b : List Byte) (p : PartD) : Bool :=
  p.layer != l || p.layout != y || decide (p.rows < 1 ∨ 64 < p.rows ∨ p.cols < 1 ∨ 64 < p.cols)
    || decide (p.passLen < 1 ∨ 1024 < p.passLen) || decide (p.posOffset ≤ -16777216 ∨ 16777216 ≤ p.posOffset)
    || (layoutParts b).any (fun q => decide (q.num < p.num ∧ p.part ≤ q.part))
    || (p.weightLen != 0 && decide ((weightsBytes img l).length < p.weightOff + p.weightLen))
    || (List.range (p.rows * p.cols)).any (fun i => decide ((programBytes img l y).length / 16 ≤ leAt b (p.programMap + 4 * i) 4))
    || (xfersOf b p).any (fun x => decide (p.rows ≤ x.srcRow ∨ p.cols ≤ x.srcCol ∨ p.rows ≤ x.dstRow ∨ p.cols ≤ x.dstCol
        ∨ 127 < x.sendSlot ∨ 127 < x.recvSlot))

/-- FORME_PART (R189). -/
def checkPart (img : List Byte) : Option Loc :=
  firstInFile (badParts img (fun l y b p => cand (partBad img l y b p) p.pos (Loc.partOf l y p.part)))

/-- The words of a PROGRAM section with their instruction addresses (R192). -/
def programWords (prog : List Byte) : List (Nat × OpWord) := (List.range (prog.length / 16)).map (fun i => (i, opAt prog i))

/-- The cores of a part. -/
def partCores (p : PartD) : List (Nat × Nat) :=
  (List.range p.rows).flatMap (fun r => (List.range p.cols).map (fun c => (r, c)))

/-- The part and core of a layout whose program holds word `i`: the last program that starts at or before it. -/
def ownerOfWord (b : List Byte) (i : Nat) : Option (Nat × Nat × Nat) :=
  ((layoutParts b).flatMap (fun p => (partCores p).map (fun rc => (programOf b p rc.1 rc.2, p.part, rc)))).foldl
    (fun (best : Option (Nat × Nat × Nat × Nat)) x =>
      if i < x.1 then best
      else match best with
        | some y => if y.1 < x.1 then some x else best
        | none => some x) none |>.map (·.2)

/-- The first word of each PROGRAM section that a test names (R207: instruction address, part and core). -/
def badWords (img : List Byte) (f : List (Nat × OpWord) → Option Nat) : List Cand :=
  (layouts img).flatMap (fun ly =>
    match f (programWords (programBytes img ly.1 ly.2)) with
    | some i =>
      let w := ownerOfWord (layoutBytes img ly.1 ly.2) i
      [(secPos img 5 ly.1 ly.2 + 16 * i, { Loc.none_ with
        layer := some ly.1, layout := some ly.2, part := w.map (·.1), core := w.map (·.2), instr := some i })]
    | none => [])

/-- FORME_OPCODE (R193): the first invalid word of each program section. -/
def checkOpcode (img : List Byte) : Option Loc :=
  firstInFile (badWords img (fun ws => (ws.find? (fun w => !opValid w.2)).map (·.1)))

/-- R194 over words in order: no operation at or beyond the body's length, no END inside, a nested loop wholly inside,
at most four deep. `lim` is the body's cycles (none for the pass). A pass that no END ends fails at its last word. -/
def loopBad : Nat → Nat → Option Nat → List (Nat × OpWord) → Option Nat
  | 0, _, _, _ => none
  | _ + 1, _, _, [] => none
  | fuel + 1, depth, lim, (i, w) :: r =>
    if lim.any (fun n => decide (n ≤ w.cycle)) then some i
    else if isEnd w && decide (0 < depth) then some i
    else if isLoop w then
      let n := loopWords w
      if 4 ≤ depth ∨ r.length < n ∨ lim.any (fun m => decide (m < w.cycle + loopCount w * loopCycles w)) then some i
      else
        (loopBad fuel (depth + 1) (some (loopCycles w)) (r.take n)) <|> loopBad fuel depth lim (r.drop n)
          <|> (if depth = 0 ∧ r.length = n then some (i + n) else none)
    else if depth = 0 ∧ r = [] ∧ !isEnd w then some i
    else loopBad fuel depth lim r

/-- FORME_LOOP (R194). -/
def checkLoop (img : List Byte) : Option Loc :=
  firstInFile (badWords img (fun ws => loopBad (2 * ws.length + 1) 0 none ws))

/-- The cycle within each pass from which a region lives (R196): one that persists lives in the passes after its first
from their start. -/
def Alloc.since (a : Alloc) : Nat := if a.until_ = 0xFFFFFFFF then 0 else a.from_

/-- Two allocation records whose lifetimes and bytes overlap (R197). -/
def allocMeet (a b : Alloc) : Bool := overlap a.addr a.len b.addr b.len && decide (a.since < b.until_ ∧ b.since < a.until_)

/-- A word of the forme's programs of a kind. -/
def anyWord (img : List Byte) (p : OpWord → Bool) : Bool :=
  (layouts img).any (fun ly => (programWords (programBytes img ly.1 ly.2)).any (fun w => p w.2))

/-- An operation that accesses the store: of the press, the vector unit, the lens, the rotator or the router, or an
ISSUE. -/
def storeOp (w : OpWord) : Bool := decide (1 ≤ w.unit ∧ w.unit ≤ 5) || (w.unit == 0 && w.fn == 8)

/-- An operation with a wide access (R93, R99): of the press, the vector unit, the lens or the rotator. -/
def wideOp (w : OpWord) : Bool := decide (1 ≤ w.unit ∧ w.unit ≤ 4)

/-- A descriptor is issued (R126), or a packet sent (R151). -/
def descOp (w : OpWord) : Bool := (w.unit == 0 && w.fn == 8) || (w.unit == 5 && w.fn == 2)

/-- An operation with a margin of R144, R172 or R177: CLOSE, an outlier test, CHECK, ISSUE, a fence, SEND_STATIC. -/
def marginOp (w : OpWord) : Bool :=
  (w.unit == 1 && w.fn == 4) || (w.unit == 2 && w.fn == 0x40) || (w.unit == 0 && decide (4 ≤ w.fn ∧ w.fn ≤ 8))
    || (w.unit == 5 && w.fn == 1)

/-- The forme has a static transfer (R191). -/
def anyXfer (img : List Byte) : Bool :=
  (layouts img).any (fun ly => (partsOf img ly.1 ly.2).any (fun p => p.transferCount != 0))

/-- A reduction that keeps its operands for a time (R71, R190). -/
def anyRetain (img : List Byte) : Bool :=
  (layouts img).any (fun ly => (partsOf img ly.1 ly.2).any (fun p =>
    (rednsOf (layoutBytes img ly.1 ly.2) p).any (fun r => 0 < r.retainUntil)))

/-- FORME_ALLOC (R90, R196, R197): the records, then the accesses of the schedule. -/
def checkAlloc (img : List Byte) : Option Loc :=
  firstInFile (badParts img (fun l y b p =>
    (partCores p).flatMap (fun rc =>
      let as := allocsOf b p rc.1 rc.2
      let o := leAt b (p.allocMap + 8 * (rc.1 * p.cols + rc.2)) 4
      as.zipIdx.flatMap (fun a => cand
        (decide (a.1.kind < 1 ∨ 0x0B < a.1.kind ∨ coreBytes < a.1.addr + a.1.len) || (as.take a.2).any (allocMeet a.1))
        (o + 16 * a.2) { Loc.partOf l y p.part with core := some rc }))))
  <|> checkOpen 14 (anyWord img storeOp) img

/-- FORME_GATE: GATE_PEAK at most 32, PARK_PEAK at most 16 (R189), then the schedule. -/
def checkGate (img : List Byte) : Option Loc :=
  firstInFile (badParts img (fun l y _ p => cand (decide (32 < p.gatePeak ∨ 16 < p.parkPeak)) p.pos (Loc.partOf l y p.part)))
  <|> checkOpen 18 (anyWord img (fun w => w.unit == 0 && w.fn == 3)) img

/-- The cycle within the pass of the first FEED among words whose CYCLE counts from `base` (R192, R194). -/
def firstFeed : Nat → Nat → List (Nat × OpWord) → Option Nat
  | 0, _, _ => none
  | _ + 1, _, [] => none
  | fuel + 1, base, (_, w) :: r =>
    if w.unit = 1 ∧ w.fn = 1 then some (base + w.cycle)
    else if isEnd w then none
    else if isLoop w then
      (if loopCount w = 0 then none else firstFeed fuel (base + w.cycle) (r.take (loopWords w)))
        <|> firstFeed fuel base (r.drop (loopWords w))
    else firstFeed fuel base r

/-- The cores of a part whose press starts, in their first pass, at a cycle that lies within 8 cycles after no hint (R199). -/
def hintLacks (img : List Byte) (l y : Nat) (b : List Byte) (p : PartD) : List Cand :=
  let hs := (hintsOf b p).map (·.1)
  let ws := programWords (programBytes img l y)
  (partCores p).flatMap (fun rc =>
    match firstFeed (ws.length + 1) 0 (ws.drop (programOf b p rc.1 rc.2)) with
    | some t => cand (!(hs.any (fun h => decide (h ≤ t ∧ t ≤ h + 8)))) p.pos
        { Loc.partOf l y p.part with core := some rc, cycle := some t }
    | none => [])

/-- FORME_HINT (R199): the records' kinds and the press's first start on each core; then its other starts and stops, which
follow from how long each operation takes. -/
def checkHint (img : List Byte) : Option Loc :=
  firstInFile (badParts img (fun l y b p =>
    (hintsOf b p).zipIdx.flatMap (fun h => cand (decide (h.1.2.1 < 1 ∨ 3 < h.1.2.1)) (p.hints + 8 * h.2)
      { Loc.partOf l y p.part with cycle := some h.1.1 }) ++ hintLacks img l y b p))
  <|> checkOpen 19 (anyWord img (fun w => w.unit == 1 && w.fn == 1)) img

/-- FORME_BANK (R96, R99): only wide accesses hold a bank. -/
def checkBank (img : List Byte) : Option Loc := checkOpen 15 (anyWord img wideOp) img

/-- FORME_DESC (R123, R126, R151). -/
def checkDesc (img : List Byte) : Option Loc := checkOpen 16 (anyWord img descOp) img

/-- FORME_MARGIN (R144, R172, R177). -/
def checkMargin (img : List Byte) : Option Loc := checkOpen 17 (anyWord img marginOp || anyXfer img) img

/-- FORME_RETAIN (R71). -/
def checkRetain (img : List Byte) : Option Loc := checkOpen 20 (anyRetain img) img

/-- The checks before the layer count is looked at (R206, R208). -/
def checksEarly (keys : List (Nat × Nat × Nat)) (img : List Byte) : Option Refuse :=
  [(1, checkMagic), (2, checkVersion), (3, checkSignature keys)].findSome?
    (fun c => (c.2 img).map (Refuse.mk c.1))

/-- FORME_STRUCTURE and FORME_DIGEST (R206, R352 steps 1 to 3). -/
def checksStream (img : List Byte) : Option Refuse :=
  [(4, checkStructure), (5, checkDigest)].findSome? (fun c => (c.2 img).map (Refuse.mk c.1))

/-- The checks from FORME_FORMAT to FORME_RETAIN (R206, R352 step 4). -/
def checksForme (img : List Byte) : Option Refuse :=
  [(6, checkFormat), (7, checkAnchor), (8, checkReduction), (9, checkData), (10, checkLens), (11, checkPart),
    (12, checkOpcode), (13, checkLoop), (14, checkAlloc), (15, checkBank), (16, checkDesc), (17, checkMargin),
    (18, checkGate), (19, checkHint), (20, checkRetain)].findSome? (fun c => (c.2 img).map (Refuse.mk c.1))

/-- FORME_STRUCTURE of a variant or overlay image (R181 to R184, R347): shape bytes zero, only DIGESTS,
SIGNATURE and one WEIGHTS section for each layer it covers. -/
def checkStructureSlot (img : List Byte) : Option Loc :=
  firstInFile (containerBad img ++ headBad (imgB img != 0 || imgH img != 0) 26
    ++ headBad (leAt img 176 4 != 0) 176
    ++ (secs img).flatMap (fun s => entryBad (secBad img s || secTwice img s
        || !(s.ty == 1 || s.ty == 6 || s.ty == 9 || !knownSec s.ty)
        || (s.ty == 6 && (decide (imgLayers img ≤ s.layer) || s.layout != 0xFF))) s)
    ++ (secs img).flatMap (fun s => if s.ty = 1 then secItem (s.len != 48 * (imgLayers img + 1)) s 0 else []))

/-- The checks of a variant or overlay image, in R206's order. -/
def checksSlot (keys : List (Nat × Nat × Nat)) (img : List Byte) : Option Refuse :=
  checksEarly keys img
  <|> [(4, checkStructureSlot), (5, checkDigest), (9, checkDataSlot)].findSome? (fun c => (c.2 img).map (Refuse.mk c.1))

end Sys2Proof.Machine
end

