-- ==== Sys2Proof/Machine/Impose.lean ====
section
/-! DEFINITION. The imposer (R201 to R205): layout choice, the chase path, static lanes, placement. -/

namespace Sys2Proof.Machine

/-- The chase path of R203: rows north to south, even rows west to east, odd rows east to west. -/
def chasePath : List Nat :=
  (List.range 16).flatMap (fun r =>
    (List.range 16).map (fun c => 16 * r + (if r % 2 = 0 then c else 15 - c)))

/-- Chases on the path: LIT, of a width above 0, not about to be parked (R426). -/
def livePath (s : State) : List Nat :=
  chasePath.filter (fun n => chaseBeacon s n == Beacon.lit && widthOf s n != 0 && !(getChase s n).parkedFor)

/-- The parts of every forme but index `f`. -/
def otherParts (s : State) (f : Nat) : List Placed :=
  (s.formes.filter (fun x => x.1 != f)).flatMap (fun x => x.2.parts)

/-- A part occupies a place in a chase. -/
def Placed.live (p : Placed) : Bool := !p.waiting

/-- The claim of a layout choice (R201). -/
def claimOf (img : List Byte) (ys : List Nat) : Nat :=
  ((List.range (imgLayers img)).map (fun l =>
    ((partsOf img l (ys.getD l 0)).map (fun p => p.rows * p.cols)).sum)).sum

/-- The capacity for forme index `f` (R201). -/
def capacityFor (s : State) (f : Nat) (img : List Byte) : Nat :=
  let others := (((otherParts s f).filter (fun p => p.live && chaseBeacon s p.chase == Beacon.lit)).map
    (fun p => p.rows * p.cols)).sum
  (liveCores s - others) * imgFill img / 1024

/-- Layout choice: DEGRADE steps while the claim exceeds the capacity; none when they run out. -/
def chooseLayouts (img : List Byte) (cap : Nat) : List Nat → List Nat → Option (List Nat)
  | ys, [] => if claimOf img ys ≤ cap then some ys else none
  | ys, l :: r =>
    if claimOf img ys ≤ cap then some ys
    else chooseLayouts img cap (ys.set l (ys.getD l 0 + 1)) r

/-- The router of a local cell has failed (R385, R386). -/
def routerFailed (s : State) (n row pcol : Nat) : Bool :=
  (match kget? s.errata.entries (64 * n + row) with
    | some e => (e.posA == pcol && e.aRouter) || (e.posB == pcol && e.bRouter)
    | none => false)
  || s.errata.ext.any (fun x => x.chase == n && x.row == row && x.pos == pcol && x.router)

/-- A link between two local cells of a chase, as a number. -/
def linkId (r1 c1 r2 c2 : Nat) : Nat := ((r1 * 66 + c1) * 64 + r2) * 66 + c2

/-- The links along a row from `p` to `q`: skip links while two or more columns remain, landing on
working routers only (R153, R204, log entry 16). -/
def rowLeg (s : State) (n row : Nat) : Nat → Nat → Nat → Option (List Nat)
  | 0, p, q => if p = q then some [] else none
  | fuel + 1, p, q =>
    if p = q then some []
    else
      let one := if p < q then p + 1 else p - 1
      let two := if p < q then p + 2 else p - 2
      let far := decide (p + 2 ≤ q ∨ q + 2 ≤ p)
      if far && !routerFailed s n row two then (rowLeg s n row fuel two q).map (linkId row p row two :: ·)
      else if !routerFailed s n row one then (rowLeg s n row fuel one q).map (linkId row p row one :: ·)
      else none

/-- The links along a column from row `r1` to `r2`; `ok` says which cells it may enter. -/
def colLeg (ok : Nat → Bool) (col : Nat) : Nat → Nat → Nat → Option (List Nat)
  | 0, r1, r2 => if r1 = r2 then some [] else none
  | fuel + 1, r1, r2 =>
    if r1 = r2 then some []
    else
      let r := if r1 < r2 then r1 + 1 else r1 - 1
      if ok r then (colLeg ok col fuel r r2).map (linkId r1 col r col :: ·) else none

/-- The local physical columns of a part's row: from its first core's to its last core's. -/
def partSpan (s : State) (n row j cols : Nat) : Nat × Nat :=
  ((physLocal s (64 * n + row) j).getD 66, (physLocal s (64 * n + row) (j + cols - 1)).getD 66)

/-- The route of a transfer: row first, else column first, wholly in the part's cells (R203, R204). -/
def staticRoute (s : State) (n r j cols : Nat) (x : Xfer) : Option (List Nat) :=
  match physLocal s (64 * n + r + x.srcRow) (j + x.srcCol), physLocal s (64 * n + r + x.dstRow) (j + x.dstCol) with
  | some p, some q =>
    let cellOk := fun (col row : Nat) =>
      let sp := partSpan s n row j cols
      decide (sp.1 ≤ col ∧ col ≤ sp.2) && !routerFailed s n row col
    let r1 := r + x.srcRow
    let r2 := r + x.dstRow
    let rowFirst :=
      if cellOk q r1 then
        (rowLeg s n r1 66 p q).bind (fun a => (colLeg (cellOk q) q 64 r1 r2).map (a ++ ·))
      else none
    let colFirst :=
      (colLeg (cellOk p) p 64 r1 r2).bind (fun a => (rowLeg s n r2 66 p q).map (a ++ ·))
    rowFirst <|> colFirst
  | _, _ => none

/-- The link cycles of a route begun at cycle `x`, modulo SCHED_LEN. -/
def linkCycles (route : List Nat) (x len : Nat) : List (Nat × Nat) :=
  route.mapIdx (fun i k => (k, if len = 0 then x + i else (x + i) % len))

/-- The first send cycle from `x` whose link cycles are all unreserved (R203). -/
def firstSend (route : List Nat) (len : Nat) (used : List (Nat × Nat)) : Nat → Nat → Option Nat
  | 0, _ => none
  | fuel + 1, x =>
    if (linkCycles route x len).all (fun k => !used.contains k) then some x
    else firstSend route len used fuel (x + 1)

/-- lanes_fit of R203: the send cycles and the reserved link cycles. -/
def lanesFit (s : State) (n r j cols len : Nat) : List Xfer → List Nat → List (Nat × Nat) → Option (List Nat × List (Nat × Nat))
  | [], sends, used => some (sends, used)
  | x :: xs, sends, used =>
    match staticRoute s n r j cols x with
    | none => none
    | some route =>
      match firstSend route len used (x.need + 1 - x.ready) x.ready with
      | none => none
      | some t =>
        if x.need < t + route.length + 1 then none
        else lanesFit s n r j cols len xs (sends ++ [t]) (used ++ linkCycles route t len)

/-- No placed part overlaps the rectangle. -/
def freeCells (ps : List Placed) (n r j rows cols : Nat) : Bool :=
  !(ps.any (fun p => p.live && p.chase == n && overlap p.row p.rows r rows && overlap p.col p.cols j cols))

/-- A part placed at a position. -/
def placeAt (p : PartD) (n r j : Nat) (lanes : List Nat × List (Nat × Nat)) : Placed :=
  { layer := p.layer, layout := p.layout, part := p.part, chase := n, row := r, col := j, rows := p.rows, cols := p.cols
    flags := p.flags, schedLen := p.schedLen, posOffset := p.posOffset, weightOff := p.weightOff, weightLen := p.weightLen
    descOff := 16 + 64 * p.num, sends := lanes.1, links := lanes.2, start := 0, waiting := false }

/-- The first position of a part in chase `n` (R203). -/
def placeIn (s : State) (taken : List Placed) (xs : List Xfer) (p : PartD) (n : Nat) : Option Placed :=
  (List.range (65 - p.rows)).findSome? (fun r =>
    (List.range (widthOf s n + 1 - p.cols)).findSome? (fun j =>
      if freeCells taken n r j p.rows p.cols then
        (lanesFit s n r j p.cols p.schedLen xs [] []).map (placeAt p n r j)
      else none))

/-- The first position of a part along a path. -/
def placeOn (s : State) (taken : List Placed) (xs : List Xfer) (p : PartD) : List Nat → Option (Placed × List Nat)
  | [] => none
  | n :: r =>
    match placeIn s taken xs p n with
    | some q => some (q, n :: r)
    | none => placeOn s taken xs p r

/-- Places a layer's parts in order from the current chase on; the layer and part that find none. -/
def placeParts (s : State) (b : List Byte) (taken : List Placed) : List PartD → List Nat → List Placed →
    Except (Nat × Nat × Nat) (List Placed × List Nat)
  | [], path, done => .ok (done, path)
  | p :: ps, path, done =>
    match placeOn s (taken ++ done) (xfersOf b p) p path with
    | some (q, path') => placeParts s b taken ps path' (done ++ [q])
    | none => .error (p.layer, p.layout, p.part)

/-- Places every layer (R203). -/
def placeLayers (s : State) (img : List Byte) (ys : List Nat) (taken : List Placed) : List Nat → List Nat →
    List Placed → Except (Nat × Nat × Nat) (List Placed)
  | [], _, done => .ok done
  | l :: ls, path, done =>
    let y := ys.getD l 0
    match placeParts s (layoutBytes img l y) taken (partsOf img l y) path done with
    | .ok (d, path') => placeLayers s img ys taken ls path' d
    | .error e => .error e

/-- A placement: the layout of each layer, and the parts. -/
structure Placement where
  layouts : List Nat
  parts : List Placed
  deriving DecidableEq, Repr

/-- The send cycle and the landing cycle, x + H + 1, of each transfer of a placed part (R203, R204). -/
def sendsLands (s : State) (img : List Byte) (p : Placed) : List (Nat × Nat) :=
  (((partsOf img p.layer p.layout).find? (fun d => d.part == p.part)).elim [] (xfersOf (layoutBytes img p.layer p.layout))).zip p.sends
    |>.map (fun x => (x.2, x.2 + ((staticRoute s p.chase p.row p.col p.cols x.1).elim 0 List.length) + 1))

/-- Imposition of an image at forme index `f` (R201 to R204): IMPOSE_FILL, IMPOSE_NO_FIT or
IMPOSE_LANE, or the placement. IMPOSE_FILL's item is claim less capacity at the last step. -/
def impose (s : State) (f : Nat) (img : List Byte) : Except Refuse Placement :=
  let cap := capacityFor s f img
  let start := List.replicate (imgLayers img) 0
  let dg := degradeList img
  match chooseLayouts img cap start dg with
  | none =>
    let last := dg.foldl (fun ys l => ys.set l (ys.getD l 0 + 1)) start
    .error ⟨21, { Loc.none_ with item := some (claimOf img last - cap) }⟩
  | some ys =>
    match placeLayers s img ys (otherParts s f) (List.range (imgLayers img)) (livePath s) [] with
    | .error (l, y, p) => .error ⟨22, Loc.partOf l y p⟩
    | .ok ps =>
      if ps.any (fun p => !p.sends.isEmpty) && Config.laneBreach img (ps.map (sendsLands s img)) then .error ⟨23, openLoc 23 img⟩
      else .ok ⟨ys, ps⟩

/-- The logical core of cell (r, c) of a placed part. -/
def Placed.coreAt (p : Placed) (r c : Nat) : CoreRef :=
  ⟨Fin.ofNat 1024 (64 * (p.chase / 16) + p.row + r), Fin.ofNat 1024 (64 * (p.chase % 16) + p.col + c)⟩

/-- The cores of a placed part, with their cells. -/
def Placed.cores (p : Placed) : List (Nat × Nat × CoreRef) :=
  (List.range p.rows).flatMap (fun r => (List.range p.cols).map (fun c => (r, c, p.coreAt r c)))

/-- The part holds a core. -/
def Placed.holds (p : Placed) (c : CoreRef) : Bool :=
  p.live && p.chase == chaseOf c && decide (p.row ≤ c.row.val % 64 ∧ c.row.val % 64 < p.row + p.rows)
    && decide (p.col ≤ c.lcol.val % 64 ∧ c.lcol.val % 64 < p.col + p.cols)

/-- The forme index and part that hold a core. -/
def partOfCore (s : State) (c : CoreRef) : Option (Nat × Forme × Placed) :=
  s.formes.findSome? (fun f => (f.2.parts.find? (fun p => p.holds c)).map (fun p => (f.1, f.2, p)))

/-- A forme with a part in a chase claims it. -/
def chaseClaimed (s : State) (n : Nat) : Bool := s.formes.any (fun f => f.2.parts.any (fun p => p.live && p.chase == n))

/-- The hints of a placed part: cycle within the pass, and level in 0.1 A (R199). -/
def Placed.hints (p : Placed) (img : List Byte) : List (Nat × Nat) :=
  let b := layoutBytes img p.layer p.layout
  ((layoutParts b).filter (fun d => d.part == p.part)).flatMap (fun d => (hintsOf b d).map (fun h => (h.1, h.2.2)))

/-- The live parts of a chase, each with its forme's image. -/
def partsIn (s : State) (n : Nat) : List (Placed × List Byte) :=
  s.formes.flatMap (fun f => (f.2.parts.filter (fun p => p.live && p.chase == n)).map (fun p => (p, f.2.image)))

/-- The hint table of a chase (R200): hints in the same cycle of one pass summed, at most 260 A. Cycle and level in 0.1 A.
Parts with passes of different length or start meet in no fixed cycle: `levelDue` sums what falls together. -/
def hintTable (s : State) (n : Nat) : List (Nat × Nat) :=
  let hs := (partsIn s n).flatMap (fun p => (p.1.hints p.2).map (fun h => ((h.1, p.1.schedLen, p.1.start), h.2)))
  ((hs.map (·.1)).dedup.mergeSort (fun a b => decide (a.1 ≤ b.1))).map (fun c =>
    (c.1, min 2600 (((hs.filter (fun h => h.1 == c)).map (·.2)).sum)))

/-- The WEIGHTS regions of a placed part filled from the golden copy (R352 step 6): the part's data
laid over its regions in core order, then in record order. -/
def fillRegions (s : State) : List (CoreRef × Alloc) → List Byte → State
  | [], _ => s
  | (c, a) :: r, bs =>
    let n := min a.len bs.length
    fillRegions (storeWrite s c a.addr (bs.take n) false) r (bs.drop n)

/-- The regions of kind `kind` of a placed part, in core and record order. -/
def regionsOf (img : List Byte) (p : Placed) (kind : Nat) : List (CoreRef × Alloc) :=
  let b := layoutBytes img p.layer p.layout
  match (layoutParts b).find? (fun d => d.part == p.part) with
  | some d => p.cores.flatMap (fun rc =>
      ((allocsOf b d rc.1 rc.2.1).filter (fun a => a.kind == kind)).map (fun a => (rc.2.2, a)))
  | none => []

/-- Fills one part from the image (R352 step 6, log entry 17). -/
def fillPart (s : State) (img : List Byte) (p : Placed) : State :=
  fillRegions s (regionsOf img p 0x01) (slice (weightsBytes img p.layer) p.weightOff p.weightLen)

/-- Whether a word of the regions that reads without an error differs from the data laid over them (R372). -/
def regionsDiffer (s : State) : List (CoreRef × Alloc) → List Byte → Bool
  | [], _ => false
  | (c, a) :: r, bs =>
    let n := min a.len bs.length
    (!storePoisoned s c a.addr n && storeRead s c a.addr n != bs.take n) || regionsDiffer s r (bs.drop n)

/-- Fills every part of a placement. -/
def fillParts (s : State) (img : List Byte) (ps : List Placed) : State := ps.foldl (fun s p => fillPart s img p) s

/-- A core that no part holds any more (R198): its files, accumulators, gates and program are empty; its counters, and
the packets and remote writes of others that it has taken in, stay. -/
def Core.vacate (k : Core) : Core :=
  { Core.reset with
    wbuf := k.wbuf, inbox := k.inbox, arrived := k.arrived, txOpen := k.txOpen, txWait := k.txWait
    cntPress := k.cntPress, cntZeroSkip := k.cntZeroSkip, cntCorrOne := k.cntCorrOne, cntCorrTwo := k.cntCorrTwo
    cntPoison := k.cntPoison, cntNarrowWait := k.cntNarrowWait, cntWbFull := k.cntWbFull, cntNack := k.cntNack }

/-- Zeroes the stores and files of a part's cores (R198, R250, R362): every byte of a logical core that no
forme claims; the parts leave their chases. -/
def scrubParts (s : State) (ps : List Placed) : State :=
  let keys := ps.flatMap (fun p => p.cores.map (fun rc => coreKey rc.2.2))
  let s := { s with cores := s.cores.map (fun x => if keys.contains x.1 then (x.1, x.2.vacate) else x) }
  ps.foldl (fun s p => p.cores.foldl (fun s rc =>
    { s with mem := { s.mem with
        store := memZero s.mem.store (storeAddr rc.2.2 0) coreBytes
        errs := s.mem.errs.filter (fun e => !(dropRange [e.1] (coreKey rc.2.2 * (coreBytes / 64)) (coreBytes / 64)).isEmpty)
        storePoison := dropRange s.mem.storePoison (coreKey rc.2.2 * (coreBytes / 64)) (coreBytes / 64) } })
    (modChase s p.chase (fun c => { c with vacatedAt := s.lampTime }))) s

end Sys2Proof.Machine
end

