-- ==== Sys2Proof/Machine/Slips.lean ====
section
/-! DEFINITION. Chase time, slips and keeper halts (R138 to R140, R165 to R174), and the per-core
counter snapshot (R136, R137). -/

namespace Sys2Proof.Machine

/-! ### Sources (R165) -/

def Src.storeTwoByte : Nat := 0
def Src.outlierPass : Nat := 1
def Src.windowRecompute : Nat := 2
def Src.gateWait : Nat := 3
def Src.streamDue : Nat := 4
def Src.fenceWait : Nat := 5
def Src.keeperHalt : Nat := 6

/-- An open request: its condition is not met yet (R167). -/
def Slip.unmet (x : Slip) : Bool := x.stop.isNone

/-- A clock cycle in the freeze interval of a request (R167, R168). -/
def Slip.covers (x : Slip) (c : Nat) : Bool :=
  decide (x.start ≤ c) && (match x.stop with | some e => decide (c < e) | none => true)

/-- Core time has reached schedule cycle `t` (R138). -/
def reached (time lag t : Nat) : Bool := decide ((time + 2 ^ 48 - lag + 2 ^ 48 - t) % 2 ^ 48 < 2 ^ 47)

/-- The cycles of a core's hold that are still to come (R171). -/
def Core.holdLeft (k : Core) (clk : Nat) : Nat := k.holdTo - max clk k.holdFrom

/-- The core holds in this chase clock cycle (R171). -/
def Core.holding (k : Core) (clk : Nat) : Bool := decide (k.holdFrom ≤ clk ∧ clk < k.holdTo)

/-- The entries whose use cycle core time has reached (R164). -/
def Core.usesNow (k : Core) (time : Nat) : List (Nat × Nat) := k.uses.filter (fun u => reached time k.lag u.2)

/-- The core stands at a use cycle with an entry that is not COMPLETE, or at the operation that a fence orders
while its condition does not hold (R164, R177). -/
def Core.stuck (k : Core) (time : Nat) : Bool :=
  (k.usesNow time).any (fun u => (kget? k.gates u.1).all (fun g => g.st != .complete))
    || k.fences.any (fun f => reached time k.lag f.2.2)

/-- The chase is frozen now: the union of all intervals (R169). -/
def Chase.frozen (ch : Chase) : Bool := ch.slips.any (fun x => x.covers ch.clk)

/-- A deferred interval of core `c` covers the cycle now (R170). -/
def Chase.defers (ch : Chase) (c : CoreRef) : Bool :=
  ch.slips.any (fun x => x.core == some c && (x.source == 1 || x.source == 2) && x.covers ch.clk)

/-- A request reaches the chase's controller (R165, R179): counted, and kept as the latest. A keeper
halt has no requester, so its LROW and LCOL are free values (log entry 2). -/
def noteSlip (s : State) (n source : Nat) (who : Option CoreRef) : State :=
  let s := addF s Reg.CHS_SLIP_EVENTS 1 n
  let s := addF s Reg.CHS_SLIP_SRC_CNT 1 n source
  let s := setF s Reg.CHS_SLIP_LAST_SOURCE source n
  match who with
  | some c => setF (setF s Reg.CHS_SLIP_LAST_LROW (c.row.val % 64) n) Reg.CHS_SLIP_LAST_LCOL (c.lcol.val % 64) n
  | none =>
    let v := nextFree s
    setF (setF v.2 Reg.CHS_SLIP_LAST_LROW v.1 n) Reg.CHS_SLIP_LAST_LCOL (v.1 / 64) n

/-- A hold or deferred request of `len` cycles that core `c` raises in clock cycle `at_` (R166, R168). -/
def reqSlipAt (s : State) (c : CoreRef) (source len at_ : Nat) : State :=
  let n := chaseOf c
  let ch := getChase s n
  let start := max (at_ + 32) (getCore s c).slipEnd
  let s := setChase s n { ch with slips := ch.slips ++ [⟨source, some c, start, some (start + len), 0, false⟩] }
  noteSlip (modCore s c (fun k => { k with slipEnd := start + len })) n source (some c)

/-- A request raised in this cycle. -/
def reqSlip (s : State) (c : CoreRef) (source len : Nat) : State :=
  reqSlipAt s c source len (getChase s (chaseOf c)).clk

/-- A hold (R165, R171): the core stops for `len` cycles from the next one on and lags; the slip is requested in
the detection cycle, which is that next one. -/
def holdSlip (s : State) (c : CoreRef) (len : Nat) : State :=
  let clk := (getChase s (chaseOf c)).clk
  let s := modCore s c (fun k =>
    if clk < k.holdTo then { k with holdTo := k.holdTo + len }
    else { k with holdFrom := clk + 1, holdTo := clk + 1 + len })
  reqSlipAt s c Src.storeTwoByte len (clk + 1)

/-- An open request (R166, R167); `what` names its condition among the requester's. -/
def openSlip (s : State) (n source : Nat) (who : Option CoreRef) (what : Nat) : State :=
  let ch := getChase s n
  noteSlip (setChase s n { ch with slips := ch.slips ++ [⟨source, who, ch.clk + 32, none, what, false⟩] }) n source who

/-- The conditions of the open requests that `p` picks are met now (R167); one that timed out ends no more so
(R173). -/
def meetSlips (s : State) (n : Nat) (p : Slip → Bool) : State :=
  modChase s n (fun ch => { ch with
    slips := ch.slips.map (fun x => if x.unmet && !x.timedOut && p x then { x with stop := some (ch.clk + 32) } else x) })

/-- The open requests of core `c` of one source and condition are met. -/
def meetCore (s : State) (c : CoreRef) (source : Nat) (ok : Nat → Bool) : State :=
  meetSlips s (chaseOf c) (fun x => x.source == source && x.core == some c && ok x.what)

/-- A keeper halt of a chase (R165, R174): raised unless one is requested already. -/
def haltChase (s : State) (n : Nat) : State :=
  if onF s Reg.CHS_SCHED_CTL_HALT_REQ n then s
  else openSlip (setF s Reg.CHS_SCHED_CTL_HALT_REQ 1 n) n Src.keeperHalt none 0

/-- The end of a keeper halt (R167, R174). -/
def endHalt (s : State) (n : Nat) : State :=
  meetSlips (setF s Reg.CHS_SCHED_CTL_HALT_REQ 0 n) n (fun x => x.source == Src.keeperHalt)

/-- The cores of a chase that the state lists. -/
def chaseCores (s : State) (n : Nat) : List Nat :=
  (s.cores.filter (fun x => 16 * (x.1 / 65536) + x.1 % 1024 / 64 == n)).map (·.1)

/-- Changes every listed core of a chase. -/
def modCores (s : State) (n : Nat) (f : Core → Core) : State :=
  { s with cores := s.cores.map (fun x => if 16 * (x.1 / 65536) + x.1 % 1024 / 64 = n then (x.1, f x.2) else x) }

/-- The largest lag in a chase (R179). -/
def lagMax (s : State) (n : Nat) : Nat := ((chaseCores s n).map (fun k => (kgetD s.cores k Core.reset).lag)).foldl max 0

/-- Lags and slip bookkeeping of a core cleared, and its program at its first word (R139, R195). -/
def Core.unslip (k : Core) : Core := { k with lag := 0, holdFrom := 0, holdTo := 0, slipEnd := 0, redo := [], uses := [], fences := [], waiting := none, pass := 0, op := 0, loops := [] }

/-- The first pass of the parts of a chase that `p` picks begins at chase time `t` (R139). -/
def startAt (s : State) (n : Nat) (p : Placed → Bool) (t : Placed → Nat) : State :=
  { s with formes := s.formes.map (fun f => (f.1, { f.2 with parts := f.2.parts.map (fun x =>
      if x.chase = n ∧ p x then { x with start := t x } else x) })) }

/-- The restart of a chase at chase time 0 (R139, R174): a keeper halt ends at once, and no frozen
cycle is left over. -/
def restartChase (s : State) (n : Nat) : State :=
  let s := modCores (startAt s n (fun _ => true) (fun _ => 0)) n Core.unslip
  let s := modChase s n (fun ch => { ch with time := 0, lanes := [], slips := [], run := 0, running := true })
  setF (setF s Reg.CHS_SCHED_CTL_HALT_REQ 0 n) Reg.CHS_SCHED_CTL_HALTED 0 n

/-! ### Commands -/

/-- KEEPER_HALT (R174): a write of 1 to `CHS.SCHED_CTL.HALT_REQ`. -/
def execKeeperHalt (n : ChaseId) (s : State) : Host.Outcome State Fault Refusal :=
  .next (regWrite s (256 + n.val) (fun s => haltChase s n.val))

/-- HALT_END (R174): a write of 0 to `CHS.SCHED_CTL.HALT_REQ`. -/
def execHaltEnd (n : ChaseId) (s : State) : Host.Outcome State Fault Refusal :=
  .next (regWrite s (256 + n.val) (fun s => endHalt s n.val))

/-- A cycle of a keeper halt's freeze interval, ended or not (R166, R167, R174). -/
def Chase.haltHeld (ch : Chase) : Bool := ch.slips.any (fun x => x.source == Src.keeperHalt && x.covers ch.clk)

/-- A keeper halt is in effect: the cycle now lies in its freeze interval (R166, R167). -/
def Chase.halted (ch : Chase) : Bool := ch.slips.any (fun x => x.source == Src.keeperHalt && x.unmet && x.covers ch.clk)

/-- CHASE_HALTED (R174): a keeper halt is in effect and every lag is zero. -/
def execChaseHalted (n : ChaseId) (s : State) : Host.Outcome State Fault Refusal :=
  .next (if (getChase s n.val).halted && lagMax s n.val == 0 then
      setF s Reg.CHS_SCHED_CTL_HALTED 1 n.val
    else s)

/-- SLIP_TIMEOUT (R173): an open slip but a keeper halt is unmet `CHS.SLIP_LIMIT` cycles after its first frozen
cycle; the chase stays frozen until keeper group 2 acts. -/
def execSlipTimeout (n : ChaseId) (i : Nat) (s : State) : Host.Outcome State Fault Refusal :=
  .next (match (getChase s n.val).slips[i]? with
    | some x =>
      if x.unmet && x.source != Src.keeperHalt && !x.timedOut
          && decide (x.start + getF s Reg.CHS_SLIP_LIMIT n.val ≤ (getChase s n.val).clk) then
        let s' := modChase s n.val (fun ch => { ch with slips := ch.slips.set i { x with timedOut := true } })
        let xs := [x.source, (x.core.map (fun c => c.row.val % 64 + 64 * (c.lcol.val % 64))).getD 0]
        raise s' (match x.core with
          | some c => coreItem s Err.SCHED_SLIP_TIMEOUT c xs
          | none => chaseItem Err.SCHED_SLIP_TIMEOUT n.val xs)
      else s
    | none => s)

/-! ### Per-core counters (R136, R137) -/

/-- The per-core counters with their registers. -/
def coreCounters : List (Fld × (Core → Nat)) :=
  [(Reg.CHS_CNT_PRESS, Core.cntPress), (Reg.CHS_CNT_ZERO_SKIP, Core.cntZeroSkip),
    (Reg.CHS_CNT_CORR_ONE, Core.cntCorrOne), (Reg.CHS_CNT_CORR_TWO, Core.cntCorrTwo),
    (Reg.CHS_CNT_POISON, Core.cntPoison), (Reg.CHS_CNT_NARROW_WAIT, Core.cntNarrowWait),
    (Reg.CHS_CNT_WB_FULL, Core.cntWbFull), (Reg.CHS_CNT_NACK, Core.cntNack)]

/-- The core that `CHS.CORE_CNT_SEL` names; none at or beyond the width (R137). -/
def selectedCore (s : State) (n : Nat) : Option Core :=
  let col := getF s Reg.CHS_CORE_CNT_SEL_LCOL n
  if col < runWidth s n then
    some (kgetD s.cores ((64 * (n / 16) + getF s Reg.CHS_CORE_CNT_SEL_LROW n) * 1024 + 64 * (n % 16) + col) Core.reset)
  else none

/-- SNAP (R137): totals or one core's counts latched. -/
def execSnap (n : ChaseId) (s : State) : Host.Outcome State Fault Refusal :=
  .next (regWrite s (256 + n.val) (fun s =>
    coreCounters.foldl (fun t x =>
      setF t x.1 (if onF s Reg.CHS_CORE_CNT_SEL_MODE n.val then ((selectedCore s n.val).map x.2).getD 0
        else ((chaseCores s n.val).map (fun k => x.2 (kgetD s.cores k Core.reset))).sum) n.val) s))

/-- A core with its counters zero (R136). -/
def Core.uncount (k : Core) : Core :=
  { k with cntPress := 0, cntZeroSkip := 0, cntCorrOne := 0, cntCorrTwo := 0, cntPoison := 0, cntNarrowWait := 0
           cntWbFull := 0, cntNack := 0 }

/-- CLEAR (R136). -/
def execClear (n : ChaseId) (s : State) : Host.Outcome State Fault Refusal :=
  .next (regWrite s (256 + n.val) (fun s => modCores s n.val Core.uncount))

end Sys2Proof.Machine
end

