-- ==== Sys2Proof/Machine/Stores.lean ====
section
/-! DEFINITION. Accesses to the cores' stores through the wide and the narrow port (R90 to R105, R433), and what the check
bytes of their words find (R101 to R105). -/

namespace Sys2Proof.Machine

/-- A fault item with the stamp and instruction of an operation. -/
def FaultItem.at_ (it : FaultItem) (stamp : Word64) (instr : Nat) : FaultItem :=
  { it with stamp := some stamp.toNat, instr := some instr }

/-- An operation's stamp and instruction address, where it has them. -/
abbrev Who := Option (Word64 × Nat)

/-- A fault item of an operation, with its stamp and instruction address (R209). -/
def FaultItem.by_ (it : FaultItem) : Who → FaultItem
  | some w => it.at_ w.1 w.2
  | none => it

/-- A counter of a core: 32 bits, saturating (R136). -/
def bump (n k : Nat) : Nat := min (n + k) (2 ^ 32 - 1)

/-- Counts of a layer in a chase (R88, R89). -/
def countNum (s : State) (n layer : Nat) (f : NumCnt → NumCnt) : State :=
  modChase s n (fun ch => { ch with counts := kmod ch.counts layer ⟨0, 0, 0, 0, 0⟩ f })

/-- The slips of `n` recomputes (R67): the first is requested now, each further one when the one before ends (R165). -/
def recomputeSlips (s : State) (c : CoreRef) (len : Nat) : Nat → State
  | 0 => s
  | n + 1 =>
    let s := reqSlip s c Src.windowRecompute (len + 8)
    if n = 0 then s else modCore s c (fun k => { k with redo := k.redo ++ [⟨k.slipEnd, n, len + 8⟩] })

/-- What closed sums count on core `c` in a layer (R88), and the slips of their recomputes where the length of one is given
(R67); a clamped one is recorded (R66). -/
def countSums (s : State) (c : CoreRef) (layer : Nat) (len : Option Nat) (who : Who) (l : List (Acc × Bool)) : State :=
  let n := (l.map (·.1.recomputes)).sum
  let s := len.elim s (fun k => recomputeSlips s c k n)
  let s := countNum s (chaseOf c) layer (fun x => { x with
    recomputes := bump x.recomputes n, exhausted := bump x.exhausted (l.countP (·.2)), nans := bump x.nans (l.countP (·.1.nan)) })
  if l.any (·.2) then raise s ((coreItem s Err.NUM_WINDOW_EXHAUSTED c [l.findIdx (·.2)]).by_ who) else s

/-! ### Store accesses -/

/-- A bank of a core's store (R91). -/
inductive Bank where
  | near (b : Nat)
  | far (b : Nat)
  deriving DecidableEq, Repr

/-- The bank of a local address (R91): near banks of 4 KiB, far banks of 8 KiB. -/
def bankAt (a : Nat) : Bank := if a < 0x8000 then .near (a / 0x1000) else .far ((a - 0x8000) / 0x2000)

/-- The memory wafer of a far bank (R91): 0 lower, 1 upper; none for a near bank, on the logic wafer. -/
def Bank.wafer : Bank → Option Nat
  | .near _ => none
  | .far b => some (b / 18)

/-- The far bank of a local address (R91). -/
def farBank (a : Nat) : Option Nat :=
  match bankAt a with
  | .near _ => none
  | .far b => some b

/-- The bank of a local address is CLOSING or GATED (R432, R433). -/
def bankShut (s : State) (c : CoreRef) (a : Nat) : Bool :=
  (farBank a).any (fun b => (kget? (getChase s (chaseOf c)).banks b).isSome)

/-- Why a local access of `len` bytes at `a` has no effect (R93, R433): its fault code. -/
def accessFault (s : State) (c : CoreRef) (a len : Nat) : Option Nat :=
  if coreBytes < a + len then some Err.CORE_ADDR_RANGE
  else if bankShut s c a || bankShut s c (a + len - 1)
      || (List.range (len / 0x2000)).any (fun i => bankShut s c (a + 0x2000 * i)) then some Err.PWR_BANK_GATED
  else none

/-- The item of an access without effect; a bank-gating fault carries the CPW page (R381). -/
def accessItem (s : State) (c : CoreRef) (code a : Nat) : FaultItem :=
  let it := coreItem s code c [a]
  if code = Err.PWR_BANK_GATED then { it with block := some (identOf 0x21 (chaseOf c)) } else it

/-- The fault of an access without effect is raised; otherwise `f` runs. -/
def onAccess (s : State) (c : CoreRef) (a len : Nat) (who : Who) (f : State → State) : State :=
  match accessFault s c a len with
  | some code => raise s ((accessItem s c code a).by_ who)
  | none => f s

/-- The kind of the allocation region that holds a local address, all ones where none does (R196). -/
def allocKind (s : State) (c : CoreRef) (a : Nat) : Option Nat :=
  (partOfCore s c).bind (fun x =>
    ((List.range 11).map (· + 1)).find? (fun k =>
      (regionsOf x.2.1.image x.2.2 k).any (fun r => r.1 == c && decide (r.2.addr ≤ a ∧ a < r.2.addr + r.2.len))))

/-- Poisons the store word at a local address (R105): counted, and recorded with its region's kind. -/
def poisonWord (s : State) (c : CoreRef) (a : Nat) : State :=
  let s := { s with mem := { s.mem with storePoison := addOnce s.mem.storePoison (storeAddr c a / 64) } }
  let s := modCore s c (fun k => { k with cntPoison := bump k.cntPoison 1 })
  let it := coreItem s Err.STORE_UNCORRECTABLE c [a]
  raise s { it with x1 := allocKind s c a }

/-! ### Check bytes (R101 to R105) -/

/-- The byte positions in error of the word at a local address (R101). -/
def errsAt (s : State) (c : CoreRef) (a : Nat) : List (Nat × Nat) := kgetD s.mem.errs (storeAddr c a / 64) []

/-- The word's errors are corrected, or written over. -/
def clearErrs (s : State) (c : CoreRef) (a : Nat) : State :=
  { s with mem := { s.mem with errs := kdel s.mem.errs (storeAddr c a / 64) } }

/-- The word's data as the uncorrectable errors leave it (R105). -/
def spoil (s : State) (c : CoreRef) (a : Nat) : State :=
  { s with mem := { s.mem with store := spoilBytes s.mem.store (storeAddr c a / 64) (errsAt s c a) } }

/-- What a read finds in one word, but for the slip of a wide read (R102 to R105): one or two bytes in error are
corrected and written back, three or more poison the word. -/
def meetWord (s : State) (c : CoreRef) (a : Nat) : State :=
  match (errsAt s c a).length with
  | 0 => s
  | 1 => clearErrs (modCore s c (fun k => { k with cntCorrOne := bump k.cntCorrOne 1 })) c a
  | 2 => raise (clearErrs (modCore s c (fun k => { k with cntCorrTwo := bump k.cntCorrTwo 1 })) c a)
      (coreItem s Err.STORE_TWO_BYTE c [a])
  | _ => poisonWord (clearErrs (spoil s c a) c a) c a

/-- The words of a core that a read of `n` bytes at `a` takes. -/
def wordsAt (a n : Nat) : List Nat := (wordsOf a n).map (64 * ·)

/-- A narrow read of `n` bytes at `a` (R104): no slip. -/
def meetNarrow (s : State) (c : CoreRef) (a n : Nat) : State := (wordsAt a n).foldl (fun s w => meetWord s c w) s

/-- The slow-path cycles of a wide read of `n` bytes at `a` (R103): 12 for each word with two bytes in error. -/
def slowCycles (s : State) (c : CoreRef) (a n : Nat) : Nat :=
  12 * (wordsAt a n).countP (fun w => (errsAt s c w).length == 2)

/-- The hold of a wide read that met two-byte errors, or SCHED_LAG_LIMIT at a lag above 40, the hold still to come
counted with it (R103, R140, R171). -/
def holdFor (s : State) (c : CoreRef) (n : Nat) (who : Who) : State :=
  let lag := (getCore s c).lag + (getCore s c).holdLeft (getChase s (chaseOf c)).clk
  if n = 0 then s
  else if 40 < lag then
    raise s ((coreItem s Err.SCHED_LAG_LIMIT c [lag]).by_ who)
  else holdSlip s c n

/-- A wide read of one row at `a` (R102, R103, R105). -/
def meetRow (s : State) (c : CoreRef) (a : Nat) (who : Who) : State :=
  holdFor (meetNarrow s c a 128) c (slowCycles s c a 128) who

/-- The rows of `[a, a + n)`. -/
def rowsAt (a n : Nat) : List Nat := (List.range ((a + n + 127) / 128 - a / 128)).map (fun i => 128 * (a / 128 + i))

/-- Wide reads of the rows of `[a, a + n)`, one per cycle. -/
def meetWide (s : State) (c : CoreRef) (a n : Nat) (who : Who) : State := (rowsAt a n).foldl (fun s r => meetRow s c r who) s

/-- A narrow write (R98): a word that it covers in part is read first and merged. -/
def narrowWrite (s : State) (c : CoreRef) (a : Nat) (bs : List Byte) (poison : Bool) : State :=
  let part := (wordsOf a bs.length).filter (fun w => !(wholeWords a bs.length).contains w)
  storeWrite (part.foldl (fun s w => meetWord s c (64 * w)) s) c a bs poison

/-- The row that a wide access at an address takes (R94). -/
def rowAt (a : Nat) : Nat := a / 128 * 128

/-- The 16 bytes that a narrow access at an address takes (R95). -/
def beatAt (a : Nat) : Nat := a / 16 * 16

/-- A row of a core's store (R94) with its poison. -/
def readRow (s : State) (c : CoreRef) (a : Nat) : Row := ⟨storeRead s c a 128, storePoisoned s c a 128⟩

/-- The core that holds a store address. -/
def coreAt (a : Nat) : CoreRef := ⟨Fin.ofNat 1024 (a / coreBytes / 1024), Fin.ofNat 1024 (a / coreBytes)⟩

/-- A narrow read of `n` bytes at a store address (R104). -/
def meetStore (s : State) (a n : Nat) : State := meetNarrow s (coreAt a) (a % coreBytes) n

end Sys2Proof.Machine
end

