-- ==== Sys2Proof/Machine/Rings.lean ====
section
/-! DEFINITION. Submission and response rings (R289 to R295): fetch order, records, phases, records
owed to a full ring, and interrupt coalescing. -/

namespace Sys2Proof.Machine

/-- A queue right after reset; PHASE is 1 on the first lap (R293). -/
def Queue.reset (q : Nat) : Queue :=
  { sqTail := 0, sqHead := 0, bells := [], rqHead := 0, rqTail := 0, used := 0, phase := true, owed := []
    blocked := false, since := 0, sinceAt := none, port := q % 4 }

def getQ (s : State) (q : Nat) : Queue := kgetD s.serve.queues q (Queue.reset q)
def setQ (s : State) (q : Nat) (x : Queue) : State :=
  { s with serve := { s.serve with queues := kset s.serve.queues q x } }
def modQ (s : State) (q : Nat) (f : Queue → Queue) : State := setQ s q (f (getQ s q))

/-- Ring sizes (R289). -/
def sqSize (s : State) (q : Nat) : Nat := 2 ^ getF s Reg.SRV_Q_CTL_SQ_LOG2 q
def rqSize (s : State) (q : Nat) : Nat := 2 ^ getF s Reg.SRV_Q_CTL_RQ_LOG2 q

/-- Some host port's link is up (R493, R495). -/
def hostUp (s : State) : Bool := [0, 1, 2, 3].any (fun h => onF s Reg.HST_PORT_STAT_UP h)

/-- Free response slots; none while records are owed (R294) or no host port is up (R495). -/
def rqFree (s : State) (q : Nat) : Nat :=
  if (getQ s q).owed.isEmpty && hostUp s then rqSize s q - (getQ s q).used else 0

/-- The queue's MSI-X vector raised, and its coalescing started again (R295). -/
def raiseQueue (s : State) (q : Nat) : State :=
  modQ (msix s (getF s Reg.SRV_Q_CTL_VECTOR q)) q (fun x => { x with since := 0, sinceAt := none })

/-- The interrupt after one more record (R295): a value of 0 in either field raises it at once. -/
def coalesce (s : State) (q : Nat) : State :=
  let x := getQ s q
  let s := setQ s q { x with since := x.since + 1, sinceAt := some (x.sinceAt.getD s.lampTime) }
  let n := getF s Reg.SRV_Q_COALESCE_COUNT q
  if n = 0 ∨ getF s Reg.SRV_Q_COALESCE_TIME q = 0 ∨ n ≤ x.since + 1 then raiseQueue s q else s

/-- A stream entry freed: command heads that wait for one may be tried again (R292), and the CANCELs of its request
complete (R330). -/
def freeEntry (s : State) (e : Nat) : State :=
  { s with serve := { s.serve with
    streams := kdel s.serve.streams e
    answered := s.serve.answered ++ ((kget? s.serve.streams e).map (·.cancels)).getD []
    queues := s.serve.queues.map (fun x => (x.1, { x.2 with blocked := false })) } }

/-- Writes one response record at the tail (R293, R294): 31 bytes, then the byte with PHASE. -/
def writeResp (s : State) (q : Nat) (r : Resp) : State :=
  let x := getQ s q
  let n := rqSize s q
  let bytes := r.bytes.take 31 ++ [if x.phase then 1 else 0]
  let s := hostWrite s (getF s Reg.SRV_RQ_BASE q + 32 * x.rqTail) bytes
  let s := setQ s q { x with rqTail := (x.rqTail + 1) % n, used := x.used + 1
                             phase := if x.rqTail + 1 = n then !x.phase else x.phase }
  let s := coalesce s q
  match r.frees with
  | some e => freeEntry s e
  | none => s

/-- Writes owed records while the ring has space and a port is up, in the order owed (R294, R495). -/
def drainOwed (s : State) (q : Nat) : List Resp → State
  | [] => modQ s q (fun x => { x with owed := [] })
  | r :: rs =>
    if (getQ s q).used < rqSize s q ∧ hostUp s then drainOwed (writeResp s q r) q rs
    else modQ s q (fun x => { x with owed := r :: rs })

/-- One record for a response ring: written at once, or owed behind others (R294). Nothing more is
written to a ring handed to a partner (R408). -/
def respondOne (s : State) (q : Nat) (r : Resp) : State :=
  if q ∈ s.partner.handed then
    match r.frees with
    | some e => freeEntry s e
    | none => s
  else drainOwed s q ((getQ s q).owed ++ [r])

/-- A completion, interim or conversation-event record (R304), 32 bytes with PHASE clear. -/
def complBytes (status flags state cid req tokens time hit tenant kind : Nat) : List Byte :=
  leBytes 2 status ++ leBytes 2 flags ++ leBytes 1 state ++ [0] ++ leBytes 2 cid ++ leBytes 4 req ++ leBytes 4 tokens
    ++ leBytes 8 time ++ leBytes 4 hit ++ leBytes 2 tenant ++ leBytes 1 kind ++ [0]

/-- The CANCELs whose targets' terminal records have been written complete with OK (R330); a record that this writes may
free further entries. -/
def payCancels : Nat → State → State
  | 0, s => s
  | fuel + 1, s =>
    match s.serve.answered with
    | [] => s
    | c :: r => payCancels fuel (respondOne { s with serve := { s.serve with answered := r } } c.1
        ⟨complBytes Sts.OK 0 5 c.2 0 0 s.lampTime 0 0 0x02, none⟩)

/-- Every such CANCEL completes. -/
def payAll (s : State) : State :=
  payCancels (s.serve.answered.length + (s.serve.streams.map (fun e => e.2.cancels.length)).sum) s

/-- A record for a response ring, and the completions of the CANCELs that it answers (R294, R330). -/
def respond (s : State) (q : Nat) (r : Resp) : State := payAll (respondOne s q r)

/-- The records owed to a ring, as far as it has room for them now (R294). -/
def drainRing (s : State) (q : Nat) : State := payAll (drainOwed s q (getQ s q).owed)

/-- A stream entry given up without a record here: its CANCELs go with it (R408). -/
def dropEntry (s : State) (e : Nat) : State :=
  freeEntry { s with serve := { s.serve with streams := kadj s.serve.streams e (fun x => { x with cancels := [] }) } } e

/-- A token record (R302). -/
def tokenBytes (token pos stamp time flags logprob : Nat) : List Byte :=
  leBytes 4 token ++ leBytes 4 (pos % 2 ^ 24) ++ leBytes 8 stamp ++ leBytes 8 time ++ leBytes 2 flags
    ++ leBytes 2 logprob ++ [0, 0, 1, 0]

/-- Fields of a command record (R296, R297, R301, R312, R349). -/
def cidOf (rec : List Byte) : Nat := leAt rec 6 2
def tenantOf (rec : List Byte) : Nat := leAt rec 2 2

/-- The completion of a command itself (R304). `state` is the request state code, 0xFF for a load
command. -/
def complete (s : State) (q : Nat) (rec : List Byte) (status state : Nat) (req : Nat := 0) (tokens : Nat := 0) : State :=
  respond s q ⟨complBytes status 0 state (cidOf rec) req tokens s.lampTime 0 (tenantOf rec) 0x02, none⟩

/-- A keeper group that serves: RUNNING or PAIR (R553). -/
def groupUp (s : State) (g : Nat) : Bool :=
  getF s Reg.KPR_STATE 0 g == 2 || getF s Reg.KPR_STATE 0 g == 3

/-- A ring's head command waits to be fetched (R289, R290). -/
def waits (s : State) (q : Nat) : Bool :=
  onF s Reg.SRV_Q_CTL_ENABLE q && (getQ s q).sqHead != (getQ s q).sqTail

/-- When the head command became visible: lamp time of its doorbell (R291). -/
def bellTime (s : State) (q : Nat) : Nat := ((getQ s q).bells.head?.map (·.2)).getD 0

/-- Ring `a` is served before ring `b`: priority, then the earliest doorbell, then the lower number
(R291). -/
def before (s : State) (a b : Nat) : Bool :=
  let pa := getF s Reg.SRV_Q_CTL_PRIORITY a
  let pb := getF s Reg.SRV_Q_CTL_PRIORITY b
  decide (pa < pb) || (pa == pb && (decide (bellTime s a < bellTime s b) || (bellTime s a == bellTime s b && decide (a < b))))

/-- Keeper group 0 fetches from ring `q` next (R291): it waits, and no ring whose head is not blocked
comes before it. -/
def canFetch (s : State) (q : Nat) : Bool :=
  groupUp s 0 && hostUp s && waits s q
    && s.serve.queues.all (fun x => x.1 == q || !waits s x.1 || x.2.blocked || !before s x.1 q)

/-- A tombstone whose ring head has moved on (R329): `ahead` counts the commands still before the
tail it had. -/
def ageTombstone (q : Nat) (t : Tombstone) : Tombstone :=
  if t.target = q then { t with ahead := t.ahead - 1 } else t

/-- The CANCELs whose tombstones lapse complete with NOT_FOUND (R329). -/
def lapseTombstones (s : State) : State :=
  let gone := s.serve.tombstones.filter (fun t => t.ahead == 0)
  let s := { s with serve := { s.serve with tombstones := s.serve.tombstones.filter (fun t => t.ahead != 0) } }
  gone.foldl (fun s t => respond s t.from_
    ⟨complBytes Sts.NOT_FOUND 0 5 t.fromCid 0 0 s.lampTime 0 0 0x02, none⟩) s

/-- The head moves past the command just fetched (R291), its doorbell's mark with it. -/
def popHead (s : State) (q : Nat) : State :=
  let x := getQ s q
  let h := (x.sqHead + 1) % sqSize s q
  setQ s q { x with sqHead := h, blocked := false
                    bells := match x.bells with
                      | b :: r => if b.1 = h then r else b :: r
                      | [] => [] }

/-- The head command cannot be taken yet and stays at the head (R292, R294). -/
def blockHead (s : State) (q : Nat) : State := modQ s q (fun x => { x with blocked := true })

/-- A command that completes at once: fetched when its record has room, else it stays (R294). `f`
does its effect and writes its record. -/
def fetchWith (s : State) (q : Nat) (f : State → State) : State :=
  if canFetch s q then
    if rqFree s q = 0 then blockHead s q
    else
      let s := popHead s q
      let s := { s with serve := { s.serve with tombstones := s.serve.tombstones.map (ageTombstone q) } }
      lapseTombstones (f s)
  else s

/-- The KIND of a command record (R296). -/
def kindOf (rec : List Byte) : Nat := leAt rec 0 1

/-- The KINDs that name a command (R296, R348). -/
def knownKinds : List Nat := [0x01, 0x02, 0x03, 0x10, 0x11, 0x20, 0x21, 0x22, 0x23, 0x24, 0x25, 0x26]

/-- A record of the wrong size (a command record is 64 bytes, R289), or of another command's KIND (R296), is not this
command. -/
def withRecord (name : String) (kinds : Nat → Bool) (rec : List Byte) (s : State) : Host.Outcome State Fault Refusal :=
  if rec.length = 64 ∧ kinds (kindOf rec) then .next s else .fault (.illFormed name)

end Sys2Proof.Machine
end

