-- ==== Sys2Proof/Machine/KvOps.lean ====
section
/-! DEFINITION. Galleys and their tiers (R210 to R250), and the prefix tree (R333 to R336), as
operations that the commands share. -/

namespace Sys2Proof.Machine

/-- Bytes of a KV entry of `b` blocks (R211). -/
def entryBytes (b : Nat) : Nat := 16 * ((17 * b + 15) / 16)

/-- Bytes of a whole galley (R212). -/
def galleyBytes (b : Nat) : Nat := 256 * entryBytes b

/-- Blocks `bs` of a KV entry (R211). -/
def entryBlocks (entry : List Byte) (blocks : Nat) (bs : List Nat) : List Elem :=
  packedBlocks entry (entry.drop (16 * blocks)) bs

/-- The entries of a galley's bytes (R212). -/
def entriesOf (bytes : List Byte) (blocks : Nat) : List (List Byte) :=
  (List.range 256).map (fun i => slice bytes (entryBytes blocks * i) (entryBytes blocks))

/-! ### Page summaries (R236) -/

/-- Bytes of a page summary. -/
def summaryLen : Nat := 64

/-- The 96 sums of a page summary (R236): the SUMMARY_TENSOR's rows meet all 256 entries, from the tensor's A0 on. -/
def summarySums (img : List Byte) (layer : Nat) (a : Attn) (bytes : List Byte) : List (Acc × Bool) :=
  let a0 := (((declAt img layer).tensors.find? (fun t => t.idx == a.summary)).map Tensor.a0).getD 0
  let all := List.range a.blocks
  let entries := (entriesOf bytes a.blocks).flatMap (fun e => entryBlocks e a.blocks all)
  (List.range 96).map (fun j =>
    let row := Config.tensorRow img layer a.summary j
    exactClosed .n4 .n4 a0 ((List.replicate 256 (packedBlocks row.1 row.2 all)).flatten) entries)

/-- KEY and SCALES of a galley's page summary (R236): its sums, the anchor less 8 for the factor 1/256 (DESIGN CHOICE, log
entry 85), quantised in three blocks (R77). -/
def summaryKey (img : List Byte) (layer : Nat) (a : Attn) (bytes : List Byte) : List Byte :=
  let u := (summarySums img layer a bytes).map (fun x => ({ x.1 with anchor := x.1.anchor - 8 } : Acc).scaled none)
  let q := (List.range 3).map (fun b => quantiseBlock false ((u.drop (32 * b)).take 32))
  q.flatMap (fun x => packNibbles x.codes) ++ q.map (fun x => BitVec.ofNat 8 x.scale)

/-- The 64 bytes of a page summary (R236), zeros where the galley has none. -/
def Galley.summaryBytes (x : Galley) : List Byte :=
  if x.summary = [] then List.replicate summaryLen 0
  else slice x.summary 0 51 ++ [if x.pub then 3 else 1] ++ leBytes 4 x.index ++ List.replicate 8 0

/-- A galley's bytes and its summary, as T1 and T2 hold them (R222), the summary after the galley (DESIGN CHOICE, log
entry 85). -/
def Galley.span (x : Galley) : Nat := x.bytes + summaryLen

/-! ### Participants (R229, R235) -/

/-- The candidates of page selection are the galleys 0 to this number less 1. -/
def Attn.candidates (a : Attn) (gc : Nat) : Nat := gc - a.window / 256

/-- Every galley is attended to (R234). -/
def Attn.dense (a : Attn) (dense : Bool) : Bool := dense || !a.selection

/-- The number n of participants (R229, R235). -/
def Attn.count (a : Attn) (dense : Bool) (gc : Nat) : Nat :=
  if a.dense dense then gc else min gc (a.window / 256) + min (a.candidates gc) a.topk

/-- The participants by ascending galley index (R229, R235), with the candidates that were ranked first. -/
def Attn.participants (a : Attn) (dense : Bool) (gc : Nat) (picks : List Nat) : List Nat :=
  if a.dense dense then List.range gc
  else
    let c := a.candidates gc
    (if c ≤ a.topk then List.range c else picks) ++ (List.range (gc - c)).map (c + ·)

/-- Bytes of the stack tier that parity protects (R513). -/
def stackBytes : Nat := 2688000000000

/-- Moves a listed range of one memory into another (R239: copies are bit-identical). -/
def memMove (src dst : Memory) (a b n : Nat) : Memory :=
  (src.filter (fun c => a ≤ c.1 && c.1 < a + n)).foldl (fun d c => kset d (b + (c.1 - a)) c.2) (memZero dst b n)

/-- The poison marks of a listed range moved with its data (R377). -/
def moveMarks (src dst : List Nat) (a b n : Nat) : List Nat :=
  (src.filter (fun w => decide (a / 64 ≤ w ∧ 64 * w < a + n))).foldl (fun d w => addOnce d (b / 64 + (w - a / 64)))
    (dropRange dst (b / 64) ((n + 63) / 64))

/-- Store content copied to the stack tier (R239), read as a stack write's source is, through the narrow port (R104). -/
def storeToStack (s : State) (a b n : Nat) : State :=
  let s := meetStore s a n
  { s with mem := { s.mem with
      stack := memMove s.mem.store s.mem.stack a b n
      stackErrs := s.mem.stackErrs.filter (fun e => !(wholeWords b n).contains e.1)
      stackPoison := moveMarks s.mem.storePoison s.mem.stackPoison a b n } }

/-- Stack-tier content copied to a store (R239), as the controller reads it (R511). -/
def stackToStore (s : State) (a b n : Nat) : State :=
  let s := meetStack s a n
  { s with mem := { s.mem with
      store := memMove s.mem.stack s.mem.store a b n
      errs := s.mem.errs.filter (fun e => !(wholeWords b n).contains e.1)
      storePoison := moveMarks s.mem.stackPoison s.mem.storePoison a b n } }

/-- Store content copied to another store (R247), its poison marks with it (R105). -/
def storeToStore (s : State) (a b n : Nat) : State :=
  let s := meetStore s a n
  { s with mem := { s.mem with
      store := memMove s.mem.store s.mem.store a b n
      errs := s.mem.errs.filter (fun e => !(wholeWords b n).contains e.1)
      storePoison := moveMarks s.mem.storePoison s.mem.storePoison a b n } }

/-- Stack-tier content copied within the tier, as the controller reads it (R511). -/
def stackToStack (s : State) (a b n : Nat) : State :=
  let s := meetStack s a n
  { s with mem := { s.mem with
      stack := memMove s.mem.stack s.mem.stack a b n
      stackErrs := s.mem.stackErrs.filter (fun e => !(wholeWords b n).contains e.1)
      stackPoison := moveMarks s.mem.stackPoison s.mem.stackPoison a b n } }

/-- The lowest address from `cur` on where `n` units fit among rising extents. -/
def firstFit (n : Nat) : Nat → List (Nat × Nat) → Nat
  | cur, [] => cur
  | cur, (a, m) :: r => if cur + n ≤ a then cur else firstFit n (max cur (a + m)) r

def modKv (s : State) (f : Kv → Kv) : State := { s with kv := f s.kv }

def getG (s : State) (g : Nat) : Option Galley := kget? s.kv.galleys g
def setG (s : State) (g : Nat) (x : Galley) : State := modKv s (fun k => { k with galleys := kset k.galleys g x })
def adjG (s : State) (g : Nat) (f : Galley → Galley) : State := modKv s (fun k => { k with galleys := kadj k.galleys g f })

/-! ### Space -/

/-- A rising list of extents with one more. -/
def addExtent (l : List (Nat × Nat)) (a n : Nat) : List (Nat × Nat) := kset l a n

/-- Bytes that an extent of the stack tier takes, in whole words. -/
def unitUp (n : Nat) : Nat := (n + 63) / 64 * 64

/-- What a golden copy consists of (R361): the header and table, then every section that is not empty. -/
def goldenSecs (img : List Byte) : List Sec :=
  ⟨0, 0, 0, 0xFFFF, 0xFF, 0, 256 + 32 * imgSections img⟩ :: (secs img).filter (fun x => decide (0 < x.len))

/-- The stack-tier bytes of a whole golden copy. -/
def goldenSize (img : List Byte) : Nat := ((goldenSecs img).map (fun x => unitUp x.len)).sum

/-- A golden copy that the state of the loads asks for (R361): an image's identity and bytes, and for a replacement the
identity whose unchanged layers it shares, with the changed layers (R364). -/
structure GoldenWant where
  ident : List Byte
  image : List Byte
  base : List Byte
  changed : List Nat
  deriving DecidableEq, Repr

/-- A section that a replacement shares with the copy it replaces (R364). -/
def GoldenWant.shares (w : GoldenWant) (x : Sec) : Bool :=
  !w.base.isEmpty && x.layer != 0xFFFF && !w.changed.contains x.layer

/-- The bytes that a replacement adds: its changed layers and its global sections (R364). -/
def Repl.newBytes (r : Repl) : Nat :=
  (((goldenSecs r.image).filter (fun x => x.layer == 0xFFFF || r.changed.contains x.layer)).map (fun x => unitUp x.len)).sum

/-- The golden copies of every identity that is resident, staged or being loaded, variants and overlays among them
(R280, R282, R361). -/
def goldenWants (s : State) : List GoldenWant :=
  s.formes.map (fun f => ⟨f.2.ident, f.2.image, [], []⟩)
    ++ s.formes.flatMap (fun f => (f.2.repl.toList ++ f.2.replWait).map (fun r => ⟨r.ident, r.image, f.2.ident, r.changed⟩))
    ++ s.slots.map (fun x => ⟨identity x.2.image, x.2.image, [], []⟩)
    ++ (s.loads.filter (fun l => l.capacity || l.slotWait)).map (fun l => ⟨identity l.image, l.image, [], []⟩)

/-- The stack-tier extents in use: galleys' and golden copies', by rising address. -/
def stackExtents (s : State) : List (Nat × Nat) :=
  s.golden.foldl (fun m g => addExtent m g.at_ (unitUp g.len)) (s.kv.t1.map (fun x => (x.1, unitUp x.2)))

/-- A section of a golden copy put into the stack tier, at the lowest address where it fits (DESIGN CHOICE, log entry 42), or
shared with the copy that a replacement replaces (R364). -/
def addPiece (w : GoldenWant) (s : State) (x : Sec) : State :=
  match (if w.shares x then s.golden.find? (fun g => g.ident == w.base && g.ty == x.ty && g.layer == x.layer && g.layout == x.layout)
    else none) with
  | some g => { s with golden := s.golden ++ [{ g with ident := w.ident }] }
  | none =>
    let a := firstFit (unitUp x.len) 0 (stackExtents s)
    { stackWrite s a (secBytes w.image x) false with golden := s.golden ++ [⟨w.ident, x.ty, x.layer, x.layout, a, x.len⟩] }

/-- A golden copy written (R352 step 3), where the identity has none: there is exactly one (R361). -/
def addGolden (s : State) (w : GoldenWant) : State :=
  if s.golden.any (fun g => g.ident == w.ident) then s else (goldenSecs w.image).foldl (addPiece w) s

/-- Stack-tier bytes overwritten with zeros (R250, R282). -/
def zeroStack (s : State) (a n : Nat) : State :=
  { s with mem := { s.mem with stack := memZero s.mem.stack a n
                               stackErrs := s.mem.stackErrs.filter (fun e => !(wholeWords a n).contains e.1)
                               stackPoison := dropRange s.mem.stackPoison (a / 64) (n / 64) } }

/-- The golden copies brought up to date (R361, R362): those that nothing asks for any more are freed and scrubbed, but for
sections that another copy shares, and new ones are written. -/
def syncGolden (s : State) : State :=
  let ws := goldenWants s
  let kept := s.golden.filter (fun g => ws.any (fun w => w.ident == g.ident))
  let gone := s.golden.filter (fun g => !kept.any (fun k => k.at_ == g.at_))
  ws.foldl addGolden (gone.foldl (fun s g => zeroStack s g.at_ (unitUp g.len)) { s with golden := kept })

/-- The stack-tier address of a layer's section of a type in a golden copy (R361). -/
def goldenAddr (s : State) (ident : List Byte) (ty layer : Nat) : Option Nat :=
  (s.golden.find? (fun g => g.ident == ident && g.ty == ty && g.layer == layer)).map (·.at_)

/-- The space that a load from a neighbour has reserved (R355): its LENGTH, and once its section table has come the size of
its copy. -/
def Load.reserved (l : Load) : Nat :=
  if !l.fromLink then 0 else if l.headOk then goldenSize l.image else leAt l.cmd 16 8

/-- The bytes of the golden copies, and of the space reserved for those that land (R355, R361). -/
def goldenBytes (s : State) : Nat :=
  (((s.golden.map (fun g => (g.at_, unitUp g.len))).dedup).map (·.2)).sum
    + ((s.loads.filter (fun l => !(l.capacity || l.slotWait))).map Load.reserved).sum

/-- Stack-tier bytes free for another `n` (R355). -/
def stackRoom (s : State) (n : Nat) : Bool := decide (goldenBytes s + (s.kv.t1.map (·.2)).sum + n ≤ stackBytes)

/-- The ATTENTION parts of a layer (R189, R213). -/
def attnParts (f : Forme) (layer : Nat) : List Placed :=
  f.parts.filter (fun p => p.live && p.layer == layer && p.flags / 2 % 2 == 1)

/-- The GALLEY regions of a part (R213), as store addresses with their lengths. -/
def partRegions (f : Forme) (p : Placed) : List (Nat × Nat) :=
  (regionsOf f.image p 0x05).map (fun r => (storeAddr r.1 r.2.addr, r.2.len))

/-- The GALLEY regions of a layer's ATTENTION parts (R213). -/
def galleyRegions (f : Forme) (layer : Nat) : List (Nat × Nat) := (attnParts f layer).flatMap (partRegions f)

/-- The first of some regions of `n` bytes that no galley occupies (R214: the choice is free, log entry 18). -/
def firstRegion (s : State) (n : Nat) (rs : List (Nat × Nat)) : Option Nat :=
  (rs.find? (fun r => decide (n ≤ r.2) && !(s.kv.galleys.any (fun g => g.2.t0 == some r.1)))).map (·.1)

/-- A region of the layer that no galley occupies. -/
def freeRegion (s : State) (f : Forme) (layer n : Nat) : Option Nat := firstRegion s n (galleyRegions f layer)

/-- Scrubs a T0 region (R250). -/
def scrubT0 (s : State) (a n : Nat) : State :=
  { s with mem := { s.mem with store := memZero s.mem.store a n
                               errs := s.mem.errs.filter (fun e => !(wholeWords a n).contains e.1)
                               storePoison := dropRange s.mem.storePoison (a / 64) (n / 64) } }

/-- Frees and scrubs T1 space (R250). -/
def freeT1 (s : State) (a n : Nat) : State :=
  modKv (zeroStack s a n) (fun k => { k with t1 := kdel k.t1 a })

/-- `HST.T2_USED_MIB` (R525). -/
def countT2 (s : State) : State := setF s Reg.HST_T2_USED_MIB (((s.kv.t2.map (·.2)).sum + 2 ^ 20 - 1) / 2 ^ 20) 0

/-- A CXL port is up (R498). -/
def cxlUp (s : State) : Bool :=
  [0, 1].any (fun h => onF s Reg.HST_PORT_STAT_UP h && onF s Reg.HST_PORT_STAT_CXL h)

/-- The port whose T2 grant holds (R498): a region in a window with WRITE, and CACHE_EN. -/
def t2Port (s : State) : Option Nat :=
  [0, 1].find? (fun h => onF s Reg.HST_CXL_CTL_CACHE_EN h && decide (0 < getF s Reg.HST_T2_SIZE h)
    && inWindows s (getF s Reg.HST_T2_BASE h) (getF s Reg.HST_T2_SIZE h) true
    && onF s Reg.HST_PORT_STAT_UP h && onF s Reg.HST_PORT_STAT_CXL h)

/-- Frees T2 space: scrubbed at once, or when a CXL port returns (R498). -/
def freeT2 (s : State) (a n : Nat) : State :=
  if cxlUp s then
    let s := { s with mem := { s.mem with host := memZero s.mem.host a n } }
    countT2 (modKv s (fun k => { k with t2 := kdel k.t2 a }))
  else modKv s (fun k => { k with t2Scrub := k.t2Scrub ++ [(a, n)] })

/-- The T2 space that waited for its scrub (R498). -/
def scrubT2 (s : State) : State :=
  if cxlUp s then
    let l := s.kv.t2Scrub
    let s := modKv s (fun k => { k with t2Scrub := [] })
    l.foldl (fun s x => freeT2 s x.1 x.2) s
  else s

/-! ### Galleys -/

/-- The holder number of a conversation, apart from the stream entries (R246). -/
def convHolder (tenant handle : Nat) : Nat := 2 ^ 20 + tenant * 2 ^ 64 + handle

/-- The owner's holder number. -/
def Owner.holder : Owner → Option Nat
  | .stream e => some e
  | .conv t h => some (convHolder t h)
  | .tree => none

/-- Frees a galley in every tier, scrubbing each (R250). -/
def freeGalley (s : State) (g : Nat) : State :=
  match getG s g with
  | none => s
  | some x =>
    let s := match x.t0 with
      | some a => scrubT0 s a x.bytes
      | none => s
    let s := match x.t1 with
      | some a => freeT1 s a x.span
      | none => s
    let s := match x.t2 with
      | some a => freeT2 s a x.span
      | none => s
    modKv s (fun k => { k with galleys := kdel k.galleys g, fetch := k.fetch.filter (fun x => x.galley != g) })

/-- Frees a galley that nothing references any more (R246). -/
def releaseGalley (s : State) (g : Nat) : State :=
  match getG s g with
  | some x => if x.owner = .tree ∧ x.holders = [] ∧ x.tree = 0 ∧ x.late = [] then freeGalley s g else s
  | none => s

/-- Releases the T0 region of a galley without copying (R241). -/
def dropT0 (s : State) (g : Nat) (st : GalleyState) : State :=
  match getG s g with
  | some x =>
    let s := match x.t0 with
      | some a => scrubT0 s a x.bytes
      | none => s
    setG s g { x with t0 := none, st := st }
  | none => s

/-- T1 space for a galley, and the entries that it holds copied there from T0 (R222, R224): all, or those of its length. -/
def copyToT1 (s : State) (g : Nat) : State :=
  match getG s g with
  | some x =>
    if x.t1.isSome then s
    else
      let a := firstFit x.span 0 (stackExtents s)
      let s := match x.t0 with
        | some b => storeToStack s b a (x.bytes / 256 * min 256 x.length)
        | none => s
      let s := stackWrite s (a + x.bytes) x.summaryBytes false
      modKv (setG s g { x with t1 := some a }) (fun k => { k with t1 := addExtent k.t1 a x.span })
  | none => s

/-- A galley's T0 region filled from its T1 copy (R239, R242). -/
def fillT0 (s : State) (g : Nat) (st : GalleyState) : State :=
  match getG s g with
  | some x =>
    let s := match x.t0, x.t1 with
      | some a, some b => stackToStore s b a x.bytes
      | _, _ => s
    setG s g { x with st := st }
  | none => s

/-- A T0 region for a galley among those that its forme gives, where one is free. -/
def takeT0In (s : State) (g : Nat) (rs : Forme → List (Nat × Nat)) : State :=
  match getG s g with
  | some x =>
    match x.t0, (kget? s.formes x.forme).bind (fun f => firstRegion s x.bytes (rs f)) with
    | none, some a => setG s g { x with t0 := some a }
    | _, _ => s
  | none => s

/-- A T0 region of its layer for a galley, where one is free. -/
def takeT0 (s : State) (g : Nat) : State :=
  match getG s g with
  | some x => takeT0In s g (fun f => galleyRegions f x.layer)
  | none => s

/-- A T0 region filled from the galley's T1 copy (R242, R245). -/
def copyToT0 (s : State) (g : Nat) (st : GalleyState) : State :=
  let s := takeT0 s g
  if (getG s g).any (fun x => x.t0.isSome) then fillT0 s g st else s

/-- A galley back from T2 to T1 (R245). -/
def fromT2 (s : State) (g : Nat) : State :=
  match getG s g with
  | some x =>
    match x.t2 with
    | some b =>
      let s := if x.t1.isSome then s
        else
          let a := firstFit x.span 0 (stackExtents s)
          let s := { s with mem := { s.mem with stack := memMove s.mem.host s.mem.stack b a x.span } }
          modKv (setG s g { x with t1 := some a, t2 := none, st := .paused })
            (fun k => { k with t1 := addExtent k.t1 a x.span })
      freeT2 (adjG s g (fun y => { y with t2 := none, st := .paused })) b x.span
    | none => s
  | none => s

/-- The galleys that a predicate names, by number. -/
def galleysWhere (s : State) (f : Galley → Bool) : List Nat := (s.kv.galleys.filter (fun g => f g.2)).map (·.1)

/-- A new galley number with its galley. -/
def newGalley (s : State) (x : Galley) : State :=
  modKv s (fun k => { k with galleys := kset k.galleys k.next x, next := k.next + 1 })

/-- Layer, group and entry blocks of every attention layer of an image (R210). -/
def kvPlaces (img : List Byte) : List (Nat × Nat × Nat) :=
  (List.range (imgLayers img)).flatMap (fun l =>
    match attnOf img l with
    | some a => (List.range a.groups).map (fun g => (l, g, a.blocks))
    | none => [])

/-- A stick region bound for one layer and KV group (R216, R222). -/
def bindStick (s : State) (e fi idx tenant : Nat) (req : Option Nat) (p : Nat × Nat × Nat) : State :=
  let n := galleyBytes p.2.2
  let region := (kget? s.formes fi).bind (fun f => freeRegion s f p.1 n)
  newGalley s
    { owner := .stream e, forme := fi, layer := p.1, group := p.2.1, index := idx, st := .composing, tenant := tenant
      pub := false, t0 := region, t1 := none, t2 := none, bytes := n, length := 0, holders := [], tree := 0, req := req }

/-- The stick of a stream at a layer and KV group, with its number (R216). -/
def stickOf (s : State) (e layer group : Nat) : Option (Nat × Galley) :=
  s.kv.galleys.find? (fun g => g.2.owner == .stream e && g.2.st == .composing && g.2.layer == layer && g.2.group == group)

/-- Sticks for every layer and group of a forme that has none yet (R216). -/
def bindSticks (s : State) (e fi idx tenant : Nat) (req : Option Nat) : State :=
  match kget? s.formes fi with
  | some f => (kvPlaces f.image).foldl (fun s p =>
      if (stickOf s e p.1 p.2.1).isSome then s else bindStick s e fi idx tenant req p) s
  | none => s

/-- The sticks of a stream (R216). -/
def sticksOf (s : State) (e : Nat) : List Nat :=
  galleysWhere s (fun g => g.owner == .stream e && g.st == .composing)

/-- Some stick of the stream has no region yet (R222: no further step is issued). -/
def stickWaits (s : State) (e : Nat) : Bool :=
  s.kv.galleys.any (fun g => g.2.owner == .stream e && g.2.st == .composing && g.2.t0.isNone)

/-- A stick without a region gets one as soon as one is free (R222); a partial galley that a resumed
conversation brings back leaves T1 (R224). -/
def placeStick (s : State) (g : Nat) : State :=
  let s := match getG s g with
    | some x => if x.t0.isNone then copyToT0 s g .composing else s
    | none => s
  match getG s g with
  | some x =>
    match x.t0, x.t1 with
    | some _, some a => setG (freeT1 s a x.span) g { x with t1 := none }
    | _, _ => s
  | none => s

/-- Regions for the sticks of a stream that wait for one (R222). -/
def placeSticks (s : State) (e : Nat) : State := (sticksOf s e).foldl placeStick s

/-- The page summary that a flush computes from a galley's entries (R222, R236): the press reads them through the wide port
(R102, R103), and its sums are counted (R88). No descriptor gives these sums a recompute length, and their recomputes ask no
slip (DESIGN CHOICE, log entry 85). -/
def summarise (s : State) (x : Galley) : State × List Byte :=
  match (kget? s.formes x.forme).bind (fun f => (attnOf f.image x.layer).map (fun a => (f, a))), x.t0 with
  | some (f, a), some b =>
    let s := meetWide s (coreAt b) (b % coreBytes) x.bytes none
    let bytes := memReadBytes s.mem.store b x.bytes
    (countSums s (coreAt b) x.layer none none (summarySums f.image x.layer a bytes), summaryKey f.image x.layer a bytes)
  | _, _ => (s, [])

/-- Flush (R222): each stick becomes the galley PENDING with its summary, its T1 copy on the way, and a fresh one
is bound. `late` gives the block nodes that the prefix tree takes once these galleys are RESIDENT (R335). -/
def flushSticks (s : State) (e idx : Nat) (late : List Nat → List PrefixNode) : State :=
  let l := sticksOf s e
  l.foldl (fun s g =>
    match getG s g with
    | some x =>
      let (s, key) := summarise s x
      let y := { x with st := .pending, length := 256, index := idx, summary := key, flushed := s.kv.flushes, late := late l }
      let s := copyToT1 (setG (modKv s (fun k => { k with flushes := k.flushes + 1 })) g y) g
      bindStick s e x.forme (idx + 1) x.tenant x.req (x.layer, x.group,
        ((kget? s.formes x.forme).bind (fun f => (attnOf f.image x.layer).map (·.blocks))).getD 0)
    | none => s) s

/-- Frees a stream's sticks (R225). -/
def freeSticks (s : State) (e : Nat) : State := (sticksOf s e).foldl freeGalley s

/-- The window of a layer in galleys (R210, R235). -/
def windowOf (s : State) (fi layer : Nat) : Nat :=
  ((kget? s.formes fi).bind (fun f => (attnOf f.image layer).map (fun a => a.window / 256))).getD 0

/-- The durable length (R391): 256 × the leading galleys that have a complete copy in T1 or T2 in
every layer and group. -/
def durableGalleys (s : State) (e : Nat) (places : Nat) : Nat → Nat → Nat
  | 0, g => g
  | fuel + 1, g =>
    let ok := (s.kv.galleys.filter (fun x => (x.2.owner == .stream e || x.2.holders.contains e) && x.2.index == g
      && decide (x.2.st ∈ [.resident, .spilled, .fetching, .paused, .host]) && x.2.length == 256)).length
    if 0 < places ∧ places ≤ ok then durableGalleys s e places fuel (g + 1) else g

/-! ### The prefix tree -/

/-- Bytes of token ids, 4 each. -/
def tokenIds (ts : List Nat) : List Byte := ts.flatMap (leBytes 4)

/-- The key of a tree root (R333): scope, global digest, identity, pinned versions in ascending
overlay number, attention mode, laid out as log entry 19 says. -/
def rootKey (scope : Nat) (img ident : List Byte) (versions : List (Nat × Nat)) (dense : Bool) : List Byte :=
  sha384 (leBytes 4 scope ++ globalDigest img ++ ident ++ versions.flatMap (fun v => leBytes 2 v.1 ++ leBytes 4 v.2)
    ++ [if dense then 1 else 0])

/-- The scope of the PUBLIC tree: outside the tenants (R333). -/
def publicScope : Nat := 0x10000

/-- The key of a node (R333). -/
def nodeKey (parent : List Byte) (ts : List Nat) : List Byte := sha384 (parent ++ tokenIds ts)

/-- The node with this key and these tokens (R333: a hit needs both). -/
def findNode (s : State) (key : List Byte) (ts : List Nat) : Option PrefixNode :=
  s.kv.nodes.find? (fun n => n.key == key && n.tokens == ts)

/-- The nodes a walk meets, block by block, at most `blocks` (R334). -/
def walkTree (s : State) : Nat → List Byte → List Nat → List PrefixNode
  | 0, _, _ => []
  | n + 1, parent, ts =>
    let b := ts.take 64
    match findNode s (nodeKey parent b) b with
    | some x => x :: walkTree s n x.key (ts.drop 64)
    | none => []

/-- The bytes that the tree references (R336): each galley once. -/
def treeBytes (s : State) : Nat := ((s.kv.galleys.filter (fun g => g.2.tree != 0)).map (fun g => g.2.bytes)).sum

/-- `PFX.HELD_GIB` (R344). -/
def countHeld (s : State) : State := setF s Reg.PFX_HELD_GIB ((treeBytes s + 2 ^ 30 - 1) / 2 ^ 30) 0

/-- A byte list before another. -/
def bytesLt : List Byte → List Byte → Bool
  | [], [] => false
  | [], _ => true
  | _, [] => false
  | a :: as, b :: bs => decide (a < b) || (a == b && bytesLt as bs)

/-- A leaf that no stream holds (R336); a paused conversation is no stream. -/
def evictable (s : State) (n : PrefixNode) : Bool :=
  !(s.kv.nodes.any (fun m => m.parent == some n.key))
    && n.galleys.all (fun g => (getG s g).all (fun x => x.holders.all (fun h => decide (2 ^ 20 ≤ h))
        && (match x.owner with | .stream _ => false | _ => true)))

/-- The leaf to evict next: least recently hit, then the lower key (R336). -/
def victim (s : State) : Option PrefixNode :=
  (s.kv.nodes.filter (evictable s)).foldl (fun b n =>
    match b with
    | none => some n
    | some m => if n.lastHit < m.lastHit ∨ (n.lastHit = m.lastHit ∧ bytesLt n.key m.key) then some n else some m) none

/-- Removes a node; galleys that nothing references any more are freed (R336, R250). -/
def dropNode (s : State) (n : PrefixNode) : State :=
  let s := modKv s (fun k => { k with nodes := k.nodes.filter (fun m => m.key != n.key) })
  n.galleys.foldl (fun s g => releaseGalley (adjG s g (fun x => { x with tree := x.tree - 1 })) g) s

/-- Evicts leaves while the tree's reference exceeds the limit (R336, R344). -/
def evict (s : State) : Nat → State
  | 0 => countHeld s
  | fuel + 1 =>
    if getF s Reg.PFX_LIMIT_GIB 0 * 2 ^ 30 < treeBytes s ∨ (getF s Reg.PFX_LIMIT_GIB 0 = 0 ∧ s.kv.nodes ≠ []) then
      match victim s with
      | some n => evict (dropNode s n) fuel
      | none => countHeld s
    else countHeld s

def evictAll (s : State) : State := evict s (s.kv.nodes.length + 1)

/-- A galley that a public node references is PUBLIC, and its summary in T1 says so (R236, R249). -/
def markPublic (s : State) (g : Nat) (pub : Bool) : State :=
  match getG s g with
  | some x =>
    let y := { x with pub := x.pub || pub }
    let s := setG s g y
    match x.t1 with
    | some a => if y.pub = x.pub then s else stackWrite s (a + x.bytes) y.summaryBytes false
    | none => s
  | none => s

/-- Inserts one block node unless it is there (R335); no insertion at a limit of 0 (R344). Its insertion counts as its last
hit (R336). -/
def insertNode (s : State) (n : PrefixNode) : State :=
  if getF s Reg.PFX_LIMIT_GIB 0 = 0 then s
  else match findNode s n.key n.tokens with
    | some _ => s
    | none =>
      let s := modKv s (fun k => { k with nodes := k.nodes ++ [{ n with lastHit := s.lampTime }] })
      n.galleys.foldl (fun s g => markPublic (adjG s g (fun x => { x with tree := x.tree + 1 })) g n.pub) s

/-- The key of block `b` of a token list under a root. -/
def blockKey (root : List Byte) (ts : List Nat) : Nat → List Byte
  | 0 => root
  | b + 1 => nodeKey (blockKey root ts b) ((ts.drop (64 * b)).take 64)

/-- The nodes of blocks `b .. b + n − 1` of a prompt, held by the galleys `gs` (R333, R335). -/
def blockNodes (now : Nat) (root : List Byte) (ts : List Nat) (pub : Bool) (tenant fi : Nat) (gs : List Nat) (b n : Nat) :
    List PrefixNode :=
  (List.range n).map (fun j =>
    let i := b + j
    { key := blockKey root ts (i + 1), parent := if i = 0 then none else some (blockKey root ts i)
      tokens := (ts.drop (64 * i)).take 64, galleys := gs, lastHit := now, pub := pub, tenant := tenant
      forme := fi, block := i })

/-- Inserts nodes in order (R335). -/
def insertNodes (s : State) (ns : List PrefixNode) : State := ns.foldl insertNode s

end Sys2Proof.Machine
end

