-- ==== Sys2Proof/Machine/LinkOps.lean ====
section
/-! DEFINITION. What the Irlar links share: their state, link frames and messages (R501, R502, R508),
and whether the partner is READY (R407). -/

namespace Sys2Proof.Machine

/-- An Irlar link right after reset. -/
def Link.reset : Link :=
  { good := [], logical := [], spares := [], txSeq := 0, rxSeq := 0, replay := [], nakRuns := 0, nak := false
    trained := [], coeffs := [], gotIdent := false, gotVersion := false, peerCores := 0, peerGrade := 0
    peerIdents := [], ann := none, lastExchange := none, retrainAt := none, downAt := none
    refused := false, asks := [] }

def getLink (s : State) (k : Nat) : Link := kgetD s.links k Link.reset
def setLink (s : State) (k : Nat) (x : Link) : State := { s with links := kset s.links k x }
def modLink (s : State) (k : Nat) (f : Link → Link) : State := setLink s k (f (getLink s k))

/-- A link carries traffic: its phase is UP. -/
def linkUp (s : State) (k : Nat) : Bool := getF s Reg.LNK_STAT_PHASE k == 8

/-- A 16-byte serial read from four words of a register. -/
def serialOf (s : State) (f : Fld) (inst : Nat) : Nat :=
  getF s f inst 0 + 2 ^ 32 * getF s f inst 1 + 2 ^ 64 * getF s f inst 2 + 2 ^ 96 * getF s f inst 3

/-- The serial of this module (R543). -/
def moduleSerial (s : State) : Nat := serialOf s Reg.SYS_SERIAL 0

/-- A 16-byte serial into four words of a register. -/
def setSerial (s : State) (f : Fld) (inst v : Nat) : State :=
  (List.range 4).foldl (fun s w => setF s f (v / 2 ^ (32 * w)) inst w) s

/-- The replay buffer of a link, in frames (R502). -/
def replayFrames : Nat := 8192

/-! ### Frames (R501) -/

/-- A link frame (R501): sequence number, acknowledgement, NAK, channel of its flits, up to four flits
of 80 bytes. No rule counts a link's credits: CREDIT is a free value (log entry 2). -/
def linkFrameOf (seq ack : Nat) (nak : Bool) (channel : Nat) (flits : List (List Byte)) : List Byte :=
  let flags := (if nak then 1 else 0) + (if channel = 1 then 0xF0 else 0)
  let body := leBytes 2 seq ++ leBytes 2 ack ++ leBytes 1 flags ++ leBytes 1 (2 ^ flits.length - 1)
    ++ leBytes 2 (Config.freeResult 0x0501 [seq, ack]) ++ slice flits.flatten 0 320
  body ++ leBytes 4 (crc32c body) ++ leBytes 4 0

/-- A frame leaves: it is sent while the replay buffer has room, and kept until it is acknowledged
(R502). -/
def sendFrame (s : State) (k channel : Nat) (flits : List (List Byte)) : State :=
  let x := getLink s k
  let fr := linkFrameOf x.txSeq ((x.rxSeq + 65535) % 65536) x.nak channel flits
  let s := setLink s k { x with txSeq := (x.txSeq + 1) % 65536, replay := x.replay ++ [fr] }
  if x.replay.length < replayFrames then { s with io := { s.io with linkOut := s.io.linkOut ++ [(k, fr)] } } else s

/-- Flits in frames of four. -/
def sendFlits (s : State) (k channel : Nat) (flits : List (List Byte)) : State :=
  (List.range ((flits.length + 3) / 4)).foldl (fun s i => sendFrame s k channel ((flits.drop (4 * i)).take 4)) s

/-! ### Messages (R508) -/

/-- A link message: kind and offset, then its payload (R508). -/
def linkMsg (kind off : Nat) (payload : List Byte) : List Byte := leBytes 8 (kind * 2 ^ 56 + off % 2 ^ 48) ++ payload

/-- The flits of a message (R508): 68 payload bytes each at rising offsets; the last carries EOP. -/
def msgFlits (m : List Byte) : List (List Byte) :=
  let head := leAt m 0 8
  let body := m.drop 8
  let n := max 1 ((body.length + 67) / 68)
  (List.range n).map (fun i =>
    leBytes 8 (head + 68 * i) ++ leBytes 4 (if i + 1 = n then 2 ^ 24 else 0) ++ slice body (68 * i) 68)

/-- A message put on Irlar link `k`, on channel 1. -/
def linkSend (s : State) (k : Nat) (m : List Byte) : State := sendFlits s k 1 (msgFlits m)

/-- Messages put on a link in order. -/
def sendMsgs (s : State) (k : Nat) (ms : List (List Byte)) : State := sendFlits s k 1 (ms.flatMap msgFlits)

/-- A fabric flit put on Irlar link `k`, on channel 0 (R507). -/
def sendFabric (s : State) (k : Nat) (f : Flit) : State :=
  sendFlits s k 0 [leBytes 8 f.stamp.toNat ++ leBytes 4 f.route.toNat ++ slice f.payload 0 68]

/-! ### The partner (R407) -/

/-- The port die toward the partner: the lowest of `ERR.PARTNER_CTL.PORTS` that is trained to it. -/
def partnerPort (s : State) : Option Nat :=
  (List.range 16).find? (fun k => getF s Reg.ERR_PARTNER_CTL_PORTS 0 / 2 ^ k % 2 == 1 && linkUp s k
    && serialOf s Reg.LNK_PEER_ID k == serialOf s Reg.ERR_PARTNER_ID 0)

/-- `ERR.PARTNER_STAT.REASON` (R407, R411): why the partner is not READY, 0 when it is. -/
def partnerReason (s : State) : Nat :=
  if !onF s Reg.ERR_PARTNER_CTL_ENABLE 0 then 5
  else match partnerPort s with
    | none => 1
    | some k =>
      if !(s.formes.all (fun f => !(decide (getF s Reg.LOAD_F_STATE f.1 ∈ [2, 3, 4]))
          || (getLink s k).peerIdents.contains f.2.ident)) then 2
      else if !s.partner.capacityOk then 3
      else if !s.partner.ringsOk then 4
      else 0

/-- `ERR.PARTNER_STAT.READY` (R407). -/
def partnerReady (s : State) : Bool := partnerReason s == 0

end Sys2Proof.Machine
end

