-- ==== Sys2Proof/Machine/Transcend.lean ====
section
/-! DEFINITION. The correctly rounded functions of R117 whose exact value is not rational, and the
rotator's sine and cosine (R121). Each is enclosed between two rationals at a rising precision; when
both ends round to the same code, that code is the correctly rounded result. -/

namespace Sys2Proof.Machine

/-- An enclosure of a real number. -/
structure Ivl where
  lo : Rat
  hi : Rat
  deriving DecidableEq, Repr

/-- Rounding a rational down or up to a multiple of 2^−p. -/
def gridDown (p : Nat) (q : Rat) : Rat := ((q * pow2 p).floor : Rat) * pow2 (-(p : Int))
def gridUp (p : Nat) (q : Rat) : Rat := ((q * pow2 p).ceil : Rat) * pow2 (-(p : Int))

def Ivl.pt (q : Rat) : Ivl := ⟨q, q⟩
def Ivl.grid (p : Nat) (a : Ivl) : Ivl := ⟨gridDown p a.lo, gridUp p a.hi⟩
def Ivl.add (a b : Ivl) : Ivl := ⟨a.lo + b.lo, a.hi + b.hi⟩
def Ivl.neg (a : Ivl) : Ivl := ⟨-a.hi, -a.lo⟩
def Ivl.mul (p : Nat) (a b : Ivl) : Ivl :=
  let x := a.lo * b.lo
  let y := a.lo * b.hi
  let z := a.hi * b.lo
  let w := a.hi * b.hi
  Ivl.grid p ⟨Min.min (Min.min x y) (Min.min z w), Max.max (Max.max x y) (Max.max z w)⟩
def Ivl.scale (q : Rat) (a : Ivl) : Ivl := if 0 ≤ q then ⟨q * a.lo, q * a.hi⟩ else ⟨q * a.hi, q * a.lo⟩
/-- The reciprocal of an enclosure of a positive number. -/
def Ivl.inv (a : Ivl) : Ivl := ⟨1 / a.hi, 1 / a.lo⟩

/-- e^y for y in an enclosure within [−0.1, 1], by Horner's rule down from `n` terms; the rest of
the series is y^n / n! times a number between 1/2 and 3. -/
def expHorner (p : Nat) (y : Ivl) : Nat → Nat → Ivl → Ivl
  | 0, _, acc => acc
  | fuel + 1, k, acc =>
    expHorner p y fuel (k - 1) (Ivl.add (Ivl.pt 1) (Ivl.scale (1 / (k : Rat)) (Ivl.mul p y acc)))

def expIvl (p : Nat) (y : Ivl) : Ivl := expHorner p y (p + 8) (p + 8) ⟨1 / 2, 3⟩

/-- Σ_{k=0}^{n} w^k / (2k+1) for an exact w in [0, 1/4], as an enclosure: the rest is below
w^(n+1) × 2. Used for atanh(z) = z Σ z^{2k}/(2k+1). -/
def atanhSum (p : Nat) (w : Ivl) : Nat → Ivl → Ivl
  | 0, acc => acc
  | k + 1, acc => atanhSum p w k (Ivl.add (Ivl.pt (1 / ((2 * k + 1 : Nat) : Rat))) (Ivl.mul p w acc))

/-- ln 2 = 2 atanh(1/3). -/
def ln2Ivl (p : Nat) : Ivl := Ivl.scale (2 / 3) (atanhSum p (Ivl.pt (1 / 9)) (p / 3 + 4) ⟨0, 2⟩)

/-- atan(1/m) × m: the alternating series in −1/m². -/
def atanInv (p m : Nat) : Ivl :=
  Ivl.scale (1 / (m : Rat)) (atanhSum p (Ivl.pt (-(1 / ((m * m : Nat) : Rat)))) (p / 4 + 4) ⟨0, 2⟩)

/-- π by Machin's formula. -/
def piIvl (p : Nat) : Ivl := Ivl.add (Ivl.scale 16 (atanInv p 5)) (Ivl.scale (-4) (atanInv p 239))

/-- e^x for a rational x, as an enclosure with a power of two taken out. -/
def expRat (p : Nat) (x : Rat) : Ivl :=
  let l := ln2Ivl (p + 16)
  let n := (x / l.hi).floor
  let r := Ivl.add (Ivl.pt x) (Ivl.scale (-(n : Rat)) l)
  Ivl.scale (pow2 n) (expIvl p (r.grid (p + 8)))

/-- exp2 of a rational in (−152, 128). -/
def exp2Ivl (p : Nat) (x : Rat) : Ivl :=
  let n := x.floor
  if (n : Rat) = x then Ivl.pt (pow2 n)
  else Ivl.scale (pow2 n) (expIvl p ((Ivl.scale (x - n) (ln2Ivl (p + 8))).grid (p + 8)))

/-- log2 of a positive rational. -/
def log2Ivl (p : Nat) (x : Rat) : Ivl :=
  let e := floorLog2 x
  let m := x / pow2 e
  let (e, m) := if m < 3 / 2 then (e, m) else (e + 1, m / 2)
  let z := (m - 1) / (m + 1)
  if z = 0 then Ivl.pt e
  else
    let s := atanhSum p (Ivl.grid p (Ivl.pt (z * z))) (p + 4) ⟨0, 2⟩
    Ivl.add (Ivl.pt e) (Ivl.scale (2 * z) (Ivl.mul p s (ln2Ivl (p + 8)).inv))

def sigmoidIvl (p : Nat) (x : Rat) : Ivl :=
  let e := expRat p x
  ⟨e.lo / (1 + e.lo), e.hi / (1 + e.hi)⟩

def tanhIvl (p : Nat) (x : Rat) : Ivl :=
  let e := expRat p (2 * x)
  ⟨(e.lo - 1) / (e.lo + 1), (e.hi - 1) / (e.hi + 1)⟩

/-- Σ 2^n w^n / (3 · 5 ⋯ (2n+1)) for w = x² up to 16, by Horner's rule from `n` terms. -/
def erfSum (p : Nat) (w : Rat) : Nat → Ivl → Ivl
  | 0, acc => acc
  | k + 1, acc => erfSum p w k (Ivl.add (Ivl.pt 1)
      (Ivl.grid p (Ivl.scale (2 * w / ((2 * k + 3 : Nat) : Rat)) acc)))

/-- The floor and ceiling of √q on the grid of 2^−p, for q not negative. -/
def sqrtIvl (p : Nat) (q : Ivl) : Ivl :=
  let f := fun (r : Rat) => isqrt ((r * pow2 (2 * p)).floor.toNat)
  ⟨(f q.lo : Rat) * pow2 (-(p : Int)), ((f q.hi : Rat) + 1) * pow2 (-(p : Int))⟩

def erfIvl (p : Nat) (x : Rat) : Ivl :=
  let w := x * x
  let s := erfSum p w (p + 64) ⟨0, 2⟩
  let c := sqrtIvl p (Ivl.scale 4 (piIvl (p + 8)).inv)
  Ivl.scale x (Ivl.mul p (Ivl.mul p s (expRat p (-w))) c)

/-- The code both ends round to, at the first precision where they agree; the lower end's code at
the last precision. -/
def settle (round : Rat → Nat) (f : Nat → Ivl) : List Nat → Nat
  | [] => 0
  | [p] => round (f p).lo
  | p :: ps => if round (f p).lo = round (f p).hi then round (f p).lo else settle round f ps

/-- The precisions tried. -/
def precisions : List Nat := [64, 128, 256, 512]

def roundF32 (q : Rat) : Nat := FloatShape.f32.roundIeee false q

/-- exp2 on F32 bits (R117, R119). Below −151 the result is +0 and from 128 on it is +∞. -/
def exp2Bits (x : Nat) : Nat :=
  match f32 x with
  | .nan => FloatShape.f32.canonicalNan
  | .inf n => if n then 0 else FloatShape.f32.infCode
  | .fin _ q => if 128 ≤ q then FloatShape.f32.infCode else if q < -151 then 0
    else settle roundF32 (fun p => exp2Ivl p q) precisions

/-- log2 on F32 bits (R117, R119; IEEE's NaN below zero and infinities, log entry 14). -/
def log2Bits (x : Nat) : Nat :=
  match f32 x with
  | .nan => FloatShape.f32.canonicalNan
  | .inf n => if n then FloatShape.f32.canonicalNan else FloatShape.f32.infCode
  | .fin _ q => if q = 0 then FloatShape.f32.infCode + FloatShape.f32.signBit
    else if q < 0 then FloatShape.f32.canonicalNan
    else settle roundF32 (fun p => log2Ivl p q) precisions

/-- An F32 result that the spec does not state: free but for R48's NaN, the only one that the device writes. -/
def freeF32 (op x : Nat) : Nat :=
  let v := Config.freeResult op [x] % 2 ^ 32
  match f32 v with
  | .nan => FloatShape.f32.canonicalNan
  | .inf _ | .fin _ _ => v

/-- sigmoid on F32 bits (R117); of an infinity the result is free (log entry 14). -/
def sigmoidBits (x : Nat) : Nat :=
  match f32 x with
  | .nan => FloatShape.f32.canonicalNan
  | .inf _ => freeF32 0x020 x
  | .fin _ q => if 110 < q then roundF32 1 else if q < -110 then 0
    else settle roundF32 (fun p => sigmoidIvl p q) precisions

/-- tanh on F32 bits (R117); ±∞ give ±1 (IEEE, log entry 14). -/
def tanhBits (x : Nat) : Nat :=
  match f32 x with
  | .nan => FloatShape.f32.canonicalNan
  | .inf n => FloatShape.f32.roundIeee false (if n then -1 else 1)
  | .fin n q => if q = 0 then FloatShape.f32.roundIeee n 0
    else if 20 < q then roundF32 1 else if q < -20 then roundF32 (-1)
    else settle roundF32 (fun p => tanhIvl p q) precisions

/-- erf on F32 bits (R117); of an infinity the result is free (log entry 14). -/
def erfBits (x : Nat) : Nat :=
  match f32 x with
  | .nan => FloatShape.f32.canonicalNan
  | .inf _ => freeF32 0x022 x
  | .fin n q => if q = 0 then FloatShape.f32.roundIeee n 0
    else if 4 ≤ q then roundF32 1 else if q ≤ -4 then roundF32 (-1)
    else settle roundF32 (fun p => erfIvl p q) precisions

/-! ### Sine and cosine of a phase (R121) -/

/-- Σ (−w)^k / ((a+1)(a+2)⋯(a+2k)) by Horner's rule: a = 1 for sin(θ)/θ, a = 0 for cos θ. -/
def trigSum (p a : Nat) (w : Ivl) : Nat → Ivl → Ivl
  | 0, acc => acc
  | k + 1, acc => trigSum p a w k (Ivl.add (Ivl.pt 1)
      (Ivl.scale (-(1 / (((2 * k + 1 + a) * (2 * k + 2 + a) : Nat) : Rat))) (Ivl.mul p w acc)))

/-- sin and cos of 2πt for t in [0, 1/8]. -/
def sinSmall (p : Nat) (t : Rat) : Ivl :=
  let th := Ivl.scale (2 * t) (piIvl (p + 8))
  Ivl.mul (p + 48) th (trigSum (p + 8) 1 (Ivl.mul (p + 8) th th) (p / 2 + 8) ⟨0, 1⟩)
def cosSmall (p : Nat) (t : Rat) : Ivl :=
  let th := Ivl.scale (2 * t) (piIvl (p + 8))
  trigSum (p + 8) 0 (Ivl.mul (p + 8) th th) (p / 2 + 8) ⟨0, 1⟩

/-- sin of 2πt for t in [0, 1), by octants. -/
def sinTurn (p : Nat) (t : Rat) : Ivl :=
  if t < 1 / 8 then sinSmall p t else if t < 1 / 4 then cosSmall p (1 / 4 - t)
  else if t < 3 / 8 then cosSmall p (t - 1 / 4) else if t < 1 / 2 then sinSmall p (1 / 2 - t)
  else if t < 5 / 8 then (sinSmall p (t - 1 / 2)).neg else if t < 3 / 4 then (cosSmall p (3 / 4 - t)).neg
  else if t < 7 / 8 then (cosSmall p (t - 3 / 4)).neg else (sinSmall p (1 - t)).neg

/-- sin of 2π × phase / 2^40, correctly rounded to F32; the quarter turns are exact (R121). -/
def sinPhase (phase : Nat) : Nat :=
  match phase % 2 ^ 40 with
  | 0 => 0
  | ph => if ph = 2 ^ 38 then roundF32 1 else if ph = 2 ^ 39 then 0 else if ph = 3 * 2 ^ 38 then roundF32 (-1)
    else settle roundF32 (fun p => sinTurn p ((ph : Rat) / ((2 ^ 40 : Nat) : Rat))) precisions

/-- cos of 2π × phase / 2^40. -/
def cosPhase (phase : Nat) : Nat := sinPhase (phase + 2 ^ 38)

end Sys2Proof.Machine
end

