-- ==== Sys2Proof/Machine/Sampler.lean ====
section
/-! DEFINITION. The sampler (R322, R323) on one lane's F32 logits, and the accepted count of R324. -/

namespace Sys2Proof.Machine

/-- Operations on F32 bits, each correctly rounded (R117). -/
def addF32 (a b : Nat) : Nat := FloatShape.f32.encode ((f32 a).add (f32 b))
def subF32 (a b : Nat) : Nat := FloatShape.f32.encode ((f32 a).sub (f32 b))
def mulF32 (a b : Nat) : Nat := FloatShape.f32.encode ((f32 a).mul (f32 b))
def rcpF32 (a : Nat) : Nat := FloatShape.f32.encode (f32 a).rcp
def isNanF32 (a : Nat) : Bool := decide (f32 a = FVal.nan)
/-- a > b as numbers. -/
def gtF32 (a b : Nat) : Bool := (f32 b).le (f32 a) && !((f32 a).le (f32 b))
def geF32 (a b : Nat) : Bool := (f32 b).le (f32 a)

/-- −∞ in F32. -/
def negInf : Nat := 0xFF800000

/-- A NaN logit is treated as −∞ (R322). -/
def cleanNan (x : Nat) : Nat := if isNanF32 x then negInf else x

/-- The sampling parameters of a request (R297, R298). -/
structure SampleParams where
  temperature : Nat
  topK : Nat
  topP : Nat
  minP : Nat
  seed : Nat
  logprob : Bool
  repPenalty : Nat
  repWindow : Nat
  biases : List (Nat × Nat)
  mask : List Byte
  masked : Bool
  deriving DecidableEq, Repr

/-- A sample: its token and, where one was formed, its B16 log-probability (R302). -/
structure Sampled where
  token : Nat
  logprob : Option Nat
  deriving DecidableEq, Repr

/-- The mask allows token t (R298). -/
def allowed (p : SampleParams) (t : Nat) : Bool :=
  !p.masked || ((p.mask.getD (t / 8) 0).toNat / 2 ^ (t % 8) % 2 == 1)

/-- The bias entries added in list order (R322). -/
def applyBias (l : List Nat) (bs : List (Nat × Nat)) : List Nat :=
  bs.foldl (fun l b => l.modify b.1 (fun x => addF32 x (b.2 * 65536))) l

/-- The repetition penalty on one logit (R322); `rp` in F32. -/
def penalise (rp x : Nat) : Nat := if gtF32 x 0 then mulF32 x (rcpF32 rp) else mulF32 x rp

/-- The logits after NaN, bias, mask and repetition penalty (R322). `hist` is the token history. -/
def prepared (p : SampleParams) (hist : List Nat) (pos : Nat) (logits : List Nat) : List Nat :=
  let l := applyBias (logits.map cleanNan) p.biases
  let l := l.mapIdx (fun t x => if allowed p t then x else negInf)
  let win := ((hist.take pos).drop (pos - p.repWindow)).dedup
  let l := if p.repPenalty = 0x3F80 then l
    else win.foldl (fun l t => l.modify t (penalise (p.repPenalty * 65536))) l
  l.map cleanNan

/-- The largest logit. -/
def maxF32 (l : List Nat) : Nat := l.foldl (fun m x => if gtF32 x m then x else m) negInf

/-- The index of the largest, the lowest index winning ties. -/
def argmaxF32 (l : List Nat) : Nat :=
  (l.foldl (fun (a : Nat × Nat × Nat) x => if gtF32 x a.2.1 || a.1 == 0 then (a.1 + 1, x, a.1) else (a.1 + 1, a.2.1, a.2.2))
    (0, negInf, 0)).2.2

/-- The sum in the order given, each addition rounded. -/
def sumF32 (l : List Nat) : Nat := l.foldl addF32 0

/-- The lowest token the mask allows among the first `n` from `t` on. -/
def lowestAllowed (p : SampleParams) : Nat → Nat → Nat
  | 0, t => t
  | n + 1, t => if allowed p t then t else lowestAllowed p n (t + 1)

/-- Kept tokens of the top-p rule: tokens in rank order until the running sum reaches top_p. -/
def topPKeep (topP : Nat) : Nat → List (Nat × Nat) → List (Nat × Nat)
  | _, [] => []
  | acc, (t, q) :: r =>
    let acc := addF32 acc q
    if geF32 acc topP then [(t, q)] else (t, q) :: topPKeep topP acc r

/-- The draw: the first token whose running sum exceeds the target, else the largest token. -/
def drawToken (target : Nat) : Nat → List (Nat × Nat) → Nat → Nat
  | _, [], last => last
  | acc, (t, q) :: r, _ =>
    let acc := addF32 acc q
    if gtF32 acc target then t else drawToken target acc r t

/-- Rank by higher value, then lower token. -/
def rankBefore (a b : Nat × Nat) : Bool := gtF32 a.2 b.2 || (!gtF32 b.2 a.2 && decide (a.1 ≤ b.1))

/-- Ascending token. -/
def byToken (l : List (Nat × Nat)) : List (Nat × Nat) := l.mergeSort (fun a b => decide (a.1 ≤ b.1))

/-- The token drawn from the prepared logits at a temperature that is not greedy (R322). `e` are the
exponentials. -/
def drawn (p : SampleParams) (pos : Nat) (l e : List Nat) : Nat :=
  let ranked := ((List.range l.length).zip l).mergeSort rankBefore
  let kept := if p.topK = 0xFFFF then ranked else ranked.take p.topK
  let k := byToken (kept.map (fun x => (x.1, e.getD x.1 0)))
  let r := rcpF32 (sumF32 (k.map (·.2)))
  let q := k.map (fun x => (x.1, mulF32 x.2 r))
  let lim := mulF32 (p.minP * 65536) (maxF32 (q.map (·.2)))
  let q := q.filter (fun x => !gtF32 lim x.2)
  let q := if p.topP = 0x3F80 then q else byToken (topPKeep (p.topP * 65536) 0 (q.mergeSort rankBefore))
  let u := FloatShape.f32.roundIeee false (philoxU p.seed pos)
  drawToken (mulF32 u (sumF32 (q.map (·.2)))) 0 q 0

/-- The sample at position `pos` (R322). `v` is the vocabulary. -/
def sample (p : SampleParams) (v : Nat) (hist : List Nat) (pos : Nat) (logits : List Nat) : Sampled :=
  let l := prepared p hist pos (logits.take v)
  let m := maxF32 l
  if m = negInf then ⟨lowestAllowed p v 0, none⟩
  else
    let temp := if f32 (p.temperature * 65536) = f32 0 ∨ p.temperature = 0x8000 then 0x3F800000 else p.temperature * 65536
    let c := mulF32 0x3FB8AA3B (rcpF32 temp)
    let z := l.map (fun x => mulF32 (subF32 x m) c)
    let e := z.map exp2Bits
    let greedy := p.temperature % 0x8000 = 0
    let tok := if greedy then argmaxF32 l else drawn p pos l e
    let lp := FloatShape.b16.encode (f32 (mulF32 (subF32 (z.getD tok 0) (log2Bits (sumF32 e))) 0x3F317218))
    ⟨tok, if p.logprob then some lp else none⟩

/-- The accepted count (R324): 1 plus the leading guesses that the samples confirm. -/
def acceptedCount : List Nat → List Nat → Nat
  | s :: ss, g :: gs => if s = g then 1 + acceptedCount ss gs else 1
  | _, _ => 1

end Sys2Proof.Machine
end

