-- ==== Sys2Proof/Machine/Streams.lean ====
section
/-! DEFINITION. Streams, moorings and conversations (R285 to R341) as operations that the serving
commands share. -/

namespace Sys2Proof.Machine

def getSt (s : State) (e : Nat) : Option Stream := kget? s.serve.streams e
def setSt (s : State) (e : Nat) (x : Stream) : State :=
  { s with serve := { s.serve with streams := kset s.serve.streams e x } }
def adjSt (s : State) (e : Nat) (f : Stream → Stream) : State :=
  { s with serve := { s.serve with streams := kadj s.serve.streams e f } }
def getForme (s : State) (f : Nat) : Option Forme := kget? s.formes f
def setForme (s : State) (f : Nat) (x : Forme) : State := { s with formes := kset s.formes f x }
def adjForme (s : State) (f : Nat) (g : Forme → Forme) : State := { s with formes := kadj s.formes f g }

/-- Terminal: DONE, CANCELLED or EXPIRED (R306). -/
def Stream.ended (x : Stream) : Bool := decide (5 ≤ x.state)
/-- Admitted and not terminal (R343). -/
def Stream.live (x : Stream) : Bool := decide (1 ≤ x.state ∧ x.state ≤ 4)

/-! ### Fields of a GENERATE record (R297, R298) -/

def genFlag (rec : List Byte) (b : Nat) : Bool := leAt rec 1 1 / 2 ^ b % 2 == 1
def genHold (rec : List Byte) : Bool := genFlag rec 0
def genLogprob (rec : List Byte) : Bool := genFlag rec 1
def genDense (rec : List Byte) : Bool := genFlag rec 2
def genNoProof (rec : List Byte) : Bool := genFlag rec 3
def genNoPrefix (rec : List Byte) : Bool := genFlag rec 4
def genPublic (rec : List Byte) : Bool := genFlag rec 5
def genMooring (rec : List Byte) : Nat := leAt rec 4 2
def genConv (rec : List Byte) : Nat := leAt rec 8 8
def genPromptAddr (rec : List Byte) : Nat := leAt rec 16 8
def genPromptLen (rec : List Byte) : Nat := leAt rec 24 4
def genMaxNew (rec : List Byte) : Nat := leAt rec 28 4
def genTopK (rec : List Byte) : Nat := leAt rec 42 2
def genTopP (rec : List Byte) : Nat := leAt rec 44 2
def genMinP (rec : List Byte) : Nat := leAt rec 46 2
def genExtAddr (rec : List Byte) : Nat := leAt rec 48 8
def genTtl (rec : List Byte) : Nat := leAt rec 56 4
def genForme (rec : List Byte) : Nat := leAt rec 60 1
def extRep (x : List Byte) : Nat := if x = [] then 0x3F80 else leAt x 0 2
def extOverlays (x : List Byte) : List Nat := (List.range (leAt x 2 2)).map (fun i => leAt x (8 + 4 * i) 2)
def extBiases (x : List Byte) : List (Nat × Nat) :=
  (List.range (leAt x 24 2)).map (fun i => (leAt x (104 + 8 * i) 4, leAt x (108 + 8 * i) 2))
def extStops (x : List Byte) : List Nat := (List.range (leAt x 26 2)).map (fun i => leAt x (40 + 4 * i) 4)
def extMaskAddr (x : List Byte) : Nat := leAt x 32 8

/-- The sampling parameters of a stream. -/
def Stream.params (x : Stream) : SampleParams :=
  { temperature := leAt x.cmd 40 2, topK := genTopK x.cmd, topP := genTopP x.cmd, minP := genMinP x.cmd
    seed := leAt x.cmd 32 8, logprob := genLogprob x.cmd, repPenalty := extRep x.ext
    repWindow := leAt x.ext 4 4, biases := extBiases x.ext, mask := x.mask, masked := extMaskAddr x.ext != 0 }

def Stream.forme (x : Stream) : Nat := genForme x.cmd
def Stream.tenant (x : Stream) : Nat := tenantOf x.cmd
def Stream.mooring (x : Stream) : Nat := genMooring x.cmd

/-- The stream that a stamp's request index belongs to. -/
def streamOfReq (s : State) (req : Nat) : Option (Nat × Stream) :=
  s.serve.streams.find? (fun e => e.2.req == some req && !e.2.ended)

/-! ### Steps and pipeline slots (R285 to R288) -/

/-- The chase clock now, MHz. -/
def clkNow (s : State) (n : Nat) : Nat := getF s Reg.CPW_CLK_NOW n

/-- The chases that hold a layer. -/
def layerChases (f : Forme) (l : Nat) : List Nat := ((f.parts.filter (fun p => p.live && p.layer == l)).map (·.chase)).dedup

/-- Nanoseconds of `c` cycles at the lowest clock of a layer's chases. -/
def layerNs (s : State) (f : Forme) (l c : Nat) : Rat :=
  (c : Rat) * 1000 / (((layerChases f l).map (clkNow s)).min?.getD 0 : Nat)

/-- The largest SCHED_LEN of a layer's parts. -/
def layerSched (f : Forme) (l : Nat) : Nat := ((f.parts.filter (fun p => p.layer == l)).map (·.schedLen)).foldl max 0

/-- The beat in nanoseconds (R286). -/
def beatNs (s : State) (f : Forme) : Rat :=
  ((List.range (imgLayers f.image)).map (fun l => layerNs s f l (layerSched f l))).foldl max 0

/-- The first figure of the path time (R287): the sum over the layers of the layer length of the chosen layout. -/
def pathNs (s : State) (f : Forme) : Rat :=
  ((List.range (imgLayers f.image)).map (fun l => layerNs s f l (layerLen f.image l (f.layouts.getD l 0)))).sum

/-- D and C as they follow from T now: D = ⌈T / beat⌉ and C = D × beat, in nanoseconds (R287). -/
def Forme.fixFigures (s : State) (f : Forme) : Forme :=
  let d := (f.tNs / beatNs s f).ceil.toNat
  { f with cyclesD := d, cycleNs := (d : Rat) * beatNs s f }

/-- P = D × B (R287). -/
def slotsP (f : Forme) : Nat := f.cyclesD * imgB f.image

/-- k of R313, with `d` in microseconds and `r` in steps per second. -/
def periodOf (s : State) (f : Forme) (r d : Nat) : Nat :=
  let c := f.cycleNs
  let m : Rat := 1 + (getF s Reg.SRV_SLIP_MARGIN 0 : Rat) / 100
  min 256 (min ((d : Rat) * 1000 / (c * m)).floor.toNat (1000000000 / ((r : Rat) * c)).floor.toNat)

/-- The reservation of a mooring in slots (R313). -/
def Mooring.slots (m : Mooring) : Rat := (m.streams : Rat) / (m.period : Rat)

/-- The reservations on a forme, without mooring `but` (R314). -/
def reserved (s : State) (f but : Nat) : Rat :=
  ((s.serve.moorings.filter (fun m => m.2.forme == f && m.1 != but)).map (fun m => m.2.slots)).sum

/-- `SRV.F_RESERVED` in 1/256 slot, and the figures of R287 (R343). -/
def reportForme (s : State) (fi : Nat) : State :=
  match getForme s fi with
  | some f =>
    let s := setF s Reg.SRV_F_SLOTS (slotsP f) fi
    let s := setF s Reg.SRV_F_CYCLE_NS f.cycleNs.floor.toNat fi
    let s := setF s Reg.SRV_F_RESERVED (reserved s fi 0 * 256).floor.toNat fi
    let s := setF s Reg.SRV_F_SHAPE_B (imgB f.image) fi
    let s := setF s Reg.SRV_F_SHAPE_H (imgH f.image) fi
    let s := setF s Reg.SRV_F_SHAPE_L (imgL f.image) fi
    setF s Reg.SRV_F_VOCAB f.vocab fi
  | none =>
    [Reg.SRV_F_SLOTS, Reg.SRV_F_CYCLE_NS, Reg.SRV_F_RESERVED, Reg.SRV_F_SHAPE_B, Reg.SRV_F_SHAPE_H,
      Reg.SRV_F_SHAPE_L, Reg.SRV_F_VOCAB].foldl (fun s r => setF s r 0 fi) s

/-! ### Slots of moored streams (R288, R316, R319) -/

/-- A binding: a pipeline slot, one cycle in every period, and the period. -/
structure Binding where
  slot : Nat
  cycle : Nat
  period : Nat
  deriving DecidableEq, Repr

/-- Two bindings meet in some cycle of a slot. -/
def Binding.clash (a b : Binding) : Bool :=
  a.slot == b.slot && a.cycle % Nat.gcd a.period b.period == b.cycle % Nat.gcd a.period b.period

/-- The binding of a moored stream. -/
def Stream.binding (x : Stream) : Binding := ⟨x.slot, x.turn % x.period, x.period⟩

/-- The load of a slot: Σ 1 / period. -/
def slotShare (bs : List Binding) (p : Nat) : Rat := ((bs.filter (fun b => b.slot == p)).map (fun b => 1 / (b.period : Rat))).sum

/-- A binding with period `k` in one of `p` slots from cycle `now` on: the first whose cycles no other binding takes; where
every cycle meets another, the least loaded slot (DESIGN CHOICE, log entry 22). -/
def pickBinding (bs : List Binding) (p k now : Nat) : Binding :=
  match (List.range p).findSome? (fun i => ((List.range k).map (fun j => (⟨i, (now + j) % k, k⟩ : Binding))).find? (fun b =>
      !(bs.any (fun x => x.clash b)))) with
  | some b => b
  | none => ⟨((List.range p).mergeSort (fun a b => decide (slotShare bs a ≤ slotShare bs b))).headD 0, now % k, k⟩

/-- The first cycle from `now` on that a binding takes. -/
def Binding.next (b : Binding) (now : Nat) : Nat := now + (b.cycle + b.period - now % b.period) % b.period

/-- The bindings of the live moored streams of a forme. -/
def bindings (s : State) (fi : Nat) : List Binding :=
  (s.serve.streams.filter (fun e => e.2.live && e.2.forme == fi && e.2.mooring != 0)).map (fun e => e.2.binding)

/-- The slot cycle that a forme's waves have reached. -/
def Forme.cycleNow (f : Forme) : Nat := f.waves / f.cyclesD

/-- A stream bound to a slot at its period from the present cycle on (R319). -/
def Stream.bindTo (x : Stream) (bs : List Binding) (f : Forme) : Stream :=
  let b := pickBinding bs (slotsP f) x.period f.cycleNow
  { x with slot := b.slot, turn := b.next f.cycleNow }

/-- The live moored streams of a forme bound anew, in the order of their entries (R318). -/
def rebindForme (s : State) (fi : Nat) (f : Forme) : State :=
  (s.serve.streams.foldl (fun (x : State × List Binding) e =>
    if e.2.live && e.2.forme == fi && e.2.mooring != 0 then
      let y := e.2.bindTo x.2 f
      ({ x.1 with serve := { x.1.serve with streams := kset x.1.serve.streams e.1 y } }, x.2 ++ [y.binding])
    else x) (s, [])).1

/-- The periods of a forme's moorings and their live streams after C has changed (R318): a period
below 1 becomes 1 and the mooring is unmet; the streams are bound at their new periods. -/
def repriceForme (s : State) (fi : Nat) : State :=
  match getForme s fi with
  | some f =>
    let upd := fun (m : Mooring) =>
      if m.forme = fi then
        let k := periodOf s f m.rate m.itl
        { m with period := max 1 k, unmet := decide (k < 1) }
      else m
    let ms := s.serve.moorings.map (fun m => (m.1, upd m.2))
    let s := { s with serve := { s.serve with
      moorings := ms
      streams := s.serve.streams.map (fun e =>
        (e.1, if e.2.live && e.2.forme == fi && e.2.mooring != 0 then
            { e.2 with period := ((kget? ms e.2.mooring).map (·.period)).getD e.2.period }
          else e.2)) } }
    reportForme (rebindForme s fi f) fi
  | none => reportForme s fi

/-- T fixed anew (R287): stage 1 now, stage 2 by the next 64 steps; D, C and P follow. -/
def refixForme (s : State) (fi : Nat) : State :=
  repriceForme (adjForme s fi (fun f =>
    ({ f with tNs := pathNs s f, timed := 0, minT := 0, fixedAt := s.lampTime } : Forme).fixFigures s)) fi

/-- The formes with a live part in chase `n`. -/
def livePartFormes (s : State) (n : Nat) : List Nat :=
  (s.formes.filter (fun f => f.2.parts.any (fun p => p.live && p.chase == n))).map (·.1)

/-- T fixed anew for every forme with a part in a chase whose clock limit changed (R287). -/
def refixChase (s : State) (n : Nat) : State :=
  (livePartFormes s n).foldl refixForme s

/-- One more timed step of the 64 of R287, launched at `t0`; after the 64th the shortest is T, and D, C and P follow. A step
launched before the placement or change is none of them. -/
def timeStep (s : State) (fi launched : Nat) : State :=
  match getForme s fi with
  | some f =>
    if 64 ≤ f.timed ∨ launched < f.fixedAt then s
    else
      let d : Rat := (s.lampTime - launched : Nat)
      let m := if f.timed = 0 then d else min f.minT d
      let g : Forme := { f with timed := f.timed + 1, minT := m }
      if f.timed + 1 = 64 then repriceForme (setForme s fi (({ g with tNs := m } : Forme).fixFigures s)) fi
      else setForme s fi g
  | none => s

/-! ### Formes -/

/-- A forme index holds a resident forme (R375). -/
def resident (s : State) (fi : Nat) : Bool := decide (getF s Reg.LOAD_F_STATE fi ∈ [2, 3, 4])

/-- The forme stands at a barrier (R366, R372, R374). -/
def atBarrier (s : State) (fi : Nat) : Bool :=
  getF s Reg.LOAD_F_STATE fi == 4 || (getForme s fi).any (fun f => !f.rewrite.isEmpty)
    || ((getForme s fi).any (fun f => f.repl.any (fun r => (r.staged && r.policy == 1) || r.swapping)))

/-- DRAIN has been staged: new requests stay QUEUED (R365). -/
def draining (s : State) (fi : Nat) : Bool := (getForme s fi).any (fun f => f.repl.any (fun r => r.staged && r.policy == 0))

/-- A recovery holds the forme (R390, steps 1 to 7). -/
def recovering (s : State) (fi : Nat) : Bool := s.faults.recoveries.any (fun r => r.formes.contains fi && r.phase != .replaying)

/-- The module is out of retention (R435, R436). -/
def awake (s : State) : Bool := getF s Reg.PWR_RETAIN_STAT_STATE 0 == 0 && s.partner.sending.isNone

/-! ### Usage (R341) -/

/-- A pair of mooring and tenant in which nothing has happened. -/
def UsagePair.empty (m t : Nat) : UsagePair := ⟨m, t, 0, 0, 0, 0, 0, 0, 0, []⟩

/-- A pair of mooring and tenant changed by `f`, in a list of pairs. -/
def modPair (l : List UsagePair) (m t : Nat) (f : UsagePair → UsagePair) : List UsagePair :=
  if l.any (fun p => p.mooring == m && p.tenant == t) then
    l.map (fun p => if p.mooring = m ∧ p.tenant = t then f p else p)
  else l ++ [f (UsagePair.empty m t)]

/-- Activity of a stream's mooring and tenant. -/
def use (s : State) (x : Stream) (f : UsagePair → UsagePair) : State :=
  { s with tele := { s.tele with pairs := modPair s.tele.pairs x.mooring x.tenant f } }

/-! ### Versions (R271, R274, R278) -/

/-- The ACTIVE slot of an overlay number that a tenant may name: its own, else a PUBLIC one. -/
def overlaySlot (s : State) (fi tenant num : Nat) : Option Nat :=
  let ok := fun (x : Slot) => x.st == .active && !x.isVariant && x.forme == fi && x.number == num
  ((s.slots.find? (fun x => ok x.2 && x.2.tenant == tenant)).map (·.1))
    <|> ((s.slots.find? (fun x => ok x.2 && x.2.pub)).map (·.1))

/-- The ACTIVE variant of a tenant (R271). -/
def variantSlot (s : State) (fi tenant : Nat) : Option Nat :=
  (s.slots.find? (fun x => x.2.st == .active && x.2.isVariant && x.2.forme == fi && x.2.tenant == tenant)).map (·.1)

/-- The version in a slot. -/
def versionAt (s : State) (k : Nat) : Nat := ((kget? s.slots k).map (·.version)).getD 0
/-- The overlay number and version in a slot. -/
def overlayAt (s : State) (k : Nat) : Nat × Nat := ((kget? s.slots k).map (fun x => (x.number, x.version))).getD (0, 0)

/-- The version in a slot with its owner, 0 for a PUBLIC overlay: what tells two versions of one number apart. -/
def versionKey (s : State) (k : Nat) : Nat :=
  ((kget? s.slots k).map (fun x => (if x.pub then 0 else x.tenant) * 65536 + x.version)).getD 0

/-- The pinned overlays, each as its owner, number and version in one number, in ascending order (R279). -/
def overlayKeys (s : State) (ks : List Nat) : List Nat :=
  (ks.map (fun k => versionKey s k / 65536 * 2 ^ 32 + (overlayAt s k).1 * 65536 + (overlayAt s k).2)).mergeSort

/-- A pin taken. -/
def pinSlot (s : State) (k : Nat) : State := { s with slots := kadj s.slots k (fun x => { x with pins := x.pins + 1 }) }

/-- A pin given up: a RETIRING slot without pins goes to SCRUBBING (R275). -/
def unpinSlot (s : State) (k : Nat) : State :=
  { s with slots := kadj s.slots k (fun x =>
      { x with pins := x.pins - 1, st := if x.st = .retiring ∧ x.pins ≤ 1 then .scrubbing else x.st }) }

/-- Pins of a stream: variant, then overlays. -/
def Stream.pinned (x : Stream) : List Nat := x.variant.toList ++ x.overlays

/-- The pinned versions with their owners in ascending overlay number, a variant first under number 0 (log entry 19). -/
def Stream.versions (s : State) (x : Stream) : List (Nat × Nat) :=
  (x.variant.toList.map (fun k => (0, versionKey s k)))
    ++ ((x.overlays.map (fun k => ((overlayAt s k).1, versionKey s k))).mergeSort (fun a b => decide (a.1 ≤ b.1)))

/-! ### Conversations (R337 to R340) -/

def findConv (s : State) (tenant handle : Nat) : Option Conv :=
  s.serve.convs.find? (fun c => c.tenant == tenant && c.handle == handle)
def modConv (s : State) (tenant handle : Nat) (f : Conv → Conv) : State :=
  { s with serve := { s.serve with
      convs := s.serve.convs.map (fun c => if c.tenant = tenant ∧ c.handle = handle then f c else c) } }
def dropConv (s : State) (tenant handle : Nat) : State :=
  { s with serve := { s.serve with convs := s.serve.convs.filter (fun c => !(c.tenant == tenant && c.handle == handle)) } }

/-- Gives up one holder of the shared galleys (R246). -/
def dropHolder (s : State) (h : Nat) : State :=
  (galleysWhere s (fun g => g.holders.contains h)).foldl (fun s g =>
    releaseGalley (adjG s g (fun x => { x with holders := x.holders.erase h })) g) s

/-- Frees the galleys of an owner; those the tree or another stream holds pass to the tree (R246, R250). -/
def freeOwned (s : State) (o : Owner) : State :=
  (galleysWhere s (fun g => g.owner == o)).foldl (fun s g =>
    match getG s g with
    | some x =>
      if x.holders = [] ∧ x.tree = 0 then freeGalley s g else setG s g { x with owner := .tree }
    | none => s) s

/-- Frees a conversation with its galleys (R339, R340). -/
def freeConv (s : State) (tenant handle : Nat) : State :=
  let s := freeOwned s (.conv tenant handle)
  let s := dropHolder s (convHolder tenant handle)
  evictAll (dropConv s tenant handle)

/-! ### Galleys in T0 (R240, R241, R245) -/

/-- The live streams that attend to a galley (R246). -/
def usersOf (s : State) (x : Galley) : List (Nat × Stream) :=
  s.serve.streams.filter (fun e => e.2.live && (x.owner == .stream e.1 || x.holders.contains e.1))

/-- The galley lies in a stream's window, in its fetch slots, or a pass of it in flight names it (R240, R241); a staging
region of a DENSE stream is free once the leaf is complete (R244). -/
def keepsT0 (s : State) (g : Nat) (x : Galley) (e : Nat) (y : Stream) : Bool :=
  let a := (getForme s x.forme).bind (fun f => attnOf f.image x.layer)
  decide (y.vlen / 256 ≤ x.index + windowOf s x.forme x.layer)
    || s.kv.fetch.any (fun z => z.stream == e && z.galley == g)
    || (y.step.isSome && (s.kv.picks.any (fun z => z.stream == e && z.layer == x.layer && z.group == x.group
          && z.galleys.contains x.index)
        || (a.any (fun a => a.dense (genDense y.cmd)) && !s.kv.leafs.contains g)))

/-- A RESIDENT galley that no stream keeps in T0 is spilled (R241), or leaves T0 with its paused conversation (R245). -/
def restGalley (s : State) (g : Nat) : State :=
  match getG s g with
  | some x =>
    let us := usersOf s x
    let away := match us, x.owner with
      | [], .conv _ _ => GalleyState.paused
      | _, _ => GalleyState.spilled
    if x.st = .resident ∧ us.all (fun y => !keepsT0 s g x y.1 y.2) then dropT0 s g away
    else if x.st = .spilled then setG s g { x with st := away } else s
  | none => s

/-- Every galley that may leave T0 now does (R240, R241). -/
def restGalleys (s : State) : State :=
  (galleysWhere s (fun x => x.st == .resident || x.st == .spilled)).foldl restGalley s

/-- The pass of stream `e` has ended: what it named it names no more (R240). -/
def endPass (s : State) (e : Nat) (x : Stream) : State :=
  let s := modKv s (fun k => { k with
    picks := k.picks.filter (fun p => p.stream != e)
    brought := k.brought.filter (fun b => b.1 != e)
    leafs := k.leafs.filter (fun g => !(kget? k.galleys g).any (fun y => y.owner == .stream e || y.holders.contains e)) })
  { s with
    cold := s.cold.map (fun c => { c with selected := c.selected.filter (fun y => some y.req != x.req) })
    outliers := s.outliers.filter (fun y => some y.req != x.req) }

/-- A galley of a stream that pauses at VLEN `v` (R224, R245): a stick becomes a partial galley; what lies beyond `v` is
freed; a PENDING galley stays until its writes are acknowledged, and one that another stream's pass names until that
completes. -/
def pauseGalley (s : State) (o : Owner) (v g : Nat) : State :=
  match getG s g with
  | some x =>
    if v ≤ 256 * x.index then
      (if x.holders = [] ∧ x.tree = 0 then freeGalley s g else setG s g { x with owner := .tree })
    else
      let y := { x with owner := o, length := min 256 (v - 256 * x.index) }
      match x.st with
      | .composing => dropT0 (copyToT1 (setG s g { y with req := none }) g) g .paused
      | .fetching =>
        if (usersOf s y).all (fun z => !keepsT0 s g y z.1 z.2) then dropT0 (setG s g y) g .spilled else setG s g y
      | .pending | .resident | .spilled | .paused | .host | .free => setG s g y
  | none => s

/-- The galleys of a stream pass to its paused conversation. -/
def pauseGalleys (s : State) (e tenant handle v : Nat) : State :=
  let o := Owner.conv tenant handle
  let s := (galleysWhere s (fun g => g.owner == .stream e)).foldl (fun s g => pauseGalley s o v g) s
  restGalleys <| modKv s (fun k => { k with
    fetch := k.fetch.filter (fun x => x.stream != e)
    galleys := k.galleys.map (fun g =>
      (g.1, { g.2 with holders := g.2.holders.map (fun h => if h = e then convHolder tenant handle else h) })) })

/-- The prompt of the stream's request enters the prefix tree (R335): the request began at position 0, resumed no
conversation, and no new weight version met it on its way (the keys hold one version only). -/
def Stream.inserts (x : Stream) : Bool := x.start == 0 && (genConv x.cmd == 0 || x.created) && !x.everCrossed

/-- `n` block nodes of the stream's prompt from block `b` on, held by the galleys `gs` (R333, R335). -/
def promptNodes (s : State) (x : Stream) (f : Forme) (gs : List Nat) (b n : Nat) : List PrefixNode :=
  let scope := if genPublic x.cmd then publicScope else x.tenant
  blockNodes s.lampTime (rootKey scope f.image f.ident (x.versions s) (genDense x.cmd)) x.tokens (genPublic x.cmd) x.tenant
    x.forme gs b n

/-- The four block nodes of the stream's galley `i`, where every position of it is one of the prompt (R335). -/
def galleyNodes (s : State) (x : Stream) (i : Nat) (gs : List Nat) : List PrefixNode :=
  match getForme s x.forme with
  | some f => if x.inserts ∧ 256 * (i + 1) ≤ x.known then promptNodes s x f gs (4 * i) 4 else []
  | none => []

/-- Inserts the whole 64-position blocks of a prefill-only request's last partial galley (R335). -/
def insertTail (s : State) (e : Nat) (x : Stream) : State :=
  match getForme s x.forme with
  | some f =>
    let part := x.vlen % 256
    let n := part / 64
    if n = 0 ∨ !x.inserts ∨ (kvPlaces f.image) = [] then s
    else
      let gs := sticksOf s e
      let s := gs.foldl (fun s g =>
        match getG s g with
        | some y => dropT0 (copyToT1 (setG s g { y with owner := .tree, length := 64 * n, index := x.vlen / 256, req := none }) g) g .paused
        | none => s) s
      insertNodes s (promptNodes s x f gs (4 * (x.vlen / 256)) n)
  | none => s

/-- The prompt galleys of a request that is DONE and that are still PENDING stay for the prefix tree, which takes them when
they are RESIDENT (R11, R335). -/
def keepLate (s : State) (e : Nat) : State :=
  (galleysWhere s (fun g => g.owner == .stream e && g.late != [])).foldl (fun s g => adjG s g (fun y => { y with owner := .tree })) s

/-- Galleys handed to the tree that no node took are freed again. -/
def sweepTree (s : State) : State :=
  (galleysWhere s (fun g => g.owner == .tree)).foldl releaseGalley s

/-- A mooring that has been cleared goes with its last live stream (R315). -/
def sweepMoorings (s : State) : State :=
  let busy := fun (m : Nat) => s.serve.streams.any (fun e => e.2.mooring == m && e.2.live)
  let gone := s.serve.moorings.filter (fun m => m.2.cleared && !busy m.1)
  let s := { s with serve := { s.serve with moorings := s.serve.moorings.filter (fun m => !(m.2.cleared && !busy m.1)) } }
  gone.foldl (fun s m => reportForme s m.2.forme) s

/-! ### The terminal record (R306 to R308) -/

/-- Flag bits of a completion record (R304). -/
def flCancelLate : Nat := 1
def flFormeFault : Nat := 2
def flCrossed : Nat := 4
def flHeld : Nat := 8
def flStopped : Nat := 16
def flContextEnd : Nat := 32
def flMax : Nat := 64

/-- The VLEN at which a conversation pauses (R331, R337): the KV of the last delivered token, the pending one, is not kept;
after a cancellation the sticks are freed, and what they held with them (R225). -/
def pauseLen (x : Stream) (cancelled : Bool) : Nat :=
  let v := if x.delivered = 0 then x.vlen else min x.vlen (x.tokens.length - 1)
  if cancelled then v - v % 256 else v

/-- The token history that a conversation keeps (R331, R337): to the last delivered token; where this request delivered none,
the history from before it, and so much of its prompt as the kept KV covers. -/
def keptTokens (x : Stream) (v : Nat) : List Nat :=
  if x.delivered = 0 then x.tokens.take (max (x.known - genPromptLen x.cmd) v) else x.tokens

/-- The conversation of an ending request, and whether its record carries HELD (R331, R337, R338). A conversation that its
creating request never came to hold pauses empty. -/
def settleConv (s : State) (e : Nat) (x : Stream) (cancelled keep : Bool) : State × Bool :=
  let t := x.tenant
  let h := genConv x.cmd
  match findConv s t h with
  | some c =>
    let stays := keep && genHold x.cmd && genTtl x.cmd != 0
    let pause := fun (c : Conv) => { c with
      claimed := none, held := false, paused := true, pausedAt := s.lampTime, ttl := genTtl x.cmd, queue := x.queue }
    if c.claimed ≠ some e then (s, false)
    else if ¬ x.live then
      if ¬ x.created then (modConv s t h (fun c => { c with claimed := none }), false)
      else if stays then (modConv s t h pause, true) else (freeConv s t h, false)
    else if stays then
      let v := pauseLen x cancelled
      let s := pauseGalleys s e t h v
      let wrote := decide (x.start < x.vlen) || c.vlen == 0
      (modConv s t h (fun c =>
        let c := { pause c with forme := x.forme, tokens := keptTokens x v, vlen := v }
        if wrote then
          { c with ident := x.ident, variant := x.variant.map (versionAt s), overlays := overlayKeys s x.overlays }
        else c), true)
    else (freeConv s t h, false)
  | none => (s, false)

/-- A request ends: conversation, sticks, galleys, pins, usage, its one terminal record, and with it the
CANCELs that wait for it (R306 to R308, R225, R330, R337). `live` is the stream before it ends. -/
def endStream (s : State) (e status state flags : Nat) (keep : Bool := true) : State :=
  match getSt s e with
  | none => s
  | some x =>
    if x.ended then s
    else
      let wasLive := x.live
      let (s, held) := settleConv s e x (state == 6) keep
      let done := wasLive && status == 0 && state == 5
      let s := if done && decide (genMaxNew x.cmd = 0) && (!genHold x.cmd || genConv x.cmd == 0) then insertTail s e x else s
      let s := if done then keepLate s e else s
      let s := freeOwned (endPass s e x) (.stream e)
      let s := evictAll (sweepTree (dropHolder s e))
      let s := restGalleys (modKv s (fun k => { k with fetch := k.fetch.filter (fun y => y.stream != e) }))
      let s := x.pinned.foldl unpinSlot s
      let s := adjSt s e (fun x => { x with
        state := state, step := none, holdRing := false, holdBarrier := false, holdRecovery := false, variant := none, overlays := [] })
      let s := sweepMoorings s
      let s := if state = 6 then use s x (fun p => { p with cancelled := p.cancelled + 1 })
        else if state = 5 then use s x (fun p => { p with done := p.done + 1 }) else s
      let s := if wasLive && x.mooring != 0 && status / 4096 == 2 then addF (addF s Reg.ERR_STREAM_MIN 1 0) Reg.ERR_FAULT_MIN 1 0 else s
      let fl := flags ||| (if held then flHeld else 0) ||| (if x.everCrossed then flCrossed else 0)
      respond s x.queue
        ⟨complBytes status fl state (cidOf x.cmd) (x.req.getD 0) x.delivered s.lampTime x.prefixHit x.tenant 0x02, some e⟩

/-- A cancelled request's end (R331). -/
def cancelStream (s : State) (e : Nat) : State := endStream s e Sts.REQ_CANCELLED 6 0

/-! ### Request indices (R147, R310) -/

/-- The request index of a stamp (R145). -/
def stampReq (st : Word64) : Nat := st.toNat / 2 ^ 44
def stampPos (st : Word64) : Nat := st.toNat / 2 ^ 20 % 2 ^ 24
def stampLayer (st : Word64) : Nat := st.toNat / 2 ^ 12 % 2 ^ 8
def stampPart (st : Word64) : Nat := st.toNat % 2 ^ 12
/-- A stamp (R145). -/
def mkStamp (req pos layer part : Nat) : Nat :=
  req % 2 ^ 20 * 2 ^ 44 + pos % 2 ^ 24 * 2 ^ 20 + layer % 2 ^ 8 * 2 ^ 12 + part % 2 ^ 12

/-- The request indices that are not free (R147). -/
def usedReqs (s : State) : List Nat :=
  s.serve.streams.filterMap (fun e => e.2.req)
    ++ s.fabric.map (fun f => stampReq f.flit.stamp)
    ++ s.rim.map (fun f => stampReq f.flit.stamp)
    ++ s.cores.flatMap (fun c => c.2.park.map (fun p => stampReq p.flit.stamp) ++ c.2.inbox.map (fun x => stampReq x.flit.stamp)
        ++ c.2.txWait.map (fun f => stampReq f.stamp) ++ c.2.wbuf.map (fun w => w.stamp / 2 ^ 44))
    ++ s.kv.galleys.filterMap (fun g => if g.2.st = .composing ∨ g.2.st = .pending then g.2.req else none)

/-- The lowest number from `i` on that a list does not hold. -/
def lowestFree (l : List Nat) : Nat → Nat → Nat
  | 0, i => i
  | n + 1, i => if i ∈ l then lowestFree l n (i + 1) else i

/-- The lowest free request index (R310). -/
def nextReq (s : State) : Nat := lowestFree (usedReqs s) (usedReqs s).length 0

/-! ### Space for a step (R294) -/

/-- The proof count of the stream's next step (R325, R218). -/
def proofCount (s : State) (x : Stream) : Nat :=
  let h := ((getForme s x.forme).map (fun f => imgH f.image)).getD 0
  if x.vlen < x.known ∨ x.vlen < x.replayTo then 0 else min (min x.depth h) (255 - x.vlen % 256)

/-- The records that steps in flight on a queue may still write. -/
def stepSpace (s : State) (q : Nat) : Nat :=
  ((s.serve.streams.filter (fun e => e.2.queue == q)).map (fun e => match e.2.step with
    | some t => 2 + t.h
    | none => 0)).sum

/-- The response ring has room for the stream's next step. -/
def stepFits (s : State) (x : Stream) : Bool := decide (stepSpace s x.queue + 2 + proofCount s x ≤ rqFree s x.queue)

/-- A stream with its hold reasons settled (R306): HOLD while any holds, else the state it left. An ADMITTED stream has no way
to HOLD and stays as it is. -/
def settleHold (x : Stream) : Stream :=
  if ¬ x.live ∨ x.state = 1 then x
  else if x.holdRing || x.holdBarrier || x.holdRecovery then
    (if x.state = 4 then x else { x with state := 4, resume := x.state })
  else if x.state = 4 then { x with state := x.resume } else x

/-- RING holds that the ring's space has ended (R294). -/
def settleRing (s : State) (q : Nat) : State :=
  { s with serve := { s.serve with streams := s.serve.streams.map (fun e =>
      (e.1, if e.2.queue == q && e.2.holdRing && stepFits s e.2 then settleHold { e.2 with holdRing := false } else e.2)) } }

/-- Every live stream of a forme changed by `f`. -/
def mapForme (s : State) (fi : Nat) (f : Stream → Stream) : State :=
  { s with serve := { s.serve with streams := s.serve.streams.map (fun e =>
      (e.1, if e.2.live && e.2.forme == fi then f e.2 else e.2)) } }

/-! ### Replay records (R396) -/

/-- The durable length of a stream (R391). -/
def durableLen (s : State) (e : Nat) (f : Forme) (vlen : Nat) : Nat :=
  256 * durableGalleys s e (kvPlaces f.image).length (vlen / 256) 0

/-- A list of flags as bits, the first lowest. -/
def bitsNat : List Bool → Nat
  | [] => 0
  | b :: r => (if b then 1 else 0) + 2 * bitsNat r

/-- A stream's 256-byte replay record (R396). The addresses of the token history and the extension
copy are the implementation's (log entry 2). -/
def replayRecord (s : State) (e : Nat) (x : Stream) : List Byte :=
  let dlen := ((getForme s x.forme).map (fun f => durableLen s e f x.vlen)).getD 0
  let ovs := (x.overlays.map (fun k => (overlayAt s k).2)) ++ List.replicate 4 0
  let lps := x.lastLogprobs ++ List.replicate 9 0
  x.cmd ++ leBytes 4 (x.req.getD 0) ++ leBytes 2 x.queue ++ leBytes 1 x.state
    ++ leBytes 1 ((if x.cancels = [] then 0 else 1) + (if x.crossed then 2 else 0)
      + (if s.partner.handed.contains x.queue then 4 else 0))
    ++ leBytes 4 x.vlen ++ leBytes 4 dlen ++ leBytes 4 x.delivered ++ leBytes 4 x.rqNext ++ leBytes 8 (x.lastTime.getD 0)
    ++ leBytes 8 (Config.freeResult 0x0396 [e, 0]) ++ leBytes 8 (if x.ext = [] then 0 else Config.freeResult 0x0396 [e, 1])
    ++ leBytes 1 x.forme ++ [0, 0, 0] ++ leBytes 4 x.gen ++ leBytes 2 ((x.variant.map (versionAt s)).getD 0)
    ++ (ovs.take 4).flatMap (leBytes 2) ++ leBytes 1 x.depth ++ leBytes 1 x.lastCount ++ leBytes 4 x.proofSteps
    ++ leBytes 8 (bitsNat x.accepts) ++ (lps.take 9).flatMap (leBytes 2) ++ leBytes 8 (bitsNat x.reaches)
    ++ List.replicate 86 0

/-- Data mirrored to the partner while READY (R407). -/
def mirrorSend (s : State) (bs : List Byte) : State :=
  match (if partnerReady s then partnerPort s else none) with
  | some k => linkSend s k (linkMsg 0x20 0 bs)
  | none => s

/-- A replay record with the token history, the extension block and the mask (R396, R407); the messages' layout is not
given (log entry 30). -/
def streamBytes (s : State) (e : Nat) (x : Stream) : List Byte :=
  replayRecord s e x ++ x.tokens.flatMap (leBytes 4) ++ x.ext ++ x.mask

/-- A stream's replay record committed and, with a partner READY, mirrored with its token history (R397, R407). -/
def commitReplay (s : State) (e : Nat) : State :=
  match getSt s e with
  | some x => mirrorSend s (streamBytes s e x)
  | none => s

/-! ### Handing streams over (R407 to R409) -/

/-- A queue's state as the partner adopts it (R408). -/
def queueBytes (s : State) (q : Nat) : List Byte :=
  let x := getQ s q
  leBytes 2 q ++ leBytes 8 (getF s Reg.SRV_SQ_BASE q) ++ leBytes 8 (getF s Reg.SRV_RQ_BASE q)
    ++ leBytes 1 (getF s Reg.SRV_Q_CTL_SQ_LOG2 q) ++ leBytes 1 (getF s Reg.SRV_Q_CTL_RQ_LOG2 q)
    ++ leBytes 1 (getF s Reg.SRV_Q_CTL_PRIORITY q) ++ leBytes 2 x.sqHead ++ leBytes 2 x.sqTail ++ leBytes 2 x.rqHead
    ++ leBytes 2 x.rqTail ++ leBytes 1 (if x.phase then 1 else 0)

/-- A message to the partner. -/
def handMsg (s : State) (bs : List Byte) : State :=
  match partnerPort s with
  | some k => linkSend s k (linkMsg 0x21 0 bs)
  | none => s

/-- A queue handed to the partner, once: this module writes nothing more to its rings (R408). -/
def handQueue (s : State) (q : Nat) : State :=
  if s.partner.handed.contains q then s
  else handMsg { s with partner := { s.partner with handed := addOnce s.partner.handed q } } (queueBytes s q)

/-- A stream handed to the partner (R408): its replay record is sent, its queue is the partner's, and
this module writes nothing more of it. -/
def handStream (s : State) (e : Nat) : State :=
  match getSt s e with
  | some x =>
    let s := setF (handQueue (handMsg s (streamBytes s e x)) x.queue) Reg.ERR_PARTNER_STAT_HANDED 1 0
    let s := freeOwned s (.stream e)
    let s := countHeld (dropHolder s e)
    dropEntry (x.pinned.foldl unpinSlot s) e
  | none => s

/-- The streams a predicate names go to a partner that is READY, else end DONE with `status` (R374, R409). -/
def handOrEnd (s : State) (status : Nat) (f : Stream → Bool) : State :=
  let es := (s.serve.streams.filter (fun e => !e.2.ended && f e.2)).map (·.1)
  if partnerReady s then es.foldl handStream s
  else es.foldl (fun s e => endStream s e status 5 0) s

end Sys2Proof.Machine
end

