-- ==== Sys2Proof/Machine/CoreOps.lean ====
section
/-! DEFINITION. What the units of a core share: store accesses through the wide and narrow ports
(R90 to R105, R433), flits and their route words (R145 to R150), the reorder gate (R159 to R164). -/

namespace Sys2Proof.Machine

/-! ### When a core executes -/

/-- Schedule operations of a core can run: its chase is LIT, the core rail is ON and the logical column exists
(R23, R424, R425). -/
def powered (s : State) (c : CoreRef) : Bool :=
  chaseBeacon s (chaseOf c) == Beacon.lit && getF s Reg.CPW_STATE_RAIL (chaseOf c) == 2
    && coreExists s c

/-- The first pass of the core's part has begun (R139). -/
def begun (s : State) (c : CoreRef) : Bool :=
  (partOfCore s c).all (fun x => reached (getChase s (chaseOf c)).time (getCore s c).lag x.2.2.start)

/-- The part descriptor of a placed part (R189). -/
def descrOf (f : Forme) (p : Placed) : Option PartD :=
  (layoutParts (layoutBytes f.image p.layer p.layout)).find? (fun d => d.part == p.part)

/-! ### Core programs (R141, R192 to R195) -/

/-- The program of a core (R189, R192): its part, the words of its PROGRAM section, and the first of its own. None on a core
that no part holds, and where the forme has no such section. -/
def coreProgram (s : State) (c : CoreRef) : Option (Placed × List Byte × Nat) :=
  (partOfCore s c).bind (fun x =>
    let f := x.2.1
    let p := x.2.2
    let prog := programBytes f.image p.layer p.layout
    if prog.length < 16 then none
    else (descrOf f p).map (fun d =>
      (p, prog, programOf (layoutBytes f.image p.layer p.layout) d (c.row.val % 64 - p.row) (c.lcol.val % 64 - p.col))))

/-- The operation that comes next in a core's program: its word, the schedule cycle at which it executes, and its forme
instruction address. -/
structure NextOp where
  word : OpWord
  due : Nat
  instr : Nat
  deriving DecidableEq, Repr

/-- The schedule cycle, counted in the pass, from which CYCLE counts (R192, R194): that of the present iteration of the
enclosing loop, 0 outside of loops. -/
def Core.loopBase (k : Core) : Nat := ((k.loops.head?).map (·.base)).getD 0

/-- The next operation of a core's program (R192 to R195): pass k of its part begins k × SCHED_LEN cycles after its
first pass. -/
def nextOp (s : State) (c : CoreRef) : Option NextOp :=
  (coreProgram s c).map (fun x =>
    let k := getCore s c
    let w := opAt x.2.1 (x.2.2 + k.op)
    ⟨w, (x.1.start + k.pass * x.1.schedLen + k.loopBase + w.cycle) % 2 ^ 48, x.2.2 + k.op⟩)

/-- The number of an operation of R193: unit and function. -/
def opCode (unit fn : Nat) : Nat := 4096 * unit + fn

/-- The next operation of a core's program is the one of this number, and core time has reached its cycle (R141). A core
without a program takes the operations as they come. -/
def opDue (s : State) (c : CoreRef) (op : Nat) : Bool :=
  (nextOp s c).all (fun x => opCode x.word.unit x.word.fn == op
    && reached (getChase s (chaseOf c)).time (getCore s c).lag x.due)

/-- Word `op` comes next, after the loops whose bodies end before it (R194): the innermost begins its next iteration, or is
done. -/
def endLoops : List LoopAt → Nat → List LoopAt × Nat
  | [], op => ([], op)
  | l :: r, op =>
    if op < l.word + l.words then (l :: r, op)
    else if 1 < l.left then ({ l with base := l.base + l.cycles, left := l.left - 1 } :: r, l.word)
    else endLoops r op

/-- The core goes on to word `op` of its program. -/
def Core.goto (k : Core) (op : Nat) : Core :=
  let x := endLoops k.loops op
  { k with loops := x.1, op := x.2 }

/-- The core has executed the operation that came next (R141). -/
def passOp (s : State) (c : CoreRef) : State := modCore s c (fun k => k.goto (k.op + 1))

/-- A core executes operation `op` of its core time now (R141, R164, R170, R171, R193): it neither holds nor stands at
a use cycle or an event that it waits for, in a frozen cycle only a core that runs out a lag goes on, and the operation is
the next one of its program. -/
def runs (s : State) (c : CoreRef) (op : Nat) : Bool :=
  let ch := getChase s (chaseOf c)
  let k := getCore s c
  powered s c && begun s c && !k.holding ch.clk && !k.stuck ch.time && k.waiting.isNone
    && (!ch.frozen || (decide (0 < k.lag) && !ch.defers c)) && opDue s c op

/-- Operation `op` with the effect `f`, where the core executes it now. -/
def asOp (s : State) (c : CoreRef) (op : Nat) (f : State → State) : State :=
  if runs s c op then f (passOp s c) else s

/-- A core does deferred work now (R170). -/
def deferring (s : State) (c : CoreRef) : Bool := powered s c && (getChase s (chaseOf c)).defers c

/-- A packet that reached core `c` is taken (R133, R163). -/
def takeIn (s : State) (c : CoreRef) (p : Flit → Bool) : State :=
  modCore s c (fun k => { k with inbox := k.inbox.eraseP (fun x => p x.flit) })

/-- A packet that the core cannot take yet stands before it; its credit is withheld (R133, R163). -/
def holdIn (s : State) (c : CoreRef) (f : Flit) : State :=
  modCore s c (fun k => { k with inbox := ⟨k.arrived, f⟩ :: k.inbox })

/-- The place in order of arrival of a request that port D serves: that of its flit before the core, else the next
(R97). -/
def arrivalOf (s : State) (c : CoreRef) (p : Flit → Bool) : Nat :=
  ((getCore s c).inbox.find? (fun x => p x.flit)).elim (getCore s c).arrived (·.at_)

/-- Cycles that port D waited for a bank are counted (R136). -/
def countWait (s : State) (c : CoreRef) (n : Nat) : State := modCore s c (fun k => { k with cntNarrowWait := bump k.cntNarrowWait n })

/-- A register or press-file row, zeros until written (log entry 5). -/
def fileRow (m : KMap Row) (i n : Nat) : Row := kgetD m i ⟨List.replicate n 0, false⟩

/-! ### Parity of files (R376) -/

/-- The poison mark set on a file slot. -/
def Core.poisonFile (k : Core) (u i : Nat) : Core :=
  let row := fun (m : KMap Row) (j n : Nat) => kset m j { fileRow m j n with poison := true }
  let flit := fun (m : KMap Flit) (j : Nat) => kadj m j (fun f => { f with poison := true })
  if u = 1 then (if i < 32 then { k with file := row k.file i 128 } else { k with side := row k.side (i - 32) 16 })
  else if u = 2 then { k with vregs := row k.vregs i 128 }
  else if i < 128 then { k with sendFile := flit k.sendFile i } else { k with recvFile := flit k.recvFile (i - 128) }

/-- File slots written with fresh values, whose parity is good again. -/
def Core.fresh (k : Core) (u : Nat) (slots : List Nat) : Core :=
  { k with parity := k.parity.filter (fun p => !(p.1 == u && slots.contains p.2)) }

/-- A read of file slots of unit `u`: one with bad parity is poisoned and CORE_PARITY raised (R376). -/
def meetFile (s : State) (c : CoreRef) (u : Nat) (slots : List Nat) : State :=
  (slots.filter (fun i => (getCore s c).parity.contains (u, i))).foldl (fun s i =>
    raise (modCore s c (fun k => (k.poisonFile u i).fresh u [i])) (coreItem s Err.CORE_PARITY c [u, i])) s

/-! ### The part of a core, and the outliers of a token (R84 to R87, R188, R189) -/

/-- The rotation site of a layer of the forme that holds a core (R188). -/
def siteOf (s : State) (c : CoreRef) (site : Nat) : Option (Nat × Site) :=
  (partOfCore s c).bind (fun x =>
    ((declAt x.2.1.image x.2.2.layer).sites.find? (fun y => y.site == site)).map (fun y => (x.2.2.layer, y)))

/-- The outliers of a token in a layer. -/
def outliersAt (s : State) (req pos layer : Nat) : Option OutlierSet :=
  s.outliers.find? (fun x => x.req == req && x.pos == pos && x.layer == layer)

/-- The outliers that a pass takes (R86): 64 in the order of rank. -/
def OutlierSet.pass (x : OutlierSet) (k : Nat) : List Outlier := (x.items.drop (64 * k)).take 64

/-! ### The reorder gate (R159 to R164) -/

/-- A gate entry nobody has armed. -/
def Gate.reset : Gate := ⟨.disarmed, 0, 0, 0, 0, 0, 0, 0, 0, []⟩

def getGate (s : State) (c : CoreRef) (i : Nat) : Gate := kgetD (getCore s c).gates i Gate.reset
def setGate (s : State) (c : CoreRef) (i : Nat) (g : Gate) : State :=
  modCore s c (fun k => { k with gates := kset k.gates i g })

/-- The stamp matches the entry (R159). -/
def Gate.matches (g : Gate) (st : Word64) : Bool :=
  g.st != .disarmed && g.req == stampReq st && g.pos == stampPos st && g.layer == stampLayer st
    && decide (g.partLo ≤ stampPart st ∧ stampPart st ≤ g.partHi)

/-- An entry that still takes flits. -/
def Gate.open_ (g : Gate) : Bool := g.st == .armed || g.st == .filling

/-- The entry a flit matches: one that still takes flits before one that drops duplicates. -/
def gateFor (k : Core) (st : Word64) : Option (Nat × Gate) :=
  (k.gates.find? (fun x => x.2.matches st && x.2.open_)) <|> (k.gates.find? (fun x => x.2.matches st))

/-- Every expected flit has landed. -/
def Gate.full (g : Gate) : Bool := g.landed.all (fun n => g.flits ≤ n)

/-- A matching flit lands (R160), overfills (R162), or is dropped as a duplicate (R161). -/
def landFlit (s : State) (c : CoreRef) (i : Nat) (g : Gate) (f : Flit) : State :=
  let n := chaseOf c
  if g.open_ then
    let part := stampPart f.stamp - g.partLo
    if g.flits ≤ f.index ∨ g.flits ≤ g.landed.getD part 0 then
      raise s { coreItem s Err.FAB_GATE_OVERFILL c [i] with stamp := some f.stamp.toNat }
    else
      let a := g.base + part * g.stride + 68 * f.index
      onAccess s c a 68 none (fun s =>
        let g := { g with landed := g.landed.modify part (· + 1), st := .filling }
        let g := if g.full then { g with st := .complete } else g
        let s := setGate (narrowWrite s c a f.payload f.poison) c i g
        if g.st = .complete then meetCore s c Src.gateWait (· == i) else s)
  else addF s Reg.CHS_GATE_DUP 1 n

/-- A gate-kind flit at its core (R160 to R163): landed, dropped, parked, or, with the park buffer
full, left standing before the core. PARK_MAX takes the occupancy at each parking: what stands parked when it is read counts
again with the next (DESIGN CHOICE, log entry 93). -/
def gateTake (s : State) (c : CoreRef) (f : Flit) : State :=
  let k := getCore s c
  match gateFor k f.stamp with
  | some (i, g) => landFlit s c i g f
  | none =>
    if k.park.length < 16 then
      let n := chaseOf c
      let s := setCore s c { k with park := k.park ++ [⟨f, (getChase s n).clk⟩] }
      setF s Reg.CHS_PARK_MAX (max (getF s Reg.CHS_PARK_MAX n) (k.park.length + 1)) n
    else holdIn s c f

/-- The parked flits that a newly armed entry matches land in the order they were parked (R163). -/
def landParked (s : State) (c : CoreRef) : State :=
  let ps := (getCore s c).park
  let fits := fun (p : Parked) => (gateFor (getCore s c) p.flit.stamp).isSome
  let s := modCore s c (fun k => { k with park := ps.filter (fun p => !fits p) })
  (ps.filter fits).foldl (fun s p => gateTake s c p.flit) s

end Sys2Proof.Machine
end

