-- ==== Sys2Proof/Machine/Galleys.lean ====
section
/-! DEFINITION. Galleys between their tiers (R223, R241 to R245, R497, R498), expiry of conversations
(R339), the prefix-tree limit (R344). -/

namespace Sys2Proof.Machine

/-- The block nodes of a prompt galley enter the prefix tree once the galleys of that index are RESIDENT in every layer and
group (R335), also after their request has ended (R11). -/
def insertLate (s : State) (x : Galley) : State :=
  let gs := (x.late.head?.map (·.galleys)).getD []
  if x.late ≠ [] ∧ gs.all (fun g => (getG s g).all (fun y => y.st != .pending)) then
    let s := gs.foldl (fun s g => adjG s g (fun y => { y with late := [] })) s
    gs.foldl releaseGalley (evictAll (insertNodes s x.late))
  else s

/-- The stack acknowledges a PENDING galley's writes (R223). A galley with a poisoned word stays
PENDING (R378); one whose conversation has paused leaves T0 (R245). -/
def galleyAck (s : State) (g : Nat) (x : Galley) : State :=
  if x.t0.any (fun a => anyPoison s.mem.storePoison a x.bytes) then s
  else
    let s := setG s g { x with st := .resident, req := none }
    let s := if onF s Reg.ERR_PARTNER_CTL_MIRROR_KV 0 && !stackPoisoned s (x.t1.getD 0) x.bytes then
        mirrorSend s (stackRead s (x.t1.getD 0) x.bytes) else s
    restGalleys (releaseGalley (insertLate s x) g)

/-- GALLEY_RESIDENT (R223). -/
def execGalleyResident (g : Nat) (s : State) : Host.Outcome State Fault Refusal :=
  .next (match getG s g with
    | some x => if x.st = .pending ∧ x.t1.isSome then galleyAck s g x else s
    | none => s)

/-- GALLEY_FETCH_DONE (R242, R244): the region is filled, and the galley is RESIDENT. -/
def execGalleyFetchDone (g : Nat) (s : State) : Host.Outcome State Fault Refusal :=
  .next (match getG s g with
    | some x => if x.st = .fetching then copyToT0 s g .resident else s
    | none => s)

/-- A PAUSED galley's copy written to T2, where the region has room (R245, R498); a poisoned word stays in the module
(R378). -/
def sendT2 (s : State) (h g : Nat) : State :=
  match getG s g with
  | some x =>
    match x.t1, x.t2 with
    | some a, none =>
      let s := meetStack s a x.span
      let b := firstFit x.span (getF s Reg.HST_T2_BASE h) s.kv.t2
      if stackPoisoned s a x.span then s
      else if b + x.span ≤ getF s Reg.HST_T2_BASE h + getF s Reg.HST_T2_SIZE h then
        let s := { s with mem := { s.mem with host := memMove s.mem.stack s.mem.host a b x.span } }
        let s := addF s Reg.HST_WR_BYTES x.span 0
        countT2 (modKv (setG s g { x with t2 := some b }) (fun k => { k with t2 := addExtent k.t2 b x.span }))
      else s
    | _, _ => s
  | none => s

/-- A galley of a paused conversation, its own or one that it shares, that no stream attends to and that has left T0 (R245). -/
def Galley.idleFor (x : Galley) (s : State) (tenant handle : Nat) : Bool :=
  (x.owner == .conv tenant handle || x.holders.contains (convHolder tenant handle)) && (x.st == .paused || x.st == .spilled)
    && (usersOf s x).isEmpty

/-- GALLEY_TO_T2 (R245): a conversation idle for 60 s, while T2 space is granted. -/
def execGalleyToT2 (tenant handle : Nat) (s : State) : Host.Outcome State Fault Refusal :=
  .next (match findConv s tenant handle, t2Port s with
    | some c, some h =>
      if c.held = false ∧ c.paused ∧ groupUp s 1 ∧ c.pausedAt + 60000000000 ≤ s.lampTime then
        (galleysWhere s (fun g => g.idleFor s tenant handle)).foldl (fun s g => sendT2 s h g) s
      else s
    | _, _ => s)

/-- T2_COPY_ACK (R245): the T1 space goes, and the galley is HOST. -/
def execT2CopyAck (g : Nat) (s : State) : Host.Outcome State Fault Refusal :=
  .next (match getG s g with
    | some x =>
      match x.t1, x.t2 with
      | some a, some _ =>
        if (x.st = .paused ∨ x.st = .spilled) ∧ (usersOf s x).isEmpty then setG (freeT1 s a x.span) g { x with t1 := none, st := .host }
        else s
      | _, _ => s
    | none => s)

/-! ### Conversations -/

/-- A conversation ends by expiry (R339): its request, where one is QUEUED, ends EXPIRED; galleys
freed; CONV_EVENT; the handle to the FIFO; a tombstone. -/
def expireConv (s : State) (c : Conv) : State :=
  let s := { s with serve := { s.serve with
      convFifo := s.serve.convFifo ++ [c.handle]
      convTombs := s.serve.convTombs ++ [(c.tenant, c.handle, s.lampTime)] } }
  let s := match c.claimed with
    | some e => endStream s e Sts.CONV_EXPIRED 7 0
    | none => s
  let s := freeConv s c.tenant c.handle
  respond s c.queue ⟨complBytes Sts.CONV_EXPIRED 0 7 0 0 0 s.lampTime 0 c.tenant 0x04, none⟩

/-- An expiry, or, with the FIFO of 64 handles full, an expiry held back (R541). -/
def tryExpire (s : State) (c : Conv) : State :=
  if s.serve.convFifo.length < 64 then expireConv s c
  else { s with serve := { s.serve with convWait := addOnce s.serve.convWait (c.tenant, c.handle) } }

/-- A paused conversation's time to live is over (R339): it runs from the pause, never while a request holds the
conversation. -/
def ttlOver (s : State) (c : Conv) : Bool :=
  !c.held && c.paused && decide (c.pausedAt + 1000000000 * c.ttl ≤ s.lampTime)

/-- Expiries held back go on while the FIFO has room; a conversation resumed meanwhile is passed over, and so is one that has
paused again and whose new time to live still runs. -/
def drainExpiries (s : State) : List (Nat × Nat) → State
  | [] => { s with serve := { s.serve with convWait := [] } }
  | w :: r =>
    if s.serve.convFifo.length < 64 then
      match findConv s w.1 w.2 with
      | some c => drainExpiries (if ttlOver s c then expireConv s c else s) r
      | none => drainExpiries s r
    else { s with serve := { s.serve with convWait := w :: r } }

/-- CONV_EXPIRY (R339). -/
def execConvExpiry (tenant handle : Nat) (s : State) : Host.Outcome State Fault Refusal :=
  .next (match findConv s tenant handle with
    | some c => if ttlOver s c ∧ groupUp s 1 then tryExpire s c else s
    | none => s)

/-- CONV_TOMBSTONE_LAPSE (R339): 604,800 s after the expiry. -/
def execConvTombstoneLapse (tenant handle : Nat) (s : State) : Host.Outcome State Fault Refusal :=
  .next { s with serve := { s.serve with convTombs := s.serve.convTombs.filter (fun t =>
      !(t.1 == tenant && t.2.1 == handle && decide (t.2.2 + 604800000000000 ≤ s.lampTime))) } }

/-- A write of `PFX.LIMIT_GIB` (R344). -/
def execLimitGib (v : Nat) (s : State) : Host.Outcome State Fault Refusal :=
  .next (regWrite s 12 (fun s => evictAll (setF s Reg.PFX_LIMIT_GIB v 0)))

/-! ### The T2 directory (R497) -/

/-- The number under which a requester's read data and latches are kept (R7). -/
def reqNum : Requester → Nat
  | .host h => h.val
  | .management => 4

/-- The value a requester's read returned. -/
def readResult (s : State) (r : Requester) (v : Nat) : State :=
  { s with io := { s.io with readData := kset s.io.readData (reqNum r) v } }

/-- The 16-byte directory entry of a galley: host address, tenant (R497). -/
def t2Entry (g : Galley) : Nat := g.t2.getD 0 % 2 ^ 64 + g.tenant % 2 ^ 16 * 2 ^ 64

/-- T2_DIRECTORY_READ (R497): CXL.mem on port 0 or 1 with the decoder on; an entry past the last
galley reads zero. -/
def execT2DirectoryRead (r : Requester) (index : Nat) (s : State) : Host.Outcome State Fault Refusal :=
  .next (match r with
    | .host h =>
      if h.val ≤ 1 ∧ onF s Reg.HST_PORT_STAT_UP h.val ∧ onF s Reg.HST_PORT_STAT_CXL h.val ∧ onF s Reg.HST_CXL_CTL_MEM_EN h.val then
        readResult s r ((((s.kv.galleys.filter (fun g => g.2.st == .host))[index]?).map (fun g => t2Entry g.2)).getD 0)
      else s
    | .management => s)

end Sys2Proof.Machine
end

