-- ==== Sys2Proof/Machine/Attention.lean ====
section
/-! DEFINITION. Attention over galleys and stick (R216 to R244): the place of a KV entry, leaf partials and their merge,
page selection, and the fetch of galleys. -/

namespace Sys2Proof.Machine

/-! ### Elements in a core's store -/

/-- The bytes of `n` elements, and of their block scales (R52). -/
def elemBytes : Fmt → Nat → Nat
  | .n4, n | .i4, n => (n + 1) / 2
  | .t2, n => (n + 3) / 4
  | .b16, n => 2 * n
  | .f32, n => 4 * n
  | _, n => n
def scaleBytes : Fmt → Nat → Nat
  | .n4, n | .i4, n => (n + 31) / 32
  | .t2, n => (n + 63) / 64
  | _, _ => 0

/-- `n` packed elements read through the wide port (R93, R102 to R105), and their poison; where an access has no effect,
its fault alone. -/
def withPacked (s : State) (c : CoreRef) (x : PackedSrc) (n : Nat) (who : Who)
    (f : State → List Elem → Bool → State) : State :=
  let a := elemBytes x.fmt n
  let b := scaleBytes x.fmt n
  onAccess s c x.codes a who (fun s => onAccess s c x.scales b who (fun s =>
    let s := meetWide (meetWide s c x.codes a who) c x.scales b who
    f s ((rowElems x.fmt (storeRead s c x.codes a) (storeRead s c x.scales b)).take n)
      (storePoisoned s c x.codes a || storePoisoned s c x.scales b)))

/-! ### The place of a KV entry (R211, R212, R216, R218) -/

/-- Where a block's codes and scale go, and how many zero bytes follow the scale (R211). -/
structure BlockPlace where
  codes : Nat
  scale : Nat
  pad : Nat
  deriving DecidableEq, Repr

/-- The local address of a store address that core `c` holds. -/
def localTo (c : CoreRef) (a : Nat) : Option Nat :=
  if coreKey c * coreBytes ≤ a ∧ a < (coreKey c + 1) * coreBytes then some (a - coreKey c * coreBytes) else none

/-- The attention record of a stream's layer. -/
def attnFor (s : State) (x : Stream) (layer : Nat) : Option Attn := (getForme s x.forme).bind (fun f => attnOf f.image layer)

/-- The place of block `x.block` of the entry of a stamp's position, in the stick slot position mod 256, where this core
holds it. A step writes the positions from VLEN to TLEN only, and they lie in the galley being composed (R216, R218). -/
def entryPlace (s : State) (c : CoreRef) (stamp : Word64) (x : KvPlace) : Option BlockPlace :=
  let pos := stampPos stamp
  match streamOfReq s (stampReq stamp) with
  | some (e, y) =>
    match attnFor s y (stampLayer stamp), stickOf s e (stampLayer stamp) x.group with
    | some a, some (_, g) =>
      if y.step.isSome ∧ y.vlen ≤ pos ∧ pos < y.tlen ∧ g.index = pos / 256 ∧ x.block < a.blocks then
        (g.t0.bind (localTo c)).map (fun b =>
          let o := b + pos % 256 * entryBytes a.blocks
          ⟨o + 16 * x.block, o + 16 * a.blocks + x.block,
            if x.block + 1 = a.blocks then entryBytes a.blocks - 17 * a.blocks else 0⟩)
      else none
    | _, _ => none
  | none => none

/-- The place that a quantised block is written to: its operands', or its KV entry's. -/
def blockPlace (s : State) (c : CoreRef) (stamp : Word64) (dst scaleDst : Nat) (kv : Option KvPlace) : Option BlockPlace :=
  match kv with
  | none => some ⟨beatAt dst, scaleDst, 0⟩
  | some x => entryPlace s c stamp x

/-- A quantised block written in its place (R77, R94, R211). -/
def writeBlock (s : State) (c : CoreRef) (p : BlockPlace) (q : QBlock) (poison : Bool) (who : Who) : State :=
  onAccess s c p.codes 16 who (fun s => onAccess s c p.scale (1 + p.pad) who (fun s =>
    storeWrite (storeWrite s c p.codes (packNibbles q.codes) poison) c p.scale (leBytes 1 q.scale ++ List.replicate p.pad 0) poison))

/-- Consecutive output elements written in a format (R74 to R77), the block scales of N4 and I4 from `scaleDst` on. -/
def writeVals (s : State) (c : CoreRef) (out : Fmt) (dst scaleDst : Nat) (xs : List FVal) (poison : Bool) (who : Who) :
    State :=
  if out = .n4 ∨ out = .i4 then
    (List.range ((xs.length + 31) / 32)).foldl (fun s b =>
      writeBlock s c ⟨beatAt dst + 16 * b, scaleDst + b, 0⟩ (quantiseBlock (out == .i4) ((xs.drop (32 * b)).take 32)) poison who) s
  else
    let n := fmtBytes out
    let a := dst / n * n
    onAccess s c a (n * xs.length) who (fun s => storeWrite s c a (xs.flatMap (fun x => leBytes n (roundOut out x))) poison)

/-! ### Leaf partials (R226 to R228) and the merge (R230, R231) -/

/-- A leaf partial, a group result or a merged state: m, s and o as F32 bits. -/
structure Leaf where
  m : Nat
  s : Nat
  o : List Nat
  deriving DecidableEq, Repr

/-- The leaf that covers no entry (R228). -/
def Leaf.empty (n : Nat) : Leaf := ⟨negInf, 0, List.replicate n 0⟩

/-- a × b + c on F32 bits, rounded once (R117). -/
def fmaF32 (a b c : Nat) : Nat := FloatShape.f32.encode ((f32 a).fma (f32 b) (f32 c))

/-- The larger of two F32 values by exact comparison; a NaN gives the canonical NaN (R119, R228). -/
def max2F32 (a b : Nat) : Nat := if isNanF32 a || isNanF32 b then FloatShape.f32.canonicalNan else if gtF32 b a then b else a

/-- The largest of a list; −∞ of none. -/
def largestF32 (l : List Nat) : Nat := l.foldl max2F32 negInf

/-- The weights p of some scores (R227): exp2 of the score less the largest, each step rounded, in F8. -/
def leafWeights (scores : List Nat) : List Elem :=
  scores.map (fun x => elemOf (decodeF8 (encodeF8 (f32 (exp2Bits (subF32 x (largestF32 scores)))))))

/-- The sums s and o of a leaf, in this order (R227). -/
def leafSums (sumA0 outA0 : Int) (width : Nat) (scores : List Nat) (vals : List (List Elem)) : List (Acc × Bool) :=
  let ps := leafWeights scores
  exactClosed .f8 .f8 sumA0 ps (ps.map (fun _ => Elem.val 1))
    :: (List.range width).map (fun j => exactClosed .f8 .n4 outA0 ps (vals.map (fun v => v.getD j .skip)))

/-- The leaf partial of some scores and the values of their entries (R227, R228). -/
def leafOf (sumA0 outA0 : Int) (width : Nat) (scores : List Nat) (vals : List (List Elem)) : Leaf :=
  if scores = [] then Leaf.empty width
  else
    let l := (leafSums sumA0 outA0 width scores vals).map (·.1.scaled none)
    ⟨largestF32 scores, FloatShape.f32.encode (l.headD .nan), l.tail.map (fun x => FloatShape.b16.encode x * 65536)⟩

/-- The merge of two states (R231). -/
def mergeLeaf (x y : Leaf) : Leaf :=
  if x.m = negInf then y
  else if y.m = negInf then x
  else
    let m := max2F32 x.m y.m
    let a := exp2Bits (subF32 x.m m)
    let b := exp2Bits (subF32 y.m m)
    ⟨m, fmaF32 x.s a (mulF32 y.s b), List.zipWith (fun p q => fmaF32 p a (mulF32 q b)) x.o y.o⟩

/-- The leaves of one group of 256 ordinals, in ascending ordinal (R230). -/
def foldGroup (ls : List Leaf) : Leaf := ls.foldl mergeLeaf (Leaf.empty 0)

/-- The final merge: the groups in ascending order, the stick last (R230). -/
def foldHead (groups : List Leaf) (stick : Leaf) : Leaf := mergeLeaf (foldGroup groups) stick

/-- The whole canonical merge of a head over its leaves (R230). -/
def mergeAll (leaves : List Leaf) (stick : Leaf) : Leaf :=
  foldHead ((List.range ((leaves.length + 255) / 256)).map (fun g => foldGroup ((leaves.drop (256 * g)).take 256))) stick

/-- The output of a head: o × rcp(s), each rounded (R230). -/
def Leaf.output (x : Leaf) : List Nat := let r := rcpF32 x.s; x.o.map (fun v => mulF32 v r)

/-- The bytes of a merge packet (R232): `level` 0 leaf, 1 group result, 2 stick leaf. -/
def Leaf.packet (x : Leaf) (index level : Nat) : List Byte :=
  leBytes 4 x.m ++ leBytes 4 x.s ++ leBytes 4 index ++ leBytes 2 x.o.length ++ leBytes 1 level
    ++ leBytes 1 (if level = 1 then 1 else 0)
    ++ x.o.flatMap (fun v => if level = 1 then leBytes 4 v else leBytes 2 (v / 65536))

/-- The PART of a merge packet's stamp (R233). -/
def mergePart (index level : Nat) : Nat := if level = 0 then index % 256 else if level = 1 then 256 + index else 512

/-- The state that a landed merge packet holds (R232). -/
def leafAt (s : State) (c : CoreRef) (a : Nat) : Leaf :=
  let h := storeRead s c a 16
  let n := leAt h 12 2
  let b := storeRead s c (a + 16) (n * (if leAt h 15 1 = 1 then 4 else 2))
  ⟨leAt h 0 4, leAt h 4 4, (List.range n).map (fun i =>
    if leAt h 15 1 = 1 then leAt b (4 * i) 4 else leAt b (2 * i) 2 * 65536)⟩

/-- The bytes of a landed merge packet. -/
def landedLen (s : State) (c : CoreRef) (a : Nat) : Nat :=
  let h := storeRead s c a 16
  16 + leAt h 12 2 * (if leAt h 15 1 = 1 then 4 else 2)

/-! ### What a token attends to (R229, R234, R235, R246) -/

/-- The candidates picked for a stream's query at a layer, KV group and position. -/
def picksAt (s : State) (e layer group pos : Nat) : List Nat :=
  ((s.kv.picks.find? (fun p => p.stream == e && p.layer == layer && p.group == group && p.pos == pos)).map (·.galleys)).getD []

/-- The participants of a stamp's query in a KV group, by ascending index. -/
def attends (s : State) (e : Nat) (y : Stream) (a : Attn) (stamp : Word64) (group : Nat) : List Nat :=
  a.participants (genDense y.cmd) (stampPos stamp / 256) (picksAt s e (stampLayer stamp) group (stampPos stamp))

/-- A stream attends to galleys of its own and to those it shares (R246, R248). -/
def Galley.servesStream (g : Galley) (e : Nat) : Bool := g.owner == .stream e || g.holders.contains e

/-- Readable by attention (R238). -/
def Galley.readable (g : Galley) : Bool := g.st == .composing || g.st == .pending || g.st == .resident

/-- What a leaf covers (R220, R229): its index and level, and how many entries. A stick leaf covers the entries up to the
query's position, proof entries of the step included; none where the token does not attend to the galley. -/
def leafRange (s : State) (stamp : Word64) (e : Nat) (y : Stream) (a : Attn) (g : Galley) : Option (Nat × Nat × Nat) :=
  if g.layer ≠ stampLayer stamp ∨ !g.servesStream e ∨ !g.readable then none
  else if g.st = .composing then
    if g.index = stampPos stamp / 256 then some (0, 2, stampPos stamp % 256 + 1) else none
  else ((attends s e y a stamp g.group).findIdx? (· == g.index)).map (fun j => (j, 0, 256))

/-- A packet that the model computes: its bytes, its PART, whether its maximum is NaN, its poison, and the sums that formed
it. -/
structure Merged where
  bytes : List Byte
  part : Nat
  nan : Bool
  poison : Bool
  sums : List (Acc × Bool)
  deriving DecidableEq, Repr

/-- What a leaf reads: the galley with its local address here, the leaf's index and level, and the bytes of the entries that
it covers (R220, R229). -/
structure LeafSpan where
  galley : Galley
  attn : Attn
  base : Nat
  index : Nat
  level : Nat
  bytes : Nat
  deriving DecidableEq, Repr

/-- What the leaf of a galley or the stick on this core reads; none where the token does not attend to it here. -/
def leafSpan (s : State) (c : CoreRef) (stamp : Word64) (x : LeafSrc) : Option LeafSpan :=
  match streamOfReq s (stampReq stamp), getG s x.galley with
  | some (e, y), some g =>
    match attnFor s y g.layer, g.t0.bind (localTo c) with
    | some a, some base =>
      (leafRange s stamp e y a g).map (fun r => ⟨g, a, base, r.1, r.2.1, r.2.2 * entryBytes a.blocks⟩)
    | _, _ => none
  | _, _ => none

/-- The bytes of a leaf's query: codes and scales. -/
def leafCodes (x : LeafSrc) : Nat := elemBytes x.query.fmt (32 * x.keys.length)
def leafScales (x : LeafSrc) : Nat := scaleBytes x.query.fmt (32 * x.keys.length)

/-- The leaf partial of a galley or the stick on this core (R226 to R228, R232): the query meets the keys in the four-bit lane,
in its own format (R55). -/
def leafPacket (s : State) (c : CoreRef) (x : LeafSrc) (r : LeafSpan) : Merged :=
  let q := (rowElems x.query.fmt (storeRead s c x.query.codes (leafCodes x)) (storeRead s c x.query.scales (leafScales x))).take
    (32 * x.keys.length)
  let es := (List.range (r.bytes / entryBytes r.attn.blocks)).map (fun i =>
    storeRead s c (r.base + entryBytes r.attn.blocks * i) (entryBytes r.attn.blocks))
  let sums := es.map (fun b => exactClosed x.query.fmt .n4 x.scoreA0 q (entryBlocks b r.attn.blocks x.keys))
  let scores := sums.map (fun a => FloatShape.f32.encode (a.1.scaled (some x.factor)))
  let vals := es.map (fun b => entryBlocks b r.attn.blocks x.vals)
  let l := leafOf x.sumA0 x.outA0 (32 * x.vals.length) scores vals
  ⟨l.packet r.index r.level, mergePart r.index r.level, isNanF32 l.m,
    storePoisoned s c r.base r.bytes || storePoisoned s c x.query.codes (leafCodes x) || storePoisoned s c x.query.scales (leafScales x),
    sums ++ (if scores = [] then [] else leafSums x.sumA0 x.outA0 (32 * x.vals.length) scores vals)⟩

/-- The number of participants in the batch slot of a stamp's token (R229). -/
def slotParts (s : State) (stamp : Word64) : Nat :=
  match streamOfReq s (stampReq stamp) with
  | some (_, y) => ((y.step.bind (fun t => (t.parts.find? (fun p => p.1 == stampLayer stamp)).map (·.2)))).getD 0
  | none => 0

/-- The addresses of a group's landed leaves, in ascending ordinal (R230, R233). -/
def groupSlots (s : State) (stamp : Word64) (x : GroupSrc) : List Nat :=
  (List.range (min (slotParts s stamp - 256 * x.group) 256)).map (fun j => x.base + j * x.stride)

/-- A group result from the leaves that landed on this core (R230, R232). -/
def groupPacket (s : State) (c : CoreRef) (stamp : Word64) (x : GroupSrc) : Merged :=
  let l := foldGroup ((groupSlots s stamp x).map (leafAt s c))
  ⟨l.packet x.group 1, mergePart x.group 1, false, (groupSlots s stamp x).any (fun a => storePoisoned s c a (landedLen s c a)), []⟩

/-- The addresses of the landed group results, in ascending order, and of the stick leaf (R230). -/
def mergeSlots (s : State) (stamp : Word64) (x : MergeSrc) : List Nat :=
  (List.range ((slotParts s stamp + 255) / 256)).map (fun g => x.base + g * x.stride)

/-- Landed packets read in order, or the fault of the first that has no effect. -/
def withLanded (s : State) (c : CoreRef) (as : List Nat) (who : Who) (f : State → State) : State :=
  match as.findSome? (fun a => (accessFault s c a (landedLen s c a)).map (·, a)) with
  | some (code, a) => raise s ((accessItem s c code a).by_ who)
  | none => f (as.foldl (fun s a => meetWide s c a (landedLen s c a) who) s)

/-- The final merge of a head at its owner: the output elements are written in the output format (R230, R74). -/
def closeMerge (s : State) (c : CoreRef) (out : Fmt) (dst scaleDst : Nat) (stamp : Word64) (x : MergeSrc) (who : Who) :
    State :=
  let as := mergeSlots s stamp x
  withLanded s c (as ++ [x.stick]) who (fun s =>
    let l := foldHead (as.map (leafAt s c)) (leafAt s c x.stick)
    writeVals s c out dst scaleDst (l.output.map f32)
      ((as ++ [x.stick]).any (fun a => storePoisoned s c a (landedLen s c a))) who)

/-- A non-exact combination in canonical order (R73, R146): the partials of the landed packets, in ascending PART, added
in F32 one after the other. That it is this addition is a DESIGN CHOICE (log entry 86). -/
def closeOrdered (s : State) (c : CoreRef) (out : Fmt) (dst scaleDst : Nat) (x : PartsSrc) (who : Who) : State :=
  let n := x.elems * (if x.wide then 4 else 2)
  let as := (List.range x.parts).map (fun i => x.base + i * x.stride)
  match as.findSome? (fun a => (accessFault s c a n).map (·, a)) with
  | some (code, a) => raise s ((accessItem s c code a).by_ who)
  | none =>
    let s := as.foldl (fun s a => meetWide s c a n who) s
    let vals := as.map (fun a =>
      let b := storeRead s c a n
      (List.range x.elems).map (fun i => if x.wide then leAt b (4 * i) 4 else leAt b (2 * i) 2 * 65536))
    let sum := match vals with
      | [] => List.replicate x.elems 0
      | v :: vs => vs.foldl (List.zipWith addF32) v
    writeVals s c out dst scaleDst (sum.map f32) (as.any (fun a => storePoisoned s c a n)) who

/-! ### Page selection (R237) and the fetch of galleys (R242, R244) -/

/-- Rank by higher F32 value, then lower index; a NaN below every number (R237, R258). -/
def rankHigh (a b : Nat × Nat) : Bool :=
  if isNanF32 a.2 then isNanF32 b.2 && decide (a.1 ≤ b.1) else isNanF32 b.2 || rankBefore a b

/-- The `k` entries ranked first, by ascending index. -/
def topRanked (k : Nat) (l : List (Nat × Nat)) : List Nat :=
  (((l.mergeSort rankHigh).take k).map (·.1)).mergeSort (fun a b => decide (a ≤ b))

/-- The summaries of the 65,536 most recently flushed galleys of a stream are on-wafer (R243). -/
def summaryHere (s : State) (e : Nat) (x : Galley) : Bool :=
  decide ((s.kv.galleys.filter (fun g => g.2.servesStream e && g.2.summary != [] && decide (x.flushed < g.2.flushed))).length < 65536)

/-- A galley's page summary as the forme reads it: on-wafer, or from T1 where a descriptor has brought it (R243); without one
there are only values that the spec does not give (free, log entry 104). -/
def summaryFor (s : State) (e g : Nat) (x : Galley) : List Byte :=
  match summaryHere s e x, x.t1 with
  | true, _ => x.summaryBytes
  | false, some a => if s.kv.brought.contains (e, g) then stackRead s (a + x.bytes) summaryLen else freeBytes 0x243 [e, g] summaryLen
  | false, none => freeBytes 0x243 [e, g] summaryLen

/-- The sum of a candidate's score (R237). -/
def scoreSum (anchor : Int) (query : List Elem) (summary : List Byte) : Acc × Bool :=
  exactClosed .n4 .n4 anchor query (packedBlocks summary (summary.drop 48) (List.range 3))

/-- The score of a candidate (R237); without a VALID summary it is NaN (DESIGN CHOICE, log entry 85). -/
def scoreOf (anchor : Int) (query : List Elem) (summary : List Byte) : Nat :=
  if (leAt summary 51 1) % 2 = 0 then FloatShape.f32.canonicalNan
  else FloatShape.f32.encode ((scoreSum anchor query summary).1.scaled none)

/-- The candidates of a stream's query at a layer, KV group and position: number and galley (R235). -/
def candidatesOf (s : State) (e : Nat) (a : Attn) (stamp : Word64) (group : Nat) : List (Nat × Galley) :=
  s.kv.galleys.filter (fun g => g.2.servesStream e && g.2.layer == stampLayer stamp && g.2.group == group
    && g.2.st != .composing && decide (g.2.index < a.candidates (stampPos stamp / 256)))

/-- Page selection for a stamp's token in a KV group: the candidates ranked first participate (R235, R237). -/
def closeScores (s : State) (c : CoreRef) (stamp : Word64) (query : PackedSrc) (group : Nat) (anchor : Int)
    (recomputeLen : Nat) (who : Who) : State :=
  match streamOfReq s (stampReq stamp) with
  | some (e, y) =>
    match attnFor s y (stampLayer stamp) with
    | some a =>
      withPacked s c query 96 who (fun s q _ =>
        let here := (candidatesOf s e a stamp group).map (fun g => (g.2.index, summaryFor s e g.1 g.2))
        let s := countSums s c (stampLayer stamp) (some recomputeLen) who (here.map (fun x => scoreSum anchor q x.2))
        let top := topRanked a.topk (here.map (fun x => (x.1, scoreOf anchor q x.2)))
        let keep := fun (p : Pick) => !(p.stream == e && p.layer == stampLayer stamp && p.group == group && p.pos == stampPos stamp)
        modKv s (fun k => { k with picks := k.picks.filter keep ++ [⟨e, stampLayer stamp, group, stampPos stamp, top⟩] }))
    | none => s
  | none => s

/-- The summaries of a stamp's stream at a layer and KV group that `n` bytes of T1 from `a` on hold have come (R243). -/
def bringSummaries (s : State) (stamp layer group a n : Nat) : State :=
  match streamOfReq s (stampReq (BitVec.ofNat 64 stamp)) with
  | some (e, _) =>
    let gs := galleysWhere s (fun g => g.servesStream e && g.layer == layer && g.group == group
      && g.t1.any (fun b => decide (a ≤ b + g.bytes ∧ b + g.span ≤ a + n)))
    modKv s (fun k => { k with brought := k.brought ++ gs.map (fun g => (e, g)) })
  | none => s

/-- The fetch slots of a stream's layer and group in an ATTENTION part. -/
def slotsFor (s : State) (e part layer group : Nat) : List FetchSlot :=
  s.kv.fetch.filter (fun y => y.stream == e && y.part == part && y.layer == layer && y.group == group)

/-- A fetch slot of an ATTENTION part for a galley, with a region there (R242): one of the part's k, or one whose galley was
not selected, which is spilled (R241). -/
def takeFetchSlot (s : State) (e g k : Nat) (x : Galley) (chosen : List Nat) (f : Forme) (p : Placed) : Option State :=
  let slots := slotsFor s e p.part x.layer x.group
  let room := if slots.length < k then some s
    else (slots.find? (fun y => (getG s y.galley).all (fun z => !chosen.contains z.index))).map (fun y =>
      restGalley (modKv s (fun v => { v with fetch := v.fetch.filter (fun z => z != y) })) y.galley)
  room.bind (fun s =>
    let s := takeT0In (modKv s (fun v => { v with fetch := v.fetch ++ [⟨e, p.part, x.layer, x.group, g⟩] })) g
      (fun _ => partRegions f p)
    if (getG s g).any (fun z => z.t0.isSome) then some s else none)

/-- A staging region of a DENSE pass used again: that of the lowest galley outside the window whose leaves are complete
(R244). -/
def reuseStaging (s : State) (e : Nat) (x : Galley) : State :=
  let done := galleysWhere s (fun z => z.st == .resident && z.servesStream e && z.layer == x.layer)
  match done.find? (fun g => s.kv.leafs.contains g) with
  | some g => restGalley s g
  | none => s

/-- A staging region for a galley of a DENSE pass (R244): a free one, else one used again. -/
def takeStaging (s : State) (e g : Nat) (x : Galley) : Option State :=
  let t := takeT0 s g
  let t := if (getG t g).any (fun z => z.t0.isSome) then t else takeT0 (reuseStaging s e x) g
  if (getG t g).any (fun z => z.t0.isSome) then some t else none

/-- A galley that must be fetched before attention reads it (R238). -/
def Galley.away (x : Galley) : Bool := x.st == .spilled || x.st == .paused || x.st == .host

/-- The fetch of the next galley that a stamp's token attends to and that lies outside T0, in ascending index (R242, R244): it is
FETCHING, its region filling. One in T2 returns to T1 first (R238). -/
def beginFetch (s : State) (stamp : Word64) (group : Nat) : State :=
  match streamOfReq s (stampReq stamp) with
  | some (e, y) =>
    match getForme s y.forme, attnFor s y (stampLayer stamp) with
    | some f, some a =>
      let chosen := attends s e y a stamp group
      let next := chosen.findSome? (fun i => s.kv.galleys.find? (fun g => g.2.servesStream e && g.2.layer == stampLayer stamp
        && g.2.group == group && g.2.index == i && g.2.away))
      match next with
      | some (g, x) =>
        let s := fromT2 s g
        let ready := if a.dense (genDense y.cmd) then takeStaging s e g x
          else (attnParts f x.layer).findSome? (takeFetchSlot s e g a.topk x chosen f)
        (ready.map (fun s => adjG s g (fun z => { z with st := .fetching }))).getD s
      | none => s
    | _, _ => s
  | none => s

end Sys2Proof.Machine
end

