-- ==== Sys2Proof/Machine/PowerOps.lean ====
section
/-! DEFINITION. Rails and clocks of the chases (R416 to R434) as operations that power, recovery,
loading and reset share. -/

namespace Sys2Proof.Machine

/-! ### Rail states (R424) -/

def Rail.off : Nat := 0
def Rail.ramping : Nat := 1
def Rail.on : Nat := 2
def Rail.retention : Nat := 3
def Rail.tripped : Nat := 4

/-- The core-rail state of chase `n`. -/
def rail (s : State) (n : Nat) : Nat := getF s Reg.CPW_STATE_RAIL n

/-- The core rail of chase `n` is ON (R424). -/
def railOn (s : State) (n : Nat) : Bool := rail s n == Rail.on

def setRail (s : State) (n st : Nat) : State := setF s Reg.CPW_STATE_RAIL st n

/-! ### What a rail that falls loses (R424, R434) -/

/-- The chase of a core number. -/
def keyChase (k : Nat) : Nat := 16 * (k / 65536) + k % 1024 / 64

/-- The store words of a chase whose local addresses `p` picks lost: they read as words that nothing
has written (log entry 4), without poison. -/
def loseStore (s : State) (n : Nat) (p : Nat → Bool) : State :=
  { s with mem := { s.mem with
      store := s.mem.store.filter (fun c => !(keyChase (c.1 / coreBytes) == n && p (c.1 % coreBytes)))
      errs := s.mem.errs.filter (fun e => !(keyChase (64 * e.1 / coreBytes) == n && p (64 * e.1 % coreBytes)))
      storePoison := s.mem.storePoison.filter (fun w =>
        !(keyChase (64 * w / coreBytes) == n && p (64 * w % coreBytes))) } }

/-- A local address of the near store (R91). -/
def nearAddr (a : Nat) : Bool := decide (a < 0x8000)

/-- The core that a key stands for. -/
def coreOfKey (k : Nat) : CoreRef := ⟨Fin.ofNat 1024 (k / 1024), Fin.ofNat 1024 (k % 1024)⟩

/-- What a core owes the fabric when its rail goes off (R135, R154): its buffered remote writes are refused, as nothing is
lost silently, and the packets that waited for one of its own go out. -/
def nackBuffered (s : State) (c : CoreRef) (k : Core) : State :=
  let nack := fun (w : WBuf) => (⟨BitVec.ofNat 64 w.stamp, routeWord w.src.lcol.val w.src.row.val 4 Kind.nack,
    freeBytes 0x108 [2] 68, 0, false⟩ : Flit)
  (k.txWait ++ k.wbuf.map nack).foldl (fun s f => emitFlit s c f) s

/-- A core whose units are lost: only the remote requests that stand before it are left, which its commands refuse while the
rail is not ON (R135). -/
def Core.lost (k : Core) : Core :=
  { Core.reset with
    inbox := k.inbox.filter (fun x => flitKind x.flit == Kind.readReq || flitKind x.flit == Kind.write)
    arrived := k.arrived }

/-- The unit state of a chase lost: files, gates, queues and chase time (R434). -/
def loseUnits (s : State) (n : Nat) : State :=
  let s := (s.cores.filter (fun x => keyChase x.1 == n)).foldl (fun s x => nackBuffered s (coreOfKey x.1) x.2) s
  let kept := s.cores.filterMap (fun x =>
    if keyChase x.1 != n then some x else if x.2.lost.inbox.isEmpty then none else some (x.1, x.2.lost))
  modChase { s with cores := kept } n
    (fun ch => { ch with time := 0, lanes := [], slips := [], run := 0, running := false })

/-- Everything under the core rail lost (R424). -/
def loseChase (s : State) (n : Nat) : State := loseUnits (loseStore s n (fun _ => true)) n

/-! ### Setpoint and clock (R416 to R419) -/

/-- The voltage of R416 at a clock in MHz, before trim and guard, in mV. -/
def tableMv (f : Nat) : Rat :=
  let seg := fun (f0 v0 f1 v1 : Nat) => (v0 : Rat) + ((f : Rat) - f0) * ((v1 : Rat) - v0) / ((f1 : Rat) - f0)
  if f ≤ 800 then seg 600 550 800 610
  else if f ≤ 1000 then seg 800 610 1000 680
  else if f ≤ 1200 then seg 1000 680 1200 760
  else if f ≤ 1300 then seg 1200 760 1300 820
  else seg 1300 820 1400 890

/-- Good sense points of a chase (R419). -/
def sensePoints (s : State) (n : Nat) : List Nat :=
  (List.range 4).filter (fun i => getF s Reg.CPW_STATE_SENSE_OK n / 2 ^ i % 2 == 1)

/-- The chase regulates on local sense (R419). -/
def localSense (s : State) (n : Nat) : Bool := decide ((sensePoints s n).length ≤ 1)

/-- The setpoint at clock `f` before the clamp: table, trim, guard, and 30 mV on local sense. -/
def wantMv (s : State) (n f : Nat) : Rat :=
  tableMv f + ((getChase s n).trim : Rat) + 10 + (if localSense s n then 30 else 0)

/-- The setpoint (R416), clamped to 550 to 900 mV, in whole mV (log entry 27). -/
def setpointMv (s : State) (n f : Nat) : Nat := (max 550 (min 900 (wantMv s n f))).floor.toNat

/-- The highest clock of a multiple of 25 MHz whose setpoint stays within 900 mV (R419). -/
def senseLimit (s : State) (n : Nat) : Nat :=
  if localSense s n then
    ((List.range 33).map (fun i => 600 + 25 * i)).foldl (fun b f => if wantMv s n f ≤ 900 then f else b) 600
  else 1400

/-- The clock limit that a chase's failed sensor pair holds (R445). -/
def pairLimit (s : State) (n : Nat) : Nat := if (kget? s.pairs n).any (fun p => p.st == .bothFailed) then 1000 else 1400

/-- The clock limit of a chase (R418): the lowest of all demands, at least 600 MHz. -/
def limitOf (s : State) (n : Nat) : Nat :=
  let ch := getChase s n
  max 600 (min (getF s Reg.CPW_CLK_MAX n) (min ch.limThermal (min ch.limOc (min ch.limBus (min ch.limSense
    (min ch.limNbr (min (pairLimit s n) (getF s Reg.THM_F_MOD 0))))))))

/-- The chase clock set, with its setpoint (R417). -/
def setClock (s : State) (n f : Nat) : State :=
  setF (setF s Reg.CPW_CLK_NOW f n) Reg.CPW_VSET (setpointMv s n f) n

/-- `CPW.CLK_LIMIT` brought up to date (R418); a clock above it falls to it, and the formes on the
chase have their T fixed anew when the limit changes (R287). -/
def updateLimit (s : State) (n : Nat) : State :=
  let l := limitOf s n
  if getF s Reg.CPW_CLK_LIMIT n = l then s
  else
    let s := setF s Reg.CPW_CLK_LIMIT l n
    let s := if railOn s n && decide (l < getF s Reg.CPW_CLK_NOW n) then setClock s n l else s
    refixChase s n

/-- A demand on the clock limit changed by `f`. -/
def demand (s : State) (n : Nat) (f : Chase → Chase) : State := updateLimit (modChase s n f) n

/-! ### Switching (R424 to R429) -/

/-- A core rail opened (R424): contents lost; the transit logic goes on at 600 MHz (R31). -/
def railDown (s : State) (n st : Nat) : State :=
  setF (setF (setRail (loseChase s n) n st) Reg.CPW_CLK_NOW 600 n) Reg.CPW_VSET 0 n

/-- A core rail at the 600 MHz setpoint (R429). -/
def railUp (s : State) (n : Nat) : State :=
  let s := setF (setRail s n Rail.on) Reg.CPW_STATE_DEFERRED 0 n
  setClock (updateLimit s n) n 600

/-- A chase that holds parts is ON (R425): switched on before the imposer fills it. -/
def claimRail (s : State) (n : Nat) : State := if railOn s n then s else railUp (loseUnits s n) n

/-- A chase that no placed forme claims is OFF with its beacon LIT (R425). -/
def idleRail (s : State) (n : Nat) : State :=
  if chaseClaimed s n ∨ !railOn s n then s else railDown s n Rail.off

/-- A chase put into RETENTION (R434): the far store is kept, all else under the rail lost. -/
def railRetain (s : State) (n : Nat) : State :=
  setF (setF (setRail (loseUnits (loseStore s n nearAddr) n) n Rail.retention) Reg.CPW_CLK_NOW 600 n) Reg.CPW_VSET 450 n

/-- A bank open again, its words zero (R433). -/
def openBank (s : State) (n b : Nat) : State :=
  if (kget? (getChase s n).banks b).isSome then
    let s := loseStore s n (fun a => decide (0x8000 + 0x2000 * b ≤ a ∧ a < 0x8000 + 0x2000 * (b + 1)))
    let s := modChase s n (fun ch => { ch with banks := kdel ch.banks b })
    setF s Reg.CPW_BANK_GATED (((getChase s n).banks.map (fun x => if x.2 = .gated then 2 ^ x.1 else 0)).sum) n
  else s

/-- Core rails that have ramped for 64 µs stand at their setpoint (R429). -/
def rampsEnd (s : State) : State :=
  ((List.range 256).filter (fun n => rail s n == Rail.ramping && decide ((getChase s n).rampAt + 64000 ≤ s.lampTime))).foldl railUp s

/-- Banks that have opened for 256 cycles are open, their words zero (R433). -/
def banksOpen (s : State) (n : Nat) : State :=
  ((getChase s n).banks.filter (fun b => match b.2 with
    | .opening g => decide (g + 256 ≤ (getChase s n).clk)
    | .closing _ | .gated => false)).foldl (fun s b => openBank s n b.1) s

/-- Cold slots that were STREAMING become EMPTY (R391, R434). -/
def stopStreaming (s : State) (p : Nat → Bool) : State :=
  { s with cold := s.cold.map (fun c => if p c.forme then
      { c with slots := c.slots.map (fun x => if x.st = .streaming then { x with st := .empty } else x) } else c) }

/-- Forced retention (R437): every core rail that is ON, or ramps to it, falls, with no halt. -/
def forceRetention (s : State) : State :=
  let ns := (List.range 256).filter (fun n => railOn s n || rail s n == Rail.ramping)
  let s := stopStreaming (ns.foldl railRetain s) (fun _ => true)
  setF s Reg.PWR_RETAIN_STAT_STATE 4 0

end Sys2Proof.Machine
end

