-- ==== Sys2Proof/Machine/LoadOps.lean ====
section
/-! DEFINITION. Loading (09, 07): fields of load records, refusals, placement, swaps, slots and link
transfers, as operations that the load commands share. -/

namespace Sys2Proof.Machine

/-! ### Load records (R349) -/

def ldKind (rec : List Byte) : Nat := leAt rec 0 1
def ldFlag (rec : List Byte) (b : Nat) : Bool := leAt rec 1 1 / 2 ^ b % 2 == 1
def ldFromLink (rec : List Byte) : Bool := ldFlag rec 0
def ldKeepHost (rec : List Byte) : Bool := ldFlag rec 1
def ldReplica (rec : List Byte) : Bool := ldFlag rec 2
def ldPublic (rec : List Byte) : Bool := ldFlag rec 3
def ldOverlay (rec : List Byte) : Nat := leAt rec 4 2
def ldAddr (rec : List Byte) : Nat := leAt rec 8 8
def ldLength (rec : List Byte) : Nat := leAt rec 16 8
def ldForme (rec : List Byte) : Nat := leAt rec 24 1
def ldPolicy (rec : List Byte) : Nat := leAt rec 25 1
def ldForward (rec : List Byte) (k : Nat) : Bool := leAt rec 26 2 / 2 ^ k % 2 == 1
def ldExpect (rec : List Byte) : List Byte := slice rec 32 32
/-- The host image that KEEP_HOST keeps readable (R353): its address and length. -/
def ldHost (rec : List Byte) : Option (Nat × Nat) :=
  if ldKeepHost rec && !ldFromLink rec then some (ldAddr rec, ldLength rec) else none
/-- EXPECT names an identity. -/
def ldExpects (rec : List Byte) : Bool := (ldExpect rec).any (· != 0)

/-- R349: fields in range, and fields that the kind does not use zero. -/
def ldFieldsOk (kind : Nat) (rec : List Byte) : Bool :=
  let fl := leAt rec 1 1
  let zero := fun (o n : Nat) => leAt rec o n == 0
  zero 28 4 && decide (ldForme rec ≤ 15) && (!ldFromLink rec || zero 8 8) &&
  (if kind = 0x20 then decide (fl < 8) && zero 2 4 && zero 25 1
   else if kind = 0x21 then (fl == 0 || fl == 2) && zero 2 4 && decide (ldPolicy rec ≤ 1) && zero 26 2
   else if kind = 0x22 then fl == 0 && zero 2 4 && zero 8 16 && zero 25 3 && !ldExpects rec
   else if kind = 0x23 then decide (fl < 2) && !zero 2 2 && zero 4 2 && zero 25 1
   else if kind = 0x24 then (fl / 2 % 4 == 0 && decide (fl < 16)) && !zero 2 2 && zero 25 1
   else fl == 0 && !zero 2 2 && zero 8 16 && zero 25 3 && !ldExpects rec && (kind == 0x26 || zero 4 2))

/-! ### Status, registers -/

/-- `LOAD.F_STATE` of an index, and its bit in `SYS.FORMES` (R543). -/
def setFState (s : State) (fi st : Nat) : State :=
  let s := setF s Reg.LOAD_F_STATE st fi
  setF s Reg.SYS_FORMES (((List.range 16).map (fun i => if getF s Reg.LOAD_F_STATE i = 2 then 2 ^ i else 0)).sum) 0

/-- `LOAD.F_STATE` of an index that holds a resident forme: QUARANTINED while a layer is, else REPLACING or RESIDENT (R375). -/
def settleFState (s : State) (fi : Nat) : State :=
  match getForme s fi with
  | some f => setFState s fi (if f.quarantined ≠ [] then 4 else if f.repl.isSome then 3 else 2)
  | none => s

/-- `LOAD.STAT.BUSY`, and the phase and index of the current operation (R375). -/
def loadStat (s : State) (fi phase : Nat) : State :=
  let busy := !s.loads.isEmpty || s.formes.any (fun f => f.2.repl.isSome || f.2.unload.isSome)
    || s.slots.any (fun x => x.2.st == .loading)
  setF (setF (flagF s Reg.LOAD_STAT_BUSY busy 0) Reg.LOAD_STAT_PHASE (if busy then phase else 0) 0) Reg.LOAD_STAT_FORME fi 0

/-- A record of a load command (R351): `kind` 0x02 completion, 0x03 interim. -/
def loadRecord (s : State) (q cid tenant fi status layers kind : Nat) : State :=
  let s := if kind = 0x02 then setF s Reg.LOAD_STAT_LAST_STATUS status 0 else s
  respond s q ⟨complBytes status 0 0xFF cid fi layers s.lampTime 0 tenant kind, none⟩

/-- The completion of a load command. -/
def finishLoad (s : State) (l : Load) (status layers : Nat) : State :=
  loadRecord s l.queue (cidOf l.cmd) (tenantOf l.cmd) (ldForme l.cmd) status layers 0x02

/-- A refusal: the fault record and the completion (R207). -/
def refuseLoad (s : State) (l : Load) (r : Refuse) : State := finishLoad (logFault s (locItem r.code r.loc)) l r.status 0

/-- The stack tier is trained (R482). -/
def tierTrained (s : State) : Bool := (List.range 32).all (fun n => decide (getF s Reg.STK_STAT_STATE n ∈ [2, 3, 4]))

/-! ### Regions of numbered slots (R261, R272, R276) -/

/-- The `idx`-th region of kind `kind` of each core of a layer's parts, in core order (log entry 17). -/
def slotRegions (f : Forme) (layer kind idx : Nat) : List (CoreRef × Alloc) :=
  (f.parts.filter (fun p => p.live && p.layer == layer)).flatMap (fun p =>
    let all := regionsOf f.image p kind
    p.cores.filterMap (fun rc => (all.filter (fun a => a.1 == rc.2.2))[idx]?))

/-- Bytes written over those regions. -/
def writeSlotData (s : State) (f : Forme) (layer kind idx : Nat) (bs : List Byte) : State :=
  fillRegions s (slotRegions f layer kind idx) bs

/-- Slugs as press tiles (R113, R127): of each 32, the scale bytes, then the data bytes. -/
def toTiles (bs : List Byte) : List Byte :=
  (List.range ((bs.length / 68 + 31) / 32)).flatMap (fun t =>
    let n := min 32 (bs.length / 68 - 32 * t)
    let part := fun (o m : Nat) => (List.range n).flatMap (fun j => slice bs (68 * (32 * t + j) + o) m)
    part 0 4 ++ part 4 64)

/-- The slugs of an expert's image over its slot's regions: core, local address, first byte in the image, bytes (R261, log
entry 17). -/
def slugShares : List (CoreRef × Alloc) → Nat → Nat → List (CoreRef × Nat × Nat × Nat)
  | [], _, _ => []
  | (c, a) :: r, o, n =>
    let m := min (a.len / 68 * 68) n
    (c, a.addr, o, m) :: slugShares r (o + m) (n - m)

/-- An expert's image written into its slot's regions as press tiles (R127, R261). -/
def writeTiles (s : State) (f : Forme) (layer idx : Nat) (bs : List Byte) : State :=
  (slugShares (slotRegions f layer 0x07 idx) 0 bs.length).foldl (fun s x =>
    storeWrite s x.1 x.2.1 (toTiles (slice bs x.2.2.1 x.2.2.2)) false) s

/-- Whether a slot's regions differ from the tiles of an image where they read without an error (R372). -/
def tilesDiffer (s : State) (f : Forme) (layer idx : Nat) (bs : List Byte) : Bool :=
  (slugShares (slotRegions f layer 0x07 idx) 0 bs.length).any (fun x =>
    let t := toTiles (slice bs x.2.2.1 x.2.2.2)
    !storePoisoned s x.1 x.2.1 t.length && storeRead s x.1 x.2.1 t.length != t)

/-- Where slug `k` of an expert's image lands on core `c` (R127, R261): the local addresses of its scales and of its data. -/
def slugPlace (f : Forme) (layer idx size : Nat) (c : CoreRef) (k : Nat) : Option (Nat × Nat) :=
  ((slugShares (slotRegions f layer 0x07 idx) 0 size).find? (fun x =>
    x.1 == c && decide (x.2.2.1 ≤ 68 * k ∧ 68 * k < x.2.2.1 + x.2.2.2))).map (fun x =>
      let j := k - x.2.2.1 / 68
      let n := min 32 (x.2.2.2 / 68 - j / 32 * 32)
      (x.2.1 + 2176 * (j / 32) + 4 * (j % 32), x.2.1 + 2176 * (j / 32) + 4 * n + 64 * (j % 32)))

/-- The bytes those regions hold together. -/
def slotBytes (f : Forme) (layer kind idx : Nat) : Nat := ((slotRegions f layer kind idx).map (·.2.len)).sum

/-! ### Cold experts at placement (R265) -/

/-- Cold experts of a layer, most popular first, lower index first among equals. -/
def coldOrder (x : Experts) : List Nat :=
  ((List.range x.routed).filter (fun i => x.cold.getD i false)).mergeSort
    (fun a b => decide (x.pop.getD b 0 < x.pop.getD a 0 ∨ (x.pop.getD b 0 = x.pop.getD a 0 ∧ a ≤ b)))

/-- A routed expert's image in the golden copy (R254). -/
def expertImage (img : List Byte) (layer : Nat) (x : Experts) (e : Nat) : List Byte :=
  slice (weightsBytes img layer) (68 * x.offs.getD e 0) x.imageBytes

/-- The experts of a layer as placement leaves them (R264, R265). -/
def coldLayerOf (fi layer : Nat) (x : Experts) : ColdLayer :=
  let order := coldOrder x
  { forme := fi, layer := layer
    slots := (List.range x.coldSlots).map (fun i => match order[i]? with
      | some e => ⟨.loaded, e, x.imageBytes, false⟩
      | none => ⟨.empty, 0, 0, false⟩)
    counts := [], passed := 0, selected := [], predicted := [], predicting := [] }

/-- Cold slots bound and filled in every layer of a forme (R265, R352 step 6). -/
def bindCold (s : State) (fi : Nat) (f : Forme) : State :=
  (List.range (imgLayers f.image)).foldl (fun s l =>
    match expertsAt f.image l with
    | some x =>
      let c := coldLayerOf fi l x
      let s := { s with cold := s.cold ++ [c] }
      (c.slots.mapIdx (fun i y => (i, y))).foldl (fun s iy =>
        if iy.2.st = .loaded then writeTiles s f l iy.1 (expertImage f.image l x iy.2.expert) else s) s
    | none => s) s

/-- LOADED cold slots of a changed layer refilled with the new images (R367). -/
def refillCold (s : State) (fi layer : Nat) (f : Forme) (img : List Byte) : State :=
  match s.cold.find? (fun c => c.forme == fi && c.layer == layer), expertsAt img layer with
  | some c, some x =>
    (c.slots.mapIdx (fun i y => (i, y))).foldl (fun s iy =>
      if iy.2.st = .loaded then writeTiles s f layer iy.1 (expertImage img layer x iy.2.expert) else s) s
  | _, _ => s

/-! ### Placement -/

/-- The next multiple of a part's SCHED_LEN at chase time `t` (R139); `t` itself where it is one (DESIGN CHOICE, log entry
101). -/
def nextPass (t len : Nat) : Nat := if len = 0 then t else ((t + len - 1) / len * len) % 2 ^ 48

/-- Chases that gain parts: chase time starts at 0 where none ran, and else the new parts begin with the next
multiple of their SCHED_LEN (R138, R139); hints merge (R200). -/
def startChases (s : State) (ps : List Placed) : State :=
  ((ps.map (·.chase)).dedup).foldl (fun s n =>
    let ch := getChase s n
    let s := startAt s n (fun p => ps.contains p) (fun p => if ch.running then nextPass ch.time p.schedLen else 0)
    modChase (claimRail s n) n (fun c => { c with
      time := if c.running then c.time else 0
      running := true
      hints := hintTable s n })) s

/-- Gated banks opened before regions are placed in them (R431). -/
def openPlaced (s : State) (img : List Byte) (ps : List Placed) : State :=
  ps.foldl (fun s p =>
    let banks := (((List.range 11).flatMap (fun k => regionsOf img p (k + 1))).flatMap (fun r =>
      (List.range 36).filter (fun b =>
        decide (r.2.addr < 0x8000 + 0x2000 * (b + 1) ∧ 0x8000 + 0x2000 * b < r.2.addr + r.2.len)))).dedup
    banks.foldl (fun s b => openBank s p.chase b) s) s

/-- A forme placed at index `fi` and filled (R352 steps 6 and 7). -/
def installForme (s : State) (fi : Nat) (img ident : List Byte) (p : Placement) (keepHost : Option (Nat × Nat)) : State :=
  let f : Forme :=
    { image := img, ident := ident, layouts := p.layouts, parts := p.parts, gen := 1, vocab := Config.vocabulary img
      tNs := 0, cyclesD := 0, cycleNs := 0, fixedAt := s.lampTime, timed := 0, minT := 0, waves := 0, lastWave := none, wave := []
      repl := none, replWait := [], unload := none, keepHost := keepHost
      quarantined := [], rewrite := [], lastAudit := (List.range (imgLayers img)).map (fun l => (l, s.lampTime)) }
  let s := openPlaced (setForme s fi f) img p.parts
  let s := fillParts s img p.parts
  let s := bindCold s fi f
  let s := startChases s p.parts
  let s := setF s Reg.LOAD_F_GEN 1 fi
  refixForme (setFState s fi 2) fi

/-- `LOAD.PROGRESS` and `LOAD.BYTES` of a load (R375). -/
def loadProgress (s : State) (total done bytes : Nat) : State :=
  setF (setF (setF s Reg.LOAD_PROGRESS_LAYERS_TOTAL total 0) Reg.LOAD_PROGRESS_LAYERS_DONE done 0) Reg.LOAD_BYTES bytes 0

/-- The load waits no more. -/
def dropLoad (s : State) (l : Load) : State :=
  { s with loads := s.loads.filter (fun m => !(m.queue == l.queue && m.cmd == l.cmd)) }

/-- Steps 5 to 7 of R352; while chases still kindle, a refusal for want of room waits (R356). -/
def placeForme (s : State) (l : Load) : State :=
  let fi := ldForme l.cmd
  let s := dropLoad s l
  match impose s fi l.image with
  | .ok p =>
    let s := installForme s fi l.image (identity l.image) p (ldHost l.cmd)
    let n := imgLayers l.image
    finishLoad (loadStat (loadProgress s n n l.image.length) fi 0) l Sts.OK n
  | .error r =>
    if (r.check = 21 ∨ r.check = 22) ∧ !onF s Reg.RST_STAGE_KINDLE_DONE 0 then
      loadStat (setFState { s with loads := s.loads ++ [{ l with capacity := true }] } fi 1) fi 6
    else refuseLoad (loadStat (setFState s fi 0) fi 0) l r

/-- Loads refused for want of room tried again (R356). -/
def retryCapacity (s : State) : State := syncGolden ((s.loads.filter (fun l => l.capacity)).foldl placeForme s)

/-! ### Link transfers (R357 to R359, R508) -/

/-- LOAD_DATA messages for a range of an image, 68 bytes each. -/
def dataMsgs (img : List Byte) : Nat → Nat → Nat → List (List Byte)
  | 0, _, _ => []
  | fuel + 1, off, n =>
    if n = 0 then [] else linkMsg 0x13 off (slice img off (min 68 n)) :: dataMsgs img fuel (off + 68) (n - 68)

/-- The messages for a range. -/
def rangeMsgs (img : List Byte) (off n : Nat) : List (List Byte) := dataMsgs img (n / 68 + 1) off n

/-- The messages of one layer, closed by LOAD_END. -/
def layerMsgs (img : List Byte) (l : Nat) : List (List Byte) :=
  ((secs img).filter (fun s => s.layer == l)).flatMap (fun s => rangeMsgs img s.off s.len) ++ [linkMsg 0x14 0 (leBytes 2 l)]

/-- Header, table, DIGESTS and SIGNATURE, sent first (R508). -/
def headMsgs (img : List Byte) : List (List Byte) :=
  rangeMsgs img 0 (256 + 32 * imgSections img)
    ++ ((secs img).filter (fun s => s.ty == 1 || s.ty == 9)).flatMap (fun s => rangeMsgs img s.off s.len)

/-- The global sections, sent last, closed by LOAD_END with 0xFFFF (log entry 23). -/
def globalMsgs (img : List Byte) : List (List Byte) :=
  ((secs img).filter (fun s => s.layer == 0xFFFF && s.ty != 1 && s.ty != 9)).flatMap (fun s => rangeMsgs img s.off s.len)
    ++ [linkMsg 0x14 0 (leBytes 2 0xFFFF)]

/-- Port dies to which a load forwards an image of this identity (R359). -/
def forwardPorts (s : State) (cmd ident : List Byte) : List Nat :=
  (List.range 16).filter (fun k => ldForward cmd k && linkUp s k && (getLink s k).asks.contains (ident.take 32))

/-- A verified image forwarded whole, layer by layer (R359). -/
def forwardImage (s : State) (l : Load) : State :=
  (forwardPorts s l.cmd (identity l.image)).foldl (fun s k =>
    sendMsgs s k (headMsgs l.image ++ (List.range (imgLayers l.image)).flatMap (layerMsgs l.image) ++ globalMsgs l.image)) s

/-! ### What a load reads of the host (R352, R354, R364) -/

/-- The bytes of the header, the section table, DIGESTS and SIGNATURE (R352 step 1). -/
def headBytes (img : List Byte) : Nat :=
  min img.length (256 + 32 * imgSections img + (((secs img).filter (fun s => s.ty == 1 || s.ty == 9)).map (·.len)).sum)

/-- Bytes of a host image counted as read. -/
def countRead (s : State) (l : Load) (n : Nat) : State := if l.fromLink then s else addF s Reg.HST_RD_BYTES n 0

/-! ### LOAD_FORME (R352 to R356) -/

/-- What refuses a load after step 1 of R352 and before its layers are read: the signature and EXPECT. -/
def headRefusal (s : State) (l : Load) : Option (State → State) :=
  match checksEarly s.keys l.image with
  | some r => some (fun s => refuseLoad s l r)
  | none =>
    if imgLayers l.image = 0 then some (fun s => finishLoad s l Sts.ZERO_LENGTH 0)
    else if ldExpects l.cmd ∧ (identity l.image).take 32 ≠ ldExpect l.cmd then some (fun s => finishLoad s l Sts.EXPECT_MISMATCH 0)
    else none

/-- A load command of a forme that is refused: its index is EMPTY again. -/
def freeIndex (s : State) (l : Load) : State :=
  let s := if ldKind l.cmd = 0x20 then setFState s (ldForme l.cmd) 0 else s
  loadStat s (ldForme l.cmd) 0

/-- A forme loaded from its image (R352 to R355, R206 to R208): the head is read and checked, then the layers, unless a copy
of the identity is there; a replica is filled from that copy. -/
def formeLoad (s : State) (l : Load) : State :=
  let s := countRead (dropLoad s l) l (headBytes l.image)
  match headRefusal s l with
  | some f => f (freeIndex s l)
  | none =>
    let twin := s.formes.find? (fun f => f.2.ident == identity l.image && resident s f.1)
    match twin, ldReplica l.cmd with
    | some (j, _), false => loadRecord (freeIndex s l) l.queue (cidOf l.cmd) 0 j Sts.ALREADY_RESIDENT 0 0x02
    | some (_, g), true =>
      match checksForme g.image with
      | some r => refuseLoad (freeIndex s l) l r
      | none => placeForme s { l with image := g.image }
    | none, _ =>
      if !stackRoom s (goldenSize l.image) then finishLoad (freeIndex s l) l Sts.STACK_FULL 0
      else
        let s := countRead s l (l.image.length - headBytes l.image)
        match (checksStream l.image) <|> checksForme l.image with
        | some r => refuseLoad (freeIndex s l) l r
        | none => placeForme (if l.fromLink then s else forwardImage s l) l

/-! ### Slots (R270 to R282) -/

/-- The (layer, place) pairs that slots of a kind occupy on a forme. -/
def takenPlaces (s : State) (fi : Nat) (variant : Bool) : List (Nat × Nat) :=
  (s.slots.filter (fun x => x.2.forme == fi && x.2.isVariant == variant)).flatMap (fun x => x.2.need)

/-- The lowest `n` free places of a layer. -/
def freePlaces (taken : List (Nat × Nat)) (layer total n : Nat) : Option (List (Nat × Nat)) :=
  let l := ((List.range total).filter (fun i => !taken.contains (layer, i))).take n
  if l.length = n then some (l.map (fun i => (layer, i))) else none

/-- The layers an image covers, with the bytes of each (R347). -/
def slotLayers (img : List Byte) : List (Nat × Nat) := ((secs img).filter (fun s => s.ty == 6)).map (fun s => (s.layer, s.len))

/-- The private experts a variant holds at a layer (R272). -/
def privateCount (f : Forme) (layer len : Nat) : Nat :=
  match expertsAt f.image layer with
  | some x => if x.imageBytes = 0 then 0 else len / x.imageBytes
  | none => 0

/-- A variant holds no more private experts than each layer has private slots (R270). -/
def variantFits (f : Forme) (img : List Byte) : Bool :=
  (slotLayers img).all (fun x => decide (privateCount f x.1 x.2 ≤ ((expertsAt f.image x.1).map (·.privSlots)).getD 0))

/-- Places for a variant: enough FREE private slots in every layer it covers (R272). -/
def variantPlaces (s : State) (fi : Nat) (f : Forme) (img : List Byte) : Option (List (Nat × Nat)) :=
  let taken := takenPlaces s fi true
  let ps := (slotLayers img).map (fun x =>
    freePlaces taken x.1 (((expertsAt f.image x.1).map (·.privSlots)).getD 0) (privateCount f x.1 x.2))
  if ps.all (·.isSome) then some (ps.flatMap (fun p => p.getD [])) else none

/-- Layers of a forme with overlay targets, and its number of overlay slots (R253, R256). -/
def targetLayers (f : Forme) : List Nat :=
  (List.range (imgLayers f.image)).filter (fun l => (expertsAt f.image l).any (fun x => x.targets != 0))
def overlaySlots (f : Forme) : Nat :=
  ((targetLayers f).head?.bind (fun l => (expertsAt f.image l).map (·.overlaySlots))).getD 0

/-- Places for an overlay: one numbered slot, in every layer that has targets. -/
def overlayPlaces (s : State) (fi : Nat) (f : Forme) : Option (List (Nat × Nat)) :=
  let used := (takenPlaces s fi false).map (·.2)
  match (List.range (overlaySlots f)).find? (fun i => !used.contains i) with
  | some i => some ((targetLayers f).map (fun l => (l, i)))
  | none => none

/-- Two loads or slots are of one overlay or variant (R277). -/
def sameTarget (fi tenant number : Nat) (variant : Bool) (x : Slot) : Bool :=
  x.forme == fi && x.tenant == tenant && x.isVariant == variant && (variant || x.number == number)

/-- A slot's data written into its regions, or zeros: private experts follow the cold slots in the
EXPERT_SLOT regions (log entry 17). -/
def fillSlot (s : State) (x : Slot) (zero : Bool) : State :=
  match getForme s x.forme with
  | some f =>
    (slotLayers x.image).foldl (fun s lb =>
      let data := ((secsOf x.image 6 lb.1).head?.map (secBytes x.image)).getD []
      let e := expertsAt f.image lb.1
      let mine := x.need.filter (fun n => n.1 == lb.1)
      (mine.mapIdx (fun i n => (i, n.2))).foldl (fun s ip =>
        let kind := if x.isVariant then 0x07 else 0x08
        let place := if x.isVariant then (e.map (·.coldSlots)).getD 0 + ip.2 else ip.2
        let size := (e.map (·.imageBytes)).getD 0
        if zero then writeSlotData s f lb.1 kind place (List.replicate (slotBytes f lb.1 kind place) 0)
        else if x.isVariant then writeTiles s f lb.1 place (slice data (size * ip.1) size)
        else writeSlotData s f lb.1 kind place data) s) s
  | none => s

/-- A newer load of one overlay or variant cancels the earlier one (R277), whether that waits for a slot, for its image or
for the stack tier, or is LOADING. -/
def supersede (s : State) (fi tenant number : Nat) (variant : Bool) : State :=
  let waiting := s.loads.filter (fun l => ldForme l.cmd == fi && tenantOf l.cmd == tenant
    && ldKind l.cmd == (if variant then 0x23 else 0x24) && (variant || ldOverlay l.cmd == number))
  let s := waiting.foldl (fun s l => finishLoad (dropLoad s l) l Sts.CANCELLED 0) s
  let live := s.slots.filter (fun x => x.2.st == .loading && sameTarget fi tenant number variant x.2)
  live.foldl (fun s x =>
    let s := { s with slots := kset s.slots x.1 { x.2 with st := .scrubbing } }
    loadRecord s x.2.queue x.2.cid x.2.tenant fi Sts.CANCELLED 0 0x02) s

/-- A slot taken by a load: LOADING, its image landing (R275). -/
def takeSlot (s : State) (l : Load) (variant : Bool) (need : List (Nat × Nat)) : State :=
  let x : Slot :=
    { st := .loading, isVariant := variant, forme := ldForme l.cmd, tenant := tenantOf l.cmd
      number := if variant then 0 else ldOverlay l.cmd, version := imgVersion l.image, pub := ldPublic l.cmd
      need := need, image := l.image, pins := 0, queue := l.queue, cid := cidOf l.cmd }
  let k := (kfree s.slots 0 (s.slots.length + 1)).getD 0
  let s := { s with slots := kset s.slots k x }
  loadStat (fillSlot s x false) x.forme 6

/-- A variant or overlay load from its image (R272, R275 to R277), in the order of R352. -/
def slotLoad (s : State) (l : Load) : State :=
  let fi := ldForme l.cmd
  let img := l.image
  let variant := ldKind l.cmd == 0x23
  let s := countRead (dropLoad s l) l (headBytes img)
  match checksEarly s.keys img, getForme s fi with
  | some r, _ => refuseLoad s l r
  | none, none => finishLoad s l Sts.FORME_UNKNOWN 0
  | none, some f =>
    if ldExpects l.cmd ∧ (identity img).take 32 ≠ ldExpect l.cmd then finishLoad s l Sts.EXPECT_MISMATCH 0
    else if (slotLayers img) = [] then finishLoad s l Sts.ZERO_LENGTH 0
    else if imgBase img ≠ f.ident ∨ imgKind img ≠ (if variant then 1 else 2)
        ∨ (!variant ∧ imgOverlay img ≠ ldOverlay l.cmd) ∨ (variant ∧ !variantFits f img) then
      finishLoad s l Sts.LOAD_SHAPE 0
    else if !stackRoom s (goldenSize img) then finishLoad s l Sts.STACK_FULL 0
    else
      let s := countRead s l (img.length - headBytes img)
      match checksSlot s.keys img with
      | some r => refuseLoad s l r
      | none =>
        let s := supersede s fi (tenantOf l.cmd) (ldOverlay l.cmd) variant
        match (if variant then variantPlaces s fi f img else overlayPlaces s fi f) with
        | some need => takeSlot s l variant need
        | none =>
          let s := { s with loads := s.loads ++ [{ l with slotWait := true }] }
          loadStat (loadRecord s l.queue (cidOf l.cmd) (tenantOf l.cmd) fi Sts.OVERLAY_SLOT_WAIT 0 0x03) fi 1

/-- Waiting slot loads begin as slots become FREE (R276). -/
def retrySlots (s : State) : State :=
  syncGolden ((s.loads.filter (fun l => l.slotWait)).foldl (fun s l =>
    match getForme s (ldForme l.cmd) with
    | some f =>
      let variant := ldKind l.cmd == 0x23
      match (if variant then variantPlaces s (ldForme l.cmd) f l.image else overlayPlaces s (ldForme l.cmd) f) with
      | some need => takeSlot (dropLoad s l) l variant need
      | none => s
    | none => finishLoad (dropLoad s l) l Sts.CANCELLED 0) s)

/-! ### REPLACE (R363 to R370) -/

/-- Shape equality (R363): of EXPERTS the header and the expert records; the target records may differ. -/
def shapeEqual (a b : List Byte) : Bool :=
  let pick := fun (img : List Byte) (t : Nat) => ((secs img).filter (fun s => s.ty == t)).map (fun s => (s.layer, s.layout, secBytes img s))
  let lens := fun (img : List Byte) => ((secs img).filter (fun s => s.ty == 6)).map (fun s => (s.layer, s.len))
  let noPop := fun (x : Experts) => { x with pop := [], target := [], maxRank := [], uTensor := [], uA0 := [], targetsOk := true }
  imgLayers a == imgLayers b && imgFill a == imgFill b && imgB a == imgB b && imgH a == imgH b && imgL a == imgL b
    && imgSampler a == imgSampler b && pick a 4 == pick b 4 && pick a 5 == pick b 5 && pick a 8 == pick b 8 && lens a == lens b
    && (List.range (imgLayers a)).all (fun l => (expertsAt a l).map noPop == (expertsAt b l).map noPop)

/-- The changed layers (R364). -/
def changedLayers (old new : List Byte) : List Nat :=
  (List.range (imgLayers new)).filter (fun l => layerDigest new l != layerDigest old l
    || (imgLensSeed new != imgLensSeed old && !(declAt new l).sites.isEmpty))

/-- Streams of a forme that stands at no barrier released from BARRIER (R367). -/
def liftBarrier (s : State) (fi : Nat) : State :=
  if atBarrier s fi then s else mapForme s fi (fun x => settleHold { x with holdBarrier := false })

/-- Streams between steps enter HOLD for BARRIER; the others at their boundary (R366). -/
def raiseBarrier (s : State) (fi : Nat) : State :=
  mapForme s fi (fun x => if x.step.isNone && decide (2 ≤ x.state) then settleHold { x with holdBarrier := true } else x)

/-- The interim record of a staged replacement and its policy (R364 to R366). -/
def stagedReplace (s : State) (fi : Nat) (r : Repl) : State :=
  let s := adjForme s fi (fun f => { f with repl := some { r with staged := true } })
  let s := loadRecord s r.queue r.cid 0 fi Sts.LOAD_STAGED 0 0x03
  if r.policy = 1 then loadStat (raiseBarrier s fi) fi 4 else loadStat s fi 3

/-- The replacement that ends makes room for one that waits, whose changed layers are those that differ from the version
then current (R364, R370); its golden copy goes, or the old one's does (R361, R368). -/
def nextReplace (s : State) (fi : Nat) : State :=
  syncGolden (match getForme s fi with
    | some f =>
      match f.replWait with
      | r :: rest =>
        let r := { r with changed := changedLayers f.image r.image }
        loadStat (settleFState (setForme s fi { f with repl := some r, replWait := rest }) fi) fi 1
      | [] => loadStat (settleFState (setForme s fi { f with repl := none }) fi) fi 0
    | none => s)

/-- A layer of the placement written from an image (R360, R367). -/
def writeLayer (s : State) (fi layer : Nat) (f : Forme) (img : List Byte) : State :=
  refillCold (fillParts s img (f.parts.filter (fun p => p.live && p.layer == layer))) fi layer f img

/-- A part region or LOADED cold slot of a layer differs from the golden copy (R372). -/
def waferDiffers (s : State) (fi layer : Nat) (f : Forme) : Bool :=
  (f.parts.filter (fun p => p.live && p.layer == layer)).any (fun p =>
      regionsDiffer s (regionsOf f.image p 0x01) (slice (weightsBytes f.image layer) p.weightOff p.weightLen))
    || match s.cold.find? (fun c => c.forme == fi && c.layer == layer), expertsAt f.image layer with
      | some c, some x => (c.slots.mapIdx (fun i y => (i, y))).any (fun iy => decide (iy.2.st = .loaded)
          && tilesDiffer s f layer iy.1 (expertImage f.image layer x iy.2.expert))
      | _, _ => false

/-- Layers that wait for a barrier are written again once no step of the forme is in flight; a quarantined layer is then
sound, and the streams leave the barrier (R372, R374). -/
def rewriteNow (s : State) (fi : Nat) : State :=
  match getForme s fi with
  | some f =>
    if f.rewrite = [] ∨ s.serve.streams.any (fun e => e.2.forme == fi && e.2.step.isSome) then s
    else
      let s := f.rewrite.foldl (fun s l => writeLayer s fi l f f.image) s
      let q := f.quarantined.filter (fun l => !f.rewrite.contains l)
      let s := adjForme s fi (fun f => { f with rewrite := [], quarantined := q })
      liftBarrier (if getF s Reg.LOAD_F_STATE fi = 4 then settleFState s fi else s) fi
  | none => s

/-- The end of a swap (R367, R369): the new version becomes current. -/
def finishSwap (s : State) (fi : Nat) (f : Forme) (r : Repl) : State :=
  let s := setForme s fi { f with image := r.image, ident := r.ident, gen := f.gen + 1, vocab := Config.vocabulary r.image,
                                   keepHost := r.keepHost }
  let s := addF s Reg.LOAD_F_GEN 1 fi
  let s := mapForme s fi (fun x =>
    if x.ident = r.ident then x
    else { x with ident := r.ident, gen := f.gen + 1, crossed := true, everCrossed := true })
  let s := reportForme s fi
  let n := r.changed.length
  liftBarrier (nextReplace (loadRecord (loadProgress s n n r.image.length) r.queue r.cid 0 fi Sts.OK n 0x02) fi) fi

/-- A rollback (R368): layers already swapped are written again from the old golden copy. -/
def rollBack (s : State) (fi : Nat) (f : Forme) (r : Repl) : State :=
  let s := (r.changed.take (r.written + 1)).foldl (fun s l => writeLayer s fi l f f.image) s
  let s := mapForme s fi (fun x => { x with ident := f.ident, gen := f.gen })
  liftBarrier (nextReplace (loadRecord s r.queue r.cid 0 fi Sts.LOAD_ROLLED_BACK 0 0x02) fi) fi

/-- The replacement that a load command asks for. -/
def replOf (l : Load) (f : Forme) : Repl :=
  { image := l.image, ident := identity l.image, policy := ldPolicy l.cmd, queue := l.queue, cid := cidOf l.cmd
    changed := changedLayers f.image l.image, keepHost := ldHost l.cmd, staged := false, swapping := false, written := 0 }

/-- The bytes that a replacement reads: the head, its changed layers and the global sections (R364). -/
def Repl.readBytes (r : Repl) : Nat :=
  256 + 32 * imgSections r.image
    + (((secs r.image).filter (fun x => x.layer == 0xFFFF || r.changed.contains x.layer)).map (·.len)).sum

/-- A REPLACE just fetched, its image complete (R352, R363, R370). -/
def replaceStart (s : State) (l : Load) : State :=
  let fi := ldForme l.cmd
  match getForme s fi with
  | none => finishLoad s l Sts.FORME_BUSY 0
  | some f =>
    let r := replOf l f
    match f.repl with
    | some old =>
      if old.swapping || (old.staged && old.policy == 1) then setForme s fi { f with replWait := f.replWait ++ [r] }
      else
        let s := loadRecord s old.queue old.cid 0 fi Sts.CANCELLED 0 0x02
        if old.ident = r.ident then
          let r := { r with staged := old.staged }
          if old.staged then stagedReplace s fi r else setForme s fi { f with repl := some r }
        else loadStat (setForme s fi { f with repl := some r }) fi 1
    | none => loadStat (settleFState (setForme s fi { f with repl := some r }) fi) fi 1

/-- REPLACE from its image (R352, R355, R363, R364): the head is read and checked, then the changed layers and the global
sections. -/
def replaceLoad (s : State) (l : Load) : State :=
  let s := countRead (dropLoad s l) l (headBytes l.image)
  match headRefusal s l, getForme s (ldForme l.cmd) with
  | some f, _ => f s
  | none, none => finishLoad s l Sts.FORME_BUSY 0
  | none, some f =>
    if !shapeEqual f.image l.image then finishLoad s l Sts.LOAD_SHAPE 0
    else if !stackRoom s (replOf l f).newBytes then finishLoad s l Sts.STACK_FULL 0
    else replaceStart (countRead s l ((replOf l f).readBytes - headBytes l.image)) l

/-! ### All load kinds -/

/-- A load command with its complete image runs. -/
def loadRun (s : State) (l : Load) : State :=
  syncGolden (if ldKind l.cmd = 0x20 then formeLoad s l
    else if ldKind l.cmd = 0x21 then replaceLoad s l
    else slotLoad s l)

/-- A load command that waits for its image or for the stack tier; a slot's supersedes an earlier one (R277, R357, R482). -/
def holdLoad (s : State) (l : Load) : State :=
  let k := ldKind l.cmd
  let s := if k = 0x23 ∨ k = 0x24 then supersede s (ldForme l.cmd) (tenantOf l.cmd) (ldOverlay l.cmd) (k == 0x23) else s
  let s := if k = 0x20 then setFState s (ldForme l.cmd) 1 else s
  loadStat { s with loads := s.loads ++ [l] } (ldForme l.cmd) 1

/-- Held load commands proceed once the stack tier is trained (R482). -/
def retryHeld (s : State) : State :=
  if tierTrained s then
    (s.loads.filter (fun l => !l.capacity && !l.slotWait && !l.fromLink)).foldl loadRun s
  else s

/-- What refuses a load command at fetch (R348 to R351, R357, R496), in this order. -/
def loadCommon (s : State) (q kind : Nat) (rec : List Byte) : Option Nat :=
  let fi := ldForme rec
  let st := getF s Reg.LOAD_F_STATE fi
  let reads := decide (kind ∈ [0x20, 0x21, 0x23, 0x24])
  if !onF s Reg.SRV_Q_CTL_ADMIN q then some Sts.NOT_ADMIN
  else if !ldFieldsOk kind rec then some Sts.BAD_PARAMS
  else if reads ∧ !ldFromLink rec ∧ ldLength rec = 0 then some Sts.ZERO_LENGTH
  else if ldFromLink rec ∧ !ldExpects rec then some Sts.BAD_PARAMS
  else if kind = 0x20 ∧ st ≠ 0 then some Sts.FORME_BUSY
  else if kind = 0x21 ∧ !resident s fi then some Sts.FORME_BUSY
  else if kind = 0x22 ∧ (!(st = 2 ∨ st = 4) ∨ (getForme s fi).any (fun f => f.repl.isSome)) then some Sts.FORME_BUSY
  else if kind ∉ [0x20, 0x21, 0x22] ∧ !resident s fi then some Sts.FORME_UNKNOWN
  else if reads ∧ !ldFromLink rec ∧ !inWindows s (ldAddr rec) (ldLength rec) false then some Sts.BAD_ADDRESS
  else none

/-- A load command that reads an image: from host memory, or asked for on every trained link (R357). -/
def loadStart (s : State) (q kind : Nat) (rec : List Byte) (src : LoadSource) : State :=
  match loadCommon s q kind rec with
  | some st => loadRecord s q (cidOf rec) (tenantOf rec) (ldForme rec) st 0 0x02
  | none =>
    let l : Load :=
      { queue := q, cmd := BitVec.ofNat 8 kind :: rec.drop 1, image := if ldFromLink rec then [] else src.image
        source := none, offers := [], layersOk := 0, fromLink := ldFromLink rec, capacity := false, slotWait := false
        since := s.lampTime }
    if ldFromLink rec then
      if getF s Reg.LOAD_LINK_WAIT 0 = 0 then finishLoad s l Sts.LINK_SOURCE 0
      else if !stackRoom s (ldLength rec) then finishLoad s l Sts.STACK_FULL 0
      else ((List.range 16).filter (linkUp s)).foldl (fun s k => linkSend s k (linkMsg 0x10 0 (ldExpect rec))) (holdLoad s l)
    else if src.fails ∨ src.image.length ≠ ldLength rec then finishLoad s l Sts.BAD_ADDRESS 0
    else if tierTrained s then loadRun s l
    else holdLoad s l

end Sys2Proof.Machine
end

