-- ==== Sys2Proof/Machine/Experts.lean ====
section
/-! DEFINITION. Experts (R251 to R268, R273, R281): routing, gate weights, the cold slots' binding, and which tokens meet the
weights of a slot. -/

namespace Sys2Proof.Machine

/-! ### Layers with experts -/

/-- The experts of a layer, changed. -/
def modCold (s : State) (fi layer : Nat) (g : ColdLayer → ColdLayer) : State :=
  { s with cold := s.cold.map (fun c => if c.forme = fi ∧ c.layer = layer then g c else c) }

/-- The experts of a layer. -/
def coldAt (s : State) (fi layer : Nat) : Option ColdLayer := s.cold.find? (fun c => c.forme == fi && c.layer == layer)

/-- What the layer's expert parts count for the EXPERT record (R284). -/
def countExperts (s : State) (layer : Nat) (g : ExpertCount → ExpertCount) : State :=
  { s with tele := { s.tele with experts := kmod s.tele.experts layer ⟨0, 0, 0, 0, 0⟩ g } }

/-- A count of R284 raised; it saturates. -/
def bumpCount (n k : Nat) : Nat := min (n + k) 0xFFFFFFFF

/-- The cores of a layer's EXPERT_SLOTS parts (R189). -/
def slotCores (f : Forme) (layer : Nat) : List CoreRef :=
  (f.parts.filter (fun p => p.live && p.layer == layer && p.flags / 4 % 2 == 1)).flatMap (fun p => p.cores.map (fun x => x.2.2))

/-! ### Cold slots (R261 to R268) -/

/-- The popularity of a cold expert (R264). -/
def popularity (x : Experts) (y : ColdLayer) (e : Nat) : Nat :=
  if y.passed < 4096 then x.pop.getD e 0 else kgetD y.counts e 0

/-- The expert is bound to a slot (R261). -/
def ColdLayer.bound (y : ColdLayer) (e : Nat) : Bool := y.slots.any (fun c => c.st != .empty && c.expert == e)

/-- A slot that is never evicted (R262): STREAMING, or with an expert that the pass in flight has selected. -/
def ColdLayer.guarded (y : ColdLayer) (c : ColdSlot) : Bool :=
  c.st == .streaming || (c.st == .loaded && y.selected.any (fun z => !z.closed && z.experts.contains c.expert))

/-- The slot that goes first of two (R263): lower popularity, then higher expert index, then lower slot index. -/
def evictFirst (x : Experts) (y : ColdLayer) (a b : Nat × ColdSlot) : Bool :=
  let p := popularity x y a.2.expert
  let q := popularity x y b.2.expert
  decide (p < q ∨ (p = q ∧ (b.2.expert < a.2.expert ∨ (a.2.expert = b.2.expert ∧ a.1 ≤ b.1))))

/-- The slot to bind (R263): EMPTY ones, then LOADED ones outside the predicted set, then the other LOADED ones. -/
def slotToBind (x : Experts) (y : ColdLayer) : Option Nat :=
  let all := y.slots.mapIdx (fun i c => (i, c))
  let loaded := (all.filter (fun c => c.2.st == .loaded && !y.guarded c.2)).mergeSort (evictFirst x y)
  ((all.find? (fun c => c.2.st == .empty)).map (·.1))
    <|> ((loaded.find? (fun c => !y.predicted.contains c.2.expert)).map (·.1))
    <|> (loaded.head?.map (·.1))

/-- A cold expert bound to a slot, STREAMING (R261); none where it is bound or no slot is free. -/
def bindExpert (x : Experts) (y : ColdLayer) (e : Nat) (miss : Bool) : Option ColdLayer :=
  if y.bound e then none
  else (slotToBind x y).map (fun i => { y with slots := y.slots.set i ⟨.streaming, e, 0, miss⟩ })

/-- Experts bound in order while a slot is left (R267, R268), and how many were. -/
def bindExperts (x : Experts) (miss : Bool) : ColdLayer → List Nat → ColdLayer × Nat
  | y, [] => (y, 0)
  | y, e :: es =>
    match bindExpert x y e miss with
    | some z => let r := bindExperts x miss z es; (r.1, r.2 + 1)
    | none => bindExperts x miss y es

/-- Unbound experts in binding order (R267): higher popularity, then lower index. -/
def bindOrder (x : Experts) (y : ColdLayer) (es : List Nat) : List Nat :=
  (es.filter (fun e => !y.bound e)).mergeSort (fun a b =>
    decide (popularity x y b < popularity x y a ∨ (popularity x y a = popularity x y b ∧ a ≤ b)))

/-- The cold experts that tokens of the pass in flight have selected and that no slot holds: those whose miss found no slot
to bind (R251, R268). -/
def ColdLayer.unbound (x : Experts) (y : ColdLayer) : List Nat :=
  ((y.selected.filter (fun z => !z.closed)).flatMap (·.experts)).filter (fun e => x.cold.getD e false && !y.bound e)

/-- Slots may have become free: the misses that found none are bound (R251, R268). -/
def rebindMisses (s : State) (fi layer : Nat) : State :=
  match coldAt s fi layer, (getForme s fi).bind (fun f => expertsAt f.image layer) with
  | some y, some x =>
    let b := bindExperts x true y (y.unbound x).dedup
    if b.2 = 0 then s
    else countExperts (modCold s fi layer (fun _ => b.1)) layer (fun n =>
      { n with streams := bumpCount n.streams b.2, misses := bumpCount n.misses b.2 })
  | _, _ => s

/-- A core of a slot part ends its pass: the selections of a pass that every such core has ended protect no more (R262).
That each core ends the pass once after its layer's selection is a DESIGN CHOICE (log entry 87). -/
def endSlots (s : State) (c : CoreRef) : State :=
  match partOfCore s c with
  | some (fi, f, p) =>
    if p.flags / 4 % 2 = 1 then
      let n := (slotCores f p.layer).length
      rebindMisses (modCold s fi p.layer (fun y => { y with
        selected := y.selected.map (fun x => { x with ends := x.ends + 1, closed := x.closed || decide (n ≤ x.ends + 1) }) }))
        fi p.layer
    else s
  | none => s

/-- The STREAMING slot of a cold expert in the layer of a slot part's core (R261). -/
def streamingSlot (s : State) (c : CoreRef) (e : Nat) : Option ColdBind :=
  (partOfCore s c).bind (fun p => (coldAt s p.1 p.2.2.layer).bind (fun y =>
    (y.slots.findIdx? (fun z => z.st == .streaming && z.expert == e)).map (fun i => ⟨p.1, p.2.2.layer, i, e⟩)))

/-! ### Routing (R251, R257 to R259) -/

/-- The exact sum of a row of a stationary tensor with the router's input (R257, R266). -/
def logitSum (fmt : Fmt) (anchor : Int) (input : List Elem) (row : List Byte × List Byte) : Acc × Bool :=
  exactClosed .n4 fmt anchor (packedBlocks row.1 row.2 (List.range (input.length / 32))) input

/-- A logit (R257): the sum, rounded once to F32. -/
def logitOf (x : Acc × Bool) : Nat := FloatShape.f32.encode (x.1.scaled none)

/-- The variant of a request, with its private experts at a layer (R257, R270, R271). -/
def variantOf (s : State) (y : Stream) (f : Forme) (layer : Nat) : Option (Slot × Nat) :=
  (y.variant.bind (kget? s.slots)).map (fun v =>
    (v, ((((slotLayers v.image).find? (fun l => l.1 == layer)).map (fun l => privateCount f layer l.2)).getD 0)))

/-- The router's rows by expert index: those of the routed experts, then those of the private ones of the request's variant
(R257). -/
def routerRows (s : State) (y : Stream) (f : Forme) (x : Experts) (layer : Nat) : List (List Byte × List Byte) :=
  (List.range x.routed).map (Config.tensorRow f.image layer x.routerTensor)
    ++ (match variantOf s y f layer with
      | some (v, n) => (List.range n).map (Config.tensorRow v.image layer x.routerTensor)
      | none => [])

/-- The selected experts by ascending index (R258). -/
def selectExperts (x : Experts) (logits : List Nat) : List Nat := topRanked x.topk ((List.range logits.length).zip logits)

/-- The gate weights of selected experts' logits, as B16 bits (R259). -/
def gateWeights (fn : Nat) (ls : List Nat) : List Nat :=
  let m := largestF32 ls
  let es := ls.map (fun l => if fn = 0 then exp2Bits (subF32 l m) else sigmoidBits l)
  let r := rcpF32 (es.foldl addF32 0)
  es.map (fun e => FloatShape.b16.encode (f32 (mulF32 e r)))

/-- A position passes a layer with its selection (R264): counts of cold experts, halved at each multiple of 65,536
positions. -/
def ColdLayer.pass (y : ColdLayer) (x : Experts) (sel : List Nat) : ColdLayer :=
  let n := y.passed + 1
  let cs := (sel.filter (fun e => x.cold.getD e false)).foldl (fun m e => kmod m e 0 (· + 1)) y.counts
  { y with passed := n, counts := if n % 65536 = 0 then cs.map (fun c => (c.1, c.2 / 2)) else cs }

/-- The router of a layer has selected for a token (R258, R262, R264, R268): recorded, counted, and cold experts that are
not bound are bound at once. -/
def routed (s : State) (fi layer : Nat) (x : Experts) (y : ColdLayer) (req pos : Nat) (sel : List Nat) : State :=
  let cold := sel.filter (fun e => x.cold.getD e false)
  let hits := cold.filter y.bound
  let z := { y.pass x sel with
    selected := y.selected.filter (fun k => !(k.req == req && k.pos == pos)) ++ [⟨req, pos, sel, 0, false⟩] }
  let b := bindExperts x true z (cold.filter (fun e => !y.bound e))
  countExperts (modCold s fi layer (fun _ => b.1)) layer (fun n =>
    { n with
      selections := bumpCount n.selections (sel.filter (fun e => decide (e < x.routed))).length
      streams := bumpCount n.streams b.2, hits := bumpCount n.hits hits.length, misses := bumpCount n.misses b.2 })

/-- Routing of a stamp's token at its layer (R257 to R259): the gate weights go to `dst` in B16, by ascending expert. -/
def closeRouter (s : State) (c : CoreRef) (dst : Nat) (stamp : Word64) (input : PackedSrc) (anchor : Int) (recomputeLen : Nat)
    (who : Who) : State :=
  let layer := stampLayer stamp
  match streamOfReq s (stampReq stamp) with
  | some (_, y) =>
    match getForme s y.forme, coldAt s y.forme layer with
    | some f, some cl =>
      match expertsAt f.image layer with
      | some x =>
        let cols := ((((declAt f.image layer).tensors.find? (fun t => t.idx == x.routerTensor)).map Tensor.cols)).getD 0
        withPacked s c input cols who (fun s q poison =>
          let sums := (routerRows s y f x layer).map (logitSum input.fmt anchor q)
          let ls := sums.map logitOf
          let sel := selectExperts x ls
          let ws := gateWeights x.gateFn (sel.map (fun e => ls.getD e 0))
          routed (writeVals (countSums s c layer (some recomputeLen) who sums) c .b16 dst 0 (ws.map b16) poison who) y.forme layer x cl (stampReq stamp) (stampPos stamp) sel)
      | none => s
    | _, _ => s
  | none => s

/-! ### The combination of experts (R260) -/

/-- The outputs at several addresses, read through the wide port, and their poison. -/
def withOuts (c : CoreRef) (n : Nat) (who : Who) :
    List Nat → State → (State → List (List Elem) → Bool → State) → State
  | [], s, f => f s [] false
  | a :: r, s, f => withPacked s c ⟨a, 0, .b16⟩ n who (fun s xs p =>
      withOuts c n who r s (fun s ys q => f s (xs :: ys) (p || q)))

/-- The sums of a layer's output elements (R260): the products w[i] × y[i][j] of the selected experts and 1.0 × y[s][j] of the
shared ones, each exact. -/
def combineSums (anchor : Int) (n : Nat) (ws : List Elem) (ys shared : List (List Elem)) : List (Acc × Bool) :=
  (List.range n).map (fun j => exactClosed .b16 .b16 anchor (ws ++ shared.map (fun _ => Elem.val 1))
    ((ys ++ shared).map (fun y => y.getD j .skip)))

/-- The layer output of a token with experts (R260): one reduction for each element, rounded once. -/
def closeCombine (s : State) (c : CoreRef) (out : Fmt) (dst scaleDst : Nat) (stamp : Word64) (x : CombineSrc) (recomputeLen : Nat)
    (who : Who) : State :=
  withPacked s c ⟨x.weights, 0, .b16⟩ x.outs.length who (fun s ws p =>
    withOuts c x.count who x.outs s (fun s ys q => withOuts c x.count who x.shared s (fun s zs r =>
      let sums := combineSums x.anchor x.count ws ys zs
      writeVals (countSums s c (stampLayer stamp) (some recomputeLen) who sums) c out dst scaleDst
        (sums.map (fun a => a.1.scaled none)) (p || q || r) who)))

/-! ### The predictor (R266, R267) -/

/-- A predicted set received (R267): its unbound experts are bound while a slot is left. That the set arrives with the close
that completes it is a DESIGN CHOICE (log entry 87). -/
def predicted (s : State) (fi layer : Nat) (x : Experts) (y : ColdLayer) (es : List Nat) : State :=
  let z := { y with predicted := es, predicting := [] }
  let b := bindExperts x false z (bindOrder x z es)
  countExperts (modCold s fi layer (fun _ => b.1)) layer (fun n => { n with streams := bumpCount n.streams b.2 })

/-- The predictor of layer L in the pass of layer PRED_FROM = L − 2, for one batch slot (R266): the PRED_K cold experts of
the highest sums join the set that is forming; the last slot's set is sent. PRED_TENSOR is a tensor of that layer (DESIGN
CHOICE, log entry 87). -/
def closePredict (s : State) (c : CoreRef) (stamp : Word64) (input : PackedSrc) (anchor : Int) (last : Bool)
    (recomputeLen : Nat) (who : Who) : State :=
  let layer := stampLayer stamp + 2
  match streamOfReq s (stampReq stamp) with
  | some (_, y) =>
    match getForme s y.forme, coldAt s y.forme layer with
    | some f, some cl =>
      match expertsAt f.image layer with
      | some x =>
        if x.predFrom ≠ stampLayer stamp ∨ x.predTensor = 0xFFFF then s
        else
          let cols := ((((declAt f.image (stampLayer stamp)).tensors.find? (fun t => t.idx == x.predTensor)).map Tensor.cols)).getD 0
          withPacked s c input cols who (fun s q _ =>
            let cold := (List.range x.routed).filter (fun e => x.cold.getD e false)
            let sums := cold.map (fun e =>
              logitSum input.fmt anchor q (Config.tensorRow f.image (stampLayer stamp) x.predTensor e))
            let top := topRanked x.predK (cold.zip (sums.map logitOf))
            let set := (cl.predicting ++ top).dedup
            let s := countSums s c (stampLayer stamp) (some recomputeLen) who sums
            if last then predicted s y.forme layer x cl set
            else modCold s y.forme layer (fun z => { z with predicting := set }))
      | none => s
    | _, _ => s
  | none => s

/-! ### Which tokens meet a slot's weights (R252, R273, R280, R281) -/

/-- The numbered region of a kind that holds a core's local address (R196). -/
def slotIndex (f : Forme) (p : Placed) (c : CoreRef) (kind a : Nat) : Option Nat :=
  ((regionsOf f.image p kind).filter (fun r => r.1 == c)).findIdx? (fun r => decide (r.2.addr ≤ a ∧ a < r.2.addr + r.2.len))

/-- The private expert at a place of a layer, of the variant in a slot: its index (R257). -/
def privateAt (v : Slot) (x : Experts) (layer place : Nat) : Option Nat :=
  ((v.need.filter (fun n => n.1 == layer)).findIdx? (fun n => n.2 == place)).map (x.routed + ·)

/-- The experts that a stamp's token selected at the layer of a part. -/
def selectedOf (s : State) (fi layer : Nat) (stamp : Word64) : List Nat :=
  (((coldAt s fi layer).bind (fun z =>
    z.selected.find? (fun k => k.req == stampReq stamp && k.pos == stampPos stamp))).map (·.experts)).getD []

/-- The slot that holds a tile's address of an EXPERT_SLOTS part (R196, R261, R272): a layer's cold slots stand before its
private ones (log entry 17). -/
def tileSlot (s : State) (c : CoreRef) (a : Nat) : Option (Nat × Placed × Experts × Nat) :=
  (partOfCore s c).bind (fun x => (expertsAt x.2.1.image x.2.2.layer).bind (fun e =>
    (slotIndex x.2.1 x.2.2 c 0x07 a).map (fun i => (x.1, x.2.2, e, i))))

/-- The feed of a cold slot's tile waits for an expert that its token selected (R251, R252, R268): the one that streams
into this slot, or one that is not bound yet and may come to it. -/
def coldWaits (s : State) (c : CoreRef) (a : Nat) (stamp : Word64) : Bool :=
  (tileSlot s c a).any (fun x => (coldAt s x.1 x.2.1.layer).any (fun z =>
    decide (x.2.2.2 < x.2.2.1.coldSlots) && (selectedOf s x.1 x.2.1.layer stamp).any (fun e => x.2.2.1.cold.getD e false
      && (!z.bound e || (z.slots[x.2.2.2]?).any (fun k => k.st == .streaming && k.expert == e)))))

/-- A tile of a private expert, whose data is always dense T2 or four-bit (R270). -/
def privateTile (s : State) (c : CoreRef) (a : Nat) : Bool :=
  (tileSlot s c a).any (fun x => decide (x.2.2.1.coldSlots ≤ x.2.2.2))

/-- A stamp's token meets the weights of a tile (R252, R273, R280, R281): an expert's tile only if it selected the expert, a
private expert's only if that is of its request's variant, an overlay's only if its request pins the overlay. -/
def meetsTile (s : State) (c : CoreRef) (a : Nat) (expert : Option Nat) (stamp : Word64) : Bool :=
  match partOfCore s c with
  | none => true
  | some (fi, f, p) =>
    let y := (streamOfReq s (stampReq stamp)).map (·.2)
    let sel := selectedOf s fi p.layer stamp
    match slotIndex f p c 0x07 a, slotIndex f p c 0x08 a, expert with
    | some i, _, _ =>
      match (expertsAt f.image p.layer), coldAt s fi p.layer with
      | some x, some z =>
        if i < x.coldSlots then (z.slots[i]?).any (fun k => k.st == .loaded && sel.contains k.expert)
        else ((y.bind (fun y => y.variant)).bind (kget? s.slots)).any (fun v =>
          (privateAt v x p.layer (i - x.coldSlots)).any sel.contains)
      | _, _ => false
    | none, some i, _ =>
      y.any (fun y => y.overlays.any (fun k => (kget? s.slots k).any (fun v => v.need.contains (p.layer, i))))
    | none, none, some e => sel.contains e
    | none, none, none => true

/-- The A0 of an overlay's intermediate at a target (R255, R273). -/
def overlayA0 (s : State) (c : CoreRef) (target : Nat) : Int :=
  ((partOfCore s c).bind (fun p => (expertsAt p.2.1.image p.2.2.layer).map (fun x => x.uA0.getD target 0))).getD 0

end Sys2Proof.Machine
end

