-- ==== Sys2Proof/Machine/Engine.lean ====
section
/-! DEFINITION. The scalar sequencer and the stream engine (R123 to R135, R176, R177, R192 to R195), the
reorder gate's operations (R159 to R164), and the scrubber (R106). -/

namespace Sys2Proof.Machine

/-! ### Descriptors (R124 to R128) -/

/-- A descriptor read from its 64 bytes. -/
def descOf (b : List Byte) (seq at_ : Nat) (bind : Option ColdBind) : Desc :=
  { seq := seq, kind := leAt b 0 1, flags := leAt b 1 1, prefetcher := leAt b 2 1, depth := leAt b 3 1
    length := leAt b 4 4, src := leAt b 8 8, dst := leAt b 16 8, srcStride := leAt b 24 4, dstStride := leAt b 28 4
    rows := leAt b 32 4, dstScale := leAt b 36 4, stamp := leAt b 40 8, due := leAt b 48 6, tclass := leAt b 54 1 % 8
    eventId := leAt b 55 1, tag := leAt b 56 4, next := 0, outstanding := [], status := .ok
    bind := bind, at_ := at_ }

def Desc.stream (d : Desc) : Bool := d.flags % 2 == 1
def Desc.slug (d : Desc) : Bool := d.flags / 2 % 2 == 1
def Desc.counted (d : Desc) : Bool := d.flags / 4 % 2 == 1
def Desc.event (d : Desc) : Bool := d.flags / 8 % 2 == 1

/-- The fields of an address (R125). -/
def spaceOf (a : Nat) : Nat := a / 2 ^ 60
def localOf (a : Nat) : Nat := a % 2 ^ 19
def wideOf (a : Nat) : Nat := a % 2 ^ 48
def rowOf (a : Nat) : Nat := a / 2 ^ 30 % 2 ^ 10
def colOf (a : Nat) : Nat := a / 2 ^ 19 % 2 ^ 11

/-- The validity checks of R126, which R151 adds its class check to. -/
def Desc.valid (d : Desc) : Bool :=
  decide (1 ≤ d.kind ∧ d.kind ≤ 7) && decide (spaceOf d.src ≤ 3) && decide (spaceOf d.dst ≤ 3)
    && (d.tclass == 0 || (d.tclass == 7 && decide (4 ≤ d.kind)))

/-- Flits outstanding at most (R128). DEPTH ranges to 64: a greater one counts as 64 (DESIGN CHOICE, log entry 79). -/
def Desc.window (d : Desc) : Nat :=
  if d.stream then
    (if d.depth = 0 then
      (if d.kind = 1 then 8 else if d.kind ≤ 3 then 16 else if d.kind ≤ 5 then 48 else 32)
    else min d.depth 64)
  else 1

/-- A whole slug comes in each flit (R127): stack and host reads; the slugs of a remote read or a local copy come
as bytes. -/
def Desc.slugFlits (d : Desc) : Bool := d.slug && (d.kind == 4 || d.kind == 6)

/-- The bytes of a row: LENGTH is a multiple of 16, or of 68 with SLUG; another one is rounded up
(DESIGN CHOICE, log entry 79). -/
def Desc.rowLen (d : Desc) : Nat := if d.slug then (d.length + 67) / 68 * 68 else (d.length + 15) / 16 * 16

/-- Source and destination addresses of a row, without the space. A descriptor runs by its KIND; a valid space that does not
fit it only tells how wide the address is (DESIGN CHOICE, log entry 96). -/
def Desc.srcRow (d : Desc) (r : Nat) : Nat := r * d.srcStride + (if spaceOf d.src ≤ 1 then localOf d.src else wideOf d.src)
def Desc.dstRow (d : Desc) (r : Nat) : Nat := r * d.dstStride + (if spaceOf d.dst ≤ 1 then localOf d.dst else wideOf d.dst)

/-- The address at the remote end of a row, where a remote transfer is cut into words (R131, R132); other transfers
are cut every 64 bytes. -/
def Desc.skew (d : Desc) (r : Nat) : Nat :=
  if d.kind = 2 then d.srcRow r % 64 else if d.kind = 3 then beatAt (d.dstRow r) % 64 else 0

/-- Flits of row `r`: one for each slug, or for each word or 64 bytes touched; a local copy sends none. -/
def Desc.flits (d : Desc) (r : Nat) : Nat :=
  if d.kind = 1 then 0 else if d.slugFlits then d.rowLen / 68 else (d.skew r + d.rowLen + 63) / 64

/-- A flit's number: 2^27 for each row, and its place in the row. -/
def rowBase : Nat := 2 ^ 27
def Desc.rowOf (_ : Desc) (k : Nat) : Nat := k / rowBase
def Desc.inRow (_ : Desc) (k : Nat) : Nat := k % rowBase

/-- The end of the numbers of a transfer's flits. -/
def Desc.total (d : Desc) : Nat := if d.kind = 1 then 0 else d.rows * rowBase

/-- The number after `k`. -/
def Desc.after (d : Desc) (k : Nat) : Nat :=
  if d.inRow k + 1 < d.flits (d.rowOf k) then k + 1 else (d.rowOf k + 1) * rowBase

/-- Nothing is left to send, and nothing is outstanding. -/
def Desc.settled (d : Desc) : Bool := decide (d.total ≤ d.next) && d.outstanding.isEmpty

/-- The offset in its row of flit `k`, and the bytes it moves. -/
def Desc.offOf (d : Desc) (k : Nat) : Nat := if d.slugFlits then 68 * d.inRow k else 64 * d.inRow k - d.skew (d.rowOf k)
def Desc.lenOf (d : Desc) (k : Nat) : Nat :=
  if d.slugFlits then 68 else min (d.rowLen - d.offOf k) (64 * (d.inRow k + 1) - d.skew (d.rowOf k) - d.offOf k)

/-- Source and destination addresses of flit `k`, without the space. -/
def Desc.srcOf (d : Desc) (k : Nat) : Nat := d.srcRow (d.rowOf k) + d.offOf k
def Desc.dstOf (d : Desc) (k : Nat) : Nat := d.dstRow (d.rowOf k) + d.offOf k

/-- The stack of a stack-tier address (R513). -/
def stackOf (a : Nat) : Nat := (stackPlace a).stack

/-- The single window whose FORME bit is set (R496). -/
def formeWindow (s : State) : Option Nat := (List.range 64).find? (fun w => onF s Reg.HST_WIN_CTL_FORME w)

/-- The host address of a space 0x3 offset, where the window holds `n` bytes there (R125, R496). -/
def formeHost (s : State) (off n : Nat) (wr : Bool) : Option Nat :=
  (formeWindow s).bind (fun w =>
    let a := getF s Reg.HST_WIN_BASE w + off
    if inWindow s w a n wr then some a else none)

/-- The rim endpoint of a stack or host address (R149); of the host ports, the first that is up. -/
def rimOf (s : State) (kind a : Nat) : Nat :=
  if kind ≤ 5 then 0x400 + stackOf a
  else 0x430 + (([0, 1, 2, 3].find? (fun h => onF s Reg.HST_PORT_STAT_UP h)).getD 0)

/-- The traffic class of a descriptor's requests (R150, R151). -/
def Desc.cls (d : Desc) : Nat := if d.tclass = 7 then 7 else if d.kind = 2 then 3 else if d.kind = 3 then 2 else 5

def setDesc (s : State) (c : CoreRef) (i : Nat) (d : Desc) : State :=
  modCore s c (fun k => { k with descs := kset k.descs i d })

/-- Port D stores one of the buffered writes that `p` picks, COUNTED ones of a closing bank first, else the oldest (R97,
R432). -/
def nextWrite (s : State) (c : CoreRef) : Option WBuf :=
  let w := (getCore s c).wbuf
  (w.find? (fun x => x.counted && bankShut s c x.addr)) <|> w.head?

/-- Port D stores one buffered write, and the target acknowledges it (R98, R134). -/
def storeOne (s : State) (c : CoreRef) : State :=
  match nextWrite s c with
  | some w =>
    let s := modCore s c (fun k => { k with wbuf := k.wbuf.erase w })
    sendTo (narrowWrite s c w.addr w.data w.poison) c w.src Kind.writeAck 4 w.stamp (freeBytes 0x107 [] 68) false
  | none => s

/-- Port D turns to a request that came as number `at_` (R97): the buffered writes that came before it go first, and so does
the oldest while the write buffer holds 12 entries or more. -/
def portD : Nat → State → CoreRef → Nat → State
  | 0, s, _, _ => s
  | fuel + 1, s, c, at_ =>
    if 12 ≤ (getCore s c).wbuf.length ∨ (getCore s c).wbuf.any (fun w => decide (w.at_ < at_)) then portD fuel (storeOne s c) c at_
    else s

/-- A packet kind whose flits port D serves at their core (R97). -/
def portKind (k : Nat) : Bool := k == Kind.readReq || k == Kind.readData || gateKind k

/-- A request that came before number `at_` waits for port D (R97): a flit before the core, or a local copy. -/
def olderWaits (s : State) (c : CoreRef) (at_ : Nat) : Bool :=
  (getCore s c).inbox.any (fun x => portKind (flitKind x.flit) && decide (x.at_ < at_))
    || (getCore s c).descs.any (fun x => x.2.kind == 1 && decide (x.2.at_ < at_))

/-- Sends flit `k` of a descriptor: a read request, or a write with its data (R131, R132). A local
source outside the store or in a shut bank sends nothing (R93, R433). -/
def sendFlit (s : State) (c : CoreRef) (d : Desc) (k : Nat) : State :=
  if d.kind = 2 ∨ d.kind = 4 ∨ d.kind = 6 then
    let route := if d.kind = 2 then routeWord (colOf d.src) (rowOf d.src) d.cls Kind.readReq
      else routeWord (rimOf s d.kind (d.srcOf k)) 0 d.cls Kind.readReq
    emitPacket s c ⟨BitVec.ofNat 64 d.stamp, route, freeBytes 0x104 [d.kind, d.srcOf k, d.lenOf k] 68, 0, false⟩
  else
    let n := d.lenOf k
    let a := beatAt (d.srcOf k)
    onAccess s c a n none (fun s =>
      let s := meetNarrow s c a n
      let data := slice (storeRead s c a n) 0 64
      let poison := storePoisoned s c a n
      if d.kind = 3 then
        emitPacket s c ⟨BitVec.ofNat 64 d.stamp, routeWord (colOf d.dst) (rowOf d.dst) d.cls Kind.write,
          leBytes 4 (beatAt (d.dstOf k) % 2 ^ 19 + ((n + 15) / 16) * 2 ^ 19) ++ data, 0, poison⟩
      else
        emitPacket s c ⟨BitVec.ofNat 64 d.stamp, routeWord (rimOf s d.kind (d.dstOf k)) 0 d.cls Kind.write,
          freeBytes 0x106 [d.kind, d.dstOf k, n] 4 ++ data, 0, poison⟩)

/-- A prefetcher serves its descriptors one after the other (R128, R129): no earlier one of it is incomplete. PREFETCHER
names one by its whole byte, and 8 to 255, for which the spec has none, each act as one more (DESIGN CHOICE, log entry
96). -/
def firstOf (k : Core) (d : Desc) : Bool :=
  k.descs.all (fun x => !(d.stream && x.2.stream && x.2.prefetcher == d.prefetcher && decide (x.2.seq < d.seq)))

/-- Sends flits while the descriptor's window has room (R128). -/
def pump : Nat → State → CoreRef → Nat → State
  | 0, s, _, _ => s
  | fuel + 1, s, c, i =>
    match kget? (getCore s c).descs i with
    | some d =>
      if firstOf (getCore s c) d && decide (d.next < d.total ∧ d.outstanding.length < d.window) then
        pump fuel (sendFlit (setDesc s c i { d with next := d.after d.next, outstanding := d.outstanding ++ [d.next] }) c d d.next)
          c i
      else s
    | none => s

/-! ### Fences (R176, R177) -/

/-- The condition of a fence: its kind, 0 FENCE.D, 1 FENCE.S, 2 FENCE.A; the number that bounds the earlier
descriptors; the use cycle of the first operation it orders (R177). -/
def fenceMet (k : Core) (f : Nat × Nat × Nat) : Bool :=
  k.descs.all (fun x => decide (f.2.1 ≤ x.2.seq)
    || (f.1 == 0 && (x.2.kind != 3 || x.2.settled)) || (f.1 == 1 && (x.2.kind != 5 || x.2.settled)))

/-- The number of a fence among its core's open slips. -/
def fenceNo (f : Nat × Nat × Nat) : Nat := 3 * f.2.1 + f.1

/-- Fences whose conditions now hold end their slips (R167). -/
def settleFences (s : State) (c : CoreRef) : State :=
  let k := getCore s c
  let met := k.fences.filter (fenceMet k)
  let s := setCore s c { k with fences := k.fences.filter (fun f => !fenceMet k f) }
  meetCore s c Src.fenceWait (fun w => met.any (fun f => fenceNo f == w))

/-- The schedule cycle that lies 32 after core time (R164, R177). -/
def useCycle (s : State) (c : CoreRef) : Nat :=
  ((getChase s (chaseOf c)).time + 2 ^ 48 - (getCore s c).lag + 32) % 2 ^ 48

/-- A fence operation (R176, R177). -/
def fence (s : State) (c : CoreRef) (kind : Nat) : State :=
  asOp s c (opCode 0 (5 + kind)) (fun s =>
    let k := getCore s c
    let f := (kind, k.issued, useCycle s c)
    if fenceMet k f then s
    else openSlip (setCore s c { k with fences := k.fences ++ [f] }) (chaseOf c) Src.fenceWait (some c) (fenceNo f))

/-- FENCE_D (R176). -/
def execFenceD (c : CoreRef) (s : State) : Host.Outcome State Fault Refusal := .next (fence s c 0)
/-- FENCE_S (R176). -/
def execFenceS (c : CoreRef) (s : State) : Host.Outcome State Fault Refusal := .next (fence s c 1)
/-- FENCE_A (R176). -/
def execFenceA (c : CoreRef) (s : State) : Host.Outcome State Fault Refusal := .next (fence s c 2)

/-! ### Completion -/

/-- A run of slug bytes cut where scales and codes meet (R51): offsets and lengths. -/
def slugRuns : Nat → Nat → Nat → List (Nat × Nat)
  | 0, _, _ => []
  | fuel + 1, o, n =>
    if n = 0 then []
    else
      let m := min n (if o % 68 < 4 then 4 - o % 68 else 68 - o % 68)
      (o, m) :: slugRuns fuel (o + m) (n - m)

/-- Where byte `o` of a row of slugs lands (R127): its scales from DST_SCALE on, its codes from the row's place in DST
on. -/
def Desc.slugAt (d : Desc) (r o : Nat) : Nat :=
  if o % 68 < 4 then d.dstScale + 4 * (r * (d.rowLen / 68) + o / 68) + o % 68 else d.dstRow r + 64 * (o / 68) + (o % 68 - 4)

/-- Bytes of a row from offset `o` on land through port D (R93, R127, R433). -/
def landBytes (s : State) (c : CoreRef) (d : Desc) (r o : Nat) (bs : List Byte) (poison : Bool) : State :=
  if d.slug then
    (slugRuns (bs.length + 1) o bs.length).foldl (fun s x =>
      onAccess s c (d.slugAt r x.1) x.2 none (fun s => narrowWrite s c (d.slugAt r x.1) (slice bs (x.1 - o) x.2) poison)) s
  else
    let a := beatAt (d.dstRow r + o)
    onAccess s c a bs.length none (fun s => narrowWrite s c a bs poison)

/-- The rows of a local copy, read and written in order (R104, R124, R127); a poisoned row gives status POISON
(R105). -/
def copyRows (s : State) (c : CoreRef) (d : Desc) : Nat → State × DescStatus
  | 0 => (s, d.status)
  | n + 1 =>
    let r := copyRows s c d n
    let a := beatAt (d.srcRow n)
    if (accessFault r.1 c a d.rowLen).isNone then
      let s := meetNarrow r.1 c a d.rowLen
      let p := storePoisoned s c a d.rowLen
      (landBytes s c d n 0 (storeRead s c a d.rowLen) p, if p then .poison else r.2)
    else (onAccess r.1 c a d.rowLen none id, r.2)

/-- An event flag set (R124); a core that waits on it goes on. -/
def setEvent (s : State) (c : CoreRef) (e : Nat) : State :=
  modCore s c (fun k => { k with flags := addOnce k.flags (e % 64)
                                 waiting := if k.waiting = some (e % 64) then none else k.waiting })

/-- A descriptor completes: status with its TAG, event flag, STREAM_DUE slip, fences (R124, R130, R176). -/
def complDesc (s : State) (c : CoreRef) (d : Desc) (st : DescStatus) : State :=
  let s := modCore s c (fun k => { k with finished := k.finished ++ [(d.tag, st)] })
  let s := if d.event then setEvent s c d.eventId else s
  settleFences (meetCore s c Src.streamDue (· == d.seq)) c

/-- A descriptor of a binding has completed (R261): the slot is LOADED once its descriptors have landed the expert's whole
image; one that was refused has landed nothing. -/
def endBind (s : State) (d : Desc) : State :=
  match d.bind with
  | some b =>
    if d.status = .ok ∨ d.status = .poison then
      let size := (((getForme s b.forme).bind (fun f => expertsAt f.image b.layer)).map (·.imageBytes)).getD 0
      rebindMisses (modCold s b.forme b.layer (fun c => { c with slots := c.slots.modify b.slot (fun x =>
        if x.st = .streaming ∧ x.expert = b.expert then
          let n := x.landed + d.rows * d.rowLen
          { x with landed := n, st := if size ≤ n then .loaded else .streaming }
        else x) })) b.forme b.layer
    else s
  | none => s

/-- A descriptor's page summaries have come (R243). -/
def endSums (s : State) (d : Desc) : State :=
  match d.sums with
  | some (layer, group) =>
    if d.status = .ok ∨ d.status = .poison then
      (List.range d.rows).foldl (fun s r => bringSummaries s d.stamp layer group (d.srcRow r) d.rowLen) s
    else s
  | none => s

/-- The descriptors that wait for a prefetcher go on (R128, R129). -/
def pumpAll (s : State) (c : CoreRef) : State := ((getCore s c).descs.map (·.1)).foldl (fun s i => pump 64 s c i) s

/-- DESCRIPTOR_COMPLETE (R129): nothing is outstanding, and no earlier descriptor of its prefetcher is
incomplete. A local copy is one of port D's requests (R97), and its waits are counted (R136). -/
def execDescriptorComplete (o : PortOp) (i : Nat) (s : State) : Host.Outcome State Fault Refusal :=
  let c := o.core
  .next (match kget? (getCore s c).descs i with
    | some d =>
      if d.settled && firstOf (getCore s c) d then
        let r := if d.kind = 1 then copyRows (portD 17 (countWait s c o.waited) c d.at_) c d d.rows else (s, d.status)
        pumpAll (complDesc (endSums (endBind (modCore r.1 c (fun k => { k with descs := kdel k.descs i })) d) d) c d r.2) c
      else s
    | none => s)

/-- A descriptor lands slugs of an expert's golden image in the places of its slot (R127, R261, R269): each slug's source and
its destinations agree. -/
def bindFits (s : State) (c : CoreRef) (d : Desc) (b : ColdBind) : Bool :=
  match getForme s b.forme with
  | some f =>
    match expertsAt f.image b.layer, goldenAddr s f.ident 0x06 b.layer with
    | some x, some g =>
      let base := g + 68 * x.offs.getD b.expert 0
      (List.range d.rows).all (fun r => (List.range (d.rowLen / 68)).all (fun i =>
        let o := d.srcRow r + 68 * i - base
        decide (base ≤ d.srcRow r ∧ o % 68 = 0 ∧ o < x.imageBytes)
          && slugPlace f b.layer b.slot x.imageBytes c (o / 68) == some (d.slugAt r (68 * i), d.slugAt r (68 * i + 4))))
    | _, _ => false
  | none => false

/-- The binding that an issued descriptor belongs to (R261): the STREAMING slot of the expert, for a STACK_READ with SLUG
that lands its image there. -/
def issueBind (s : State) (c : CoreRef) (d : Desc) (u : IssueUse) : Option ColdBind :=
  match u with
  | .cold e => if d.kind = 4 ∧ d.slug then (streamingSlot s c e).filter (bindFits s c d) else none
  | _ => none

/-- The layer and KV group whose page summaries an issued STACK_READ brings (R243). -/
def issueSums (d : Desc) (u : IssueUse) : Option (Nat × Nat) :=
  match u with
  | .summaries layer group => if d.kind = 4 then some (layer, group) else none
  | _ => none

/-- A galley fetch that an issued STACK_READ begins (R242, R244). -/
def issueFetch (s : State) (d : Desc) (u : IssueUse) : State :=
  match u with
  | .galley group => if d.kind = 4 then beginFetch s (BitVec.ofNat 64 d.stamp) group else s
  | _ => s

/-- ISSUE (R123, R126): a descriptor is a 64-byte word; a poisoned one completes with status POISON and moves nothing
(R105; DESIGN CHOICE, log entry 80). In a program its address is the word's address A (R193). `conflict` says that the sequencer's access meets the wide port's bank (R96). A cold expert's descriptor belongs to the
slot that its program bound (R261); a galley's begins the fetch of the next one (R242). -/
def execIssue (o : IssueOp) (addr instr : Nat) (conflict : Bool) (use_ : IssueUse) (s : State) : Host.Outcome State Fault Refusal :=
  let c := o.core
  let addr := (nextOp s c).elim addr (fun x => x.word.addrA)
  .next (asOp s c (opCode 0 8) (fun s =>
      if conflict then raise s ((coreItem s Err.CORE_BANK_CONFLICT c [addr]).at_ o.stamp instr)
      else onAccess s c (addr / 64 * 64) 64 (some (o.stamp, instr)) (fun s =>
        let s := countWait (meetNarrow s c (addr / 64 * 64) 64) c o.waited
        let k := getCore s c
        let d := descOf (storeRead s c (addr / 64 * 64) 64) k.issued k.arrived none
        let it := fun code => (coreItem s code c [addr]).at_ (BitVec.ofNat 64 d.stamp) instr
        match kfree k.descs 0 16 with
        | none => raise s (it Err.CORE_DESC_OVERFLOW)
        | some i =>
          if storePoisoned s c (addr / 64 * 64) 64 then complDesc s c d .poison
          else if !d.valid then complDesc (raise s (it Err.CORE_BAD_DESCRIPTOR)) c d .badDescriptor
          else if d.length = 0 ∨ d.rows = 0 then complDesc s c d .zeroLength
          else
            let d := { d with bind := issueBind s c d use_, sums := issueSums d use_ }
            pump 64 (issueFetch (setCore s c { k with
              issued := k.issued + 1, arrived := k.arrived + 1, descs := kset k.descs i d }) d use_) c i)))

/-- The slip of a descriptor that is incomplete when the schedule counter reaches its DUE (R130, R138). -/
def raiseDue (s : State) (c : CoreRef) (d : Desc) : State :=
  if d.due = 0 ∨ !reached (getChase s (chaseOf c)).time 0 d.due ∨ (getChase s (chaseOf c)).slips.any
      (fun x => x.source == Src.streamDue && x.core == some c && x.what == d.seq) then s
  else openSlip s (chaseOf c) Src.streamDue (some c) d.seq

/-- STREAM_DUE (R130): the schedule counter reaches the DUE of an incomplete descriptor. -/
def execStreamDue (c : CoreRef) (i : Nat) (s : State) : Host.Outcome State Fault Refusal :=
  .next (match kget? (getCore s c).descs i with
    | some d => raiseDue s c d
    | none => s)

/-! ### Responses (R127, R131, R135) -/

/-- The worse status of a transfer stays. -/
def DescStatus.worse (a b : DescStatus) : DescStatus :=
  match a, b with
  | .ok, b => b
  | .poison, .targetOff => .targetOff
  | .poison, .badAddress => .badAddress
  | a, _ => a

/-- Flit `k` is answered; the next is sent, and fences look again (R128). -/
def answered (s : State) (c : CoreRef) (i k : Nat) (d : Desc) : State :=
  settleFences (pump 64 (setDesc s c i { d with outstanding := d.outstanding.filter (· != k) }) c i) c

/-- Flit `k` is refused (R135): the descriptor takes the status and goes on with its next row. -/
def refuseFlit (s : State) (c : CoreRef) (i k : Nat) (d : Desc) (st : DescStatus) : State :=
  answered s c i k { d with status := d.status.worse st, next := max d.next ((d.rowOf k + 1) * rowBase) }

/-- The bytes that answer flit `k` (R127, R131): a core's in the response; the stack tier's and the host's as those
memories hold them. -/
def answerBytes (s : State) (d : Desc) (k : Nat) (f : Flit) : List Byte :=
  let n := d.lenOf k
  if d.kind = 4 then stackRead s (d.srcOf k) n
  else if d.kind = 6 then ((formeHost s (d.srcOf k) n false).map (fun a => memReadBytes s.mem.host a n)).getD []
  else slice f.payload (d.srcOf k % 64) n

/-- What the address of flit `k` allows (R125, R131): the tier's range, the granted window. -/
def answerable (s : State) (d : Desc) (k : Nat) : Bool :=
  if d.kind = 4 then decide (d.srcOf k + d.lenOf k ≤ stackBytes)
  else if d.kind = 6 then (formeHost s (d.srcOf k) (d.lenOf k) false).isSome
  else true

/-- READ_DATA (R127, R131, R511): the response to flit `k` lands through port D (R97); a host read holds to the granted
window (R125). -/
def execReadData (o : PortOp) (i k : Nat) (f : Flit) (s : State) : Host.Outcome State Fault Refusal :=
  let c := o.core
  let s := countWait (portD 17 (takeIn s c (· == f)) c (arrivalOf s c (· == f))) c o.waited
  .next (match kget? (getCore s c).descs i with
    | some d =>
      if d.outstanding.contains k && (d.kind == 2 || d.kind == 4 || d.kind == 6) then
        let n := d.lenOf k
        let status := if d.slugFlits then 0 else leAt f.payload 64 1
        if status = 2 then refuseFlit s c i k d .targetOff
        else if status = 3 ∨ answerable s d k = false then refuseFlit s c i k d .badAddress
        else
          let s := if d.kind = 4 then meetStack s (d.srcOf k) n else s
          let poison := f.poison || status == 1 || (d.kind == 4 && stackPoisoned s (d.srcOf k) n)
          let s := landBytes s c d (d.rowOf k) (d.offOf k) (answerBytes s d k f) poison
          let s := if d.kind = 6 then addF s Reg.HST_RD_BYTES n 0 else s
          answered s c i k (if poison then { d with status := d.status.worse .poison } else d)
      else s
    | none => s)

/-- The descriptor of core `c` at place `i`, and one of its answers taken. -/
def takeAnswer (s : State) (c : CoreRef) (i kind : Nat) : State :=
  match kget? (getCore s c).descs i with
  | some d => takeIn s c (fun f => flitKind f == kind && f.stamp.toNat == d.stamp)
  | none => s

/-- WRITE_ACK (R134): an acknowledged host write stands in host memory. -/
def execWriteAck (o : PortOp) (i k : Nat) (s : State) : Host.Outcome State Fault Refusal :=
  let c := o.core
  let s := countWait (takeAnswer s c i Kind.writeAck) c o.waited
  .next (match kget? (getCore s c).descs i with
    | some d =>
      if d.outstanding.contains k && (d.kind == 3 || d.kind == 7) then
        if d.kind = 7 then
          match formeHost s (d.dstOf k) (d.lenOf k) true with
          | some a => answered (hostWrite s a (storeRead s c (beatAt (d.srcOf k)) (d.lenOf k))) c i k d
          | none => refuseFlit s c i k d .badAddress
        else answered s c i k d
      else s
    | none => s)

/-- Flit `k` of a stack write is written: its data unit, then its parity unit (R514). -/
def landStack (s : State) (c : CoreRef) (d : Desc) (k : Nat) : State :=
  stackWrite s (d.dstOf k) (storeRead s c (beatAt (d.srcOf k)) (d.lenOf k)) (storePoisoned s c (beatAt (d.srcOf k)) (d.lenOf k))

/-- STACK_WRITE_ACK (R514): data and parity units of one flit of a stack write are written; flits and descriptors complete in
any order (R129, R178). An address beyond the tier is refused (R513). -/
def execStackWriteAck (o : StackAck) (s : State) : Host.Outcome State Fault Refusal :=
  let c := o.core
  let k := o.flit
  let s := countWait (takeAnswer s c o.desc Kind.writeAck) c o.waited
  .next (match kget? (getCore s c).descs o.desc with
    | some d =>
      if d.outstanding.contains k && d.kind == 5 then
        let n := d.lenOf k
        if stackBytes < d.dstOf k + n then refuseFlit s c o.desc k d .badAddress
        else answered (landStack s c d k) c o.desc k d
      else s
    | none => s)

/-- NACK (R135). -/
def execNack (o : PortOp) (i k : Nat) (bad : Bool) (s : State) : Host.Outcome State Fault Refusal :=
  let c := o.core
  let s := countWait (takeAnswer s c i Kind.nack) c o.waited
  .next (match kget? (getCore s c).descs i with
    | some d =>
      if d.outstanding.contains k then refuseFlit s c i k d (if bad then .badAddress else .targetOff) else s
    | none => s)

/-! ### Remote accesses at their target (R131 to R135, R425, R432) -/

/-- A remote access refused: the NACK flit, and the record of a bad address (R135). -/
def refuseRemote (s : State) (c src : CoreRef) (stamp : Word64) (a : Nat) (bad : Bool) : State :=
  let s := modCore s c (fun k => { k with cntNack := bump k.cntNack 1 })
  let s := if bad then raise s { coreItem s Err.CORE_ADDR_RANGE c [a] with stamp := some stamp.toNat } else s
  sendTo s c src Kind.nack 4 stamp.toNat (freeBytes 0x108 [if bad then 3 else 2] 68) false

/-- Beats beyond a word or the store (R132, R135). -/
def badBeats (a beats : Nat) : Bool := decide (coreBytes < a + 16 * beats) || decide (4 < a % 64 / 16 + beats)

/-- READ_REQ (R131): answered through port D, or refused. R131 names word-aligned addresses and lengths of 16 to 64 bytes:
another request is served in whole beats of 16 bytes, its address rounded down and its length up (DESIGN CHOICE, log entry
97); a length of 0 is answered with no data (R10). `waited` is how long it waited for its bank (R136). -/
def execReadReq (c : CoreRef) (addr len : Nat) (src : CoreRef) (stamp : Word64) (waited : Nat) (s : State) :
    Host.Outcome State Fault Refusal :=
  let mine := fun (f : Flit) => flitKind f == Kind.readReq && f.stamp == stamp
  let at_ := arrivalOf s c mine
  let s := takeIn s c mine
  let a := beatAt addr
  let n := (len + 15) / 16 * 16
  .next (if !coreExists s c then s
    else if !railOn s (chaseOf c) then refuseRemote s c src stamp addr false
    else if badBeats a (n / 16) then refuseRemote s c src stamp addr true
    else if bankShut s c a then refuseRemote s c src stamp addr false
    else
      let s := meetNarrow (countWait (portD 17 s c at_) c waited) c a n
      let poison := storePoisoned s c a n
      sendTo s c src Kind.readData 4 stamp.toNat
        (slice (storeRead s c a n) 0 64 ++ [if poison then 1 else 0]) poison)

/-- A remote write of descriptor `desc` of core `src` is counted for bank gating (R124, R432): the descriptor's flag. -/
def countedWrite (s : State) (src : CoreRef) (desc : Nat) (stamp : Word64) : Bool :=
  (kget? (getCore s src).descs desc).any (fun d => d.kind == 3 && d.counted && d.stamp == stamp.toNat)

/-- WRITE (R132, R133): into the write buffer, or refused; a write that finds the buffer full stands before the core
until there is room. A write of no beats is acknowledged at once (R10). Where several rows of R135's table hold, the rail's
comes first, then the address's, then the gated bank's (DESIGN CHOICE, log entry 97). `desc` is the sender's descriptor. -/
def execWrite (c : CoreRef) (f : Flit) (src : CoreRef) (desc : Nat) (s : State) : Host.Outcome State Fault Refusal :=
  let s := takeIn s c (· == f)
  let w := leAt f.payload 0 4
  let a := beatAt (w % 2 ^ 19)
  let beats := w / 2 ^ 19 % 8
  .next (if !coreExists s c then s
    else if !railOn s (chaseOf c) then refuseRemote s c src f.stamp a false
    else if badBeats a beats then refuseRemote s c src f.stamp a true
    else if bankShut s c a then refuseRemote s c src f.stamp a false
    else if beats = 0 then sendTo s c src Kind.writeAck 4 f.stamp.toNat (freeBytes 0x107 [] 68) false
    else if (getCore s c).wbuf.length < 16 then
      modCore s c (fun k => { k with
        wbuf := k.wbuf ++ [⟨a, slice f.payload 4 (16 * beats), countedWrite s src desc f.stamp, f.poison, src, f.stamp.toNat,
          k.arrived⟩]
        arrived := k.arrived + 1 })
    else holdIn s c f)

/-- REMOTE_WRITE_STORED (R97, R134, R136): the store holds the write, and the target acknowledges it. Below 12 entries in the
write buffer a request that came before it goes first. -/
def execRemoteWriteStored (o : PortOp) (s : State) : Host.Outcome State Fault Refusal :=
  .next (match nextWrite s o.core with
    | some w =>
      if (getCore s o.core).wbuf.length < 12 && olderWaits s o.core w.at_ then s
      else storeOne (countWait s o.core o.waited) o.core
    | none => s)

/-! ### The gate's commands -/

/-- GATE_FLIT (R160 to R163). -/
def execGateFlit (o : PortOp) (f : Flit) (s : State) : Host.Outcome State Fault Refusal :=
  let c := o.core
  .next (if gateKind (flitKind f) && coreExists s c then
      gateTake (countWait (portD 17 (takeIn s c (· == f)) c (arrivalOf s c (· == f))) c o.waited) c f
    else s)

/-- PARK_STALE (R163): the `i`-th parked flit has stood 2^16 cycles. -/
def execParkStale (c : CoreRef) (i : Nat) (s : State) : Host.Outcome State Fault Refusal :=
  .next (match (getCore s c).park[i]? with
    | some p =>
      if p.since + 2 ^ 16 ≤ (getChase s (chaseOf c)).clk then
        addF (modCore s c (fun k => { k with park := k.park.eraseIdx i })) Reg.CHS_GATE_STALE 1 (chaseOf c)
      else s
    | none => s)

/-- The entry that an ARM operation arms; one that expects no flit is COMPLETE at once (R10, R161). -/
def armedGate (a : ArmOp) : Gate :=
  let g : Gate := ⟨.armed, a.req, a.pos, a.layer, a.partLo, a.partHi, a.flits, a.base, a.stride,
    List.replicate (a.partHi + 1 - a.partLo) 0⟩
  if g.full then { g with st := .complete } else g

/-- ARM (R159): the entry is ARMED, and parked flits that it matches land; or the forme frees it (R161). -/
def execArm (a : ArmOp) (s : State) : Host.Outcome State Fault Refusal :=
  .next (asOp s a.core (opCode 0 3) (fun s =>
      if a.free then setGate s a.core a.entry.val Gate.reset
      else landParked (setGate (countWait s a.core a.waited) a.core a.entry.val (armedGate a)) a.core))

/-- CHECK (R164): an open slip for each entry not COMPLETE; the use cycle is 32 schedule cycles on. -/
def execCheck (c : CoreRef) (entries : List (Fin 32)) (s : State) : Host.Outcome State Fault Refusal :=
  .next (asOp s c (opCode 0 4) (fun s =>
      let use_ := useCycle s c
      let s := modCore s c (fun k => { k with uses := k.uses ++ entries.map (fun i => (i.val, use_)) })
      entries.foldl (fun s i =>
        if (getGate s c i.val).st = .complete then s else openSlip s (chaseOf c) Src.gateWait (some c) i.val) s))

/-! ### The sequencer (R193 to R195) -/

/-- END (R195): the core's pass ends, and in a slot part the experts' protection with it (R262). The next pass begins at the
program's first word. -/
def execEndOp (c : CoreRef) (s : State) : Host.Outcome State Fault Refusal :=
  .next (if runs s c (opCode 0 1) then
      endSlots (modCore s c (fun k => { k with pass := k.pass + 1, op := 0, loops := [] })) c
    else s)

/-- A loop entered (R194, R195): its iterations begin at its own cycle, counted in the pass; one of count 0, or without
words, is passed by. -/
def Core.enterLoop (k : Core) (cycle count bodyCycles bodyWords : Nat) : Core :=
  if count = 0 ∨ bodyWords = 0 then k.goto (k.op + 1 + bodyWords)
  else { k with op := k.op + 1, loops := ⟨k.op + 1, k.loopBase + cycle, bodyWords, bodyCycles, count⟩ :: k.loops }

/-- LOOP (R194, R195): the figures of the program's word, or the operands of a core without a program. Loops nest at most
four deep. -/
def execLoop (c : CoreRef) (count bodyCycles bodyWords : Nat) (s : State) : Host.Outcome State Fault Refusal :=
  .next (if runs s c (opCode 0 2) ∧ (getCore s c).loops.length < 4 then
      modCore s c (fun k => match nextOp s c with
        | some x => k.enterLoop x.word.cycle (loopCount x.word) (loopCycles x.word) (loopWords x.word)
        | none => k.enterLoop 0 count bodyCycles bodyWords)
    else s)

/-- WAIT_EVENT (R193): the core waits unless the flag is set. -/
def execWaitEvent (c : CoreRef) (flag : Fin 64) (s : State) : Host.Outcome State Fault Refusal :=
  .next (asOp s c (opCode 0 9) (fun s =>
    if flag.val ∈ (getCore s c).flags then s else modCore s c (fun k => { k with waiting := some flag.val })))

/-! ### The router's send operations and the scrubber -/

/-- SEND_STATIC (R142, R143): the flit stands in its send slot; the router sends it in its compiled cycles. A static
lane has no route word. -/
def execSendStatic (c : CoreRef) (slot : Fin 128) (stamp : Word64) (payload : List Byte) (poison : Bool) (s : State) :
    Host.Outcome State Fault Refusal :=
  .next (asOp s c (opCode 5 1) (fun s => modCore s c (fun k =>
      { k with sendFile := kset k.sendFile slot.val ⟨stamp, 0, payload, 0, poison⟩ }.fresh 5 [slot.val])))

/-- The payload of a slug (R51, R52, R53): four blocks of a tensor from its codes and scales in the store; blocks beyond
its end are zero blocks marked 0xFF. -/
def slugBytes (s : State) (c : CoreRef) (x : SlugSrc) : List Byte :=
  let here := fun (b : Nat) => decide (b < x.blocks)
  (List.range 4).map (fun b => if here b then (storeRead s c (x.scales + b) 1).headD 0 else 0xFF)
    ++ (List.range 4).flatMap (fun b => if here b then storeRead s c (x.codes + 16 * b) 16 else List.replicate 16 0)

/-- The traffic class of a packet that a core sends (R150). -/
def sendClass (f : Flit) : Nat :=
  if (flitKind f = Kind.readReq ∨ flitKind f = Kind.write) ∧ 0x400 ≤ flitDcol f then 5 else Kind.cls (flitKind f)

/-- The route word of a flit in a traffic class, and without EOP. -/
def classRoute (route cls : Nat) : Nat := route / 2 ^ 24 * 2 ^ 24 + cls * 2 ^ 21 + route % 2 ^ 21
def headRoute (route : Nat) : Nat := route / 2 ^ 25 * 2 ^ 25 + route % 2 ^ 24

/-- A flit of a packet that the core sends: its class is its kind's, its index is counted within its packet, and no
other packet of the class comes between the flits of one (R150, R154, R160). -/
def sendPacket (s : State) (c : CoreRef) (f : Flit) : State :=
  let cls := sendClass f
  let route := classRoute f.route.toNat cls
  match (getCore s c).txOpen.find? (fun t => t.cls == cls) with
  | some t =>
    if t.route = headRoute route ∧ t.stamp = f.stamp.toNat then
      let s := modCore s c (fun k => { k with txOpen := k.txOpen.filter (fun x => x.cls != cls)
        ++ (if flitEop f then [] else [{ t with next := t.next + 1 }]) })
      let s := emitFlit s c { f with route := BitVec.ofNat 32 route, index := t.next }
      if flitEop f then flushWaiting s c cls else s
    else if flitEop f then emitPacket s c { f with route := BitVec.ofNat 32 route, index := 0 }
    else s
  | none =>
    let s := modCore s c (fun k => { k with txOpen := k.txOpen
      ++ (if flitEop f then [] else [⟨cls, headRoute route, f.stamp.toNat, 1⟩]) })
    emitFlit s c { f with route := BitVec.ofNat 32 route, index := 0 }

/-- The index of the next flit of the packet of a class that core `c` is sending. -/
def nextIndex (s : State) (c : CoreRef) (cls : Nat) : Nat :=
  (((getCore s c).txOpen.find? (fun t => t.cls == cls)).map (·.next)).getD 0

/-- The next flit of a merge packet (R232, R233): REDUCE_PARTIAL, the packet's PART in its stamp, EOP on the last flit. -/
def mergeFlit (f : Flit) (m : Merged) (i : Nat) : Flit :=
  { f with
    stamp := BitVec.ofNat 64 (mkStamp (stampReq f.stamp) (stampPos f.stamp) (stampLayer f.stamp) m.part)
    route := BitVec.ofNat 32 (f.route.toNat % 2 ^ 24 + (if m.bytes.length ≤ 68 * (i + 1) then 2 ^ 24 else 0)
      + Kind.reducePartial * 2 ^ 25)
    payload := slice m.bytes (68 * i) 68
    poison := f.poison || m.poison }

/-- A flit of a merge packet sent; a NaN maximum is recorded with the leaf's first flit (R228). -/
def sendMerged (s : State) (c : CoreRef) (f : Flit) (m : Merged) : State :=
  let i := nextIndex s c (Kind.cls Kind.reducePartial)
  let s := if m.nan ∧ i = 0 then raise s { coreItem s Err.NUM_NAN c [0] with stamp := some f.stamp.toNat } else s
  sendPacket s c (mergeFlit f m i)

/-- What a leaf's first flit does besides (R102 to R105, R88): the wide reads of its query and entries, and its sums' counts. -/
def formLeaf (s : State) (c : CoreRef) (stamp : Word64) (x : LeafSrc) (r : LeafSpan) (who : Who) : State :=
  let s := meetWide (meetWide (meetWide s c x.query.codes (leafCodes x) who) c x.query.scales (leafScales x) who) c r.base r.bytes who
  countSums s c (stampLayer stamp) (some x.recomputeLen) who (leafPacket s c x r).sums

/-- The token's leaves of a galley are complete with the last flit of the last one (R244). -/
def leafDone (s : State) (x : LeafSrc) : State := modKv s (fun k => { k with leafs := addOnce k.leafs x.galley })

/-- A leaf's flit (R226 to R228, R232): formed from the query and the galley on this core. How many leaves a galley has for a
token the forme knows: its operand names the last one (log entry 103). -/
def sendLeaf (s : State) (c : CoreRef) (f : Flit) (x : LeafSrc) (who : Who) : State :=
  match leafSpan s c f.stamp x with
  | some r =>
    onAccess s c x.query.codes (leafCodes x) who (fun s => onAccess s c x.query.scales (leafScales x) who (fun s =>
      onAccess s c r.base r.bytes who (fun s =>
        let i := nextIndex s c (Kind.cls Kind.reducePartial)
        let s := if i = 0 then formLeaf s c f.stamp x r who else s
        let m := leafPacket s c x r
        let s := if x.last ∧ m.bytes.length ≤ 68 * (i + 1) then leafDone s x else s
        sendMerged s c f m)))
  | none => s

/-- SEND_DYNAMIC (R53, R145, R150, R154, R232): the packet's flit enters the core's router with the data that it
carries. -/
def execSendDynamic (c : CoreRef) (o : SendOp) (s : State) : Host.Outcome State Fault Refusal :=
  .next (asOp s c (opCode 5 2) (fun s =>
      let f := o.flit
      let who : Who := some (f.stamp, o.instr)
      match o.src with
      | .flit => sendPacket s c f
      | .leaf x => sendLeaf s c f x who
      | .group x => withLanded s c (groupSlots s f.stamp x) who (fun s => sendMerged s c f (groupPacket s c f.stamp x))
      | .slug x =>
        onAccess s c x.codes 64 who (fun s => onAccess s c x.scales 4 who (fun s =>
          let s := meetNarrow (meetNarrow s c x.codes 64) c x.scales 4
          sendPacket s c { f with payload := slugBytes s c x
                                  poison := f.poison || storePoisoned s c x.codes 64 || storePoisoned s c x.scales 4 }))))

/-- Regions that a poisoned word is rewritten in from its source (R380): the kind, and for a galley
that it is RESIDENT. -/
def sourced (s : State) (c : CoreRef) (a : Nat) : Bool :=
  match allocKind s c a with
  | some 0x01 | some 0x06 | some 0x07 | some 0x08 => true
  | some 0x05 => s.kv.galleys.any (fun g => g.2.st == .resident
      && g.2.t0.any (fun b => decide (b ≤ storeAddr c a ∧ storeAddr c a < b + g.2.bytes)))
  | _ => false

/-- A word read and checked: an uncorrectable one is poisoned and, in a sourced region, rewritten whole from its source
(R104 to R106, R380). -/
def scrubWord (s : State) (c : CoreRef) (a : Nat) : State :=
  let s' := meetWord s c a
  if decide (3 ≤ (errsAt s c a).length) && sourced s c a then storeWrite s' c a (storeRead s c a 64) false else s'

/-- SCRUB (R97, R102, R104 to R106, R380): while nothing else waits for port D a word is read and checked. A gated bank is skipped (R432).
`waited` is how long the read waited for its bank (R136). -/
def execScrub (c : CoreRef) (addr waited : Nat) (s : State) : Host.Outcome State Fault Refusal :=
  .next (let a := addr / 64 * 64
    if railOn s (chaseOf c) && coreExists s c && (getCore s c).wbuf.isEmpty && !olderWaits s c (getCore s c).arrived
        && (accessFault s c a 64).isNone then
      scrubWord (countWait s c waited) c a
    else s)

end Sys2Proof.Machine
end

