-- ==== Sys2Proof/Machine/ErrataOps.lean ====
section
/-! DEFINITION. The errata map (R18 to R23, R27, R385 to R387): retirement, widths, shift maps, and the
soft-fault counts of R390. -/

namespace Sys2Proof.Machine

/-- A row segment with nothing retired (R385). -/
def Errata.none_ : Errata := ⟨0x7F, 0x7F, false, false, false, false, 0, 0, 0⟩

/-- The entry of a row segment. -/
def errataAt (s : State) (seg : Nat) : Errata := kgetD s.errata.entries seg Errata.none_

/-- A retired position: local physical column, router failed, retired in the field. -/
structure Retired where
  pos : Nat
  router : Bool
  field : Bool
  deriving DecidableEq, Repr

/-- The retired positions of a row segment, by rising column (R385, R386). -/
def retiredAt (s : State) (seg : Nat) : List Retired :=
  let e := errataAt s seg
  (if e.posA = 0x7F then [] else [⟨e.posA, e.aRouter, e.aField⟩])
    ++ (if e.posB = 0x7F then [] else [⟨e.posB, e.bRouter, e.bField⟩])
    ++ (s.errata.ext.filter (fun x => 64 * x.chase + x.row == seg)).map (fun x => ⟨x.pos, x.router, x.field⟩)

/-- The extension records of a chase freed (R386). -/
def freeExt (s : State) (n : Nat) : State :=
  { s with errata := { s.errata with ext := s.errata.ext.filter (fun x => x.chase != n) } }

/-- The retired positions of a row segment written: entry, extension records, shift map (R21, R385,
R386). `l` rises. -/
def writeRetired (s : State) (seg : Nat) (l : List Retired) : State :=
  let e := errataAt s seg
  let a := l[0]?
  let b := l[1]?
  let e := { e with
    posA := (a.map (·.pos)).getD 0x7F, aRouter := a.any (·.router), aField := a.any (·.field)
    posB := (b.map (·.pos)).getD 0x7F, bRouter := b.any (·.router), bField := b.any (·.field) }
  { s with errata := { s.errata with
      entries := kset s.errata.entries seg e
      ext := s.errata.ext.filter (fun x => 64 * x.chase + x.row != seg)
        ++ (l.drop 2).map (fun r => ⟨seg / 64, seg % 64, r.pos, r.router, r.field⟩)
      shift := kset s.errata.shift seg (l.map (·.pos)) } }

/-- The width of R23: 64 less the largest excess over two retired positions in a row segment. -/
def widthWanted (s : State) (n : Nat) : Nat :=
  64 - ((List.range 64).map (fun r => (kgetD s.errata.shift (64 * n + r) []).length - 2)).foldl max 0

/-- The width of a chase written (R23, R385). -/
def setWidth (s : State) (n w : Nat) : State := { s with errata := { s.errata with widths := kset s.errata.widths n w } }

/-- A row segment that R27 counts as exhausted. -/
def exhausted (s : State) (seg : Nat) : Bool :=
  let rs := ((retiredAt s seg).filter (·.router)).map (·.pos)
  rs.contains 0 || (rs.contains 65 && seg / 64 % 16 == 15) || rs.any (fun p => rs.contains (p + 1))

/-- A position retired (R18, R386, R387): kept for good. Retirement that finds the extension table
full sets the chase's width to 0. -/
def retire (s : State) (n row pos : Nat) (router : Bool) : State :=
  let seg := 64 * n + row
  let old := retiredAt s seg
  let l := if old.any (fun r => r.pos == pos) then
      old.map (fun r => if r.pos = pos then { r with router := r.router || router } else r)
    else (old ++ [(⟨pos, router, true⟩ : Retired)]).mergeSort (fun a b => decide (a.pos ≤ b.pos))
  let s := addF s Reg.LAMP_NV_WRITES 1 0
  let others := (s.errata.ext.filter (fun x => 64 * x.chase + x.row != seg)).length
  if widthOf s n = 0 then writeRetired s seg (l.take 2)
  else if 4096 < others + (l.length - 2) then
    setWidth (freeExt (writeRetired s seg (l.take 2)) n) n 0
  else
    let s := writeRetired s seg l
    setWidth s n (min (widthOf s n) (widthWanted s n))

/-- A soft fault of a core (R390): SUSPECT of its row segment counts it. -/
def suspect (s : State) (seg lcol : Nat) : State :=
  let e := errataAt s seg
  let c := if e.suspect = 0 ∨ e.suspectCol = lcol then min 15 (e.suspect + 1) else 1
  { s with errata := { s.errata with
      entries := kset s.errata.entries seg { e with suspect := c, suspectCol := lcol, since := s.lampTime } } }

/-- An entry as a word (R385). -/
def errataWord (s : State) (seg : Nat) : Nat :=
  let e := errataAt s seg
  let bit := fun (b : Bool) (i : Nat) => if b then 2 ^ i else 0
  e.posA + e.posB * 2 ^ 7 + bit e.aRouter 14 + bit e.bRouter 15 + bit e.aField 16 + bit e.bField 17
    + e.suspect * 2 ^ 18 + e.suspectCol * 2 ^ 22 + bit (s.errata.ext.any (fun x => 64 * x.chase + x.row == seg)) 28

/-- An extension record as a word (R386), zero where it is not in use. -/
def extWord (s : State) (i : Nat) : Nat :=
  match s.errata.ext[i]? with
  | some x => x.chase + x.row * 2 ^ 8 + x.pos * 2 ^ 14 + (if x.router then 2 ^ 21 else 0) + (if x.field then 2 ^ 22 else 0) + 2 ^ 31
  | none => 0

/-- Row segments whose number of retired positions `p` picks (R411). -/
def segCount (s : State) (p : Nat → Bool) : Nat := (s.errata.shift.filter (fun x => p x.2.length)).length

/-- SUSPECT_DECAY (R390): 24 hours without a soft fault in the row segment. -/
def execSuspectDecay (seg : Fin 16384) (s : State) : Host.Outcome State Fault Refusal :=
  let e := errataAt s seg.val
  .next (if e.suspect = 0 ∨ s.lampTime < e.since + 86400000000000 then s
    else { s with errata := { s.errata with
      entries := kset s.errata.entries seg.val { e with suspect := e.suspect - 1, since := s.lampTime } } })

end Sys2Proof.Machine
end

