-- ==== Sys2Proof/Machine/Fabric.lean ====
section
/-! DEFINITION. The dynamic fabric (R22 to R38, R148 to R158, R376): links, routes, rim gateways, and what
a router does with a flit. -/

namespace Sys2Proof.Machine

/-! ### Cells and links (R24, R26, R32) -/

/-- The cell (row, physical column) lies in the array. -/
def inArray (row col : Int) : Bool := decide (0 ≤ row ∧ row < 1024 ∧ 0 ≤ col ∧ col < 1056)

/-- The chase of a cell. -/
def cellChase (row col : Int) : Nat := 16 * (row.toNat / 64) + col.toNat / 66

/-- The transit of a chase works: the release order has reached it (step 8 of R475, which comes before its beacon leaves
DARK), its rail stands and its PLL holds lock (R29, R30, R32). -/
def transitUp (s : State) (n : Nat) : Bool :=
  (s.release.released.contains (8, n) || chaseBeacon s n != Beacon.dark) && (getChase s n).transitOk && (getChase s n).pllOk

/-- A router that can take a flit. -/
def routerOk (s : State) (row col : Int) : Bool :=
  inArray row col && transitUp s (cellChase row col)
    && !routerFailed s (cellChase row col) (row.toNat % 64) (col.toNat % 66)

/-- A move to another router: row and column offsets, and the input it arrives at (R382: 0 N, 1 E, 2 S,
3 W, 4 skip from W, 5 skip from E). -/
structure Move where
  dr : Int
  dc : Int
  input : Nat
  deriving DecidableEq, Repr

def Move.north : Move := ⟨-1, 0, 2⟩
def Move.south : Move := ⟨1, 0, 0⟩
def Move.east : Move := ⟨0, 1, 3⟩
def Move.west : Move := ⟨0, -1, 1⟩
def Move.skipEast : Move := ⟨0, 2, 4⟩
def Move.skipWest : Move := ⟨0, -2, 5⟩

/-- The move that an input undoes. -/
def backOf (input : Nat) : Option Move :=
  match input with
  | 0 => some Move.north
  | 1 => some Move.east
  | 2 => some Move.south
  | 3 => some Move.west
  | 4 => some Move.skipWest
  | 5 => some Move.skipEast
  | _ => none

/-- The link of a move exists (R24, R39): no skip link leaves local column 65 eastward, so every chase boundary is
crossed by two links in each row. -/
def Move.linked (m : Move) (col : Int) : Bool :=
  if m = Move.skipEast then col.toNat % 66 != 65
  else if m = Move.skipWest then (col - 2).toNat % 66 != 65
  else true

/-! ### Destinations (R22, R35, R36, R38, R149) -/

/-- A rim position's edge routers as (row, column) bounds: rim 0 north, 1 east, 2 south, 3 west. -/
structure Edge where
  r0 : Int
  r1 : Int
  c0 : Int
  c1 : Int
  deriving DecidableEq, Repr

/-- The chase that faces position `p` of a rim (R33). -/
def facing (rim p : Nat) : Nat :=
  if rim = 0 then p else if rim = 1 then 16 * p + 15 else if rim = 2 then 240 + (15 - p) else 16 * (15 - p)

/-- A position carries a second gateway: a port die's, a host port's or a keeper gateway (R34, R35). -/
def sharedPos (rim p : Nat) : Bool := p % 4 == 1 || (rim == 2 && p % 4 == 3) || (rim == 0 && (p == 3 || p == 11))

/-- The edge routers `lo` to `hi` of the chase that faces a position (R36). R36 gives the edge positions 0 to 31 no direction:
they count from west to east and from north to south on every rim (DESIGN CHOICE, log entry 99). -/
def edgeOf (rim p lo hi : Nat) : Edge :=
  let n := facing rim p
  let r : Int := 64 * (n / 16 : Nat)
  let c : Int := 66 * (n % 16 : Nat)
  if rim = 0 then ⟨0, 0, c + lo, c + hi⟩ else if rim = 2 then ⟨1023, 1023, c + lo, c + hi⟩
  else if rim = 1 then ⟨r + lo, r + hi, 1055, 1055⟩ else ⟨r + lo, r + hi, 0, 0⟩

/-- Edge routers of a chase on a rim. -/
def edgeLen (rim : Nat) : Nat := if rim % 2 = 0 then 66 else 64

/-- The stack gateway at a position (R36). -/
def stackGate (rim p : Nat) : Edge := edgeOf rim p 0 (if sharedPos rim p then 31 else edgeLen rim - 1)

/-- The second gateway at a position, which moves to the neighbouring position's stack gateway while the
facing chase's transit is down (R36, R38): to the next higher position, at 15 to the next lower (DESIGN CHOICE: R38
leaves open which neighbour, log entry 82). -/
def secondGate (s : State) (rim p : Nat) : Edge :=
  if transitUp s (facing rim p) then edgeOf rim p 32 (edgeLen rim - 1)
  else stackGate rim (if p = 15 then 14 else p + 1)

/-- A number moved into bounds. -/
def clampInt (lo hi x : Int) : Int := max lo (min hi x)

/-- The edge router nearest to a cell, and its distance in rows and columns: R149's nearer position is measured so, and a
packet goes to this router of it (DESIGN CHOICE, log entry 100). -/
def nearest (e : Edge) (row col : Int) : (Int × Int) × Nat :=
  let t := (clampInt e.r0 e.r1 row, clampInt e.c0 e.c1 col)
  (t, (row - t.1).natAbs + (col - t.2).natAbs)

/-- The gateways of a rim endpoint, by rising position (R34, R35, R38). -/
def gatesOf (s : State) (d : Nat) : List Edge :=
  if d < 0x420 then
    let st := d - 0x400
    let ps := [2 * (st % 8), 2 * (st % 8) + 1]
    let up := ps.filter (fun p => transitUp s (facing (st / 8) p))
    (if up = [] then ps else up).map (stackGate (st / 8))
  else if d < 0x430 then [secondGate s ((d - 0x420) / 4) (4 * ((d - 0x420) % 4) + 1)]
  else if d < 0x434 then [secondGate s 2 (15 - 4 * (d - 0x430))]
  else [secondGate s 0 3, secondGate s 0 11]

/-- The destination of a route word from a cell: a logical core by row and column, or the edge router of the nearer
gateway, the lower position on ties (R149). None for an invalid destination (R152). -/
inductive Dest where
  | core (c : CoreRef)
  | edge (row col : Int)
  deriving DecidableEq, Repr

def destOf (s : State) (row col : Int) (goal : Option (Int × Int)) (f : Flit) : Option Dest :=
  let d := flitDcol f
  if d < 0x400 then
    let c : CoreRef := ⟨Fin.ofNat 1024 (flitDrow f), Fin.ofNat 1024 d⟩
    if d % 64 < runWidth s (chaseOf c) then some (.core c) else none
  else if d < 0x434 ∨ (0x438 ≤ d ∧ d < 0x43C) then
    match goal.filter (fun g => routerOk s g.1 g.2) with
    | some g => some (.edge g.1 g.2)
    | none => ((gatesOf s d).foldl (fun b e =>
      let x := nearest e row col
      match b with
      | none => some x
      | some y => if x.2 < y.2 then some x else b) none).map (fun x => .edge x.1.1 x.1.2)
  else none

def Dest.row : Dest → Int
  | .core c => c.row.val
  | .edge r _ => r

/-- The physical column that a packet steers for in a row segment: a core's by the shift map of the segment that it is in
(R22). -/
def Dest.colIn (s : State) (row : Int) : Dest → Int
  | .core c => (physCol s ⟨Fin.ofNat 1024 row.toNat, c.lcol⟩).elim (66 * (c.lcol.val / 64 : Nat) + c.lcol.val % 64 : Int) (fun p => (p : Int))
  | .edge _ c => c

/-! ### The next hop (R26, R27, R32, R153) -/

/-- A move that a router can make: the link exists and the router at its end can take a flit. -/
def moveOk (s : State) (row col : Int) (m : Move) : Bool :=
  m.linked col && routerOk s (row + m.dr) (col + m.dc)

/-- Along the row toward a column: by a skip link while two or more columns remain (R153), by the mesh link else, which
also comes before a failed router (R26). -/
def rowMoves (col tc : Int) : List Move :=
  if col + 2 ≤ tc then [Move.skipEast, Move.east] else if tc + 2 ≤ col then [Move.skipWest, Move.west]
  else if col < tc then [Move.east] else if tc < col then [Move.west] else []

/-- Along the column toward a row. -/
def colMoves (row tr : Int) : List Move := if row < tr then [Move.south] else if tr < row then [Move.north] else []

/-- An input that no router feeds: the array's edge, where gateways stand (R36). -/
def edgeInput (row col : Int) (input : Nat) : Bool :=
  (backOf input).any (fun m => !inArray (row + m.dr) (col + m.dc))

/-- A packet that came by input `input` is on its column leg: it came from north or south, and not from a rim
gateway, whose packets begin with the row leg (R37, R153). -/
def onColumn (row col : Int) (input : Nat) : Bool := (input == 0 || input == 2) && !edgeInput row col input

/-- The move of the fixed route (R153): the row leg along the row that the packet is in, by that row's map, then the column
leg, then the last row's leg by its own map (R22). None where it is shut. -/
def fixedMove (s : State) (row col : Int) (input : Nat) (d : Dest) : Option Move :=
  let rows := rowMoves col (d.colIn s row)
  let cols := colMoves row d.row
  (if row = d.row ∨ (rows ≠ [] ∧ !onColumn row col input) then rows else cols).find? (moveOk s row col)

/-- The fixed route from a router to its destination is open all the way. -/
def fixedOpen (s : State) (d : Dest) : Nat → Int → Int → Nat → Bool
  | 0, _, _, _ => false
  | fuel + 1, row, col, input =>
    (decide (row = d.row) && decide (col = d.colIn s row)) ||
      (fixedMove s row col input d).any (fun m => fixedOpen s d fuel (row + m.dr) (col + m.dc) m.input)

/-- The moves of a router, in the order in which detours of one length are taken (log entry 25). -/
def detourMoves : List Move := [Move.skipEast, Move.east, Move.skipWest, Move.west, Move.south, Move.north]

/-- The first move of a shortest way to a cell through working routers: `front` are the cells that lie a number of
moves from it, `seen` those nearer to it too; links run both ways (R24). -/
def detourMove (s : State) (row col : Int) : Nat → List (Int × Int) → List (Int × Int) → Option Move
  | 0, _, _ => none
  | fuel + 1, front, seen =>
    match detourMoves.find? (fun m => m.linked col && front.contains (row + m.dr, col + m.dc)) with
    | some m => some m
    | none =>
      let next := (front.flatMap (fun x => (detourMoves.filter (moveOk s x.1 x.2)).map (fun m => (x.1 + m.dr, x.2 + m.dc)))).eraseDups
        |>.filter (fun x => !seen.contains x)
      if next = [] then none else detourMove s row col fuel next (next ++ front)

/-- The cells of the array, which bound every way through it. -/
def cellCount : Nat := 1024 * 1056

/-- The move that a router makes with a packet that came by an input: along the fixed route (R22, R153); where that is
shut somewhere ahead, along the router table's way around (R26, R27, R32), a shortest one (DESIGN CHOICE, log entry 25). Each
move of a way around brings the packet nearer, and an open fixed route is followed to its end. -/
def nextMove (s : State) (row col : Int) (input : Nat) (d : Dest) : Option Move :=
  if fixedOpen s d 4096 row col input then fixedMove s row col input d
  else
    let goal : Int × Int := (d.row, d.colIn s d.row)
    if routerOk s goal.1 goal.2 then detourMove s row col cellCount [goal] [goal] else none

/-! ### Outputs and arbitration (R152, R154, R155, R157) -/

/-- An output of a router: 0 to 5 by its move (the input that the move arrives at), 6 to its core or gateway, 7 where a
dropped packet goes. -/
def Out.local_ : Nat := 6
def Out.drop : Nat := 7

/-- The move of an output. -/
def moveOf (out : Nat) : Option Move :=
  [Move.north, Move.south, Move.east, Move.west, Move.skipEast, Move.skipWest].find? (fun m => m.input == out)

/-- The output that the head flit of a packet takes from an input. -/
def headOut (s : State) (r : RouterRef) (input : Nat) (goal : Option (Int × Int)) (f : Flit) : Option Nat :=
  if 0xC ≤ flitKind f then some Out.drop
  else match destOf s r.row.val r.pcol.val goal f with
    | none => some Out.drop
    | some d =>
      if d.row = r.row.val ∧ d.colIn s r.row.val = r.pcol.val then some Out.local_
      else (nextMove s r.row.val r.pcol.val input d).map Move.input

/-- The packet whose flits pass a router from an input in a class. -/
def packetAt (s : State) (r : RouterRef) (input cls : Nat) : Option PacketAt :=
  s.packets.find? (fun p => p.router == r && p.input == input && p.cls == cls)

/-- The output of the flit at the head of an input's class: that of its packet (R154). -/
def outOf (s : State) (r : RouterRef) (x : FlitAt) : Option Nat :=
  match packetAt s r x.input (flitClass x.flit) with
  | some p => some p.out
  | none => headOut s r x.input x.goal x.flit

/-- The flit at the head of an input's class. -/
def headAt (s : State) (r : RouterRef) (input cls : Nat) : Option FlitAt :=
  s.fabric.find? (fun x => x.router == r && x.input == input && !x.queued && flitClass x.flit == cls)

/-- The router at the end of a move. -/
def routerAt (r : RouterRef) (m : Move) : RouterRef :=
  ⟨Fin.ofNat 1024 ((r.row.val : Int) + m.dr).toNat, Fin.ofNat 1056 ((r.pcol.val : Int) + m.dc).toNat⟩

/-- The core at a router, where it carries a logical one (R19). -/
def coreAtRouter (s : State) (r : RouterRef) : Option CoreRef :=
  (logicalLocal s (64 * chaseOfRouter r + r.row.val % 64) (r.pcol.val % 66)).map (fun j =>
    ⟨r.row, Fin.ofNat 1024 (64 * (r.pcol.val / 66) + j)⟩)

/-- A core has room for a flit that reaches it (R133, R163): for a remote write in the write buffer, for a gate-kind flit
in a gate entry or the park buffer, for others before the core. -/
def coreTakes (s : State) (c : CoreRef) (f : Flit) : Bool :=
  let k := getCore s c
  let before := (k.inbox.filter (fun x => flitClass x.flit == flitClass f)).length
  decide (before < 4)
    && (flitKind f != Kind.write || decide (k.wbuf.length + before < 16))
    && (!gateKind (flitKind f) || (gateFor k f.stamp).isSome || decide (k.park.length + before < 16))

/-- Credits of a boundary's queue that have not arrived at the sender yet (R156). -/
def creditsOut (s : State) (r : RouterRef) (input cls : Nat) : Nat :=
  s.credits.countP (fun x => x.router == r && x.input == input && x.cls == cls)

/-- Flits of a class in the dual-clock queue of the gateway at a router (R37). -/
def rimHeld (s : State) (r : RouterRef) (cls : Nat) : Nat :=
  s.rim.countP (fun x => x.router == r && flitClass x.flit == cls)

/-- The output has room for a flit (R155, R156): four of a class at a router input, eight in a boundary's dual-clock
queue, less the credits that are on their way, and what a core can take. A gateway's queue holds eight of a class too
(DESIGN CHOICE, log entry 92). -/
def roomFor (s : State) (r : RouterRef) (f : Flit) (out : Nat) : Bool :=
  match moveOf out with
  | some m =>
    let q := routerAt r m
    if chaseOfRouter q = chaseOfRouter r then decide (heldAt s q m.input (flitClass f) false < 4)
    else decide (heldAt s q m.input (flitClass f) true + creditsOut s q m.input (flitClass f) < 8)
  | none =>
    if out = Out.drop then true
    else if flitDcol f < 0x400 then (coreAtRouter s r).all (fun c => coreTakes s c f)
    else decide (rimHeld s r (flitClass f) < 8)

/-- No other packet of the class is on its way through the output (R154). -/
def outFree (s : State) (r : RouterRef) (input cls out : Nat) : Bool :=
  s.packets.all (fun p => !(p.router == r && p.cls == cls && p.out == out && p.input != input))

/-- The flit at the head of an input's class could leave by output `out` now. -/
def wants (s : State) (r : RouterRef) (out cls input : Nat) : Bool :=
  (headAt s r input cls).any (fun x =>
    outOf s r x == some out && outFree s r input cls out && roomFor s r x.flit out)

/-- The order in which classes take a link (R157). -/
def classOrder : List Nat := [4, 6, 1, 0, 2, 3, 5, 7]

/-- The number of a router's output and class among the round-robin turns. -/
def turnKey (r : RouterRef) (out cls : Nat) : Nat := ((r.row.val * 1056 + r.pcol.val) * 8 + out) * 8 + cls

/-- The inputs in the order in which an output serves a class next (R157): round robin after the last one served. -/
def inputOrder (s : State) (r : RouterRef) (out cls : Nat) : List Nat :=
  (List.range 7).map (fun i => (kgetD s.turns (turnKey r out cls) 6 + 1 + i) % 7)

/-- A static lane has the link of a move in this cycle (R142, R204): a part's reserved link cycle, by the chase time of its
passes; in a frozen cycle none has (R170). -/
def staticHas (s : State) (r : RouterRef) (m : Move) : Bool :=
  let n := chaseOfRouter r
  let q := routerAt r m
  let t := (getChase s n).time
  let link := linkId (r.row.val % 64) (r.pcol.val % 66) (q.row.val % 64) (q.pcol.val % 66)
  !(getChase s n).frozen && decide (chaseOfRouter q = n) && s.formes.any (fun f => f.2.parts.any (fun p =>
    p.live && p.chase == n && reached t 0 p.start && p.links.contains (link,
      let e := (t + 2 ^ 48 - p.start) % 2 ^ 48
      if p.schedLen = 0 then e else e % p.schedLen)))

/-- The link of an output is free in this cycle (R25, R142): it carries one flit in each, and a static lane's before a
dynamic one. -/
def linkFree (s : State) (r : RouterRef) (out : Nat) : Bool :=
  (moveOf out).all (fun m => !staticHas s r m
    && kget? s.taken (turnKey r out 0) != some (getChase s (chaseOfRouter r)).clk)

/-- The class and input that an output serves next (R157). -/
def winner (s : State) (r : RouterRef) (out : Nat) : Option (Nat × Nat) :=
  if linkFree s r out then
    classOrder.findSome? (fun cls => ((inputOrder s r out cls).find? (wants s r out cls)).map (fun i => (cls, i)))
  else none

/-! ### What a router does with a flit -/

/-- A flit that a router drops for its packet's route (R152): the record is the packet's, once. -/
def badRoute (s : State) (r : RouterRef) (f : Flit) : State :=
  raise (addF s Reg.FAB_BAD_ROUTES 1 0) { routerItem Err.FAB_BAD_ROUTE r [f.route.toNat] with stamp := some f.stamp.toNat }

/-- A flit at its last router, delivered: to its core, before which it stands until its command takes it, or into the
dual-clock queue of its gateway (R37, R149). -/
def deliverFlit (s : State) (r : RouterRef) (f : Flit) : State :=
  if flitDcol f < 0x400 then
    match coreAtRouter s r with
    | some c => modCore s c (fun k => { k with inbox := k.inbox ++ [⟨k.arrived, f⟩], arrived := k.arrived + 1 })
    | none => s
  else { s with rim := s.rim ++ [⟨r, f⟩] }

/-- Port die `k` refuses new fabric requests: it is quiesced for a reset, in reset, or failed (R474, R479). -/
def dieRefuses (s : State) (k : Nat) : Bool :=
  let p := 768 + k
  onF s Reg.PAGE_CTL_QUIESCE_REQ p || beaconOf s p == Beacon.dark || beaconOf s p == Beacon.fault

/-- A flit that its rim block reads from a gateway's queue (R37, R378, R502, R507): a port die sends it on over its link,
except a poisoned one, and holds it while the link is not up; the other blocks take it in, and what they do with it
comes as rows of their own, as does the NACK of a die that refuses it (R474, R479). -/
def rimTake (s : State) (x : RimFlit) : State :=
  let d := flitDcol x.flit
  let port := decide (0x420 ≤ d ∧ d < 0x430) && !x.flit.poison && !dieRefuses s (d - 0x420)
  if port && !linkUp s (d - 0x420) then s
  else
    let s := { s with rim := s.rim.erase x }
    if port then sendFabric s (d - 0x420) x.flit else s

/-- The rim blocks read their gateways' queues: in a lamp cycle, which is longer than three cycles of any rim block
(R156, R462, log entry 92). -/
def rimDrain (s : State) : State := s.rim.foldl rimTake s

/-- The next flit of an input's class heads it from now on (R158). -/
def refreshHead (s : State) (r : RouterRef) (input cls : Nat) : State :=
  match headAt s r input cls with
  | some x => { s with fabric := s.fabric.map (fun y =>
      if y = x then { y with since := (getChase s (chaseOfRouter r)).clk } else y) }
  | none => s

/-- Packets from other chases wait in the inbound queues of a chase (R21): a keeper halt is in effect, or is requested
where no part runs. -/
def heldOut (s : State) (n : Nat) : Bool :=
  onF s Reg.CHS_SCHED_CTL_HALTED n || (onF s Reg.CHS_SCHED_CTL_HALT_REQ n && !(getChase s n).running)

/-- The chase whose router sends into an input: none for the core's own and the edge's. -/
def senderChase (r : RouterRef) (input : Nat) : Option Nat :=
  if edgeInput r.row.val r.pcol.val input then none else (backOf input).map (fun m => chaseOfRouter (routerAt r m))

/-- The credit of a flit that left a boundary's queue is on its way (R156): it arrives three cycles of the sender's clock
later. -/
def returnCredit (s : State) (r : RouterRef) (input cls : Nat) : State :=
  match senderChase r input with
  | some n => { s with credits := s.credits ++ [⟨r, input, cls, (getChase s n).clk + 3⟩] }
  | none => s

/-- The credits that have arrived at the routers of a chase in this cycle. -/
def takeCredits (s : State) (n : Nat) : State :=
  { s with credits := s.credits.filter (fun x => !(senderChase x.router x.input == some n && decide (x.at_ ≤ (getChase s n).clk))) }

/-- A flit that waits before an input takes the buffer's free place (R155, R156): at once from the core, three receiver
cycles after it came from the queue of a boundary or a gateway, from which it does not come into a halted chase
(R21). -/
def settleInput (s : State) (r : RouterRef) (input cls : Nat) : State :=
  let ch := getChase s (chaseOfRouter r)
  match s.fabric.find? (fun x => x.router == r && x.input == input && x.queued && flitClass x.flit == cls) with
  | some x =>
    if heldAt s r input cls false < 4 ∧ (input = 6 ∨ (x.since + 3 ≤ ch.clk ∧ !heldOut s (chaseOfRouter r))) then
      let s := { s with fabric := s.fabric.map (fun y => if y = x then { y with queued := false, since := ch.clk } else y) }
      if input = 6 then s else returnCredit s r input cls
    else s
  | none => s

/-- The queues at the routers of a chase, once in a cycle. -/
def settleQueues (s : State) (n : Nat) : State :=
  (s.fabric.filter (fun x => x.queued && chaseOfRouter x.router == n)).foldl (fun s x =>
    settleInput s x.router x.input (flitClass x.flit)) (takeCredits s n)

/-- A flit leaves its input by an output: its packet holds the output until its last flit (R154), the turn passes on
(R157), the link is taken in this cycle (R25), and the input's buffer takes the next. -/
def leaveInput (s : State) (r : RouterRef) (x : FlitAt) (out : Nat) : State :=
  let cls := flitClass x.flit
  let rest := s.packets.filter (fun p => !(p.router == r && p.input == x.input && p.cls == cls))
  let s := { s with
    fabric := s.fabric.erase x
    packets := if flitEop x.flit then rest else rest ++ [⟨r, x.input, cls, out⟩]
    turns := kset s.turns (turnKey r out cls) x.input
    taken := kset s.taken (turnKey r out 0) (getChase s (chaseOfRouter r)).clk }
  settleInput (refreshHead s r x.input cls) r x.input cls

/-- The edge router that a flit goes to: its source's choice, made by the first router (R149). -/
def goalOf (s : State) (r : RouterRef) (x : FlitAt) : Option (Int × Int) :=
  match destOf s r.row.val r.pcol.val x.goal x.flit with
  | some (.edge a b) => some (a, b)
  | _ => none

/-- The flit passes its output (R152, R153, R155). -/
def passFlit (s : State) (r : RouterRef) (x : FlitAt) (out : Nat) : State :=
  let first := (packetAt s r x.input (flitClass x.flit)).isNone
  let s := leaveInput s r x out
  match moveOf out with
  | some m =>
    let q := routerAt r m
    enterFabric s q m.input x.flit (decide (chaseOfRouter q ≠ chaseOfRouter r)) (goalOf s r x)
  | none =>
    if out = Out.drop then (if first then badRoute s r x.flit else s)
    else deliverFlit s r x.flit

/-- The flit as it stands at the router input: listed, or come from a gateway, into whose dual-clock queue it goes first
(R36, R37, R156). -/
def arrive (s : State) (r : RouterRef) (input : Nat) (f : Flit) : State :=
  if s.fabric.any (fun x => x.router == r && x.input == input && x.flit == f) then s
  else if edgeInput r.row.val r.pcol.val input && decide (heldAt s r input (flitClass f) true < 8) then
    enterFabric s r input f true none
  else s

/-- FLIT_HOP (R22, R152 to R157, R376): a router forwards the flit at the head of an input's class that its output
serves next. Bad byte lanes poison it; in a chase without transit what stands is lost (R32); an invalid route drops
its packet. A flit that another goes before, or for which there is no room, stays where it is. -/
def execFlitHop (r : RouterRef) (input : Fin 7) (f : Flit) (badLanes : List Nat) (s : State) :
    Host.Outcome State Fault Refusal :=
  .next (if !transitUp s (chaseOfRouter r) then
      { s with fabric := s.fabric.filter (fun x => !(x.router == r && x.input == input.val && x.flit == f)) }
    else
      let s := arrive s r input.val f
      match headAt s r input.val (flitClass f) with
      | none => s
      | some x =>
        match outOf s r x with
        | none => s
        | some out =>
          if x.flit = f ∧ (out = Out.drop ∨ winner s r out = some (flitClass f, input.val)) then
            let y : FlitAt := { x with flit := { f with poison := f.poison || decide (badLanes ≠ []) } }
            let s := if badLanes = [] then s else
              raise (addF { s with fabric := s.fabric.map (fun z => if z = x then y else z) } Reg.FAB_PARITY_EVENTS 1 0)
                { routerItem Err.FAB_PARITY r [input.val, badLanes.foldl min 79] with stamp := some f.stamp.toNat }
            passFlit s r y out
          else s)

/-- FAB_DEADLOCK (R158): the head flit of a class has not moved for `CHS.DEADLOCK_LIMIT` chase clock cycles; the router
keeps waiting. -/
def execFabDeadlock (r : RouterRef) (cls : Fin 8) (input : Fin 7) (stamp : Word64) (s : State) :
    Host.Outcome State Fault Refusal :=
  let n := chaseOfRouter r
  .next (match headAt s r input.val cls.val with
    | some x =>
      if x.flit.stamp = stamp ∧ x.since + getF s Reg.CHS_DEADLOCK_LIMIT n ≤ (getChase s n).clk then
        raise (addF s Reg.FAB_DEADLOCKS 1 0)
          { routerItem Err.FAB_DEADLOCK r [cls.val, input.val] with stamp := some stamp.toNat }
      else s
    | none => s)

/-- CONTROL (R150): a keeper command packet leaves the fabric at its core or router. The spec lays down
no such command; what keepers do comes as rows of their own (log entry 26). -/
def execControl (r : RouterRef) (payload : List Byte) (s : State) : Host.Outcome State Fault Refusal :=
  let mine := fun (f : Flit) => flitKind f == 0xA && f.payload == payload
  let s := { s with fabric := s.fabric.filter (fun x => !(x.router == r && mine x.flit)) }
  .next (match coreAtRouter s r with
    | some c => takeIn s c mine
    | none => s)

end Sys2Proof.Machine
end

