-- ==== Sys2Proof/Machine/Loading.lean ====
section
/-! DEFINITION. The load commands (R348 to R375), what follows them, and the link transfers of images
(R357 to R359). -/

namespace Sys2Proof.Machine

/-- LOAD_FORME (R352). -/
def execLoadForme (q : QueueId) (rec : List Byte) (src : LoadSource) (s : State) : Host.Outcome State Fault Refusal :=
  withRecord "LOAD_FORME" (· == 0x20) rec (fetchWith s q.val (fun s => loadStart s q.val 0x20 rec src))

/-- REPLACE (R363). -/
def execReplace (q : QueueId) (rec : List Byte) (src : LoadSource) (s : State) : Host.Outcome State Fault Refusal :=
  withRecord "REPLACE" (· == 0x21) rec (fetchWith s q.val (fun s => loadStart s q.val 0x21 rec src))

/-- LOAD_VARIANT (R272). -/
def execLoadVariant (q : QueueId) (rec : List Byte) (src : LoadSource) (s : State) : Host.Outcome State Fault Refusal :=
  withRecord "LOAD_VARIANT" (· == 0x23) rec (fetchWith s q.val (fun s => loadStart s q.val 0x23 rec src))

/-- LOAD_OVERLAY (R276). -/
def execLoadOverlay (q : QueueId) (rec : List Byte) (src : LoadSource) (s : State) : Host.Outcome State Fault Refusal :=
  withRecord "LOAD_OVERLAY" (· == 0x24) rec (fetchWith s q.val (fun s => loadStart s q.val 0x24 rec src))

/-! ### UNLOAD_FORME (R362) -/

/-- An UNLOAD_FORME just fetched: admissions stop, QUEUED requests end. -/
def unloadStart (s : State) (q : Nat) (rec : List Byte) : State :=
  let fi := ldForme rec
  match loadCommon s q 0x22 rec with
  | some st => loadRecord s q (cidOf rec) 0 fi st 0 0x02
  | none =>
    let s := setFState (adjForme s fi (fun f => { f with unload := some (q, cidOf rec) })) fi 5
    let es := (s.serve.streams.filter (fun e => e.2.state == 0 && e.2.forme == fi)).map (·.1)
    loadStat (es.foldl (fun s e => endStream s e Sts.FORME_UNKNOWN 5 0) s) fi 0

/-- UNLOAD_FORME (R362). -/
def execUnloadForme (q : QueueId) (rec : List Byte) (s : State) : Host.Outcome State Fault Refusal :=
  withRecord "UNLOAD_FORME" (· == 0x22) rec (fetchWith s q.val (fun s => unloadStart s q.val rec))

/-- Galleys of a forme leave T0: those with a copy keep it. -/
def leaveT0 (s : State) (fi : Nat) : State :=
  (galleysWhere s (fun g => g.forme == fi && g.t0.isSome)).foldl (fun s g =>
    match getG s g with
    | some x => if x.t1.isSome then dropT0 s g .paused else freeGalley s g
    | none => s) s

/-- A placement freed and scrubbed, with its slots and cold slots (R362, R282). -/
def freePlacement (s : State) (fi : Nat) : State :=
  match getForme s fi with
  | some f =>
    let s := leaveT0 s fi
    let waiting := s.loads.filter (fun l => l.slotWait && ldForme l.cmd == fi)
    let s := waiting.foldl (fun s l => finishLoad (dropLoad s l) l Sts.CANCELLED 0) s
    let s := scrubParts s f.parts
    let s := { s with
      formes := kdel s.formes fi
      slots := s.slots.filter (fun x => x.2.forme != fi)
      cold := s.cold.filter (fun c => c.forme != fi) }
    let s := ((f.parts.map (·.chase)).dedup).foldl (fun s n =>
      idleRail (modChase s n (fun c => { c with hints := hintTable s n, running := c.running && chaseClaimed s n })) n) s
    let s := setF s Reg.LOAD_F_GEN 0 fi
    syncGolden (reportForme (setFState s fi 0) fi)
  | none => s

/-- UNLOAD_DRAINED (R362): every request of the index is terminal. -/
def execUnloadDrained (f : FormeId) (s : State) : Host.Outcome State Fault Refusal :=
  .next (match getForme s f.val with
    | some x =>
      match x.unload with
      | some (q, cid) =>
        if s.serve.streams.all (fun e => e.2.forme != f.val || e.2.ended) then
          let cs := s.serve.convs.filter (fun c => c.forme == f.val)
          let s := cs.foldl tryExpire s
          let s := freePlacement s f.val
          loadStat (loadRecord s q cid 0 f.val Sts.OK 0 0x02) f.val 0
        else s
      | none => s
    | none => s)

/-! ### Replacement (R364 to R368) -/

/-- LOAD_STAGED (R364): staging and the checks of R206 have passed, or a check fails. -/
def execLoadStaged (fi : FormeId) (s : State) : Host.Outcome State Fault Refusal :=
  .next (match getForme s fi.val with
    | some f =>
      match f.repl with
      | some r =>
        if r.staged then s
        else
          match (match checksStream r.image with
            | some b => some b
            | none => checksForme r.image) with
          | some b =>
            let s := logFault s (locItem b.code b.loc)
            nextReplace (loadRecord s r.queue r.cid 0 fi.val b.status 0 0x02) fi.val
          | none => stagedReplace s fi.val r
      | none => s
    | none => s)

/-- No step of the forme is in flight, and under DRAIN no admitted request remains (R365, R366). -/
def swapReady (s : State) (fi : Nat) (r : Repl) : Bool :=
  s.serve.streams.all (fun e => e.2.forme != fi || (e.2.step.isNone && (r.policy == 1 || !e.2.live)))

/-- SWAP_BEGIN (R365 to R367, R370). -/
def execSwapBegin (fi : FormeId) (s : State) : Host.Outcome State Fault Refusal :=
  .next (match getForme s fi.val with
    | some f =>
      match f.repl with
      | some r =>
        if r.staged ∧ !r.swapping ∧ swapReady s fi.val r ∧ !recovering s fi.val then
          let r := { r with swapping := true }
          let s := setForme s fi.val { f with repl := some r }
          if r.changed = [] then finishSwap s fi.val { f with repl := some r } r
          else loadStat (loadProgress s r.changed.length 0 r.image.length) fi.val 5
        else s
      | none => s
    | none => s)

/-- SWAP_LAYER_WRITTEN (R367, R368): halted while a recovery runs (R370). -/
def execSwapLayerWritten (fi : FormeId) (digestOk : Bool) (s : State) : Host.Outcome State Fault Refusal :=
  .next (match getForme s fi.val with
    | some f =>
      match f.repl with
      | some r =>
        match r.changed[r.written]? with
        | some l =>
          if !r.swapping || recovering s fi.val then s
          else if digestOk then
            let r := { r with written := r.written + 1 }
            let s := writeLayer s fi.val l f r.image
            let f := { f with repl := some r }
            let s := loadProgress (setForme s fi.val f) r.changed.length r.written r.image.length
            if r.written = r.changed.length then finishSwap s fi.val f r else s
          else rollBack s fi.val f r
        | none => s
      | none => s
    | none => s)

/-! ### Audits (R371 to R374) -/

/-- An index whose weights cannot be recovered: FAILED (R374). -/
def failForme (s : State) (fi : Nat) : State :=
  let s := setFState s fi 6
  handOrEnd s Sts.WEIGHTS_LOST (fun x => x.forme == fi)

/-- A record of the LOAD page. -/
def loadFault (s : State) (code : Nat) (xs : List Nat) : State := logFault s (blockItem code (identOf 0x0E 0) xs)

/-- A layer of a golden copy written again in the stack tier (R372, R374). -/
def restoreGolden (s : State) (f : Forme) (layer : Nat) : State :=
  ((secs f.image).filter (fun x => x.layer == layer && decide (0 < x.len))).foldl (fun s x =>
    match s.golden.find? (fun g => g.ident == f.ident && g.ty == x.ty && g.layer == x.layer && g.layout == x.layout) with
    | some g => stackWrite s g.at_ (secBytes f.image x) false
    | none => s) s

/-- A quarantined layer (R374): the forme at a barrier until the layer is read again from the first source that matches,
the host image under KEEP_HOST, then a neighbour. -/
def quarantine (s : State) (fi : Nat) (a : AuditFinding) (f : Forme) : State :=
  let s := loadFault (addF s Reg.LOAD_QUARANTINES 1 0) Err.LOAD_QUARANTINE [a.layer]
  let s := adjForme (setFState s fi 4) fi (fun f => { f with quarantined := addOnce f.quarantined a.layer })
  let host := f.keepHost.any (fun h => inWindows s h.1 h.2 false) && a.hostOk
  if host || (a.linkOk && (List.range 16).any (linkUp s)) then
    let s := restoreGolden (if host then addF s Reg.HST_RD_BYTES (layerBytes f.image a.layer).length 0 else s) f a.layer
    rewriteNow (raiseBarrier (adjForme s fi (fun f => { f with rewrite := addOnce f.rewrite a.layer })) fi) fi
  else failForme (raiseBarrier s fi) fi

/-- One layer compared and, where copies differ, arbitrated by the first candidate whose digest matches (R372). The image
in State is what the digest names: an on-wafer copy equal to it matches. A golden copy whose direct read and parity
reconstruction disagree is written again from the one that matches. -/
def arbitrate (s : State) (a : AuditFinding) : State :=
  let fi := a.forme.val
  match getForme s fi with
  | some f =>
    let differs := waferDiffers s fi a.layer f
    let s := if a.goldenOk && a.parityOk then s
      else
        let s := if a.goldenOk || a.parityOk || !differs then restoreGolden s f a.layer else s
        if a.goldenOk || a.parityOk || !differs then
          loadFault (addF s Reg.LOAD_ARBITRATIONS 1 0) Err.LOAD_COPY_ARBITRATED [a.layer] else s
    if !a.goldenOk && !a.parityOk then (if differs then quarantine s fi a f else s)
    else if differs then
      let t := kgetD f.lastAudit a.layer 0
      let s := loadFault (addF s Reg.LOAD_DIVERGED 1 0) Err.LOAD_T0_DIVERGED [a.layer, t % 2 ^ 32, t / 2 ^ 32]
      rewriteNow (raiseBarrier (adjForme s fi (fun f => { f with rewrite := addOnce f.rewrite a.layer })) fi) fi
    else s
  | none => s

/-- What an audit reads of a layer that it names no finding for: a golden copy that matches. -/
def cleanFinding (fi : FormeId) (layer : Nat) : AuditFinding := ⟨fi, layer, true, true, false, false⟩

/-- AUDIT_SWEEP (R372): every layer of every forme once in a period, with what its reads returned; a layer whose copies
agree is clean at this time. -/
def execAuditSweep (found : List AuditFinding) (s : State) : Host.Outcome State Fault Refusal :=
  .next (if onF s Reg.LOAD_CTL_AUDIT_EN 0 ∧ groupUp s 1
      ∧ s.lastSweep + 1000000000 * getF s Reg.LOAD_AUDIT_PERIOD 0 ≤ s.lampTime then
      let all := s.formes.flatMap (fun f => (List.range (imgLayers f.2.image)).map (fun l =>
        (found.find? (fun a => a.forme.val == f.1 && a.layer == l)).getD (cleanFinding (Fin.ofNat 16 f.1) l)))
      let clean := fun (fi l : Nat) => all.all (fun a => a.forme.val != fi || a.layer != l
        || (a.goldenOk && !(getForme s fi).any (fun f => waferDiffers s fi l f)))
      let s := { s with formes := s.formes.map (fun f =>
          (f.1, { f.2 with lastAudit := f.2.lastAudit.map (fun x => (x.1, if clean f.1 x.1 then s.lampTime else x.2)) })) }
      addF { all.foldl arbitrate s with lastSweep := s.lampTime } Reg.LOAD_AUDIT_SWEEPS 1 0
    else s)

/-! ### Images over the links (R357 to R359, R508) -/

/-- The golden copy of an identity (R361), where the module holds it whole: of a replacement, once it is staged (R364). -/
def goldenImage (s : State) (p : List Byte → Bool) : Option (List Byte) :=
  let landing := s.formes.flatMap (fun f => ((f.2.repl.toList.filter (fun r => !r.staged)) ++ f.2.replWait).map (·.ident))
  ((goldenWants s).find? (fun w => p w.ident && (w.base.isEmpty || !landing.contains w.ident))).map (·.image)

/-- LINK_SOURCE (R357): no offer came within `LOAD.LINK_WAIT`. -/
def execLinkSource (f : FormeId) (s : State) : Host.Outcome State Fault Refusal :=
  .next (match s.loads.find? (fun l => l.fromLink && l.offers.isEmpty && l.source.isNone && ldForme l.cmd == f.val
      && decide (l.since + 1000000000 * getF s Reg.LOAD_LINK_WAIT 0 ≤ s.lampTime)) with
    | some l =>
      let s := dropLoad s l
      let s := if ldKind l.cmd = 0x20 then setFState s f.val 0 else s
      loadStat (finishLoad s l Sts.LINK_SOURCE 0) f.val 0
    | none => s)

/-- LOAD_ASK (R357, R359): a matching golden copy is offered, and the ask is kept for forwarding. -/
def execLoadAsk (k : LinkId) (expect : List Byte) (s : State) : Host.Outcome State Fault Refusal :=
  .next (
    let s := modLink s k.val (fun x => { x with asks := addOnce x.asks expect })
    match goldenImage s (fun i => i.take 32 == expect) with
    | some img => if onF s Reg.LOAD_CTL_SERVE_LINK 0 then linkSend s k.val (linkMsg 0x11 0 (identity img)) else s
    | none => s)

/-- The lowest-numbered offering port, and its identity. -/
def bestOffer (l : Load) : Option (Nat × List Byte) :=
  l.offers.foldl (fun b o => match b with
    | some c => if o.1 < c.1 then some o else b
    | none => some o) none

/-- The offer on the lowest port die taken from the first layer not yet verified (R357, R358). -/
def takeOffer (s : State) (l : Load) : State × Load :=
  match bestOffer l with
  | some (k, i) => (linkSend s k (linkMsg 0x12 0 (i ++ leBytes 2 l.layersOk)), { l with source := some k })
  | none => (s, { l with source := none })

/-- The loads with `l` changed into `m`. -/
def swapLoad (s : State) (l m : Load) : State := { s with loads := s.loads.map (fun x => if x = l then m else x) }

/-- LOAD_OFFER (R357). -/
def execLoadOffer (k : LinkId) (ident : List Byte) (s : State) : Host.Outcome State Fault Refusal :=
  .next (match s.loads.find? (fun l => l.fromLink && ldExpect l.cmd == ident.take 32) with
    | some l =>
      let m := { l with offers := addOnce l.offers (k.val, ident) }
      if l.source = none ∨ (l.source.all (fun j => decide (k.val < j)) ∧ l.image = []) then
        let (s, m') := takeOffer s m
        swapLoad s l m'
      else swapLoad s l m
    | none => s)

/-- LOAD_TAKE (R358): the source sends from the first layer asked for. -/
def execLoadTake (k : LinkId) (ident : List Byte) (layer : Nat) (s : State) : Host.Outcome State Fault Refusal :=
  .next (match goldenImage s (fun i => i == ident) with
    | some img =>
      if onF s Reg.LOAD_CTL_SERVE_LINK 0 then
        sendMsgs s k.val (headMsgs img ++ ((List.range (imgLayers img)).filter (fun l => layer ≤ l)).flatMap (layerMsgs img)
          ++ globalMsgs img)
      else s
    | none => s)

/-- Bytes laid into a growing image. -/
def layBytes (img : List Byte) (off : Nat) (bs : List Byte) : List Byte :=
  let p := img ++ List.replicate (off + bs.length - img.length) 0
  p.take off ++ bs ++ p.drop (off + bs.length)

/-- An offset that does not lie in what a neighbour sends first (R508): the header, the table, DIGESTS and SIGNATURE. -/
def pastHead (img : List Byte) (off : Nat) : Bool :=
  decide (256 ≤ img.length ∧ 256 + 32 * imgSections img ≤ off)
    && !((secs img).any (fun x => (x.ty == 1 || x.ty == 9) && decide (x.off ≤ off ∧ off < x.off + x.len)))

/-- The head of an image from a neighbour has come: steps 1 and 2 of R352, and the space of R355, before its layers (R358).
The load goes on with `f`, or is refused. -/
def withHead (s : State) (l : Load) (f : State → Load → State) : State :=
  if l.headOk then f s l
  else
    match headRefusal s l with
    | some g => g (freeIndex (dropLoad s l) l)
    | none =>
      if !stackRoom (dropLoad s l) (goldenSize l.image) then finishLoad (freeIndex (dropLoad s l) l) l Sts.STACK_FULL 0
      else
        let m := { l with headOk := true }
        f (swapLoad s l m) m

/-- The load that data from link `k` belongs to: the one whose source that is; else the first that has no source, which a
neighbour serves that forwards what it loads (R359; DESIGN CHOICE, log entry 110). -/
def loadFrom (s : State) (k : Nat) : Option Load :=
  (s.loads.find? (fun l => l.fromLink && l.source == some k))
    <|> (s.loads.find? (fun l => l.fromLink && l.source.isNone && !l.capacity && !l.slotWait))

/-- LOAD_DATA (R508). -/
def execLoadData (k : LinkId) (offset : Nat) (bytes : List Byte) (s : State) : Host.Outcome State Fault Refusal :=
  .next (if bytes.length ≤ 68 then
      match loadFrom s k.val with
      | some l =>
        let m := { l with source := some k.val }
        let s := swapLoad s l m
        let l := m
        let lay := fun (s : State) (l : Load) =>
          addF (swapLoad s l { l with image := layBytes l.image offset bytes }) Reg.LOAD_BYTES bytes.length 0
        if pastHead l.image offset then withHead s l lay else lay s l
      | none => s
    else s)

/-- The source of a load fails: it goes on with the next offer (R358). A load that has another source only loses this
offer. -/
def nextSource (s : State) (l : Load) (k : Nat) : State :=
  let m := { l with offers := l.offers.filter (fun o => o.1 != k) }
  if l.source = some k then
    let (s, m) := takeOffer s m
    swapLoad s l m
  else swapLoad s l m

/-- LOAD_END (R358, R359): a layer's digest is checked, the verified layer forwarded; with the end of
the global sections the load runs. -/
def execLoadEnd (k : LinkId) (layer : Nat) (s : State) : Host.Outcome State Fault Refusal :=
  .next (match s.loads.find? (fun l => l.fromLink && l.source == some k.val) with
    | some l => withHead s l (fun s l =>
        if imgLayers l.image ≤ layer then loadRun s l
        else if sha384 (layerBytes l.image layer) = layerDigest l.image layer then
          let m := { l with layersOk := layer + 1 }
          let s := swapLoad s l m
          (forwardPorts s l.cmd (identity l.image)).foldl (fun s j =>
            sendMsgs s j ((if layer = 0 then headMsgs l.image else []) ++ layerMsgs l.image layer)) s
        else nextSource s l k.val)
    | none => s)

/-! ### Slots (R275, R277 to R279, R282) -/

/-- A slot superseded or deleted goes to RETIRING, or straight on to SCRUBBING without pins (R275). -/
def retireSlot (x : Slot) : Slot := { x with st := if x.pins = 0 then .scrubbing else .retiring }

/-- A deletion just fetched (R279): the ACTIVE version retires. -/
def deleteStart (s : State) (q kind : Nat) (rec : List Byte) : State :=
  let fi := ldForme rec
  match loadCommon s q kind rec with
  | some st => loadRecord s q (cidOf rec) (tenantOf rec) fi st 0 0x02
  | none =>
    let variant := kind == 0x25
    match s.slots.find? (fun x => x.2.st == .active && sameTarget fi (tenantOf rec) (ldOverlay rec) variant x.2) with
    | some (k, x) =>
      loadRecord { s with slots := kset s.slots k (retireSlot x) } q (cidOf rec) (tenantOf rec) fi Sts.OK 0 0x02
    | none =>
      loadRecord s q (cidOf rec) (tenantOf rec) fi (if variant then Sts.NOT_FOUND else Sts.OVERLAY_UNKNOWN) 0 0x02

/-- DELETE_VARIANT (R279). -/
def execDeleteVariant (q : QueueId) (rec : List Byte) (s : State) : Host.Outcome State Fault Refusal :=
  withRecord "DELETE_VARIANT" (· == 0x25) rec (fetchWith s q.val (fun s => deleteStart s q.val 0x25 rec))

/-- DELETE_OVERLAY (R279). -/
def execDeleteOverlay (q : QueueId) (rec : List Byte) (s : State) : Host.Outcome State Fault Refusal :=
  withRecord "DELETE_OVERLAY" (· == 0x26) rec (fetchWith s q.val (fun s => deleteStart s q.val 0x26 rec))

/-- A LOADING slot becomes ACTIVE and the version before it retires (R275, R278). -/
def activateSlot (s : State) (k : Nat) (x : Slot) : State :=
  let slots : KMap Slot := s.slots.map (fun y =>
    (y.1, if y.2.st == .active && sameTarget x.forme x.tenant x.number x.isVariant y.2 then retireSlot y.2 else y.2))
  let s := { s with slots := kset slots k { x with st := .active } }
  loadRecord s x.queue x.cid x.tenant x.forme Sts.OK (slotLayers x.image).length 0x02

/-- SLOT_DIGEST_CHECK (R275, R276). -/
def execSlotDigestCheck (slot : Nat) (ok : Bool) (s : State) : Host.Outcome State Fault Refusal :=
  .next (match kget? s.slots slot with
    | some x =>
      if x.st ≠ .loading then s
      else if ok then loadStat (activateSlot s slot x) x.forme 0
      else
        let s := { s with slots := kset s.slots slot { x with st := .scrubbing } }
        let v := nextFree s
        let r : Refuse := ⟨5, { Loc.none_ with sec := (globalSec x.image 1).map Sec.idx, layer := some (v.1 % 256) }⟩
        let s := logFault v.2 (locItem r.code r.loc)
        loadStat (loadRecord s x.queue x.cid x.tenant x.forme r.status 0 0x02) x.forme 0
    | none => s)

/-- SLOT_SCRUB_DONE (R282): the slot holds zeros and is FREE; a waiting load begins (R276). -/
def execSlotScrubDone (slot : Nat) (s : State) : Host.Outcome State Fault Refusal :=
  .next (match kget? s.slots slot with
    | some x =>
      if x.st = .scrubbing then
        let s := fillSlot s x true
        retrySlots { s with slots := kdel s.slots slot }
      else s
    | none => s)

end Sys2Proof.Machine
end

