-- ==== Sys2Proof/Machine/RecOps.lean ====
section
/-! DEFINITION. Recovery (R205, R389 to R394, R398) and handover (R406 to R409) as operations that the
commands share. -/

namespace Sys2Proof.Machine

/-! ### Handover (R406 to R409) -/

/-- Host surprise-down (R408, R410): every port's link drops. -/
def surpriseDown (s : State) : State :=
  let s := { s with pins := { s.pins with surpriseDown := true } }
  [0, 1, 2, 3].foldl (fun s h => setF s Reg.HST_PORT_STAT_UP 0 h) s

/-- A stream of a ring that the partner has taken over from what was mirrored to it (R408): this
module writes nothing more of it. -/
def leaveStream (s : State) (e : Nat) : State :=
  match getSt s e with
  | some x => dropEntry (setF { s with partner := { s.partner with handed := addOnce s.partner.handed x.queue } }
      Reg.ERR_PARTNER_STAT_HANDED 1 0) e
  | none => s

/-- Streams that are not terminal. -/
def openStreams (s : State) : List Nat := (s.serve.streams.filter (fun e => !e.2.ended)).map (·.1)

/-- A handover with its cause (R408, R409). `live` keeps the stacks and links up until
HANDOVER_COMPLETE; else the partner works from what was mirrored. With no partner READY the streams
end with MODULE_LOST before the host interface stops. -/
def moduleHandover (s : State) (cause : Nat) (live : Bool) : State :=
  let ready := partnerReady s
  let n := if ready then (openStreams s).length else 0
  let block := if cause ∈ [2, 6, 7, 8] then identOf 0x02 0 else identOf 0x0A 2
  let s := logFault s (blockItem Err.MODULE_HANDOVER block [cause, n])
  if !ready then surpriseDown ((openStreams s).foldl (fun s e => endStream s e Sts.MODULE_LOST 5 0) s)
  else if live then { s with partner := { s.partner with sending := some cause } }
  else surpriseDown ((openStreams s).foldl leaveStream s)

/-- A FATAL_MODULE record that does not start the rail shutdown sequence (R408, R437): every rail is
forced to RETENTION and a live handover begins. -/
def fatalModule (s : State) (it : FaultItem) (cause : Nat) : State :=
  moduleHandover (forceRetention (logFault s it)) cause true

/-- REPAIR_BUDGET (R406). No rule numbers the conditions of X0: a free value (log entry 2). -/
def repairBudget (s : State) : State :=
  let v := nextFree s
  fatalModule v.2 (blockItem Err.REPAIR_BUDGET (identOf 0x0A 2) [v.1 % 2 ^ 32]) 4

/-! ### The recovery set (R389) -/

/-- Formes with a part in one of some chases. -/
def formesOn (s : State) (cs : List Nat) : List Nat :=
  (s.formes.filter (fun f => f.2.parts.any (fun p => p.live && cs.contains p.chase))).map (·.1)

/-- Chases that hold a part of some formes. -/
def chasesOf (s : State) (fs : List Nat) : List Nat :=
  ((s.formes.filter (fun f => fs.contains f.1)).flatMap (fun f => (f.2.parts.filter (·.live)).map (·.chase))).dedup

/-- The affected formes and the recovery set (R389): one round for each forme index is enough. -/
def growSet (s : State) : Nat → List Nat → List Nat × List Nat
  | 0, cs => (formesOn s cs, cs)
  | n + 1, cs => growSet s n (cs ++ (chasesOf s (formesOn s cs)).filter (fun c => !cs.contains c))

/-- A stream whose step is abandoned and that holds for RECOVERY (R390 step 1, R391). -/
def Stream.abandon (x : Stream) : Stream := settleHold { x with holdRecovery := true, step := none, tlen := x.vlen }

/-- The passes of a forme's steps in flight are over (R391). -/
def endPasses (s : State) (fi : Nat) : State :=
  (s.serve.streams.filter (fun e => e.2.live && e.2.forme == fi && e.2.step.isSome)).foldl (fun s e => endPass s e.1 e.2) s

/-- Step 1 of R390 for some formes. -/
def holdFormes (s : State) (fs : List Nat) : State :=
  fs.foldl (fun s fi => stopStreaming (mapForme (endPasses s fi) fi Stream.abandon) (· == fi)) s

/-- A chase whose schedule can be halted: LIT and ON. -/
def schedules (s : State) (n : Nat) : Bool := chaseBeacon s n == Beacon.lit && railOn s n

/-- A recovery that nothing has been put into yet. -/
def Recovery.empty (chase : Nat) : Recovery := ⟨.halting, chase, [], [], [], 0, 1, [], [], [], [], []⟩

/-- The recoveries with the one at `i` written. -/
def setRecovery (s : State) (i : Nat) (r : Recovery) : State :=
  { s with faults := { s.faults with recoveries := s.faults.recoveries.set i r } }

/-- A recovery starts, or a running one whose set holds the chase takes the fault in (R389, R390 steps
1 and 2, R394). `cs` are the chases it grows from, `kind` its kind (R382), `self` the chases whose
whole self-test it awaits, `move` those whose parts it places again. -/
def startRecovery (s : State) (chase : Nat) (cs : List Nat) (items : List FaultItem) (kind : Nat)
    (self move : List Nat) : State :=
  let set := growSet s 17 cs
  let mine := fun (it : FaultItem) => it.chase.any (fun c => set.2.contains c)
  let ev := s.faults.evidence.filter mine
  let at_ := s.faults.recoveries.findIdx (fun r => r.chases.contains chase)
  let old := (s.faults.recoveries[at_]?).getD (Recovery.empty chase)
  let r := { old with
    phase := .halting, chases := (old.chases ++ set.2).dedup, formes := (old.formes ++ set.1).dedup
    items := old.items ++ items ++ ev, since := s.lampTime, kind := max old.kind kind
    selfTest := (old.selfTest ++ self).dedup, move := (old.move ++ move).dedup }
  let s := { s with faults := { s.faults with
    evidence := s.faults.evidence.filter (fun it => !mine it)
    recoveries := if at_ < s.faults.recoveries.length then s.faults.recoveries.set at_ r else s.faults.recoveries ++ [r] } }
  let s := holdFormes s r.formes
  (r.chases.filter (schedules s)).foldl haltChase s

/-- A recovery of one forme without a faulting chase (R378, R510). -/
def recoverForme (s : State) (fi : Nat) : State :=
  let cs := chasesOf s [fi]
  match cs with
  | c :: _ => startRecovery s c cs [] 1 [] []
  | [] => holdFormes s [fi]

/-! ### Placing again (R205, R390 steps 5 and 6, R398) -/

/-- The image that a layer holds now (R370). -/
def imageOf (f : Forme) (layer : Nat) : List Byte :=
  match f.repl with
  | some r => if r.swapping && (r.changed.take r.written).contains layer then r.image else f.image
  | none => f.image

/-- The record of a placed part. -/
def partOf (img : List Byte) (p : Placed) : Option PartD := (partsOf img p.layer p.layout).find? (fun d => d.part == p.part)

/-- Static send cycles of a part chosen again (R390 step 6), none where a lane does not fit. -/
def relane (s : State) (img : List Byte) (p : Placed) : Option Placed :=
  match partOf img p with
  | some d =>
    (lanesFit s p.chase p.row p.col p.cols p.schedLen (xfersOf (layoutBytes img p.layer p.layout) d) [] []).map
      (fun l => { p with sends := l.1, links := l.2 })
  | none => some p

/-- The parts in a row segment with their sends chosen again, and whether every lane fits. -/
def relaneRow (s : State) (n row : Nat) : State × Bool :=
  let hit := fun (p : Placed) => p.live && p.chase == n && decide (p.row ≤ row ∧ row < p.row + p.rows)
  let ok := s.formes.all (fun f => f.2.parts.all (fun p => !hit p || (relane s f.2.image p).isSome))
  ({ s with formes := s.formes.map (fun f => (f.1, { f.2 with
      parts := f.2.parts.map (fun p => if hit p then (relane s f.2.image p).getD p else p) })) }, ok)

/-- A forme whose parts are being placed again: parts that have a place, records that wait for one. -/
structure Moving where
  parts : List Placed
  waiting : List PartD
  layouts : List Nat
  steps : List Nat
  deriving DecidableEq, Repr

/-- Parts placed in order along a path, from the chase of the last one placed on (R203); those that find no place wait. -/
def placeSeq (s : State) (img : List Byte) (others : List Placed) : List PartD → List Nat → Moving → Moving
  | [], _, m => m
  | d :: ds, path, m =>
    match placeOn s (others ++ m.parts) (xfersOf (layoutBytes img d.layer d.layout) d) d path with
    | some (p, rest) => placeSeq s img others ds rest { m with parts := m.parts ++ [p] }
    | none => placeSeq s img others ds path { m with waiting := m.waiting ++ [d] }

/-- Parts in the order of R203: by layer, then by PART. -/
def partOrder (ds : List PartD) : List PartD :=
  ds.mergeSort (fun a b => decide (a.layer < b.layer ∨ (a.layer = b.layer ∧ a.part ≤ b.part)))

/-- One DEGRADE step (R205): the layer's old layout freed, then one pass of R203's loops along the whole path over its next
layout's parts and the parts that still wait, by layer and PART (DESIGN CHOICE, log entry 106). -/
def degradeStep (s : State) (img : List Byte) (others : List Placed) (m : Moving) (l : Nat) : Moving :=
  let y := m.layouts.getD l 0 + 1
  placeSeq s img others (partOrder (partsOf img l y ++ m.waiting.filter (fun d => d.layer != l))) (livePath s)
    { m with parts := m.parts.filter (fun p => p.layer != l), waiting := [], layouts := m.layouts.set l y }

/-- DEGRADE steps until nothing waits or they run out. -/
def degradeAll (s : State) (img : List Byte) (others : List Placed) : List Nat → Moving → Moving
  | [], m => m
  | l :: r, m => if m.waiting = [] then m else degradeAll s img others r (degradeStep s img others m l)

/-- The path of R205 after a chase. -/
def pathAfter (s : State) (n : Nat) : List Nat := (livePath s).filter ((chasePath.dropWhile (· != n)).drop 1).contains

/-- The parts of a forme in chase `n` placed again, first in that chase where it can be used, then those that do not fit from
the next one on; `degrade` allows DEGRADE steps (R205, R427). -/
def moveForme (s : State) (fi : Nat) (f : Forme) (n : Nat) (usable degrade : Bool) : Moving :=
  let img := f.image
  let others := (otherParts s fi).filter (·.live)
  let stay := f.parts.filter (fun p => p.live && p.chase != n)
  let go := f.parts.filter (fun p => !p.live || p.chase == n)
  let ds := partOrder (go.filterMap (partOf img))
  let m := placeSeq s img others ds (if usable then [n] else []) ⟨stay, [], f.layouts, []⟩
  let m := placeSeq s img others m.waiting (pathAfter s n) { m with waiting := [] }
  if degrade then degradeAll s img others ((degradeList img).drop f.layouts.sum) m else m

/-- Galleys that lay on lost cores (R390 step 7, R391): RESIDENT and FETCHING ones lose their region, scrubbed (R250),
until the reload; a stick or a PENDING galley makes its stream replay. -/
def loseGalleys (s : State) (keys : List Nat) : State :=
  let hit := fun (g : Galley) => g.t0.any (fun a => keys.contains (a / coreBytes))
  let lost := s.kv.galleys.filterMap (fun g =>
    if hit g.2 && (g.2.st == .composing || g.2.st == .pending) then g.2.owner.holder else none)
  let s := (s.kv.galleys.filter (fun g => hit g.2)).foldl (fun s g => g.2.t0.elim s (fun a => scrubT0 s a g.2.bytes)) s
  let s := modKv s (fun k => { k with galleys := k.galleys.map (fun g => (g.1, if hit g.2 then { g.2 with t0 := none } else g.2)) })
  { s with serve := { s.serve with streams := s.serve.streams.map (fun e =>
      (e.1, if lost.contains e.1 && e.2.live then { e.2 with lostState := true } else e.2)) } }

/-- The core numbers of a part. -/
def Placed.keys (p : Placed) : List Nat := p.cores.map (fun c => coreKey c.2.2)

/-- The parts of chase `n` placed again for every forme there (R205, R398): cores they left are
scrubbed, and gated banks are opened before regions are placed in them (R431). `false` where a part finds no place; that forme's index becomes FAILED with IMPOSE_FILL. -/
def moveChase (s : State) (n : Nat) (usable : Bool) : State × List (Nat × Nat × Nat) × Bool :=
  (s.formes.filter (fun f => f.2.parts.any (fun p => p.chase == n))).foldl (fun a f =>
    let s := a.1
    let m := moveForme s f.1 f.2 n usable true
    let same := fun (p q : Placed) => p.layer == q.layer && p.layout == q.layout && p.part == q.part
      && p.chase == q.chase && p.row == q.row && p.col == q.col && p.chase != n
    let gone := f.2.parts.filter (fun p => p.live && !(m.parts.any (same p)))
    let fresh := m.parts.filter (fun p => !(f.2.parts.any (fun q => q.live && same p q)))
    let s := loseGalleys s (gone.flatMap Placed.keys)
    let s := scrubParts s gone
    let s := openPlaced (adjForme s f.1 (fun x => { x with parts := m.parts, layouts := m.layouts })) f.2.image fresh
    let s := if m.waiting = [] then s
      else setFState (logFault s (locItem 0x6115 { Loc.none_ with chase := some n })) f.1 6
    (s, a.2.1 ++ fresh.map (fun p => (f.1, p.layer, p.part)), a.2.2 && m.waiting.isEmpty)) (s, [], true)

/-! ### Reload (R390 step 7) -/

/-- The weights of one core of a part written from its golden copy (R390 step 7, log entry 17). -/
def fillCore (s : State) (c : CoreRef) : List (CoreRef × Alloc) → List Byte → State
  | [], _ => s
  | (d, a) :: r, bs =>
    let n := min a.len bs.length
    fillCore (if d = c then storeWrite s c a.addr (bs.take n) false else s) c r (bs.drop n)

/-- A core reloaded: its WEIGHTS regions; regions of the kinds without a source hold no valid data,
their bytes are free values (R390 step 7, log entry 2). Summaries come back as they were; galleys lost their regions, which
are scrubbed (R250). -/
def reloadCore (s : State) (key : Nat) : State :=
  let c : CoreRef := ⟨Fin.ofNat 1024 (key / 1024), Fin.ofNat 1024 (key % 1024)⟩
  match partOfCore s c with
  | some (_, f, p) =>
    let img := imageOf f p.layer
    let s := fillCore s c (regionsOf img p 0x01) (slice (weightsBytes img p.layer) p.weightOff p.weightLen)
    [2, 3, 4, 9, 10, 11].foldl (fun s kind =>
      ((regionsOf img p kind).filter (fun r => r.1 == c)).foldl (fun s r =>
        storeWrite s c r.2.addr (freeBytes 0x0390 [key, r.2.addr, s.lampTime] r.2.len) false) s) s
  | none => s

/-- The numbered slots of a layer written again from their images. -/
def refillLayer (s : State) (fi layer : Nat) : State :=
  match getForme s fi with
  | some f =>
    let s := refillCold s fi layer f (imageOf f layer)
    (s.slots.filter (fun x => x.2.forme == fi && x.2.st != .scrubbing && x.2.need.any (fun n => n.1 == layer))).foldl
      (fun s x => fillSlot s x.2 false) s
  | none => s

/-- RESIDENT and FETCHING galleys without a region get one again from T1. -/
def refillGalleys (s : State) (fs : List Nat) : State :=
  (galleysWhere s (fun g => fs.contains g.forme && g.t0.isNone && (g.st == .resident || g.st == .fetching))).foldl
    (fun s g => match getG s g with
      | some x => copyToT0 s g x.st
      | none => s) s

/-- Step 7 of R390. -/
def reloadAll (s : State) (r : Recovery) : State :=
  let s := r.cores.foldl reloadCore s
  let s := r.parts.foldl (fun s x => match getForme s x.1 with
    | some f => match f.parts.find? (fun p => p.live && p.layer == x.2.1 && p.part == x.2.2) with
      | some p => fillPart s (imageOf f x.2.1) p
      | none => s
    | none => s) s
  let byCore := r.cores.filterMap (fun key =>
    (partOfCore s ⟨Fin.ofNat 1024 (key / 1024), Fin.ofNat 1024 (key % 1024)⟩).map (fun x => (x.1, x.2.2.layer)))
  let layers := (byCore ++ r.parts.map (fun x => (x.1, x.2.1))).dedup
  refillGalleys (layers.foldl (fun s l => refillLayer s l.1 l.2) s) r.formes

/-! ### Replay (R391, R392) -/

/-- A stream that lost state replays from its durable length: what it holds beyond is freed, fresh
sticks are bound (R391, R392). -/
def replayStream (s : State) (e : Nat) : State :=
  match getSt s e with
  | some x =>
    match getForme s x.forme with
    | some f =>
      let d := durableLen s e f x.vlen
      let s := (galleysWhere s (fun g => g.owner == .stream e && (g.st == .composing || d / 256 ≤ g.index))).foldl (fun s g =>
        match getG s g with
        | some y => if y.holders = [] ∧ y.tree = 0 then freeGalley s g else setG s g { y with owner := .tree }
        | none => s) s
      let s := bindSticks s e x.forme (d / 256) x.tenant x.req
      setSt s e { x with vlen := d, tlen := d, replayTo := max x.replayTo x.vlen, start := min x.start d, lostState := false }
    | none => s
  | none => s

/-- The streams of some formes leave HOLD for RECOVERY, those that lost state to replay; a CANCEL that
waits for no replay applies (R332, R390 step 9). -/
def releaseFormes (s : State) (fs : List Nat) : State :=
  let free := fs.filter (fun fi => !recovering s fi)
  let mine := (s.serve.streams.filter (fun e => e.2.live && free.contains e.2.forme)).map (·.1)
  mine.foldl (fun s e =>
    let s := match getSt s e with
      | some x => if x.lostState then replayStream s e else s
      | none => s
    let s := adjSt s e (fun x => settleHold { x with holdRecovery := false })
    match getSt s e with
    | some x => if x.cancels ≠ [] ∧ x.replayTo ≤ x.vlen then cancelStream s e else s
    | none => s) s

/-! ### Completion (R382, R404) -/

/-- REPAIR_DONE (R382): the recovery at `i` is complete. A stall above 2 s faults the minute of its
streams (R404). A chase parked by it is recorded (R426). -/
def finishRecovery (s : State) (i : Nat) (r : Recovery) : State :=
  let stall := (s.lampTime - r.since) / 1000
  let s := { s with faults := { s.faults with recoveries := s.faults.recoveries.eraseIdx i } }
  let s := if 2000000 < stall then
      r.formes.foldl (fun s fi => mapForme s fi (fun x => { x with minuteFault := true })) s
    else s
  let s := logFault s { blockItem Err.REPAIR_DONE (identOf 0x0A 2) [r.kind, stall % 2 ^ 32, r.replays.length] with
    chase := some r.chase }
  let s := (r.move.filter (fun n => (getChase s n).parkedFor)).foldl (fun s n =>
    logFault (modChase s n (fun ch => { ch with parkedFor := false })) (railItem Err.PWR_PARK n [1, stall % 2 ^ 32])) s
  setF (addF s Reg.ERR_RECOVERIES 1 0) Reg.ERR_LAST_STALL (min stall 0xFFFFFFFF) 0

/-- A replayed stream has gone one step beyond its replay, or ended. -/
def caughtUp (s : State) (x : Nat × Nat) : Bool :=
  match getSt s x.1 with
  | some y => y.ended || y.cmd.length == 0 || decide (y.replayTo < y.vlen) || decide (y.order != x.2)
  | none => true

/-- Recoveries whose replays have all ended are complete. -/
def checkRecoveries : Nat → State → State
  | 0, s => s
  | n + 1, s =>
    let i := s.faults.recoveries.findIdx (fun r => r.phase == .replaying && r.replays.all (caughtUp s))
    match s.faults.recoveries[i]? with
    | some r => checkRecoveries n (finishRecovery s i r)
    | none => s

end Sys2Proof.Machine
end

