-- ==== Sys2Proof/Machine/Recovery.lean ====
section
/-! DEFINITION. The commands of a recovery (R209, R389 to R394, R398, R405, R406): a fault item reaches
keeper group 2, the fabric drains, the retest ends, the reload ends. -/

namespace Sys2Proof.Machine

/-! ### A fault item (R209, R390) -/

/-- Codes whose first occurrence alone is retested (R382). -/
def firstOnly (code : Nat) : Bool := code ∈ [0x1003, 0x3001, 0x3002, 0x3003, 0x3004, 0x3005, 0x4001, 0x4003, 0x5002, 0xA004]

/-- Codes that the retest of R390 follows (R382). -/
def retested (code : Nat) : Bool := firstOnly code || code ∈ [0x2002, 0x3006, 0x4002, 0x4004, 0x5001]

/-- Records of a chase that start a recovery: those of class FATAL_BLOCK, and a parity error, whose
poison cannot be told from delivered work until the recovery has run (R379, R389, log entry 28). -/
def startsRecovery (it : FaultItem) : Bool :=
  retested it.code && (classOf it.code == 3 || it.code == Err.CORE_PARITY || it.code == Err.FAB_PARITY)

/-- The item with REPLAY where a replay step raised it (R381). -/
def markReplay (s : State) (it : FaultItem) : FaultItem :=
  { it with replay := (it.stamp.bind (fun st => streamOfReq s (st / 2 ^ 44))).any (fun e => decide (e.2.vlen < e.2.replayTo)) }

/-- The FORME_DEFECT record of a repeated fault (R207, R209), its cycle counted within the pass. -/
def defectItem (s : State) (it : FaultItem) : FaultItem :=
  let core : Option CoreRef := match it.row, it.lcol with
    | some r, some c => some ⟨Fin.ofNat 1024 r, Fin.ofNat 1024 c⟩
    | _, _ => none
  let at_ := core.bind (fun c => (partOfCore s c).map (fun x => (c, x.2.2)))
  let l := { Loc.none_ with
    layer := it.stamp.map (fun st => st / 2 ^ 12 % 2 ^ 8), layout := at_.map (fun x => x.2.layout)
    part := it.stamp.map (fun st => st % 2 ^ 12)
    core := at_.map (fun x => (x.1.row.val % 64 - x.2.row, x.1.lcol.val % 64 - x.2.col))
    instr := it.instr, chase := it.chase
    cycle := it.cycle.map (fun k => at_.elim k (fun x => if x.2.schedLen = 0 then k else (k + 2 ^ 48 - x.2.start) % 2 ^ 48 % x.2.schedLen)) }
  { locItem Err.FORME_DEFECT l with stamp := it.stamp, replay := it.replay }

/-- A forme defect (R209): recorded, and the request of the stamp ends. -/
def formeDefect (s : State) (it : FaultItem) : State :=
  let s := logFault s (defectItem s it)
  match it.stamp.bind (fun st => streamOfReq s (st / 2 ^ 44)) with
  | some e => checkRecoveries 64 (endStream s e.1 Sts.FORME_DEFECT 5 flFormeFault)
  | none => s

/-- The item's store word is still poisoned. -/
def stillPoisoned (s : State) (it : FaultItem) : Bool :=
  match it.row, it.lcol, it.x0 with
  | some r, some c, some a =>
    s.mem.storePoison.contains (storeAddr ⟨Fin.ofNat 1024 r, Fin.ofNat 1024 c⟩ a / 64)
  | _, _, _ => false

/-- The router at the far end of an input link (R382). -/
def farEnd (row pcol link : Nat) : Option (Nat × Nat) :=
  match backOf link with
  | some m =>
    let r := (row : Int) + m.dr
    let c := (pcol : Int) + m.dc
    if inArray r c then some (r.toNat, c.toNat) else none
  | none => none

/-- The places that an item names (R390 step 4): its core; for FAB_PARITY both ends of the link. -/
def testedPlaces (it : FaultItem) : List (Nat × Nat) :=
  match it.row, it.pcol with
  | some r, some p =>
    (r, p) :: (if it.code = Err.FAB_PARITY then ((it.x0.bind (farEnd r p)).toList) else [])
  | _, _ => []

/-- The chases whose cores or routers an item's retest names: they are halted with the faulting one, as the shift map of each
may change (R21, R390 step 4; DESIGN CHOICE, log entry 106). -/
def itemChases (n : Nat) (it : FaultItem) : List Nat :=
  (n :: (testedPlaces it).map (fun p => 16 * (p.1 / 64) + p.2 / 66)).dedup

/-- EVENT (R390): a fault item reaches keeper group 2, which logs it and, for a fatal class, starts a
recovery; a repeat of a retested one is a forme defect (R209). The EVENT packet of a core's or router's item is taken with it
(R150). -/
def execEvent (i : Nat) (s : State) : Host.Outcome State Fault Refusal :=
  .next (match s.faults.items[i]? with
    | some it =>
      let s := { s with faults := { s.faults with items := s.faults.items.eraseIdx i } }
      let s := if it.sent then
          dropFlit s (fun f => flitKind f == Kind.event && f.stamp == BitVec.ofNat 64 (it.stamp.getD 0)) else s
      let it := markReplay s it
      let again := firstOnly it.code && isRepeat s it
      let s := logFault s it
      if again then formeDefect s it
      else match it.chase with
      | some n =>
        if startsRecovery it then startRecovery s n (itemChases n it) [it] 1 [] []
        else if it.code = Err.STORE_UNCORRECTABLE ∧ stillPoisoned s it then
          { s with faults := { s.faults with evidence := s.faults.evidence ++ [it] } }
        else s
      | none => s
    | none => s)

/-! ### Placing, reloading (R390 steps 5 to 7, R398, R205) -/

/-- A chase can hold parts: LIT, of a width above 0, not about to be parked (R426). -/
def usable (s : State) (n : Nat) : Bool := chaseBeacon s n == Beacon.lit && decide (0 < widthOf s n) && !(getChase s n).parkedFor

/-- A chase retired whole goes out of use for the module's life (R23, R387, R536). -/
def extinguish (s : State) (n : Nat) : State :=
  if widthOf s n = 0 then
    let s := if railOn s n then railDown s n Rail.off else s
    setChaseBeacon (setChaseBeacon s n Beacon.fault) n Beacon.extinguished
  else s

/-- The parts of the chases to move placed again, then the reload begins. Where a part finds no place the
recovery ends there and REPAIR_BUDGET is raised (R205, R406). -/
def placeStep (s : State) (i : Nat) (r : Recovery) : State :=
  let s := r.move.foldl extinguish s
  let a := r.move.foldl (fun a n =>
    let b := moveChase a.1 n (usable a.1 n)
    (b.1, a.2.1 ++ b.2.1, a.2.2 && b.2.2)) (s, r.parts, true)
  let s := a.1
  if a.2.2 then
    let keys := r.cores.dedup
    (setRecovery (loseGalleys s keys) i { r with phase := .reloading, items := [], selfTest := [], cores := keys, parts := a.2.1 })
  else
    let s := r.move.foldl (fun s n => modChase s n (fun ch => { ch with parkedFor := false })) s
    repairBudget ({ s with faults := { s.faults with recoveries := s.faults.recoveries.eraseIdx i } })

/-! ### The fabric drains (R390 step 3) -/

/-- A core with its gates, park buffer, queues and static files cleared. -/
def Core.drained (k : Core) : Core :=
  { k with gates := [], park := [], descs := [], sendFile := [], recvFile := [], parity := k.parity.filter (·.1 != 5), wbuf := [], uses := [], fences := []
           inbox := [], txOpen := [], txWait := [] }

/-- No packet stamped with a request of some formes is in a router, and none at all inside some chases, but for
what waits in their inbound queues (R21, R390 step 3). -/
def fabricClear (s : State) (fs cs : List Nat) : Bool :=
  let reqs := (s.serve.streams.filter (fun e => fs.contains e.2.forme)).filterMap (fun e => e.2.req)
  s.fabric.all (fun x => !reqs.contains (stampReq x.flit.stamp)
    && (!cs.contains (chaseOfRouter x.router) || (x.queued && x.input != 6)))

/-- Stack writes of a chase's cores that were issued complete (R390 step 3): every flit on its way is written. -/
def finishStackWrites (s : State) (n : Nat) : State :=
  (s.cores.filter (fun x => 16 * (x.1 / 65536) + x.1 % 1024 / 64 == n)).foldl (fun s x =>
    let c : CoreRef := ⟨Fin.ofNat 1024 (x.1 / 1024), Fin.ofNat 1024 (x.1 % 1024)⟩
    (x.2.descs.filter (fun d => d.2.kind == 5)).foldl (fun s d =>
      (d.2.outstanding.filter (fun k => decide (d.2.dstOf k + d.2.lenOf k ≤ stackBytes))).foldl (fun s k => landStack s c d.2 k) s) s) s

/-- Packets of some formes' requests that wait in gateways' queues are cleared, but for EVENTs (R150, R390 steps 1 and 3). -/
def clearRim (s : State) (fs : List Nat) : State :=
  let reqs := (s.serve.streams.filter (fun e => fs.contains e.2.forme)).filterMap (fun e => e.2.req)
  { s with rim := s.rim.filter (fun x => !reqs.contains (stampReq x.flit.stamp) || flitKind x.flit == Kind.event) }

/-- FABRIC_DRAINED (R390 step 3): the chases are halted and the fabric holds nothing of the affected
formes. -/
def execFabricDrained (i : Nat) (s : State) : Host.Outcome State Fault Refusal :=
  .next (match s.faults.recoveries[i]? with
    | some r =>
      if r.phase = .halting ∧ (r.chases.all (fun n => !schedules s n || onF s Reg.CHS_SCHED_CTL_HALTED n)) ∧ fabricClear s r.formes r.chases then
        let s := r.chases.foldl (fun s n => modCores (finishStackWrites s n) n Core.drained) (clearRim s r.formes)
        if r.selfTest = [] ∧ r.items.all (fun it => !retested it.code) then placeStep s i r
        else setRecovery s i { r with phase := .retesting }
      else s
    | none => s)

/-! ### The retest (R390 steps 4 and 5) -/

/-- The log copy of a record whose core the retest found hard (R381). -/
def markHard (s : State) (it : FaultItem) : State :=
  { s with faults := { s.faults with log := s.faults.log.map (fun r =>
      if { r.item with hard := false, replay := false } = { it with hard := false, replay := false } then
        { r with item := { r.item with hard := true } } else r) } }

/-- A core that a whole self-test found failed: recorded and retired (R388). -/
def failSelfTest (s : State) (x : CoreResult) : State :=
  let n := chaseOfRouter x.place
  let lc := logicalLocal s (64 * n + x.place.row.val % 64) (x.place.pcol.val % 66)
  let s := logFault s { routerItem Err.CORE_SELFTEST x.place [x.test] with lcol := lc.map (fun j => 64 * (n % 16) + j) }
  retire s n (x.place.row.val % 64) (x.place.pcol.val % 66) x.routerFails

/-- The outcome of one named core's self-test: hard and retired, or soft and counted; the third soft
fault retires it (R390 step 4). -/
def settlePlace (items : List FaultItem) (results : List CoreResult) (s : State) (p : Nat × Nat) : State :=
  let n := 16 * (p.1 / 64) + p.2 / 66
  let seg := 64 * n + p.1 % 64
  match results.find? (fun x => x.place.row.val == p.1 && x.place.pcol.val == p.2 && (x.coreFails || x.routerFails)) with
  | some x =>
    let s := (items.filter (fun it => (testedPlaces it).contains p)).foldl markHard s
    retire s n (p.1 % 64) (p.2 % 66) x.routerFails
  | none =>
    match logicalLocal s seg (p.2 % 66) with
    | some j =>
      let s := suspect s seg j
      if 3 ≤ (errataAt s seg).suspect then retire s n (p.1 % 64) (p.2 % 66) false else s
    | none => s

/-- Words named by a fault written again from their source (R390 step 4). -/
def rewriteWord (s : State) (it : FaultItem) : State :=
  match it.row, it.lcol, it.x0 with
  | some r, some c, some a =>
    let c : CoreRef := ⟨Fin.ofNat 1024 r, Fin.ofNat 1024 c⟩
    if it.code = Err.STORE_UNCORRECTABLE ∧ sourced s c a then
      { s with mem := { s.mem with storePoison := s.mem.storePoison.filter (· != storeAddr c a / 64) } }
    else s
  | _, _, _ => s

/-- Logical cores of a row segment whose physical core changed (R390 step 7). -/
def changedCores (old new : State) (seg : Nat) : List Nat :=
  let n := seg / 64
  ((List.range 64).filter (fun j => decide (physLocal old seg j ≠ physLocal new seg j))).map
    (fun j => (64 * (n / 16) + seg % 64) * 1024 + 64 * (n % 16) + j)

/-- Cores named by a poisoned word. -/
def poisonedCores (items : List FaultItem) : List Nat :=
  (items.filter (fun it => it.code == Err.STORE_UNCORRECTABLE)).filterMap (fun it =>
    match it.row, it.lcol with
    | some r, some c => some (r * 1024 + c)
    | _, _ => none)

/-- A changed row segment needs a re-imposition of its chase (R23, R27, R398). -/
def needsReimpose (s : State) (seg : Nat) : Bool := decide (2 < (retiredAt s seg).length) || exhausted s seg

/-- The retest of named cores (R390 steps 4 to 6): spare shifts, or the chases that must be re-imposed. -/
def retestNamed (s : State) (i : Nat) (r : Recovery) (results : List CoreResult) : State :=
  let old := s
  let s := r.items.foldl rewriteWord s
  let ps := (r.items.flatMap testedPlaces).dedup
  let s := ps.foldl (settlePlace r.items results) s
  let segs := ((ps.map (fun p => 64 * (16 * (p.1 / 64) + p.2 / 66) + p.1 % 64)).dedup).filter
    (fun g => decide (retiredAt s g ≠ retiredAt old g))
  let lanes := segs.foldl (fun a g =>
    if needsReimpose a.1 g then (a.1, a.2 ++ [g / 64])
    else
      let b := relaneRow a.1 (g / 64) (g % 64)
      if b.2 then (b.1, a.2) else (a.1, a.2 ++ [g / 64])) (s, ([] : List Nat))
  let s := lanes.1
  let again := lanes.2.dedup
  let cores := poisonedCores r.items ++ segs.flatMap (changedCores old s)
  let r := { r with items := [], cores := r.cores ++ cores, kind := if segs = [] then r.kind else max r.kind 2 }
  if again = [] then placeStep s i r
  else
    let s := { s with faults := { s.faults with lastReimpose := some s.lampTime } }
    setRecovery s i { r with kind := max r.kind 3, selfTest := again, move := (r.move ++ again).dedup }

/-- RETEST_DONE (R388, R390 steps 4 to 6, R398): the retest of the named cores, or the self-test of whole
chases, ends. -/
def execRetestDone (i : Nat) (results : List CoreResult) (s : State) : Host.Outcome State Fault Refusal :=
  .next (match s.faults.recoveries[i]? with
    | some r =>
      if r.phase ≠ .retesting then s
      else if r.selfTest ≠ [] then
        let bad := results.filter (fun x => (x.coreFails || x.routerFails) && r.selfTest.contains (chaseOfRouter x.place))
        let s := bad.foldl failSelfTest (r.items.foldl rewriteWord s)
        placeStep s i { r with cores := r.cores ++ poisonedCores r.items }
      else retestNamed s i r results
    | none => s)

/-! ### The reload ends (R390 steps 7 to 9) -/

/-- A chase of the set restarted at chase time 0 (R390 step 8); one that holds no part any more idles,
and one that was to be parked is parked (R426). -/
def restartMember (s : State) (n : Nat) : State :=
  if schedules s n then
    let s := restartChase s n
    if chaseClaimed s n then modChase s n (fun ch => { ch with hints := hintTable s n })
    else
      let s := idleRail (modChase s n (fun ch => { ch with running := false })) n
      if (getChase s n).parkedFor then (setChaseBeacon (setF s Reg.CPW_STATE_PARKED 1 n) n Beacon.occulting) else s
  else s

/-- RELOAD_DONE (R371, R390 steps 7 to 9): cores are reloaded, the chases restart, the streams resume. -/
def execReloadDone (i : Nat) (s : State) : Host.Outcome State Fault Refusal :=
  .next (match s.faults.recoveries[i]? with
    | some r =>
      if r.phase = .reloading then
        let s := reloadAll s r
        let s := r.chases.foldl restartMember s
        let fresh := s.formes.flatMap (fun f => f.2.parts.filter (fun p => p.live && !r.chases.contains p.chase
          && r.parts.contains (f.1, p.layer, p.part)))
        let s := startChases s fresh
        let back := (s.serve.streams.filter (fun e => e.2.lostState && e.2.live && r.formes.contains e.2.forme)).map
          (fun e => (e.1, e.2.order))
        let s := setRecovery s i { r with phase := .replaying, replays := back }
        let s := releaseFormes s r.formes
        let s := r.formes.foldl refixForme s
        checkRecoveries 64 s
      else s
    | none => s)

end Sys2Proof.Machine
end

