-- ==== Sys2Proof/Machine/Serving.lean ====
section
/-! DEFINITION. The commands of the submission rings (08): GENERATE, CANCEL, RELEASE, MOORING_SET,
MOORING_CLEAR, an unknown KIND; the doorbells; admission; the coalescing interrupt. -/

namespace Sys2Proof.Machine

/-! ### GENERATE (R297 to R300) -/

/-- A B16 value lies in (0, hi] or, with `zero`, in [0, hi]. -/
def b16In (zero : Bool) (hi bits : Nat) : Bool :=
  (b16 bits).le (b16 hi) && (if zero then (b16 0).le (b16 bits) else (b16 0).lt (b16 bits))

/-- Row 1 of R300 on the command record. -/
def genRecordOk (rec : List Byte) : Bool :=
  decide (leAt rec 1 1 < 64) && decide (1 ≤ tenantOf rec) && decide (genMooring rec ≤ 1024)
    && (decide (genTopK rec ≤ 1024) || genTopK rec == 0xFFFF) && b16In false 0x3F80 (genTopP rec)
    && b16In true 0x3F80 (genMinP rec) && decide (genExtAddr rec % 64 = 0)
    && (!genHold rec || decide (genTtl rec ≤ 604800)) && decide (genForme rec ≤ 15) && decide (leAt rec 61 3 = 0)

/-- Row 1 of R300 on the extension block. -/
def genExtOk (x : List Byte) : Bool :=
  (b16 0x3F80).le (b16 (leAt x 0 2)) && (b16 (leAt x 0 2)).le (b16 0x4100)
    && decide (leAt x 2 2 ≤ 4) && (List.range 4).all (fun i => leAt x (10 + 4 * i) 2 == 0)
    && decide (leAt x 24 2 ≤ 256) && decide (leAt x 26 2 ≤ 16) && decide (leAt x 28 4 = 0)
    && (List.range 256).all (fun i => leAt x (110 + 8 * i) 2 == 0)

/-- The extension block can be read: named, in its window, and the read does not fail. -/
def extReadable (s : State) (rec : List Byte) (h : HostData) : Bool :=
  genExtAddr rec != 0 && inWindows s (genExtAddr rec) 2152 false && decide (h.ext.length = 2152) && !h.fails

/-- The extension block as the request keeps it: none where the record names none. -/
def extOf (rec : List Byte) (h : HostData) : List Byte := if genExtAddr rec = 0 then [] else h.ext

/-- The bytes of the mask for vocabulary `v` (R298). -/
def maskBytes (v : Nat) : Nat := (v + 7) / 8

/-- Row 3 of R300: every host read of the request succeeds (R496). -/
def genReads (s : State) (rec : List Byte) (h : HostData) (v : Nat) : Bool :=
  !h.fails && (genPromptLen rec == 0 || inWindows s (genPromptAddr rec) (4 * genPromptLen rec) false)
    && decide (genPromptLen rec ≤ h.prompt.length)
    && (genExtAddr rec == 0 || (extReadable s rec h
      && (extMaskAddr h.ext == 0 || (inWindows s (extMaskAddr h.ext) (maskBytes v) false
        && decide (maskBytes v ≤ h.mask.length)))))

/-- Some token below `v` is allowed. -/
def maskAllows (m : List Byte) (v : Nat) : Bool :=
  (List.range v).any (fun t => (m.getD (t / 8) 0).toNat / 2 ^ (t % 8) % 2 == 1)

/-- A conversation handle of the tenant stands as a tombstone (R339). -/
def convTomb (s : State) (tenant handle : Nat) : Bool :=
  s.serve.convTombs.any (fun t => t.1 == tenant && t.2.1 == handle)

/-- The checks of R300 in table order: status and terminal state of the first that fails. -/
def genCheck (s : State) (rec : List Byte) (h : HostData) : Option (Nat × Nat) :=
  let fi := genForme rec
  let v := getF s Reg.SRV_F_VOCAB fi
  let x := extOf rec h
  let t := tenantOf rec
  let c := genConv rec
  let conv := if c = 0 then none else findConv s t c
  if !genRecordOk rec || (extReadable s rec h && !genExtOk h.ext) then some (Sts.BAD_PARAMS, 5)
  else if !resident s fi then some (Sts.FORME_UNKNOWN, 5)
  else if !genReads s rec h v then some (Sts.BAD_ADDRESS, 5)
  else if (extBiases x).any (fun b => decide (v ≤ b.1)) then some (Sts.BAD_PARAMS, 5)
  else if (c = 0 ∧ genPromptLen rec = 0) ∨ (genMaxNew rec = 0 ∧ genHold rec = false ∧ genPromptLen rec = 0)
      ∨ genTopK rec = 0 then some (Sts.ZERO_LENGTH, 5)
  else if extMaskAddr x ≠ 0 ∧ maskAllows h.mask v = false then some (Sts.MASK_EMPTY, 5)
  else if conv.any (fun k => k.claimed.isSome) then some (Sts.CONV_BUSY, 5)
  else if c ≠ 0 ∧ convTomb s t c then some (Sts.CONV_EXPIRED, 7)
  else if c ≠ 0 ∧ conv.isNone ∧ genHold rec = false then some (Sts.CONV_UNKNOWN, 5)
  else if 2 ^ 24 - 1 < ((conv.map (fun k => k.tokens.length)).getD 0) + genPromptLen rec then some (Sts.CONTEXT_FULL, 5)
  else if (extOverlays x).any (fun o => (overlaySlot s fi t o).isNone) then some (Sts.OVERLAY_UNKNOWN, 5)
  else if genMooring rec ≠ 0 ∧ !((kget? s.serve.moorings (genMooring rec)).any (fun m =>
      m.tenant == t && m.forme == fi && !m.cleared)) then some (Sts.MOORING_UNKNOWN, 5)
  else none

/-- The stream of a request that passes R300 (R306: QUEUED). -/
def newStream (s : State) (q : Nat) (rec : List Byte) (h : HostData) (created : Bool) : Stream :=
  { cmd := rec, ext := extOf rec h
    mask := if extMaskAddr (extOf rec h) = 0 then [] else h.mask.take (maskBytes (getF s Reg.SRV_F_VOCAB (genForme rec)))
    queue := q, order := s.serve.order, state := 0, resume := 0, holdRing := false, holdBarrier := false
    holdRecovery := false, req := none, vlen := 0, tlen := 0, tokens := h.prompt.take (genPromptLen rec)
    start := 0, known := 0, delivered := 0, replayTo := 0, step := none, guesses := [], depth := 0, proofSteps := 0
    accepts := [], reaches := [], slot := 0, period := 1, turn := 0, ident := [], gen := 0, variant := none, overlays := []
    crossed := false, everCrossed := false, prefixHit := 0, cancels := [], lastTime := none, lastCount := 0
    lastLogprobs := [], rqNext := 0, lastRecs := [], created := created, lostState := false, minuteFault := false }

/-- A conversation that a GENERATE with HOLD creates (R337). -/
def newConv (q : Nat) (rec : List Byte) : Conv :=
  { tenant := tenantOf rec, handle := genConv rec, forme := genForme rec, tokens := [], vlen := 0, claimed := none
    held := false, paused := false, pausedAt := 0, ttl := 0, queue := q, ident := [], variant := none, overlays := [] }

/-- A GENERATE that passed R300 becomes QUEUED in entry `e` and claims its conversation (R339). -/
def enqueue (s : State) (q : Nat) (rec : List Byte) (h : HostData) (e : Nat) : State :=
  let t := tenantOf rec
  let c := genConv rec
  let known := (findConv s t c).isSome
  let created := c != 0 && genHold rec && !known
  let s := if created then { s with serve := { s.serve with convs := s.serve.convs ++ [newConv q rec] } } else s
  let s := if c = 0 then s else modConv s t c (fun k => { k with claimed := some e })
  let s := setSt s e (newStream s q rec h created)
  { s with serve := { s.serve with order := s.serve.order + 1 } }

/-- CANCELs whose tombstone meets its target: all complete with OK (R329, R330). -/
def meetTombstones (s : State) (q cid : Nat) : State :=
  let hit := s.serve.tombstones.filter (fun t => t.target == q && t.cid == cid)
  let s := { s with serve := { s.serve with tombstones := s.serve.tombstones.filter (fun t => !(t.target == q && t.cid == cid)) } }
  hit.foldl (fun s t => respond s t.from_ ⟨complBytes Sts.OK 0 5 t.fromCid 0 0 s.lampTime 0 0 0x02, none⟩) s

/-- A GENERATE just fetched (R300, R329). -/
def genApply (s : State) (q : Nat) (rec : List Byte) (h : HostData) (e : Nat) : State :=
  if s.serve.tombstones.any (fun t => t.target == q && t.cid == cidOf rec) then
    meetTombstones (complete s q rec Sts.REQ_CANCELLED 6) q (cidOf rec)
  else
    match genCheck s rec h with
    | some (status, st) =>
      let s := if st = 7 then
          { s with serve := { s.serve with convTombs := s.serve.convTombs.filter (fun t =>
              !(t.1 == tenantOf rec && t.2.1 == genConv rec)) } }
        else s
      complete s q rec status st
    | none => enqueue s q rec h e

/-- GENERATE (R292, R300): waits at the head for a stream entry and for record space. -/
def execGenerate (q : QueueId) (rec : List Byte) (h : HostData) (s : State) : Host.Outcome State Fault Refusal :=
  withRecord "GENERATE" (· == 0x01) rec
    (match kfree s.serve.streams 0 16384 with
      | some e => fetchWith s q.val (fun s => genApply s q.val rec h e)
      | none => if canFetch s q.val then blockHead s q.val else s)

/-! ### CANCEL (R301, R327 to R332) -/

/-- The earliest-fetched request of a queue with a CID that is not terminal (R301). -/
def cancelTarget (s : State) (q cid : Nat) : Option (Nat × Stream) :=
  (s.serve.streams.filter (fun e => e.2.queue == q && cidOf e.2.cmd == cid && !e.2.ended)).foldl
    (fun b e => match b with
      | none => some e
      | some y => if e.2.order < y.2.order then some e else some y) none

/-- A CANCEL just fetched. -/
def cancelApply (s : State) (q : Nat) (rec : List Byte) : State :=
  let tq := leAt rec 8 2
  let tc := leAt rec 10 2
  match cancelTarget s tq tc with
  | some (e, x) =>
    let s := adjSt s e (fun x => { x with cancels := x.cancels ++ [(q, cidOf rec)] })
    if x.state ≤ 1 ∨ (x.step = none ∧ x.holdRecovery = false ∧ x.replayTo ≤ x.vlen) then cancelStream s e else s
  | none =>
    let ahead := if tq < 1024 then ((getQ s tq).sqTail + sqSize s tq - (getQ s tq).sqHead) % sqSize s tq else 0
    { s with serve := { s.serve with tombstones := s.serve.tombstones ++
        [{ target := tq, cid := tc, tail := (getQ s tq).sqTail, ahead := ahead, from_ := q, fromCid := cidOf rec }] } }

/-- CANCEL (R327 to R332). -/
def execCancel (q : QueueId) (rec : List Byte) (s : State) : Host.Outcome State Fault Refusal :=
  withRecord "CANCEL" (· == 0x02) rec (fetchWith s q.val (fun s => cancelApply s q.val rec))

/-! ### RELEASE (R340) -/

/-- A RELEASE just fetched. -/
def releaseApply (s : State) (q : Nat) (rec : List Byte) : State :=
  let t := tenantOf rec
  let c := genConv rec
  match findConv s t c with
  | some k =>
    if k.claimed.isSome then complete s q rec Sts.CONV_BUSY 5
    else complete (freeConv s t c) q rec Sts.OK 5
  | none => complete s q rec Sts.NOT_FOUND 5

/-- RELEASE (R340). -/
def execRelease (q : QueueId) (rec : List Byte) (s : State) : Host.Outcome State Fault Refusal :=
  withRecord "RELEASE" (· == 0x03) rec (fetchWith s q.val (fun s => releaseApply s q.val rec))

/-! ### Moorings (R312 to R315) -/

/-- Requests of a tenant's mooring are live or QUEUED. -/
def mooringBusy (s : State) (m t : Nat) : Bool :=
  s.serve.streams.any (fun e => e.2.mooring == m && e.2.tenant == t && !e.2.ended && !e.2.unmoored)
/-- The live streams of a mooring. -/
def mooringLive (s : State) (m : Nat) : Nat := (s.serve.streams.filter (fun e => e.2.mooring == m && e.2.live)).length

/-- The status of a MOORING_SET, and the mooring it makes (R312 to R314). A number whose cleared mooring still has live
streams is not free (R315): a set of it completes with BAD_PARAMS, also its own tenant's (DESIGN CHOICE, log entry 105). -/
def mooringCheck (s : State) (rec : List Byte) : Nat × Option Mooring :=
  let t := tenantOf rec
  let m := leAt rec 4 2
  let n := leAt rec 8 4
  let r := leAt rec 12 4
  let d := leAt rec 16 4
  let fi := leAt rec 20 1
  if t = 0 ∨ m = 0 ∨ 1024 < m ∨ 65535 < n ∨ r = 0 ∨ 10000 < r ∨ d = 0 ∨ 10000000 < d ∨ 15 < fi
      ∨ (rec.drop 21).any (· != 0) then (Sts.BAD_PARAMS, none)
  else if n = 0 then (Sts.ZERO_LENGTH, none)
  else
    match getForme s fi with
    | none => (Sts.FORME_UNKNOWN, none)
    | some f =>
      if !resident s fi then (Sts.FORME_UNKNOWN, none)
      else if (kget? s.serve.moorings m).any (fun o => o.tenant != t || o.cleared || (o.forme != fi && mooringBusy s m t)) then
        (Sts.BAD_PARAMS, none)
      else
        let k := periodOf s f r d
        if k = 0 then (Sts.MOORING_FULL, none)
        else if (slotsP f : Rat) * (getF s Reg.SRV_MOOR_LIMIT 0 : Rat) / 256 < reserved s fi m + (n : Rat) / (k : Rat) then
          (Sts.MOORING_FULL, none)
        else (Sts.OK, some { tenant := t, forme := fi, streams := n, rate := r, itl := d, period := k
                             unmet := false, cleared := false })

/-- A mooring set, with its live streams at its period and bound anew (R316). -/
def setMooring (s : State) (m : Nat) (x : Mooring) : State :=
  let old := (kget? s.serve.moorings m).map (·.forme)
  let s := { s with serve := { s.serve with
      moorings := kset s.serve.moorings m x
      streams := s.serve.streams.map (fun e =>
        (e.1, if e.2.live && e.2.mooring == m then { e.2 with period := x.period } else e.2)) } }
  let s := ((getForme s x.forme).map (fun f => rebindForme s x.forme f)).getD s
  match old with
  | some f => reportForme (reportForme s f) x.forme
  | none => reportForme s x.forme

/-- A MOORING_SET just fetched. -/
def mooringSetApply (s : State) (q : Nat) (rec : List Byte) : State :=
  if onF s Reg.SRV_Q_CTL_ADMIN q then
    match mooringCheck s rec with
    | (status, some x) => complete (setMooring s (leAt rec 4 2) x) q rec status 5
    | (status, none) => complete s q rec status 5
  else complete s q rec Sts.NOT_ADMIN 5

/-- MOORING_SET (R312 to R314). -/
def execMooringSet (q : QueueId) (rec : List Byte) (s : State) : Host.Outcome State Fault Refusal :=
  withRecord "MOORING_SET" (· == 0x10) rec (fetchWith s q.val (fun s => mooringSetApply s q.val rec))

/-- A MOORING_CLEAR just fetched (R315): the requests QUEUED under the mooring have lost it. -/
def mooringClearApply (s : State) (q : Nat) (rec : List Byte) : State :=
  let m := leAt rec 4 2
  if onF s Reg.SRV_Q_CTL_ADMIN q then
    match kget? s.serve.moorings m with
    | some x =>
      if x.tenant = tenantOf rec ∧ x.cleared = false then
        complete (sweepMoorings { s with serve := { s.serve with
            moorings := kset s.serve.moorings m { x with cleared := true }
            streams := s.serve.streams.map (fun e =>
              (e.1, if e.2.mooring == m && e.2.state == 0 then { e.2 with unmoored := true } else e.2)) } })
          q rec Sts.OK 5
      else complete s q rec Sts.MOORING_UNKNOWN 5
    | none => complete s q rec Sts.MOORING_UNKNOWN 5
  else complete s q rec Sts.NOT_ADMIN 5

/-- MOORING_CLEAR (R315). -/
def execMooringClear (q : QueueId) (rec : List Byte) (s : State) : Host.Outcome State Fault Refusal :=
  withRecord "MOORING_CLEAR" (· == 0x11) rec (fetchWith s q.val (fun s => mooringClearApply s q.val rec))

/-- A record with an unknown KIND (R296). -/
def execBadKind (q : QueueId) (rec : List Byte) (s : State) : Host.Outcome State Fault Refusal :=
  withRecord "BAD_KIND" (fun k => !knownKinds.contains k) rec (fetchWith s q.val (fun s => complete s q.val rec Sts.BAD_KIND 5))

/-! ### Doorbells (R290, R293, R342) -/

/-- A write of `DBL.SQ_TAIL` (R290). -/
def execSqTail (q : QueueId) (v : Nat) (s : State) : Host.Outcome State Fault Refusal :=
  .next (regWrite s (1024 + q.val) (fun s =>
    if sqSize s q.val ≤ v % 65536 then setF s Reg.DBL_STAT_BAD_TAIL 1 q.val
    else modQ s q.val (fun x =>
      if x.sqTail = v % 65536 then x
      else { x with sqTail := v % 65536, bells := x.bells ++ [(v % 65536, s.lampTime)] })))

/-- The records that a head moved to `v` frees (R293); on a full ring a head equal to the old one frees
every record (log entry 32). -/
def freedBy (s : State) (q v : Nat) : Nat :=
  let n := rqSize s q
  let d := (v + n - (getQ s q).rqHead) % n
  if d = 0 ∧ (getQ s q).used = n then n else d

/-- The ring's head moved to `v` by host software: only forward, to the tail at most (R293). -/
def freeRecords (s : State) (q v : Nat) : State :=
  let x := getQ s q
  let freed := freedBy s q v
  if freed ≤ x.used then
    let s := setQ s q { x with rqHead := v, used := x.used - freed, blocked := false }
    settleRing (drainRing s q) q
  else s

/-- A write of `DBL.RQ_HEAD` (R293, R294). -/
def execRqHead (q : QueueId) (v : Nat) (s : State) : Host.Outcome State Fault Refusal :=
  .next (regWrite s (1024 + q.val) (fun s =>
    if rqSize s q.val ≤ v % 65536 then setF s Reg.DBL_STAT_BAD_HEAD 1 q.val
    else freeRecords s q.val (v % 65536)))

/-- The coalescing time of a queue runs out (R295). -/
def execInterruptCoalesceTime (q : QueueId) (s : State) : Host.Outcome State Fault Refusal :=
  .next (if (getQ s q.val).sinceAt.any (fun t => decide (t + 1000 * getF s Reg.SRV_Q_COALESCE_TIME q.val ≤ s.lampTime)) then
      raiseQueue s q.val
    else s)

/-! ### Admission (R306, R310, R319, R334) -/

/-- The unreserved pipeline slots of a forme (R319). -/
def unreserved (s : State) (fi : Nat) (f : Forme) : Rat := (slotsP f : Rat) - reserved s fi 0

/-- A best-effort request is next in fetch order and has room (R319). -/
def bestEffortRoom (s : State) (fi : Nat) (f : Forme) (x : Stream) : Bool :=
  let live := (s.serve.streams.filter (fun e => e.2.live && e.2.forme == fi && e.2.mooring == 0)).length
  decide ((live : Rat) < 256 * unreserved s fi f)
    && s.serve.streams.all (fun e => !(e.2.state == 0 && e.2.forme == fi && e.2.mooring == 0 && decide (e.2.order < x.order)))

/-- A galley that a resumed stream attends to leaves T2, and one of the window T1 (R245). -/
def recallGalley (s : State) (fi v g : Nat) : State :=
  let s := fromT2 s g
  match getG s g with
  | some x => if x.t0.isNone ∧ v / 256 ≤ x.index + windowOf s fi x.layer then copyToT0 s g .resident else s
  | none => s

/-- A galley of a resumed conversation passes to the stream, which goes on from VLEN `v` (R224, R245): the one that position
`v` falls in back into a stick (R216), where nothing shares it; the others as the stream needs them. -/
def resumeGalley (s : State) (e fi v req g : Nat) : State :=
  let s := fromT2 s g
  match getG s g with
  | some x =>
    if x.index = v / 256 then
      if x.holders = [] ∧ x.tree = 0 ∧ x.late = [] then
        placeStick (setG s g { x with owner := .stream e, req := some req, st := .composing }) g
      else setG s g { x with owner := .tree, holders := addOnce x.holders e }
    else if x.st = .pending then setG s g { x with owner := .stream e }
    else recallGalley (setG s g { x with owner := .stream e, st := .spilled }) fi v g
  | none => s

/-- Galleys of a conversation taken over by its request: its own, and those it shares. -/
def resumeGalleys (s : State) (e tenant handle fi v req : Nat) : State :=
  let s := (galleysWhere s (fun g => g.owner == .conv tenant handle)).foldl (fun s g => resumeGalley s e fi v req g) s
  let s := modKv s (fun k => { k with galleys := k.galleys.map (fun g =>
    (g.1, { g.2 with holders := g.2.holders.map (fun h => if h = convHolder tenant handle then e else h) })) })
  (galleysWhere s (fun g => g.holders.contains e && g.index != v / 256)).foldl (fun s g => recallGalley s fi v g) s

/-- The galleys of a block can be read: a HOST one while a CXL port is up (R498). -/
def reachable (s : State) (n : PrefixNode) : Bool := cxlUp s || n.galleys.all (fun g => (getG s g).all (fun x => x.st != .host))

/-- The prefix-tree match of a request: its nodes (R334). A block whose galleys cannot be reached ends the match (DESIGN
CHOICE, log entry 107). -/
def prefixHit (s : State) (f : Forme) (x : Stream) : List PrefixNode :=
  let n := (x.tokens.length - 1) / 64
  let key := fun sc => rootKey sc f.image f.ident (x.versions s) (genDense x.cmd)
  let own := (walkTree s n (key x.tenant) x.tokens).takeWhile (reachable s)
  let pub := (walkTree s n (key publicScope) x.tokens).takeWhile (reachable s)
  if own.length < pub.length then pub else own

/-- T1 space for a stick that has no region yet, which its entries wait in (R247). -/
def stickSpace (s : State) (k : Nat) (y : Galley) : State × Nat :=
  let a := firstFit y.span 0 (stackExtents s)
  (modKv (setG s k { y with t1 := some a }) (fun v => { v with t1 := addExtent v.t1 a y.span }), a)

/-- Copies the first `n` entries of a shared galley into the stream's stick of its layer and group (R247), from the tier that
holds them; a stick without a region keeps them in T1 until it has one (R222). -/
def copyEntries (s : State) (e n g : Nat) : State :=
  let s := fromT2 s g
  match getG s g with
  | some x =>
    match stickOf s e x.layer x.group with
    | some (k, y) =>
      let m := x.bytes / 256 * n
      match y.t0, x.t0, x.t1 with
      | some a, some b, _ => storeToStore s b a m
      | some a, none, some b => stackToStore s b a m
      | none, some b, _ => let r := stickSpace s k y; storeToStack r.1 b r.2 m
      | none, none, some b => let r := stickSpace s k y; stackToStack r.1 b r.2 m
      | _, none, none => s
    | none => s
  | none => s

/-- The galleys of a prefix hit: whole ones shared, the last partial one copied (R246, R247, R334). -/
def takePrefix (s : State) (e fi : Nat) (hit : List PrefixNode) : State :=
  let n := hit.length
  let whole := ((hit.take (n / 4 * 4)).flatMap (·.galleys)).dedup
  let s := whole.foldl (fun s g => recallGalley (adjG s g (fun x => { x with holders := addOnce x.holders e })) fi (64 * n) g) s
  let s := if n % 4 = 0 then s else
    ((hit.drop (n - 1)).flatMap (·.galleys)).foldl (fun s g => copyEntries s e (64 * (n % 4)) g) s
  modKv s (fun k => { k with nodes := k.nodes.map (fun m =>
    if hit.any (fun h => h.key == m.key) then { m with lastHit := s.lampTime } else m) })

/-- A shared galley in which a resumed stream goes on at VLEN `v`: its entries up to `v` are copied, and it is given up
(R247). -/
def splitShared (s : State) (e v : Nat) : State :=
  (galleysWhere s (fun g => g.holders.contains e && g.index == v / 256)).foldl (fun s g =>
    releaseGalley (adjG (copyEntries s e (v % 256) g) g (fun x => { x with holders := x.holders.erase e })) g) s

/-- What changed since the conversation's KV was written (R279, R369). -/
def convCrossed (s : State) (c : Conv) (f : Forme) (vs : Option Nat) (ovs : List Nat) : Bool :=
  c.vlen != 0 && (c.ident != f.ident || c.variant != vs.map (versionAt s) || c.overlays != overlayKeys s ovs)

/-- Where a request goes on that finds `n` positions of its `len` in place (R216, R334, R338). With every position in place the
last one is computed again, for its sample (DESIGN CHOICE, log entry 37). -/
def resumeAt (n len : Nat) : Nat := if len ≤ n ∧ 0 < n then n - 1 else n

/-- A request admitted (R306, R310, R319, R334): REQ, pins, conversation, prefix, sticks, slot, the
INTERIM record. One that has no position at all ends at once (DESIGN CHOICE, log entry 37). -/
def admitRequest (s : State) (e : Nat) (x : Stream) (f : Forme) : State :=
  let fi := x.forme
  let t := x.tenant
  let h := genConv x.cmd
  let r := nextReq s
  let vs := variantSlot s fi t
  let ovs := (extOverlays x.ext).filterMap (overlaySlot s fi t)
  let s := (vs.toList ++ ovs).foldl pinSlot s
  let conv := if h = 0 then none else findConv s t h
  let old := (conv.map (·.tokens)).getD []
  let x := { x with variant := vs, overlays := ovs, tokens := old ++ x.tokens }
  let reuse := conv.any (fun c => c.forme == fi)
  let start := if reuse then (conv.map (·.vlen)).getD 0 else 0
  let crossed := conv.any (fun c => convCrossed s c f vs ovs)
  let s := match conv with
    | some _ =>
      let s := modConv s t h (fun c => { c with held := true, forme := fi })
      if reuse then resumeGalleys s e t h fi (resumeAt start x.tokens.length) r
      else dropHolder (freeOwned s (.conv t h)) (convHolder t h)
    | none => s
  let walk := old.isEmpty && !genNoPrefix x.cmd
  let hit := if walk then prefixHit s f x else []
  let s := if walk then addF s Reg.PFX_LOOKUPS 1 0 else s
  let s := if hit = [] then s else addF s Reg.PFX_HITS 1 0
  let v0 := if hit = [] then start else 64 * hit.length
  let v := resumeAt v0 x.tokens.length
  let x : Stream := { x with
      state := 1, req := some r, vlen := v, tlen := v, start := (if hit = [] then v0 else 0)
      known := x.tokens.length, prefixHit := 64 * hit.length, crossed := crossed, everCrossed := crossed
      depth := (if genNoProof x.cmd || imgH f.image == 0 then 0 else 1)
      ident := f.ident, gen := f.gen }
  let x : Stream := if x.mooring = 0 then { x with slot := 0, period := 1, turn := f.waves * 16 }
    else Stream.bindTo { x with period := ((kget? s.serve.moorings x.mooring).map Mooring.period).getD 1 } (bindings s fi) f
  let s := splitShared (bindSticks (setSt s e x) e fi (v / 256) t (some r)) e v
  let s := takePrefix s e fi hit
  let s := if hit = [] then s else use s x (fun p => { p with prefixPos := p.prefixPos + 64 * hit.length })
  let s := respond s x.queue
    ⟨complBytes Sts.ADMITTED 0 1 (cidOf x.cmd) r 0 s.lampTime x.prefixHit t 0x03, none⟩
  if x.tokens = [] then endStream s e Sts.OK 5 0 else s

/-- The forme as a request admitted now sees it: after a WAVE barrier, on the new version (R366). -/
def Forme.forAdmission (f : Forme) : Forme :=
  match f.repl with
  | some r => if (r.staged && r.policy == 1) || r.swapping then { f with image := r.image, ident := r.ident, gen := f.gen + 1 } else f
  | none => f

/-- Admission of a queued request (R306, R319, R362, R365, R498). -/
def admission (s : State) (e : Nat) (x : Stream) : State :=
  let fi := x.forme
  let st := getF s Reg.LOAD_F_STATE fi
  if st = 5 ∨ st = 0 ∨ st = 1 then endStream s e Sts.FORME_UNKNOWN 5 0
  else if st = 6 then endStream s e Sts.WEIGHTS_LOST 5 0
  else
    match getForme s fi with
    | none => endStream s e Sts.FORME_UNKNOWN 5 0
    | some f =>
      if draining s fi then s
      else if (extOverlays x.ext).any (fun o => (overlaySlot s fi x.tenant o).isNone) then
        endStream s e Sts.OVERLAY_UNKNOWN 5 0
      else if !cxlUp s && s.kv.galleys.any (fun g => g.2.st == .host && (g.2.owner == .conv x.tenant (genConv x.cmd)
          || g.2.holders.contains (convHolder x.tenant (genConv x.cmd)))) then s
      else if x.mooring = 0 then (if bestEffortRoom s fi f x then admitRequest s e x f.forAdmission else s)
      else
        match kget? s.serve.moorings x.mooring with
        | none => endStream s e Sts.MOORING_UNKNOWN 5 0
        | some m =>
          if x.unmoored || m.cleared || m.tenant != x.tenant || m.forme != fi then endStream s e Sts.MOORING_UNKNOWN 5 0
          else if m.streams ≤ mooringLive s x.mooring then endStream s e Sts.MOORING_FULL 5 0
          else admitRequest s e x f.forAdmission

/-- ADMISSION (R319). -/
def execAdmission (e : EntryId) (s : State) : Host.Outcome State Fault Refusal :=
  .next (match getSt s e.val with
    | some x => if x.state = 0 ∧ groupUp s 0 ∧ groupUp s 1 ∧ awake s then admission s e.val x else s
    | none => s)

end Sys2Proof.Machine
end

