-- ==== Sys2Proof/Machine/Links.lean ====
section
/-! DEFINITION. The Irlar links (R499 to R510): training, frames, messages, time, split formes, loss. -/

namespace Sys2Proof.Machine

/-! ### Phases and beacons (R503, R526) -/

def Phase.down : Nat := 0
def Phase.detect : Nat := 1
def Phase.identify : Nat := 2
def Phase.equalise : Nat := 3
def Phase.lock : Nat := 4
def Phase.select : Nat := 5
def Phase.negotiate : Nat := 6
def Phase.sync : Nat := 7
def Phase.up : Nat := 8

/-- The training phase of link `k`. -/
def phase (s : State) (k : Nat) : Nat := getF s Reg.LNK_STAT_PHASE k

/-- The page of link `k`. -/
def linkPage (k : Nat) : Nat := 768 + k

/-- A link in a phase, with its beacon: LIT when UP, KINDLING while it trains, OCCULTING without a
signal (R503). -/
def setPhase (s : State) (k ph : Nat) : State :=
  setBeacon (setF s Reg.LNK_STAT_PHASE ph k) (linkPage k)
    (if ph = Phase.up then Beacon.lit else if ph = Phase.down then Beacon.occulting else Beacon.kindling)

/-- A record of link `k`'s page (R524). -/
def linkFault (s : State) (k code : Nat) (xs : List Nat) : State := logFault s (blockItem code (identOf 0x22 k) xs)

/-- Lanes as a mask. -/
def laneMask (l : List Nat) : Nat := (l.map (fun i => 2 ^ i)).sum

/-- The lanes of a mask, rising. -/
def maskLanes (m : Nat) : List Nat := (List.range 32).filter (fun i => m / 2 ^ i % 2 == 1)

/-- The good lanes of a link written. -/
def setGood (s : State) (k : Nat) (l : List Nat) : State :=
  setF (modLink s k (fun x => { x with good := l })) Reg.LNK_LANE_GOOD (laneMask l) k

/-! ### Training (R500, R503 to R506) -/

/-- DETECT (R503): lanes with a signal; without one the die looks again every 100 ms. -/
def execDetect (k : LinkId) (lanes : Nat) (s : State) : Host.Outcome State Fault Refusal :=
  .next (if phase s k = Phase.detect ∧ onF s Reg.LNK_CTL_ENABLE k then
      if maskLanes lanes = [] then setPhase s k Phase.down
      else setPhase (setGood s k (maskLanes lanes)) k Phase.identify
    else s)

/-- A link held down until host software retrains it or it is reset (R14, R504, R505). -/
def refuseLink (s : State) (k : Nat) : State := setPhase (modLink s k (fun x => { x with refused := true })) k Phase.down

/-- SIGNAL_LOOK (R503): a die without a signal trains whenever one appears. A refused link stays down (R14). -/
def execSignalLook (k : LinkId) (signal : Bool) (s : State) : Host.Outcome State Fault Refusal :=
  .next (if phase s k = Phase.down ∧ onF s Reg.LNK_CTL_ENABLE k ∧ beaconOf s (linkPage k) = Beacon.occulting ∧ signal
      ∧ (getLink s k).refused = false then
      setPhase s k Phase.detect
    else s)

/-- The peer die that holds most lanes; on a tie the lower serial, then the lower die (R504). -/
def mainPeer (lanes : List LaneIdent) : Option (Nat × Nat) :=
  let peers := ((lanes.map (fun l => (l.serial, l.die))).dedup).mergeSort
    (fun a b => decide (a.1 < b.1 ∨ (a.1 = b.1 ∧ a.2 ≤ b.2)))
  let count := fun (p : Nat × Nat) => lanes.countP (fun l => l.serial == p.1 && l.die == p.2)
  peers.foldl (fun b p =>
    match b with
    | none => some p
    | some q => if count q < count p then some p else some q) none

/-- The peer cage that cage `c` leads to (R504). -/
def peerCage (lanes : List LaneIdent) (c : Nat) : Nat :=
  ((lanes.find? (fun l => l.lane / 8 == c)).map (fun l => l.peerLane / 8 % 4)).getD c

/-- The lanes of cage `c` run in the reverse order (R504). -/
def cageReversed (lanes : List LaneIdent) (c : Nat) : Bool :=
  let mine := lanes.filter (fun l => l.lane / 8 == c)
  !mine.isEmpty && mine.all (fun l => l.peerLane % 8 == 7 - l.lane % 8)

/-- What the identity sequences found recorded, and corrected (R504, R523). -/
def fixLanes (s : State) (k : Nat) (lanes : List LaneIdent) : State :=
  let flip := laneMask ((lanes.filter (·.flipped)).map (·.lane))
  let map := ((List.range 4).map (fun c => peerCage lanes c * 4 ^ c)).sum
  let rev := ((List.range 4).map (fun c => if cageReversed lanes c then 2 ^ c else 0)).sum
  let s := setF (setF (setF s Reg.LNK_LANE_FLIP flip k) Reg.LNK_CAGE_MAP map k) Reg.LNK_CAGE_MAP_ORDER_REV rev k
  if flip = 0 ∧ map = 0xE4 ∧ rev = 0 then s else linkFault s k Err.LNK_LANES_FIXED [flip, map + 256 * rev]

/-- The peer is not the expected one (R504). -/
def peerWrong (s : State) (k serial die : Nat) : Bool :=
  let want := serialOf s Reg.LNK_EXPECT_ID k
  (want != 0 && want != serial)
    || (!onF s Reg.LNK_EXPECT_DIE_EXPECT_ANY k && getF s Reg.LNK_EXPECT_DIE k != die)

/-- Coefficients are stored for every good lane toward this peer (R503). -/
def coeffsKnown (x : Link) (serial die : Nat) : Bool :=
  x.good.all (fun l => x.coeffs.any (fun c => c.1 == serial && c.2.1 == die && c.2.2.1 == l))

/-- IDENTIFY (R504): the identity sequences complete. -/
def execIdentify (k : LinkId) (lanes : List LaneIdent) (s : State) : Host.Outcome State Fault Refusal :=
  .next (match (if phase s k = Phase.identify then mainPeer lanes else none) with
    | some (serial, die) =>
      let mine := lanes.filter (fun l => l.serial == serial && l.die == die)
      let out := laneMask ((lanes.filter (fun l => !(l.serial == serial && l.die == die))).map (·.lane))
      let s := setGood s k ((mine.map (·.lane)).filter (getLink s k).good.contains)
      let s := fixLanes s k mine
      let s := if out = 0 then s else linkFault s k Err.LNK_CAGE_MISMATCH [out]
      let s := setF (setSerial s Reg.LNK_PEER_ID k serial) Reg.LNK_PEER_DIE die k
      if peerWrong s k serial die then
        refuseLink (linkFault s k Err.LNK_PEER_MISMATCH [die, serial % 2 ^ 32]) k
      else if serial = moduleSerial s ∧ !onF s Reg.LNK_CTL_LOOPBACK k then refuseLink s k
      else setPhase (flagF s Reg.LNK_STAT_STORED (coeffsKnown (getLink s k) serial die) k) k Phase.equalise
    | none => s)

/-- EQUALISE (R503): the transmitter training of each good lane completes. -/
def execEqualise (k : LinkId) (coefficients : List Nat) (s : State) : Host.Outcome State Fault Refusal :=
  .next (if phase s k = Phase.equalise then
      setPhase (modLink s k (fun x => { x with trained := coefficients })) k Phase.lock
    else s)

/-- The width of a link (R500). -/
def linkWidth (n : Nat) : Nat := if 30 ≤ n then 30 else if 24 ≤ n then 24 else if 16 ≤ n then 16 else if 8 ≤ n then 8 else 0

/-- Width, logical lanes and spares chosen from the good lanes (R500). -/
def selectLanes (s : State) (k : Nat) (good : List Nat) : State :=
  let w := linkWidth good.length
  let rest := good.drop w
  let s := modLink (setGood s k good) k (fun x => { x with logical := good.take w, spares := rest.drop (rest.length - 2) })
  setF (setF s Reg.LNK_STAT_WIDTH w k) Reg.LNK_LANE_ACTIVE (laneMask (good.take w)) k

/-- A message whose payload layout the spec does not give (R508): its bytes are free values (log
entry 2). -/
def openMsg (s : State) (k kind : Nat) : List Byte := linkMsg kind 0 (freeBytes 0x0508 [kind, k, s.lampTime] 68)

/-- LOCK (R503, R500): codeword lock and alignment complete, and the width is selected; IDENT and VERSION
go out (R505). -/
def execLock (k : LinkId) (good : Nat) (s : State) : Host.Outcome State Fault Refusal :=
  .next (if phase s k = Phase.lock ∨ phase s k = Phase.select then
      let lanes := (maskLanes good).filter (getLink s k).good.contains
      let s := selectLanes s k lanes
      if linkWidth lanes.length = 0 then setPhase s k Phase.down
      else
        let s := modLink s k (fun x => { x with gotIdent := false, gotVersion := false })
        setPhase (sendMsgs s k [openMsg s k 0x01, openMsg s k 0x02]) k Phase.negotiate
    else s)

/-- A retraining from a phase (R502, R506, R526). -/
def retrainFrom (s : State) (k ph : Nat) : State :=
  let s := linkFault (addF s Reg.LNK_RETRAINS 1 k) k Err.LNK_RETRAIN [ph]
  setPhase (modLink s k (fun x => { x with nakRuns := 0, retrainAt := some s.lampTime })) k ph

/-- LNK_LANE_SPARED (R506): a lane fails; a spare takes its logical place, or the link narrows. -/
def execLnkLaneSpared (k : LinkId) (lane : Fin 32) (s : State) : Host.Outcome State Fault Refusal :=
  .next (
    let x := getLink s k
    if phase s k ≠ Phase.up ∨ !(x.logical ++ x.spares).contains lane.val then s
    else
      let good := x.good.filter (· != lane.val)
      if x.logical.contains lane.val then
        match x.spares with
        | sp :: rest =>
          let logical := x.logical.map (fun l => if l = lane.val then sp else l)
          let s := modLink (setGood s k good) k (fun x => { x with logical := logical, spares := rest })
          let s := setF (addF s Reg.LNK_SPARE_SWAPS 1 k) Reg.LNK_LANE_ACTIVE (laneMask logical) k
          linkFault s k Err.LNK_LANE_SPARED [lane.val, sp]
        | [] =>
          let s := linkFault (setGood s k good) k Err.LNK_NARROWED [linkWidth good.length]
          retrainFrom s k Phase.select
      else modLink (setGood s k good) k (fun x => { x with spares := x.spares.filter (· != lane.val) }))

/-- The negotiation is complete (R505). -/
def negotiated (s : State) (k : Nat) : State :=
  let x := getLink s k
  if phase s k = Phase.negotiate ∧ x.gotIdent ∧ x.gotVersion then setPhase s k Phase.sync else s

/-- IDENT (R508): what the peer is and holds. What the partner confirms of R407 comes with it; its place
in the message is not given, so both answers are free values (log entry 29). -/
def execIdent (k : LinkId) (serial die grade cores : Nat) (idents : List (List Byte)) (s : State) :
    Host.Outcome State Fault Refusal :=
  .next (if phase s k < Phase.negotiate then s
    else
      let s := setF (setSerial s Reg.LNK_PEER_ID k serial) Reg.LNK_PEER_DIE die k
      let s := modLink s k (fun x => { x with gotIdent := true, peerGrade := grade, peerCores := cores, peerIdents := idents })
      let s := if serial = serialOf s Reg.ERR_PARTNER_ID 0 then
          let a := nextFree s
          let b := nextFree a.2
          { b.2 with partner := { b.2.partner with capacityOk := a.1 % 2 == 1, ringsOk := b.1 % 2 == 1 } }
        else s
      negotiated s k)

/-- VERSION (R12, R14, R505): major 1 and the lower of its highest minors, or the link stays down. -/
def execVersion (k : LinkId) (offers : List (Nat × Nat)) (s : State) : Host.Outcome State Fault Refusal :=
  .next (if phase s k ≠ Phase.negotiate then s
    else match ((offers.filter (fun o => o.1 == 1)).map (·.2)).max? with
    | some m =>
      let s := setF (setF s Reg.LNK_STAT_VER_MAJOR 1 k) Reg.LNK_STAT_VER_MINOR (min 1 m) k
      negotiated (modLink s k (fun x => { x with gotVersion := true })) k
    | none =>
      let majors := (offers.map (·.1)).dedup
      refuseLink (linkFault s k Err.LNK_VERSION [((majors.filter (· < 32)).map (fun m => 2 ^ m)).sum]) k)

/-! ### Time (R509) -/

/-- A candidate time source: priority, serial, hops, and the link toward it, none for this module. -/
structure Source where
  priority : Nat
  serial : Nat
  hops : Nat
  link : Option Nat
  deriving DecidableEq, Repr

/-- `a` is preferred to `b` (R509): the lowest priority and serial, then the fewest hops; candidates come
by rising die number. -/
def Source.before (a b : Source) : Bool :=
  decide (a.priority < b.priority ∨ (a.priority = b.priority ∧
    (a.serial < b.serial ∨ (a.serial = b.serial ∧ a.hops < b.hops))))

/-- This module as a time source. -/
def ownSource (s : State) : Source := ⟨getF s Reg.LAMP_TIME_CTL_PRIORITY 0, moduleSerial s, 0, none⟩

/-- The candidates that links announce. -/
def heardSources (s : State) : List Source :=
  (List.range 16).filterMap (fun k =>
    if Phase.sync ≤ phase s k then (getLink s k).ann.map (fun a => ⟨a.priority, a.serial, a.hops + 1, some k⟩) else none)

/-- The time source chosen (R509). -/
def bestSource (s : State) : Source :=
  (heardSources s).foldl (fun b c => if c.before b then c else b) (ownSource s)

/-- The link toward the time source. -/
def timePath (s : State) : Option Nat := (List.range 16).find? (fun k => onF s Reg.LNK_STAT_TIME_PATH k)

/-- The module is, or is no longer, synchronised (R509); usage intervals note every lapse (R341). -/
def setSynced (s : State) (b : Bool) : State :=
  let s := flagF s Reg.LAMP_TIME_CTL_SYNCED b 0
  let s := (List.range 16).foldl (fun s k => flagF s Reg.LNK_STAT_TIME_SYNCED (b && onF s Reg.LNK_STAT_TIME_PATH k) k) s
  if b then s else { s with tele := { s.tele with openSynced := false } }

/-- The choice of the time source made again. A change of path runs free until the next exchange. -/
def chooseSource (s : State) : State :=
  let b := bestSource s
  let old := timePath s
  let s := flagF s Reg.LAMP_TIME_CTL_SOURCE b.link.isNone 0
  if old = b.link then s
  else
    let s := (List.range 16).foldl (fun s k => flagF s Reg.LNK_STAT_TIME_PATH (b.link == some k) k) s
    setSynced { s with slew := 0 } false

/-- An ANNOUNCE message on link `k`; its payload layout is not given (log entry 2). -/
def sendAnnounce (s : State) (k priority serial hops : Nat) : State :=
  linkSend s k (linkMsg 0x03 0 (freeBytes 0x0509 [priority, serial, hops] 68))

/-- ANNOUNCE (R509): kept, spread hop by hop up to 16 hops, and the source chosen again. -/
def execAnnounce (k : LinkId) (priority serial hops : Nat) (s : State) : Host.Outcome State Fault Refusal :=
  .next (if phase s k < Phase.sync ∨ 16 ≤ hops then s
    else
      let s := modLink s k (fun x => { x with ann := some ⟨priority, serial, hops⟩ })
      let s := if hops + 1 < 16 then
          ((List.range 16).filter (fun j => j != k.val && linkUp s j)).foldl
            (fun s j => sendAnnounce s j priority serial (hops + 1)) s
        else s
      chooseSource s)

/-- Streams of a split forme recover over a link to the same peer (R510). -/
def resumeSplit (s : State) (k : Nat) : State :=
  let same := fun (j : Nat) => (getLink s j).downAt.isSome
    && serialOf s Reg.LNK_PEER_ID j == serialOf s Reg.LNK_PEER_ID k
    && getF s Reg.LNK_SPLIT_CTL_SPLIT_FORME j == getF s Reg.LNK_SPLIT_CTL_SPLIT_FORME k
  let js := (List.range 16).filter same
  if linkUp s k ∧ onF s Reg.LNK_SPLIT_CTL_SPLIT_EN k ∧ js ≠ [] then
    let s := js.foldl (fun s j => modLink s j (fun x => { x with downAt := none })) s
    recoverForme s (getF s Reg.LNK_SPLIT_CTL_SPLIT_FORME k)
  else s

/-- The link is UP (R503): coefficients stored, this module announced, a split forme resumed. -/
def bringUp (s : State) (k : Nat) : State :=
  let serial := serialOf s Reg.LNK_PEER_ID k
  let die := getF s Reg.LNK_PEER_DIE k
  let x := getLink s k
  let fresh := (x.good.zip x.trained).map (fun p => (serial, die, p.1, p.2))
  let kept := x.coeffs.filter (fun c => !(fresh.any (fun d => d.1 == c.1 && d.2.1 == c.2.1 && d.2.2.1 == c.2.2.1)))
  let s := setLink s k { x with coeffs := kept ++ fresh, retrainAt := none }
  let s := addF s Reg.LAMP_NV_WRITES 1 0
  let s := setPhase s k Phase.up
  let o := ownSource s
  let s := sendAnnounce s k o.priority o.serial 0
  resumeSplit (chooseSource s) k

/-- A signed nanosecond count as a register word. -/
def signedWord (v : Int) : Nat := (v % 2 ^ 32).toNat

/-- Lamp time follows the source (R509): not when more than 1 s ahead, one step forward when more than
1 ms behind, else a slew. -/
def followTime (s : State) (k : Nat) (offset : Int) : State :=
  let s := setF s Reg.LAMP_OFFSET (signedWord offset) 0
  let s := if 1000000000 < offset then linkFault { s with slew := 0 } k Err.LNK_TIME_AHEAD [offset.toNat / 1000000]
    else if offset < -1000000 then { s with lampTime := s.lampTime + offset.natAbs, slew := 0 }
    else { s with slew := -offset }
  setSynced s (decide (offset.natAbs ≤ 50))

/-- PDELAY (R509): a peer-delay exchange completes, with this module's offset from the source and the path
delay. The first one ends SYNC (R503). -/
def execPdelay (k : LinkId) (offset : Int) (delay : Nat) (s : State) : Host.Outcome State Fault Refusal :=
  .next (if phase s k < Phase.sync then s
    else
      let s := setF (setF s Reg.LNK_TIME_OFFSET (signedWord offset) k) Reg.LNK_PATH_DELAY delay k
      let s := modLink s k (fun x => { x with lastExchange := some s.lampTime })
      let s := if phase s k = Phase.sync then bringUp s k else s
      if timePath s = some k.val then followTime s k offset else s)

/-- PDELAY_TIMER (R509): every 1 ms an exchange starts on a trained link. -/
def execPdelayTimer (k : LinkId) (s : State) : Host.Outcome State Fault Refusal :=
  .next (if phase s k < Phase.sync then s else linkSend s k (openMsg s k 0x04))

/-- TIME_SOURCE_LOSS (R509): the module chooses again and runs free meanwhile. -/
def execTimeSourceLoss (s : State) : Host.Outcome State Fault Refusal :=
  .next (match timePath s with
    | some k => chooseSource (modLink s k (fun x => { x with ann := none }))
    | none => s)

/-! ### Frames (R501, R502) -/

/-- Frames acknowledged up to `ack` leave the replay buffer; frames that had no room are sent now. -/
def takeAck (s : State) (k ack : Nat) : State :=
  let x := getLink s k
  let n := (x.replay.takeWhile (fun f => decide ((ack + 65536 - leAt f 0 2) % 65536 < 32768))).length
  if n = 0 then s
  else
    let rest := x.replay.drop n
    let late := (rest.drop (replayFrames - n)).take n
    let s := setLink s k { x with replay := rest, nakRuns := 0 }
    { s with io := { s.io with linkOut := s.io.linkOut ++ late.map (fun f => (k, f)) } }

/-- A NAK from the peer: the frames from ACK + 1 are replayed; the eighth replay in a row of one frame
retrains the link from LOCK (R502). -/
def takeNak (s : State) (k : Nat) : State :=
  let x := getLink s k
  let again := x.replay.take replayFrames
  if again = [] then s
  else
    let s := { s with io := { s.io with linkOut := s.io.linkOut ++ again.map (fun f => (k, f)) } }
    let s := modLink (addF s Reg.LNK_REPLAYS again.length k) k (fun x => { x with nakRuns := x.nakRuns + 1 })
    if 8 ≤ x.nakRuns + 1 then retrainFrom s k Phase.lock else s

/-- LINK_FRAME (R501, R502): a frame is received. A bad or out-of-order one is discarded and NAK is sent;
its flits are commands of their own. -/
def execLinkFrame (k : LinkId) (frame : List Byte) (uncorrectable : Bool) (s : State) : Host.Outcome State Fault Refusal :=
  if frame.length ≠ 336 then .fault (.illFormed "LINK_FRAME")
  else .next (
    if phase s k < Phase.negotiate then s
    else
      let s := if uncorrectable then addF s Reg.LNK_FEC_UNCORR 1 k else s
      let x := getLink s k
      let bad := uncorrectable || leAt frame 328 4 != crc32c (frame.take 328)
      if bad || leAt frame 0 2 != x.rxSeq then
        if x.nak then s else sendFrame (setLink s k { x with nak := true }) k 1 []
      else
        let s := setLink s k { x with rxSeq := (x.rxSeq + 1) % 65536, nak := false }
        let s := takeAck s k (leAt frame 2 2)
        if leAt frame 4 1 % 2 = 1 then takeNak s k else s)

/-! ### Split formes and loss (R507, R510) -/

/-- The core that the part table names (R507): the first core of the placed part. -/
def splitCore (s : State) (f : Flit) (fi : Nat) : Option CoreRef :=
  (getForme s fi).bind (fun x =>
    (x.parts.find? (fun p => p.live && p.layer == stampLayer f.stamp && p.part == stampPart f.stamp)).map
      (fun p => p.coreAt 0 0))

/-- SPLIT_PACKET (R507): a fabric packet from the peer enters the fabric toward the core that the part
table names, or is dropped. -/
def execSplitPacket (k : LinkId) (f : Flit) (s : State) : Host.Outcome State Fault Refusal :=
  .next (if phase s k ≠ Phase.up then s
    else
      let dst := if onF s Reg.LNK_SPLIT_CTL_SPLIT_EN k then splitCore s f (getF s Reg.LNK_SPLIT_CTL_SPLIT_FORME k) else none
      match dst with
      | some c =>
        let route := BitVec.ofNat 32 (f.route.toNat / 2 ^ 21 * 2 ^ 21 + c.row.val * 2 ^ 11 + c.lcol.val)
        let e := secondGate s (k.val / 4) (4 * (k.val % 4) + 1)
        let r : RouterRef := ⟨Fin.ofNat 1024 e.r0.toNat, Fin.ofNat 1056 e.c0.toNat⟩
        enterFabric s r (k.val / 4) { f with route := route } true none
      | none =>
        raise (addF s Reg.FAB_BAD_ROUTES 1 0)
          { blockItem Err.FAB_BAD_ROUTE (identOf 0x22 k) [f.route.toNat] with stamp := some f.stamp.toNat })

/-- A time stands and lies `ns` back. -/
def agedAt (s : State) (t : Option Nat) (ns : Nat) : Bool := t.any (fun t => decide (t + ns ≤ s.lampTime))

/-- Fabric frames among those that a link keeps to replay (R501, R502). -/
def fabricFrames (x : Link) : Nat := x.replay.countP (fun f => leAt f 4 1 / 16 == 0)

/-- LNK_DOWN (R510): a link fails to retrain within 250 ms and goes down. The fabric frames of its replay buffer are lost, and
`framesLost` of its other buffers. -/
def execLnkDown (k : LinkId) (framesLost : Nat) (s : State) : Host.Outcome State Fault Refusal :=
  .next (if !agedAt s (getLink s k).retrainAt 250000000 then s
    else
      let split := onF s Reg.LNK_SPLIT_CTL_SPLIT_EN k
      let lost := fabricFrames (getLink s k) + framesLost
      let s := setLink s k { getLink s k with
        replay := [], txSeq := 0, rxSeq := 0, nak := false, nakRuns := 0, retrainAt := none, ann := none
        lastExchange := none, downAt := if split then some s.lampTime else none }
      let s := setPhase s k Phase.down
      let s := linkFault s k Err.LNK_DOWN [lost]
      let s := if split then holdFormes s [getF s Reg.LNK_SPLIT_CTL_SPLIT_FORME k] else s
      let s := (s.loads.filter (fun l => l.fromLink && (l.source == some k.val || l.offers.any (fun o => o.1 == k.val)))).foldl
        (fun s l => nextSource s l k) s
      chooseSource s)

/-- PEER_LOST (R510): no link to the peer returned within 2 s; the split forme's streams end. -/
def execPeerLost (k : LinkId) (s : State) : Host.Outcome State Fault Refusal :=
  .next (if !agedAt s (getLink s k).downAt 2000000000 then s
    else
      let fi := getF s Reg.LNK_SPLIT_CTL_SPLIT_FORME k
      let es := (s.serve.streams.filter (fun e => e.2.live && e.2.forme == fi)).map (·.1)
      let s := es.foldl (fun s e => endStream s e Sts.PEER_LOST 5 0) s
      checkRecoveries 64 (modLink s k (fun x => { x with downAt := none })))

/-- RETRAIN (R526): a write of `LNK.CTL` with RETRAIN set retrains the link from DETECT. -/
def execRetrain (k : LinkId) (v : Nat) (s : State) : Host.Outcome State Fault Refusal :=
  .next (regWrite s (linkPage k) (fun s =>
    let s := setF s Reg.LNK_CTL_ENABLE (v / 2 ^ 31) k
    let s := if pageLocked s (linkPage k) then s else setF s Reg.LNK_CTL_LOOPBACK (v / 2 ^ 29) k
    if v / 2 ^ 30 % 2 = 1 ∧ onF s Reg.LNK_CTL_ENABLE k then
      retrainFrom (modLink s k (fun x => { x with refused := false })) k Phase.detect
    else s))

/-! ### The partner's data (R407, R408) -/

/-- MIRROR (R407): data of the module whose partner this one is. -/
def execMirror (k : LinkId) (data : List Byte) (s : State) : Host.Outcome State Fault Refusal :=
  .next (if phase s k = Phase.up then
      { s with partner := { s.partner with received := s.partner.received ++ [(0x20, data)] } }
    else s)

/-- Galleys that came with a handover, in the stack tier (R391, R408): one for each index, layer and KV group in order;
the last of them may be partial. -/
def landGalleys (s : State) (o : Owner) (fi tenant vlen : Nat) (st : GalleyState) (bytes : List (List Byte)) : State :=
  match getForme s fi with
  | some f =>
    let places := (List.range ((vlen + 255) / 256)).flatMap (fun i => (kvPlaces f.image).map (fun p => (i, p)))
    (places.zip bytes).foldl (fun s x =>
      let i := x.1.1
      let p := x.1.2
      let n := galleyBytes p.2.2
      let a := firstFit (n + summaryLen) 0 (stackExtents s)
      let sum := match attnOf f.image p.1 with
        | some at_ => if vlen < 256 * (i + 1) then [] else summaryKey f.image p.1 at_ (slice x.2 0 n)
        | none => []
      let y : Galley :=
        { owner := o, forme := fi, layer := p.1, group := p.2.1, index := i, st := st, tenant := tenant
          pub := false, t0 := none, t1 := some a, t2 := none, bytes := n, length := min 256 (vlen - 256 * i), holders := []
          tree := 0, req := none, summary := sum, flushed := s.kv.flushes }
      let s := stackWrite (stackWrite s a (slice x.2 0 n) false) (a + n) y.summaryBytes false
      modKv (newGalley s y) (fun k => { k with t1 := addExtent k.t1 a y.span, flushes := k.flushes + 1 })) s
  | none => s

/-- The ones of `n` bits, the lowest first. -/
def natBits (n v : Nat) : List Bool := (List.range n).map (fun i => v.testBit i)

/-- The slot that holds a version of an overlay (or, as number 0, of the tenant's variant) that the tenant may name. -/
def versionSlot (s : State) (variant : Bool) (fi tenant num version : Nat) : Option Nat :=
  (s.slots.find? (fun x => x.2.st != .loading && x.2.st != .scrubbing && x.2.isVariant == variant && x.2.forme == fi
    && x.2.number == num && x.2.version == version && (x.2.tenant == tenant || x.2.pub))).map (·.1)

/-- A stream adopted from a handed replay record (R396, R408): it replays from DLEN with its own history, extension
block and mask, and with the versions pinned that its record names. A version that this module does not hold gives way to the
ACTIVE one, and VERSION_CROSSED is then owed (R4; DESIGN CHOICE, log entry 108). -/
def adoptStream (s : State) (h : HandedStream) : State :=
  match kfree s.serve.streams 0 16384 with
  | none => s
  | some e =>
    let data := h.record
    let cmd := data.take 64
    let fi := genForme cmd
    let t := tenantOf cmd
    let dlen := leAt data 76 4
    let v := leAt data 72 4
    let delivered := leAt data 80 4
    let n := v + (if delivered = 0 then 0 else 1)
    let st := leAt data 70 1
    let r := nextReq s
    let toks := if delivered = 0 then h.tokens else h.tokens.take n
    let pins := (extOverlays h.ext).mapIdx (fun i o => (o, leAt data (122 + 2 * i) 2))
    let vs := if leAt data 120 2 = 0 then none else versionSlot s true fi t 0 (leAt data 120 2) <|> variantSlot s fi t
    let ovs := pins.filterMap (fun p => versionSlot s false fi t p.1 p.2 <|> overlaySlot s fi t p.1)
    let held := vs.all (fun k => (overlayAt s k).2 == leAt data 120 2) && ovs.map (fun k => (overlayAt s k).2) == pins.map (·.2)
    let x := { newStream s (leAt data 68 2) cmd ⟨h.tokens, h.ext, h.mask, false⟩ false with
      state := if st = 4 then 3 else st, resume := if st = 4 then 3 else st
      req := some r, tokens := toks, known := if delivered = 0 then toks.length else n - delivered, vlen := dlen, tlen := dlen
      start := dlen, delivered := delivered, replayTo := v, depth := leAt data 130 1, proofSteps := leAt data 132 4
      accepts := natBits (min 64 (leAt data 132 4)) (leAt data 136 8), reaches := natBits (min 64 (leAt data 132 4)) (leAt data 162 8)
      lastTime := some (leAt data 88 8), lastCount := leAt data 131 1
      lastLogprobs := (List.range (leAt data 131 1)).map (fun i => leAt data (144 + 2 * i) 2)
      ident := ((getForme s fi).map (·.ident)).getD [], gen := ((getForme s fi).map (·.gen)).getD 0
      variant := vs, overlays := ovs, crossed := leAt data 71 1 / 2 % 2 == 1 || !held, everCrossed := !held }
    let s := setSt ((vs.toList ++ ovs).foldl pinSlot s) e x
    let s := { s with serve := { s.serve with order := s.serve.order + 1 } }
    let s := landGalleys s (.stream e) fi t (dlen - dlen % 256) .spilled h.galleys
    bindSticks s e fi (dlen / 256) t (some r)

/-- A handed queue adopted with its ring bases, sizes, priority, heads, tails and PHASE unchanged (R408); it serves. -/
def adoptQueue (s : State) (h : HandedQueue) : State :=
  let q := h.queue
  let s := setF (setF s Reg.SRV_SQ_BASE h.sqBase q) Reg.SRV_RQ_BASE h.rqBase q
  let s := setF (setF s Reg.SRV_Q_CTL_SQ_LOG2 h.sqLog2 q) Reg.SRV_Q_CTL_RQ_LOG2 h.rqLog2 q
  let s := setF (setF s Reg.SRV_Q_CTL_PRIORITY h.priority q) Reg.SRV_Q_CTL_ENABLE 1 q
  let n := 2 ^ h.rqLog2
  modQ s q (fun x => { x with sqHead := h.sqHead, sqTail := h.sqTail, rqHead := h.rqHead, rqTail := h.rqTail
                              used := (h.rqTail + n - h.rqHead) % n, phase := h.phase })

/-- A handed conversation: paused on this module (R337, R408). -/
def adoptConv (s : State) (h : HandedConv) : State :=
  let s := { s with serve := { s.serve with convs := s.serve.convs ++
    [{ tenant := h.tenant, handle := h.handle, forme := h.forme, tokens := h.tokens, vlen := h.vlen, claimed := none
       held := false, paused := true, pausedAt := h.pausedAt, ttl := h.ttl, queue := h.queue, ident := h.ident, variant := h.variant
       overlays := h.overlays }] } }
  landGalleys s (.conv h.tenant h.handle) h.forme h.tenant h.vlen .paused h.galleys

/-- HANDOVER (R408): what a failing module hands to this one becomes this module's. -/
def execHandover (k : LinkId) (h : Handed) (s : State) : Host.Outcome State Fault Refusal :=
  .next (if phase s k = Phase.up then
      match h with
      | .queue x => adoptQueue s x
      | .stream x => adoptStream { s with partner := { s.partner with received := s.partner.received ++ [(0x21, x.record)] } } x
      | .conv x => adoptConv s x
    else s)

end Sys2Proof.Machine
end

