-- ==== Sys2Proof/Machine/Mailbox.lean ====
section
/-! DEFINITION. The keeper mailbox (R541, R554). A reply's layout and length, where R554 does not give them, are
free (log entry 2). -/

namespace Sys2Proof.Machine

/-- The mailbox page of group `g`. -/
def kmbPage (g : Nat) : Nat := 2048 + g

/-- Byte 0 of the waiting message: its kind. -/
def kmbKind (s : State) (g : Nat) : Nat := getF s Reg.KMB_IN_DATA g 0 % 256

/-- Bytes into `OUT_DATA`. -/
def kmbData (s : State) (g : Nat) (bs : List Byte) : State :=
  (List.range ((bs.length + 3) / 4)).foldl (fun s k => setF s Reg.KMB_OUT_DATA (leAt bs (4 * k) 4) g k) s

/-- A reply: the kind, a zero byte, the status, then `tail`. -/
def kmbPut (s : State) (g status : Nat) (tail : List Byte) : State :=
  let bs := leBytes 1 (kmbKind s g) ++ [0] ++ leBytes 2 status ++ tail
  setF (setF (setF (kmbData s g bs) Reg.KMB_OUT_STAT_OUT_LEN bs.length g) Reg.KMB_OUT_STAT_VALID 1 g) Reg.KMB_IN_CTL_BUSY 0 g

/-- A reply whose bytes after the status are free in number and content. -/
def kmbFree (s : State) (g status : Nat) : State :=
  let v := nextFree s
  let w := nextFree v.2
  kmbPut w.2 g status (leBytes (v.1 % 1021) w.1)

/-- The keeper host API major of this device (R13, R553). -/
def kapiMajor : Nat := 1

/-- The keeper host API major that host software names in a VERSION message (R13, R14). R554 gives it no place: the
model takes byte 1 of the message, and a message of one byte names none (DESIGN CHOICE, log entry 84). -/
def kmbMajor (s : State) (g : Nat) : Nat := getF s Reg.KMB_IN_DATA g 0 / 256 % 256

/-- The reply to the waiting message (R554); a session without a shared major is refused (R14). -/
def kmbAnswer (s : State) (g : Nat) : State :=
  if getF s Reg.KMB_IN_CTL_LEN g = 0 then kmbFree s g Sts.ZERO_LENGTH
  else
    match kmbKind s g with
    | 1 => kmbFree s g (if getF s Reg.KMB_IN_CTL_LEN g < 2 ∨ kmbMajor s g = kapiMajor then Sts.OK else Sts.VERSION_UNSUPPORTED)
    | 2 => kmbFree s g Sts.OK
    | 3 =>
      match s.serve.streams.find? (fun e => e.2.req == some (getF s Reg.KMB_IN_DATA g 1)) with
      | some e => kmbPut s g Sts.OK (List.replicate 12 0 ++ replayRecord s e.1 e.2)
      | none => kmbFree s g Sts.NOT_FOUND
    | _ => kmbFree s g Sts.BAD_KIND

/-- The waiting message is answered once the group serves and the last reply is freed. -/
def kmbServe (s : State) (g : Nat) : State :=
  if onF s Reg.KMB_IN_CTL_BUSY g && groupUp s g && !onF s Reg.KMB_OUT_STAT_VALID g then kmbAnswer s g else s

/-- GO (R541, R554): no effect while BUSY. -/
def kmbGo (s : State) (g : Nat) : State :=
  if onF s Reg.KMB_IN_CTL_BUSY g then s else kmbServe (setF s Reg.KMB_IN_CTL_BUSY 1 g) g

/-- GO with a message of a kind: byte 0 of the message. -/
def kmbSend (s : State) (g kind : Nat) : State :=
  regWrite s (kmbPage g) (fun s =>
    if onF s Reg.KMB_IN_CTL_BUSY g then s
    else kmbGo (setF s Reg.KMB_IN_DATA (getF s Reg.KMB_IN_DATA g 0 / 256 * 256 + kind) g 0) g)

/-- KMB_VERSION (R554). -/
def execKmbVersion (g : GroupId) (s : State) : Host.Outcome State Fault Refusal := .next (kmbSend s g.val 1)

/-- GROUP_STATE (R554). -/
def execGroupState (g : GroupId) (s : State) : Host.Outcome State Fault Refusal := .next (kmbSend s g.val 2)

/-- STREAM_QUERY (R554). -/
def execStreamQuery (g : GroupId) (s : State) : Host.Outcome State Fault Refusal := .next (kmbSend s g.val 3)

/-- ACK (R554): frees the reply; a message that waits behind it is answered. -/
def execAck (g : GroupId) (s : State) : Host.Outcome State Fault Refusal :=
  .next (regWrite s (kmbPage g.val) (fun s => kmbServe (setF s Reg.KMB_OUT_STAT_VALID 0 g.val) g.val))

end Sys2Proof.Machine
end

