-- ==== Sys2Proof/Machine/Telemetry.lean ====
section
/-! DEFINITION. The telemetry ring (R88, R284, R318, R320, R321, R545, R546) and the usage evidence
(R341, R547 to R551). -/

namespace Sys2Proof.Machine

/-! ### Percentiles (R321) -/

/-- The bucket of a gap. -/
def bucketOf (g : Nat) : Nat :=
  if g < 1088 then 0 else if 4160749568 ≤ g then 351
  else 16 * (Nat.log2 g - 10) + (16 * g / 2 ^ Nat.log2 g - 16)

/-- The upper edge of a bucket, or 0xFFFF_FFFF for the last. -/
def bucketEdge (i : Nat) : Nat := if 351 ≤ i then 0xFFFFFFFF else 2 ^ (10 + i / 16) * (17 + i % 16) / 16

/-- The percentile `num / den` of the gaps; 0 without a sample (R320). -/
def percentile (gaps : List Nat) (num den : Nat) : Nat :=
  match (gaps.mergeSort)[(num * gaps.length + den - 1) / den - 1]? with
  | some g => bucketEdge (bucketOf g)
  | none => 0

/-- A 32-byte telemetry record: time, number, kind, then five words (R546). -/
def telRecord (time num kind : Nat) (ws : List Nat) : List Byte :=
  leBytes 8 time ++ leBytes 2 num ++ leBytes 2 kind ++ ws.flatMap (leBytes 4)

/-- The MOORING record of one second (R320). -/
def mooringRecord (s : State) (m : Nat) : List Byte :=
  let g := kgetD s.tele.gaps m []
  telRecord s.lampTime m 0x0006 [kgetD s.tele.tokens m 0, percentile g 50 100, percentile g 99 100, percentile g 999 1000,
    percentile g 9999 10000]

/-- The MOORING_AT_RISK record of one second (R318, R546). -/
def riskRecord (s : State) (m : Nat) (x : Mooring) : List Byte :=
  let live := (s.serve.streams.filter (fun e => e.2.live && e.2.mooring == m)).length
  let c := ((getForme s x.forme).map (·.cycleNs)).getD 0
  telRecord s.lampTime m 0x0007
    [((live : Rat) * 1000000000 / ((x.period : Rat) * c)).floor.toNat, kgetD s.tele.steps m 0, x.period, c.floor.toNat, 0]

/-- Moorings that cannot be met (R318). -/
def atRisk (s : State) : List (Nat × Mooring) := s.serve.moorings.filter (fun m => m.2.unmet)

/-- A record for the ring, where its kind is enabled (R545). -/
def telPut (s : State) (r : List Byte) : State :=
  if onF s Reg.TEL_CTL_EN 0 && getF s Reg.TEL_KIND_EN 0 / 2 ^ leAt r 10 2 % 2 == 1 then ringPut s telRing r else s

/-- A record that would be written. -/
def telWanted (s : State) (r : List Byte) : Bool :=
  onF s Reg.TEL_CTL_EN 0 && getF s Reg.TEL_KIND_EN 0 / 2 ^ leAt r 10 2 % 2 == 1

/-- TELEMETRY_SECOND (R318, R320, R545). -/
def execTelemetrySecond (s : State) : Host.Outcome State Fault Refusal :=
  .next (if groupUp s 0 then
      let own := (s.tele.tokens.filter (fun t => t.2 != 0)).map (fun t => mooringRecord s t.1)
        ++ (atRisk s).map (fun m => riskRecord s m.1 m.2)
      let all := own ++ s.tele.groupHeld ++ s.tele.held
      let wrote := all.any (telWanted s)
      let s := { s with tele := { s.tele with
        pairs := (atRisk s).foldl (fun l m => modPair l m.1 m.2.tenant (fun p => { p with breach := p.breach + 1 })) s.tele.pairs } }
      let s := all.foldl telPut s
      let s := if wrote then msix s (getF s Reg.TEL_CTL_VECTOR 0) else s
      { s with tele := { s.tele with held := [], groupHeld := [], gaps := [], tokens := [], steps := [] } }
    else s)

/-- Records that groups 1 and 2 have held for more than 8 s are lost (R545). -/
def dropOld (s : State) : State :=
  let young := s.tele.groupHeld.filter (fun r => decide (s.lampTime ≤ leAt r 0 8 + 8000000000))
  let lost := if onF s Reg.TEL_CTL_EN 0 then s.tele.groupHeld.length - young.length else 0
  addF { s with tele := { s.tele with groupHeld := young } } Reg.TEL_LOST lost 0

/-- Records handed to keeper group 0, or, while it rebuilds, held up to 8 s by their group (R545). -/
def handRecords (s : State) (rs : List (List Byte)) : State :=
  if groupUp s 0 then { s with tele := { s.tele with held := s.tele.held ++ rs } }
  else dropOld { s with tele := { s.tele with groupHeld := s.tele.groupHeld ++ rs } }

/-- A count cut to 32 bits by saturation (R89, R284). -/
def sat32 (n : Nat) : Nat := min n 0xFFFFFFFF

/-- The numeric counts of a layer over all chases (R88, R89). -/
def numericOf (s : State) (l : Nat) : List Nat :=
  let cs := s.chases.filterMap (fun c => kget? c.2.counts l)
  [(cs.map (·.recomputes)).sum, (cs.map (·.exhausted)).sum, (cs.map (·.passes)).sum, (cs.map (·.tokens)).sum, (cs.map (·.nans)).sum]

/-- NUMERIC (R88). -/
def execNumeric (s : State) : Host.Outcome State Fault Refusal :=
  .next (if groupUp s 2 then
      let ls := (List.range 256).filter (fun l => (numericOf s l).any (· != 0))
      let rs := ls.map (fun l => telRecord s.lampTime l 0x0004 ((numericOf s l).map sat32))
      let s := { s with chases := s.chases.map (fun c => (c.1, { c.2 with counts := [] })) }
      handRecords s rs
    else s)

/-- The figures of an EXPERT record. -/
def ExpertCount.figures (x : ExpertCount) : List Nat := [x.selections, x.streams, x.hits, x.misses, x.slip]

/-- EXPERT (R284): a record for each layer with a non-zero count, and the counts restart. R284 gives the records no
order: they stand by rising layer from `first` on, then from 0. -/
def execExpert (first : Nat) (s : State) : Host.Outcome State Fault Refusal :=
  .next (if groupUp s 1 then
      let some_ := s.tele.experts.filter (fun x => x.2.figures.any (· != 0))
      let ls := some_.filter (fun x => decide (first ≤ x.1)) ++ some_.filter (fun x => decide (x.1 < first))
      handRecords { s with tele := { s.tele with experts := [] } }
        (ls.map (fun x => telRecord s.lampTime x.1 0x0005 (x.2.figures.map sat32)))
    else s)

/-! ### Usage (R341, R547 to R551) -/

/-- One pair's counts added to another's. -/
def UsagePair.add (a b : UsagePair) : UsagePair :=
  { a with
    tokens := a.tokens + b.tokens, steps := a.steps + b.steps, prompt := a.prompt + b.prompt
    prefixPos := a.prefixPos + b.prefixPos, done := a.done + b.done, cancelled := a.cancelled + b.cancelled
    breach := a.breach + b.breach, gaps := a.gaps ++ b.gaps }

/-- USAGE_COUNTS (R341): counts and histograms to the lamp domain's open interval. -/
def execUsageCounts (s : State) : Host.Outcome State Fault Refusal :=
  .next (if groupUp s 0 then
      let o := s.tele.pairs.foldl (fun l p => modPair l p.mooring p.tenant (fun q => q.add p)) s.tele.open_
      setF { s with tele := { s.tele with pairs := [], open_ := o } } Reg.USE_OPEN_PAIRS o.length 0
    else s)

/-- The 352 bucket counts of a usage record. -/
def histBytes (gaps : List Nat) : List Byte :=
  let bs := gaps.map bucketOf
  (List.range 352).flatMap (fun i => leBytes 4 (min (bs.count i) 0xFFFFFFFF))

/-- Bytes 0 to 1,535 of a usage record (R341). The contract is that of the pair's own mooring; one that the tenant no longer
holds at the interval's end gives zeros. -/
def usageBody (s : State) (start stop seq : Nat) (p : UsagePair) : List Byte :=
  let serial := (List.range 4).flatMap (fun k => leBytes 4 (getF s Reg.SYS_SERIAL 0 k))
  let con := match (kget? s.serve.moorings p.mooring).filter (fun m => m.tenant == p.tenant) with
    | some m => leBytes 4 m.streams ++ leBytes 4 m.rate ++ leBytes 4 m.itl
    | none => List.replicate 12 0
  leBytes 8 start ++ leBytes 8 stop ++ serial ++ leBytes 8 seq ++ leBytes 2 p.mooring ++ leBytes 2 p.tenant
    ++ leBytes 4 (if s.tele.openSynced then 1 else 0) ++ leBytes 8 p.tokens ++ leBytes 8 p.steps ++ leBytes 8 p.prompt
    ++ leBytes 8 p.prefixPos ++ leBytes 4 p.done ++ leBytes 4 p.cancelled ++ leBytes 4 p.breach ++ con
    ++ List.replicate 24 0 ++ histBytes p.gaps

/-- The signature of a usage record's bytes 0 to 1,535: r then s, 48 bytes each, by the usage key over their SHA-384 digest
(R341). -/
def usageSignature (b : List Byte) : List Byte :=
  let z := sha384 b
  let rs := ecdsaSign Config.usageKey (Config.signNonce z) z
  beBytes 48 rs.1 ++ beBytes 48 rs.2

/-- A signed usage record (R341). -/
def usageRecord (s : State) (start stop seq : Nat) (p : UsagePair) : UsageRec :=
  let b := usageBody s start stop seq p
  ⟨seq, b ++ usageSignature b⟩

/-- `USE.STAT.HELD`, `USE.SEQ_OLDEST` and `USE.SEQ_NEWEST` (R551). -/
def usageRegs (s : State) : State :=
  let s := setF s Reg.USE_STAT_HELD s.tele.store.length 0
  let s := setF s Reg.USE_SEQ_OLDEST ((s.tele.store.head?.map (·.seq)).getD 0) 0
  setF s Reg.USE_SEQ_NEWEST ((s.tele.store.getLast?.map (·.seq)).getD 0) 0

/-- The open interval closed at `stop` (R341, R548, R549): never while the store lacks room. -/
def closeInterval (s : State) (stop : Nat) : State :=
  let ps := s.tele.open_.mergeSort (fun a b => decide (a.mooring < b.mooring ∨ (a.mooring = b.mooring ∧ a.tenant ≤ b.tenant)))
  if 8192 < s.tele.store.length + ps.length then setF s Reg.USE_STAT_EXTENDED 1 0
  else
    let start := getF s Reg.USE_OPEN_START 0
    let rs := ps.mapIdx (fun i p => usageRecord s start stop (s.tele.seq + 1 + i) p)
    let s := { s with tele := { s.tele with
      store := s.tele.store ++ rs
      seq := s.tele.seq + rs.length
      open_ := []
      openSynced := onF s Reg.LAMP_TIME_CTL_SYNCED 0 && !onF s Reg.CLK_REF_STAT_LAMP_INTERNAL 0
      nextLen := getF s Reg.USE_INTERVAL_S 0 } }
    let s := setF (setF (setF s Reg.USE_STAT_EXTENDED 0 0) Reg.USE_OPEN_START stop 0) Reg.USE_OPEN_PAIRS 0 0
    let s := if rs = [] then s else addF s Reg.LAMP_NV_WRITES 1 0
    usageRegs s

/-- The last boundary of the open interval's length (R547). -/
def lastBoundary (s : State) : Nat := s.lampTime / (s.tele.nextLen * 1000000000) * (s.tele.nextLen * 1000000000)

/-- USAGE_INTERVAL_CLOSE (R547, R548): the interval ends at the last multiple of its length, once one lies past its
start. -/
def execUsageIntervalClose (s : State) : Host.Outcome State Fault Refusal :=
  .next (if getF s Reg.USE_OPEN_START 0 < lastBoundary s then closeInterval s (lastBoundary s) else s)

/-- A write of `USE.INTERVAL_S` (R547). -/
def execIntervalS (v : Nat) (s : State) : Host.Outcome State Fault Refusal :=
  .next (regWrite s 18 (fun s =>
    if 1 ≤ v ∧ v ≤ 3600 then setF s Reg.USE_INTERVAL_S v 0 else setF s Reg.USE_STAT_BAD_WRITE 1 0))

/-- `USE.RD_DATA` holds these bytes, or zero. -/
def setRdData (s : State) (bs : List Byte) : State :=
  (List.range 408).foldl (fun s k => setF s Reg.USE_RD_DATA (leAt bs (4 * k) 4) 0 k) s

/-- A write of `USE.RD_SEQ` (R550). -/
def execRdSeq (v : Nat) (s : State) : Host.Outcome State Fault Refusal :=
  .next (regWrite s 18 (fun s =>
    let s := setF s Reg.USE_RD_SEQ v 0
    match s.tele.store.find? (fun r => r.seq == v) with
    | some r => setRdData (setF (setF s Reg.USE_STAT_READY 1 0) Reg.USE_STAT_ABSENT 0 0) r.bytes
    | none => setRdData (setF (setF s Reg.USE_STAT_READY 0 0) Reg.USE_STAT_ABSENT 1 0) []))

/-- A write of `USE.ACK_SEQ` (R550). -/
def execAckSeq (v : Nat) (s : State) : Host.Outcome State Fault Refusal :=
  .next (regWrite s 18 (fun s =>
    usageRegs { s with tele := { s.tele with store := s.tele.store.filter (fun r => decide (v < r.seq)) } }))

end Sys2Proof.Machine
end

