-- ==== Sys2Proof/Machine/ResetOps.lean ====
section
/-! DEFINITION. Reset and shutdown as operations (R437, R438, R468 to R471, R477): what each keeps and
what it loses. -/

namespace Sys2Proof.Machine

/-! ### Which registers a reset keeps -/

/-- The parts of a register number (`Fld.key`): page code, offset, lowest bit, instance. -/
def keyPage (k : Nat) : Nat := k / 131072 / 32 / 4096
def keyOff (k : Nat) : Nat := k / 131072 / 32 % 4096
def keyLo (k : Nat) : Nat := k / 131072 % 32
def keyInst (k : Nat) : Nat := k % 131072

/-- The number belongs to a field. -/
def Fld.owns (f : Fld) (k : Nat) : Bool :=
  f.page == keyPage k && f.lo == keyLo k && decide (f.off ≤ keyOff k ∧ keyOff k < f.off + 4 * f.count)

/-- Fuses and the non-volatile store, which no reset clears (R470). -/
def nvFields : List Fld :=
  [Reg.SYS_SHIP_CORES, Reg.SYS_GRADE, Reg.SYS_SERIAL, Reg.LAMP_NV_WRITES, Reg.RST_POR_COUNT, Reg.RST_PIN_FUSE
  , Reg.PWR_SHUTDOWN_CAUSE, Reg.THM_THETA_FUSE, Reg.THM_CYCLES_20, Reg.THM_CYCLES_40, Reg.THM_CYCLES_60
  , Reg.THM_LIFE_USED, Reg.THM_TRIPS, Reg.CLT_STOPS, Reg.ERR_SEQ, Reg.USE_STAT_HELD, Reg.USE_SEQ_OLDEST
  , Reg.USE_SEQ_NEWEST, Reg.USE_KEY_X, Reg.USE_KEY_Y, Reg.MGT_ADDR, Reg.CPW_CLK_MAX]

/-- Fields of lamp-served pages that tell of blocks which a module reset resets. -/
def resetFields : List Fld :=
  [Reg.SYS_FORMES, Reg.SYS_MOD_FAULT, Reg.RST_STAGE_KINDLE_DONE
  , Reg.RST_STAGE_WAVE, Reg.RST_STAGE_STEP, Reg.RST_BLK_CTL_BUSY, Reg.RST_BLK_CTL_RESULT, Reg.CLK_PLL_STAT_LOCKED
  , Reg.CLK_PLL_STAT_COUNTED, Reg.CLK_PLL_STAT_GATED, Reg.CLK_PLL_STAT_FREQ, Reg.KPR_STATE, Reg.KPR_FW_VER
  , Reg.KPR_KAPI_MAJOR, Reg.KPR_KAPI_MINOR, Reg.ERR_PARTNER_STAT_HANDED, Reg.PAGE_LOCK_LOCKED]

/-- A field of a fuse or of the non-volatile store. -/
def nvKept (k : Nat) : Bool := nvFields.any (fun f => f.owns k)

/-- A register that a module reset keeps: lamp-served pages, their headers, and what no reset clears. -/
def lampKept (k : Nat) : Bool :=
  nvKept k
    || (!(resetFields.any (fun f => f.owns k))
      && (if keyPage k = 0 then (pageType (keyInst k)).any (fun t => lampServed t.1) else lampServed (keyPage k)))

/-! ### Resets -/

/-- Firmware components that become active (R520): component 1 is the lamp controller's. -/
def activate (m : Mgmt) (lamp : Bool) : Mgmt :=
  let go := m.staged.filter (fun c => lamp || c.1 != 1)
  { m with
    staged := m.staged.filter (fun c => !(lamp || c.1 != 1))
    active := m.active.filter (fun c => !(go.any (fun d => d.1 == c.1))) ++ go }

/-- Every block outside the lamp domain in reset (R468): what the lamp domain holds stays. -/
def resetNonLamp (s : State) : State :=
  { State.reset with
    pending := s.pending, lampTime := s.lampTime, slew := s.slew, slewCycles := s.slewCycles, syncs := s.syncs, free := s.free
    regs := s.regs.filter (fun r => lampKept r.1)
    io := { s.io with irqPages := s.io.irqPages.filter (fun p => (pageType p).any (fun t => lampServed t.1)) }
    mem := { State.reset.mem with host := s.mem.host }
    chases := s.chases.map (fun c => (c.1, { Chase.reset with trim := c.2.trim }))
    faults := { s.faults with items := [], evidence := [], recoveries := [], lastReimpose := none }
    errata := s.errata
    tele := { s.tele with held := [], groupHeld := [], gaps := [], tokens := [], steps := [], pairs := [] }
    links := s.links.map (fun l => (l.1, { Link.reset with coeffs := l.2.coeffs }))
    pairs := s.pairs, thermal := s.thermal
    power := { State.reset.power with reversedLatch := s.power.reversedLatch }
    pins := { s.pins with modReady := false, surpriseDown := false }
    release := { State.reset.release with
      poweredAt := s.release.poweredAt, released := [(1, 0), (2, 0)]
      stepAt := s.release.stepAt.filter (fun x => decide (x.1 ≤ 2)) }
    mgmt := s.mgmt, keys := s.keys }

/-- The RST_CAUSE record of a reset (R470, R485). -/
def causeRecord (s : State) (cause : Nat) (block : List Nat) : State :=
  logFault s (blockItem Err.RST_CAUSE (identOf 0x03 0) (cause :: block))

/-- A module reset with its source code (R468, R470, R477): the release order starts again from the clock
generator. -/
def moduleReset (s : State) (cause : Nat) : State :=
  let s := resetNonLamp s
  let s := { s with pins := { s.pins with modFaultN := true }, mgmt := activate s.mgmt false }
  let s := setF (setF s Reg.RST_STAGE_STEP 2 0) Reg.RST_CAUSE (2 ^ cause) 0
  causeRecord (addF s Reg.RST_MOD_RESETS 1 0) cause []

/-- A module reset that asserts at once (R471): a partner that is READY takes over from what was mirrored. -/
def resetNow (s : State) (cause : Nat) : State :=
  let s := if partnerReady s then moduleHandover s 8 false else surpriseDown s
  moduleReset s cause

/-- Pairs with failed-sensor marks that a power-up keeps: those of the chases, which their kindling clears
(R445, R470). -/
def keepPairs (s : State) : KMap Pair :=
  s.pairs.filter (fun p => decide (p.1 < 256) && (p.2.failedA || p.2.failedB))

/-- Whole-module reset, the lamp domain included (R468, R470): fuses, the non-volatile store, the fault log
and the usage records stay. -/
def powerReset (s : State) : State :=
  { State.reset with
    pending := s.pending, free := s.free
    regs := s.regs.filter (fun r => nvKept r.1)
    io := State.reset.io
    mem := { State.reset.mem with host := s.mem.host }
    chases := s.chases.map (fun c => (c.1, { Chase.reset with trim := c.2.trim }))
    faults := { State.reset.faults with log := s.faults.log, seen := s.faults.seen }
    errata := s.errata
    tele := { State.reset.tele with store := s.tele.store, seq := s.tele.seq }
    links := s.links.map (fun l => (l.1, { Link.reset with coeffs := l.2.coeffs }))
    pairs := keepPairs s
    thermal := { State.reset.thermal with
      halves20 := s.thermal.halves20, halves40 := s.thermal.halves40, halves60 := s.thermal.halves60
      lifeAlarm := s.thermal.lifeAlarm }
    power := { State.reset.power with reversedLatch := s.power.reversedLatch }
    pins := { State.reset.pins with perst := s.pins.perst, resetLow := s.pins.resetLow, lowSince := s.pins.lowSince.map (fun _ => 0) }
    mgmt := { State.reset.mgmt with active := (activate s.mgmt true).active }
    keys := s.keys }

/-! ### The rail shutdown sequence (R438) -/

/-- The rail shutdown sequence with its cause: 1 thermal trip, 2 input loss, 3 input over, 4 command. The
open usage interval closes (R548); every rail outside the lamp domain goes off. -/
def shutdownSeq (s : State) (cause : Nat) : State :=
  let s := closeInterval s s.lampTime
  let s := surpriseDown s
  let low := s.pins.modFaultN
  let handed := onF s Reg.ERR_PARTNER_STAT_HANDED 0
  let s := resetNonLamp s
  let s := flagF s Reg.ERR_PARTNER_STAT_HANDED handed 0
  let s := { s with pins := { s.pins with surpriseDown := true, modFaultN := low }, power := { s.power with shut := true } }
  let s := if low then s else setF s Reg.SYS_MOD_FAULT 1 0
  addF (setF s Reg.PWR_SHUTDOWN_CAUSE cause 0) Reg.LAMP_NV_WRITES 1 0

/-- A fatal record that starts the shutdown sequence, with its handover cause (R408, R438). -/
def fatalShutdown (s : State) (it : FaultItem) (handover cause : Nat) : State :=
  shutdownSeq (moduleHandover (logFault s it) handover false) cause

end Sys2Proof.Machine
end

