-- ==== Sys2Proof/Machine/Power.lean ====
section
/-! DEFINITION. The power commands (11): the input, bus converters, chase clocks, overcurrent and rail
faults, switching on, bank gating, the current latch, retention. -/

namespace Sys2Proof.Machine

/-! ### The input (R412, R413) -/

/-- PWR_INPUT_LOSS (R412): handover with cause 2 and the rail shutdown sequence. -/
def execPwrInputLoss (mv : Nat) (s : State) : Host.Outcome State Fault Refusal :=
  .next (setF (fatalShutdown s (blockItem Err.PWR_INPUT_LOSS (identOf 0x05 0) [mv]) 2 2) Reg.PWR_INPUT_STAT_LOSS 1 0)

/-- PWR_INPUT_OVER (R412): handover with cause 7 and the rail shutdown sequence. -/
def execPwrInputOver (mv : Nat) (s : State) : Host.Outcome State Fault Refusal :=
  .next (setF (fatalShutdown s (blockItem Err.PWR_INPUT_OVER (identOf 0x05 0) [mv]) 7 3) Reg.PWR_INPUT_STAT_OVER 1 0)

/-- A band of the input changes (R412). -/
def execInputBandChange (mv : Nat) (s : State) : Host.Outcome State Fault Refusal :=
  let s := flagF s Reg.PWR_INPUT_STAT_LOW (decide (38000 ≤ mv ∧ mv < 40000)) 0
  let s := flagF s Reg.PWR_INPUT_STAT_HIGH (decide (60000 < mv ∧ mv ≤ 63000)) 0
  .next (if 38000 ≤ mv ∧ mv ≤ 63000 then setF (setF s Reg.PWR_INPUT_STAT_LOSS 0 0) Reg.PWR_INPUT_STAT_OVER 0 0 else s)

/-- PWR_INPUT_REVERSED (R413): the latch is set; POWER_ON reports it. -/
def execPwrInputReversed (s : State) : Host.Outcome State Fault Refusal :=
  .next (addF { s with power := { s.power with reversedLatch := true } } Reg.LAMP_NV_WRITES 1 0)

/-! ### Rail faults (R423) -/

/-- A rail fault (R423): the rail is TRIPPED, and the chase's formes are placed elsewhere. The second in
24 hours retires the chase. -/
def railFault (s : State) (n cause current : Nat) : State :=
  let again := (getChase s n).railFaultAt.any (fun t => decide (s.lampTime < t + 86400000000000))
  let s := addF (railDown s n Rail.tripped) Reg.CPW_OC_CNT_OC_TRIP 1 n
  let s := logFault (setChaseBeacon s n Beacon.occulting) (railItem Err.PWR_RAIL_FAULT n [cause, current])
  let s := modChase s n (fun ch => { ch with railFaultAt := some s.lampTime })
  let s := if again then extinguish (addF (setWidth (freeExt s n) n 0) Reg.LAMP_NV_WRITES 1 0) n else s
  if formesOn s [n] = [] then s
  else startRecovery { s with faults := { s.faults with lastReimpose := some s.lampTime } } n [n] [] 3 [] [n]

/-- PWR_RAIL_FAULT (R423). -/
def execPwrRailFault (n : ChaseId) (cause current : Nat) (s : State) : Host.Outcome State Fault Refusal :=
  .next (if railOn s n.val then railFault s n.val cause current else s)

/-! ### Bus converters (R415) -/

/-- Working converters of a group. -/
def busWorking (s : State) (g : Nat) : Nat :=
  ((List.range 5).filter (fun i => getF s Reg.PWR_BUS_OK 0 / 2 ^ (5 * g + i) % 2 == 1)).length

/-- The chases that a bus converter group feeds (R414). -/
def groupChases (g : Nat) : List Nat := (List.range 32).map (fun i => 32 * g + i)

/-- PWR_BUS_DEGRADED (R415): a converter is lost. Below four the group's power is held through clock limits
that the spec does not number (log entry 2); with none, its rails open. -/
def execPwrBusDegraded (conv : Fin 40) (s : State) : Host.Outcome State Fault Refusal :=
  let g := conv.val / 5
  .next (if getF s Reg.PWR_BUS_OK 0 / 2 ^ conv.val % 2 = 0 then s
    else
      let s := setF s Reg.PWR_BUS_OK (getF s Reg.PWR_BUS_OK 0 - 2 ^ conv.val) 0
      let s := logFault s (blockItem Err.PWR_BUS_DEGRADED (identOf 0x05 0) [conv.val, g])
      let w := busWorking s g
      if 4 ≤ w then s
      else if w = 0 then
        let v := nextFree s
        ((groupChases g).filter (fun n => railOn s n || rail s n == Rail.ramping || rail s n == Rail.retention)).foldl (fun s n => railFault s n 4 (v.1 % 2 ^ 32)) v.2
      else
        let v := nextFree s
        let s := logFault v.2 (blockItem Err.PWR_BUS_LIMIT (identOf 0x05 0) [g, 1600 * w])
        (groupChases g).foldl (fun s n =>
          demand s n (fun ch => { ch with limBus := 600 + 25 * (Config.freeResult 0x0415 [v.1, n] % 33) })) s)

/-! ### Clock, sense, hints (R200, R417, R419, R420) -/

/-- CLOCK_CHANGE (R417): one step of 25 MHz within 600 MHz and the limit, the setpoint with it. T, D, C and P stand: R287 fixes
them at a placement and when a chase clock limit changes, and at no other time. -/
def execClockChange (n : ChaseId) (up : Bool) (s : State) : Host.Outcome State Fault Refusal :=
  let f := getF s Reg.CPW_CLK_NOW n.val
  .next (if !railOn s n.val then s
    else if up then (if f + 25 ≤ getF s Reg.CPW_CLK_LIMIT n.val then setClock s n.val (f + 25) else s)
    else if 625 ≤ f then setClock s n.val (f - 25) else s)

/-- The clock limit and setpoint after the good sense points have changed (R419). -/
def resense (s : State) (n : Nat) : State :=
  let s := demand s n (fun ch => { ch with limSense := senseLimit s n })
  if railOn s n then setF s Reg.CPW_VSET (setpointMv s n (getF s Reg.CPW_CLK_NOW n)) n else s

/-- PWR_SENSE_OPEN (R419): the point is excluded. -/
def execPwrSenseOpen (n : ChaseId) (point : Fin 4) (s : State) : Host.Outcome State Fault Refusal :=
  let ok := getF s Reg.CPW_STATE_SENSE_OK n.val
  .next (if ok / 2 ^ point.val % 2 = 0 then s
    else
      let s := resense (setF s Reg.CPW_STATE_SENSE_OK (ok - 2 ^ point.val) n.val) n.val
      logFault s (railItem Err.PWR_SENSE_OPEN n.val [getF s Reg.CPW_STATE_SENSE_OK n.val, point.val]))

/-- A part's pass stands 64 cycles before cycle `c` of its own (R200). -/
def Placed.ahead (p : Placed) (time c : Nat) : Bool :=
  decide (0 < p.schedLen) && decide (((time + 64 + (2 ^ 48 - p.start)) % 2 ^ 48) % p.schedLen = c % p.schedLen)

/-- A part of the chase has a hint in cycle `c` of its pass, and that cycle is 64 cycles ahead (R200). -/
def hintDue (s : State) (n c : Nat) : Bool :=
  (partsIn s n).any (fun p => p.1.ahead (getChase s n).time c && (p.1.hints p.2).any (fun h => h.1 == c))

/-- The level of the hints that fall 64 cycles ahead, summed and capped at 260 A (R200, R420). -/
def levelDue (s : State) (n : Nat) : Nat :=
  min 2600 ((((partsIn s n).flatMap (fun p => (p.1.hints p.2).filter (fun h => p.1.ahead (getChase s n).time h.1))).map (·.2)).sum)

/-- HINT (R200, R420): entry `i` of the chase's hint table reaches the regulator, 64 cycles ahead. -/
def execHint (n : ChaseId) (i : Nat) (s : State) : Host.Outcome State Fault Refusal :=
  .next (match (getChase s n.val).hints[i]? with
    | some h =>
      if schedules s n.val && hintDue s n.val h.1 then modChase (addF s Reg.CPW_HINTS 1 n.val) n.val (fun ch => { ch with hintLevel := levelDue s n.val })
      else s
    | none => s)

/-! ### Overcurrent (R422) -/

/-- PWR_OC_WARN (R422): the mean over 10 µs exceeds 260 A. -/
def execPwrOcWarn (n : ChaseId) (current : Nat) (s : State) : Host.Outcome State Fault Refusal :=
  .next (if railOn s n.val ∧ 2600 < current then
      let s := demand (addF s Reg.CPW_OC_CNT_OC_WARN 1 n.val) n.val
        (fun ch => { ch with limOc := max 600 (getF s Reg.CPW_CLK_LIMIT n.val - 100) })
      logFault s (railItem Err.PWR_OC_WARN n.val [current, getF s Reg.CPW_CLK_LIMIT n.val])
    else s)

/-- The chases that share an edge with chase `n`, with their bits: 0 N, 1 E, 2 S, 3 W. -/
def neighbours (n : Nat) : List (Nat × Nat) :=
  (if 16 ≤ n then [(0, n - 16)] else []) ++ (if n % 16 < 15 then [(1, n + 1)] else [])
    ++ (if n < 240 then [(2, n + 16)] else []) ++ (if 0 < n % 16 then [(3, n - 1)] else [])

/-- The neighbours above 221 A in the last millisecond (R429). -/
def hotNeighbours (s : State) (n : Nat) : List (Nat × Nat) :=
  (neighbours n).filter (fun x => decide (2210 < getF s Reg.CPW_I_CORE_PEAK x.2))

/-- OC_LIMIT_RETURN (R422, R430): lowered limits return by 25 MHz, those that a switch-on lowered once it is
done. -/
def execOcLimitReturn (n : ChaseId) (s : State) : Host.Outcome State Fault Refusal :=
  .next (if getF s Reg.CPW_I_CORE_PEAK n.val ≤ 2210 then
      let waits := (neighbours n.val).any (fun x => onF s Reg.CPW_STATE_DEFERRED x.2)
      demand s n.val (fun ch => { ch with
        limOc := min 1400 (ch.limOc + 25)
        limNbr := if waits then ch.limNbr else min 1400 (ch.limNbr + 25) })
    else s)

/-! ### Switching on (R429, R430) -/

/-- A switch-on that waits for a neighbour (R429). -/
def deferOn (s : State) (n : Nat) : State :=
  modChase (setF s Reg.CPW_STATE_DEFERRED 1 n) n (fun ch => { ch with waitSince := some (ch.waitSince.getD s.lampTime) })

/-- The time in ms that a switch-on has waited. -/
def waited (s : State) (n : Nat) : Nat := (s.lampTime - (getChase s n).waitSince.getD s.lampTime) / 1000000

/-- Another chase of the bus converter group ramps (R429). -/
def groupRamps (s : State) (n : Nat) : Bool := (groupChases (n / 32)).any (fun m => m != n && rail s m == Rail.ramping)

/-- A core rail begins to ramp, or the switch-on is deferred (R429); 64 µs later it stands at its setpoint. -/
def tryOn (s : State) (n : Nat) : State :=
  if rail s n = Rail.ramping then s
  else if hotNeighbours s n = [] ∧ !groupRamps s n then
    modChase (setF (setF (setRail s n Rail.ramping) Reg.CPW_STATE_DEFERRED 0 n) Reg.CPW_DEFER_MS (waited s n) n) n
      (fun ch => { ch with waitSince := none, rampAt := s.lampTime })
  else deferOn s n

/-- The limits of the neighbours above 221 A lowered by 25 MHz (R430). -/
def lowerNeighbours (s : State) (n : Nat) : State :=
  (hotNeighbours s n).foldl (fun s x =>
    demand s x.2 (fun ch => { ch with limNbr := max 600 (getF s Reg.CPW_CLK_LIMIT x.2 - 25) })) s

/-- SWITCH_ON (R429). -/
def execSwitchOn (n : ChaseId) (s : State) : Host.Outcome State Fault Refusal :=
  .next (if rail s n.val = Rail.off ∧ chaseBeacon s n.val = Beacon.lit ∧ 0 < widthOf s n.val then tryOn s n.val else s)

/-- SWITCH_ON_RECHECK (R429, R430): every millisecond of a wait; after 50 ms the neighbours fall on. -/
def execSwitchOnRecheck (n : ChaseId) (s : State) : Host.Outcome State Fault Refusal :=
  .next (if onF s Reg.CPW_STATE_DEFERRED n.val then
      let s := tryOn s n.val
      if onF s Reg.CPW_STATE_DEFERRED n.val ∧ 50 < waited s n.val then lowerNeighbours s n.val else s
    else s)

/-- PWR_SWITCH_DEFERRED (R430): 50 ms of waiting have passed. -/
def execPwrSwitchDeferred (n : ChaseId) (s : State) : Host.Outcome State Fault Refusal :=
  .next (if onF s Reg.CPW_STATE_DEFERRED n.val ∧ 50 ≤ waited s n.val then
      let mask := ((hotNeighbours s n.val).map (fun x => 2 ^ x.1)).sum
      lowerNeighbours (logFault s (railItem Err.PWR_SWITCH_DEFERRED n.val [waited s n.val, mask])) n.val
    else s)

/-! ### The self-test of a whole chase (R388, R423, R428, R484) -/

/-- The sensor marks of a chase's pair cleared, and the clock limit they held (R445). -/
def clearPair (s : State) (n : Nat) : State :=
  { s with pairs := s.pairs.map (fun p => if p.1 = n ∧ (p.2.failedA ∨ p.2.failedB) then
      (p.1, { p.2 with st := .agree, apart := 0, near := 0, far := 0, farRun := 0, failedA := false, failedB := false }) else p) }

/-- A whole self-test ends (R388, R484 steps 2 to 4): failures are retired; a chase of a width above 0 is
LIT, its rail OFF unless a placed forme claims it. -/
def finishSelfTest (s : State) (n : Nat) (results : List CoreResult) : State :=
  let bad := results.filter (fun x => (x.coreFails || x.routerFails) && chaseOfRouter x.place == n)
  let s := updateLimit (clearPair (bad.foldl failSelfTest s) n) n
  let s := resense (setF s Reg.CPW_STATE_SENSE_OK 15 n) n
  (if widthOf s n = 0 then extinguish s n else idleRail (setChaseBeacon s n Beacon.lit) n)

/-- RAIL_RETRY (R423): its errata are written while no packet is inside the chase, in which no part runs (R21). 1 s after the fault the chase is switched on, and tested when it is on, once its parts have left
it. -/
def execRailRetry (n : ChaseId) (results : List CoreResult) (s : State) : Host.Outcome State Fault Refusal :=
  .next (if chaseBeacon s n.val = Beacon.occulting ∧ !onF s Reg.CPW_STATE_PARKED n.val ∧ !chaseClaimed s n.val
      ∧ (rail s n.val = Rail.tripped ∨ railOn s n.val)
      ∧ (getChase s n.val).railFaultAt.all (fun t => decide (t + 1000000000 ≤ s.lampTime)) then
      let s := if railOn s n.val then s else tryOn s n.val
      if railOn s n.val && fabricClear s [] [n.val] then finishSelfTest s n.val results else s
    else s)

/-- UNPARK (R428): its errata are written while no packet is inside the chase, in which no part runs (R21). The chase is switched on and, when it is on, tested; it becomes free capacity. -/
def execUnpark (n : ChaseId) (results : List CoreResult) (s : State) : Host.Outcome State Fault Refusal :=
  .next (if onF s Reg.CPW_STATE_PARKED n.val then
      let s := if railOn s n.val then s else tryOn s n.val
      if railOn s n.val && fabricClear s [] [n.val] then
        logFault (finishSelfTest (setF s Reg.CPW_STATE_PARKED 0 n.val) n.val results) (railItem Err.PWR_PARK n.val [2])
      else s
    else s)

/-! ### The end of kindling (R356, R477, R483) -/

/-- Kindling has ended once the last wave is done (R483): MOD_READY goes high, and loads refused for want of
room are tried a last time. -/
def finishKindling (s : State) : State :=
  if s.release.kindling = [] ∧ s.release.waves = 16 ∧ !onF s Reg.RST_STAGE_KINDLE_DONE 0 then
    let s := setF (setF s Reg.RST_STAGE_KINDLE_DONE 1 0) Reg.RST_KINDLE_TIME ((s.lampTime - s.release.poweredAt) / 1000) 0
    retryCapacity { s with pins := { s.pins with modReady := true } }
  else s

/-! ### Transit (R32, R399, R414) -/

/-- Formes whose streams have packets inside a chase. -/
def formesInside (s : State) (n : Nat) : List Nat :=
  let reqs := (s.fabric.filter (fun x => chaseOfRouter x.router == n)).map (fun x => stampReq x.flit.stamp)
  ((s.serve.streams.filter (fun e => e.2.req.any (fun r => reqs.contains r))).map (fun e => e.2.forme)).dedup

/-- The transit of a chase fails (R32, R399): its beacon reads FAULT, packets inside it are lost and recovered by
replay, its parts are placed elsewhere. -/
def transitLost (s : State) (n cause : Nat) : State :=
  let kindling := s.release.kindling.contains n
  let lost := formesInside s n
  let s := modChase (addF s Reg.FAB_TRANSIT_LOST 1 0) n (fun ch => { ch with
    transitOk := ch.transitOk && cause != 1, pllOk := ch.pllOk && cause == 1 })
  let s := { s with
    fabric := s.fabric.filter (fun x => chaseOfRouter x.router != n)
    packets := s.packets.filter (fun x => chaseOfRouter x.router != n)
    release := { s.release with
      kindling := s.release.kindling.filter (· != n)
      waveEnd := if kindling then s.lampTime else s.release.waveEnd } }
  let s := setF s Reg.FAB_DETOUR (getF s Reg.FAB_DETOUR 0 (n / 32) ||| 2 ^ (n % 32)) 0 (n / 32)
  let s := logFault (if chaseBeacon s n = Beacon.extinguished then s else setChaseBeacon s n Beacon.fault)
    (chaseItem Err.FAB_TRANSIT_LOST n [cause])
  let s := if kindling then logFault s (chaseItem Err.RST_KINDLE_FAULT n [n, cause]) else s
  let s := finishKindling (s)
  if formesOn s [n] ≠ [] then
    startRecovery { s with faults := { s.faults with lastReimpose := some s.lampTime } } n (n :: chasesOf s lost) [] 4 [] [n]
  else if lost ≠ [] then startRecovery s n (chasesOf s lost) [] 1 [] []
  else s

/-- FAB_TRANSIT_LOST (R399, R414). -/
def execFabTransitLost (n : ChaseId) (cause : Nat) (s : State) : Host.Outcome State Fault Refusal :=
  .next (if (getChase s n.val).transitOk && (getChase s n.val).pllOk then transitLost s n.val cause else s)

/-! ### Bank gating (R431 to R433) -/

/-- A local address lies in far bank `b`. -/
def inBank (b a : Nat) : Bool := decide (0x8000 + 0x2000 * b ≤ a ∧ a < 0x8000 + 0x2000 * (b + 1))

/-- An allocated region of a forme placed in the chase includes a byte of the bank (R431). -/
def bankUsed (s : State) (n b : Nat) : Bool :=
  s.formes.any (fun f => (f.2.parts.filter (fun p => p.live && p.chase == n)).any (fun p =>
    (List.range 11).any (fun k => (regionsOf f.2.image p (k + 1)).any (fun r =>
      decide (r.2.addr < 0x8000 + 0x2000 * (b + 1) ∧ 0x8000 + 0x2000 * b < r.2.addr + r.2.len)))))

/-- Waiting remote writes of a chase that `p` picks refused (R432). -/
def refuseWrites (s : State) (n : Nat) (p : WBuf → Bool) : State :=
  (chaseCores s n).foldl (fun s k =>
    let c := coreOfKey k
    let gone := (getCore s c).wbuf.filter p
    let s := modCore s c (fun x => { x with wbuf := x.wbuf.filter (fun w => !p w) })
    gone.foldl (fun s w => refuseRemote s c w.src (BitVec.ofNat 64 w.stamp) w.addr false) s) s

/-- `CPW.BANK_GATED` brought up to date. -/
def showGated (s : State) (n : Nat) : State :=
  setF s Reg.CPW_BANK_GATED (((getChase s n).banks.map (fun x => if x.2 = .gated then 2 ^ x.1 else 0)).sum) n

/-- BANK_GATE (R431, R432): a whole second after the last region left the bank, it is CLOSING; waiting writes to it that are not COUNTED are refused. -/
def execBankGate (n : ChaseId) (b : Fin 36) (s : State) : Host.Outcome State Fault Refusal :=
  .next (if bankUsed s n.val b.val || (kget? (getChase s n.val).banks b.val).isSome || !railOn s n.val
        || decide (s.lampTime < (getChase s n.val).vacatedAt + 1000000000) then s
    else
      let s := modChase s n.val (fun ch => { ch with banks := kset ch.banks b.val (.closing ch.clk) })
      refuseWrites s n.val (fun w => inBank b.val w.addr && !w.counted))

/-- BANK_GATED (R432): 64 cycles on, the rest is refused and the bank's contents are lost. -/
def execBankGated (n : ChaseId) (b : Fin 36) (s : State) : Host.Outcome State Fault Refusal :=
  .next (match kget? (getChase s n.val).banks b.val with
    | some (.closing g) =>
      if (getChase s n.val).clk < g + 64 then s
      else
      let s := refuseWrites s n.val (fun w => inBank b.val w.addr)
      let s := modChase (loseStore s n.val (inBank b.val)) n.val (fun ch => { ch with banks := kset ch.banks b.val .gated })
      showGated s n.val
    | _ => s)

/-- BANK_OPEN (R431, R433): the switches close over 256 cycles. -/
def execBankOpen (n : ChaseId) (b : Fin 36) (s : State) : Host.Outcome State Fault Refusal :=
  .next (match kget? (getChase s n.val).banks b.val with
    | some .gated => modChase s n.val (fun ch => { ch with banks := kset ch.banks b.val (.opening ch.clk) })
    | some (.closing _) | some (.opening _) | none => s)

/-! ### The current latch (R439) -/

/-- A field set to a reading, at most its largest value. -/
def latchF (s : State) (f : Fld) (v inst : Nat) : State := setF s f (min v (2 ^ f.width - 1)) inst

/-- CURRENT_LATCH (R439): the readings of one millisecond. No reading of the regulated value comes with it:
`CPW.VMEAS` is a free value (log entry 2). -/
def execCurrentLatch (r : CurrentReading) (s : State) : Host.Outcome State Fault Refusal :=
  let s := setF s Reg.PWR_MS_SEQ ((getF s Reg.PWR_MS_SEQ 0 + 1) % 2 ^ 32) 0
  let s := latchF (latchF (latchF s Reg.PWR_INPUT_V r.inputMv 0) Reg.PWR_INPUT_I r.inputI 0) Reg.PWR_MODULE_P r.moduleW 0
  let s := latchF (latchF (latchF s Reg.PWR_I_STACKS r.stackI 0) Reg.PWR_I_PORTS r.portI 0) Reg.PWR_I_LAMP r.lampI 0
  let v := nextFree s
  .next ((List.range 256).foldl (fun s n =>
    let s := latchF s Reg.CPW_I_CORE_AVG (r.coreAvg.getD n 0) n
    let s := latchF s Reg.CPW_I_CORE_PEAK (r.corePeak.getD n 0) n
    let s := latchF s Reg.CPW_I_TRANSIT_AVG (r.transitAvg.getD n 0) n
    setF s Reg.CPW_VMEAS (Config.freeResult 0x0443 [v.1, n] % 1024) n) v.2)

/-! ### Retention (R434 to R437) -/

/-- The waiting remote writes of a chase stored and acknowledged (R435 step 2). -/
def drainWrites (s : State) (n : Nat) : State :=
  (chaseCores s n).foldl (fun s k =>
    let c := coreOfKey k
    let ws := (getCore s c).wbuf
    let s := modCore s c (fun x => { x with wbuf := [] })
    ws.foldl (fun s w => sendTo (narrowWrite s c w.addr w.data w.poison) c w.src Kind.writeAck 4 w.stamp (freeBytes 0x107 [] 68) false) s) s

/-- The state of the stacks that are in state `a` becomes `b` (R434). -/
def moveStacks (s : State) (a b : Nat) : State :=
  (List.range 32).foldl (fun s n => if getF s Reg.STK_STAT_STATE n = a then setF s Reg.STK_STAT_STATE b n else s) s

/-- Nothing runs that would keep the module from retention (R435). -/
def retentionOk (s : State) : Bool :=
  s.serve.streams.all (fun e => !e.2.live) && !onF s Reg.LOAD_STAT_BUSY 0 && s.faults.recoveries.isEmpty
    && getF s Reg.PWR_RETAIN_STAT_STATE 0 == 0

/-- The write of 1 to `PWR.RETAIN_CTL.REQ` (R435). Entry is one step. -/
def requestRetention (s : State) : State :=
  let s := setF s Reg.PWR_RETAIN_CTL_REQ 1 0
  if !retentionOk s then (if getF s Reg.PWR_RETAIN_STAT_STATE 0 = 0 then setF s Reg.PWR_RETAIN_STAT_REFUSED 1 0 else s)
  else
    let ns := (List.range 256).filter (fun n => railOn s n || rail s n == Rail.ramping)
    let s := ns.foldl drainWrites s
    let s := stopStreaming (ns.foldl railRetain s) (fun _ => true)
    setF (moveStacks s 2 5) Reg.PWR_RETAIN_STAT_STATE 2 0

/-- RETENTION_REQUEST (R435). -/
def execRetentionRequest (s : State) : Host.Outcome State Fault Refusal := .next (regWrite s 4 requestRetention)

/-- Exit begins (R436); from FORCED only while the coolant is within specification (R456). -/
def beginExit (s : State) : State :=
  let st := getF s Reg.PWR_RETAIN_STAT_STATE 0
  if st = 2 ∨ (st = 4 ∧ onF s Reg.CLT_STAT_IN_SPEC 0) then
    setF (moveStacks { s with power := { s.power with wave := 0 } } 5 2) Reg.PWR_RETAIN_STAT_STATE 3 0
  else s

/-- RETENTION_EXIT (R436): the write of 0 to REQ, or, in RETAINED, a request ready for admission. -/
def execRetentionExit (byHost : Bool) (s : State) : Host.Outcome State Fault Refusal :=
  .next (if byHost then regWrite s 4 (fun s => beginExit (setF s Reg.PWR_RETAIN_CTL_REQ 0 0))
    else if getF s Reg.PWR_RETAIN_STAT_STATE 0 = 2 ∧ s.serve.streams.any (fun e => e.2.state == 0 && !e.2.ended) then beginExit s
    else s)

/-- The wave of a chase in a kindling or a retention exit (R436, R483). -/
def chaseWave (n : Nat) : Nat := (n % 16 + 16 - n / 16) % 16

/-- Every far-store word with an error read and checked (R436 step 2). -/
def checkFar (s : State) (n : Nat) : State :=
  (s.mem.errs.filter (fun e => keyChase (64 * e.1 / coreBytes) == n)).foldl (fun s e =>
    scrubWord s (coreOfKey (64 * e.1 / coreBytes)) (64 * e.1 % coreBytes)) s

/-- The far store of every chase that is ON checked (R436 step 2). -/
def checkFars (s : State) : State := ((List.range 256).filter (railOn s)).foldl checkFar s

/-- A chase that retention kept starts again at chase time 0 (R436 step 4); one that holds no part goes off. -/
def wakeChase (s : State) (n : Nat) : State :=
  if railOn s n then modChase (restartChase s n) n (fun ch => { ch with hints := hintTable s n })
  else if rail s n = Rail.retention then railDown s n Rail.off
  else s

/-- Near-store regions reloaded (R371, R436 step 3). -/
def reloadFormes (s : State) : State :=
  s.formes.foldl (fun s f =>
    let s := (f.2.parts.filter (·.live)).foldl (fun s p => fillPart s (imageOf f.2 p.layer) p) s
    (List.range (imgLayers f.2.image)).foldl (fun s l => refillLayer s f.1 l) s) s

/-- RETENTION_WAVE (R436): the chases of a wave that hold parts are at their setpoint. After the last the
formes restart. -/
def execRetentionWave (s : State) : Host.Outcome State Fault Refusal :=
  .next (if getF s Reg.PWR_RETAIN_STAT_STATE 0 ≠ 3 then s
    else
      let w := s.power.wave
      let ns := (List.range 256).filter (fun n => chaseWave n == w && rail s n == Rail.retention && chaseClaimed s n)
      let s := ns.foldl railUp s
      if w < 15 then { s with power := { s.power with wave := w + 1 } }
      else
        let s := reloadFormes (checkFars s)
        setF ((List.range 256).foldl wakeChase s) Reg.PWR_RETAIN_STAT_STATE 0 0)

end Sys2Proof.Machine
end

