-- ==== Sys2Proof/Machine/ThermOps.lean ====
section
/-! DEFINITION. Sensor values as the registers show them and the rules read them (R444 to R446, R460,
R461). Temperatures are in 1/16 °C. -/

namespace Sys2Proof.Machine

/-- A pair that nothing has sampled yet (log entry 7). -/
def Pair.reset : Pair := ⟨0, 0, 0, .agree, 0, 0, 0, 0, false, false, 0, false⟩

def getPair (s : State) (i : Nat) : Pair := kgetD s.pairs i Pair.reset
def setPair (s : State) (i : Nat) (p : Pair) : State := { s with pairs := kset s.pairs i p }

/-- The value in use of a pair (R445). -/
def usedOf (s : State) (i : Nat) : Int := (getPair s i).used

/-- The codes of the pair states (R460). -/
def PairState.code : PairState → Nat
  | .agree => 0
  | .flagged => 1
  | .oneFailed => 2
  | .suspect => 3
  | .bothFailed => 4

/-- The inlet and outlet couplings (R444). -/
def inletPair : Nat := 304
def outletPair : Nat := 305

/-- A signed 16-bit field. -/
def int16 (x : Int) : Nat := (x % 65536).toNat

/-- The highest value in use of the pairs that `p` picks, with its pair; the lowest index on ties. -/
def hottestOf (s : State) (p : Nat → Bool) : Option (Nat × Int) :=
  (s.pairs.filter (fun x => p x.1)).foldl (fun b x =>
    match b with
    | some y => if y.2 < x.2.used then some (x.1, x.2.used) else b
    | none => some (x.1, x.2.used)) none

/-- `THM.HOTTEST` and its pair: chase, stack and port-die pairs (R460). -/
def hottest (s : State) : Nat × Int := (hottestOf s (fun i => decide (i < 304))).getD (0, 0)

/-- Pairs in some states (R460). -/
def pairsIn (s : State) (l : List PairState) : Nat := s.pairs.countP (fun p => l.contains p.2.st)

end Sys2Proof.Machine
end

