-- ==== Sys2Proof/Machine/Thermal.lean ====
section
/-! DEFINITION. The thermal manager (12): sensor pairs, the tray, the estimator and the cap, the chases'
thermal action, sudden stop and trip, thermal cycles. Temperatures are in 1/16 °C. -/

namespace Sys2Proof.Machine

def thmIdent : Nat := identOf 0x06 0
def cltIdent : Nat := identOf 0x07 0

/-! ### Model estimates (R446) -/

/-- The pair's value may serve an estimate. -/
def Pair.sound (p : Pair) : Bool := p.st == .agree || p.st == .flagged || p.st == .oneFailed

/-- The rim of a stack or port-die pair (R34, R444). -/
def rimOfPair (i : Nat) : Nat := if i < 288 then (i - 256) / 8 else (i - 288) / 4

/-- The core-rail power of a chase in W over the last millisecond (R439). -/
def chaseW (s : State) (n : Nat) : Rat := (getF s Reg.CPW_VSET n * getF s Reg.CPW_I_CORE_AVG n : Nat) / 10000

/-- The model estimate of a pair (R446). With no sound pair on a rim the spec states none: a free value
(log entry 2). -/
def modelEstimate (s : State) (i : Nat) : Int :=
  let best := fun (p : Nat → Bool) => (hottestOf s (fun j => p j && (getPair s j).sound)).map (·.2)
  if i < 256 then
    let own := usedOf s inletPair + (16 * 256 * s.thermal.theta * chaseW s i / 1000).floor
    let nb := best (fun j => (neighbours i).any (fun x => x.2 == j))
    (match nb with
      | some t => max own t
      | none => own) + 48
  else if i < 304 then
    match best (fun j => decide (256 ≤ j ∧ j < 304) && rimOfPair j == rimOfPair i) with
    | some t => t + 80
    | none => ((Config.freeResult 0x0446 [i, s.lampTime] % 65536 : Nat) : Int) - 32768
  else
    let line := s.thermal.tray.bind (fun t => if i = inletPair then t.supply else t.return_)
    match line with
    | some t => t
    | none => if i = inletPair then 640 else 640 + ((16 * getF s Reg.PWR_MODULE_P 0 : Nat) : Int) / 3900

/-! ### Pair states (R445) -/

/-- A run of samples that goes on or ends. -/
def runOf (go : Bool) (n : Nat) : Nat := if go then n + 1 else 0

/-- A pair with a sample taken: readings and runs. -/
def Pair.sampled (p : Pair) (a b : Int) : Pair :=
  let d := (a - b).natAbs
  { p with a := a, b := b, apart := runOf (decide (64 < d)) p.apart, near := runOf (decide (d ≤ 64)) p.near
           far := runOf (decide (320 < d)) p.far }

/-- The state after a sample (R445), but for what needs the estimate. 20 samples are 1 ms. -/
def Pair.next (p : Pair) : PairState :=
  match p.st with
  | .bothFailed => .bothFailed
  | .suspect => if p.far = 0 then .flagged else if 200000 ≤ p.farRun + 1 then .bothFailed else .suspect
  | .oneFailed => if 20 ≤ p.far then .suspect else .oneFailed
  | .agree => if 20 ≤ p.far then .suspect else if 200 ≤ p.apart then .flagged else .agree
  | .flagged =>
    if 20 ≤ p.far then .suspect else if 200000 ≤ p.apart then .oneFailed else if 200000 ≤ p.near then .agree
    else .flagged

/-- A pair in its next state: marks set, the counts of R445 started again. -/
def Pair.moved (p : Pair) : Pair :=
  let st := p.next
  let p := { p with farRun := if st = PairState.suspect ∧ p.st = PairState.suspect then p.farRun + 1 else if st = p.st then p.farRun else 0 }
  let p := if p.st = .suspect ∧ st = .flagged then { p with apart := 0 } else p
  let p := if st = .oneFailed ∧ p.st = .flagged ∧ !p.failedA ∧ !p.failedB then
      { p with failedA := decide (p.a < p.b), failedB := decide (p.b ≤ p.a) } else p
  let p := if st = .bothFailed then { p with failedA := true, failedB := true } else p
  { p with st := st, used := match st with
    | .agree => max p.a p.b
    | .flagged => max p.a p.b
    | .oneFailed => if p.failedA then p.b else p.a
    | .suspect => p.used
    | .bothFailed => p.used }

/-- The records of a change of state (R459): THM_PAIR_FLAGGED with the new state at every change, as its X2 names it (DESIGN
CHOICE, log entry 111), and THM_SENSOR_FAILED where a sensor is marked failed. -/
def pairRecord (s : State) (i : Nat) (old new : Pair) : State :=
  if old.st = new.st then s
  else
    let s := logFault s (blockItem Err.THM_PAIR_FLAGGED thmIdent [i, (new.a - new.b).natAbs, new.st.code])
    match new.st with
    | .agree | .flagged | .suspect => s
    | .oneFailed =>
      addF (logFault s (blockItem Err.THM_SENSOR_FAILED thmIdent [i, if new.failedA then 0 else 1])) Reg.LAMP_NV_WRITES 1 0
    | .bothFailed => addF (logFault s (blockItem Err.THM_SENSOR_FAILED thmIdent [i, 2])) Reg.LAMP_NV_WRITES 1 0

/-- One pair's sample (R445). -/
def samplePair (s : State) (r : PairReading) : State :=
  let old := getPair s r.pair
  let p := (old.sampled r.a r.b).moved
  pairRecord (setPair s r.pair p) r.pair old p

/-- The value in use of a pair that rests on the estimate, and a survivor held against it (R445). -/
def estimatePair (s : State) (i : Nat) : State :=
  let p := getPair s i
  match p.st with
  | .agree => s
  | .flagged => s
  | .suspect => setPair s i { p with used := modelEstimate s i }
  | .bothFailed => setPair s i { p with used := modelEstimate s i }
  | .oneFailed =>
    let e := modelEstimate s i
    let q := { p with farRun := runOf (decide (320 < (p.used - e).natAbs)) p.farRun }
    if 200000 ≤ q.farRun then
      let q := { q with st := .bothFailed, failedA := true, failedB := true, used := e, farRun := 0 }
      pairRecord (setPair s i q) i p q
    else setPair s i q

/-! ### Trip and stop (R454 to R456) -/

/-- The thermal trip (R454): THM_TRIP and the rail shutdown sequence. -/
def thermalTrip (s : State) (i : Nat) (v : Int) : State :=
  let s := addF (addF s Reg.THM_TRIPS 1 0) Reg.LAMP_NV_WRITES 1 0
  fatalShutdown { s with pins := { s.pins with thermtripN := false } } (blockItem Err.THM_TRIP thmIdent [i, int16 v]) 6 1

/-- A pair's run of samples at 105 °C, and the trip at its second (R454). -/
def tripPair (s : State) (i : Nat) : State :=
  let p := getPair s i
  let n := runOf (decide (1680 ≤ p.used)) p.hot
  let s := setPair s i { p with hot := min n 2 }
  if 2 ≤ n ∧ !s.power.shut then thermalTrip s i p.used else s

/-- A sudden stop (R455): retention is forced and a live handover begins. -/
def suddenStop (s : State) (cause value : Nat) : State :=
  if onF s Reg.CLT_STAT_STOPPED 0 ∨ s.power.shut then s
  else
    let s := { s with thermal := { s.thermal with stoppedAt := s.lampTime } }
    let s := addF (addF (setF s Reg.CLT_STAT_STOPPED 1 0) Reg.CLT_STOPS 1 0) Reg.LAMP_NV_WRITES 1 0
    fatalModule s (blockItem Err.CLT_STOP cltIdent [cause, value]) 1

/-- The outlet's value in use over 250 ms, 5,000 samples (R455, R461): its slope in 0.01 °C/s and the stop. -/
def outletStep (s : State) : State :=
  let v := usedOf s outletPair
  let l := (v :: s.thermal.outlets).take 5001
  let slope := 25 * (v - l.getLastD v)
  let s := setF { s with thermal := { s.thermal with outlets := l } } Reg.CLT_OUT_SLOPE (int16 slope) 0
  if 8 < v - l.foldl min v then suddenStop s 2 (int16 slope) else s

/-- SENSOR_SAMPLE (R444 to R446, R454, R455): the pairs read in one sample of 50 µs. -/
def execSensorSample (rs : List PairReading) (s : State) : Host.Outcome State Fault Refusal :=
  let rs := rs.filter (fun r => decide (r.pair < 306))
  let ids := rs.map (·.pair)
  let old := s
  let s := rs.foldl samplePair s
  let s := (ids.filter (304 ≤ ·)).foldl estimatePair s
  let s := (ids.filter (· < 304)).foldl estimatePair s
  let s := (ids.filter (fun i => decide (i < 256 ∧ pairLimit s i ≠ pairLimit old i))).foldl updateLimit s
  let s := ids.foldl tripPair s
  .next (if ids.contains outletPair then outletStep s else s)

/-! ### The tray (R447 to R449, R522) -/

/-- Tray readings lost (R449): the flow is unknown. -/
def trayLost (s : State) : State :=
  let s := setF { s with thermal := { s.thermal with tray := none, lowFlow := 0, cross := 0, specRuns := 0 } } Reg.CLT_FLOW 0xFFFF 0
  let s := setF (setF s Reg.CLT_STAT_IN_SPEC 0 0) Reg.CLT_STAT_SLOW_FLOW 0 0
  if onF s Reg.CLT_STAT_TRAY_LOST 0 then s
  else logFault (setF s Reg.CLT_STAT_TRAY_LOST 1 0) (blockItem Err.CLT_TRAY_LOST cltIdent [])

/-- Steps of lost flow: one below 54 L/min, one more at each further 10 % of nominal (R459). -/
def flowSteps (flow : Nat) : Nat := if flow < 5400 then 1 + (5400 - flow) / 600 else 0

/-- The flow's flags, records and stop rule (R455, R459). -/
def flowStep (s : State) (flow : Nat) : State :=
  let n := flowSteps flow
  let s := flagF (setF s Reg.CLT_FLOW (min flow 0xFFFE) 0) Reg.CLT_STAT_SLOW_FLOW (decide (flow < 5400)) 0
  let s := if s.thermal.flowStep < n then logFault s (blockItem Err.CLT_SLOW_FLOW cltIdent [flow]) else s
  let low := runOf (decide (flow < 1200)) s.thermal.lowFlow
  let s := { s with thermal := { s.thermal with flowStep := n, lowFlow := min low 2 } }
  if 2 ≤ low then suddenStop s 1 flow else s

/-- The estimator started again (R450). -/
def restartEstimator (s : State) : State :=
  let s := { s with thermal := { s.thermal with samples := [], theta := (getF s Reg.THM_THETA_FUSE 0 : Rat) / 1000 } }
  setF (setF s Reg.THM_SAMPLES 0 0) Reg.THM_THETA (getF s Reg.THM_THETA_FUSE 0) 0

/-- The coolant's specification (R447): flow and inlet held for 10 s, 1,000 tray readings; then a stop is
over (R456). -/
def specStep (s : State) (flow : Nat) : State :=
  let t := usedOf s inletPair
  let inletOk := decide (320 ≤ t ∧ t ≤ 640)
  let ok := inletOk && decide (5400 ≤ flow ∧ flow ≤ 7200) && !onF s Reg.CLT_STAT_HOSE_REVERSED 0
  let n := runOf ok s.thermal.specRuns
  let s := flagF { s with thermal := { s.thermal with specRuns := min n 1000 } } Reg.CLT_STAT_INLET_OUT (!inletOk) 0
  let s := flagF s Reg.CLT_STAT_IN_SPEC (decide (1000 ≤ n)) 0
  if 1000 ≤ n ∧ onF s Reg.CLT_STAT_STOPPED 0 then restartEstimator (setF s Reg.CLT_STAT_STOPPED 0 0) else s

/-- The module power cap set (R451). -/
def setCap (s : State) (w : Nat) : State := setF (setF s Reg.PWR_CAP w 0) Reg.THM_CAP w 0

/-- The cross-check's finding (R448): 0 normal, 1 tray wiring reversed, 2 hoses reversed, 3 both; none
below its load or differences. -/
def crossFinding (s : State) (t : TrayReading) : Option Nat :=
  let m := usedOf s outletPair - usedOf s inletPair
  match t.supply, t.return_ with
  | some sup, some ret =>
    if 8000 ≤ getF s Reg.PWR_MODULE_P 0 ∧ 16 ≤ m.natAbs ∧ 16 ≤ (ret - sup).natAbs then
      some ((if m < 0 then 2 else 0) + (if ret < sup then 1 else 0))
    else none
  | _, _ => none

/-- A finding acted on (R448, R449). -/
def actCross (s : State) (k : Nat) : State :=
  let s := if k % 2 = 1 then
      logFault (flagF { s with thermal := { s.thermal with swapped := !s.thermal.swapped } } Reg.CLT_STAT_TRAY_SWAPPED
        (!s.thermal.swapped) 0) (blockItem Err.CLT_TRAY_SWAPPED cltIdent [])
    else s
  if 2 ≤ k ∧ !onF s Reg.CLT_STAT_HOSE_REVERSED 0 then
    let s := setF (setF s Reg.CLT_STAT_HOSE_REVERSED 1 0) Reg.CLT_STAT_IN_SPEC 0 0
    let s := setCap s (min 14000 (getF s Reg.PWR_CAP 0))
    logFault s (blockItem Err.CLT_HOSE_REVERSED cltIdent [int16 (usedOf s inletPair), int16 (usedOf s outletPair)])
  else s

/-- One tray reading of 10 ms, all three devices answering (R447 to R449, R455). -/
def trayStep (s : State) (sup ret : Int) (flow : Nat) : State :=
  let t : TrayReading := if s.thermal.swapped then ⟨some ret, some sup, some flow⟩ else ⟨some sup, some ret, some flow⟩
  let s := setF { s with thermal := { s.thermal with tray := some t } } Reg.CLT_STAT_TRAY_LOST 0 0
  let s := setF (setF s Reg.CLT_TRAY_SUPPLY_T (int16 (t.supply.getD 0)) 0) Reg.CLT_TRAY_RETURN_T (int16 (t.return_.getD 0)) 0
  let s := match crossFinding s t with
    | some k =>
      let n := if k = s.thermal.crossKind then s.thermal.cross + 1 else 1
      let s := { s with thermal := { s.thermal with cross := if 1000 ≤ n then 0 else n, crossKind := k } }
      if 1000 ≤ n then actCross s k else s
    | none => { s with thermal := { s.thermal with cross := 0 } }
  specStep (flowStep s flow) flow

/-- The tray read (R448, R522): a device that does not answer makes the readings lost. -/
def readTray (s : State) (t : TrayReading) : State :=
  match t.supply, t.return_, t.flow with
  | some sup, some ret, some flow => trayStep s sup ret flow
  | _, _, _ => trayLost s

/-- TRAY_READ (R448). -/
def execTrayRead (t : TrayReading) (s : State) : Host.Outcome State Fault Refusal :=
  .next (if onF s Reg.MGT_BUS_STAT_TRAY_ISOLATED 0 then s else readTray s t)

/-- MGT_TRAY_SHORT (R522): the bus is isolated. `lines`: 1 TRAY_SCL, 2 TRAY_SDA, 3 both. -/
def execMgtTrayShort (lines : Nat) (s : State) : Host.Outcome State Fault Refusal :=
  .next (if onF s Reg.MGT_BUS_STAT_TRAY_ISOLATED 0 then s
    else
      let s := setF s Reg.MGT_BUS_STAT_TRAY_ISOLATED 1 0
      trayLost (logFault s (blockItem Err.MGT_TRAY_SHORT (identOf 0x12 0) [lines])))

/-- TRAY_PROBE (R522): one probe transaction; the bus stays closed where it is no longer shorted. -/
def execTrayProbe (shorted : Bool) (t : TrayReading) (s : State) : Host.Outcome State Fault Refusal :=
  .next (if !onF s Reg.MGT_BUS_STAT_TRAY_ISOLATED 0 || shorted then s
    else readTray (setF s Reg.MGT_BUS_STAT_TRAY_ISOLATED 0 0) t)

/-- The rail shutdown sequence after a stop (R455). R438 names no cause for it: a free value (log entry 2). -/
def stopShutdown (s : State) : State :=
  if onF s Reg.CLT_STAT_STOPPED 0 ∧ !s.power.shut then
    let v := nextFree s
    shutdownSeq v.2 (v.1 % 8)
  else s

/-- STOP_TIMEOUT (R455): 2 s after the stop. -/
def execStopTimeout (s : State) : Host.Outcome State Fault Refusal :=
  .next (if s.thermal.stoppedAt + 2000000000 ≤ s.lampTime then stopShutdown s else s)

/-! ### The estimator and the cap (R450 to R452) -/

/-- One sample of θ (R450). -/
def thetaStep (s : State) (meanW : Nat) : State :=
  let fuse : Rat := (getF s Reg.THM_THETA_FUSE 0 : Rat) / 1000
  let m : Rat := (((hottest s).2 - usedOf s inletPair : Int) : Rat) / 16 / ((meanW : Rat) / 1000)
  let t := s.thermal
  let l := if t.samples.length < 64 then t.samples ++ [m] else t.samples
  let b : Rat := if t.samples.length < 64 then (((64 - l.length : Nat) : Rat) * fuse + l.sum) / 64
    else t.theta + (m - t.theta) / 64
  let th := max m b
  let s := { s with thermal := { t with samples := l, theta := th } }
  setF (setF s Reg.THM_SAMPLES l.length 0) Reg.THM_THETA (min 65535 (th * 1000).floor.toNat) 0

/-- The cap falls by 5 % each second while a stack or port die stands above 90 °C or a chase whose parking
was refused stands above T_target (R453). -/
def dropStep (s : State) : State :=
  let target : Int := (getF s Reg.THM_TARGET 0 : Nat)
  let refused := s.thermal.refused.filter (fun n => decide (target < usedOf s n))
  let go := !refused.isEmpty || (hottestOf s (fun i => decide (256 ≤ i ∧ i < 304))).any (fun x => decide (1440 < x.2))
  let n := s.thermal.dropTick + 1
  { s with thermal := { s.thermal with
      refused := refused
      dropTick := if !go || n = 10 then 0 else n
      capDrop := if !go then 1 else if n = 10 then s.thermal.capDrop * 19 / 20 else s.thermal.capDrop } }

/-- The cap of R451, its drop of R453, and the 14,000 W of R449. -/
def capOf (s : State) : Nat :=
  let d : Rat := (((getF s Reg.THM_TARGET 0 : Nat) - usedOf s inletPair : Int) : Rat) / 16
  let w := if s.thermal.theta ≤ 0 then 36000 else max 4000 (min 36000 (d / s.thermal.theta * 1000))
  let w := max 4000 (w * s.thermal.capDrop)
  let w := if onF s Reg.CLT_STAT_HOSE_REVERSED 0 then min 14000 w else w
  w.floor.toNat

/-- ESTIMATOR_SAMPLE (R450, R451, R453). -/
def execEstimatorSample (meanW : Nat) (s : State) : Host.Outcome State Fault Refusal :=
  let s := dropStep (if meanW < 2000 then s else thetaStep s meanW)
  .next (setCap s (capOf s))

/-- F_MOD_STEP (R452): the module clock ceiling moves once a millisecond. -/
def execFModStep (powerW : Nat) (s : State) : Host.Outcome State Fault Refusal :=
  let cap := getF s Reg.PWR_CAP 0
  let f := getF s Reg.THM_F_MOD 0
  let t := s.thermal
  let g := if cap < powerW then max 600 (f - 25)
    else if 100 * powerW < 97 * cap ∧ t.fModWait = 0 then min 1400 (f + 25) else f
  let above := runOf (decide (cap < powerW ∧ f = 600)) t.overCap
  let s := { s with thermal := { t with
    fModWait := if f < g then 9 else t.fModWait - 1
    overCap := above } }
  let s := if above = 1000 then logFault s (blockItem Err.THM_CAP_UNMET thmIdent [cap, powerW]) else s
  .next (if g = f then s else (List.range 256).foldl updateLimit (setF s Reg.THM_F_MOD g 0))

/-! ### Per-chase thermal action (R426, R427, R453) -/

/-- R205 places every part of the chase elsewhere without a DEGRADE step. -/
def movable (s : State) (n : Nat) : Bool :=
  ((s.formes.filter (fun f => f.2.parts.any (fun p => p.chase == n))).foldl (fun a f =>
    let m := moveForme a.1 f.1 f.2 n false false
    (adjForme a.1 f.1 (fun x => { x with parts := m.parts }), a.2 && m.waiting.isEmpty)) (s, true)).2

/-- A parking request (R426, R427): the chase's parts begin to move, or the module cap is used. -/
def requestPark (s : State) (n : Nat) : State :=
  let recent := s.faults.lastReimpose.any (fun t => decide (s.lampTime < t + 600000000000))
  let parked := modChase s n (fun ch => { ch with parkedFor := true, hotMs := 0 })
  if recent ∨ !movable parked n then
    { s with thermal := { s.thermal with refused := addOnce s.thermal.refused n } }
  else
    startRecovery { parked with faults := { parked.faults with lastReimpose := some s.lampTime } } n [n] [] 3 [] [n]

/-- The chase limit of R453 and its counts of milliseconds, against the value `t` and T_target. -/
def Chase.thermal (ch : Chase) (t target : Int) (clk fMod : Nat) : Chase :=
  let cool := runOf (decide (t < target - 32)) ch.coolMs
  let lim := if 1520 ≤ t then 600
    else if target < t then max 600 (ch.limThermal - 25)
    else if cool = 10 ∧ ch.limThermal + 25 ≤ fMod then ch.limThermal + 25 else ch.limThermal
  { ch with limThermal := lim, coolMs := if cool = 10 then 0 else cool
            hotMs := runOf (decide (target + 32 ≤ t ∧ clk = 600)) ch.hotMs }

/-- CHASE_THERMAL_ACTION (R453): once a millisecond for a chase. -/
def execChaseThermalAction (n : ChaseId) (s : State) : Host.Outcome State Fault Refusal :=
  let p := getPair s n.val
  let t := p.used
  let hot := decide (1520 ≤ t)
  let s := if hot = p.junction then s
    else
      let s := setPair s n.val { p with junction := hot }
      if hot then logFault s (blockItem Err.THM_JUNCTION_LIMIT thmIdent [n.val, int16 t]) else s
  let s := demand s n.val (fun ch =>
    ch.thermal t (getF s Reg.THM_TARGET 0 : Nat) (getF s Reg.CPW_CLK_NOW n.val) (getF s Reg.THM_F_MOD 0))
  let ch := getChase s n.val
  .next (if 1000 ≤ ch.hotMs ∧ schedules s n.val ∧ !ch.parkedFor ∧ !s.thermal.refused.contains n.val then requestPark s n.val
    else s)

/-! ### Thermal cycles (R457, R458) -/

/-- The band of an amplitude: none, 20 to 40 K, 40 to 60 K, from 60 K. -/
def cycleBand (d : Int) : Nat := if d.natAbs < 320 then 0 else if d.natAbs < 640 then 1 else if d.natAbs < 960 then 2 else 3

/-- A half-cycle added to a band, or taken from it. -/
def addHalf (t : Thermal) (band : Nat) (up : Bool) : Thermal :=
  let f := fun (n : Nat) => if up then n + 1 else n - 1
  if band = 1 then { t with halves20 := f t.halves20 }
  else if band = 2 then { t with halves40 := f t.halves40 }
  else if band = 3 then { t with halves60 := f t.halves60 }
  else t

/-- One value of the cycle count (R457). A half-cycle counts as soon as it reaches 20 K; while the value goes
on the same way the extreme goes with it, and the half-cycle moves to the band it has reached. -/
def Thermal.cycle (t : Thermal) (v : Int) : Thermal :=
  match t.extreme with
  | none => { t with extreme := some v, turn := v, rising := true }
  | some x =>
    if (t.rising ∧ x ≤ v) ∨ (!t.rising ∧ v ≤ x) then
      let a := cycleBand (x - t.turn)
      let b := cycleBand (v - t.turn)
      let t := { t with extreme := some v }
      if a = b then t else addHalf (addHalf t a false) b true
    else if 320 ≤ (v - x).natAbs then
      addHalf { t with extreme := some v, turn := x, rising := !t.rising } (cycleBand (v - x)) true
    else t

/-- THERMAL_CYCLE (R457, R458): every 100 ms. -/
def execThermalCycle (s : State) : Host.Outcome State Fault Refusal :=
  .next (match hottestOf s (fun i => decide (i < 256)) with
    | none => s
    | some x =>
      let t := s.thermal.cycle x.2
      let counted := decide ((t.halves20, t.halves40, t.halves60) ≠ (s.thermal.halves20, s.thermal.halves40, s.thermal.halves60))
      let ppm := t.halves20 + 5 * t.halves40 + 25 * t.halves60
      let alarm := decide (800000 ≤ ppm) && !t.lifeAlarm
      let s := { s with thermal := { t with lifeAlarm := t.lifeAlarm || alarm } }
      let s := if counted then
          let s := setF (setF (setF s Reg.THM_CYCLES_20 (t.halves20 / 2) 0) Reg.THM_CYCLES_40 (t.halves40 / 2) 0)
            Reg.THM_CYCLES_60 (t.halves60 / 2) 0
          addF (setF s Reg.THM_LIFE_USED (min ppm (2 ^ 20 - 1)) 0) Reg.LAMP_NV_WRITES 1 0
        else s
      if alarm then logFault s (blockItem Err.THM_LIFE_ALARM thmIdent [ppm]) else s)

/-- TARGET (R451): T_target, clamped to 60 to 92 °C. -/
def execTarget (v : Nat) (s : State) : Host.Outcome State Fault Refusal :=
  .next (regWrite s 5 (fun s => setF s Reg.THM_TARGET (max 960 (min 1472 (v % 4096))) 0))

end Sys2Proof.Machine
end

