-- ==== Sys2Proof/Machine/Units.lean ====
section
/-! DEFINITION. Keeper groups (R400 to R404, R468, R469), memory stacks (R511 to R516), host ports (R493 to
R498), and the end of a live handover (R408). -/

namespace Sys2Proof.Machine

/-! ### Keeper groups -/

def kprIdent (g : Nat) : Nat := identOf 0x0A g

/-- The state of keeper group `g` (R553). -/
def kprState (s : State) (g : Nat) : Nat := getF s Reg.KPR_STATE 0 g
def setKpr (s : State) (g st : Nat) : State := setF s Reg.KPR_STATE st 0 g

/-- RUNNING, or PAIR with a core fenced. -/
def kprServing (s : State) (g : Nat) : Nat := if getF s Reg.KPR_FENCED 0 g = 0 then 2 else 3

/-- Every stream waits on keeper groups 0 and 1 (R402). -/
def holdAll (s : State) : State :=
  { s with serve := { s.serve with streams := s.serve.streams.map (fun e =>
      (e.1, if e.2.live then settleHold { e.2 with holdRecovery := true } else e.2)) } }

/-- Holds for RECOVERY end that no rebuild and no recovery keeps up (R402). -/
def releaseAll (s : State) : State :=
  if groupUp s 0 ∧ groupUp s 1 then releaseFormes s (s.formes.map (·.1)) else s

/-- A group reset, to rebuild from durable state (R402). A recovery that group 2 ran starts again. -/
def rebuildGroup (s : State) (g : Nat) : State :=
  let s := setKpr s g 4
  if g < 2 then holdAll s
  else if g = 2 then
    { s with faults := { s.faults with recoveries := s.faults.recoveries.map (fun r =>
        if r.phase = .replaying then r else { r with phase := .halting }) } }
  else s

/-- A split of a group, or a reset that counts as one (R402, R403, R469). -/
def splitGroup (s : State) (g : Nat) : State :=
  let recent := s.keepers.splits.filter (fun x => decide (s.lampTime < x.2 + 60000000000))
  let s := rebuildGroup { s with keepers := { s.keepers with splits := recent ++ [(g, s.lampTime)] } } g
  if recent = [] then s
  else fatalModule s (blockItem Err.KPR_DOUBLE (kprIdent g) [((((recent.map (·.1)) ++ [g]).dedup).map (2 ^ ·)).sum]) 3

/-- KPR_VOTE_SPLIT (R402). -/
def execKprVoteSplit (g : GroupId) (s : State) : Host.Outcome State Fault Refusal :=
  .next (if groupUp s g.val then splitGroup (logFault s (blockItem Err.KPR_VOTE_SPLIT (kprIdent g.val) [g.val])) g.val else s)

/-- KPR_VOTE_MINORITY (R400, R401): the third lost vote within 24 hours fences the core; a compare pair's
disagreement is a split. -/
def execKprVoteMinority (g : GroupId) (core : Fin 3) (s : State) : Host.Outcome State Fault Refusal :=
  .next (if kprState s g.val = 3 then splitGroup (logFault s (blockItem Err.KPR_VOTE_SPLIT (kprIdent g.val) [g.val])) g.val
    else if kprState s g.val ≠ 2 then s
    else
      let s := logFault (addF s Reg.ERR_KPR_MINORITY 1 0) (blockItem Err.KPR_VOTE_MINORITY (kprIdent g.val) [g.val, core.val])
      let l := s.keepers.minor.filter (fun x => decide (s.lampTime < x.2.2 + 86400000000000)) ++ [(g.val, core.val, s.lampTime)]
      let s := { s with keepers := { s.keepers with minor := l } }
      if 3 ≤ l.countP (fun x => x.1 == g.val && x.2.1 == core.val) then
        let s := setKpr (setF s Reg.KPR_FENCED (getF s Reg.KPR_FENCED 0 g.val ||| 2 ^ core.val) 0 g.val) g.val 3
        logFault s (blockItem Err.KPR_CORE_FENCED (kprIdent g.val) [g.val, core.val])
      else s)

/-- A keeper group reset by the lamp domain (R468 to R470): recorded, rebuilt, counted as a split. -/
def resetGroup (s : State) (g source : Nat) : State := splitGroup (causeRecord s source [kprIdent g]) g

/-- RST_WATCHDOG (R468, R469). -/
def execRstWatchdog (g : GroupId) (s : State) : Host.Outcome State Fault Refusal :=
  .next (if groupUp s g.val then
      resetGroup (logFault (addF s Reg.KPR_WDOG_MISSES 1 0) (blockItem Err.RST_WATCHDOG (identOf 0x03 0) [g.val])) g.val 3
    else s)

/-- RST_LOCKUP of a keeper group (R468, R469). -/
def execRstLockup (g : GroupId) (s : State) : Host.Outcome State Fault Refusal :=
  .next (if groupUp s g.val then resetGroup (logFault s (blockItem Err.RST_LOCKUP (identOf 0x03 0) [1, g.val])) g.val 7 else s)

/-- The records of each stream's last committed step written again (R397). -/
def rewriteLast (s : State) : State :=
  s.serve.streams.foldl (fun s e =>
    if e.2.live && !s.partner.handed.contains e.2.queue then e.2.lastRecs.foldl (fun s r => hostWrite s r.1 r.2) s else s) s

/-- Records that groups 1 and 2 held for the telemetry ring (R545). -/
def flushGroupHeld (s : State) : State :=
  let s := dropOld s
  handRecords { s with tele := { s.tele with groupHeld := [] } } s.tele.groupHeld

/-- KEEPER_REBUILT (R397, R402). -/
def execKeeperRebuilt (g : GroupId) (s : State) : Host.Outcome State Fault Refusal :=
  .next (if kprState s g.val ≠ 4 then s
    else
      let s := setKpr s g.val (kprServing s g.val)
      let s := if g.val = 0 then flushGroupHeld (rewriteLast s) else s
      kmbServe (retryHeld (releaseAll s)) g.val)

/-- KEEPER_BOOTED (R482, R553): firmware verified; held commands may go on. -/
def execKeeperBooted (g : GroupId) (s : State) : Host.Outcome State Fault Refusal :=
  .next (if kprState s g.val ≠ 1 then s
    else
      let s := setKpr s g.val (kprServing s g.val)
      let s := setF s Reg.KPR_FW_VER (Config.firmwareVersion 1 % 2 ^ 32) 0
      let s := if g.val = 0 then setF (setF s Reg.KPR_KAPI_MAJOR kapiMajor 0) Reg.KPR_KAPI_MINOR 0 0 else s
      kmbServe (retryHeld s) g.val)

/-- STREAM_MINUTE (R404): the contracted minutes of the live streams, and the faulted ones. -/
def execStreamMinute (s : State) : Host.Outcome State Fault Refusal :=
  let mine := s.serve.streams.filter (fun e => e.2.live && e.2.mooring != 0)
  let s := addF (addF s Reg.ERR_STREAM_MIN mine.length 0) Reg.ERR_FAULT_MIN (mine.countP (fun e => e.2.minuteFault)) 0
  .next { s with serve := { s.serve with streams := s.serve.streams.map (fun e => (e.1, { e.2 with minuteFault := false })) } }

/-! ### Memory stacks (R511 to R516, R527) -/

/-- The state of stack `n`: 0 UNTRAINED, 1 TRAINING, 2 READY, 3 FAILED, 4 REBUILDING, 5 SELF_REFRESH. -/
def stkState (s : State) (n : Nat) : Nat := getF s Reg.STK_STAT_STATE n

/-- The stack's state with its page's beacon: LIT while READY or in self-refresh, degraded while FAILED or
rebuilding. -/
def setStkState (s : State) (n st : Nat) : State :=
  setBeacon (setF s Reg.STK_STAT_STATE st n) (784 + n)
    (if st = 2 ∨ st = 5 then Beacon.lit else if st = 3 ∨ st = 4 then Beacon.occulting else Beacon.kindling)

/-- Another stack of the parity group is down (R406, R478, R516). -/
def groupDown (s : State) (n : Nat) : Bool :=
  (List.range 32).any (fun m => m != n && m % 4 == n % 4 && (stkState s m == 3 || stkState s m == 4))

/-- A stack fails (R515); the second of a parity group breaks the repair budget (R406, R516). -/
def failStack (s : State) (n cause : Nat) : State :=
  let s := setStkState (addF s Reg.STK_FAILS 1 n) n 3
  let s := setStk s n { getStk s n with failedAt := s.lampTime, cause := cause }
  let s := logFault s (blockItem Err.STK_FAILED (identOf 0x23 n) [n, cause])
  if groupDown s n then repairBudget s else s

/-- More than 16 uncorrectable words within 1 s (R515). -/
def stackWorn (s : State) (n : Nat) : Bool :=
  decide (16 < (getStk s n).poisonAt.countP (fun t => decide (s.lampTime < t + 1000000000)))

/-- STK_FAILED (R515): 1 training, 2 profile, 3 errors, 4 reset. A stack without a matching profile is recorded under
R512. -/
def execStkFailed (n : StackId) (cause : Nat) (s : State) : Host.Outcome State Fault Refusal :=
  .next (if stkState s n.val ∈ [1, 2, 4, 5] ∧ (cause = 3 → stackWorn s n.val) then
      let s := if cause = 2 then
          let v := nextFree s
          logFault v.2 (blockItem Err.STK_PROFILE (identOf 0x23 n.val) [n.val, v.1 % 2 ^ 32])
        else s
      retryHeld (failStack s n.val cause)
    else s)

/-- STACK_TRAINED (R512): the first training ends. B1 supports profile major 1. -/
def execStackTrained (n : StackId) (profileMajor profileMinor identity : Nat) (s : State) :
    Host.Outcome State Fault Refusal :=
  .next (if stkState s n.val ≠ 1 then s
    else if profileMajor ≠ 1 then
      retryHeld (failStack (logFault s (blockItem Err.STK_PROFILE (identOf 0x23 n.val) [n.val, identity % 2 ^ 32])) n.val 2)
    else
      let s := setF (setF s Reg.STK_STAT_PROF_MAJOR profileMajor n.val) Reg.STK_STAT_PROF_MINOR profileMinor n.val
      retryHeld (setStkState s n.val 2))

/-- A FAILED stack is due for retraining by keeper group 2 (R516): 10 s after its failure, or at once after a reset alone. -/
def retrainDue (s : State) (n : Nat) : Bool :=
  decide (stkState s n = 3) && groupUp s 2 && !onF s Reg.STK_STAT_FAILED_PERM n && onF s Reg.STK_CTL_AUTO_RETRAIN n
    && decide ((getStk s n).cause = 4 ∨ (getStk s n).failedAt + 10000000000 ≤ s.lampTime)

/-- STACK_RETRAIN (R516): the rebuild begins, or, at the third failed try, the stack stays FAILED. -/
def execStackRetrain (n : StackId) (ok : Bool) (s : State) : Host.Outcome State Fault Refusal :=
  .next (if !retrainDue s n.val then s
    else if ok then
      setStkState (setStk (setF s Reg.STK_REBUILT 0 n.val) n.val
        { getStk s n.val with retrains := 0, rebuildAt := s.lampTime, poisonAt := [], paced := 0 }) n.val 4
    else
      let x := getStk s n.val
      let s := setStk s n.val { x with retrains := x.retrains + 1, failedAt := s.lampTime }
      if 3 ≤ x.retrains + 1 then setF s Reg.STK_STAT_FAILED_PERM 1 n.val else s)

/-- The stripes of a stack (R513). -/
def stackStripes : Nat := 23437500

/-- One lamp cycle of a rebuild (R516): stripes come back by rising offset, as many as make 140 s at the reset share of 64,
and in proportion to the share (DESIGN CHOICE, log entry 112). -/
def rebuildStripes (s : State) (n : Nat) : State :=
  let x := getStk s n
  let w := x.paced + 3 * getF s Reg.STK_CTL_REBUILD_SHARE n
  setF (setStk s n { x with paced := w % 28672 }) Reg.STK_REBUILT (min stackStripes (getF s Reg.STK_REBUILT n + w / 28672)) n

/-- One lamp cycle of every rebuild. -/
def rebuildsGo (s : State) : State := ((List.range 32).filter (fun n => stkState s n == 4)).foldl rebuildStripes s

/-- STK_REBUILT (R516): a share of 0 suspends the rebuild. -/
def execStkRebuilt (n : StackId) (s : State) : Host.Outcome State Fault Refusal :=
  .next (if stkState s n.val ≠ 4 ∨ getF s Reg.STK_CTL_REBUILD_SHARE n.val = 0 then s
    else
      let s := setStkState (setF s Reg.STK_REBUILT stackStripes n.val) n.val 2
      logFault s (blockItem Err.STK_REBUILT (identOf 0x23 n.val)
        [n.val, (s.lampTime - (getStk s n.val).rebuildAt) / 1000000000]))

/-! ### Host ports (R493 to R498) -/

/-- The port a queue uses (R493): its home port, else the next one up in ascending order. -/
def portFor (s : State) (q : Nat) : Option Nat :=
  ((List.range 4).map (fun i => (q + i) % 4)).find? (fun h => onF s Reg.HST_PORT_STAT_UP h)

/-- Every queue on the port of R493. -/
def routeQueues (s : State) : State :=
  { s with serve := { s.serve with queues := s.serve.queues.map (fun x => (x.1, { x.2 with port := (portFor s x.1).getD x.2.port })) } }

/-- A ring's records from RQ_HEAD to RQ_TAIL written again, and its vector raised (R495). -/
def rewriteRing (s : State) (q : Nat) : State :=
  let x := getQ s q
  let base := getF s Reg.SRV_RQ_BASE q
  let n := rqSize s q
  let s := (List.range x.used).foldl (fun s i =>
    let a := base + 32 * ((x.rqHead + i) % n)
    hostWrite s a (memReadBytes s.mem.host a 32)) s
  raiseQueue s q

/-- The port that a queue uses (R493), or, while none is up, the one that it used last. -/
def usedPort (s : State) (x : Nat × Queue) : Nat := (portFor s x.1).getD x.2.port

/-- The queues that use port `h`, but those handed to the partner. -/
def queuesOn (s : State) (h : Nat) : List Nat :=
  (s.serve.queues.filter (fun x => usedPort s x == h && !s.partner.handed.contains x.1)).map (·.1)

/-- The queues `mine` move from port `h` to port `p` (R495): their records are written again, and the move is recorded. -/
def failOver (s : State) (h p : Nat) (mine : List Nat) : State :=
  let n := (mine.map (fun q => (getQ s q).used)).sum
  logFault (addF (mine.foldl rewriteRing s) Reg.HST_FAILOVERS 1 h) (blockItem Err.HST_FAILOVER (identOf 0x0B h) [h, p, n])

/-- A host port's link goes down, or the port is reset (R495): its queues fail over. While no port is up they stay on it, and
their streams wait. -/
def portDown (s : State) (h : Nat) : State :=
  if !onF s Reg.HST_PORT_STAT_UP h then s
  else
    let mine := queuesOn s h
    let clear := [Reg.HST_PORT_STAT_UP, Reg.HST_PORT_STAT_FLIT, Reg.HST_PORT_STAT_CXL, Reg.HST_PORT_STAT_WIDTH,
      Reg.HST_PORT_STAT_SPEED]
    let s := clear.foldl (fun s f => setF s f 0 h) s
    match portFor s h with
    | some p => failOver (routeQueues s) h p mine
    | none =>
      { s with serve := { s.serve with
        queues := s.serve.queues.map (fun x => (x.1, { x.2 with port := h }))
        streams := s.serve.streams.map (fun e =>
          (e.1, if e.2.live then settleHold { e.2 with holdRing := true } else e.2)) } }

/-- HST_LINK_DOWN (R495). -/
def execHstLinkDown (h : PortId) (s : State) : Host.Outcome State Fault Refusal :=
  .next (if onF s Reg.HST_PORT_STAT_UP h.val then
      portDown (logFault s (blockItem Err.HST_LINK_DOWN (identOf 0x0B h.val) [h.val])) h.val
    else s)

/-- Port `h` is out of reset: its REFCLK is good, PERST# deasserted, its PLL counted (R475, R476). -/
def portReleased (s : State) (h : Nat) : Bool := s.release.released.contains (6, h)

/-- The first port up after a time without one, in which the state was `was` (R495): the queues that used a failed port move to it; those that used this
one have their records written again on it too. -/
def portsBack (was s : State) (h : Nat) : State :=
  (List.range 4).foldl (fun t p =>
    let mine := queuesOn was p
    if mine = [] then t else if p = h then mine.foldl rewriteRing t else failOver t p h mine) (routeQueues s)

/-- HOST_LINK_UP (R482, R491, R493, R497, R498): queues use the port again, owed records go out, T2 space
that waited is scrubbed. Flit mode goes with 64 GT/s. -/
def execHostLinkUp (h : PortId) (width speed : Nat) (cxl : Bool) (s : State) : Host.Outcome State Fault Refusal :=
  .next (if !portReleased s h.val || s.pins.surpriseDown then s
    else
      let was := s
      let s := setF (setF (setF s Reg.HST_PORT_STAT_UP 1 h.val) Reg.HST_PORT_STAT_WIDTH width h.val)
        Reg.HST_PORT_STAT_SPEED speed h.val
      let s := flagF (flagF s Reg.HST_PORT_STAT_FLIT (speed == 6) h.val) Reg.HST_PORT_STAT_CXL (cxl && decide (h.val < 2)) h.val
      let s := if (portFor was h.val).isNone then portsBack was s h.val else routeQueues s
      let qs := s.serve.queues.map (·.1)
      let s := qs.foldl (fun s q => settleRing (drainRing s q) q) s
      if cxlUp s then scrubT2 s else s)

/-! ### The end of a live handover (R408, R455, R471) -/

/-- The galleys with a stack-tier copy, sent to the partner (R408); a poisoned word never goes out (R378). -/
def sendGalleys (s : State) : State :=
  match partnerPort s with
  | some k => s.kv.galleys.foldl (fun s g => match g.2.t1 with
    | some a =>
      let s := meetStack s a g.2.bytes
      if stackPoisoned s a g.2.bytes then s else linkSend s k (linkMsg 0x21 a (stackRead s a g.2.bytes))
    | none => s) s
  | none => s

/-- A paused conversation moves to the partner (R337, R408); the message's layout is not given (log entry 30). -/
def handConv (s : State) (c : Conv) : State :=
  freeConv (handMsg s (leBytes 2 c.tenant ++ leBytes 8 c.handle ++ leBytes 1 c.forme ++ leBytes 4 c.vlen
    ++ leBytes 8 c.pausedAt ++ leBytes 4 c.ttl ++ leBytes 2 c.queue ++ c.ident ++ c.tokens.flatMap (leBytes 4))) c.tenant c.handle

/-- HANDOVER_COMPLETE (R408): galleys and conversations have moved, replay records last; then the host
interface stops, and a stop or a module reset goes on. -/
def execHandoverComplete (s : State) : Host.Outcome State Fault Refusal :=
  .next (match s.partner.sending with
    | none => s
    | some cause =>
      let s := sendGalleys s
      let s := s.serve.convs.foldl handConv s
      let s := (openStreams s).foldl handStream s
      let s := surpriseDown { s with partner := { s.partner with sending := none } }
      if cause = 5 then moduleReset s 4 else if cause = 1 then stopShutdown s else s)

end Sys2Proof.Machine
end

