-- ==== Sys2Proof/Machine/ResetClk.lean ====
section
/-! DEFINITION. Reset, clocks and the staged start (13): reset sources, the release order, PLLs, the clock
monitor, resetting one block, kindling. -/

namespace Sys2Proof.Machine

/-! ### Reset sources (R468 to R471) -/

/-- The lamp domain starts again (R468, R475). -/
def lampStart (s : State) (cause : Nat) : State :=
  let s := powerReset s
  setF { s with release := { s.release with poweredAt := s.lampTime } } Reg.RST_CAUSE (2 ^ cause) 0

/-- POWER_ON (R413, R468): the whole module. A reversed input that was latched is reported. -/
def execPowerOn (s : State) : Host.Outcome State Fault Refusal :=
  let s := addF (lampStart s 0) Reg.RST_POR_COUNT 1 0
  .next (if s.power.reversedLatch then
      let s := setF { s with power := { s.power with reversedLatch := false } } Reg.PWR_INPUT_STAT_REVERSED_SEEN 1 0
      addF (logFault s (blockItem Err.PWR_INPUT_REVERSED (identOf 0x05 0) [])) Reg.LAMP_NV_WRITES 1 0
    else s)

/-- BROWN_OUT (R468): of the lamp rail, the whole module; of the rim-logic rail, a module reset. -/
def execBrownOut (lampRail : Bool) (s : State) : Host.Outcome State Fault Refusal :=
  .next (if lampRail then
      let s := lampStart s 1
      { s with release := { s.release with causes := [1] } }
    else resetNow s 1)

/-- RESET_N (R468): a reading at a rising edge of the lamp clock; the tenth low one resets the module. -/
def execResetN (low : Bool) (s : State) : Host.Outcome State Fault Refusal :=
  let n := if low then s.pins.resetLow + 1 else 0
  let s := { s with pins := { s.pins with
    resetLow := n, lowSince := if low then some (s.pins.lowSince.getD s.lampTime) else none } }
  .next (if n = 10 then resetNow s 2 else s)

/-- The release of a host port (R475, R476). -/
def releasePort (s : State) (h : Nat) : State :=
  if s.pins.perst.getD h true || !s.release.counted.contains (1, h) || getF s Reg.RST_STAGE_STEP 0 < 5 || s.power.shut then s
  else
    let s := { s with release := { s.release with released := addOnce s.release.released (6, h) } }
    setF s Reg.CLK_PLL_STAT_GATED 0 (256 + h)

/-- A host port put into reset (R468, R469): its queues fail over. -/
def resetPort (s : State) (h : Nat) : State :=
  let s := portDown s h
  setF { s with release := { s.release with released := s.release.released.filter (· != (6, h)) } } Reg.CLK_PLL_STAT_GATED 1 (256 + h)

/-- PERST (R468, R476): asserted, it resets its port at once; deasserted, the port may be released. -/
def execPerst (h : PortId) (asserted : Bool) (s : State) : Host.Outcome State Fault Refusal :=
  let was := s.pins.perst.getD h.val true
  let s := { s with pins := { s.pins with perst := s.pins.perst.set h.val asserted } }
  .next (if asserted then (if was then s else causeRecord (resetPort s h.val) 2 [identOf 0x0B h.val])
    else releasePort s h.val)

/-- A software module reset (R468, R471): with FORCE at once, else after the handover. -/
def swReset (s : State) (force : Bool) : State :=
  if force then resetNow s 4
  else if partnerReady s then moduleHandover s 5 true
  else moduleReset (moduleHandover s 5 false) 4

/-- SOFTWARE_MODULE_RESET (R471, R486): a write of `RST.MOD_CTL`. -/
def execSoftwareModuleReset (v : Nat) (s : State) : Host.Outcome State Fault Refusal :=
  .next (regWrite s 2 (fun s =>
    let s := setF s Reg.RST_MOD_CTL_FORCE (v / 2) 0
    if v / 2 ^ 24 % 256 = 0x4D ∧ v % 2 = 1 then swReset s (v / 2 % 2 == 1) else s))

/-! ### Resetting one block (R478 to R480) -/

/-- The page identity names a block that may be reset alone (R478). -/
def resettable (i : Nat) : Bool :=
  match i / 65536 with
  | 0x0B => decide (i % 65536 < 4)
  | 0x23 => decide (i % 65536 < 32)
  | 0x22 => decide (i % 65536 < 16)
  | 0x0A => decide (i % 65536 < 4)
  | 0x20 => decide (i % 65536 < 256)
  | _ => false

/-- The block is in reset already (R480). -/
def inReset (s : State) (i : Nat) : Bool :=
  match i / 65536 with
  | 0x0B => !portReleased s (i % 65536)
  | 0x0A => kprState s (i % 65536) == 0
  | _ => beaconOf s (pageOfIdent i) == Beacon.dark

/-- The quiesce of a block begins (R479 steps 1 and 2). -/
def quiesce (s : State) (i source : Nat) : State :=
  let p := pageOfIdent i
  let s := setF (setF s Reg.RST_BLK_CTL_BUSY 1 0) Reg.RST_BLK_CTL_RESULT 0 0
  let s := setF (setF s Reg.PAGE_CTL_QUIESCE_REQ 1 p) Reg.PAGE_CTL_RESET_REQ 1 p
  let s := setF (setF s Reg.PAGE_QUIESCE_IDLE 0 p) Reg.PAGE_QUIESCE_HELD 0 p
  let s := { s with blkReset := some ⟨i, source, s.lampTime⟩ }
  if i / 65536 = 0x20 then (setChaseBeacon s (i % 65536) Beacon.occulting)
  else if beaconOf s p ∈ [1, 2] then setBeacon s p Beacon.occulting else s

/-- BLOCK_RESET (R478 to R480): a write of `RST.BLK_CTL`. -/
def execBlockReset (v : Nat) (s : State) : Host.Outcome State Fault Refusal :=
  .next (regWrite s 2 (fun s =>
    let i := getF s Reg.RST_BLK_SEL 0
    if v / 2 ^ 24 % 256 ≠ 0xB5 ∨ v % 2 = 0 ∨ onF s Reg.RST_BLK_CTL_BUSY 0 then s
    else if !resettable i ∨ (i / 65536 = 0x23 ∧ groupDown s (i % 65536)) then setF s Reg.RST_BLK_CTL_RESULT 3 0
    else if inReset s i then setF s Reg.RST_BLK_CTL_RESULT 1 0
    else quiesce s i 4))

/-- A chase reset alone: recovered as a re-imposition with a self-test (R398, R478). -/
def resetChase (s : State) (n : Nat) : State :=
  let s := (setChaseBeacon s n Beacon.lit)
  startRecovery { s with faults := { s.faults with lastReimpose := some s.lampTime } } n [n] [] 3 [n] [n]

/-- A quiesced block enters reset and is released again (R478, R479). -/
def resetBlock (s : State) (b : BlkReset) (result : Nat) : State :=
  let i := b.ident
  let n := i % 65536
  let p := pageOfIdent i
  let s := addF (setF (setF s Reg.RST_BLK_CTL_BUSY 0 0) Reg.RST_BLK_CTL_RESULT result 0) Reg.RST_BLK_RESETS 1 0
  let s := setF (setF s Reg.PAGE_CTL_QUIESCE_REQ 0 p) Reg.PAGE_CTL_RESET_REQ 0 p
  let s := causeRecord { s with blkReset := none } b.source [i]
  match i / 65536 with
  | 0x0B => setBeacon (portDown s n) p Beacon.lit
  | 0x23 => failStack s n 4
  | 0x22 => retrainFrom s n Phase.detect
  | 0x0A => rebuildGroup (setBeacon s p Beacon.lit) n
  | 0x20 => resetChase s n
  | _ => s

/-- QUIESCE_DONE (R479): the block reports idle. -/
def execQuiesceDone (s : State) : Host.Outcome State Fault Refusal :=
  .next (match s.blkReset with
    | some b => resetBlock (setF s Reg.PAGE_QUIESCE_IDLE 1 (pageOfIdent b.ident)) b 1
    | none => s)

/-- RST_QUIESCE_TIMEOUT (R479): 100 µs after the request; requests still held end with an error. -/
def execRstQuiesceTimeout (held : Nat) (s : State) : Host.Outcome State Fault Refusal :=
  .next (match s.blkReset with
    | some b =>
      if s.lampTime < b.since + 100000 then s else
      let s := setF (addF s Reg.RST_QUIESCE_TIMEOUTS 1 0) Reg.PAGE_QUIESCE_HELD (min held 65535) (pageOfIdent b.ident)
      resetBlock (logFault s (blockItem Err.RST_QUIESCE_TIMEOUT (identOf 0x03 0) [b.ident, held])) b 2
    | none => s)

/-- A FAB_DEADLOCK of chase `n` has stood for 1 s (R468): its record is that old and flits still stand in the
chase's routers. -/
def deadlockStands (s : State) (n : Nat) : Bool :=
  s.faults.log.any (fun r => r.item.code == Err.FAB_DEADLOCK && r.item.chase == some n
      && decide (r.time + 1000000000 ≤ s.lampTime))
    && s.fabric.any (fun x => chaseOfRouter x.router == n)

/-- FABRIC_LOCKUP (R468): a deadlock not recovered within 1 s resets its chase as one block. -/
def execFabricLockup (n : ChaseId) (s : State) : Host.Outcome State Fault Refusal :=
  .next (if !deadlockStands s n.val then s
    else
      let s := logFault s (blockItem Err.RST_LOCKUP (identOf 0x03 0) [2, n.val])
      if onF s Reg.RST_BLK_CTL_BUSY 0 || chaseBeacon s n.val == Beacon.dark then s
      else quiesce s (identOf 0x20 n.val) 7)

/-! ### PLLs (R472, R473, R487) -/

/-- The number of a PLL in the registers of `CLK` (R487). -/
def pllNo (domain inst : Nat) : Nat := domain * 256 + inst

/-- The PLLs of each domain (R462, R487). -/
def pllCount (domain : Nat) : Nat := [1, 4, 32, 16, 16, 256].getD domain 0

/-- The output of a PLL at its count in MHz: where R462 gives it, else a free value (log entry 2). -/
def pllMhz (s : State) (domain inst : Nat) : Nat :=
  if domain = 0 then 2000 else if domain = 4 then 1250 else if domain = 5 then 600
  else Config.freeResult 0x0462 [domain, inst, s.lampTime] % 2048

/-- PLL_COUNT_DONE (R472, R473): the count is complete. -/
def execPllCountDone (domain inst : Nat) (s : State) : Host.Outcome State Fault Refusal :=
  .next (if pllCount domain ≤ inst || s.power.shut then s
    else
      let k := pllNo domain inst
      let s := { s with release := { s.release with counted := addOnce s.release.counted (domain, inst) } }
      let s := setF (setF (setF s Reg.CLK_PLL_STAT_LOCKED 1 k) Reg.CLK_PLL_STAT_COUNTED 1 k) Reg.CLK_PLL_STAT_FREQ (pllMhz s domain inst) k
      if domain = 1 then
        setF s Reg.CLK_REF_STAT_REFCLK_OK (getF s Reg.CLK_REF_STAT_REFCLK_OK 0 ||| 2 ^ inst) 0
      else s)

/-- Pages that keeper groups serve (R532). -/
def keeperPages : List Nat := [8, 0xB, 0xC, 0xD, 0xE, 0xF]

/-- The lamp time at which a step of the release order was released (R475), where it has been. -/
def stepTime (s : State) (k : Nat) : Option Nat := (s.release.stepAt.find? (fun x => x.1 == k)).map (·.2)

/-- A step of the release order was released at least `ns` ago. -/
def stepPast (s : State) (k ns : Nat) : Bool := (stepTime s k).any (fun t => decide (t + ns ≤ s.lampTime))

/-- RST_PLL_NO_LOCK (R472): 10 ms after its step began a PLL has not completed the count; the block stays in
reset, its beacon FAULT. -/
def execRstPllNoLock (domain inst : Nat) (s : State) : Host.Outcome State Fault Refusal :=
  .next (if pllCount domain ≤ inst || s.release.counted.contains (domain, inst) || s.release.pllFailed.contains (domain, inst)
      || s.power.shut || !stepPast s (if domain = 0 then 4 else 5) 10000000 then s
    else
      let s := { s with release := { s.release with pllFailed := addOnce s.release.pllFailed (domain, inst) } }
      let s := logFault s (blockItem Err.RST_PLL_NO_LOCK (identOf 0x03 0) [domain, inst])
      match domain with
      | 0 => keeperPages.foldl (fun s p => setBeacon s p Beacon.fault) s
      | 2 => setBeacon s (784 + inst) Beacon.fault
      | 3 => setBeacon s (768 + inst) Beacon.fault
      | 4 => setBeacon s (768 + inst) Beacon.fault
      | 5 =>
        let s := setF s Reg.FAB_DETOUR (getF s Reg.FAB_DETOUR 0 (inst / 32) ||| 2 ^ (inst % 32)) 0 (inst / 32)
        setChaseBeacon (modChase s inst (fun ch => { ch with pllOk := false })) inst Beacon.fault
      | _ => s)

/-! ### The release order (R475, R476) -/

/-- Pages of the lamp controller (R532). -/
def lampPages : List Nat := [0, 1, 2, 3, 5, 6, 7, 9, 0x10, 0x11, 0x12]

/-- The instances of a release step (R475). -/
def stepSize (k : Nat) : Nat := if k = 6 then 4 else if k = 7 then 32 else if k = 8 ∨ k = 9 then 256 else if k = 10 then 16 else 1

/-- The PLL counts that a step's instance waits for (R475). -/
def stepPlls (k inst : Nat) : List (Nat × Nat) :=
  match k with
  | 5 => [(0, 0)]
  | 6 => [(1, inst)]
  | 7 => [(2, inst)]
  | 8 => [(5, inst)]
  | 10 => [(3, inst), (4, inst)]
  | _ => []

/-- The least time between the release of one step and that of the next, in ns (R475); step 3 also waits until
the fuses are sensed, 12,500 lamp cycles after step 2. -/
def stepGap (k : Nat) : Nat := if k = 5 then 100000 else if k = 3 then 500000 else 10240

/-- The step that must have been released before step `k` (R475, R476): none waits for an instance of steps 6
to 10. -/
def stepBefore (k : Nat) : Nat := min (k - 1) 5

/-- The condition of a step's instance (R475, R476), but for what the command itself says: references and
rails. -/
def stepReady (s : State) (k inst : Nat) : Bool :=
  decide (1 ≤ k ∧ inst < stepSize k) && !s.power.shut && !s.release.stopped && decide (s.pins.resetLow < 10)
    && !s.release.released.contains (k, inst) && decide (stepBefore k ≤ getF s Reg.RST_STAGE_STEP 0)
    && (k == 1 || stepPast s (stepBefore k) ((k - stepBefore k) * stepGap k))
    && (stepPlls k inst).all (fun x => s.release.counted.contains x)
    && (k != 6 || !s.pins.perst.getD inst true)
    && (k != 9 || s.release.released.contains (8, inst))

/-- What the release of a step's instance does to its block (R475, R477, R536). -/
def releaseBlock (s : State) (k inst : Nat) : State :=
  match k with
  | 1 =>
    let s := lampPages.foldl (fun s p => setBeacon s p Beacon.lit) s
    let s := setF (setF s Reg.MGT_BUS_STAT_I3C_OK 1 0) Reg.MGT_BUS_STAT_SMB_OK 1 0
    let s := { s with pins := { s.pins with modFaultN := true } }
    let cs := s.release.causes
    cs.foldl (fun s c => causeRecord s c []) { s with release := { s.release with causes := [] } }
  | 3 =>
    let s := setF (setF s Reg.CLK_REF_STAT_FREF_A_OK 1 0) Reg.CLK_REF_STAT_FREF_B_OK 1 0
    setF (setF s Reg.CLK_REF_STAT_FREF_SEL 0 0) Reg.CLK_REF_STAT_LREF_OK 15 0
  | 4 => setBeacon s 4 Beacon.lit
  | 5 => [0, 1, 2, 3].foldl (fun s g => setKpr s g 1) (keeperPages.foldl (fun s p => setBeacon s p Beacon.lit) s)
  | 6 => setBeacon s 0xA Beacon.lit
  | 7 => setStkState s inst 1
  | 10 => setPhase s inst (if onF s Reg.LNK_CTL_ENABLE inst then Phase.detect else Phase.down)
  | _ => s

/-- RELEASE_STEP (R475, R476): one instance of a step is released. -/
def execReleaseStep (k : Fin 11) (inst : Nat) (s : State) : Host.Outcome State Fault Refusal :=
  .next (if !stepReady s k.val inst then s
    else
      let first := s.release.released.all (fun x => x.1 != k.val)
      let s := { s with release := { s.release with
        released := addOnce s.release.released (k.val, inst)
        stepAt := if first then (k.val, s.lampTime) :: s.release.stepAt.filter (fun x => x.1 != k.val) else s.release.stepAt } }
      let s := (stepPlls k.val inst).foldl (fun s x => setF s Reg.CLK_PLL_STAT_GATED 0 (pllNo x.1 x.2)) s
      let s := releaseBlock s k.val inst
      let s := setF s Reg.RST_STAGE_STEP (max k.val (getF s Reg.RST_STAGE_STEP 0)) 0
      if first then setF s Reg.RST_STEP_TIME ((s.lampTime - s.release.poweredAt) / 1000) 0 (k.val - 1) else s)

/-- RST_STEP_TIMEOUT (R476): step 3 or 4 has not completed 50 ms after its gap; the sequence stops there. -/
def execRstStepTimeout (k : Nat) (s : State) : Host.Outcome State Fault Refusal :=
  .next (if (k = 3 ∨ k = 4) ∧ getF s Reg.RST_STAGE_STEP 0 + 1 = k ∧ !s.release.stopped ∧ stepPast s (k - 1) 50010240 then
      logFault { s with release := { s.release with stopped := true } } (blockItem Err.RST_STEP_TIMEOUT (identOf 0x03 0) [k])
    else s)

/-- The page identity of a step's instance (R473). -/
def stepIdent (k inst : Nat) : Nat :=
  match k with
  | 5 => identOf 0x0A 0
  | 6 => identOf 0x0B inst
  | 7 => identOf 0x23 inst
  | 8 => identOf 0x20 inst
  | _ => identOf 0x22 inst

/-- FORCE_STEP (R473): under the debug lock, blocks whose count is not complete are forced. They keep their
gate closed and run only from the release that follows their count. -/
def execForceStep (v : Nat) (s : State) : Host.Outcome State Fault Refusal :=
  let k := v % 16
  .next (regWrite s 2 (fun s =>
    if pageLocked s 2 then s
    else
      let s := setF s Reg.RST_FORCE_FORCE_STEP k 0
      let is := (List.range (stepSize k)).filter (fun i =>
        !(stepPlls k i).all (fun x => s.release.counted.contains x) && !s.release.released.contains (k, i)
          && !s.release.forced.contains (16 * i + k))
      is.foldl (fun s i =>
        logFault { s with release := { s.release with forced := s.release.forced ++ [16 * i + k] } }
          (blockItem Err.RST_FORCED_EARLY (identOf 0x03 0) [stepIdent k i])) s))

/-! ### The clock monitor, references, lamp time (R464 to R467, R469) -/

/-- A clock is failed (R465): absent, or more than 1 % off, 4 % while it slews. -/
def clockFailed (r : ClockReading) : Bool :=
  let d := (Int.natAbs ((r.khz : Int) - r.commandedKhz))
  !r.present || decide ((if r.slewing then 4 else 1) * r.commandedKhz < 100 * d)

/-- What a failed clock resets (R468, R469). -/
def failClock (s : State) (domain inst : Nat) : State :=
  match domain with
  | 0 => [0, 1, 2, 3].foldl (fun s g => rebuildGroup (causeRecord s 6 [kprIdent g]) g) s
  | 1 =>
    let ok := getF s Reg.CLK_REF_STAT_REFCLK_OK 0
    let s := setF s Reg.CLK_REF_STAT_REFCLK_OK (if ok / 2 ^ inst % 2 = 1 then ok - 2 ^ inst else ok) 0
    causeRecord (resetPort s inst) 6 [identOf 0x0B inst]
  | 2 => failStack (causeRecord s 6 [identOf 0x23 inst]) inst 4
  | 3 => retrainFrom (causeRecord s 6 [identOf 0x22 inst]) inst Phase.detect
  | 4 => retrainFrom (causeRecord s 6 [identOf 0x22 inst]) inst Phase.detect
  | 5 => transitLost (causeRecord s 6 [identOf 0x20 inst]) inst 2
  | _ => s

/-- One clock compared with the crystal. -/
def monitorClock (s : State) (r : ClockReading) : State :=
  let k := pllNo r.domain r.inst
  if !s.release.counted.contains (r.domain, r.inst) then s
  else if !clockFailed r then setF s Reg.CLK_PLL_STAT_FREQ (min (r.khz / 1000) 2047) k
  else
    let s := addF (addF s Reg.CLK_MON_FAILS 1 0) Reg.CLK_LOCK_LOSSES 1 k
    let s := setF (setF (setF s Reg.CLK_PLL_STAT_LOCKED 0 k) Reg.CLK_PLL_STAT_COUNTED 0 k) Reg.CLK_PLL_STAT_FREQ (min (r.khz / 1000) 2047) k
    let s := { s with release := { s.release with counted := s.release.counted.filter (· != (r.domain, r.inst)) } }
    let s := logFault s (blockItem Err.RST_CLK_FAIL (identOf 0x04 0) [r.domain, r.inst, r.khz])
    failClock s r.domain r.inst

/-- CLOCK_MONITOR (R465). -/
def execClockMonitor (rs : List ClockReading) (s : State) : Host.Outcome State Fault Refusal :=
  .next (rs.foldl monitorClock s)

/-- REFCLK_RECOVERED (R469): port `h` leaves reset. -/
def execRefclkRecovered (h : PortId) (s : State) : Host.Outcome State Fault Refusal :=
  let s := setF s Reg.CLK_REF_STAT_REFCLK_OK (getF s Reg.CLK_REF_STAT_REFCLK_OK 0 ||| 2 ^ h.val) 0
  let s := { s with release := { s.release with counted := addOnce s.release.counted (1, h.val) } }
  let s := setF (setF s Reg.CLK_PLL_STAT_LOCKED 1 (pllNo 1 h.val)) Reg.CLK_PLL_STAT_COUNTED 1 (pllNo 1 h.val)
  .next (releasePort s h.val)

/-- RST_LAMP_XTAL (R466): the internal oscillator takes over. -/
def execRstLampXtal (s : State) : Host.Outcome State Fault Refusal :=
  .next (if onF s Reg.CLK_REF_STAT_LAMP_INTERNAL 0 then s
    else
      let s := setF (setF s Reg.CLK_REF_STAT_LAMP_INTERNAL 1 0) Reg.CLK_REF_STAT_LAMP_XTAL_OK 0 0
      let s := { s with tele := { s.tele with openSynced := false } }
      logFault s (blockItem Err.RST_LAMP_XTAL (identOf 0x03 0) []))

/-- Every chase PLL in lock loses it (R464, R487). -/
def loseLocks (s : State) : State :=
  (s.release.counted.filter (fun x => x.1 == 5)).foldl (fun s x => addF s Reg.CLK_LOCK_LOSSES 1 (pllNo x.1 x.2)) s

/-- RST_FABRIC_REF (R464): the oscillator in use fails. With the other good every PLL holds lock; with both
failed every chase PLL loses lock and the module is reset. -/
def execRstFabricRef (bGood : Bool) (s : State) : Host.Outcome State Fault Refusal :=
  .next (if onF s Reg.CLK_REF_STAT_FREF_SEL 0 then
      let s := setF s Reg.CLK_REF_STAT_FREF_B_OK 0 0
      resetNow (loseLocks (logFault s (blockItem Err.RST_FABRIC_REF (identOf 0x03 0) [1]))) 6
    else
      let s := setF s Reg.CLK_REF_STAT_FREF_A_OK 0 0
      let s := logFault s (blockItem Err.RST_FABRIC_REF (identOf 0x03 0) [0])
      if bGood then addF (setF s Reg.CLK_REF_STAT_FREF_SEL 1 0) Reg.CLK_FREF_SWITCHES 1 0
      else resetNow (loseLocks (setF s Reg.CLK_REF_STAT_FREF_B_OK 0 0)) 6)

/-- TIME_SYNC_POINT (R467, R487): the corrections of one sync point, in ns. -/
def execTimeSyncPoint (corrections : List Nat) (s : State) : Host.Outcome State Fault Refusal :=
  let l := s.syncs.filter (fun x => decide (s.lampTime < x.1 + 1000000000)) ++ [(s.lampTime, corrections.foldl max 0)]
  .next (setF { s with syncs := l } Reg.CLK_SYNC_ERR (min 255 ((l.map (·.2)).foldl max 0)) 0)

/-! ### Kindling (R483, R484) -/

/-- The chases of a wave that may kindle: released and DARK. -/
def waveChases (s : State) (w : Nat) : List Nat :=
  (List.range 256).filter (fun n => chaseWave n == w && chaseBeacon s n == Beacon.dark && s.release.released.contains (9, n))

/-- A chase begins to kindle, or, with a width of 0, is EXTINGUISHED (R484). -/
def kindleChase (s : State) (n : Nat) : State :=
  if widthOf s n = 0 then setChaseBeacon s n Beacon.extinguished
  else
    let s := railUp (setChaseBeacon s n Beacon.kindling) n
    { s with release := { s.release with kindling := s.release.kindling ++ [n] } }

/-- The next wave may begin (R483): at first every port die has trained or reached its 2 s limit; later ones
begin 256 lamp cycles after the wave before has finished. -/
def waveReady (s : State) : Bool :=
  if s.release.waves = 0 then
    (List.range 16).all (fun k => phase s k == Phase.up) || decide (s.release.poweredAt + 2000000000 ≤ s.lampTime)
  else decide (s.release.waveEnd + 10240 ≤ s.lampTime)

/-- KINDLING_WAVE (R483): the stack tier stands, keeper groups 2 and 3 have booted, the wave before is done. -/
def execKindlingWave (s : State) : Host.Outcome State Fault Refusal :=
  .next (if tierTrained s ∧ groupUp s 2 ∧ groupUp s 3 ∧ s.release.kindling = [] ∧ s.release.waves < 16 ∧ !s.power.shut
      ∧ waveReady s then
      let w := s.release.waves
      let ns := waveChases s w
      let s := setF { s with release := { s.release with waves := w + 1, waveEnd := s.lampTime } } Reg.RST_STAGE_WAVE w 0
      finishKindling (ns.foldl kindleChase s)
    else s)

/-- CHASE_LIT (R356, R484): with no packet inside the chase (R21), the self-test of a kindling chase ends; loads that wait for room try again. -/
def execChaseLit (n : ChaseId) (results : List CoreResult) (s : State) : Host.Outcome State Fault Refusal :=
  .next (if !s.release.kindling.contains n.val || !fabricClear s [] [n.val] then s
    else
      let s := setClock s n.val (getF s Reg.CPW_CLK_LIMIT n.val)
      let s := { s with release := { s.release with kindling := s.release.kindling.filter (· != n.val), waveEnd := s.lampTime } }
      finishKindling (retryCapacity (finishSelfTest s n.val results)))

end Sys2Proof.Machine
end

