-- ==== Sys2Proof/Machine/Views.lean ====
section
/-! DEFINITION. Register reads (R6, R7, R474, R528 to R536, R540 to R544): header and block words, words that
are computed when they are read, latched halves, and registers that a read clears. -/

namespace Sys2Proof.Machine

/-! ### Header words (R533 to R535) -/

/-- A bit of a word. -/
def bitAt (b : Bool) (i : Nat) : Nat := if b then 2 ^ i else 0

/-- `PAGE_CAPS` of a block type (R533, R535). -/
def pageCaps (ty : Nat) : Nat :=
  bitAt (fusedLock ty) 4 + bitAt (lampServed ty) 3 + bitAt ((fieldsOf ty).any (fun f => f.acc == .rwl)) 2
    + bitAt (decide (ty ∈ [0x0B, 0x23, 0x22, 0x0A, 0x20])) 1 + 1

/-- A word of a page header (R533), which the lamp domain serves in every beacon state. -/
def headerWord (s : State) (p ty n off : Nat) : Nat :=
  match off / 4 with
  | 0 => identOf ty n
  | 1 => 2 ^ 16
  | 2 => pageCaps ty
  | 3 => beaconOf s p + bitAt (onF s Reg.PAGE_BEACON_CHANGED p) 8
  | 4 => pageErr s p
  | 5 => bitAt (pageErr s p != 0) 1 + bitAt (onF s Reg.PAGE_BEACON_CHANGED p) 0
  | 6 => bitAt (onF s Reg.PAGE_IRQ_EN_ERR_EN p) 1 + bitAt (onF s Reg.PAGE_IRQ_EN_BEACON_EN p) 0
  | 7 => bitAt (onF s Reg.PAGE_CTL_RESET_REQ p) 2 + bitAt (onF s Reg.PAGE_CTL_QUIESCE_REQ p) 1
      + bitAt (beaconOf s p == Beacon.lit) 0
  | 8 => getF s Reg.PAGE_QUIESCE_HELD p * 2 ^ 16 + getF s Reg.PAGE_QUIESCE_IDLE p
  | 9 => bitAt (pageLocked s p) 0
  | 10 => getF s Reg.PAGE_TIME_LO p
  | 11 => getF s Reg.PAGE_TIME_HI p
  | _ => 0

/-! ### Block words -/

/-- The instance that a block register acts on: the page's, or the one a selector names (R343, R375, R487,
R525, R544). -/
def bankInst (s : State) (ty n off : Nat) : Nat :=
  if ty = 0x0B then
    if (0x44 ≤ off ∧ off < 0x50) ∨ (0x70 ≤ off ∧ off < 0x84) then getF s Reg.HST_PORT_SEL 0
    else if 0x54 ≤ off ∧ off < 0x68 then getF s Reg.HST_WIN_SEL 0 else n
  else if ty = 0x0C then
    if 0x44 ≤ off ∧ off < 0x60 then getF s Reg.SRV_Q_SEL 0
    else if 0x74 ≤ off ∧ off < 0x88 then getF s Reg.SRV_F_SEL 0 else n
  else if ty = 0x0E ∧ 0x64 ≤ off ∧ off < 0xA0 then getF s Reg.LOAD_F_SEL 0
  else if ty = 0x04 ∧ 0x48 ≤ off ∧ off < 0x50 then
    getF s Reg.CLK_PLL_SEL_DOMAIN 0 * 256 + getF s Reg.CLK_PLL_SEL_INSTANCE 0
  else n

/-- What a field gives to the word at an offset; a write-only field reads as zero. -/
def fieldPart (s : State) (inst off : Nat) (f : Fld) : Nat :=
  if f.acc = .wo then 0
  else if f.pair then
    if f.off = off then getF s f inst % 2 ^ 32 else if f.off + 4 = off then getF s f inst / 2 ^ 32 else 0
  else if f.off ≤ off ∧ off < f.off + 4 * f.count then getF s f inst ((off - f.off) / 4) * 2 ^ f.lo
  else 0

/-- A word as it is stored. -/
def storedWord (s : State) (ty n off : Nat) : Nat :=
  ((fieldsOf ty).map (fieldPart s (bankInst s ty n off) off)).sum

/-- `SYS.IRQ_FIRST` (R540). -/
def irqFirst (s : State) : Nat :=
  match s.io.irqPages with
  | p :: r => 2 ^ 31 + r.foldl min p
  | [] => 0

/-- The SHA-384 of a signing key's uncompressed point (R544). -/
def keyDigest (x y : Nat) : List Byte := sha384 (4 :: ((leBytes 48 x).reverse ++ (leBytes 48 y).reverse))

/-- The fused key of the selected slot (R544). -/
def selectedKey (s : State) : Option (Nat × Nat × Nat) := s.keys.find? (fun k => k.1 == getF s Reg.LAMP_KEY_SEL 0)

/-- `ERR.STAT` (R411): the newest recovery, or a live handover. -/
def errStat (s : State) : Nat :=
  if s.partner.sending.isSome then 6 * 2 ^ 28
  else match s.faults.recoveries.getLast? with
  | some r =>
    let ph := match r.phase with
      | .halting => if r.chases.all (fun n => !schedules s n || onF s Reg.CHS_SCHED_CTL_HALTED n) then 2 else 1
      | .retesting => 3
      | .reloading => 4
      | .replaying => 5
    2 ^ 31 + ph * 2 ^ 28 + r.chase
  | none => 0

/-- Chases in a beacon state. -/
def chasesIn (s : State) (b : Nat) : Nat := ((List.range 256).filter (fun n => chaseBeacon s n == b)).length

/-- `CHS.SLIP_STAT` (R179). -/
def slipStat (s : State) (n : Nat) : Nat :=
  let ch := getChase s n
  bitAt ch.frozen 31 + min 255 (ch.slips.countP (fun x => decide (3 ≤ x.source))) * 2 ^ 8 + min 127 (lagMax s n)

/-- The public half of the usage key, x then y, big-endian (R551). -/
def usageKeyBytes : List Byte :=
  match ecMul Config.usageKey (some p384G) 384 with
  | some (x, y) => beBytes 48 x ++ beBytes 48 y
  | none => List.replicate 96 0

/-- Words computed when they are read. `none` for a stored one. -/
def computedWord (s : State) (ty n off : Nat) : Option Nat :=
  let half := fun (v : Nat) (low : Nat) => if off = low then v % 2 ^ 32 else v / 2 ^ 32 % 2 ^ 32
  match ty, off with
  | 0x01, 0x040 => some (liveCores s)
  | 0x01, 0x044 => some (liveCores s * 320 / 1024)
  | 0x01, 0x074 => some (irqFirst s)
  | 0x01, 0x080 => some (bitAt (!s.pins.modFaultN) 1 + bitAt s.pins.modReady 0)
  | 0x02, 0x040 => some (half s.lampTime 0x040)
  | 0x02, 0x044 => some (half s.lampTime 0x040)
  | 0x02, 0x050 => some (Config.firmwareVersion 0 % 2 ^ 32)
  | 0x02, 0x058 => some (bitAt (selectedKey s).isSome 0)
  | 0x03, 0x048 => some (chasesIn s Beacon.fault * 2 ^ 16 + chasesIn s Beacon.lit)
  | 0x06, 0x040 => some (int16 (hottest s).2)
  | 0x06, 0x044 => some (hottest s).1
  | 0x06, 0x060 =>
    let p := getPair s (getF s Reg.THM_SENSOR_SEL 0)
    some (int16 p.b * 2 ^ 16 + int16 p.a)
  | 0x06, 0x064 =>
    let p := getPair s (getF s Reg.THM_SENSOR_SEL 0)
    some (p.st.code * 2 ^ 16 + int16 p.used)
  | 0x06, 0x068 => some (pairsIn s [.oneFailed, .bothFailed] * 2 ^ 16 + pairsIn s [.flagged, .suspect])
  | 0x07, 0x040 => some (int16 (usedOf s inletPair))
  | 0x07, 0x044 => some (int16 (usedOf s outletPair))
  | 0x08, 0x044 => some (errStat s)
  | 0x08, 0x064 => some s.faults.log.length
  | 0x08, 0x0D8 => some (errataWord s (getF s Reg.ERR_ERRATA_SEL 0))
  | 0x08, 0x0DC => some (segCount s (· == 2) * 2 ^ 16 + segCount s (· == 1))
  | 0x08, 0x0F0 =>
    some (((List.range 4).map (fun g => bitAt (getF s Reg.KPR_STATE 0 g == 4) (4 + g) + bitAt (getF s Reg.KPR_STATE 0 g == 3) g)).sum)
  | 0x08, 0x104 => some (bitAt (partnerReady s) 31 + bitAt (onF s Reg.ERR_PARTNER_STAT_HANDED 0) 30 + partnerReason s)
  | 0x08, 0x124 => some (extWord s (getF s Reg.ERR_ERRATA_EXT_SEL 0))
  | 0x08, 0x128 => some (s.errata.ext.length * 2 ^ 16 + segCount s (decide <| 2 < ·))
  | 0x0C, 0x05C =>
    let q := getF s Reg.SRV_Q_SEL 0
    let mine := s.serve.streams.filter (fun e => e.2.queue == q)
    some (bitAt (mine.any (fun e => e.2.state == 4 && e.2.holdRing)) 1 + bitAt (onF s Reg.SRV_Q_CTL_ENABLE q || mine.any (fun e => !e.2.ended)) 0)
  | 0x0C, 0x098 =>
    some (s.serve.streams.countP (fun e => e.2.state == 0) * 2 ^ 15 + s.serve.streams.countP (fun e => e.2.live))
  | 0x20, 0x040 => some (half (getChase s n).time 0x040)
  | 0x20, 0x044 => some (half (getChase s n).time 0x040)
  | 0x20, 0x04C => some (slipStat s n)
  | 0x21, 0x040 => some (storedWord s ty n off / 2 ^ 13 * 2 ^ 13 + bitAt (localSense s n) 12 + storedWord s ty n off % 2 ^ 12)
  | 0x23, 0x040 => some (storedWord s ty n off / 2 ^ 6 * 2 ^ 6 + n % 4 * 2 ^ 4 + storedWord s ty n off % 2 ^ 4)
  | 0x30, 0x048 => some (getQ s n).sqHead
  | 0x30, 0x04C => some (getQ s n).rqTail
  | 0x02, _ =>
    if 0x060 ≤ off ∧ off < 0x090 then
      some (((selectedKey s).map (fun k => leAt (keyDigest k.2.1 k.2.2) (off - 0x060) 4)).getD 0)
    else none
  | 0x08, _ =>
    if 0x080 ≤ off ∧ off < 0x0C0 then
      some (((s.faults.log[getF s Reg.ERR_LOG_SEL 0]?).map (fun r => leAt (recordBytes r) (off - 0x080) 4)).getD 0)
    else none
  | 0x13, _ =>
    if 0x100 ≤ off ∧ off < 0x160 then some (leAt usageKeyBytes (off - 0x100) 4) else none
  | 0x0E, _ =>
    if 0x070 ≤ off ∧ off < 0x0A0 then
      some (((getForme s (getF s Reg.LOAD_F_SEL 0)).map (fun f => leAt f.ident (off - 0x070) 4)).getD 0)
    else none
  | _, _ => none

/-- A 32-bit word at an offset of a page. A page that is DARK reads zero in its block registers (R474); one
in FAULT or EXTINGUISHED reads what it holds (R536). -/
def wordAt (s : State) (p off : Nat) : Nat :=
  match pageType p with
  | some (ty, n) =>
    if off < 0x040 then headerWord s p ty n off
    else if beaconOf s p = Beacon.dark then 0
    else (computedWord s ty n off).getD (storedWord s ty n off)
  | none => 0

/-- A page offset that holds the low half of a 64-bit pair (R7); the header's time is one (R533). -/
def pairLowAt (p off : Nat) : Bool :=
  off == 0x028 || (pageType p).any (fun t => (fieldsOf t.1).any (fun f => f.pair && f.off == off))

/-- A page offset that holds the high half of a pair. -/
def pairHighAt (p off : Nat) : Bool := decide (4 ≤ off) && pairLowAt p (off - 4)

/-! ### Debug windows (R555) -/

/-- The first address of the debug windows (R528). -/
def debugBase : Nat := 0x1000000

/-- A refused access of a debug window, counted. -/
def debugRefused (s : State) : State := addF s Reg.DBG_REFUSED 1 0

/-- The core and local address that a debug address maps to while the lock is open. -/
def debugTarget (s : State) (addr : Nat) : Option (CoreRef × Nat) :=
  let i := (addr - debugBase) / 0x60000
  if onF s Reg.DBG_CORE_SEL_VALID 0 i then
    some (⟨Fin.ofNat 1024 (getF s Reg.DBG_CORE_SEL_ROW 0 i), Fin.ofNat 1024 (getF s Reg.DBG_CORE_SEL_LCOL 0 i)⟩,
      (addr - debugBase) % 0x60000)
  else none

/-- A read of a debug window. The layout of a core's unit state is not given: a free value (log entry 2). -/
def debugRead (s : State) (addr : Nat) : Nat × State :=
  if onF s Reg.DBG_OPEN 0 then
    match debugTarget s addr with
    | some (c, a) =>
      if a < 0x50000 then (leNat (storeRead s c a 4), s)
      else
        let v := nextFree s
        (v.1 % 2 ^ 32, v.2)
    | none => (0, s)
  else (0, debugRefused s)

/-! ### Reads -/

/-- The key under which a requester's half of a pair is latched (R530). -/
def latchKey (r : Requester) (addr : Nat) : Nat := reqNum r * 2 ^ 26 + addr

/-- An access of a bad width or alignment, or to a reserved range (R529). -/
def flagBadAccess (s : State) (addr : Nat) : State :=
  let p := if (pageType (addr / 0x1000)).isSome then addr / 0x1000 else 0
  let s := setPageErr s p Reg.PAGE_ERR_BAD_ACCESS 1
  addF (setF s Reg.SYS_BAD_ACCESS_ADDR addr 0) Reg.SYS_BAD_ACCESS_CNT 1 0

/-- The oldest expired handle popped; an empty FIFO sets UNDERRUN (R542). Expiries held back go on (R541). -/
def popExpired (s : State) : Nat × State :=
  match s.serve.convFifo with
  | h :: r =>
    let s := { s with serve := { s.serve with convFifo := r } }
    (h, drainExpiries s s.serve.convWait)
  | [] => (0, setPageErr s 11 Reg.PAGE_ERR_UNDERRUN 1)

/-- A read's own effect on the register: RC registers clear (R6). -/
def clearOnRead (s : State) (p off : Nat) : State :=
  match pageType p with
  | some (ty, n) =>
    ((fieldsOf ty).filter (fun f => f.acc == .rc && f.off == off && !f.pair)).foldl (fun s f => setF s f 0 n) s
  | none => s

/-- A read of one 32-bit word by a requester (R6, R7, R474, R529, R531, R542). What a high half reads before its low half
has been read, and how long a latched half stays, R7 leaves open: the live half, and until the low half is read again
(DESIGN CHOICE, log entry 83). -/
def readWord (s : State) (r : Requester) (addr : Nat) : Nat × State :=
  let p := addr / 0x1000
  let off := addr % 0x1000
  if addr % 4 ≠ 0 ∨ 0x4000000 ≤ addr then (0, flagBadAccess s addr)
  else if debugBase ≤ addr then debugRead s addr
  else if (pageType p).isNone then (0, flagBadAccess s addr)
  else if addr = 0xB0A0 ∧ answers s p then
    let x := popExpired s
    (x.1 % 2 ^ 32, { x.2 with io := { x.2.io with pairLatch := kset x.2.io.pairLatch (latchKey r addr) (x.1 / 2 ^ 32) } })
  else if pairLowAt p off then
    (wordAt s p off, { s with io := { s.io with pairLatch := kset s.io.pairLatch (latchKey r addr) (wordAt s p (off + 4)) } })
  else if pairHighAt p off then
    ((kget? s.io.pairLatch (latchKey r (addr - 4))).getD (wordAt s p off), s)
  else (wordAt s p off, if answers s p then clearOnRead s p off else s)

/-- A read by a requester: its value is returned to it. -/
def readReg (s : State) (r : Requester) (addr : Nat) : State :=
  let x := readWord s r addr
  readResult x.2 r x.1

/-! ### Commands -/

/-- SLIP_LONGEST (R179). -/
def execSlipLongest (r : Requester) (n : ChaseId) (s : State) : Host.Outcome State Fault Refusal :=
  .next (readReg s r ((256 + n.val) * 0x1000 + 0x060))

/-- PARK_MAX (R179). -/
def execParkMax (r : Requester) (n : ChaseId) (s : State) : Host.Outcome State Fault Refusal :=
  .next (readReg s r ((256 + n.val) * 0x1000 + 0x098))

/-- RING_LOST (R411). -/
def execRingLost (r : Requester) (s : State) : Host.Outcome State Fault Refusal := .next (readReg s r 0x7058)

/-- SUPPRESSED (R411). -/
def execSuppressed (r : Requester) (s : State) : Host.Outcome State Fault Refusal := .next (readReg s r 0x705C)

/-- LOG_LOST (R411). -/
def execLogLost (r : Requester) (s : State) : Host.Outcome State Fault Refusal := .next (readReg s r 0x7068)

/-- CONV_EXPIRED (R542): a read of the low half of `SRV.CONV_EXPIRED`. -/
def execConvExpired (r : Requester) (s : State) : Host.Outcome State Fault Refusal := .next (readReg s r 0xB0A0)

/-- A 64-bit read by a requester (R529, R530): both halves of a pair at once; elsewhere it is a bad access. -/
def readWide (s : State) (addr : Nat) : Nat × State :=
  let p := addr / 0x1000
  let off := addr % 0x1000
  if addr % 8 ≠ 0 ∨ 0x4000000 ≤ addr then (0, flagBadAccess s addr)
  else if debugBase ≤ addr then
    if onF s Reg.DBG_OPEN 0 then
      let x := debugRead s addr
      let y := debugRead x.2 (addr + 4)
      (x.1 + 2 ^ 32 * y.1, y.2)
    else (0, debugRefused s)
  else if (pageType p).isNone || !pairLowAt p off then (0, flagBadAccess s addr)
  else if addr = 0xB0A0 ∧ answers s p then popExpired s
  else (wordAt s p off + 2 ^ 32 * wordAt s p (off + 4), s)

/-- A 64-bit read: its value is returned to the requester. -/
def readRegWide (s : State) (r : Requester) (addr : Nat) : State :=
  let x := readWide s addr
  readResult x.2 r x.1

/-- PAIR_LOW_READ (R7, R530): a read of 32 bits, which latches the high half, or of both halves; of an address that is
no low half, a plain read. -/
def execPairLowRead (r : Requester) (o : ReadAt) (s : State) : Host.Outcome State Fault Refusal :=
  .next (if o.wide then readRegWide s r o.addr else readReg s r o.addr)

/-- BAD_ACCESS (R529): no effect, and a read returns zero. -/
def execBadAccess (r : Requester) (addr : Nat) (isRead : Bool) (s : State) : Host.Outcome State Fault Refusal :=
  .next (let s := flagBadAccess s addr
    if isRead then readResult s r 0 else s)

/-- NO_ANSWER (R531): only a block register of a page in KINDLING, LIT or OCCULTING that the lamp
controller does not serve can time out. -/
def execNoAnswer (r : Requester) (addr : Nat) (isRead : Bool) (s : State) : Host.Outcome State Fault Refusal :=
  .next (
    let p := addr / 0x1000
    if (pageType p).any (fun t => !lampServed t.1) && answers s p && decide (0x040 ≤ addr % 0x1000) then
      let s := setPageErr s p Reg.PAGE_ERR_NO_ANSWER 1
      if isRead then readResult s r 0xFFFFFFFF else s
    else s)

end Sys2Proof.Machine
end

