-- ==== Sys2Proof/Machine/Management.lean ====
section
/-! DEFINITION. The management endpoint (R517 to R521, R523): its two buses, its messages and what they answer.
Bus 0 is I3C, bus 1 SMBus. The layouts of the standards' messages are outside the spec: a reply is the values
that R519 names, or free bytes (log entries 1, 2). -/

namespace Sys2Proof.Machine

/-- A bus that serves (R523, R556). -/
def busOk (s : State) (bus : Nat) : Bool :=
  if bus = 0 then onF s Reg.MGT_BUS_STAT_I3C_OK 0 else onF s Reg.MGT_BUS_STAT_SMB_OK 0

/-- The serving mark of a bus. -/
def setBus (s : State) (bus : Nat) (b : Bool) : State :=
  if bus = 0 then flagF s Reg.MGT_BUS_STAT_I3C_OK b 0 else flagF s Reg.MGT_BUS_STAT_SMB_OK b 0

/-- A message on a bus: served and counted (R556), or without effect while the bus does not serve. -/
def served (s : State) (bus : Nat) (f : State → State) : State :=
  if busOk s bus then f (addF s Reg.MGT_MESSAGES 1 0) else s

/-- A message that may come on either bus. -/
def servedAny (s : State) (f : State → State) : State := served s (if busOk s 0 then 0 else 1) f

/-- A reply on a bus. -/
def reply (s : State) (bus : Nat) (bs : List Byte) : State :=
  { s with io := { s.io with mgmtOut := s.io.mgmtOut ++ [(bus, bs)] } }

/-- A reply whose content a standard outside the spec fixes: one free byte stands for it. -/
def replyFree (s : State) (bus : Nat) : State :=
  let v := nextFree s
  reply v.2 bus (leBytes 1 v.1)

/-- A numeric sensor of R519, in register units: hottest value in use, inlet, outlet, flow, module power, cap,
input voltage, live logical cores. -/
def numericSensor (s : State) (i : Nat) : Option Nat :=
  ([int16 (hottest s).2, int16 (usedOf s inletPair), int16 (usedOf s outletPair), getF s Reg.CLT_FLOW 0,
    getF s Reg.PWR_MODULE_P 0, getF s Reg.PWR_CAP 0, getF s Reg.PWR_INPUT_V 0, liveCores s] : List Nat)[i]?

/-- A state sensor of R519: module ready, partner ready, coolant in specification. -/
def stateSensor (s : State) (i : Nat) : Option Nat :=
  ([bitAt s.pins.modReady 0, bitAt (partnerReady s) 0, getF s Reg.CLT_STAT_IN_SPEC 0] : List Nat)[i]?

/-- The oldest event read (R519): the signal goes away with the last one. -/
def readEvent (s : State) (bus : Nat) : State :=
  match s.mgmt.events with
  | r :: rest =>
    let s := { s with mgmt := { s.mgmt with events := rest }, pins := { s.pins with alertN := rest.isEmpty } }
    let s := setF s Reg.MGT_EVENTS_PENDING (min rest.length 0xFFFF) 0
    reply s bus (eventBytes r)
  | [] => reply s bus []

/-- MCTP_CONTROL (R517, R519): the bus owner assigns the endpoint its EID on that bus. -/
def execMctpControl (bus : Fin 2) (eid : Nat) (s : State) : Host.Outcome State Fault Refusal :=
  .next (served s bus.val (fun s =>
    let s := if bus.val = 0 then setF s Reg.MGT_EID_EID_I3C eid 0 else setF s Reg.MGT_EID_EID_SMB eid 0
    replyFree s bus.val))

/-- PLDM_BASE (R519): types and versions, by DSP0240. -/
def execPldmBase (bus : Fin 2) (_cmd : Nat) (s : State) : Host.Outcome State Fault Refusal :=
  .next (served s bus.val (fun s => replyFree s bus.val))

/-- PLDM_MONITORING (R519). The command numbers are DSP0248's: 0x04 SetEventReceiver, 0x0B an event read, 0x11
a numeric sensor, 0x21 a state sensor; sensors count in the order of R519. -/
def execPldmMonitoring (bus : Fin 2) (cmd arg : Nat) (s : State) : Host.Outcome State Fault Refusal :=
  .next (served s bus.val (fun s =>
    if cmd = 0x04 then replyFree { s with mgmt := { s.mgmt with receiver := decide (arg ≠ 0) } } bus.val
    else if cmd = 0x0B then readEvent s bus.val
    else if cmd = 0x11 then
      match numericSensor s arg with
      | some v => reply s bus.val (leBytes 4 v)
      | none => replyFree s bus.val
    else if cmd = 0x21 then
      match stateSensor s arg with
      | some v => reply s bus.val (leBytes 1 v)
      | none => replyFree s bus.val
    else replyFree s bus.val))

/-- The ordering code of a grade (00_scope.md, R543). -/
def orderingCode (grade : Nat) : List Byte :=
  (if grade = 0 then "UW-1048F-B1" else "UW-0917S-B1").toList.map (fun c => BitVec.ofNat 8 c.toNat)

/-- PLDM_FRU (R519): serial, ordering code, grade, stepping. -/
def execPldmFru (bus : Fin 2) (s : State) : Host.Outcome State Fault Refusal :=
  .next (served s bus.val (fun s =>
    reply s bus.val ((List.range 4).flatMap (fun k => leBytes 4 (getF s Reg.SYS_SERIAL 0 k))
      ++ orderingCode (getF s Reg.SYS_GRADE 0) ++ leBytes 1 (getF s Reg.SYS_GRADE 0) ++ leBytes 1 (getF s Reg.SYS_STEPPING 0))))

/-- PLDM_FIRMWARE_UPDATE (R520): component 0 keeper firmware, 1 lamp controller firmware, 2 port die firmware,
3 stack profiles. One that fails verification is discarded. -/
def execPldmFirmwareUpdate (component : Nat) (image : List Byte) (verified : Bool) (s : State) :
    Host.Outcome State Fault Refusal :=
  .next (servedAny s (fun s =>
    if verified && decide (component < 4) then
      { s with mgmt := { s.mgmt with
          staged := s.mgmt.staged.filter (fun c => c.1 != component) ++ [(component, image)] } }
    else s))

/-- READ_REG (R521): the value, after a status byte of 0. -/
def execReadReg (bus : Fin 2) (addr : Nat) (s : State) : Host.Outcome State Fault Refusal :=
  .next (served s bus.val (fun s =>
    let x := readWord s .management addr
    reply (readResult x.2 .management x.1) bus.val (0 :: leBytes 4 x.1)))

/-- What the lamp domain answers by itself (R410): page headers and the pages that it serves. -/
def lampAnswers (addr : Nat) : Bool :=
  decide (addr < debugBase) && (decide (addr % 0x1000 < 0x040) || (pageType (addr / 0x1000)).all (fun t => lampServed t.1))

/-- READ_REG_TIMEOUT (R521): no answer within 1 ms; status TIMEOUT, a status byte of 1. A register of the lamp
domain always answers. -/
def execReadRegTimeout (bus : Fin 2) (addr : Nat) (s : State) : Host.Outcome State Fault Refusal :=
  .next (if lampAnswers addr then s else served s bus.val (fun s => reply s bus.val [1]))

/-- READ_FAULT_LOG (R410, R519): record `i` of the log, the newest first; none past its end. -/
def execReadFaultLog (bus : Fin 2) (i : Nat) (s : State) : Host.Outcome State Fault Refusal :=
  .next (served s bus.val (fun s => reply s bus.val (((s.faults.log[i]?).map recordBytes).getD [])))

/-- READ_USAGE (R519, R550): the held record of this SEQ; none where the store does not hold it. -/
def execReadUsage (bus : Fin 2) (seq : Nat) (s : State) : Host.Outcome State Fault Refusal :=
  .next (served s bus.val (fun s =>
    reply s bus.val (((s.tele.store.find? (fun r => r.seq == seq)).map (·.bytes)).getD [])))

/-- SHUTDOWN (R438, R519): the rail shutdown sequence with cause 4. -/
def execShutdown (s : State) : Host.Outcome State Fault Refusal := .next (servedAny s (fun s => shutdownSeq s 4))

/-- MODULE_RESET (R471, R519): as `RST.MOD_CTL`. -/
def execModuleReset (force : Bool) (s : State) : Host.Outcome State Fault Refusal :=
  .next (servedAny s (fun s => swReset s force))

/-- SETDASA (R518): the I3C dynamic address. -/
def execSetdasa (addr : Nat) (s : State) : Host.Outcome State Fault Refusal :=
  .next (if busOk s 0 then { s with mgmt := { s.mgmt with dynAddr := addr % 128 } } else s)

/-- ENTDAA (R518): the I3C dynamic address. -/
def execEntdaa (addr : Nat) (s : State) : Host.Outcome State Fault Refusal :=
  .next (if busOk s 0 then { s with mgmt := { s.mgmt with dynAddr := addr % 128 } } else s)

/-- MGT_BUS_SHORT (R523): the bus is ignored until it reads idle for 1 s, counted from the last finding. -/
def execMgtBusShort (bus : Fin 2) (s : State) : Host.Outcome State Fault Refusal :=
  let was := s.mgmt.ignored.any (fun x => x.1 == bus.val)
  let s := setBus s bus.val false
  let s := { s with mgmt := { s.mgmt with
    ignored := s.mgmt.ignored.filter (fun x => x.1 != bus.val) ++ [(bus.val, s.lampTime)] } }
  .next (if was then s else logFault s (blockItem Err.MGT_BUS_SHORT (identOf 0x12 0) [bus.val + 1]))

/-- Shorted buses that have read idle for 1 s serve again (R523). -/
def busesReturn (s : State) : State :=
  let back := s.mgmt.ignored.filter (fun x => decide (x.2 + 1000000000 ≤ s.lampTime))
  let s := { s with mgmt := { s.mgmt with ignored := s.mgmt.ignored.filter (fun x => !decide (x.2 + 1000000000 ≤ s.lampTime)) } }
  back.foldl (fun s x => setBus s x.1 true) s

/-- MGT_PIN_STUCK (R523): 0 RESET_N held low for 10 s, 1 THERMTRIP_N, 2 ALERT_N; a stuck output is released. -/
def execMgtPinStuck (pin : Fin 3) (s : State) : Host.Outcome State Fault Refusal :=
  let t := match pin.val with
    | 1 => { s with pins := { s.pins with thermtripN := true } }
    | 2 => { s with pins := { s.pins with alertN := true } }
    | _ => s
  .next (if pin.val = 0 ∧ !agedAt s s.pins.lowSince 10000000000 then s
    else logFault t (blockItem Err.MGT_PIN_STUCK (identOf 0x12 0) [pin.val + 1]))

end Sys2Proof.Machine
end

