-- ==== Sys2Proof/Machine/Press.lean ====
section
/-! DEFINITION. The press and its exact sums (R55 to R72, R86, R107 to R115). -/

namespace Sys2Proof.Machine

/-- An accumulator of a core, empty until a term enters it. -/
def getAcc (s : State) (c : CoreRef) (i : Nat) : Acc := kgetD (getCore s c).accs i (Acc.empty 0 0)
def setAcc (s : State) (c : CoreRef) (i : Nat) (a : Acc) : State :=
  modCore s c (fun k => { k with accs := kset k.accs i a })
def clearAcc (s : State) (c : CoreRef) (i : Nat) : State := modCore s c (fun k => { k with accs := kdel k.accs i })

/-- No term and no partial has entered yet, and no anchor has been raised. -/
def Acc.fresh (a : Acc) : Bool := a.terms == 0 && a.partials == 0 && a.recomputes == 0 && a.operands.isEmpty

/-- The accumulator that takes an element's terms: begun at A0 with the first (R60). -/
def Acc.begin_ (a : Acc) (anchor : Int) (element : Nat) : Acc := if a.fresh then Acc.empty anchor element else a

/-- Metadata bytes of a data row (R113). -/
def metaBytes (fmt : Fmt) (sparse : Bool) : Nat :=
  match fmt with
  | .n4 | .i4 => if sparse then 80 else 8
  | .t2 => if sparse then 144 else 8
  | _ => 0

/-- Side rows of a tile (R113). -/
def sideRows (fmt : Fmt) (sparse : Bool) : Nat :=
  match fmt with
  | .n4 | .i4 => if sparse then 5 else 1
  | .t2 => if sparse then 9 else 1
  | _ => 0

/-- The local addresses of a tile's data row and of its metadata (R113). -/
def tileRow (fmt : Fmt) (sparse : Bool) (tile d : Nat) : Nat := rowAt tile + 128 * (sideRows fmt sparse + d)
def tileMeta (fmt : Fmt) (sparse : Bool) (tile d : Nat) : Nat := rowAt tile + metaBytes fmt sparse * d

/-- A tile's data row and its metadata, read through the wide port (R93, R102 to R105, R433); none where the access
has no effect. -/
def tileRead (s : State) (c : CoreRef) (fmt : Fmt) (sparse : Bool) (tile d : Nat) (stamp : Word64) (instr : Nat) :
    State × Option (Row × List Byte) :=
  let a := tileRow fmt sparse tile d
  let b := tileMeta fmt sparse tile d
  let n := metaBytes fmt sparse
  match accessFault s c a 128, accessFault s c b n with
  | some code, _ => (raise s ((accessItem s c code a).at_ stamp instr), none)
  | none, some code => (raise s ((accessItem s c code b).at_ stamp instr), none)
  | none, none =>
    let s := meetWide (meetRow s c a (some (stamp, instr))) c b n (some (stamp, instr))
    let row := readRow s c a
    (s, some (⟨row.bytes, row.poison || storePoisoned s c b n⟩, storeRead s c b n))

/-- The stationary elements of a fed row with its metadata (R113, R114). -/
def fedElems (fmt : Fmt) (sparse : Bool) (row meta_ : List Byte) : List Elem :=
  if sparse && isFourBit fmt then sparseElems fmt row meta_ else rowElems fmt row meta_

/-- Elements of a press-file row of a held format (R107). -/
def heldPerRow : Fmt → Nat
  | .n4 | .i4 => 256
  | .t2 => 512
  | .f8 => 128
  | .b16 => 64
  | _ => 32

/-- The held elements from file row `i` on, `n` rows, with their scales, and their poison. -/
def heldElems (k : Core) (fmt : Fmt) (i n : Nat) : List Elem × Bool :=
  let rows := (List.range n).map (fun j => (fileRow k.file ((i + j) % 32) 128, fileRow k.side ((i + j) % 32) 16))
  (rows.flatMap (fun r => rowElems fmt r.1.bytes r.2.bytes), rows.any (fun r => r.1.poison || r.2.poison))

/-- The pairs that meet in one press cycle (R111). -/
def pairsPerCycle (held fed : Fmt) (n : Nat) : Nat :=
  if isFourBit held && isFourBit fed then n else if held = .f8 then 128 else 32

/-- The cycles in which one feed forms products (R111, R137): those in which some pair is not skipped. -/
def pressCycles (held fed : Fmt) (xs hs : List Elem) : Nat :=
  let m := pairsPerCycle held fed xs.length
  let ps := (xs.zip hs).map (fun p => decide (p.1 ≠ .skip) && decide (p.2 ≠ .skip))
  (List.range ((xs.length + m - 1) / m)).countP (fun i => ((ps.drop (m * i)).take m).any id)

/-- The row and metadata that a feed uses, in the latch. None where the access has no effect or no row is latched. -/
def feedRow (s : State) (o : FeedOp) : State × Option Latch :=
  let c := o.core
  if o.latched then
    match (getCore s c).latch with
    | some l =>
      if 0 < l.left then (modCore s c (fun k => { k with latch := some { l with left := l.left - 1 } }), some l) else (s, none)
    | none => (s, none)
  else
    match tileRead s c o.fed o.sparse o.tile o.dataRow o.stamp o.instr with
    | (s, some (row, meta_)) =>
      let l : Latch := ⟨row, meta_, 0, false⟩
      (modCore s c (fun k => { k with latch := some l }), some l)
    | (s, none) => (s, none)

/-- The reduction record that names an element of a tensor in the layout of a core's part, with the forme and the part
(R190). -/
def recordOf (s : State) (c : CoreRef) (tensor element : Nat) : Option (Forme × Placed × Redn) :=
  (partOfCore s c).bind (fun x =>
    let b := layoutBytes x.2.1.image x.2.2.layer x.2.2.layout
    (((layoutParts b).flatMap (rednsOf b)).find? (fun r => r.tensor == tensor
      && decide (r.first ≤ element ∧ element < r.first + r.count))).map (fun r => (x.2.1, x.2.2, r)))

/-- The A0 of an element: its record's, else the operand's (R60, R190). -/
def startA0 (s : State) (c : CoreRef) (tensor element : Nat) (anchor : Int) : Int :=
  (recordOf s c tensor element).elim anchor (fun x => x.2.2.a0)

/-- The owning core of a record (R190). -/
def ownerOf (x : Forme × Placed × Redn) (c : CoreRef) : CoreRef :=
  ((x.1.parts.find? (fun q => q.live && q.layer == x.2.1.layer && q.part == x.2.2.ownerPart)).map (fun q =>
    q.coreAt x.2.2.ownerRow x.2.2.ownerCol)).getD c

/-- The A0 of a feed's sum: its element's, or the overlay target's U_A0 (R60, R273). -/
def feedA0 (s : State) (o : FeedOp) : Int :=
  match o.uTarget with
  | some t => overlayA0 s o.core t
  | none => startA0 s o.core o.tensor o.element o.anchor

/-- FEED (R55 to R58, R107 to R115): the fed row's products with the held rows enter one long
accumulator. A token that did not choose the tile's expert, or does not pin its overlay, holds zero blocks (R252, R281); one
that chose a cold expert that has not landed waits for it (R251, R268), and so does the core. The rows of a private expert are
dense T2 or four-bit (R270). -/
def execFeed (o : FeedOp) (s : State) : Host.Outcome State Fault Refusal :=
  let o := { o with sparse := o.sparse && !privateTile s o.core (rowAt o.tile) }
  .next (if pairAccepted o.held o.fed && !coldWaits s o.core (rowAt o.tile) o.stamp then
      asOp s o.core (opCode 1 1) (fun s =>
      match feedRow s o with
      | (s, none) => s
      | (s, some l) =>
        let c := o.core
        let xs := fedElems o.fed o.sparse l.row.bytes l.meta_
        let n := (xs.length + heldPerRow o.held - 1) / heldPerRow o.held
        let s := meetFile s c 1 ((List.range n).flatMap (fun j => [(o.file + j) % 32, 32 + (o.file + j) % 32]))
        let ys := heldElems (getCore s c) o.held o.file n
        let hs := if meetsTile s c (rowAt o.tile) o.expert o.stamp then ys.1.take xs.length else List.replicate xs.length .skip
        let t := meetTerms o.fed o.held xs hs
        let a := ((getAcc s c o.acc.val).begin_ (feedA0 s o) o.element).addTerms t
        let s := setAcc s c o.acc.val { a with poison := a.poison || l.row.poison || ys.2 }
        modCore s c (fun k => { k with cntPress := bump k.cntPress (pressCycles o.held o.fed xs hs)
                                       cntZeroSkip := bump k.cntZeroSkip t.skips }))
    else s)

/-- The latch of a row fed in the last cycle, kept for `cycles` cycles of which that was the first, 16 at most; a
row kept already is not kept longer. -/
def Latch.keep (l : Latch) (cycles : Nat) : Latch := if l.kept then l else { l with left := min cycles 16 - 1, kept := true }

/-- LATCH (R110): the row fed last is kept for up to 16 cycles. -/
def execLatch (c : CoreRef) (cycles : Nat) (s : State) : Host.Outcome State Fault Refusal :=
  .next (asOp s c (opCode 1 2) (fun s => modCore s c (fun k => { k with latch := k.latch.map (fun l => l.keep cycles) })))

/-- FILE_LOAD (R107): a data row, or the eight side entries that one row of the store holds. -/
def execFileLoad (o : OpAt) (addr : Nat) (side : Bool) (row : Fin 32) (s : State) : Host.Outcome State Fault Refusal :=
  let c := o.core
  .next (asOp s c (opCode 1 3) (fun s =>
      onAccess s c (rowAt addr) 128 (some (o.stamp, o.instr)) (fun s =>
        let s := meetRow s c (rowAt addr) (some (o.stamp, o.instr))
        let r := readRow s c (rowAt addr)
        if side then
          modCore s c (fun k => { k with side := (List.range 8).foldl (fun m i =>
            kset m ((row.val + i) % 32) ⟨slice r.bytes (16 * i) 16, r.poison⟩) k.side }.fresh 1
            ((List.range 8).map (fun i => 32 + (row.val + i) % 32)))
        else modCore s c (fun k => { k with file := kset k.file row.val r }.fresh 1 [row.val]))))

/-! ### Closing a reduction (R64 to R77) -/

/-- A LONG_PARTIAL flit with one record to the owning core (R68). A flit holds one or two records: that a
contributor sends one in each is a DESIGN CHOICE (log entry 74). -/
def sendPartial (s : State) (c owner : CoreRef) (a : Acc) (stamp : Word64) : State :=
  sendTo s c owner Kind.longPartial 1 stamp.toNat (slice a.record 0 64 ++ [1]) a.poison

/-- Until when an element's operands are retained (R71, R190): the RETAIN_UNTIL of its reduction record, in the pass that
runs; without a record, as long as the schedule counter can tell. -/
def retainUntil (s : State) (c : CoreRef) (tensor element : Nat) : Nat :=
  let t := (getChase s (chaseOf c)).time
  match recordOf s c tensor element with
  | some (_, p, r) =>
    (t + r.retainUntil + (if p.schedLen = 0 then 0 else 2 ^ 48 - (t + 2 ^ 48 - p.start) % 2 ^ 48 % p.schedLen)) % 2 ^ 48
  | none => (t + 2 ^ 46) % 2 ^ 48

/-- A contributor keeps an element's accumulator for a RE_ANCHOR (R71). -/
def retain (s : State) (c : CoreRef) (stamp : Word64) (tensor : Nat) (a : Acc) : State :=
  let u := retainUntil s c tensor a.element
  modCore s c (fun k =>
    let others := k.retained.filter (fun x => !(x.stamp == stamp.toNat && x.tensor == tensor && x.element == a.element))
    { k with retained := others ++ [⟨stamp.toNat, tensor, a.element, u, a⟩] })

/-- The retained accumulator of a reduction's element. -/
def retainedAt (s : State) (c : CoreRef) (stamp : Word64) (tensor element : Nat) : Option Retained :=
  (getCore s c).retained.find? (fun x => x.stamp == stamp.toNat && x.tensor == tensor && x.element == element
    && !reached (getChase s (chaseOf c)).time 0 x.until_)

/-- The element is closed on this core: settled by recomputes, clamped where it still overflows
(R65 to R67). An owner of a split element has recomputed already (R70) and only clamps. -/
def settleAcc (s : State) (o : CloseOp) (a : Acc) : State × Acc :=
  let r := if o.split then ({ a with recomputes := 3 } : Acc).closed else a.closed
  let n := r.1.recomputes - a.recomputes
  let s := if o.split then s else recomputeSlips s o.core o.recomputeLen n
  let s := countNum s (chaseOf o.core) o.layer (fun x => { x with
    recomputes := bump x.recomputes (if o.split then 0 else n), exhausted := bump x.exhausted (if r.2 then 1 else 0)
    nans := bump x.nans (if r.1.nan then 1 else 0) })
  (if r.2 then raise s ((coreItem s Err.NUM_WINDOW_EXHAUSTED o.core [r.1.element]).at_ o.stamp o.instr) else s, r.1)

/-- Settles a run of accumulators. -/
def settleAccs (s : State) (o : CloseOp) : List Nat → State × List Acc
  | [] => (s, [])
  | i :: is =>
    let r := settleAcc s o (getAcc s o.core i)
    let q := settleAccs (clearAcc r.1 o.core i) o is
    (q.1, r.2 :: q.2)

/-- The accumulators a close takes: one, or 32 for a block of N4 or I4 (R77). -/
def closeAccs (o : CloseOp) : List Nat :=
  if o.out = .n4 ∨ o.out = .i4 then (List.range 32).map (fun i => (o.acc.val + i) % 64) else [o.acc.val]

/-- Rounds and writes what was closed (R74 to R77), a KV entry's block in its slot (R211, R216), through the wide port: the row takes the bytes at their
alignment and keeps its others (R94, log entry 75). -/
def writeClosed (s : State) (o : CloseOp) (as : List Acc) : State :=
  let xs := as.mapIdx (fun i a => a.scaled o.scales[i]?)
  let poison := as.any Acc.poison
  if o.out = .n4 ∨ o.out = .i4 then
    match blockPlace s o.core o.stamp o.dst o.scaleDst o.kv with
    | some p =>
      let q := quantiseBlock (o.out == .i4) xs
      let s := if q.nan then
          raise s ((coreItem s Err.NUM_NAN o.core [(as.head?.map Acc.element).getD 0 / 32]).at_ o.stamp o.instr)
        else s
      writeBlock s o.core p q poison (some (o.stamp, o.instr))
    | none => s
  else
    let n := fmtBytes o.out
    let a := o.dst / n * n
    onAccess s o.core a n (some (o.stamp, o.instr)) (fun s => storeWrite s o.core a (leBytes n (roundOut o.out (xs.headD .nan))) poison)

/-- The record of a partial or total that does not match (R69). -/
def mismatch (s : State) (c : CoreRef) (stamp : Word64) (element expected got : Nat) : State :=
  raise s { coreItem s Err.NUM_PARTIAL_MISMATCH c [element, expected, got] with stamp := some stamp.toNat }

/-- The condition of an owner's wait for new partials of an accumulator (R70), beside the gate entries 0 to 31. -/
def ownerWait (acc : Nat) : Nat := 64 + acc

/-- RE_ANCHOR packets to every contributor (R70); the payload's layout is not given. -/
def reAnchorAll (s : State) (c : CoreRef) (contributors : List CoreRef) (stamp : Word64) (a : Acc) (anchor : Int) : State :=
  contributors.foldl (fun s d =>
    sendTo s c d Kind.reAnchor 1 stamp.toNat (freeBytes 0x102 [a.element, (anchor % 2 ^ 16).toNat] 68) false) s

/-- The owner of a split element raises its anchor by 32 (R65, R70): its own terms are formed again, the contributors
send theirs again, and the chase slips until they have come. -/
def ownerReAnchor (s : State) (c : CoreRef) (contributors : List CoreRef) (stamp : Word64) (layer recomputeLen i : Nat)
    (a : Acc) : State :=
  let b := a.reform (a.anchor + 32)
  let s := setAcc s c i { b with recomputes := a.recomputes + 1, terms := a.terms - a.partTerms, partials := 0, partTerms := 0 }
  let s := countNum s (chaseOf c) layer (fun x => { x with recomputes := bump x.recomputes 1 })
  let s := if a.operands = [] then s else reqSlip s c Src.windowRecompute (recomputeLen + 8)
  reAnchorAll (openSlip s (chaseOf c) Src.gateWait (some c) (ownerWait i)) c contributors stamp a (a.anchor + 32)

/-- The close with the figures of its elements' reduction record (R190), where one names them. -/
def boundClose (s : State) (o : CloseOp) : CloseOp :=
  match recordOf s o.core o.tensor (getAcc s o.core o.acc.val).element with
  | some x =>
    { o with split := x.2.2.flags % 2 == 1, owner := ownerOf x o.core, terms := x.2.2.terms, layer := x.2.1.layer
             recomputeLen := x.2.2.recomputeLen }
  | none => o

/-- The partials that an element's owner expects (R69, R190): CONTRIBUTORS, or one of each contributor. -/
def expected (s : State) (c : CoreRef) (tensor element : Nat) (contributors : List CoreRef) : Nat :=
  (recordOf s c tensor element).elim contributors.length (fun x => x.2.2.contributors)

/-- An owner's CLOSE that does not end now (R69, R70): a partial is still to come, or an element takes a new anchor. -/
def closeWaits (s : State) (o : CloseOp) : Bool :=
  let is := closeAccs o
  o.split && decide (o.owner = o.core) && closable o.out
    && (is.any (fun i => let a := getAcc s o.core i
          decide (a.partials < expected s o.core o.tensor a.element o.contributors))
      || (is.all (fun i => (getAcc s o.core i).terms == o.terms)
        && is.any (fun i => (getAcc s o.core i).overflows && decide ((getAcc s o.core i).recomputes < 3))))

/-- CLOSE of a split element at its owner (R69, R70): it waits for every partial of every accumulator; a total of
terms that differs from the descriptor is a mismatch; what overflows takes a new anchor; else all is settled,
rounded and written. -/
def closeOwner (s : State) (o : CloseOp) : State :=
  let is := closeAccs o
  if is.any (fun i => let a := getAcc s o.core i
      decide (a.partials < expected s o.core o.tensor a.element o.contributors)) then s
  else match is.find? (fun i => (getAcc s o.core i).terms != o.terms) with
    | some i => mismatch s o.core o.stamp (getAcc s o.core i).element o.terms (getAcc s o.core i).terms
    | none =>
      let big := is.filter (fun i => (getAcc s o.core i).overflows && decide ((getAcc s o.core i).recomputes < 3))
      if big = [] then
        let r := settleAccs s o is
        writeClosed r.1 o r.2
      else big.foldl (fun s i =>
        ownerReAnchor s o.core o.contributors o.stamp o.layer o.recomputeLen i (getAcc s o.core i)) s

/-- The close of an exact sum (R64 to R77): a contributor of split elements sends its long partials and keeps its operands
(R68, R71); an owner waits for every partial (R69); else the elements are settled, rounded and written. The
reductions' output formats are those of R42 and R47 (DEDUCED, log entry 91). -/
def closeSum (s : State) (o : CloseOp) : State :=
  if !closable o.out then s
  else if o.split ∧ o.owner ≠ o.core then
    (closeAccs o).foldl (fun s i =>
      let a := getAcc s o.core i
      clearAcc (retain (sendPartial s o.core o.owner a o.stamp) o.core o.stamp o.tensor a) o.core i) s
  else if o.split then closeOwner s o
  else
    let r := settleAccs s o (closeAccs o)
    writeClosed r.1 o r.2

/-- CLOSE (R64 to R77, R146, R230, R237, R257 to R260, R266): the reduction's role. An owner's close that waits stays the
program's next operation. -/
def execClose (o : CloseOp) (s : State) : Host.Outcome State Fault Refusal :=
  .next (if runs s o.core (opCode 1 4) then
      if o.role = .sum ∧ closeWaits s (boundClose s o) then closeSum s (boundClose s o)
      else
      let s := passOp s o.core
      let who : Who := some (o.stamp, o.instr)
      match o.role with
      | .sum => closeSum s (boundClose s o)
      | .ordered x => if closable o.out then closeOrdered s o.core o.out o.dst o.scaleDst x who else s
      | .merge x => if closable o.out then closeMerge s o.core o.out o.dst o.scaleDst o.stamp x who else s
      | .scores q g a => closeScores s o.core o.stamp q g a o.recomputeLen who
      | .router q a => closeRouter s o.core o.dst o.stamp q a o.recomputeLen who
      | .predict q a last => closePredict s o.core o.stamp q a last o.recomputeLen who
      | .combine x => if closable o.out then closeCombine s o.core o.out o.dst o.scaleDst o.stamp x o.recomputeLen who else s
    else s)

/-! ### Long partials (R68 to R72) -/

/-- An owner that holds every partial tests the element (R64, R69), and its wait for them ends. -/
def testOwner (s : State) (o : PartialOp) (i : Nat) (a : Acc) : State :=
  if a.partials < expected s o.core o.tensor a.element o.contributors then s
  else
    let s := meetCore s o.core Src.gateWait (· == ownerWait i)
    if a.terms < o.terms then s
    else if a.terms ≠ o.terms then mismatch s o.core o.flit.stamp a.element o.terms a.terms
    else if a.overflows ∧ a.recomputes < 3 then
      ownerReAnchor s o.core o.contributors o.flit.stamp o.layer o.recomputeLen i a
    else s

/-- The flit with the figures of its element's reduction record (R190). -/
def boundPartial (s : State) (o : PartialOp) (element : Nat) : PartialOp :=
  match recordOf s o.core o.tensor element with
  | some x => { o with anchor := x.2.2.a0, terms := x.2.2.terms, layer := x.2.1.layer, recomputeLen := x.2.2.recomputeLen }
  | none => o

/-- Adds one record (R69): ACC added, flags ORed, TERMS summed; an anchor that differs is a mismatch. -/
def addPartial (s : State) (o : PartialOp) (j : Nat) : State :=
  let r := Acc.ofRecord (slice o.flit.payload (32 * j) 32) []
  let i := ((o.accs[j]?).map Fin.val).getD 0
  let o := boundPartial s o r.element
  let a := (getAcc s o.core i).begin_ o.anchor r.element
  if r.anchor ≠ a.anchor then mismatch s o.core o.flit.stamp r.element o.terms r.terms
  else
    let b : Acc := { a with
      acc := wrap176 (a.acc + r.acc), termOvf := a.termOvf || r.termOvf, trunc := a.trunc || r.trunc, nan := a.nan || r.nan
      poison := a.poison || o.flit.poison, terms := a.terms + r.terms, partials := a.partials + 1
      partTerms := a.partTerms + r.terms }
    testOwner (setAcc s o.core i b) o i b

/-- LONG_PARTIAL (R68, R69): the records of one flit, as many as payload byte 64 says. -/
def execLongPartial (o : PartialOp) (s : State) : Host.Outcome State Fault Refusal :=
  .next ((List.range (min 2 (leAt o.flit.payload 64 1))).foldl (fun s j => addPartial s o j)
    (takeIn s o.core (· == o.flit)))

/-- The packet with the figures of its element's reduction record (R190). -/
def boundReAnchor (s : State) (o : ReAnchorOp) : ReAnchorOp :=
  match recordOf s o.core o.tensor o.element with
  | some x => { o with layer := x.2.1.layer, recomputeLen := x.2.2.recomputeLen, owner := ownerOf x o.owner }
  | none => o

/-- RE_ANCHOR (R70, R72): a contributor forms its partial again from all its terms and sends it. -/
def execReAnchor (o : ReAnchorOp) (s : State) : Host.Outcome State Fault Refusal :=
  let o := boundReAnchor s o
  let s := takeIn s o.core (fun f => flitKind f == Kind.reAnchor && f.stamp == o.stamp)
  .next (match retainedAt s o.core o.stamp o.tensor o.element with
    | some x =>
      let b : Acc := { x.acc.reform o.anchor with recomputes := x.acc.recomputes + 1 }
      let s := modCore s o.core (fun k => { k with retained := k.retained.map (fun y => if y = x then { y with acc := b } else y) })
      sendPartial (reqSlip s o.core Src.windowRecompute (o.recomputeLen + 8)) o.core o.owner b o.stamp
    | none => s)

/-! ### Saving and restoring (R108), the outlier lane (R86) -/

/-- SAVE (R108): four accumulators in one row. -/
def execSave (o : OpAt) (acc : Fin 64) (dst : Nat) (s : State) : Host.Outcome State Fault Refusal :=
  let c := o.core
  .next (asOp s c (opCode 1 5) (fun s =>
      onAccess s c (rowAt dst) 128 (some (o.stamp, o.instr)) (fun s =>
        let as := (List.range 4).map (fun i => getAcc s c ((acc.val + i) % 64))
        let s := modCore s c (fun k => { k with
          saved := (as.zipIdx.map (fun x => (rowAt dst + 32 * x.2, x.1))).foldl (fun m x => x :: m.erase x) k.saved })
        storeWrite s c (rowAt dst) (as.flatMap Acc.record) (as.any Acc.poison))))

/-- The accumulator that 32 saved bytes give: the operands kept under R71 and R72 go with it, also where its row was
copied to another place and the first one saved over. -/
def restored (s : State) (c : CoreRef) (a : Nat) (bs : List Byte) (poison : Bool) : Acc :=
  let near := ((getCore s c).saved.find? (fun x => x.1 == a && x.2.record == bs)).map (·.2)
  let far := s.cores.findSome? (fun k => (k.2.saved.find? (fun x => x.2.record == bs)).map (·.2))
  match near <|> far with
  | some x => { x with poison := poison }
  | none => { Acc.ofRecord bs [] with poison := poison }

/-- RESTORE (R108). -/
def execRestore (o : OpAt) (acc : Fin 64) (src : Nat) (s : State) : Host.Outcome State Fault Refusal :=
  let c := o.core
  .next (asOp s c (opCode 1 6) (fun s =>
      onAccess s c (rowAt src) 128 (some (o.stamp, o.instr)) (fun s =>
        let s := meetRow s c (rowAt src) (some (o.stamp, o.instr))
        (List.range 4).foldl (fun t i =>
          let a := rowAt src + 32 * i
          setAcc t c ((acc.val + i) % 64) (restored s c a (storeRead s c a 32) (storePoisoned s c a 32))) s)))

/-- The dynamic outliers of a site that a pass of the token takes from element `first` on (R86). -/
def hitsOf (s : State) (o : GatherOp) (n : Nat) : List Outlier :=
  match outliersAt s (stampReq o.stamp) (stampPos o.stamp) (stampLayer o.stamp) with
  | some x => (x.pass o.pass).filter (fun y => y.site == o.site && decide (o.first ≤ y.elem ∧ y.elem < o.first + n))
  | none => []

/-- OUTLIER_GATHER (R55, R57, R86, R87): the fed row's elements at the token's dynamic outliers of a site meet
them in the outlier lane; an extra pass runs in its slip. The figure of R190 can count no dynamic outlier, so they
add no term positions (DESIGN CHOICE, log entry 76). -/
def execOutlierGather (o : GatherOp) (s : State) : Host.Outcome State Fault Refusal :=
  .next (if (if o.pass = 0 then runs s o.core (opCode 1 7) else deferring s o.core) && gatherable o.fed then
      let s := if o.pass = 0 then passOp s o.core else s
      match tileRead s o.core o.fed o.sparse o.tile o.dataRow o.stamp o.instr with
      | (s, none) => s
      | (s, some (row, meta_)) =>
        let c := o.core
        let xs := fedElems o.fed o.sparse row.bytes meta_
        let hit := hitsOf s o xs.length
        if hit = [] then s
        else
          let pairs := hit.map (fun x => (elemOf (b16 x.val), xs.getD (x.elem - o.first) .skip))
          let t := (pairs.map (fun p => productTerm p.1 p.2)).foldl Terms.append ⟨[], false, 0, 0⟩
          let a := ((getAcc s c o.acc.val).begin_ (startA0 s c o.tensor o.element o.anchor) o.element).addTerms
            { t with positions := 0 }
          let s := setAcc s c o.acc.val { a with poison := a.poison || row.poison || hit.any Outlier.poison }
          modCore s c (fun k => { k with
            gather := pairs.filterMap (fun p => match p.2 with | .val q => some q | _ => none)
            cntPress := bump k.cntPress ((hit.length + 31) / 32) })
    else s)

end Sys2Proof.Machine
end

