-- ==== Sys2Proof/Machine/Registers.lean ====
section
/-! DEFINITION. Register writes (R6, R7, R343, R474, R496, R529, R530, R536 to R538, R558). A write of a register
whose effect another row names is that row. -/

namespace Sys2Proof.Machine

/-! ### Windows and rings (R496, R558) -/

/-- Regions of host memory in use: start, bytes, and whether the device writes them (R496): rings, T2, and the images that
resident formes keep readable (R353). -/
def hostUses (s : State) : List (Nat × Nat × Bool) :=
  let qs := (List.range 1024).filter (fun q => onF s Reg.SRV_Q_CTL_ENABLE q)
  qs.flatMap (fun q => [(getF s Reg.SRV_SQ_BASE q, 64 * sqSize s q, false), (getF s Reg.SRV_RQ_BASE q, 32 * rqSize s q, true)])
    ++ (if onF s Reg.ERR_CTL_RING_EN 0 then [(getF s Reg.ERR_RING_BASE 0, 64 * ringSlots s errRing, true)] else [])
    ++ (if onF s Reg.TEL_CTL_EN 0 then [(getF s Reg.TEL_BASE 0, 32 * ringSlots s telRing, true)] else [])
    ++ ([0, 1].filter (fun h => onF s Reg.HST_CXL_CTL_CACHE_EN h && decide (0 < getF s Reg.HST_T2_SIZE h))).map
      (fun h => (getF s Reg.HST_T2_BASE h, getF s Reg.HST_T2_SIZE h, true))
    ++ s.formes.filterMap (fun f => f.2.keepHost.map (fun k => (k.1, k.2, false)))

/-- Window `w` is in use: a region in use lies in it, or it is the space 0x3 window and a forme is resident. -/
def windowUsed (s : State) (w : Nat) : Bool :=
  (hostUses s).any (fun u => inWindow s w u.1 u.2.1 u.2.2)
    || (onF s Reg.HST_WIN_CTL_ENABLE w && onF s Reg.HST_WIN_CTL_FORME w && decide (getF s Reg.SYS_FORMES 0 ≠ 0))

/-- The write takes part of window `w` away: its range, ENABLE, or WRITE while the device writes there. -/
def windowLoses (s t : State) (w : Nat) : Bool :=
  let a := getF s Reg.HST_WIN_BASE w
  let e := a + getF s Reg.HST_WIN_SIZE w
  !onF t Reg.HST_WIN_CTL_ENABLE w || decide (a < getF t Reg.HST_WIN_BASE w)
    || decide (getF t Reg.HST_WIN_BASE w + getF t Reg.HST_WIN_SIZE w < e)
    || (onF s Reg.HST_WIN_CTL_WRITE w && !onF t Reg.HST_WIN_CTL_WRITE w
      && (hostUses s).any (fun u => u.2.2 && inWindow s w u.1 u.2.1 true))

/-- A window changed from `s` to `t`, or refused with WIN_BUSY (R496). -/
def windowWrite (s t : State) (w : Nat) : State :=
  if windowUsed s w && windowLoses s t w then setF s Reg.HST_WIN_STAT_WIN_BUSY 1 0 else t

/-- WIN_CTL (R496, R525): a write of the selected window's base (0x54), size (0x5C) or control (0x64). -/
def execWinCtl (off v : Nat) (s : State) : Host.Outcome State Fault Refusal :=
  .next (regWrite s 10 (fun s =>
    let w := getF s Reg.HST_WIN_SEL 0
    let al := v / 4096 * 4096
    if off = 0x54 then windowWrite s (setF s Reg.HST_WIN_BASE al w) w
    else if off = 0x5C then windowWrite s (setF s Reg.HST_WIN_SIZE al w) w
    else if off = 0x64 then
      windowWrite s (setF (setF (setF s Reg.HST_WIN_CTL_FORME (v / 4) w) Reg.HST_WIN_CTL_WRITE (v / 2) w)
        Reg.HST_WIN_CTL_ENABLE v w) w
    else s))

/-- A refused enable (R496, R558). -/
def ringRefused (s : State) : State := setF s Reg.HST_WIN_STAT_RING_REFUSED 1 0

/-- The size, base, enable and vector of a ring's control word (R411, R545, R558). -/
def ringCtl (s : State) (r : Ring) (en vector : Fld) (v : Nat) : State :=
  let lg := v / 2 ^ 16 % 32
  if lg < 6 ∨ 16 < lg then s
  else
    let was := onF s en 0
    let s := setF s vector v 0
    let s := if was ∨ lg = getF s r.log2 0 then s else ringEmpty (setF s r.log2 lg 0) r
    if v / 2 ^ 31 % 2 = 0 then setF s en 0 0
    else if was ∨ inWindows s (getF s r.base 0) (r.size * ringSlots s r) true then setF s en 1 0
    else ringRefused s

/-- A write of a ring's base: ignored while the ring is enabled; a change empties it. -/
def ringBase (s : State) (r : Ring) (en : Fld) (v : Nat) : State :=
  let b := v / 4096 * 4096 % 2 ^ 64
  if onF s en 0 ∨ b = getF s r.base 0 then s else ringEmpty (setF s r.base b 0) r

/-- RING_EN (R411, R558): a write of `ERR.CTL`. -/
def execRingEn (v : Nat) (s : State) : Host.Outcome State Fault Refusal :=
  .next (regWrite s 7 (fun s => ringCtl s errRing Reg.ERR_CTL_RING_EN Reg.ERR_CTL_VECTOR v))

/-- RING_HEAD (R558): a write of `ERR.RING_HEAD`. -/
def execRingHead (v : Nat) (s : State) : Host.Outcome State Fault Refusal :=
  .next (regWrite s 7 (fun s => ringHeadWrite s errRing (v % 65536)))

/-- TEL_EN (R545, R558): a write of `TEL.CTL`. -/
def execTelEn (v : Nat) (s : State) : Host.Outcome State Fault Refusal :=
  .next (regWrite s 15 (fun s => ringCtl s telRing Reg.TEL_CTL_EN Reg.TEL_CTL_VECTOR v))

/-- HEAD (R545, R558): a write of `TEL.HEAD`. -/
def execHead (v : Nat) (s : State) : Host.Outcome State Fault Refusal :=
  .next (regWrite s 15 (fun s => ringHeadWrite s telRing (v % 65536)))

/-! ### Queues (R289, R343) -/

/-- A reconfigured submission ring starts again at index 0. -/
def restartSq (s : State) (q : Nat) : State := modQ s q (fun x => { x with sqTail := 0, sqHead := 0, bells := [], blocked := false })

/-- A reconfigured response ring starts again at index 0 with PHASE 1. -/
def restartRq (s : State) (q : Nat) : State := modQ s q (fun x => { x with rqHead := 0, rqTail := 0, used := 0, phase := true })

/-- A ring size written: while disabled, from 4 to 16. -/
def queueSize (s : State) (f : Fld) (q lg : Nat) (restart : State → Nat → State) : State :=
  if onF s Reg.SRV_Q_CTL_ENABLE q ∨ lg < 4 ∨ 16 < lg ∨ lg = getF s f q then s else restart (setF s f lg q) q

/-- A ring base written: while disabled. -/
def queueBase (s : State) (f : Fld) (q v : Nat) (restart : State → Nat → State) : State :=
  let b := v / 4096 * 4096 % 2 ^ 64
  if onF s Reg.SRV_Q_CTL_ENABLE q ∨ b = getF s f q then s else restart (setF s f b q) q

/-- The fields of `SRV.Q_CTL` but ENABLE. -/
def queueCtl (s : State) (q v : Nat) : State :=
  let s := setF (setF (setF s Reg.SRV_Q_CTL_ADMIN (v / 2 ^ 30) q) Reg.SRV_Q_CTL_PRIORITY (v / 2 ^ 28) q) Reg.SRV_Q_CTL_VECTOR v q
  let s := queueSize s Reg.SRV_Q_CTL_SQ_LOG2 q (v / 2 ^ 20 % 32) restartSq
  queueSize s Reg.SRV_Q_CTL_RQ_LOG2 q (v / 2 ^ 15 % 32) restartRq

/-- Both rings of a queue lie in its windows (R496). -/
def ringsOk (s : State) (q : Nat) : Bool :=
  inWindows s (getF s Reg.SRV_SQ_BASE q) (64 * sqSize s q) false && inWindows s (getF s Reg.SRV_RQ_BASE q) (32 * rqSize s q) true

/-- QUEUE_ENABLE (R343, R496): a write of `SRV.Q_CTL` with ENABLE 1. -/
def execQueueEnable (v : Nat) (s : State) : Host.Outcome State Fault Refusal :=
  .next (regWrite s 11 (fun s =>
    let q := getF s Reg.SRV_Q_SEL 0
    let was := onF s Reg.SRV_Q_CTL_ENABLE q
    let s := queueCtl s q v
    if was || ringsOk s q then setF s Reg.SRV_Q_CTL_ENABLE 1 q else ringRefused s))

/-- QUEUE_DISABLE (R343): a write of `SRV.Q_CTL` with ENABLE 0; sizes in it are ignored, because the queue is
enabled as the write comes. -/
def execQueueDisable (v : Nat) (s : State) : Host.Outcome State Fault Refusal :=
  .next (regWrite s 11 (fun s =>
    let q := getF s Reg.SRV_Q_SEL 0
    setF (queueCtl s q v) Reg.SRV_Q_CTL_ENABLE 0 q))

/-! ### The page lock (R538) -/

/-- LOCKED (R538): the header is written in every beacon state. -/
def execLocked (page : Nat) (s : State) : Host.Outcome State Fault Refusal :=
  .next (if (pageType page).isSome then setF s Reg.PAGE_LOCK_LOCKED 1 page else flagBadAccess s (page * 0x1000 + 0x024))

/-! ### Plain writes (R6, R537) -/

/-- A write of the part of a word that a field takes; words of an array by `k`. -/
def writeField (s : State) (p inst k v : Nat) (f : Fld) : State :=
  let x := if f.pair then v % 2 ^ 64 else v / 2 ^ f.lo % 2 ^ f.width
  match f.acc with
  | .rw => setF s f x inst k
  | .rwl => if pageLocked s p then s else setF s f x inst k
  | .w1c => setF s f (getF s f inst k - (getF s f inst k &&& x)) inst k
  | .w1s => setF s f (getF s f inst k ||| x) inst k
  | .ro => s
  | .wo => s
  | .rc => s

/-- The fields of a word written by their access codes. -/
def plainWrite (s : State) (ty n p off v : Nat) : State :=
  ((fieldsOf ty).filter (fun f => !f.pair && decide (f.off ≤ off ∧ off < f.off + 4 * f.count))).foldl
    (fun s f => writeField s p (bankInst s ty n off) ((off - f.off) / 4) v f) s

/-- A header word written (R533, R540): the lamp domain serves it in every state. -/
def headerWrite (s : State) (p off v : Nat) : State :=
  let fs := ([Reg.PAGE_BEACON_CHANGED, Reg.PAGE_ERR_WR_REFUSED, Reg.PAGE_ERR_BAD_ACCESS, Reg.PAGE_ERR_UNDERRUN,
    Reg.PAGE_ERR_NO_ANSWER, Reg.PAGE_ERR_CLASS, Reg.PAGE_IRQ_EN_ERR_EN, Reg.PAGE_IRQ_EN_BEACON_EN,
    Reg.PAGE_LOCK_LOCKED] : List Fld).filter (fun f => f.off == off)
  refreshIrq (fs.foldl (fun s f => writeField s p p 0 v f) s) p

/-- A plain write of a pair. -/
def plainPair (s : State) (ty n off v : Nat) : State :=
  ((fieldsOf ty).filter (fun f => f.pair && f.off == off)).foldl (fun s f => writeField s 0 (bankInst s ty n off) 0 v f) s

/-- A write of a pair, both halves at once (R530). -/
def pairWrite (s : State) (p off v : Nat) : Host.Outcome State Fault Refusal :=
  match pageType p with
  | some (0x08, _) => .next (regWrite s p (fun s => ringBase s errRing Reg.ERR_CTL_RING_EN v))
  | some (0x10, _) => .next (regWrite s p (fun s => ringBase s telRing Reg.TEL_CTL_EN v))
  | some (0x0B, _) =>
    if off = 0x54 ∨ off = 0x5C then execWinCtl off v s
    else .next (regWrite s p (fun s => plainPair s 0x0B 0 off v))
  | some (0x0C, _) =>
    .next (regWrite s p (fun s =>
      let q := getF s Reg.SRV_Q_SEL 0
      if off = 0x48 then queueBase s Reg.SRV_SQ_BASE q v restartSq
      else if off = 0x50 then queueBase s Reg.SRV_RQ_BASE q v restartRq else s))
  | some (0x13, _) =>
    if off = 0x58 then execRdSeq v s
    else if off = 0x60 then execAckSeq v s
    else .next (regWrite s p (fun s => s))
  | some (ty, n) => .next (regWrite s p (fun s => plainPair s ty n off v))
  | none => .next s

/-- A link's split control written (R507). -/
def splitCtl (s : State) (k p v : Nat) : State := regWrite s p (fun s => resumeSplit (plainWrite s 0x22 k p 0x080 v) k)

/-- The time priority written (R509). -/
def timeCtl (s : State) (v : Nat) : State := regWrite s 1 (fun s => chooseSource (plainWrite s 0x02 0 1 0x048 v))

/-- `KMB.IN_CTL` written (R554): LEN, and the message sent. -/
def mailCtl (s : State) (g v : Nat) : State :=
  regWrite s (kmbPage g) (fun s =>
    let s := if onF s Reg.KMB_IN_CTL_BUSY g then s else setF s Reg.KMB_IN_CTL_LEN v g
    if v / 2 ^ 31 % 2 = 1 then kmbGo s g else s)

/-- A link's control word: a disabled link that is released and enabled trains. -/
def linkCtl (k : Nat) (v : Nat) (s : State) : Host.Outcome State Fault Refusal :=
  let start := !onF s Reg.LNK_CTL_ENABLE k && v / 2 ^ 31 % 2 == 1 && phase s k == Phase.down
    && s.release.released.contains (10, k)
  execRetrain (Fin.ofNat 16 k) (if start then v ||| 2 ^ 30 else v) s

/-- A write of one 32-bit block register that is no half of a pair. -/
def wordWrite (s : State) (p off v : Nat) : Host.Outcome State Fault Refusal :=
  match pageType p with
  | none => .next s
  | some (ty, n) =>
    match ty, off with
    | 0x02, 0x048 => .next (timeCtl s v)
    | 0x03, 0x050 => execBlockReset v s
    | 0x03, 0x054 => execSoftwareModuleReset v s
    | 0x03, 0x058 => execForceStep v s
    | 0x05, 0x064 => if v % 2 = 1 then execRetentionRequest s else execRetentionExit true s
    | 0x06, 0x054 => execTarget v s
    | 0x08, 0x040 => execRingEn v s
    | 0x08, 0x050 => execRingHead v s
    | 0x0B, 0x064 => execWinCtl 0x64 v s
    | 0x0C, 0x044 => if v / 2 ^ 31 % 2 = 1 then execQueueEnable v s else execQueueDisable v s
    | 0x0D, 0x040 => execLimitGib v s
    | 0x10, 0x040 => execTelEn v s
    | 0x10, 0x050 => execHead v s
    | 0x13, 0x040 => execIntervalS (v % 4096) s
    | 0x20, 0x048 => if v % 2 = 1 then execKeeperHalt (Fin.ofNat 256 n) s else execHaltEnd (Fin.ofNat 256 n) s
    | 0x20, 0x400 =>
      match v % 4 with
      | 1 => execSnap (Fin.ofNat 256 n) s
      | 2 => execClear (Fin.ofNat 256 n) s
      | 3 =>
        match execSnap (Fin.ofNat 256 n) s with
        | .next t => execClear (Fin.ofNat 256 n) t
        | o => o
      | _ => .next (regWrite s p (fun s => s))
    | 0x22, 0x040 => linkCtl n v s
    | 0x22, 0x080 => .next (splitCtl s n p v)
    | 0x30, 0x040 => execSqTail (Fin.ofNat 1024 n) v s
    | 0x30, 0x044 => execRqHead (Fin.ofNat 1024 n) v s
    | 0x31, 0x040 => .next (mailCtl s n v)
    | 0x31, 0x048 => if v % 2 = 1 then execAck (Fin.ofNat 4 n) s else .next (regWrite s p (fun s => s))
    | _, _ => .next (regWrite s p (fun s => plainWrite s ty n p off v))

/-- A write of a debug window (R555): with the lock open, of a core's store. -/
def debugWrite (s : State) (addr : Nat) (bs : List Byte) : State :=
  if onF s Reg.DBG_OPEN 0 then
    match debugTarget s addr with
    | some (c, a) => if a + bs.length ≤ 0x50000 then narrowWrite s c a bs false else s
    | none => s
  else debugRefused s

/-- A half of a pair (R530): the low half waits for the high half. -/
def halfWrite (s : State) (r : Requester) (addr v : Nat) : Host.Outcome State Fault Refusal :=
  let p := addr / 0x1000
  let off := addr % 0x1000
  if pairLowAt p off then
    .next (regWrite s p (fun s => { s with io := { s.io with pairLow := kset s.io.pairLow (latchKey r addr) (v % 2 ^ 32) } }))
  else
    let k := latchKey r (addr - 4)
    let low := kgetD s.io.pairLow k (wordAt s p (off - 4))
    pairWrite { s with io := { s.io with pairLow := kdel s.io.pairLow k } } p (off - 4) (v % 2 ^ 32 * 2 ^ 32 + low)

/-- A host write of a register page. -/
def hostRegWrite (r : Requester) (addr : Nat) (wide : Bool) (v : Nat) (s : State) : Host.Outcome State Fault Refusal :=
  let p := addr / 0x1000
  let off := addr % 0x1000
  if addr % 4 ≠ 0 ∨ (pageType p).isNone then .next (flagBadAccess s addr)
  else if wide then
    if addr % 8 = 0 ∧ pairLowAt p off then
      (if off < 0x040 then .next s else pairWrite s p off (v % 2 ^ 64))
    else .next (flagBadAccess s addr)
  else if off < 0x040 then .next (headerWrite s p off v)
  else if pairLowAt p off || pairHighAt p off then halfWrite s r addr v
  else wordWrite s p off (v % 2 ^ 32)

/-- REGISTER_WRITE (R6, R529, R530, R537): the management endpoint writes no register (R521). -/
def execRegisterWrite (r : Requester) (addr : Nat) (wide : Bool) (v : Nat) (s : State) : Host.Outcome State Fault Refusal :=
  match r with
  | .management => .next s
  | .host h =>
    if 0x4000000 ≤ addr then .next (flagBadAccess s addr)
    else if addr % (if wide then 8 else 4) ≠ 0 ∧ debugBase ≤ addr then .next (flagBadAccess s addr)
    else if debugBase ≤ addr then .next (debugWrite s addr (leBytes (if wide then 8 else 4) v))
    else hostRegWrite (.host h) addr wide v s

end Sys2Proof.Machine
end

