-- ==== Sys2Proof/Machine/Operands.lean ====
section
/-! DEFINITION. The operand rows of the vector unit (R116): reading lanes, writing lanes, and the shapes
of operations over them. -/

namespace Sys2Proof.Machine

/-- Bytes of a lane. -/
def laneBytes : VFmt → Nat
  | .b16 => 2
  | _ => 4

/-- Lanes of a row: 64 B16, 32 F32, 32 integers (R116, R117). -/
def laneCount (f : VFmt) : Nat := 128 / laneBytes f

/-- The lanes of a row's bytes. -/
def lanesOf (f : VFmt) (bs : List Byte) : List Nat :=
  (List.range (laneCount f)).map (fun i => leAt bs (laneBytes f * i) (laneBytes f))

/-- Lanes as bytes. -/
def laneRow (f : VFmt) (ls : List Nat) : List Byte := ls.flatMap (leBytes (laneBytes f))

/-- Why an operand row cannot be accessed (R93, R433). -/
def rowFault (s : State) (c : CoreRef) : VRow → Option (Nat × Nat)
  | .store a => (accessFault s c (rowAt a) 128).map (·, rowAt a)
  | _ => none

/-- A row of two neighbouring static slots (R143): the first 64 payload bytes of each (log entry 72). -/
def slotRow (m : KMap Flit) (i : Nat) : Row :=
  let f := fun j => kget? m (j % 128)
  ⟨slice (((f i).map Flit.payload).getD []) 0 64 ++ slice (((f (i + 1)).map Flit.payload).getD []) 0 64,
    (f i).any Flit.poison || (f (i + 1)).any Flit.poison⟩

/-- An operand row. -/
def getRow (s : State) (c : CoreRef) : VRow → Row
  | .store a => readRow s c (rowAt a)
  | .reg r => fileRow (getCore s c).vregs r.val 128
  | .recv i => slotRow (getCore s c).recvFile i.val
  | .send i => slotRow (getCore s c).sendFile i.val

/-- Bytes laid over the front of a static slot's payload. -/
def slotWrite (m : KMap Flit) (i : Nat) (bs : List Byte) (poison : Bool) : KMap Flit :=
  let f := kgetD m (i % 128) ⟨0, 0, List.replicate 68 0, 0, false⟩
  kset m (i % 128) { f with payload := slice (bs ++ f.payload.drop bs.length) 0 68, poison := poison || (f.poison && decide (bs.length < 64)) }

/-- The first `bs.length` bytes of a destination row written; a receive slot is not written by units (R143). -/
def putRow (s : State) (c : CoreRef) (d : VRow) (bs : List Byte) (poison : Bool) : State :=
  match d with
  | .store a => storeWrite s c (rowAt a) bs poison
  | .reg r =>
    let old := fileRow (getCore s c).vregs r.val 128
    let row : Row := ⟨bs ++ old.bytes.drop bs.length, poison || (old.poison && decide (bs.length < 128))⟩
    modCore s c (fun k => { k with vregs := kset k.vregs r.val row }.fresh 2 [r.val])
  | .recv _ => s
  | .send i => modCore s c (fun k =>
      let m := slotWrite k.sendFile i.val (bs.take 64) poison
      { k with sendFile := if 64 < bs.length then slotWrite m (i.val + 1) (bs.drop 64) poison else m }.fresh 5
        (if 64 < bs.length then [i.val, (i.val + 1) % 128] else [i.val]))

/-- The read of a source row (R102 to R105, R376). -/
def meetOperand (s : State) (c : CoreRef) (who : Who) : VRow → State
  | .store a => meetRow s c (rowAt a) who
  | .reg r => meetFile s c 2 [r.val]
  | .recv i => meetFile s c 5 [128 + i.val, 128 + (i.val + 1) % 128]
  | .send i => meetFile s c 5 [i.val, (i.val + 1) % 128]

/-- The reads of source rows. -/
def meetRows (s : State) (c : CoreRef) (who : Who) (rows : List VRow) : State := rows.foldl (fun s r => meetOperand s c who r) s

/-- Operation `op` on a core that executes it: the first row it cannot access is recorded and nothing
else happens; else the source rows are read and `f` runs. -/
def withRows (s : State) (o : OpAt) (op : Nat) (srcs dsts : List VRow) (f : State → State) : State :=
  asOp s o.core op (fun s =>
    match (srcs ++ dsts).findSome? (rowFault s o.core) with
    | some (code, a) => raise s ((accessItem s o.core code a).at_ o.stamp o.instr)
    | none => f (meetRows s o.core (some (o.stamp, o.instr)) srcs))

/-- Where and for what a vector operation stands. -/
def vopAt (o : VOp) : OpAt := ⟨o.core, o.stamp, o.instr⟩

/-- A lane-wise operation: the results of `g` over the sources' lanes, poisoned with any source (R377). -/
def vecLanes (s : State) (o : VOp) (op : Nat) (srcs : List VRow) (g : List (List Nat) → List Nat) : State :=
  withRows s (vopAt o) op srcs [o.dst] (fun s =>
    putRow s o.core o.dst (laneRow o.fmt (g (srcs.map (fun r => lanesOf o.fmt (getRow s o.core r).bytes))))
      (srcs.any (fun r => (getRow s o.core r).poison)))

/-- A floating operation of one operand, rounded once (R117). -/
def vecUn (s : State) (o : VOp) (op : Nat) (f : FVal → FVal) : State :=
  if o.fmt = .int32 then s
  else vecLanes s o op [o.a] (fun ls =>
    (ls.headD []).map (fun x => (vshape o.fmt).encode (f ((vshape o.fmt).decodeIeee x))))

/-- A floating operation of two operands, rounded once. -/
def vecBin (s : State) (o : VOp) (op : Nat) (f : FVal → FVal → FVal) : State :=
  if o.fmt = .int32 then s
  else vecLanes s o op [o.a, o.b] (fun ls =>
    List.zipWith (fun x y => (vshape o.fmt).encode (f ((vshape o.fmt).decodeIeee x) ((vshape o.fmt).decodeIeee y)))
      (ls.getD 0 []) (ls.getD 1 []))

/-- An F32 function on bits. -/
def vecF32 (s : State) (o : VOp) (op : Nat) (f : Nat → Nat) : State :=
  if o.fmt = .f32 then vecLanes s o op [o.a] (fun ls => (ls.headD []).map f) else s

/-- A function of two 32-bit integers. -/
def vecInt (s : State) (o : VOp) (op : Nat) (f : Nat → Nat → Nat) : State :=
  if o.fmt = .int32 then vecLanes s o op [o.a, o.b] (fun ls => List.zipWith f (ls.getD 0 []) (ls.getD 1 [])) else s

/-- Lane `x` comes before lane `y`: numbers by value, integers as two's complement; none with a NaN. -/
def laneLt (f : VFmt) (x y : Nat) : Bool :=
  match f with
  | .int32 => decide (signed 32 x < signed 32 y)
  | f => let a := (vshape f).decodeIeee x; let b := (vshape f).decodeIeee y; a.le b && !b.le a

/-- Lanes equal in value. -/
def laneEq (f : VFmt) (x y : Nat) : Bool :=
  match f with
  | .int32 => x == y
  | f => ((vshape f).decodeIeee x).eqv ((vshape f).decodeIeee y)

/-- A NaN lane. -/
def laneNan (f : VFmt) (x : Nat) : Bool :=
  match f with
  | .int32 => false
  | f => (vshape f).decodeIeee x == .nan

end Sys2Proof.Machine
end

