-- ==== Sys2Proof/Machine/Rotate.lean ====
section
/-! DEFINITION. The lens (R79 to R83) and the position rotator (R120 to R122). -/

namespace Sys2Proof.Machine

/-- Rounding to F32, as a value. -/
def toF32 (x : FVal) : FVal := f32 (FloatShape.f32.encode x)

/-- One stage of the transform (R80): pairs at distance 2^s become sum and difference, each rounded. -/
def lensStage (xs : List FVal) (s : Nat) : List FVal :=
  xs.mapIdx (fun i x =>
    if i / 2 ^ s % 2 = 0 then toF32 (x.add (xs.getD (i + 2 ^ s) (.fin false 0)))
    else toF32 ((xs.getD (i - 2 ^ s) (.fin false 0)).sub x))

/-- The lens on a group of 2^m values with signs (R80): true is −1. -/
def lensGroup (m : Nat) (signs : List Bool) (xs : List FVal) : List FVal :=
  let xs := List.zipWith (fun b (x : FVal) => if b then x.neg else x) signs xs
  ((List.range m).foldl lensStage xs).map (fun x => toF32 (x.mul (.fin false (pow2 (-(((m + 1) / 2 : Nat) : Int))))))

/-- A static outlier's F8 value with its pre-scale (R82). -/
def staticF8 (x : FVal) (pre : Nat) : Nat :=
  match s8Exp pre with
  | none => 0
  | some e => encodeF8 (x.mul (.fin false (pow2 e)))

/-- The element `i` of the lens's input. -/
def lensIn (f : VFmt) (bs : List Byte) (i : Nat) : FVal := (vshape f).decodeIeee (leAt bs (laneBytes f * i) (laneBytes f))

/-- LENS_ROTATE (R79 to R82): the site's static outlier channels are taken out as F8, then the group, which one
core holds whole, is rotated with the forme's signs. The wide port takes whole rows (R94): a group stands at a multiple of
its size, and an address inside names it. Where a channel's F8 value is put is the forme's to say: DESIGN CHOICE (log entry
77), at `outlierDst` plus the channel's place in the site's record, in a row that keeps its other bytes (log entry 75). -/
def execLensRotate (o : LensOp) (s : State) : Host.Outcome State Fault Refusal :=
  let who : Who := some (o.stamp, o.instr)
  .next (if o.fmt == .int32 then s
    else match partOfCore s o.core, siteOf s o.core o.site with
    | some (_, f, _), some (layer, site) => asOp s o.core (opCode 3 1) (fun s =>
      let g := 2 ^ site.log2g
      let n := g * laneBytes o.fmt
      let src := o.src / n * n
      let dst := o.dst / (4 * g) * (4 * g)
      onAccess s o.core src n who (fun s => onAccess s o.core dst (4 * g) who (fun s =>
        onAccess s o.core o.outlierDst site.channels.length who (fun s =>
          let s := meetWide s o.core src n who
          let bs := storeRead s o.core src n
          let poison := storePoisoned s o.core src n
          let here := fun (ch : Nat) => decide (o.first ≤ ch ∧ ch < o.first + g)
          let xs := (List.range g).map (fun i =>
            if site.channels.any (fun ch => ch.1 == o.first + i) then FVal.fin false 0 else toF32 (lensIn o.fmt bs i))
          let signs := (List.range g).map (fun i => lensSign (imgLensSeed f.image) (o.first + i) layer o.site)
          let s := site.channels.zipIdx.foldl (fun s x =>
            if here x.1.1 then
              storeWrite s o.core (o.outlierDst + x.2) (leBytes 1 (staticF8 (lensIn o.fmt bs (x.1.1 - o.first)) x.1.2)) poison
            else s) s
          storeWrite s o.core dst ((lensGroup site.log2g signs xs).flatMap (fun x => leBytes 4 (FloatShape.f32.encode x))) poison))))
    | _, _ => s)

/-- The elements of pair `i` of a head of `d` elements (R122). -/
def pairOf (halves : Bool) (d i : Nat) : Nat × Nat := if halves then (i, i + d / 2) else (2 * i, 2 * i + 1)

/-- A head of `xs.length` elements rotated at position `p` by the frequencies `fs` (R121, R122); each
result is formed exactly and rounded by `enc`. -/
def rotateHead (enc : FVal → Nat) (halves : Bool) (p : Nat) (fs : List Nat) (xs : List FVal) : List Nat :=
  let d := xs.length
  let rot := (List.range (d / 2)).map (fun i =>
    let phase := p * fs.getD i 0 % 2 ^ 40
    let c := f32 (cosPhase phase)
    let sn := f32 (sinPhase phase)
    let ij := pairOf halves d i
    let x := xs.getD ij.1 .nan
    let y := xs.getD ij.2 .nan
    (enc ((x.mul c).sub (y.mul sn)), enc ((x.mul sn).add (y.mul c))))
  if halves then rot.map (·.1) ++ rot.map (·.2) else rot.flatMap (fun r => [r.1, r.2])

/-- POSITION_ROTATE (R120 to R122): the position is the stamp's plus the part's offset; a sum outside 0 to 2^24 − 1 is
CORE_POS_RANGE. R122 names the output's format only: that x and y stand in the same format is a DESIGN CHOICE
(log entry 78). A head begins with a row of the store (R94), and an address inside names the row. -/
def execPositionRotate (o : RotateOp) (s : State) : Host.Outcome State Fault Refusal :=
  let who : Who := some (o.stamp, o.instr)
  .next (match partOfCore s o.core with
    | none => s
    | some (_, f, part) => asOp s o.core (opCode 4 1) (fun s =>
      let p : Int := (stampPos o.stamp : Int) + part.posOffset
      if p < 0 ∨ 2 ^ 24 ≤ p then raise s ((coreItem s Err.CORE_POS_RANGE o.core [o.src]).by_ who)
      else
        let v := if o.bf16 then VFmt.b16 else VFmt.f32
        let n := o.width * laneBytes v
        let src := rowAt o.src
        let dst := rowAt o.dst
        onAccess s o.core src n who (fun s => onAccess s o.core dst n who (fun s =>
          let s := meetWide s o.core src n who
          let bs := storeRead s o.core src n
          let xs := (List.range o.width).map (lensIn v bs)
          let fs := (List.range (o.width / 2)).map (freqAt f.image o.table)
          let out := rotateHead (vshape v).encode o.halves p.toNat fs xs
          storeWrite s o.core dst (laneRow v out) (storePoisoned s o.core src n)))))

end Sys2Proof.Machine
end

