-- ==== Sys2Proof/Machine/Tokens.lean ====
section
/-! DEFINITION. Waves and steps (R285 to R288, R294, R317) and the arrival of a step's samples (R302,
R303, R311, R322 to R328, R392, R393). -/

namespace Sys2Proof.Machine

/-! ### Wave launch -/

/-- A galley of a stream's window that has not returned to T0 (R242, R245). -/
def windowLacks (s : State) (e : Nat) (x : Stream) (g : Galley) : Bool :=
  (g.owner == .stream e || g.holders.contains e) && (g.st == .spilled || g.st == .paused || g.st == .host)
    && decide (x.vlen / 256 ≤ g.index + windowOf s x.forme g.layer)

/-- Window galleys back to T0 where a region is free (R245). -/
def placeWindow (s : State) (e : Nat) (x : Stream) : State :=
  (galleysWhere s (fun g => windowLacks s e x g && (g.st == .spilled || g.st == .paused))).foldl (fun s g => copyToT0 s g .resident) s

/-- A stream may take a slot cycle: a host port is up (R495), it has work, no step in flight, no hold, its sticks in place, its
window galleys and those it shares in T0, and none of them left in HOST (R222, R245, R288, R306). -/
def mayStep (s : State) (e : Nat) (x : Stream) : Bool :=
  hostUp s && decide (x.state ∈ [1, 2, 3]) && x.step.isNone && !x.holdBarrier && !x.holdRecovery && !stickWaits s e
    && !(s.kv.galleys.any (fun g => windowLacks s e x g.2
          || ((g.2.owner == .stream e || g.2.holders.contains e) && g.2.st == .host)))

/-- The positions of the stream's next step and its proof count (R218, R285, R325, R392). -/
def nextCount (s : State) (f : Forme) (x : Stream) : Nat × Nat :=
  let room := 256 - x.vlen % 256
  if x.vlen < x.replayTo then (min (imgL f.image) (min room (x.replayTo - x.vlen)), 0)
  else if x.vlen < x.known then (min (imgL f.image) (min room (x.known - x.vlen)), 0)
  else (1 + proofCount s x, proofCount s x)

/-- The number of participants at each attention layer, which stands in the step's batch slots (R229, R235). -/
def stepParts (f : Forme) (x : Stream) : List (Nat × Nat) :=
  (List.range (imgLayers f.image)).filterMap (fun l =>
    (attnOf f.image l).map (fun a => (l, a.count (genDense x.cmd) (x.vlen / 256))))

/-- A stream's step launched with its new turn (R229, R288, R306, R324). -/
def launchStep (s : State) (f : Forme) (e : Nat) (x : Stream) (turn : Nat) : State :=
  let (n, h) := nextCount s f x
  setSt s e { x with
    state := if x.state = 1 then 2 else x.state
    tlen := x.vlen + n
    turn := turn
    step := some ⟨n, h, (List.range h).map (fun i => x.guesses.getD i 0), x.depth, s.lampTime, stepParts f x⟩ }

/-- The first of the candidates whose ring has room is launched; those without room wait in HOLD for
RING (R294). It answers the stream launched. -/
def launchFirst (s : State) (f : Forme) (turn : Stream → Nat) : List Nat → State × Option Nat
  | [] => (s, none)
  | e :: r =>
    match getSt s e with
    | some x =>
      if stepFits s x then (launchStep s f e x (turn x), some e)
      else launchFirst (setSt s e (settleHold { x with holdRing := true })) f turn r
    | none => launchFirst s f turn r

/-- Candidates in the order of their turns, then of their fetch (R317). -/
def byTurn (l : List (Nat × Stream)) : List Nat :=
  (l.mergeSort (fun a b => decide (a.2.turn < b.2.turn ∨ (a.2.turn = b.2.turn ∧ a.2.order ≤ b.2.order)))).map (·.1)

/-- Cycle `c` is one that the stream's binding takes (R288). -/
def Stream.onGrid (x : Stream) (c : Nat) : Bool := decide (x.turn ≤ c) && (c - x.turn) % x.period == 0

/-- The next cycle after `c` that the stream's binding takes (R288). -/
def Stream.turnAfter (x : Stream) (c : Nat) : Nat := x.turn + x.period * ((c - x.turn) / x.period + 1)

/-- One batch slot of a wave: pipeline slot `p` in its cycle `c`; `n` numbers the slot cycles. A moored stream bound to this
cycle comes first, then one bound to the slot that missed its cycle, then best effort (R287, R288, R317; log entry 22). It
answers the stream launched. -/
def slotLaunch (s : State) (fi : Nat) (f : Forme) (c p n : Nat) : State × Option Nat :=
  let here := s.serve.streams.filter (fun e => e.2.forme == fi && mayStep s e.1 e.2)
  let moored := here.filter (fun e => e.2.mooring != 0 && e.2.slot == p && decide (e.2.turn ≤ c))
  let order := byTurn (moored.filter (fun e => e.2.onGrid c)) ++ byTurn (moored.filter (fun e => !e.2.onGrid c))
  let (s, done) := launchFirst s f (fun x => x.turnAfter c) order
  if done.isSome then (s, done)
  else launchFirst s f (fun _ => n + 1) (byTurn (here.filter (fun e => e.2.mooring == 0)))

/-- The inputs of a step's lanes: from VLEN on the tokens that stand, then the proof guesses; the other lanes of the batch slot
hold zero blocks with scale 0xFF (R285, R286, R324). -/
def laneInputs (f : Forme) (x : Stream) (t : Step) : List LaneIn :=
  (List.range (imgL f.image)).map (fun i =>
    if i < t.count then
      .position (x.vlen + i) (if t.h = 0 ∨ i = 0 then x.tokens.getD (x.vlen + i) 0 else t.guesses.getD (i - 1) 0)
    else .zeroBlocks 0xFF)

/-- What a batch slot carries after its launch. -/
def waveSlot (s : State) (f : Forme) (e : Option Nat) : WaveSlot :=
  match e.bind (fun k => (getSt s k).bind (fun x => x.step.map (fun t => laneInputs f x t))) with
  | some ls => ⟨e, ls⟩
  | none => ⟨none, List.replicate (imgL f.image) (.zeroBlocks 0xFF)⟩

/-- A wave of a forme (R286). -/
def waveOf (s : State) (fi : Nat) (f : Forme) : State :=
  let d := f.cyclesD
  let b := imgB f.image
  let s := (s.serve.streams.filter (fun e => e.2.live && e.2.forme == fi)).foldl (fun s e =>
    placeWindow (placeSticks s e.1) e.1 e.2) s
  let (s, wave) := (List.range b).foldl (fun (a : State × List WaveSlot) i =>
    let (s, e) := slotLaunch a.1 fi f (f.waves / d) (f.waves % d * b + i) (f.waves * 16 + i)
    (s, a.2 ++ [waveSlot s f e])) (s, [])
  adjForme s fi (fun f => { f with waves := f.waves + 1, lastWave := some s.lampTime, wave := wave })

/-- A beat has passed since the last wave (R286). -/
def waveDue (s : State) (f : Forme) : Bool := f.lastWave.all (fun t => decide ((t : Rat) + beatNs s f ≤ (s.lampTime : Rat)))

/-- WAVE_LAUNCH (R286): one wave in a beat, none at a barrier, in a recovery, or in retention. -/
def execWaveLaunch (fi : FormeId) (s : State) : Host.Outcome State Fault Refusal :=
  .next (match getForme s fi.val with
    | some f =>
      let s := rewriteNow s fi.val
      if groupUp s 0 ∧ awake s ∧ resident s fi.val ∧ !atBarrier s fi.val ∧ !recovering s fi.val ∧ 0 < f.cyclesD
          ∧ waveDue s f then
        waveOf s fi.val f
      else s
    | none => s)

/-! ### Step gaps (R320, R321) -/

/-- Delivered tokens of one step counted for telemetry, usage and availability (R320, R341, R404). -/
def countStep (s : State) (e : Nat) (x : Stream) (n : Nat) : State :=
  let m := x.mooring
  let gap := x.lastTime.map (fun t => s.lampTime - t)
  let s := { s with tele := { s.tele with
      tokens := kmod s.tele.tokens m 0 (· + n)
      steps := kmod s.tele.steps m 0 (· + 1)
      gaps := match gap with
        | some g => kmod s.tele.gaps m [] (· ++ [g])
        | none => s.tele.gaps } }
  let s := use s x (fun p => { p with tokens := p.tokens + n, steps := p.steps + 1, gaps := p.gaps ++ gap.toList })
  adjSt s e (fun x => { x with lostState := false, minuteFault := x.minuteFault || (x.lostState && gap.any (fun g => decide (2000000000 < g))) })

/-! ### Delivery (R302, R303, R311) -/

/-- How many of the sampled tokens from position `p` on are delivered (R311): up to and with the one
that stops the generation. -/
def cutTokens (stops : List Nat) (maxNew : Nat) : Nat → Nat → List Nat → Nat
  | _, _, [] => 0
  | d, p, t :: ts =>
    if t ∈ stops ∨ d + 1 = maxNew ∨ p = 2 ^ 24 - 1 then 1 else 1 + cutTokens stops maxNew (d + 1) (p + 1) ts

/-- The stopping flags of a token as the `d`-th delivered one at position `p` (R311). -/
def stopFlags (stops : List Nat) (maxNew d p t : Nat) : Nat :=
  (if t ∈ stops then flStopped else 0) ||| (if d = maxNew then flMax else 0) ||| (if p = 2 ^ 24 - 1 then flContextEnd else 0)

/-- FLAGS of a token record (R302). -/
def tokenFlags (x : Stream) (i n : Nat) (last : Bool) (t : Sampled) : Nat :=
  (if x.delivered + i = 0 then 1 else 0) + (if last && i + 1 == n then 2 else 0)
    + (if t.token ∈ extStops x.ext then 4 else 0) + (if i = 0 then 0 else 8)
    + (if x.crossed && i == 0 then 16 else 0) + (if t.logprob.isSome then 32 else 0)

/-- Token records of one step, from position `p` on, in ascending position (R302, R303). -/
def writeTokens (s : State) (x : Stream) (layers p : Nat) (last : Bool) (ts : List Sampled) : State :=
  (ts.mapIdx (fun i t => (i, t))).foldl (fun s it =>
    let pos := p + it.1
    respond s x.queue ⟨tokenBytes it.2.token pos (mkStamp (x.req.getD 0) pos (layers - 1) 0) s.lampTime
      (tokenFlags x it.1 ts.length last it.2) (it.2.logprob.getD 0), none⟩) s

/-- The step boundary (R306, R327, R331): a stream that reached its end becomes DONE, with CANCEL_LATE
where a CANCEL waited; else a waiting CANCEL applies; else a barrier may hold it. -/
def boundary (s : State) (e flags : Nat) (ended : Bool) : State :=
  match getSt s e with
  | none => s
  | some x =>
    if ended then endStream s e Sts.OK 5 (flags ||| (if x.cancels = [] then 0 else flCancelLate))
    else if x.cancels ≠ [] ∧ x.replayTo ≤ x.vlen then cancelStream s e
    else setSt s e (settleHold { x with holdBarrier := x.holdBarrier || atBarrier s x.forme })

/-- The response ring slot after `n` more records, with its PHASE (R396). -/
def slotAfter (s : State) (q n : Nat) : Nat :=
  let x := getQ s q
  let t := x.rqTail + n
  t % rqSize s q + (if x.phase = decide (t < rqSize s q) then 2 ^ 31 else 0)

/-- The last `n` records of a ring with their host addresses (R397). -/
def lastRecords (s : State) (q n : Nat) : List (Nat × List Byte) :=
  let size := rqSize s q
  (List.range n).map (fun i =>
    let a := getF s Reg.SRV_RQ_BASE q + 32 * (((getQ s q).rqTail + size - n + i) % size)
    (a, memReadBytes s.mem.host a 32))

/-- Delivery of a step's accepted samples from position `p` on, the first being `x.delivered + 1`-th
(R311, R397): replay record first, then the records, then the boundary. `x` has its step ended. -/
def deliver (s : State) (e : Nat) (x : Stream) (layers p : Nat) (samples : List Sampled) : State :=
  let stops := extStops x.ext
  let maxNew := genMaxNew x.cmd
  let n := cutTokens stops maxNew x.delivered p (samples.map (·.token))
  let ts := samples.take n
  let flags := match ts.getLast? with
    | some t => stopFlags stops maxNew (x.delivered + n) (p + n - 1) t.token
    | none => 0
  let ended := flags != 0
  let last := ended || !x.cancels.isEmpty
  let y := { x with tokens := x.tokens ++ ts.map (·.token), delivered := x.delivered + n, crossed := false, lastCount := n
                    lastTime := some s.lampTime, lastLogprobs := ts.map (fun t => t.logprob.getD 0)
                    rqNext := slotAfter s x.queue n }
  let s := commitReplay (setSt s e y) e
  let s := countStep s e x n
  let s := writeTokens s x layers p last ts
  let s := adjSt s e (fun z => { z with lastRecs := lastRecords s x.queue n })
  boundary s e flags ended

/-- VLEN and TLEN after a step of `n` positions, with the flush at a galley's end (R219, R222). -/
def advance (s : State) (e : Nat) (x : Stream) (n : Nat) : State :=
  let v := x.vlen + n
  let s := setSt s e { x with vlen := v, tlen := v, step := none }
  restGalleys (if v % 256 = 0 ∧ x.start < v then flushSticks s e (v / 256 - 1) (galleyNodes s x (v / 256 - 1)) else s)

/-- Depth and histories after a counted step (R325). -/
def countProof (x : Stream) (h depth accepted heads : Nat) : Stream :=
  if h = 0 then x
  else
    let x := { x with proofSteps := x.proofSteps + 1, accepts := ((accepted == h + 1) :: x.accepts).take 64
                      reaches := ((h == depth) :: x.reaches).take 64 }
    if x.proofSteps < 256 ∨ x.proofSteps % 64 ≠ 0 then x
    else
      let sel := (x.accepts.zip x.reaches).filter (·.2)
      let ok := (sel.filter (·.1)).length
      if sel = [] then x
      else if sel.length ≤ 2 * ok then { x with depth := min heads (x.depth + 1) }
      else if 4 * ok < sel.length then { x with depth := max 1 (x.depth - 1) } else x

/-- The end of a decode step (R324): VLEN moves by the accepted count, however few of its tokens are delivered (R219, R311). -/
def endDecode (s : State) (e : Nat) (x : Stream) (f : Forme) (t : Step) (lanes : List LaneOut) (guesses : List Nat) : State :=
  let samples := (List.range (1 + t.h)).map (fun i =>
    sample x.params f.vocab (x.tokens ++ t.guesses.take i) (x.vlen + i + 1) ((lanes.getD i ⟨[]⟩).logits))
  let a := acceptedCount (samples.map (·.token)) t.guesses
  let s := addF (addF s Reg.SMP_PROOF_TRIES t.h 0) Reg.SMP_PROOF_ACCEPTS (a - 1) 0
  let x := countProof { x with guesses := guesses } t.h t.depth a (imgH f.image)
  let s := advance s e x a
  deliver s e { x with vlen := x.vlen + a, tlen := x.vlen + a, step := none } (imgLayers f.image) (x.vlen + 1) (samples.take a)

/-- The end of a prefill step (R306, R316): the last prompt position's sample is the first token. -/
def endPrefill (s : State) (e : Nat) (x : Stream) (f : Forme) (t : Step) (lanes : List LaneOut) (guesses : List Nat) : State :=
  let v := x.vlen + t.count
  let x := { x with guesses := guesses }
  let s := use s x (fun p => { p with prompt := p.prompt + t.count })
  let s := advance s e x t.count
  let y := { x with vlen := v, tlen := v, step := none }
  if v < x.known then boundary s e 0 false
  else if genMaxNew x.cmd = 0 then boundary s e 0 true
  else deliver s e { y with state := 3 } (imgLayers f.image) v
    [sample x.params f.vocab x.tokens v ((lanes.getD (t.count - 1) ⟨[]⟩).logits)]

/-- The end of a replay step (R392, R393): its samples at delivered positions must be equal. -/
def endReplay (s : State) (e : Nat) (x : Stream) (f : Forme) (t : Step) (lanes : List LaneOut) (guesses : List Nat) : State :=
  let bad := (List.range t.count).find? (fun i =>
    let p := x.vlen + i + 1
    decide (x.known ≤ p ∧ p < x.tokens.length)
      && (sample x.params f.vocab x.tokens p ((lanes.getD i ⟨[]⟩).logits)).token != x.tokens.getD p 0)
  match bad with
  | some i =>
    let s := setSt s e { x with step := none }
    let s := logFault s { blockItem Err.REPAIR_DIVERGED (identOf 0x0A 0) [x.vlen + i + 1] with
      stamp := some (mkStamp (x.req.getD 0) (x.vlen + i + 1) (imgLayers f.image - 1) 0) }
    endStream s e Sts.REPLAY_DIVERGED 5 0 false
  | none => boundary (advance s e { x with guesses := guesses } t.count) e 0 false

/-- The TOKEN packets of the stream's step are taken at the gateway (R150); one step of a stream is in flight (R288). -/
def takeTokens (s : State) (x : Stream) : State :=
  let mine := fun (p : Flit) => flitKind p == Kind.token && some (stampReq p.stamp) == x.req
  { s with fabric := s.fabric.filter (fun y => !mine y.flit), rim := s.rim.filter (fun y => !mine y.flit) }

/-- A proof head's guess: the argmax of its logits, a NaN standing below every number (R322, R326). -/
def headGuess (v : Nat) (h : LaneOut) : Nat := argmaxF32 ((h.logits.take v).map cleanNan)

/-- A step's samples reach keeper group 0 (R324), with the logits of the proof heads; its TOKEN packet is taken at the gateway.
A poisoned step cannot deliver: it is abandoned, and its forme recovers (R378, R390). -/
def execToken (e : EntryId) (lanes heads : List LaneOut) (poisoned : Bool) (s : State) :
    Host.Outcome State Fault Refusal :=
  .next (match getSt s e.val with
    | some x =>
      match x.step, getForme s x.forme with
      | some t, some f =>
        let guesses := heads.map (headGuess f.vocab)
        let s := takeTokens s x
        let s := endPass s e.val x
        if poisoned then recoverForme (setSt s e.val { x with step := none, tlen := x.vlen }) x.forme
        else flip rewriteNow x.forme <| checkRecoveries 64 <|
          let s := timeStep s x.forme t.launched
          if x.vlen < x.replayTo then endReplay s e.val x f t lanes guesses
          else if x.vlen < x.known then endPrefill s e.val x f t lanes guesses
          else endDecode s e.val x f t lanes guesses
      | _, _ => s
    | none => s)

end Sys2Proof.Machine
end

