-- ==== Sys2Proof/Machine/Vector.lean ====
section
/-! DEFINITION. The vector unit (R77, R78, R84 to R87, R116 to R119). A format that a function does not
list cannot stand in a loaded program (R193, R206), and such a command changes nothing. -/

namespace Sys2Proof.Machine

/-- ADD (R117). -/
def execAdd (o : VOp) (s : State) : Host.Outcome State Fault Refusal := .next (vecBin s o (opCode 2 0x001) FVal.add)
/-- SUBTRACT (R117). -/
def execSubtract (o : VOp) (s : State) : Host.Outcome State Fault Refusal := .next (vecBin s o (opCode 2 0x002) FVal.sub)
/-- MULTIPLY (R117). -/
def execMultiply (o : VOp) (s : State) : Host.Outcome State Fault Refusal := .next (vecBin s o (opCode 2 0x003) FVal.mul)
/-- MIN (R117). -/
def execMin (o : VOp) (s : State) : Host.Outcome State Fault Refusal := .next (vecBin s o (opCode 2 0x005) FVal.min)
/-- MAX (R117). -/
def execMax (o : VOp) (s : State) : Host.Outcome State Fault Refusal := .next (vecBin s o (opCode 2 0x006) FVal.max)
/-- ABS (R117). -/
def execAbs (o : VOp) (s : State) : Host.Outcome State Fault Refusal := .next (vecUn s o (opCode 2 0x007) FVal.abs)
/-- NEGATE (R117). -/
def execNegate (o : VOp) (s : State) : Host.Outcome State Fault Refusal := .next (vecUn s o (opCode 2 0x008) FVal.neg)

/-- FUSED_MULTIPLY_ADD (R117): a × b + c, rounded once. -/
def execFusedMultiplyAdd (o : VOp) (s : State) : Host.Outcome State Fault Refusal :=
  .next (if o.fmt = .int32 then s
    else vecLanes s o (opCode 2 0x004) [o.a, o.b, o.c] (fun ls =>
      let d := (vshape o.fmt).decodeIeee
      List.zipWith (fun (xy : Nat × Nat) z => (vshape o.fmt).encode ((d xy.1).fma (d xy.2) (d z)))
        ((ls.getD 0 []).zip (ls.getD 1 [])) (ls.getD 2 [])))

/-- A root or reciprocal on F32 bits (R117). -/
def rootBits (f : FVal → FVal) (x : Nat) : Nat := FloatShape.f32.encode (f (f32 x))

/-- SQRT (R117). -/
def execSqrt (o : VOp) (s : State) : Host.Outcome State Fault Refusal := .next (vecF32 s o (opCode 2 0x010) (rootBits FVal.sqrt))
/-- RSQRT (R117, R119). -/
def execRsqrt (o : VOp) (s : State) : Host.Outcome State Fault Refusal := .next (vecF32 s o (opCode 2 0x011) (rootBits FVal.rsqrt))
/-- RCP (R117). -/
def execRcp (o : VOp) (s : State) : Host.Outcome State Fault Refusal := .next (vecF32 s o (opCode 2 0x012) (rootBits FVal.rcp))
/-- EXP2 (R117, R119). -/
def execExp2 (o : VOp) (s : State) : Host.Outcome State Fault Refusal := .next (vecF32 s o (opCode 2 0x018) exp2Bits)
/-- LOG2 (R117, R119). -/
def execLog2 (o : VOp) (s : State) : Host.Outcome State Fault Refusal := .next (vecF32 s o (opCode 2 0x019) log2Bits)
/-- SIGMOID (R117). -/
def execSigmoid (o : VOp) (s : State) : Host.Outcome State Fault Refusal := .next (vecF32 s o (opCode 2 0x020) sigmoidBits)
/-- TANH (R117). -/
def execTanh (o : VOp) (s : State) : Host.Outcome State Fault Refusal := .next (vecF32 s o (opCode 2 0x021) tanhBits)
/-- ERF (R117). -/
def execErf (o : VOp) (s : State) : Host.Outcome State Fault Refusal := .next (vecF32 s o (opCode 2 0x022) erfBits)

/-- x × sigmoid(x), each function rounded once (R118). -/
def siluBits (x : Nat) : Nat := mulF32 x (sigmoidBits x)

/-- GELU in its fixed order (R118): t = x × 0x3F3504F3, e = erf(t), u = 1 + e, h = 0.5 × x, h × u. -/
def geluBits (x : Nat) : Nat :=
  let t := mulF32 x 0x3F3504F3
  let e := erfBits t
  let u := addF32 0x3F800000 e
  let h := mulF32 0x3F000000 x
  mulF32 h u

/-- SILU (R118). -/
def execSilu (o : VOp) (s : State) : Host.Outcome State Fault Refusal := .next (vecF32 s o (opCode 2 0x048) siluBits)
/-- GELU (R118). -/
def execGelu (o : VOp) (s : State) : Host.Outcome State Fault Refusal := .next (vecF32 s o (opCode 2 0x049) geluBits)

/-! ### Conversion and quantisation (R75 to R78) -/

/-- Formats that the convert function takes and gives (R117); F8W is written only, and this unit's conversion is its
calibration capture path (R47; DESIGN CHOICE, log entry 98). -/
def convertible (src dst : Fmt) : Bool :=
  (src == .b16 || src == .f32 || src == .f8) && (dst == .b16 || dst == .f32 || dst == .f8 || dst == .f8w)

/-- The value of element `i` of bytes in a format. -/
def elemAt (f : Fmt) (bs : List Byte) (i : Nat) : FVal :=
  match f with
  | .b16 => b16 (leAt bs (2 * i) 2)
  | .f32 => f32 (leAt bs (4 * i) 4)
  | _ => decodeF8 (leAt bs i 1)

/-- CONVERT (R47, R75, R76): as many elements as one row of the wider format holds. -/
def execConvert (o : VOp) (src dst : Fmt) (s : State) : Host.Outcome State Fault Refusal :=
  .next (if convertible src dst then
      withRows s (vopAt o) (opCode 2 0x028) [o.a] [o.dst] (fun s =>
         let n := 128 / Nat.max (fmtBytes src) (fmtBytes dst)
         let r := getRow s o.core o.a
         putRow s o.core o.dst ((List.range n).flatMap (fun i => leBytes (fmtBytes dst) (roundOut dst (elemAt src r.bytes i))))
           r.poison)
    else s)

/-- The 32 elements of a block of a row, as values. -/
def blockVals (f : VFmt) (bs : List Byte) (block : Nat) : List FVal :=
  (((lanesOf f bs).drop (32 * block)).take 32).map (fun x => (vshape f).decodeIeee x)

/-- A block that the row has: F32 rows hold one block of 32, B16 rows two. -/
def blockOk (f : VFmt) (block : Fin 2) : Bool := f == .b16 || (f == .f32 && block == 0)

/-- QUANTISE (R77, R78): one block to N4 or I4, its codes and its scale; a NaN or infinity makes a zero
block and NUM_NAN. R88 counts NaN marks and the rotation sites' lanes alike; that the count is of the block's
NaN elements, not of its infinities, is a DESIGN CHOICE (log entry 73). -/
def execQuantise (o : QuantOp) (s : State) : Host.Outcome State Fault Refusal :=
  .next (if blockOk o.fmt o.block then
      withRows s ⟨o.core, o.stamp, o.instr⟩ (opCode 2 0x029) [o.src] (if o.kv.isSome then [] else [.store o.dst, .store o.scaleDst]) (fun s =>
        let r := getRow s o.core o.src
        let xs := blockVals o.fmt r.bytes o.block.val
        let q := quantiseBlock o.i4 xs
        let s := if q.nan then
            countNum (raise s { coreItem s Err.NUM_NAN o.core [o.blockIndex] with stamp := some o.stamp.toNat })
              (chaseOf o.core) o.layer (fun x => { x with nans := bump x.nans (xs.countP (· == .nan)) })
          else s
        match blockPlace s o.core o.stamp o.dst o.scaleDst o.kv with
        | some p => writeBlock s o.core p q r.poison (some (o.stamp, o.instr))
        | none => s)
    else s)

/-! ### Comparison (R117) -/

/-- The lane that a comparison writes for true or false: the spec gives no pattern (log entry 2). -/
def maskLane (f : VFmt) (b : Bool) : Nat := Config.freeResult 0x030 [laneBytes f, if b then 1 else 0] % 256 ^ laneBytes f

/-- COMPARE (R117). -/
def execCompare (o : VOp) (kind : CmpKind) (s : State) : Host.Outcome State Fault Refusal :=
  .next (vecLanes s o (opCode 2 0x030) [o.a, o.b] (fun ls =>
    List.zipWith (fun x y => maskLane o.fmt (match kind with
      | .lt => laneLt o.fmt x y
      | .le => laneLt o.fmt x y || laneEq o.fmt x y
      | .eq => laneEq o.fmt x y)) (ls.getD 0 []) (ls.getD 1 [])))

/-- A lane as the unit writes it: a NaN is the canonical one (R48, R119). -/
def canonLane (f : VFmt) (x : Nat) : Nat := if laneNan f x then (vshape f).canonicalNan else x

/-- One lane of a select: by a comparison's true or false lane; by any other lane the result is free. -/
def selectLane (f : VFmt) (x y m : Nat) : Nat :=
  if m = maskLane f true then canonLane f x else if m = maskLane f false then canonLane f y
  else canonLane f (Config.freeResult 0x031 [x, y, m] % 256 ^ laneBytes f)

/-- SELECT (R117): `c` holds the mask lanes. -/
def execSelect (o : VOp) (s : State) : Host.Outcome State Fault Refusal :=
  .next (vecLanes s o (opCode 2 0x031) [o.a, o.b, o.c] (fun ls =>
    List.zipWith (fun (xy : Nat × Nat) m => selectLane o.fmt xy.1 xy.2 m) ((ls.getD 0 []).zip (ls.getD 1 [])) (ls.getD 2 [])))

/-- The larger lane; a NaN gives the canonical NaN (R119). -/
def laneMax (f : VFmt) (x y : Nat) : Nat :=
  if laneNan f x || laneNan f y then (vshape f).canonicalNan else if laneLt f x y then y else x

/-- The running maxima of a list of lanes. -/
def runMax (f : VFmt) : Nat → List Nat → List Nat
  | _, [] => []
  | m, x :: xs => laneMax f m x :: runMax f (laneMax f m x) xs

/-- RUNNING_MAX (R117): lane i is the largest of lanes 0 to i. -/
def execRunningMax (o : VOp) (s : State) : Host.Outcome State Fault Refusal :=
  .next (vecLanes s o (opCode 2 0x032) [o.a] (fun ls => match ls.headD [] with
    | [] => []
    | x :: xs => runMax o.fmt x (x :: xs)))

/-- The index of the largest lane, the lowest on ties. -/
def argmaxAux (f : VFmt) : Nat → Nat → Nat → List Nat → Nat
  | _, best, _, [] => best
  | m, best, i, x :: xs => if laneLt f m x then argmaxAux f x i (i + 1) xs else argmaxAux f m best (i + 1) xs

/-- The argmax of lanes; with a NaN among them no index is stated (log entry 2). -/
def argmaxOf (f : VFmt) (ls : List Nat) : Nat :=
  if ls.any (laneNan f) then Config.freeResult 0x033 ls % 2 ^ 32
  else match ls with
    | [] => 0
    | x :: xs => argmaxAux f x 0 1 xs

/-- ARGMAX (R117): the index goes to the first 32 bits of the destination row. -/
def execArgmax (o : VOp) (s : State) : Host.Outcome State Fault Refusal :=
  .next (withRows s (vopAt o) (opCode 2 0x033) [o.a] [o.dst] (fun s =>
     let r := getRow s o.core o.a
     putRow s o.core o.dst (leBytes 4 (argmaxOf o.fmt (lanesOf o.fmt r.bytes))) r.poison))

/-! ### Integers (R117) -/

/-- INTEGER_ADD (R117), modulo 2^32. -/
def execIntegerAdd (o : VOp) (s : State) : Host.Outcome State Fault Refusal :=
  .next (vecInt s o (opCode 2 0x038) (fun x y => (x + y) % 2 ^ 32))

/-- A shift; by 32 or more no result is stated (log entry 2). -/
def shiftLane (k : ShiftKind) (x n : Nat) : Nat :=
  if 32 ≤ n then Config.freeResult 0x039 [x, n] % 2 ^ 32
  else match k with
    | .left => x * 2 ^ n % 2 ^ 32
    | .right => x / 2 ^ n
    | .arith => ((BitVec.ofNat 32 x).sshiftRight n).toNat

/-- SHIFT (R117). -/
def execShift (o : VOp) (kind : ShiftKind) (s : State) : Host.Outcome State Fault Refusal :=
  .next (vecInt s o (opCode 2 0x039) (shiftLane kind))
/-- AND (R117). -/
def execAnd (o : VOp) (s : State) : Host.Outcome State Fault Refusal := .next (vecInt s o (opCode 2 0x03A) (fun x y => x &&& y))
/-- OR (R117). -/
def execOr (o : VOp) (s : State) : Host.Outcome State Fault Refusal := .next (vecInt s o (opCode 2 0x03B) (fun x y => x ||| y))
/-- XOR (R117). -/
def execXor (o : VOp) (s : State) : Host.Outcome State Fault Refusal := .next (vecInt s o (opCode 2 0x03C) (fun x y => x ^^^ y))

/-! ### Dynamic outliers (R84 to R87) -/

/-- The outliers of a block: their places and their exact values. None where an element is not finite. -/
def outliersOf (t : Nat) (xs : List FVal) : List (Nat × Rat) :=
  if xs.any (fun x => !x.isFinite) then []
  else
    let qs := xs.map FVal.rat
    (qs.zipIdx.filter (fun x => isOutlier (b16 t).rat qs x.1)).map (fun x => (x.2, x.1))

/-- The cores that request the slips of extra outlier passes (R87, R165), with the E of their part descriptor: each does its
own gathering in a deferred interval of its own (R170). No record tells which parts hold the site's stationary rows: every
core of a part of the layer with stationary data counts (DESIGN CHOICE, log entry 50). -/
def passCores (f : Forme) (layer : Nat) : List (CoreRef × Nat) :=
  (f.parts.filter (fun p => p.live && p.layer == layer && p.weightLen != 0)).flatMap (fun p =>
    p.cores.map (fun x => (x.2.2, (descrOf f p).elim 0 PartD.passLen)))

/-- An outlier in its place by site and element (R86). -/
def insertOutlier (x : Outlier) : List Outlier → List Outlier
  | [] => [x]
  | y :: ys =>
    if x.site < y.site ∨ (x.site = y.site ∧ x.elem < y.elem) then x :: y :: ys
    else if x.site = y.site ∧ x.elem = y.elem then x :: ys
    else y :: insertOutlier x ys

/-- The set of a token and layer changed; a detection after the last one ended begins anew (a replay). -/
def addOutliers (s : State) (req pos layer : Nat) (xs : List Outlier) : State :=
  let old := match outliersAt s req pos layer with
    | some x => if x.ended then [] else x.items
    | none => []
  { s with outliers := s.outliers.filter (fun x => !(x.req == req && x.pos == pos && x.layer == layer))
      ++ [⟨req, pos, layer, xs.foldl (fun l x => insertOutlier x l) old, false⟩] }

/-- The extra passes beyond the first 64 outliers (R86). -/
def OutlierSet.extra (x : OutlierSet) : Nat := (x.items.length - 64 + 63) / 64

/-- The end of outlier detection for the token and layer (R86, R87): the extra passes take their slips on every core with
stationary data of the layer, and are counted once, in the chase where detection ends. -/
def endDetection (s : State) (o : OutlierOp) (req pos layer : Nat) : State :=
  match outliersAt s req pos layer, partOfCore s o.core with
  | some x, some (_, f, _) =>
    let s := { s with outliers := s.outliers.map (fun y => if y = x then { y with ended := true } else y) }
    if x.extra = 0 then s
    else
      let s := (passCores f layer).foldl (fun s y => reqSlip s y.1 Src.outlierPass (y.2 * x.extra)) s
      countNum s (chaseOf o.core) layer (fun y => { y with passes := bump y.passes x.extra, tokens := bump y.tokens 1 })
  | _, _ => s

/-- A row that a unit can write: receive slots are only read by it (R143). -/
def writableRow : VRow → Bool
  | .recv _ => false
  | _ => true

/-- OUTLIER_TEST (R84 to R87): at the site's threshold the outliers leave the block, rounded to B16, with zeros
in their places. -/
def execOutlierTest (o : OutlierOp) (s : State) : Host.Outcome State Fault Refusal :=
  .next (match blockOk o.fmt o.block && writableRow o.dst, siteOf s o.core o.site with
    | true, some (layer, site) =>
      withRows s ⟨o.core, o.stamp, o.instr⟩ (opCode 2 0x040) [o.src] [o.dst] (fun s =>
        let r := getRow s o.core o.src
        let out := outliersOf site.threshold (blockVals o.fmt r.bytes o.block.val)
        let ls := (lanesOf o.fmt r.bytes).mapIdx (fun i x => if out.any (fun p => 32 * o.block.val + p.1 == i) then 0 else x)
        let s := addOutliers s (stampReq o.stamp) (stampPos o.stamp) layer
          (out.map (fun p => ⟨o.site, o.first + p.1, FloatShape.b16.roundIeee false p.2, r.poison⟩))
        let s := if out = [] ∧ o.dst = o.src then s else putRow s o.core o.dst (laneRow o.fmt ls) r.poison
        if o.last then endDetection s o (stampReq o.stamp) (stampPos o.stamp) layer else s)
    | _, _ => s)

end Sys2Proof.Machine
end

