-- ==== Sys2Proof/Machine/Dispatch.lean ====
section
/-! DEFINITION. The dispatch: one arm per command, each one call of its meaning. -/

namespace Sys2Proof.Machine

/-- The effect of a command on everything but the queue. -/
def exec (i : Instr) (s : State) : Host.Outcome State Fault Refusal :=
  match i with
  | .generate x0 x1 x2 => Sys2Proof.Machine.execGenerate x0 x1 x2 s
  | .cancel x0 x1 => Sys2Proof.Machine.execCancel x0 x1 s
  | .release x0 x1 => Sys2Proof.Machine.execRelease x0 x1 s
  | .mooringSet x0 x1 => Sys2Proof.Machine.execMooringSet x0 x1 s
  | .mooringClear x0 x1 => Sys2Proof.Machine.execMooringClear x0 x1 s
  | .badKind x0 x1 => Sys2Proof.Machine.execBadKind x0 x1 s
  | .loadForme x0 x1 x2 => Sys2Proof.Machine.execLoadForme x0 x1 x2 s
  | .replace x0 x1 x2 => Sys2Proof.Machine.execReplace x0 x1 x2 s
  | .unloadForme x0 x1 => Sys2Proof.Machine.execUnloadForme x0 x1 s
  | .loadVariant x0 x1 x2 => Sys2Proof.Machine.execLoadVariant x0 x1 x2 s
  | .loadOverlay x0 x1 x2 => Sys2Proof.Machine.execLoadOverlay x0 x1 x2 s
  | .deleteVariant x0 x1 => Sys2Proof.Machine.execDeleteVariant x0 x1 s
  | .deleteOverlay x0 x1 => Sys2Proof.Machine.execDeleteOverlay x0 x1 s
  | .sqTail x0 x1 => Sys2Proof.Machine.execSqTail x0 x1 s
  | .rqHead x0 x1 => Sys2Proof.Machine.execRqHead x0 x1 s
  | .admission x0 => Sys2Proof.Machine.execAdmission x0 s
  | .waveLaunch x0 => Sys2Proof.Machine.execWaveLaunch x0 s
  | .token x0 x1 x2 x3 => Sys2Proof.Machine.execToken x0 x1 x2 x3 s
  | .galleyResident x0 => Sys2Proof.Machine.execGalleyResident x0 s
  | .galleyFetchDone x0 => Sys2Proof.Machine.execGalleyFetchDone x0 s
  | .galleyToT2 x0 x1 => Sys2Proof.Machine.execGalleyToT2 x0 x1 s
  | .t2CopyAck x0 => Sys2Proof.Machine.execT2CopyAck x0 s
  | .convExpiry x0 x1 => Sys2Proof.Machine.execConvExpiry x0 x1 s
  | .convTombstoneLapse x0 x1 => Sys2Proof.Machine.execConvTombstoneLapse x0 x1 s
  | .telemetrySecond => Sys2Proof.Machine.execTelemetrySecond s
  | .numeric => Sys2Proof.Machine.execNumeric s
  | .expert x0 => Sys2Proof.Machine.execExpert x0 s
  | .usageCounts => Sys2Proof.Machine.execUsageCounts s
  | .usageIntervalClose => Sys2Proof.Machine.execUsageIntervalClose s
  | .interruptCoalesceTime x0 => Sys2Proof.Machine.execInterruptCoalesceTime x0 s
  | .loadStaged x0 => Sys2Proof.Machine.execLoadStaged x0 s
  | .swapBegin x0 => Sys2Proof.Machine.execSwapBegin x0 s
  | .swapLayerWritten x0 x1 => Sys2Proof.Machine.execSwapLayerWritten x0 x1 s
  | .unloadDrained x0 => Sys2Proof.Machine.execUnloadDrained x0 s
  | .auditSweep x0 => Sys2Proof.Machine.execAuditSweep x0 s
  | .linkSource x0 => Sys2Proof.Machine.execLinkSource x0 s
  | .loadAsk x0 x1 => Sys2Proof.Machine.execLoadAsk x0 x1 s
  | .loadOffer x0 x1 => Sys2Proof.Machine.execLoadOffer x0 x1 s
  | .loadTake x0 x1 x2 => Sys2Proof.Machine.execLoadTake x0 x1 x2 s
  | .loadData x0 x1 x2 => Sys2Proof.Machine.execLoadData x0 x1 x2 s
  | .loadEnd x0 x1 => Sys2Proof.Machine.execLoadEnd x0 x1 s
  | .ident x0 x1 x2 x3 x4 x5 => Sys2Proof.Machine.execIdent x0 x1 x2 x3 x4 x5 s
  | .version x0 x1 => Sys2Proof.Machine.execVersion x0 x1 s
  | .announce x0 x1 x2 x3 => Sys2Proof.Machine.execAnnounce x0 x1 x2 x3 s
  | .pdelay x0 x1 x2 => Sys2Proof.Machine.execPdelay x0 x1 x2 s
  | .pdelayTimer x0 => Sys2Proof.Machine.execPdelayTimer x0 s
  | .timeSourceLoss => Sys2Proof.Machine.execTimeSourceLoss s
  | .mirror x0 x1 => Sys2Proof.Machine.execMirror x0 x1 s
  | .handover x0 x1 => Sys2Proof.Machine.execHandover x0 x1 s
  | .linkFrame x0 x1 x2 => Sys2Proof.Machine.execLinkFrame x0 x1 x2 s
  | .lnkLaneSpared x0 x1 => Sys2Proof.Machine.execLnkLaneSpared x0 x1 s
  | .detect x0 x1 => Sys2Proof.Machine.execDetect x0 x1 s
  | .signalLook x0 x1 => Sys2Proof.Machine.execSignalLook x0 x1 s
  | .identify x0 x1 => Sys2Proof.Machine.execIdentify x0 x1 s
  | .equalise x0 x1 => Sys2Proof.Machine.execEqualise x0 x1 s
  | .lock x0 x1 => Sys2Proof.Machine.execLock x0 x1 s
  | .lnkDown x0 x1 => Sys2Proof.Machine.execLnkDown x0 x1 s
  | .peerLost x0 => Sys2Proof.Machine.execPeerLost x0 s
  | .splitPacket x0 x1 => Sys2Proof.Machine.execSplitPacket x0 x1 s
  | .retrain x0 x1 => Sys2Proof.Machine.execRetrain x0 x1 s
  | .flitHop x0 x1 x2 x3 => Sys2Proof.Machine.execFlitHop x0 x1 x2 x3 s
  | .gateFlit x0 x1 => Sys2Proof.Machine.execGateFlit x0 x1 s
  | .parkStale x0 x1 => Sys2Proof.Machine.execParkStale x0 x1 s
  | .fabDeadlock x0 x1 x2 x3 => Sys2Proof.Machine.execFabDeadlock x0 x1 x2 x3 s
  | .fabricLockup x0 => Sys2Proof.Machine.execFabricLockup x0 s
  | .readReq x0 x1 x2 x3 x4 x5 => Sys2Proof.Machine.execReadReq x0 x1 x2 x3 x4 x5 s
  | .readData x0 x1 x2 x3 => Sys2Proof.Machine.execReadData x0 x1 x2 x3 s
  | .write x0 x1 x2 x3 => Sys2Proof.Machine.execWrite x0 x1 x2 x3 s
  | .remoteWriteStored x0 => Sys2Proof.Machine.execRemoteWriteStored x0 s
  | .writeAck x0 x1 x2 => Sys2Proof.Machine.execWriteAck x0 x1 x2 s
  | .nack x0 x1 x2 x3 => Sys2Proof.Machine.execNack x0 x1 x2 x3 s
  | .longPartial x0 => Sys2Proof.Machine.execLongPartial x0 s
  | .reAnchor x0 => Sys2Proof.Machine.execReAnchor x0 s
  | .control x0 x1 => Sys2Proof.Machine.execControl x0 x1 s
  | .event x0 => Sys2Proof.Machine.execEvent x0 s
  | .descriptorComplete x0 x1 => Sys2Proof.Machine.execDescriptorComplete x0 x1 s
  | .streamDue x0 x1 => Sys2Proof.Machine.execStreamDue x0 x1 s
  | .slipTimeout x0 x1 => Sys2Proof.Machine.execSlipTimeout x0 x1 s
  | .scrub x0 x1 x2 => Sys2Proof.Machine.execScrub x0 x1 x2 s
  | .endOp x0 => Sys2Proof.Machine.execEndOp x0 s
  | .loop x0 x1 x2 x3 => Sys2Proof.Machine.execLoop x0 x1 x2 x3 s
  | .arm x0 => Sys2Proof.Machine.execArm x0 s
  | .check x0 x1 => Sys2Proof.Machine.execCheck x0 x1 s
  | .fenceD x0 => Sys2Proof.Machine.execFenceD x0 s
  | .fenceS x0 => Sys2Proof.Machine.execFenceS x0 s
  | .fenceA x0 => Sys2Proof.Machine.execFenceA x0 s
  | .issue x0 x1 x2 x3 x4 => Sys2Proof.Machine.execIssue x0 x1 x2 x3 x4 s
  | .waitEvent x0 x1 => Sys2Proof.Machine.execWaitEvent x0 x1 s
  | .feed x0 => Sys2Proof.Machine.execFeed x0 s
  | .latch x0 x1 => Sys2Proof.Machine.execLatch x0 x1 s
  | .fileLoad x0 x1 x2 x3 => Sys2Proof.Machine.execFileLoad x0 x1 x2 x3 s
  | .close x0 => Sys2Proof.Machine.execClose x0 s
  | .save x0 x1 x2 => Sys2Proof.Machine.execSave x0 x1 x2 s
  | .restore x0 x1 x2 => Sys2Proof.Machine.execRestore x0 x1 x2 s
  | .outlierGather x0 => Sys2Proof.Machine.execOutlierGather x0 s
  | .add x0 => Sys2Proof.Machine.execAdd x0 s
  | .subtract x0 => Sys2Proof.Machine.execSubtract x0 s
  | .multiply x0 => Sys2Proof.Machine.execMultiply x0 s
  | .fusedMultiplyAdd x0 => Sys2Proof.Machine.execFusedMultiplyAdd x0 s
  | .min x0 => Sys2Proof.Machine.execMin x0 s
  | .max x0 => Sys2Proof.Machine.execMax x0 s
  | .abs x0 => Sys2Proof.Machine.execAbs x0 s
  | .negate x0 => Sys2Proof.Machine.execNegate x0 s
  | .sqrt x0 => Sys2Proof.Machine.execSqrt x0 s
  | .rsqrt x0 => Sys2Proof.Machine.execRsqrt x0 s
  | .rcp x0 => Sys2Proof.Machine.execRcp x0 s
  | .exp2 x0 => Sys2Proof.Machine.execExp2 x0 s
  | .log2 x0 => Sys2Proof.Machine.execLog2 x0 s
  | .sigmoid x0 => Sys2Proof.Machine.execSigmoid x0 s
  | .tanh x0 => Sys2Proof.Machine.execTanh x0 s
  | .erf x0 => Sys2Proof.Machine.execErf x0 s
  | .convert x0 x1 x2 => Sys2Proof.Machine.execConvert x0 x1 x2 s
  | .quantise x0 => Sys2Proof.Machine.execQuantise x0 s
  | .compare x0 x1 => Sys2Proof.Machine.execCompare x0 x1 s
  | .select x0 => Sys2Proof.Machine.execSelect x0 s
  | .runningMax x0 => Sys2Proof.Machine.execRunningMax x0 s
  | .argmax x0 => Sys2Proof.Machine.execArgmax x0 s
  | .integerAdd x0 => Sys2Proof.Machine.execIntegerAdd x0 s
  | .shift x0 x1 => Sys2Proof.Machine.execShift x0 x1 s
  | .and x0 => Sys2Proof.Machine.execAnd x0 s
  | .or x0 => Sys2Proof.Machine.execOr x0 s
  | .xor x0 => Sys2Proof.Machine.execXor x0 s
  | .outlierTest x0 => Sys2Proof.Machine.execOutlierTest x0 s
  | .silu x0 => Sys2Proof.Machine.execSilu x0 s
  | .gelu x0 => Sys2Proof.Machine.execGelu x0 s
  | .lensRotate x0 => Sys2Proof.Machine.execLensRotate x0 s
  | .positionRotate x0 => Sys2Proof.Machine.execPositionRotate x0 s
  | .sendStatic x0 x1 x2 x3 x4 => Sys2Proof.Machine.execSendStatic x0 x1 x2 x3 x4 s
  | .sendDynamic x0 x1 => Sys2Proof.Machine.execSendDynamic x0 x1 s
  | .snap x0 => Sys2Proof.Machine.execSnap x0 s
  | .clear x0 => Sys2Proof.Machine.execClear x0 s
  | .keeperHalt x0 => Sys2Proof.Machine.execKeeperHalt x0 s
  | .haltEnd x0 => Sys2Proof.Machine.execHaltEnd x0 s
  | .chaseHalted x0 => Sys2Proof.Machine.execChaseHalted x0 s
  | .slipLongest x0 x1 => Sys2Proof.Machine.execSlipLongest x0 x1 s
  | .parkMax x0 x1 => Sys2Proof.Machine.execParkMax x0 x1 s
  | .ringLost x0 => Sys2Proof.Machine.execRingLost x0 s
  | .suppressed x0 => Sys2Proof.Machine.execSuppressed x0 s
  | .logLost x0 => Sys2Proof.Machine.execLogLost x0 s
  | .convExpired x0 => Sys2Proof.Machine.execConvExpired x0 s
  | .pairLowRead x0 x1 => Sys2Proof.Machine.execPairLowRead x0 x1 s
  | .registerWrite x0 x1 x2 x3 => Sys2Proof.Machine.execRegisterWrite x0 x1 x2 x3 s
  | .badAccess x0 x1 x2 => Sys2Proof.Machine.execBadAccess x0 x1 x2 s
  | .noAnswer x0 x1 x2 => Sys2Proof.Machine.execNoAnswer x0 x1 x2 s
  | .queueEnable x0 => Sys2Proof.Machine.execQueueEnable x0 s
  | .queueDisable x0 => Sys2Proof.Machine.execQueueDisable x0 s
  | .limitGib x0 => Sys2Proof.Machine.execLimitGib x0 s
  | .ringEn x0 => Sys2Proof.Machine.execRingEn x0 s
  | .ringHead x0 => Sys2Proof.Machine.execRingHead x0 s
  | .telEn x0 => Sys2Proof.Machine.execTelEn x0 s
  | .head x0 => Sys2Proof.Machine.execHead x0 s
  | .retentionRequest => Sys2Proof.Machine.execRetentionRequest s
  | .retentionExit x0 => Sys2Proof.Machine.execRetentionExit x0 s
  | .retentionWave => Sys2Proof.Machine.execRetentionWave s
  | .blockReset x0 => Sys2Proof.Machine.execBlockReset x0 s
  | .quiesceDone => Sys2Proof.Machine.execQuiesceDone s
  | .rstQuiesceTimeout x0 => Sys2Proof.Machine.execRstQuiesceTimeout x0 s
  | .softwareModuleReset x0 => Sys2Proof.Machine.execSoftwareModuleReset x0 s
  | .forceStep x0 => Sys2Proof.Machine.execForceStep x0 s
  | .locked x0 => Sys2Proof.Machine.execLocked x0 s
  | .intervalS x0 => Sys2Proof.Machine.execIntervalS x0 s
  | .rdSeq x0 => Sys2Proof.Machine.execRdSeq x0 s
  | .ackSeq x0 => Sys2Proof.Machine.execAckSeq x0 s
  | .kmbVersion x0 => Sys2Proof.Machine.execKmbVersion x0 s
  | .groupState x0 => Sys2Proof.Machine.execGroupState x0 s
  | .streamQuery x0 => Sys2Proof.Machine.execStreamQuery x0 s
  | .ack x0 => Sys2Proof.Machine.execAck x0 s
  | .winCtl x0 x1 => Sys2Proof.Machine.execWinCtl x0 x1 s
  | .target x0 => Sys2Proof.Machine.execTarget x0 s
  | .t2DirectoryRead x0 x1 => Sys2Proof.Machine.execT2DirectoryRead x0 x1 s
  | .mctpControl x0 x1 => Sys2Proof.Machine.execMctpControl x0 x1 s
  | .pldmBase x0 x1 => Sys2Proof.Machine.execPldmBase x0 x1 s
  | .pldmMonitoring x0 x1 x2 => Sys2Proof.Machine.execPldmMonitoring x0 x1 x2 s
  | .pldmFru x0 => Sys2Proof.Machine.execPldmFru x0 s
  | .pldmFirmwareUpdate x0 x1 x2 => Sys2Proof.Machine.execPldmFirmwareUpdate x0 x1 x2 s
  | .readReg x0 x1 => Sys2Proof.Machine.execReadReg x0 x1 s
  | .readRegTimeout x0 x1 => Sys2Proof.Machine.execReadRegTimeout x0 x1 s
  | .readFaultLog x0 x1 => Sys2Proof.Machine.execReadFaultLog x0 x1 s
  | .readUsage x0 x1 => Sys2Proof.Machine.execReadUsage x0 x1 s
  | .shutdown => Sys2Proof.Machine.execShutdown s
  | .moduleReset x0 => Sys2Proof.Machine.execModuleReset x0 s
  | .setdasa x0 => Sys2Proof.Machine.execSetdasa x0 s
  | .entdaa x0 => Sys2Proof.Machine.execEntdaa x0 s
  | .mgtBusShort x0 => Sys2Proof.Machine.execMgtBusShort x0 s
  | .mgtPinStuck x0 => Sys2Proof.Machine.execMgtPinStuck x0 s
  | .trayRead x0 => Sys2Proof.Machine.execTrayRead x0 s
  | .stopTimeout => Sys2Proof.Machine.execStopTimeout s
  | .handoverComplete => Sys2Proof.Machine.execHandoverComplete s
  | .mgtTrayShort x0 => Sys2Proof.Machine.execMgtTrayShort x0 s
  | .trayProbe x0 x1 => Sys2Proof.Machine.execTrayProbe x0 x1 s
  | .pwrInputLoss x0 => Sys2Proof.Machine.execPwrInputLoss x0 s
  | .pwrInputOver x0 => Sys2Proof.Machine.execPwrInputOver x0 s
  | .inputBandChange x0 => Sys2Proof.Machine.execInputBandChange x0 s
  | .pwrInputReversed => Sys2Proof.Machine.execPwrInputReversed s
  | .pwrBusDegraded x0 => Sys2Proof.Machine.execPwrBusDegraded x0 s
  | .fabTransitLost x0 x1 => Sys2Proof.Machine.execFabTransitLost x0 x1 s
  | .clockChange x0 x1 => Sys2Proof.Machine.execClockChange x0 x1 s
  | .pwrSenseOpen x0 x1 => Sys2Proof.Machine.execPwrSenseOpen x0 x1 s
  | .hint x0 x1 => Sys2Proof.Machine.execHint x0 x1 s
  | .pwrOcWarn x0 x1 => Sys2Proof.Machine.execPwrOcWarn x0 x1 s
  | .ocLimitReturn x0 => Sys2Proof.Machine.execOcLimitReturn x0 s
  | .pwrRailFault x0 x1 x2 => Sys2Proof.Machine.execPwrRailFault x0 x1 x2 s
  | .railRetry x0 x1 => Sys2Proof.Machine.execRailRetry x0 x1 s
  | .unpark x0 x1 => Sys2Proof.Machine.execUnpark x0 x1 s
  | .switchOn x0 => Sys2Proof.Machine.execSwitchOn x0 s
  | .switchOnRecheck x0 => Sys2Proof.Machine.execSwitchOnRecheck x0 s
  | .pwrSwitchDeferred x0 => Sys2Proof.Machine.execPwrSwitchDeferred x0 s
  | .bankGate x0 x1 => Sys2Proof.Machine.execBankGate x0 x1 s
  | .bankGated x0 x1 => Sys2Proof.Machine.execBankGated x0 x1 s
  | .bankOpen x0 x1 => Sys2Proof.Machine.execBankOpen x0 x1 s
  | .currentLatch x0 => Sys2Proof.Machine.execCurrentLatch x0 s
  | .sensorSample x0 => Sys2Proof.Machine.execSensorSample x0 s
  | .estimatorSample x0 => Sys2Proof.Machine.execEstimatorSample x0 s
  | .fModStep x0 => Sys2Proof.Machine.execFModStep x0 s
  | .chaseThermalAction x0 => Sys2Proof.Machine.execChaseThermalAction x0 s
  | .thermalCycle => Sys2Proof.Machine.execThermalCycle s
  | .suspectDecay x0 => Sys2Proof.Machine.execSuspectDecay x0 s
  | .powerOn => Sys2Proof.Machine.execPowerOn s
  | .brownOut x0 => Sys2Proof.Machine.execBrownOut x0 s
  | .resetN x0 => Sys2Proof.Machine.execResetN x0 s
  | .perst x0 x1 => Sys2Proof.Machine.execPerst x0 x1 s
  | .rstWatchdog x0 => Sys2Proof.Machine.execRstWatchdog x0 s
  | .rstLockup x0 => Sys2Proof.Machine.execRstLockup x0 s
  | .clockMonitor x0 => Sys2Proof.Machine.execClockMonitor x0 s
  | .rstLampXtal => Sys2Proof.Machine.execRstLampXtal s
  | .rstFabricRef x0 => Sys2Proof.Machine.execRstFabricRef x0 s
  | .timeSyncPoint x0 => Sys2Proof.Machine.execTimeSyncPoint x0 s
  | .releaseStep x0 x1 => Sys2Proof.Machine.execReleaseStep x0 x1 s
  | .pllCountDone x0 x1 => Sys2Proof.Machine.execPllCountDone x0 x1 s
  | .rstPllNoLock x0 x1 => Sys2Proof.Machine.execRstPllNoLock x0 x1 s
  | .rstStepTimeout x0 => Sys2Proof.Machine.execRstStepTimeout x0 s
  | .refclkRecovered x0 => Sys2Proof.Machine.execRefclkRecovered x0 s
  | .kindlingWave => Sys2Proof.Machine.execKindlingWave s
  | .chaseLit x0 x1 => Sys2Proof.Machine.execChaseLit x0 x1 s
  | .fabricDrained x0 => Sys2Proof.Machine.execFabricDrained x0 s
  | .retestDone x0 x1 => Sys2Proof.Machine.execRetestDone x0 x1 s
  | .reloadDone x0 => Sys2Proof.Machine.execReloadDone x0 s
  | .kprVoteMinority x0 x1 => Sys2Proof.Machine.execKprVoteMinority x0 x1 s
  | .kprVoteSplit x0 => Sys2Proof.Machine.execKprVoteSplit x0 s
  | .keeperRebuilt x0 => Sys2Proof.Machine.execKeeperRebuilt x0 s
  | .streamMinute => Sys2Proof.Machine.execStreamMinute s
  | .stkFailed x0 x1 => Sys2Proof.Machine.execStkFailed x0 x1 s
  | .stackRetrain x0 x1 => Sys2Proof.Machine.execStackRetrain x0 x1 s
  | .stkRebuilt x0 => Sys2Proof.Machine.execStkRebuilt x0 s
  | .stackWriteAck x0 => Sys2Proof.Machine.execStackWriteAck x0 s
  | .hstLinkDown x0 => Sys2Proof.Machine.execHstLinkDown x0 s
  | .slotDigestCheck x0 x1 => Sys2Proof.Machine.execSlotDigestCheck x0 x1 s
  | .slotScrubDone x0 => Sys2Proof.Machine.execSlotScrubDone x0 s
  | .keeperBooted x0 => Sys2Proof.Machine.execKeeperBooted x0 s
  | .stackTrained x0 x1 x2 x3 => Sys2Proof.Machine.execStackTrained x0 x1 x2 x3 s
  | .hostLinkUp x0 x1 x2 x3 => Sys2Proof.Machine.execHostLinkUp x0 x1 x2 x3 s

end Sys2Proof.Machine
end

