-- ==== Sys2Proof/Machine/Tick.lean ====
section
/-! DEFINITION. What one lamp cycle does on an empty queue (log entry 8): lamp time, the chase clocks with their
slips (R138, R140, R164 to R174), and what lapses with lamp time alone. -/

namespace Sys2Proof.Machine

/-! ### One chase clock cycle -/

/-- A core that executes at a use cycle whose entries are all COMPLETE releases them (R161, R164). -/
def Core.useGates (k : Core) (time : Nat) : Core :=
  let now := k.usesNow time
  { k with
    gates := now.foldl (fun m u => kadj m u.1 (fun g => { g with st := .released })) k.gates
    uses := k.uses.filter (fun u => !now.contains u) }

/-- One clock cycle of a core (R140, R164, R170, R171): a hold and a use cycle that waits stop core time, and so does a
frozen cycle, in which a core with a lag runs it out unless it defers. -/
def Core.cycle (k : Core) (clk time : Nat) (frozen defers : Bool) : Core :=
  let k := if 16 ≤ k.wbuf.length then { k with cntWbFull := bump k.cntWbFull 1 } else k
  let stop := k.holding clk || k.stuck time
  if frozen then
    (if stop || defers || k.lag == 0 then k else let k := k.useGates time; { k with lag := k.lag - 1 })
  else if stop then { k with lag := k.lag + 1 }
  else k.useGates time

/-- The requests that a cycle still has to look at (R167, R168). -/
def Chase.liveSlips (ch : Chase) : List Slip := ch.slips.filter (fun x => x.stop.all (fun e => decide (ch.clk < e)))

/-- The counts of a frozen cycle (R179). A run that is in progress when SLIP_LONGEST is read counts whole afterwards
(DESIGN CHOICE, log entry 93). -/
def countFrozen (s : State) (n run : Nat) : State :=
  let s := addF s Reg.CHS_SLIP_CYCLES 1 n
  setF s Reg.CHS_SLIP_LONGEST (max (min run (2 ^ 32 - 1)) (getF s Reg.CHS_SLIP_LONGEST n)) n

/-- A frozen cycle of a STREAM_DUE slip that a miss caused (R268, R284), counted at its layer. -/
def countMissSlip (s : State) (n : Nat) : State :=
  let ch := getChase s n
  let due := ch.slips.filter (fun x => x.source == Src.streamDue && x.covers ch.clk)
  let binds := due.filterMap (fun x => x.core.bind (fun c =>
    ((getCore s c).descs.find? (fun d => d.2.seq == x.what)).bind (fun d => d.2.bind)))
  match binds.find? (fun b => (coldAt s b.forme b.layer).any (fun y => (y.slots[b.slot]?).any (fun z =>
      z.st == .streaming && z.expert == b.expert && z.miss))) with
  | some b => countExperts s b.layer (fun x => { x with slip := bumpCount x.slip 1 })
  | none => s

/-- The cores that the state lists in a chase. -/
def coresIn (s : State) (n : Nat) : List (CoreRef × Core) :=
  (s.cores.filter (fun x => keyChase x.1 == n)).map (fun x => (coreOfKey x.1, x.2))

/-- Further recomputes are requested when the one before ends (R165). -/
def redoSlips (s : State) (n : Nat) : State :=
  (coresIn s n).foldl (fun s x =>
    (x.2.redo.filter (fun r => decide (r.at_ ≤ (getChase s n).clk))).foldl (fun s r =>
      let s := reqSlip (modCore s x.1 (fun k => { k with redo := k.redo.erase r })) x.1 Src.windowRecompute r.len
      if r.left ≤ 1 then s else modCore s x.1 (fun k => { k with redo := k.redo ++ [⟨k.slipEnd, r.left - 1, r.len⟩] })) s) s

/-- The slips of descriptors that are incomplete when chase time reaches their DUE (R130). -/
def dueSlips (s : State) (n : Nat) : State :=
  (coresIn s n).foldl (fun s x => x.2.descs.foldl (fun s d => raiseDue s x.1 d.2) s) s

/-- The static transfers of a chase that are sent at chase time `t` (R142, R143, R191), with their parts: each part's, in
its passes from the first on. -/
def laneNow (s : State) (n t : Nat) : List (Placed × Xfer) :=
  s.formes.flatMap (fun f => (f.2.parts.filter (fun p => p.live && p.chase == n && decide (0 < p.schedLen)
      && reached t 0 p.start)).flatMap (fun p =>
    ((descrOf f.2 p).elim [] (xfersOf (layoutBytes f.2.image p.layer p.layout))).zip p.sends |>.filterMap (fun x =>
      if ((t + 2 ^ 48 - p.start) % 2 ^ 48) % p.schedLen = x.2 % p.schedLen then some (p, x.1) else none)))

/-- Their flits, from the send slots as they stand. A slot that nothing has written sends no flit (DESIGN CHOICE, log entry
94). -/
def laneSends (s : State) (n t : Nat) : List Lane :=
  (laneNow s n t).filterMap (fun x =>
    (kget? (getCore s (x.1.coreAt x.2.srcRow x.2.srcCol)).sendFile x.2.sendSlot).map (fun g =>
      ⟨(t + ((staticRoute s n x.1.row x.1.col x.1.cols x.2).elim 0 List.length)) % 2 ^ 48,
        x.1.coreAt x.2.dstRow x.2.dstCol, x.2.recvSlot, g⟩))

/-- The routers of a chase in an unfrozen cycle (R142, R143, R170): static flits leave their send slots, and those on
their way land in their receive slots, by chase time. -/
def laneCycle (s : State) (n : Nat) : State :=
  let t := (getChase s n).time
  let s := (laneNow s n t).foldl (fun s x => meetFile s (x.1.coreAt x.2.srcRow x.2.srcCol) 5 [x.2.sendSlot]) s
  let sent := laneSends s n t
  let now := (getChase s n).lanes ++ sent
  let s := modChase s n (fun ch => { ch with lanes := now.filter (fun l => l.lands != t) })
  (now.filter (fun l => l.lands == t)).foldl (fun s l =>
    modCore s l.core (fun k => { k with recvFile := kset k.recvFile l.slot l.flit }.fresh 5 [128 + l.slot])) s

/-- The core or router that raised a fault item in chase `n`, whose EVENT packet has not been sent (R150). -/
def unsentIn (n : Nat) (it : FaultItem) : Bool := !it.sent && it.chase == some n && it.row.isSome && it.pcol.isSome

/-- The EVENT packet of a fault item enters the fabric at its router, to keeper group 2 (R149, R150); the spec lays down no
payload (log entry 2). -/
def sendEvent (s : State) (it : FaultItem) : State :=
  let r : RouterRef := ⟨Fin.ofNat 1024 (it.row.getD 0), Fin.ofNat 1056 (it.pcol.getD 0)⟩
  let f : Flit := ⟨BitVec.ofNat 64 (it.stamp.getD 0), routeWord 0x43A 0 (Kind.cls Kind.event) Kind.event,
    freeBytes 0x10B [it.code] 68, 0, false⟩
  enterFabric s r 6 f (decide (4 ≤ heldAt s r 6 (flitClass f) false) || decide (0 < heldAt s r 6 (flitClass f) true)) none

/-- The fault items of a chase's cores and routers leave as EVENT packets (R150). -/
def sendEvents (s : State) (n : Nat) : State :=
  (s.faults.items.filter (unsentIn n)).foldl sendEvent { s with faults := { s.faults with
    items := s.faults.items.map (fun it => if unsentIn n it then { it with sent := true } else it) } }

/-- The first frozen cycle of a freeze interval, given when the interval is planned, 32 cycles ahead (R166, R200): the request
of the cycle just ended opens one. -/
def Chase.plannedFreeze (ch : Chase) : Option Nat :=
  let c := ch.clk + 31
  if ch.slips.any (fun x => x.covers c) && !ch.slips.any (fun x => x.covers (c - 1)) then some c else ch.freezeAt

/-- The end of a freeze interval, given in its last cycle (R200). -/
def Chase.lastThaw (ch : Chase) : Option Nat :=
  if decide (0 < ch.clk) && ch.slips.any (fun x => x.covers (ch.clk - 1)) && !ch.frozen then some ch.clk else ch.thawAt

/-- The core part of one clock cycle of chase `n`, whose rail is on: chase time advances in every cycle that is not frozen
(R138). -/
def coreCycle (s : State) (n : Nat) : State :=
  let ch := getChase s n
  let frozen := ch.frozen
  let s := if frozen then countMissSlip s n else laneCycle s n
  let s := { s with cores := s.cores.map (fun x =>
    if keyChase x.1 = n then (x.1, x.2.cycle ch.clk ch.time frozen (ch.defers (coreOfKey x.1))) else x) }
  let s := modChase s n (fun ch => { ch with
    clk := ch.clk + 1
    run := if frozen then ch.run + 1 else 0
    time := if frozen then ch.time else (ch.time + 1) % 2 ^ 48 })
  let s := modChase s n (fun ch => { ch with slips := ch.liveSlips, freezeAt := ch.plannedFreeze, thawAt := ch.lastThaw })
  let s := if frozen then countFrozen s n (getChase s n).run else s
  let s := dueSlips (redoSlips (banksOpen s n) n) n
  if (getChase s n).haltHeld then s
  else if onF s Reg.CHS_SCHED_CTL_HALTED n then setF s Reg.CHS_SCHED_CTL_HALTED 0 n else s

/-- One clock cycle of chase `n`: its core part and its transit part (R30). -/
def chaseCycle (s : State) (n : Nat) : State := settleQueues (sendEvents (coreCycle s n) n) n

/-- `m` clock cycles of a chase. -/
def chaseCycles : Nat → State → Nat → State
  | 0, s, _ => s
  | m + 1, s, n => chaseCycles m (chaseCycle s n) n

/-- One cycle of the transit clock of a chase whose core rail is not on (R31, R156). -/
def transitCycle (s : State) (n : Nat) : State :=
  settleQueues (sendEvents (modChase s n (fun ch => { ch with clk := ch.clk + 1 })) n) n

/-- `m` cycles of the transit clock. -/
def transitCycles : Nat → State → Nat → State
  | 0, s, _ => s
  | m + 1, s, n => transitCycles m (transitCycle s n) n

/-- The clock cycles of a chase in one lamp cycle of 40 ns (R417): its clock is a multiple of 25 MHz. While its core rail is
not on, the transit logic runs at 600 MHz (R31). -/
def chaseTicks (s : State) (n : Nat) : State :=
  if railOn s n && (getChase s n).pllOk then chaseCycles (getF s Reg.CPW_CLK_NOW n / 25) s n
  else if transitUp s n then transitCycles 24 s n else s

/-! ### One lamp cycle -/

/-- Lamp time advances by 40 ns, slewed by at most 500 ppm (R509): 1 ns in 50 lamp cycles. -/
def advanceLamp (s : State) : State :=
  if s.slew = 0 then { s with lampTime := s.lampTime + 40, slewCycles := 0 }
  else if s.slewCycles + 1 < 50 then { s with lampTime := s.lampTime + 40, slewCycles := s.slewCycles + 1 }
  else if 0 < s.slew then { s with lampTime := s.lampTime + 41, slewCycles := 0, slew := s.slew - 1 }
  else { s with lampTime := s.lampTime + 39, slewCycles := 0, slew := s.slew + 1 }

/-- Synchronisation lapses 1 s after the last exchange (R509). -/
def lapseSync (s : State) : State :=
  if onF s Reg.LAMP_TIME_CTL_SYNCED 0
      && (timePath s).all (fun k => ((getLink s k).lastExchange).all (fun t => decide (t + 1000000000 < s.lampTime))) then
    setSynced s false
  else s

/-- What strikes the stores and the stacks in a lamp cycle (R101 to R106, R511): bytes of their words change, free values
of Config (log entry 81), by word, byte position and difference. -/
def strike (s : State) : State :=
  let hit := fun (m : KMap (KMap Nat)) (u : Nat × Nat × Nat) => strikeWord m u.1 (u.2.1 % 68) (u.2.2 % 256)
  { s with mem := { s.mem with
      errs := (Config.upsets s.lampTime).foldl hit s.mem.errs
      stackErrs := (Config.stackUpsets s.lampTime).foldl hit s.mem.stackErrs } }

/-- File slots whose parity a lamp cycle breaks (R376), a free value of Config (log entry 88). -/
def strikeFiles (s : State) : State :=
  (Config.parityUpsets s.lampTime).foldl (fun s u =>
    modCore s (coreOfKey u.1) (fun k => { k with parity := addOnce k.parity u.2 })) s

/-- One lamp cycle. -/
def tick (s : State) : State :=
  let s := rebuildsGo (rampsEnd (rimDrain ((List.range 256).foldl chaseTicks (strikeFiles (strike (advanceLamp s))))))
  busesReturn (lapseSync s)

end Sys2Proof.Machine
end

