-- ==== Sys2Proof/Safety.lean ====
section
/-! DEFINITION. What the statements say of a run: the invariant of the block, when a command completes, and
the frames (what a command leaves as it was). -/

namespace Sys2Proof.Machine

/-! ### The invariant -/

/-- The three memories are in canonical form (log entry 4). -/
def MemOk (m : Mem) : Prop := m.store.wf ∧ m.stack.wf ∧ m.host.wf

/-- The memories are canonical; the fault log holds at most 64 records (R384), the evidence store 8,192
(R549), the queue of expired handles 64 (R541). -/
def Inv (s : State) : Prop :=
  MemOk s.mem ∧ s.faults.log.length ≤ 64 ∧ s.tele.store.length ≤ 8192 ∧ s.serve.convFifo.length ≤ 64

/-! ### Completion -/

/-- The command completes: `exec` answers a next state, of which `P` holds. -/
def Gives (c : Instr) (s : State) (P : State → Prop) : Prop := ∃ t, exec c s = .next t ∧ P t

/-- An outcome is a next state, of which `P` holds. -/
def Yields (o : Host.Outcome State Fault Refusal) (P : State → Prop) : Prop := ∃ t, o = .next t ∧ P t

/-! ### Frames -/

/-- Two maps agree at every key but those listed. -/
def AgreeBut {α : Type} (m m' : KMap α) (ks : List Nat) : Prop := ∀ k, k ∉ ks → kget? m' k = kget? m k

/-- Only registers changed, and of these only those listed, by their keys. -/
def RegsOnly (s t : State) (ks : List Nat) : Prop := t = { s with regs := t.regs } ∧ AgreeBut s.regs t.regs ks

/-- The byte memory is as before outside `[a, a + n)`. -/
def BytesBut (m m' : Memory) (a n : Nat) : Prop := ∀ x, x < a ∨ a + n ≤ x → memRead m' x = memRead m x

/-- Poison marks are as before but for the words that `[a, a + n)` touches. -/
def MarksBut (l l' : List Nat) (a n : Nat) : Prop := ∀ w, w ∉ wordsOf a n → (w ∈ l' ↔ w ∈ l)

/-- Only the store changed, and of it only `n` bytes from local address `a` of core `c` up; errors stay in the words
that these bytes do not touch. -/
def StoreOnly (s t : State) (c : CoreRef) (a n : Nat) : Prop :=
  t = { s with mem := { s.mem with store := t.mem.store, errs := t.mem.errs, storePoison := t.mem.storePoison } }
    ∧ (∀ e, e.1 ∉ wordsOf (storeAddr c a) n → (e ∈ t.mem.errs ↔ e ∈ s.mem.errs))
    ∧ BytesBut s.mem.store t.mem.store (storeAddr c a) n
    ∧ MarksBut s.mem.storePoison t.mem.storePoison (storeAddr c a) n

/-- Only the vector register rows of core `c` changed, and of these only row `r`, whose parity is good. -/
def VregOnly (s t : State) (c : CoreRef) (r : Nat) : Prop :=
  t = setCore s c ({ getCore s c with vregs := (getCore t c).vregs }.fresh 2 [r])
    ∧ AgreeBut (getCore s c).vregs (getCore t c).vregs [r]

/-- Only the destination row changed, and in the store only its first `n` bytes. -/
def RowOnly (s t : State) (c : CoreRef) (d : VRow) (n : Nat) : Prop :=
  match d with
  | .store a => StoreOnly s t c (rowAt a) n
  | .reg r => VregOnly s t c r.val
  | .recv _ => t = s
  | .send i => t = setCore s c ({ getCore s c with sendFile := (getCore t c).sendFile }.fresh 5
        (if 64 < n then [i.val, (i.val + 1) % 128] else [i.val]))
      ∧ AgreeBut (getCore s c).sendFile (getCore t c).sendFile [i.val, (i.val + 1) % 128]

/-- A vector operation completes: the destination row begins with `bs`, is poisoned where `poison` says
so (R377), and nothing else changed; a receive slot is no destination (R143). -/
def RowWritten (s : State) (o : Host.Outcome State Fault Refusal) (c : CoreRef) (d : VRow) (bs : List Byte)
    (poison : Bool) : Prop :=
  Yields o fun t => ((∀ i, d ≠ .recv i) → (getRow t c d).bytes.take bs.length = bs
      ∧ (poison = true → (getRow t c d).poison = true))
    ∧ RowOnly s t c d bs.length

/-- The core executes its operation `op` now (R141, R424), and none of the rows lies outside the store or in a shut bank
(R93, R433). -/
def Ready (s : State) (c : CoreRef) (op : Nat) (rows : List VRow) : Prop :=
  runs s c op = true ∧ ∀ r ∈ rows, rowFault s c r = none

/-- The state in which an operation forms its result: its core has gone on to the next operation, and its source rows are
read (R102, R141). -/
def atWork (s : State) (o : OpAt) (srcs : List VRow) : State :=
  meetRows (passOp s o.core) o.core (some (o.stamp, o.instr)) srcs

/-- The operand row holds no error: no byte of its words, no parity of its slots (R102, R376). -/
def RowClean (s : State) (c : CoreRef) : VRow → Prop
  | .store a => ∀ w ∈ wordsAt (rowAt a) 128, errsAt s c w = []
  | .reg r => (2, r.val) ∉ (getCore s c).parity
  | .recv i => (5, 128 + i.val) ∉ (getCore s c).parity ∧ (5, 128 + (i.val + 1) % 128) ∉ (getCore s c).parity
  | .send i => (5, i.val) ∉ (getCore s c).parity ∧ (5, (i.val + 1) % 128) ∉ (getCore s c).parity

/-- `n` bytes at local address `a` can be accessed (R93, R433). -/
def CanAccess (s : State) (c : CoreRef) (a n : Nat) : Prop := accessFault s c a n = none

/-- The lanes of an operand row. -/
def rowLanes (s : State) (o : VOp) (r : VRow) : List Nat := lanesOf o.fmt (getRow s o.core r).bytes

/-- Any of the operand rows is poisoned. -/
def rowsPoisoned (s : State) (o : VOp) (rs : List VRow) : Bool := rs.any (fun r => (getRow s o.core r).poison)

/-! ### Serving -/

/-- Keeper group 0 fetches from ring `q` now, and its response ring has room (R291, R294). -/
def Fetchable (s : State) (q : Nat) : Prop := canFetch s q = true ∧ rqFree s q ≠ 0

/-- The state with the head of ring `q` fetched: the head moved on, the tombstones of its ring nearer (R291, R329). -/
def fetched (s : State) (q : Nat) : State :=
  let t := popHead s q
  { t with serve := { t.serve with tombstones := t.serve.tombstones.map (ageTombstone q) } }

/-- Ring `q` takes a record at once: not handed to a partner, nothing owed, room, a port up (R294, R408, R495). -/
def RingOpen (s : State) (q : Nat) : Prop :=
  q ∉ s.partner.handed ∧ (getQ s q).owed = [] ∧ (getQ s q).used < rqSize s q ∧ hostUp s = true

end Sys2Proof.Machine
end

