-- ==== Sys2Proof/Certificates/Slice0/Obligations.lean ====
section
/-! DEFINITION. The statements for the provers. Each docstring names the rules of spec/ that a statement
follows, and the log entry where it rests on a choice of the model. -/

open Sys2Proof Sys2Proof.Machine

/-- The command at the front of the queue runs on the state with the queue's rest (the model's form of a step, log
entry 8). -/
def Obligations.StepRunsFrontCommand : Prop :=
  ∀ (c : Instr) (q : List Instr) (s : State), step { s with pending := c :: q } = exec c { s with pending := q }

/-- The invariant holds right after reset (R384, R541, R549: nothing is recorded yet). After reset every page's beacon
reads DARK (R536), the register fields read their reset values, no core, chase, stream, galley or forme holds
anything, and MOD_READY is low. -/
def Obligations.ResetHoldsNothing : Prop :=
  (Inv State.reset) ∧
  ((∀ p, beaconOf State.reset p = Beacon.dark) ∧
    (∀ (f : Fld) (i k : Nat), getF State.reset f i k = f.reset) ∧
    (∀ c, getCore State.reset c = Core.reset) ∧ (∀ n, getChase State.reset n = Chase.reset) ∧
    (∀ e, kget? State.reset.serve.streams e = none) ∧ State.reset.kv.galleys = [] ∧
    (∀ i, getForme State.reset i = none) ∧ (∀ a, memRead State.reset.mem.store a = 0) ∧
    State.reset.faults.log = [] ∧ State.reset.pins.modReady = false)

/-- Every step keeps the invariant: canonical memories, at most 64 records in the fault log (R384), at most 8,192
usage records (R549), at most 64 expired handles (R541). -/
def Obligations.StepKeepsInvariant : Prop :=
  ∀ s t : State, Inv s → step s = .next t → Inv t

/-- No command changes the queue of waiting commands, nor the keys of the debug page (R544). On an empty queue one
lamp cycle passes (log entry 8, the model's choice): lamp time moves on by 40 ns where no slew is in progress, neither
the stacks nor host memory change, and where no core rail is up neither do the store, the fault records, the serving
state, the fabric and the chases. -/
def Obligations.QueueAndKeysUntouched : Prop :=
  (∀ (c : Instr) (s t : State), Inv s → exec c s = .next t → t.pending = s.pending ∧ t.keys = s.keys) ∧
  (∀ s : State, s.pending = [] → s.slewCycles = 0 →
    ∃ t, step s = .next t ∧ t.lampTime = s.lampTime + 40 ∧ t.mem.host = s.mem.host ∧ t.mem.stack = s.mem.stack ∧ t.pending = [] ∧
      ((∀ n, railOn s n = false ∧ rail s n ≠ Rail.ramping) → t.mem.store = s.mem.store ∧ t.faults = s.faults ∧ t.serve = s.serve ∧
        t.fabric = s.fabric ∧ t.chases = s.chases))

/-- The codes of numbers (R43, R44, R46, R78). n4_nearest gives a code of the nearest N4 value, never 0x8; at a tie
the one whose mantissa bit is 0; ±6 above magnitude 6; 0x0 for zero. i4_nearest gives the nearest integer of −8 to +7,
the even one at a tie. I4 codes are two's complement. F8 has no infinity; 0x7F and 0xFF are NaN, and its largest and
smallest magnitudes are 448, 2^−6 normal and 2^−9 subnormal. -/
def Obligations.CodesOfNumbers : Prop :=
  (∀ y : Rat, n4Nearest y < 16 ∧ n4Nearest y ≠ 8 ∧
    (∀ c < 16, |y - n4Value (n4Nearest y)| ≤ |y - n4Value c|) ∧
    (∀ c < 16, |y - n4Value c| = |y - n4Value (n4Nearest y)| → n4Value c ≠ n4Value (n4Nearest y) → n4Nearest y % 2 = 0) ∧
    (6 < y → n4Value (n4Nearest y) = 6) ∧ (y < -6 → n4Value (n4Nearest y) = -6)) ∧
  n4Nearest 0 = 0 ∧
  (∀ y : Rat, i4Nearest y < 16 ∧
    (∀ n : Int, -8 ≤ n → n ≤ 7 → |y - (i4Value (i4Nearest y) : Rat)| ≤ |y - (n : Rat)|) ∧
    (∀ n : Int, -8 ≤ n → n ≤ 7 → |y - (n : Rat)| = |y - (i4Value (i4Nearest y) : Rat)| → n ≠ i4Value (i4Nearest y) →
      i4Value (i4Nearest y) % 2 = 0)) ∧
  (∀ c : Nat, (c < 8 → i4Value c = (c : Int)) ∧ (8 ≤ c → c < 16 → i4Value c = (c : Int) - 16)) ∧
  (∀ c < 256, (∀ b, decodeF8 c ≠ .inf b) ∧ (decodeF8 c = .nan ↔ c = 0x7F ∨ c = 0xFF) ∧
    ∀ b q, decodeF8 c = .fin b q → |q| ≤ 448 ∧ (q = 0 ∨ 1 / 512 ≤ |q|)) ∧
  decodeF8 0x7E = .fin false 448 ∧ decodeF8 0xFE = .fin true (-448) ∧ decodeF8 0x08 = .fin false (1 / 64) ∧
  decodeF8 0x01 = .fin false (1 / 512)

/-- The exact sum (R61, R62, R64, R65). Every term is truncated toward zero alone, and the terms of an element give
the same sum of 176 bits, flags and overflow in every order; the element closed from them, recomputed where it
overflows, is the same too. -/
def Obligations.SumsFreeOfOrder : Prop :=
  (∀ (anchor : Int) (t : Rat), |((termInt anchor t : Int) : Rat)| ≤ |t * pow2 (96 - anchor)| ∧
    |t * pow2 (96 - anchor)| < |((termInt anchor t : Int) : Rat)| + 1 ∧ (0 < termInt anchor t → 0 < t) ∧ (termInt anchor t < 0 → t < 0)) ∧
  (∀ x : Int, -2 ^ 175 ≤ x → x < 2 ^ 175 → wrap176 x = x) ∧
  (∀ (a : Acc) (ts us : List Rat), ts.Perm us →
    let b := ts.foldl Acc.addTerm a
    let c := us.foldl Acc.addTerm a
    (ts ≠ [] → b.acc = wrap176 (a.acc + (ts.map (termInt a.anchor)).sum)) ∧ b.acc = c.acc ∧ b.termOvf = c.termOvf ∧ b.trunc = c.trunc ∧
    b.overflows = c.overflows ∧ b.closed.1.acc = c.closed.1.acc ∧ b.closed.1.anchor = c.closed.1.anchor ∧
    b.closed.1.nan = c.closed.1.nan ∧ b.closed.2 = c.closed.2)

/-- Logical columns (R18, R19). Logical local column j sits on the (j + 1)-th non-retired physical core of its
segment, counting from local physical column 0; with at most two retired ones there are 64; with none, column j is on
physical column j and 64 and 65 are spare. The two translations are inverse to each other. -/
def Obligations.ColumnsSkipRetiredCores : Prop :=
  ∀ (s : State) (seg : Nat),
    let retired := kgetD s.errata.shift seg []
    (∀ j p, physLocal s seg j = some p → p < 66 ∧ p ∉ retired ∧ ((List.range p).filter (fun x => !retired.contains x)).length = j) ∧
    (retired.length ≤ 2 → ∀ j < 64, (physLocal s seg j).isSome) ∧
    (retired = [] → (∀ j < 64, physLocal s seg j = some j) ∧ logicalLocal s seg 64 = none ∧ logicalLocal s seg 65 = none) ∧
    (∀ j p, j < 64 → (physLocal s seg j = some p ↔ logicalLocal s seg p = some j))

/-- Floating lane operations (R117): each destination lane is the exact result of the operands' lanes, rounded once to
the row's format; poison of any source spreads (R377); nothing but the destination row changes. The F32 functions
(R117, R118, R119) act on every lane of a row, each function rounded once; nothing but the destination row changes.
The core has gone on to its program's next operation (R141) and the rows stand as their reads leave them (R102 to
R105, R376), which is as they were where they hold no error. -/
def Obligations.VectorFloatLanes : Prop :=
  (∀ (o : VOp) (s : State), o.fmt ≠ .int32 →
    let dec := (vshape o.fmt).decodeIeee
    let enc := (vshape o.fmt).encode
    (∀ p ∈ [(Instr.add o, 0x001, FVal.add), (.subtract o, 0x002, FVal.sub), (.multiply o, 0x003, FVal.mul),
        (.min o, 0x005, FVal.min), (.max o, 0x006, FVal.max)],
      Ready s o.core (opCode 2 p.2.1) [o.a, o.b, o.dst] →
      let u := atWork s (vopAt o) [o.a, o.b]
      RowWritten u (exec p.1 s) o.core o.dst (laneRow o.fmt (List.zipWith (fun x y => enc (p.2.2 (dec x) (dec y)))
        (rowLanes u o o.a) (rowLanes u o o.b))) (rowsPoisoned u o [o.a, o.b])) ∧
    (∀ p ∈ [(Instr.abs o, 0x007, FVal.abs), (.negate o, 0x008, FVal.neg)],
      Ready s o.core (opCode 2 p.2.1) [o.a, o.dst] →
      let u := atWork s (vopAt o) [o.a]
      RowWritten u (exec p.1 s) o.core o.dst (laneRow o.fmt ((rowLanes u o o.a).map (fun x => enc (p.2.2 (dec x)))))
        (rowsPoisoned u o [o.a])) ∧
    (Ready s o.core (opCode 2 0x004) [o.a, o.b, o.c, o.dst] →
    let u := atWork s (vopAt o) [o.a, o.b, o.c]
    RowWritten u (exec (.fusedMultiplyAdd o) s) o.core o.dst
      (laneRow o.fmt (List.zipWith (fun xy z => enc ((dec xy.1).fma (dec xy.2) (dec z)))
        (List.zip (rowLanes u o o.a) (rowLanes u o o.b)) (rowLanes u o o.c)))
      (rowsPoisoned u o [o.a, o.b, o.c]))) ∧
  (∀ (o : VOp) (s : State), o.fmt = .f32 →
    let u := atWork s (vopAt o) [o.a]
    ∀ p ∈ [(Instr.sqrt o, 0x010, rootBits FVal.sqrt), (.rsqrt o, 0x011, rootBits FVal.rsqrt), (.rcp o, 0x012, rootBits FVal.rcp),
        (.exp2 o, 0x018, exp2Bits), (.log2 o, 0x019, log2Bits), (.sigmoid o, 0x020, sigmoidBits), (.tanh o, 0x021, tanhBits),
        (.erf o, 0x022, erfBits), (.silu o, 0x048, fun x => mulF32 x (sigmoidBits x)),
        (.gelu o, 0x049, fun x => mulF32 (mulF32 0x3F000000 x) (addF32 0x3F800000 (erfBits (mulF32 x 0x3F3504F3))))],
      Ready s o.core (opCode 2 p.2.1) [o.a, o.dst] →
      RowWritten u (exec p.1 s) o.core o.dst (laneRow .f32 ((rowLanes u o o.a).map p.2.2)) (rowsPoisoned u o [o.a])) ∧
  (∀ (o : OpAt) (rows : List VRow) (s : State), (∀ r ∈ rows, RowClean s o.core r) → atWork s o rows = passOp s o.core) ∧
  (∀ (c : CoreRef) (s : State), ∃ ls n, passOp s c = setCore s c { getCore s c with loops := ls, op := n })

/-- Integer lane operations (R117): addition modulo 2^32, the bitwise functions, and shifts by less than 32; for a
shift by 32 or more the result is the free value of log entry 2. The index of the largest of integer lanes, and the
running maximum (R117): the lane at the index is not less than any lane, and no earlier lane equals it; the last
running maximum is the largest lane. A format that a function does not list leaves the core as it was (no loaded
program holds such an operation, R193, R206). -/
def Obligations.VectorIntegerLanes : Prop :=
  (∀ (o : VOp) (s : State), o.fmt = .int32 →
    let u := atWork s (vopAt o) [o.a, o.b]
    (∀ p ∈ [(Instr.integerAdd o, 0x038, fun x y => (x + y) % 2 ^ 32), (.and o, 0x03A, fun x y => x &&& y),
        (.or o, 0x03B, fun x y => x ||| y), (.xor o, 0x03C, fun x y => x ^^^ y)],
      Ready s o.core (opCode 2 p.2.1) [o.a, o.b, o.dst] →
      RowWritten u (exec p.1 s) o.core o.dst (laneRow .int32 (List.zipWith p.2.2 (rowLanes u o o.a) (rowLanes u o o.b)))
        (rowsPoisoned u o [o.a, o.b])) ∧
    (Ready s o.core (opCode 2 0x039) [o.a, o.b, o.dst] → ∀ kind, RowWritten u (exec (.shift o kind) s) o.core o.dst
      (laneRow .int32 (List.zipWith (shiftLane kind) (rowLanes u o o.a) (rowLanes u o o.b))) (rowsPoisoned u o [o.a, o.b]))) ∧
  (∀ x n, n < 32 → shiftLane .left x n = x * 2 ^ n % 2 ^ 32 ∧ shiftLane .right x n = x / 2 ^ n ∧
      (x < 2 ^ 31 → shiftLane .arith x n = x / 2 ^ n) ∧
      (2 ^ 31 ≤ x → x < 2 ^ 32 → shiftLane .arith x n = 2 ^ 32 - 1 - (2 ^ 32 - 1 - x) / 2 ^ n)) ∧
  (∀ (x : Nat) (xs : List Nat), (∀ v ∈ x :: xs, v < 2 ^ 31) →
    let i := argmaxOf .int32 (x :: xs)
    ∃ v, (x :: xs)[i]? = some v ∧ (∀ w ∈ x :: xs, w ≤ v) ∧ (∀ j, j < i → ∀ w, (x :: xs)[j]? = some w → w < v) ∧
      (runMax .int32 x (x :: xs)).getLast? = some v) ∧
  (∀ (o : VOp) (s : State),
    (o.fmt = .int32 → ∀ c ∈ [Instr.add o, .subtract o, .multiply o, .min o, .max o, .abs o, .negate o, .fusedMultiplyAdd o],
      exec c s = .next s) ∧
    (o.fmt ≠ .f32 → ∀ c ∈ [Instr.sqrt o, .rsqrt o, .rcp o, .exp2 o, .log2 o, .sigmoid o, .tanh o, .erf o, .silu o, .gelu o],
      exec c s = .next s) ∧
    (o.fmt ≠ .int32 → ∀ c ∈ [Instr.integerAdd o, .and o, .or o, .xor o, .shift o .left], exec c s = .next s))

/-- Comparison, selection, running maximum, index of the largest lane and conversion (R117). A selection by the lanes
that a comparison wrote takes the first operand where the comparison held and the second where it did not, a NaN as
the canonical one (R48, R119). The mask lanes themselves, a selection by other lanes and the index with a NaN among
the lanes are free values (log entry 2). The rows stand as their reads leave them. -/
def Obligations.VectorComparisons : Prop :=
  ∀ (o : VOp) (s : State),
    (Ready s o.core (opCode 2 0x030) [o.a, o.b, o.dst] →
    let u := atWork s (vopAt o) [o.a, o.b]
    ∀ kind, RowWritten u (exec (.compare o kind) s) o.core o.dst
      (laneRow o.fmt (List.zipWith (fun x y => maskLane o.fmt (match kind with
        | .lt => laneLt o.fmt x y
        | .le => laneLt o.fmt x y || laneEq o.fmt x y
        | .eq => laneEq o.fmt x y)) (rowLanes u o o.a) (rowLanes u o o.b))) (rowsPoisoned u o [o.a, o.b])) ∧
    (Ready s o.core (opCode 2 0x031) [o.a, o.b, o.c, o.dst] →
    let u := atWork s (vopAt o) [o.a, o.b, o.c]
    RowWritten u (exec (.select o) s) o.core o.dst
      (laneRow o.fmt (List.zipWith (fun xy m => selectLane o.fmt xy.1 xy.2 m)
        (List.zip (rowLanes u o o.a) (rowLanes u o o.b)) (rowLanes u o o.c))) (rowsPoisoned u o [o.a, o.b, o.c])) ∧
    (∀ x y, selectLane o.fmt x y (maskLane o.fmt true) = canonLane o.fmt x ∧
      selectLane o.fmt x y (maskLane o.fmt false) = canonLane o.fmt (if maskLane o.fmt false = maskLane o.fmt true then x else y)) ∧
    (∀ x, (laneNan o.fmt x = false → canonLane o.fmt x = x) ∧
      (laneNan o.fmt x = true → canonLane o.fmt x = (vshape o.fmt).canonicalNan)) ∧
    (let u := atWork s (vopAt o) [o.a]
    (Ready s o.core (opCode 2 0x032) [o.a, o.dst] → RowWritten u (exec (.runningMax o) s) o.core o.dst (laneRow o.fmt (runMax o.fmt ((rowLanes u o o.a).headD 0) (rowLanes u o o.a)))
      (rowsPoisoned u o [o.a])) ∧
    (Ready s o.core (opCode 2 0x033) [o.a, o.dst] →
      RowWritten u (exec (.argmax o) s) o.core o.dst (leBytes 4 (argmaxOf o.fmt (rowLanes u o o.a))) (rowsPoisoned u o [o.a])) ∧
    (∀ src dst, convertible src dst = true → Ready s o.core (opCode 2 0x028) [o.a, o.dst] → RowWritten u (exec (.convert o src dst) s) o.core o.dst
      ((List.range (128 / Nat.max (fmtBytes src) (fmtBytes dst))).flatMap
        (fun i => leBytes (fmtBytes dst) (roundOut dst (elemAt src (getRow u o.core o.a).bytes i))))
      (rowsPoisoned u o [o.a]))) ∧
    (∀ src dst, convertible src dst = false → exec (.convert o src dst) s = .next s)

/-- QUANTISE (R77, R78): a block of finite elements leaves 16 bytes of codes and one of scale at its place, or in its
KV entry (R211, R216), and nothing else changes; a block with a NaN or an infinity also raises NUM_NAN and is counted.
OUTLIER_TEST (R84 to R86) takes the block's outliers at the site's threshold into the token's set for the layer, which
stays in rising order of site and element, and writes the row with zeros in their places (a row that stays in its
place and has none is not written); the last test ends detection, which takes no extra pass up to 64 outliers. The
core has gone on to its next operation, and the rows stand as their reads leave them. -/
def Obligations.QuantiseAndOutlierTest : Prop :=
  (∀ (o : QuantOp) (s : State) (p : BlockPlace), blockOk o.fmt o.block = true →
    Ready s o.core (opCode 2 0x029) ([o.src] ++ if o.kv.isSome then [] else [.store o.dst, .store o.scaleDst]) →
    let u := atWork s ⟨o.core, o.stamp, o.instr⟩ [o.src]
    let r := getRow u o.core o.src
    let xs := blockVals o.fmt r.bytes o.block.val
    let q := quantiseBlock o.i4 xs
    let v := if q.nan then countNum (raise u { coreItem u Err.NUM_NAN o.core [o.blockIndex] with stamp := some o.stamp.toNat })
        (chaseOf o.core) o.layer (fun x => { x with nans := bump x.nans (xs.countP (· == .nan)) }) else u
    blockPlace v o.core o.stamp o.dst o.scaleDst o.kv = some p → CanAccess v o.core p.codes 16 →
    CanAccess v o.core p.scale (1 + p.pad) →
    exec (.quantise o) s = .next (storeWrite (storeWrite v o.core p.codes (packNibbles q.codes) r.poison) o.core p.scale
      (leBytes 1 q.scale ++ List.replicate p.pad 0) r.poison)) ∧
  (∀ (o : OutlierOp) (layer : Nat) (site : Site) (s : State), blockOk o.fmt o.block = true →
    writableRow o.dst = true → siteOf s o.core o.site = some (layer, site) →
    Ready s o.core (opCode 2 0x040) [o.src, o.dst] → o.last = false →
    let u := atWork s ⟨o.core, o.stamp, o.instr⟩ [o.src]
    let r := getRow u o.core o.src
    let out := outliersOf site.threshold (blockVals o.fmt r.bytes o.block.val)
    let xs : List Outlier := out.map (fun p => ⟨o.site, o.first + p.1, FloatShape.b16.roundIeee false p.2, r.poison⟩)
    let old := match outliersAt u (stampReq o.stamp) (stampPos o.stamp) layer with
      | some x => if x.ended then [] else x.items
      | none => []
    let lt := fun (x y : Outlier) => x.site < y.site ∨ (x.site = y.site ∧ x.elem < y.elem)
    (Gives (.outlierTest o) s fun t =>
      (∃ y, outliersAt t (stampReq o.stamp) (stampPos o.stamp) layer = some y ∧ y.ended = false ∧ (∀ x ∈ xs, x ∈ y.items) ∧
        (∀ x ∈ old, (∀ z ∈ xs, z.site = x.site → z.elem ≠ x.elem) → x ∈ y.items) ∧
        (∀ x ∈ y.items, x ∈ xs ∨ x ∈ old) ∧ (old.Pairwise lt → y.items.Pairwise lt)) ∧
      (out = [] → o.dst = o.src → t = { u with outliers := t.outliers }) ∧
      (out ≠ [] ∨ o.dst ≠ o.src → (getRow t o.core o.dst).bytes.take 128 = laneRow o.fmt ((lanesOf o.fmt r.bytes).mapIdx
        (fun i x => if out.any (fun p => 32 * o.block.val + p.1 == i) then 0 else x))) ∧
      t = { u with outliers := t.outliers, cores := t.cores, mem := { u.mem with
        store := t.mem.store, errs := t.mem.errs, storePoison := t.mem.storePoison } }) ∧
    (∀ t, exec (.outlierTest o) s = .next t → exec (.outlierTest { o with last := true }) s =
      .next (endDetection t o (stampReq o.stamp) (stampPos o.stamp) layer))) ∧
  (∀ (o : OutlierOp) (req pos layer : Nat) (x : OutlierSet) (f : Nat × Forme × Placed) (s : State),
    outliersAt s req pos layer = some x → partOfCore s o.core = some f →
    let u := { s with outliers := s.outliers.map (fun y => if y = x then { y with ended := true } else y) }
    (x.items.length ≤ 64 → endDetection s o req pos layer = u) ∧
    (64 < x.items.length → let t := endDetection s o req pos layer
      ((getChase t (chaseOf o.core)).counts.any (fun y => y.1 == layer && decide (1 ≤ y.2.passes))) = true ∧ t.mem = s.mem ∧
        t.outliers = u.outliers))

/-- FEED (R55 to R58, R107 to R115). With the row and metadata that `feedRow` gives, the products of the fed and the
held elements enter the accumulator, begun at the element's A0 with the first term (R60); a token that did not choose
the tile's expert, or does not pin its overlay, holds nothing there (R252, R281); poison of the row, the held rows or
a file byte spreads (R376, R377); the press counters rise (R136). Rows of a private expert are read dense (R270), and
a feed whose token chose a cold expert that is still to land leaves the core where it is (R251, R268); every other one
takes the core to its next operation (R141). What `feedRow` gives: a data row of the tile and its metadata, read
through the wide port and latched, or the latched row with one cycle less (R110), or, for an access outside the store
or in a shut bank, nothing but the fault item (R93, R433). LATCH keeps the row fed last for up to 16 cycles, once
(R110); FILE_LOAD puts a row of the store into the press file, or its eight parts of 16 bytes into eight side entries
(R107); OUTLIER_GATHER lets the token's dynamic outliers of a site meet the fed row's elements in the outlier lane
(R55, R57, R86). -/
def Obligations.PressFeeds : Prop :=
  (∀ (o : FeedOp) (s s1 : State), runs s o.core (opCode 1 1) = true → pairAccepted o.held o.fed = true →
    let p := { o with sparse := o.sparse && !privateTile s o.core (rowAt o.tile) }
    (coldWaits s o.core (rowAt o.tile) o.stamp = true → exec (.feed o) s = .next s) ∧
    (coldWaits s o.core (rowAt o.tile) o.stamp = false → feedRow (passOp s o.core) p = (s1, none) →
      exec (.feed o) s = .next s1) ∧
    (∀ l : Latch, coldWaits s o.core (rowAt o.tile) o.stamp = false → feedRow (passOp s o.core) p = (s1, some l) →
      let xs := fedElems o.fed p.sparse l.row.bytes l.meta_
      let n := (xs.length + heldPerRow o.held - 1) / heldPerRow o.held
      let s2 := meetFile s1 o.core 1 ((List.range n).flatMap (fun j => [(o.file + j) % 32, 32 + (o.file + j) % 32]))
      let ys := heldElems (getCore s2 o.core) o.held o.file n
      let hs := if meetsTile s2 o.core (rowAt o.tile) o.expert o.stamp then ys.1.take xs.length
        else List.replicate xs.length .skip
      let t := meetTerms o.fed o.held xs hs
      let a := ((getAcc s2 o.core o.acc.val).begin_ (feedA0 s2 p) o.element).addTerms t
      exec (.feed o) s = .next (modCore s2 o.core (fun k => { k with
        accs := kset k.accs o.acc.val { a with poison := a.poison || l.row.poison || ys.2 }
        cntPress := bump k.cntPress (pressCycles o.held o.fed xs hs)
        cntZeroSkip := bump k.cntZeroSkip t.skips })))) ∧
  (∀ (o : FeedOp) (s : State),
    let a := tileRow o.fed o.sparse o.tile o.dataRow
    let b := tileMeta o.fed o.sparse o.tile o.dataRow
    let n := metaBytes o.fed o.sparse
    (o.latched = false → CanAccess s o.core a 128 → CanAccess s o.core b n →
      let u := meetWide (meetRow s o.core a (some (o.stamp, o.instr))) o.core b n (some (o.stamp, o.instr))
      let l : Latch := ⟨⟨storeRead u o.core a 128, storePoisoned u o.core a 128 || storePoisoned u o.core b n⟩,
        storeRead u o.core b n, 0, false⟩
      feedRow s o = (modCore u o.core (fun k => { k with latch := some l }), some l)) ∧
    (∀ l : Latch, o.latched = true → (getCore s o.core).latch = some l →
      feedRow s o = if 0 < l.left then (modCore s o.core (fun k => { k with latch := some { l with left := l.left - 1 } }), some l)
        else (s, none)) ∧
    (∀ code, o.latched = false → accessFault s o.core a 128 = some code →
      feedRow s o = (raise s ((accessItem s o.core code a).at_ o.stamp o.instr), none)) ∧
    (∀ code, o.latched = false → CanAccess s o.core a 128 → accessFault s o.core b n = some code →
      feedRow s o = (raise s ((accessItem s o.core code b).at_ o.stamp o.instr), none))) ∧
  (∀ (c : CoreRef) (n : Nat) (s : State), runs s c (opCode 1 2) = true →
    exec (.latch c n) s = .next (modCore (passOp s c) c (fun k => { k with
      latch := k.latch.map (fun l => if l.kept then l else { l with left := min n 16 - 1, kept := true }) }))) ∧
  (∀ (o : OpAt) (a : Nat) (row : Fin 32) (s : State), runs s o.core (opCode 1 3) = true → CanAccess s o.core (rowAt a) 128 →
    let c := o.core
    let u := meetRow (passOp s c) c (rowAt a) (some (o.stamp, o.instr))
    exec (.fileLoad o a false row) s = .next (modCore u c (fun k =>
      { k with file := kset k.file row.val (readRow u c (rowAt a)) }.fresh 1 [row.val])) ∧
    Gives (.fileLoad o a true row) s fun t =>
      (∀ i < 8, kget? (getCore t c).side ((row.val + i) % 32) =
        some ⟨slice (storeRead u c (rowAt a) 128) (16 * i) 16, storePoisoned u c (rowAt a) 128⟩) ∧
      AgreeBut (getCore u c).side (getCore t c).side ((List.range 8).map (fun i => (row.val + i) % 32)) ∧
      t = setCore u c ({ getCore u c with side := (getCore t c).side }.fresh 1
        ((List.range 8).map (fun i => 32 + (row.val + i) % 32)))) ∧
  (∀ (o : GatherOp) (s u : State) (row : Row) (meta_ : List Byte),
    (if o.pass = 0 then runs s o.core (opCode 1 7) else deferring s o.core) = true → gatherable o.fed = true →
    tileRead (if o.pass = 0 then passOp s o.core else s) o.core o.fed o.sparse o.tile o.dataRow o.stamp o.instr = (u, some (row, meta_)) →
    let xs := fedElems o.fed o.sparse row.bytes meta_
    let hit := hitsOf u o xs.length
    let pairs := hit.map (fun x => (elemOf (b16 x.val), xs.getD (x.elem - o.first) .skip))
    let t := (pairs.map (fun p => productTerm p.1 p.2)).foldl Terms.append ⟨[], false, 0, 0⟩
    let a := ((getAcc u o.core o.acc.val).begin_ (startA0 u o.core o.tensor o.element o.anchor) o.element).addTerms
      { t with positions := 0 }
    (hit = [] → exec (.outlierGather o) s = .next u) ∧
    (hit ≠ [] → exec (.outlierGather o) s = .next (modCore u o.core (fun k => { k with
      accs := kset k.accs o.acc.val { a with poison := a.poison || row.poison || hit.any Outlier.poison }
      gather := pairs.filterMap (fun p => match p.2 with | .val q => some q | _ => none)
      cntPress := bump k.cntPress ((hit.length + 31) / 32) })))) ∧
  (∀ (o : GatherOp) (x : OutlierSet) (n : Nat) (s : State),
    outliersAt s (stampReq o.stamp) (stampPos o.stamp) (stampLayer o.stamp) = some x →
    (∀ y, y ∈ hitsOf s o n ↔ y ∈ (x.items.drop (64 * o.pass)).take 64 ∧ y.site = o.site ∧ o.first ≤ y.elem ∧ y.elem < o.first + n))

/-- CLOSE of an exact sum (R64 to R77), with the figures of the element's reduction record where one names it (R190).
A contributor of a split element sends its partial to the owner, keeps its operands until RETAIN_UNTIL and clears its
accumulator (R68, R71); an owner that still waits for partials does nothing (R69); a total of terms that differs is
NUM_PARTIAL_MISMATCH (R69); one that overflows with recomputes left is formed again at an anchor higher by 32, with a
slip until the new partials come (R70); else the accumulators are settled, rounded and written. An unsplit element
that settles without exhausting its recomputes leaves its rounded value at its place, with the slips of its recomputes
and the layer's counts (R65 to R67, R74 to R76, R88). The core goes on to its program's next operation, but for an
owner that waits, whose CLOSE stays the next one (R69, R70, R141). A format without a rounding leaves the core as it
was (log entry 91). -/
def Obligations.CloseReduction : Prop :=
  ∀ (o : CloseOp) (s : State), runs s o.core (opCode 1 4) = true → o.role = .sum →
    let b := boundClose s o
    let p := passOp s o.core
    let a := getAcc s b.core b.acc.val
    let one := b.out ≠ .n4 ∧ b.out ≠ .i4
    (recordOf s o.core o.tensor (getAcc s o.core o.acc.val).element = none → b = o) ∧
    (∀ f d r, recordOf s o.core o.tensor (getAcc s o.core o.acc.val).element = some (f, d, r) →
      b.terms = r.terms ∧ b.layer = d.layer ∧ b.recomputeLen = r.recomputeLen ∧ (b.split = true ↔ r.flags % 2 = 1) ∧
      b.owner = ownerOf (f, d, r) o.core ∧ b.acc = o.acc ∧ b.out = o.out ∧ b.dst = o.dst ∧ b.core = o.core) ∧
    (closable b.out = false → exec (.close o) s = .next p) ∧
    (closable b.out = true →
      (one → b.split = true → b.owner ≠ b.core →
        exec (.close o) s = .next (clearAcc (retain (sendPartial p b.core b.owner a b.stamp) b.core b.stamp b.tensor a) b.core b.acc.val)) ∧
      (b.split = true → b.owner = b.core →
        (∃ i ∈ closeAccs b, (getAcc s b.core i).partials < expected s b.core b.tensor (getAcc s b.core i).element b.contributors) →
        exec (.close o) s = .next s) ∧
      (one → b.split = true → b.owner = b.core → expected s b.core b.tensor a.element b.contributors ≤ a.partials →
        (a.terms ≠ b.terms → exec (.close o) s = .next (mismatch p b.core b.stamp a.element b.terms a.terms)) ∧
        (a.terms = b.terms → a.overflows = true → a.recomputes < 3 →
          exec (.close o) s = .next (ownerReAnchor s b.core b.contributors b.stamp b.layer b.recomputeLen b.acc.val a)) ∧
        (a.terms = b.terms → a.overflows = false ∨ 3 ≤ a.recomputes →
          exec (.close o) s = .next (writeClosed (settleAccs p b [b.acc.val]).1 b (settleAccs p b [b.acc.val]).2))) ∧
      (b.split = false → exec (.close o) s = .next (writeClosed (settleAccs p b (closeAccs b)).1 b (settleAccs p b (closeAccs b)).2)) ∧
      (one → b.split = false → a.closed.2 = false →
        let d := b.dst / fmtBytes b.out * fmtBytes b.out
        let r := a.closed.1
        let n := r.recomputes - a.recomputes
        let u := clearAcc (countNum (recomputeSlips p b.core b.recomputeLen n) (chaseOf b.core) b.layer (fun x => { x with
            recomputes := bump x.recomputes n
            exhausted := bump x.exhausted 0
            nans := bump x.nans (if r.nan then 1 else 0) })) b.core b.acc.val
        CanAccess u b.core d (fmtBytes b.out) →
        exec (.close o) s = .next (storeWrite u b.core d (leBytes (fmtBytes b.out) (roundOut b.out (r.scaled b.scales[0]?))) r.poison)))

/-- SAVE writes four accumulators into one row and RESTORE reads them back (R108): restoring a row just saved gives
every one of the four unpoisoned accumulators its whole value again, operands kept for a recompute among it (R71), and
no other accumulator changes. Each takes its core to its program's next operation (R141). -/
def Obligations.SaveThenRestore : Prop :=
  ∀ (o o' : OpAt) (acc acc' : Fin 64) (d : Nat) (s : State), runs s o.core (opCode 1 5) = true → CanAccess s o.core d 128 →
    d % 128 = 0 → (∀ i < 4, (getAcc s o.core ((acc.val + i) % 64)).poison = false) → o'.core = o.core →
    ∃ t, exec (.save o acc d) s = .next t ∧
      StoreOnly { s with cores := t.cores } t o.core d 128 ∧
      storeRead t o.core d 128 = (List.range 4).flatMap (fun i => (getAcc s o.core ((acc.val + i) % 64)).record) ∧
      (getCore t o.core).accs = (getCore s o.core).accs ∧ AgreeBut s.cores t.cores [coreKey o.core] ∧
      (runs t o.core (opCode 1 6) = true → ∃ u, exec (.restore o' acc' d) t = .next u ∧
        (∀ i < 4, getAcc u o.core ((acc'.val + i) % 64) = getAcc s o.core ((acc.val + i) % 64)) ∧
        AgreeBut (getCore s o.core).accs (getCore u o.core).accs ((List.range 4).map (fun i => (acc'.val + i) % 64)) ∧
        u.mem = t.mem ∧ AgreeBut s.cores u.cores [coreKey o.core])

/-- A LONG_PARTIAL flit with one record of the owner's anchor leaves the packets that wait before the core, adds ACC
in 176 bits, ORs the flags and sums TERMS (R59, R69) while more partials are due; the last one ends the owner's wait,
and one whose total overflows re-anchors the element, where the totals of terms agree (R64, R69, R70); a record of
another anchor is NUM_PARTIAL_MISMATCH and changes nothing else. RE_ANCHOR lets a contributor form its partial again
at the new anchor from the operands it kept, with a slip, and send it (R70, R72). -/
def Obligations.LongPartials : Prop :=
  (∀ (o : PartialOp) (i : Fin 64) (s : State), leAt o.flit.payload 64 1 = 1 → o.accs = [i] →
    let u := takeIn s o.core (· == o.flit)
    let r := Acc.ofRecord (slice o.flit.payload 0 32) []
    let p := boundPartial u o r.element
    let a := (getAcc u p.core i.val).begin_ p.anchor r.element
    let b : Acc := { a with
      acc := wrap176 (a.acc + r.acc), termOvf := a.termOvf || r.termOvf, trunc := a.trunc || r.trunc, nan := a.nan || r.nan
      poison := a.poison || p.flit.poison, terms := a.terms + r.terms, partials := a.partials + 1
      partTerms := a.partTerms + r.terms }
    let v := setAcc u p.core i.val b
    let w := meetCore v p.core Src.gateWait (· == ownerWait i.val)
    let due := expected u p.core p.tensor b.element p.contributors
    (r.anchor ≠ a.anchor → exec (.longPartial o) s = .next (mismatch u p.core p.flit.stamp r.element p.terms r.terms)) ∧
    (r.anchor = a.anchor → b.partials < due → exec (.longPartial o) s = .next v) ∧
    (r.anchor = a.anchor → due ≤ b.partials →
      (b.terms < p.terms → exec (.longPartial o) s = .next w) ∧
      (p.terms < b.terms → exec (.longPartial o) s = .next (mismatch w p.core p.flit.stamp b.element p.terms b.terms)) ∧
      (b.terms = p.terms → b.overflows = false ∨ 3 ≤ b.recomputes → exec (.longPartial o) s = .next w) ∧
      (b.terms = p.terms → b.overflows = true → b.recomputes < 3 → exec (.longPartial o) s =
        .next (ownerReAnchor w p.core p.contributors p.flit.stamp p.layer p.recomputeLen i.val b)))) ∧
  (∀ (o : ReAnchorOp) (s : State),
    let p := boundReAnchor s o
    let u := takeIn s p.core (fun f => flitKind f == Kind.reAnchor && f.stamp == p.stamp)
    (retainedAt u p.core p.stamp p.tensor p.element = none → exec (.reAnchor o) s = .next u) ∧
    (∀ x, retainedAt u p.core p.stamp p.tensor p.element = some x →
      let b : Acc := { x.acc.reform p.anchor with recomputes := x.acc.recomputes + 1 }
      exec (.reAnchor o) s = .next (sendPartial (reqSlip (modCore u p.core (fun k => { k with
        retained := k.retained.map (fun y => if y = x then { y with acc := b } else y) })) p.core Src.windowRecompute
          (p.recomputeLen + 8)) p.core p.owner b p.stamp)))

/-- LENS_ROTATE (R79 to R82) at a site of the core's layer: the destination holds the group's values, rotated with the
forme's signs and rounded to F32, the site's static outlier channels taken as zero; each such channel of the group
leaves its F8 value at its place (log entry 77); only these bytes change. POSITION_ROTATE (R120 to R122): every pair
of the head is rotated by the phase of the stamp's position with the part's offset; a position outside 0 to 2^24 − 1
is CORE_POS_RANGE and nothing else. A group stands at a multiple of its size and a head begins with a row (R94); the
operands stand as their reads leave them, and the core goes on to its next operation. -/
def Obligations.Rotations : Prop :=
  (∀ (o : LensOp) (fi layer : Nat) (f : Forme) (part : Placed) (site : Site) (s : State), runs s o.core (opCode 3 1) = true → o.fmt ≠ .int32 →
    partOfCore s o.core = some (fi, f, part) → siteOf s o.core o.site = some (layer, site) →
    let g := 2 ^ site.log2g
    let n := g * laneBytes o.fmt
    let src := o.src / n * n
    let dst := o.dst / (4 * g) * (4 * g)
    CanAccess s o.core src n → CanAccess s o.core dst (4 * g) → CanAccess s o.core o.outlierDst site.channels.length →
    let u := meetWide (passOp s o.core) o.core src n (some (o.stamp, o.instr))
    let bs := storeRead u o.core src n
    Gives (.lensRotate o) s fun t =>
      storeRead t o.core dst (4 * g) = (lensGroup site.log2g ((List.range g).map (fun i =>
          lensSign (imgLensSeed f.image) (o.first + i) layer o.site))
        ((List.range g).map (fun i => if site.channels.any (fun ch => ch.1 == o.first + i) then FVal.fin false 0
          else toF32 (lensIn o.fmt bs i)))).flatMap (fun x => leBytes 4 (FloatShape.f32.encode x)) ∧
      (∀ (j : Nat) (ch : Nat × Nat), site.channels[j]? = some ch → o.first ≤ ch.1 → ch.1 < o.first + g →
        o.outlierDst + j < dst ∨ dst + 4 * g ≤ o.outlierDst + j →
        storeRead t o.core (o.outlierDst + j) 1 = leBytes 1 (staticF8 (lensIn o.fmt bs (ch.1 - o.first)) ch.2)) ∧
      t = { u with mem := { u.mem with store := t.mem.store, errs := t.mem.errs, storePoison := t.mem.storePoison } } ∧
      (∀ x, x < storeAddr o.core dst ∨ storeAddr o.core dst + 4 * g ≤ x →
        x < storeAddr o.core o.outlierDst ∨ storeAddr o.core o.outlierDst + site.channels.length ≤ x →
        memRead t.mem.store x = memRead u.mem.store x)) ∧
  (∀ (o : RotateOp) (fi : Nat) (f : Forme) (part : Placed) (s : State), runs s o.core (opCode 4 1) = true →
    partOfCore s o.core = some (fi, f, part) →
    let p : Int := (stampPos o.stamp : Int) + part.posOffset
    let v := if o.bf16 then VFmt.b16 else VFmt.f32
    let n := o.width * laneBytes v
    (p < 0 ∨ 2 ^ 24 ≤ p → exec (.positionRotate o) s =
      .next (raise (passOp s o.core) ((coreItem s Err.CORE_POS_RANGE o.core [o.src]).at_ o.stamp o.instr))) ∧
    (0 ≤ p → p < 2 ^ 24 → CanAccess s o.core (rowAt o.src) n → CanAccess s o.core (rowAt o.dst) n →
      let u := meetWide (passOp s o.core) o.core (rowAt o.src) n (some (o.stamp, o.instr))
      exec (.positionRotate o) s = .next (storeWrite u o.core (rowAt o.dst)
        (laneRow v (rotateHead (vshape v).encode o.halves p.toNat ((List.range (o.width / 2)).map (freqAt f.image o.table))
          ((List.range o.width).map (lensIn v (storeRead u o.core (rowAt o.src) n))))) (storePoisoned u o.core (rowAt o.src) n))))

/-- The scalar sequencer (R141, R192 to R195, R176, R177): END ends the pass, and in a slot part the experts'
protection with it (R262), and the next pass begins at the first word; LOOP enters a body at most four deep, and one
of count 0 is passed by; the last word of a body leads to its next iteration, which begins the body's length later;
WAIT_EVENT waits unless the flag is set; a fence that holds only takes the core on, else it opens a slip whose
condition is the fence's, and the core stands at the use cycle 32 on until it holds. A core executes an operation only
as the next one of its program, in its cycle; one that stands, or is in a frozen chase without a lag to run out, does
none (R100, R164, R170). -/
def Obligations.SequencerOperations : Prop :=
  (∀ (c : CoreRef) (s : State),
    (runs s c (opCode 0 1) = true →
      let u := modCore s c (fun k => { k with pass := k.pass + 1, op := 0, loops := [] })
      exec (.endOp c) s = .next (endSlots u c) ∧
        ((∀ x, partOfCore s c = some x → x.2.2.flags / 4 % 2 ≠ 1) → exec (.endOp c) s = .next u)) ∧
    (runs s c (opCode 0 2) = true → ∀ n cyc w,
      let k := getCore s c
      let g := match nextOp s c with
        | some x => (x.word.cycle, loopCount x.word, loopCycles x.word, loopWords x.word)
        | none => (0, n, cyc, w)
      exec (.loop c n cyc w) s = .next (if 4 ≤ k.loops.length then s
        else if g.2.1 = 0 ∨ g.2.2.2 = 0 then setCore s c (k.goto (k.op + 1 + g.2.2.2))
        else setCore s c { k with
          op := k.op + 1, loops := ⟨k.op + 1, k.loopBase + g.1, g.2.2.2, g.2.2.1, g.2.1⟩ :: k.loops })) ∧
    (runs s c (opCode 0 9) = true → ∀ f : Fin 64, exec (.waitEvent c f) s = .next (if f.val ∈ (getCore s c).flags then passOp s c
      else modCore (passOp s c) c (fun k => { k with waiting := some f.val }))) ∧
    (∀ p ∈ [(Instr.fenceD c, 0), (.fenceS c, 1), (.fenceA c, 2)], runs s c (opCode 0 (5 + p.2)) = true →
      let f := (p.2, (getCore s c).issued, useCycle s c)
      let u := passOp s c
      exec p.1 s = .next (if fenceMet (getCore s c) f then u
        else openSlip (setCore u c { getCore u c with fences := (getCore s c).fences ++ [f] }) (chaseOf c) Src.fenceWait
          (some c) (fenceNo f))) ∧
    (∀ f : Nat × Nat × Nat, fenceMet (getCore s c) f = true ↔ ∀ x ∈ (getCore s c).descs, x.2.seq < f.2.1 →
      (f.1 = 0 ∧ (x.2.kind = 3 → x.2.settled = true)) ∨ (f.1 = 1 ∧ (x.2.kind = 5 → x.2.settled = true)))) ∧
  (∀ (k : Core) (l : LoopAt) (r : List LoopAt), k.loops = l :: r → k.op + 1 = l.word + l.words →
    (1 < l.left → k.goto (k.op + 1) = { k with
      op := l.word, loops := { l with base := l.base + l.cycles, left := l.left - 1 } :: r }) ∧
    (l.left ≤ 1 → r = [] → k.goto (k.op + 1) = { k with op := k.op + 1, loops := [] })) ∧
  (∀ (c : CoreRef) (s : State),
    (∀ i ∈ [(Instr.endOp c, opCode 0 1), (.fenceD c, opCode 0 5), (.fenceS c, opCode 0 6), (.fenceA c, opCode 0 7),
      (.latch c 16, opCode 1 2)], runs s c i.2 = false → exec i.1 s = .next s) ∧
    (∀ op x, nextOp s c = some x →
      opCode x.word.unit x.word.fn ≠ op ∨ reached (getChase s (chaseOf c)).time (getCore s c).lag x.due = false →
      runs s c op = false) ∧
    (∀ op, (getChase s (chaseOf c)).frozen = true → (getCore s c).lag = 0 → runs s c op = false) ∧
    (∀ op, ∀ f ∈ (getCore s c).fences, reached (getChase s (chaseOf c)).time (getCore s c).lag f.2.2 = true →
      runs s c op = false) ∧
    (∀ op, ∀ u ∈ (getCore s c).uses, reached (getChase s (chaseOf c)).time (getCore s c).lag u.2 = true →
      (getGate s c u.1).st ≠ .complete → runs s c op = false))

/-- ISSUE (R123 to R128, R261): a descriptor that is read, finds one of 16 places and is valid and not empty enters
the queue under the lowest free place with the next number, bound to the cold slot that its program bound, and sends
as many flits as its window allows; an empty one completes at once with ZERO_LENGTH (R124); an invalid one with
BAD_DESCRIPTOR and a record (R126); a poisoned one with POISON (log entry 80); a seventeenth is CORE_DESC_OVERFLOW
(R123); a bank conflict is CORE_BANK_CONFLICT (R96). In a program its address is the word's (R193), and the core goes
on to its next operation (R141). A descriptor never has more flits outstanding than its window (R128): sending keeps
the bound, sends the flits in rising order behind those outstanding, and leaves the descriptor otherwise as it was. A
descriptor is valid exactly when its kind is 1 to 7, both spaces are 0 to 3, and its class is 0, or 7 with kind 4 or
more (R126, R151). -/
def Obligations.IssueDescriptor : Prop :=
  (∀ (o : IssueOp) (addr instr : Nat) (w : IssueUse) (s : State), runs s o.core (opCode 0 8) = true →
    let c := o.core
    let a := (nextOp s c).elim addr (fun x => x.word.addrA)
    exec (.issue o addr instr true w) s =
      .next (raise (passOp s c) ((coreItem (passOp s c) Err.CORE_BANK_CONFLICT c [a]).at_ o.stamp instr)) ∧
    (CanAccess s c (a / 64 * 64) 64 →
      let u := countWait (meetNarrow (passOp s c) c (a / 64 * 64) 64) c o.waited
      let k := getCore u c
      let d := descOf (storeRead u c (a / 64 * 64) 64) k.issued k.arrived none
      let it := fun code => (coreItem u code c [a]).at_ (BitVec.ofNat 64 d.stamp) instr
      (kfree k.descs 0 16 = none → exec (.issue o addr instr false w) s = .next (raise u (it Err.CORE_DESC_OVERFLOW))) ∧
      (∀ i, kfree k.descs 0 16 = some i →
        (storePoisoned u c (a / 64 * 64) 64 = true → exec (.issue o addr instr false w) s = .next (complDesc u c d .poison)) ∧
        (storePoisoned u c (a / 64 * 64) 64 = false →
          (d.valid = false →
            exec (.issue o addr instr false w) s = .next (complDesc (raise u (it Err.CORE_BAD_DESCRIPTOR)) c d .badDescriptor)) ∧
          (d.valid = true → d.length = 0 ∨ d.rows = 0 →
            exec (.issue o addr instr false w) s = .next (complDesc u c d .zeroLength)) ∧
          (d.valid = true → d.length ≠ 0 → d.rows ≠ 0 →
            let e := { d with bind := issueBind u c d w, sums := issueSums d w }
            exec (.issue o addr instr false w) s = .next (pump 64 (issueFetch (setCore u c
              { k with issued := k.issued + 1, arrived := k.arrived + 1, descs := kset k.descs i e }) e w) c i)))))) ∧
  (∀ (n : Nat) (c : CoreRef) (i : Nat) (d : Desc) (s : State), kget? (getCore s c).descs i = some d →
    d.outstanding.length ≤ d.window →
    ∃ e, kget? (getCore (pump n s c i) c).descs i = some e ∧ e.outstanding.length ≤ e.window ∧ d.next ≤ e.next ∧
      e.seq = d.seq ∧ e.kind = d.kind ∧ e.window = d.window ∧ (∃ l, e.outstanding = d.outstanding ++ l)) ∧
  (∀ d : Desc, d.valid = true ↔ 1 ≤ d.kind ∧ d.kind ≤ 7 ∧ spaceOf d.src ≤ 3 ∧ spaceOf d.dst ≤ 3 ∧
    (d.tclass = 0 ∨ (d.tclass = 7 ∧ 4 ≤ d.kind)))

/-- Completion and due times (R124, R128 to R130, R138, R176). A settled descriptor with no earlier incomplete one of
its prefetcher leaves the queue and completes, a local copy having moved its rows through port D, in its turn and with
its wait counted, and taken its status; the descriptors that waited for its prefetcher go on. An unsettled one, and
one behind another of its prefetcher, stays. Completing puts the status behind those of the completed ones with its
TAG, sets its event flag and lets a core that waits on it go on. STREAM_DUE opens a slip, once, for a descriptor that
is incomplete when the schedule counter has reached its DUE, and not before. -/
def Obligations.DescriptorCompletion : Prop :=
  ∀ (c : CoreRef) (i : Nat) (d : Desc) (s : State), kget? (getCore s c).descs i = some d →
    (∀ waited, d.settled = true → firstOf (getCore s c) d = true →
      let r := if d.kind = 1 then copyRows (portD 17 (countWait s c waited) c d.at_) c d d.rows else (s, d.status)
      exec (.descriptorComplete ⟨c, waited⟩ i) s = .next (pumpAll (complDesc (endSums (endBind (modCore r.1 c (fun k =>
        { k with descs := kdel k.descs i })) d) d) c d r.2) c)) ∧
    (∀ waited, d.settled = false ∨ firstOf (getCore s c) d = false →
      exec (.descriptorComplete ⟨c, waited⟩ i) s = .next s) ∧
    (firstOf (getCore s c) d = true ↔ d.stream = false ∨ ∀ x ∈ (getCore s c).descs, x.2.stream = true →
      x.2.prefetcher = d.prefetcher → d.seq ≤ x.2.seq) ∧
    (d.due ≠ 0 → reached (getChase s (chaseOf c)).time 0 d.due = true →
      (∀ x ∈ (getChase s (chaseOf c)).slips, ¬ (x.source = Src.streamDue ∧ x.core = some c ∧ x.what = d.seq)) →
      exec (.streamDue c i) s = .next (openSlip s (chaseOf c) Src.streamDue (some c) d.seq)) ∧
    (d.due = 0 ∨ reached (getChase s (chaseOf c)).time 0 d.due = false → exec (.streamDue c i) s = .next s) ∧
    (∀ st, let t := complDesc s c d st
      (getCore t c).finished = (getCore s c).finished ++ [(d.tag, st)] ∧
      (d.event = true → d.eventId % 64 ∈ (getCore t c).flags ∧ (getCore t c).waiting ≠ some (d.eventId % 64)) ∧
      t.mem = s.mem)

/-- Answers to a core's flits, each through port D in its turn with its wait counted. READ_DATA of an outstanding flit
lands the bytes that answer it (R127, R131): a core's from the response, the stack tier's (R511) and the host's,
within the forme window (R125, R496), as those memories hold them; a poisoned answer gives the descriptor status
POISON, one that names a refusal or an address beyond the tier or the window its status. What lands stands at the
descriptor's place in the store; of a slug, the 64 code bytes stand in DST and the four scales in DST_SCALE (R127).
WRITE_ACK of a remote write or a host write answers it, a host write standing in host memory within the forme window
(R134, R496); NACK gives the descriptor the refusal's status and goes on with the next row (R135). STACK_WRITE_ACK
(R178, R513, R514): any outstanding flit of any stack write of the core stands in the stack tier, with its poison, or
is refused beyond the tier. -/
def Obligations.FlitAnswers : Prop :=
  (∀ (c : CoreRef) (i k waited : Nat) (d : Desc) (s : State), kget? (getCore s c).descs i = some d → k ∈ d.outstanding →
    (∀ f : Flit, d.kind = 2 ∨ d.kind = 4 ∨ d.kind = 6 →
      let s1 := countWait (portD 17 (takeIn s c (· == f)) c (arrivalOf s c (· == f))) c waited
      let st := if d.slugFlits then 0 else leAt f.payload 64 1
      (st ≠ 2 → st ≠ 3 → answerable s1 d k = true →
        let n := d.lenOf k
        let u := if d.kind = 4 then meetStack s1 (d.srcOf k) n else s1
        let p := f.poison || st == 1 || (d.kind == 4 && stackPoisoned u (d.srcOf k) n)
        let v := landBytes u c d (d.rowOf k) (d.offOf k) (answerBytes u d k f) p
        exec (.readData ⟨c, waited⟩ i k f) s = .next (answered (if d.kind = 6 then addF v Reg.HST_RD_BYTES n 0 else v) c i k
          (if p then { d with status := d.status.worse .poison } else d))) ∧
      (st = 2 → exec (.readData ⟨c, waited⟩ i k f) s = .next (refuseFlit s1 c i k d .targetOff)) ∧
      (st = 3 ∨ (st ≠ 2 ∧ answerable s1 d k = false) →
        exec (.readData ⟨c, waited⟩ i k f) s = .next (refuseFlit s1 c i k d .badAddress))) ∧
    (d.kind = 3 → exec (.writeAck ⟨c, waited⟩ i k) s =
      .next (answered (countWait (takeAnswer s c i Kind.writeAck) c waited) c i k d)) ∧
    (d.kind = 7 → let u := countWait (takeAnswer s c i Kind.writeAck) c waited
      (∀ a, formeHost s (d.dstOf k) (d.lenOf k) true = some a → exec (.writeAck ⟨c, waited⟩ i k) s =
        .next (answered (hostWrite u a (storeRead s c (beatAt (d.srcOf k)) (d.lenOf k))) c i k d)) ∧
      (formeHost s (d.dstOf k) (d.lenOf k) true = none →
        exec (.writeAck ⟨c, waited⟩ i k) s = .next (refuseFlit u c i k d .badAddress))) ∧
    (∀ bad, exec (.nack ⟨c, waited⟩ i k bad) s =
      .next (refuseFlit (countWait (takeAnswer s c i Kind.nack) c waited) c i k d (if bad then .badAddress else .targetOff)))) ∧
  (∀ (c : CoreRef) (d : Desc) (r o : Nat) (bs : List Byte) (p : Bool) (s : State),
    (d.slug = false → CanAccess s c (beatAt (d.dstRow r + o)) bs.length → 0 < bs.length →
      let t := landBytes s c d r o bs p
      storeRead t c (beatAt (d.dstRow r + o)) bs.length = bs ∧
        (p = true → storePoisoned t c (beatAt (d.dstRow r + o)) bs.length = true)) ∧
    (∀ j, d.slug = true → o = 68 * j → bs.length = 68 →
      let q := d.dstScale + 4 * (r * (d.rowLen / 68) + j)
      let a := d.dstRow r + 64 * j
      CanAccess s c q 4 → CanAccess s c a 64 → q + 4 ≤ a ∨ a + 64 ≤ q →
      let t := landBytes s c d r o bs p
      storeRead t c q 4 = bs.take 4 ∧ storeRead t c a 64 = bs.drop 4)) ∧
  (∀ (c : CoreRef) (i k waited : Nat) (d : Desc) (s : State), kget? (getCore s c).descs i = some d → d.kind = 5 →
    k ∈ d.outstanding →
    let u := countWait (takeAnswer s c i Kind.writeAck) c waited
    let data := storeRead s c (beatAt (d.srcOf k)) (d.lenOf k)
    (d.dstOf k + d.lenOf k ≤ stackBytes → exec (.stackWriteAck ⟨c, i, k, waited⟩) s = .next (answered (stackWrite u
      (d.dstOf k) data (storePoisoned s c (beatAt (d.srcOf k)) (d.lenOf k))) c i k d)) ∧
    (stackBytes < d.dstOf k + d.lenOf k →
      exec (.stackWriteAck ⟨c, i, k, waited⟩) s = .next (refuseFlit u c i k d .badAddress)))

/-- Remote reads and writes at their target (R93, R97, R98, R131 to R136, R425, R432): a read is answered with
READ_DATA from the store, as port D's earlier requests leave it, its words' errors met and its wait counted; a write
enters the write buffer of 16 entries, or stands before the core until there is room; with the rail off, a bad address
or a gated bank the access is refused with a NACK. A write of no beats is acknowledged at once. Port D stores the
entry that goes first and acknowledges it, unless a request that came before it still waits while fewer than 12
entries stand. A write that arrives at an empty write buffer and is then stored leaves its bytes at its address,
leaves every byte outside the words that it touches as it was, and leaves the buffer empty again (R132 to R134). -/
def Obligations.RemoteAccesses : Prop :=
  (∀ (c src : CoreRef) (s : State), coreExists s c = true →
    (∀ addr len st waited, let mine := fun (f : Flit) => flitKind f == Kind.readReq && f.stamp == st
      let s1 := takeIn s c mine
      let a := beatAt addr
      let n := (len + 15) / 16 * 16
      (railOn s (chaseOf c) = true → badBeats a (n / 16) = false → bankShut s c a = false →
        let t := meetNarrow (countWait (portD 17 s1 c (arrivalOf s c mine)) c waited) c a n
        exec (.readReq c addr len src st waited) s = .next (sendTo t c src Kind.readData 4 st.toNat
          (slice (storeRead t c a n) 0 64 ++ [if storePoisoned t c a n then 1 else 0]) (storePoisoned t c a n))) ∧
      (railOn s (chaseOf c) = false ∨ (badBeats a (n / 16) = false ∧ bankShut s c a = true) →
        exec (.readReq c addr len src st waited) s = .next (refuseRemote s1 c src st addr false)) ∧
      (railOn s (chaseOf c) = true → badBeats a (n / 16) = true →
        exec (.readReq c addr len src st waited) s = .next (refuseRemote s1 c src st addr true))) ∧
    (∀ (f : Flit) (d : Nat), let s1 := takeIn s c (· == f)
      let w := leAt f.payload 0 4
      let a := beatAt (w % 2 ^ 19)
      let beats := w / 2 ^ 19 % 8
      (railOn s (chaseOf c) = true → badBeats a beats = false → bankShut s c a = false → beats ≠ 0 →
        ((getCore s c).wbuf.length < 16 → exec (.write c f src d) s = .next (modCore s1 c (fun k => { k with
          wbuf := k.wbuf ++ [⟨a, slice f.payload 4 (16 * beats), countedWrite s1 src d f.stamp, f.poison, src,
            f.stamp.toNat, k.arrived⟩]
          arrived := k.arrived + 1 }))) ∧
        (16 ≤ (getCore s c).wbuf.length → exec (.write c f src d) s = .next (holdIn s1 c f))) ∧
      (railOn s (chaseOf c) = true → badBeats a 0 = false → bankShut s c a = false → beats = 0 → exec (.write c f src d) s =
        .next (sendTo s1 c src Kind.writeAck 4 f.stamp.toNat (freeBytes 0x107 [] 68) false)) ∧
      (railOn s (chaseOf c) = true → badBeats a beats = true →
        exec (.write c f src d) s = .next (refuseRemote s1 c src f.stamp a true)) ∧
      (railOn s (chaseOf c) = false ∨ (badBeats a beats = false ∧ bankShut s c a = true) →
        exec (.write c f src d) s = .next (refuseRemote s1 c src f.stamp a false))) ∧
    (∀ w waited, nextWrite s c = some w →
      let v := modCore (countWait s c waited) c (fun k => { k with wbuf := k.wbuf.erase w })
      ((getCore s c).wbuf.length < 12 → olderWaits s c w.at_ = true → exec (.remoteWriteStored ⟨c, waited⟩) s = .next s) ∧
      (12 ≤ (getCore s c).wbuf.length ∨ olderWaits s c w.at_ = false → exec (.remoteWriteStored ⟨c, waited⟩) s =
        .next (sendTo (narrowWrite v c w.addr w.data w.poison) c w.src Kind.writeAck 4 w.stamp (freeBytes 0x107 [] 68) false)))) ∧
  (∀ (c src : CoreRef) (f : Flit) (d waited : Nat) (s : State), coreExists s c = true → railOn s (chaseOf c) = true →
    (getCore s c).wbuf = [] → olderWaits s c (getCore s c).arrived = false →
    let a := beatAt (leAt f.payload 0 4 % 2 ^ 19)
    let n := 16 * (leAt f.payload 0 4 / 2 ^ 19 % 8)
    badBeats a (n / 16) = false → bankShut s c a = false → n ≠ 0 →
    ∃ t u, exec (.write c f src d) s = .next t ∧ t.mem = s.mem ∧ exec (.remoteWriteStored ⟨c, waited⟩) t = .next u ∧
      storeRead u c a n = slice f.payload 4 n ∧
      (∀ x, x / 64 ∉ wordsOf (storeAddr c a) n → memRead u.mem.store x = memRead s.mem.store x) ∧
      ((∀ w ∈ wordsAt a n, errsAt s c w = []) → BytesBut s.mem.store u.mem.store (storeAddr c a) n) ∧
      (getCore u c).wbuf = [] ∧ u.mem.stack = s.mem.stack ∧ u.mem.host = s.mem.host)

/-- The send operations (R53, R142, R143, R145, R150, R154, R158, R160). A static send puts its flit into its send
slot, whose parity is good again, and changes nothing else; the slot leaves in a compiled cycle of chase time. A
dynamic send of a one-flit packet enters its core's router by input 6 in the traffic class of its kind, a class that
no other packet of the core holds; a packet's next flit takes the next index; while a packet of a class is open a
one-flit packet of that class waits for its end, and a longer one is not begun. A slug's payload is formed from the
tensor. FAB_DEADLOCK is recorded and counted when the head flit of a class has not moved for `CHS.DEADLOCK_LIMIT`
cycles, else nothing happens; CONTROL takes a keeper's packet out of the fabric at its router and does nothing else
(log entry 26: the model's choice). -/
def Obligations.SendOperations : Prop :=
  (∀ (c : CoreRef) (i : Fin 128) (st : Word64) (bs : List Byte) (poison : Bool) (s : State), runs s c (opCode 5 1) = true →
    Gives (.sendStatic c i st bs poison) s fun t =>
      kget? (getCore t c).sendFile i.val = some ⟨st, 0, bs, 0, poison⟩ ∧ (5, i.val) ∉ (getCore t c).parity ∧
      t = { s with cores := t.cores } ∧ AgreeBut s.cores t.cores [coreKey c] ∧
      AgreeBut (getCore s c).sendFile (getCore t c).sendFile [i.val] ∧
      (getCore t c).recvFile = (getCore s c).recvFile ∧ (getCore t c).accs = (getCore s c).accs ∧
      (getCore t c).file = (getCore s c).file ∧ (getCore t c).gates = (getCore s c).gates ∧
      (getCore t c).descs = (getCore s c).descs) ∧
  (∀ (c : CoreRef) (f : Flit) (p instr : Nat) (s : State), runs s c (opCode 5 2) = true → physCol s c = some p →
    (∀ t ∈ (getCore s c).txOpen, t.cls ≠ sendClass f) →
    let r : RouterRef := ⟨c.row, Fin.ofNat 1056 p⟩
    Gives (.sendDynamic c ⟨f, .flit, instr⟩) s fun t => ∃ x : FlitAt, t.fabric = s.fabric ++ [x] ∧ x.router = r ∧ x.input = 6 ∧
      x.flit.payload = f.payload ∧ x.flit.stamp = f.stamp ∧ x.flit.poison = f.poison ∧ x.flit.index = 0 ∧
      flitKind x.flit = flitKind f ∧ flitClass x.flit = sendClass f ∧ flitDcol x.flit = flitDcol f ∧
      flitDrow x.flit = flitDrow f ∧ flitEop x.flit = flitEop f ∧
      (heldAt s r 6 (sendClass f) false < 4 → heldAt s r 6 (sendClass f) true = 0 → x.queued = false) ∧
      t = { s with fabric := t.fabric, cores := t.cores } ∧
      (flitEop f = true → getCore t c = getCore (passOp s c) c) ∧
      (flitEop f = false → ∃ y ∈ (getCore t c).txOpen, y.cls = sendClass f ∧ y.next = 1)) ∧
  (∀ (c : CoreRef) (f : Flit) (y : TxOpen) (instr : Nat) (s : State), runs s c (opCode 5 2) = true →
    (getCore s c).txOpen.find? (fun t => t.cls == sendClass f) = some y →
    (y.route = headRoute (classRoute f.route.toNat (sendClass f)) → y.stamp = f.stamp.toNat → (physCol s c).isSome = true →
      Gives (.sendDynamic c ⟨f, .flit, instr⟩) s fun t => ∃ x : FlitAt, x ∈ t.fabric ∧ x.flit.index = y.next ∧
        x.flit.payload = f.payload ∧ (flitEop f = false → t.fabric = s.fabric ++ [x])) ∧
    (y.route ≠ headRoute (classRoute f.route.toNat (sendClass f)) ∨ y.stamp ≠ f.stamp.toNat →
      (flitEop f = false → exec (.sendDynamic c ⟨f, .flit, instr⟩) s = .next (passOp s c)) ∧
      (flitEop f = true → Gives (.sendDynamic c ⟨f, .flit, instr⟩) s fun t => ∃ g : Flit, t.fabric = s.fabric ∧
        (getCore t c).txWait = (getCore s c).txWait ++ [g] ∧ g.payload = f.payload ∧ g.stamp = f.stamp ∧ g.index = 0))) ∧
  (∀ (c : CoreRef) (f : Flit) (x : SlugSrc) (instr : Nat) (s : State), runs s c (opCode 5 2) = true → CanAccess s c x.codes 64 →
    CanAccess s c x.scales 4 →
    let u := meetNarrow (meetNarrow (passOp s c) c x.codes 64) c x.scales 4
    exec (.sendDynamic c ⟨f, .slug x, instr⟩) s = .next (sendPacket u c { f with
      payload := slugBytes u c x
      poison := f.poison || storePoisoned u c x.codes 64 || storePoisoned u c x.scales 4 })) ∧
  (∀ (r : RouterRef) (k : Fin 8) (i : Fin 7) (st : Word64) (s : State),
    let n := chaseOfRouter r
    (∀ x, headAt s r i.val k.val = some x → x.flit.stamp = st →
      (x.since + getF s Reg.CHS_DEADLOCK_LIMIT n ≤ (getChase s n).clk →
        exec (.fabDeadlock r k i st) s = .next (raise (addF s Reg.FAB_DEADLOCKS 1 0)
          { routerItem Err.FAB_DEADLOCK r [k.val, i.val] with stamp := some st.toNat })) ∧
      ((getChase s n).clk < x.since + getF s Reg.CHS_DEADLOCK_LIMIT n → exec (.fabDeadlock r k i st) s = .next s)) ∧
    (headAt s r i.val k.val = none → exec (.fabDeadlock r k i st) s = .next s)) ∧
  (∀ (r : RouterRef) (p : List Byte) (s : State),
    Gives (.control r p) s fun t => t = { s with fabric := t.fabric, cores := t.cores } ∧
      (∀ x ∈ s.fabric, x ∈ t.fabric ↔ ¬ (x.router = r ∧ flitKind x.flit = 0xA ∧ x.flit.payload = p)) ∧
      (∀ c, coreAtRouter s r = some c → AgreeBut s.cores t.cores [coreKey c] ∧
        (getCore t c).inbox = (getCore s c).inbox.eraseP (fun x => flitKind x.flit == 0xA && x.flit.payload == p)) ∧
      (coreAtRouter s r = none → t.cores = s.cores))

/-- The reorder gate (R10, R159 to R164): ARM makes the entry ARMED with nothing landed, or COMPLETE where nothing is
expected, while no flit is parked; the forme frees it to DISARMED. A matching flit that the entry still takes lands in
its place and completes the entry once all have landed, whose slip then ends; one beyond the expected is an overfill;
one that matches nothing is parked while there is room, and with a full park buffer stands before the core; a
duplicate is dropped and counted; a parked one that has stood 2^16 cycles is thrown away and counted, and none before.
CHECK notes the entries' use cycle, 32 schedule cycles on, and opens one slip for each entry that is not complete. -/
def Obligations.ReorderGate : Prop :=
  (∀ (a : ArmOp) (s : State), runs s a.core (opCode 0 3) = true →
    (a.free = false → (getCore s a.core).park = [] →
      Gives (.arm a) s fun t =>
        getGate t a.core a.entry.val = ⟨if a.flits = 0 ∨ a.partHi < a.partLo then .complete else .armed, a.req, a.pos,
          a.layer, a.partLo, a.partHi, a.flits, a.base, a.stride, List.replicate (a.partHi + 1 - a.partLo) 0⟩ ∧
        AgreeBut (getCore s a.core).gates (getCore t a.core).gates [a.entry.val] ∧
        t = setCore s a.core { getCore (countWait (passOp s a.core) a.core a.waited) a.core with
          gates := (getCore t a.core).gates }) ∧
    (a.free = true → Gives (.arm a) s fun t => getGate t a.core a.entry.val = Gate.reset ∧
      AgreeBut (getCore s a.core).gates (getCore t a.core).gates [a.entry.val] ∧
      t = setCore s a.core { getCore (passOp s a.core) a.core with gates := (getCore t a.core).gates })) ∧
  (∀ (c : CoreRef) (f : Flit) (waited : Nat) (s : State), gateKind (flitKind f) = true → coreExists s c = true →
    let s1 := countWait (portD 17 (takeIn s c (· == f)) c (arrivalOf s c (· == f))) c waited
    (∀ i g, gateFor (getCore s c) f.stamp = some (i, g) → exec (.gateFlit ⟨c, waited⟩ f) s = .next (landFlit s1 c i g f)) ∧
    (gateFor (getCore s c) f.stamp = none → (getCore s c).park.length < 16 → (getCore s c).wbuf = [] →
      Gives (.gateFlit ⟨c, waited⟩ f) s fun t =>
        (getCore t c).park = (getCore s c).park ++ [⟨f, (getChase s (chaseOf c)).clk⟩] ∧ t.mem = s.mem ∧
        (getCore t c).gates = (getCore s c).gates ∧
        RegsOnly { s with cores := t.cores } t [Reg.CHS_PARK_MAX.key (chaseOf c) 0]) ∧
    (gateFor (getCore s c) f.stamp = none → 16 ≤ (getCore s c).park.length →
      exec (.gateFlit ⟨c, waited⟩ f) s = .next (holdIn s1 c f))) ∧
  (∀ (c : CoreRef) (i : Nat) (g : Gate) (f : Flit) (s : State), g.open_ = true →
    let part := stampPart f.stamp - g.partLo
    let a := g.base + part * g.stride + 68 * f.index
    let t := landFlit s c i g f
    (f.index < g.flits → g.landed.getD part 0 < g.flits → CanAccess s c a 68 → f.payload.length = 68 →
      storeRead t c a 68 = f.payload ∧
      (∀ x, x / 64 ∉ wordsOf (storeAddr c a) 68 → memRead t.mem.store x = memRead s.mem.store x) ∧
      (getGate t c i).landed = g.landed.modify part (· + 1) ∧
      ((getGate t c i).st = .complete ↔ ∀ n ∈ g.landed.modify part (· + 1), g.flits ≤ n) ∧
      ((getGate t c i).st = .complete → ∀ x ∈ (getChase t (chaseOf c)).slips, x.source = Src.gateWait → x.core = some c →
        x.what = i → x.timedOut = false → x.stop.isSome = true)) ∧
    (g.flits ≤ f.index ∨ g.flits ≤ g.landed.getD part 0 →
      t = raise s { coreItem s Err.FAB_GATE_OVERFILL c [i] with stamp := some f.stamp.toNat })) ∧
  (∀ (c : CoreRef) (i : Nat) (g : Gate) (f : Flit) (s : State), g.open_ = false →
    landFlit s c i g f = addF s Reg.CHS_GATE_DUP 1 (chaseOf c)) ∧
  (∀ (c : CoreRef) (i : Nat) (p : Parked) (s : State), (getCore s c).park[i]? = some p →
    (p.since + 2 ^ 16 ≤ (getChase s (chaseOf c)).clk → exec (.parkStale c i) s =
      .next (addF (modCore s c (fun k => { k with park := k.park.eraseIdx i })) Reg.CHS_GATE_STALE 1 (chaseOf c))) ∧
    ((getChase s (chaseOf c)).clk < p.since + 2 ^ 16 → exec (.parkStale c i) s = .next s)) ∧
  (∀ (c : CoreRef) (es : List (Fin 32)) (s : State), runs s c (opCode 0 4) = true →
    let clk := (getChase s (chaseOf c)).clk
    Gives (.check c es) s fun t =>
      (getCore t c).uses = (getCore s c).uses ++ es.map (fun i =>
        (i.val, ((getChase s (chaseOf c)).time + 2 ^ 48 - (getCore s c).lag + 32) % 2 ^ 48)) ∧
      (getChase t (chaseOf c)).slips = (getChase s (chaseOf c)).slips ++
        (es.filter (fun i => (getGate s c i.val).st != .complete)).map (fun i =>
          ⟨Src.gateWait, some c, clk + 32, none, i.val, false⟩) ∧
      t.mem = s.mem ∧ t.faults = s.faults)

/-- SCRUB and store errors (R97, R102 to R106, R136, R376, R380), while no buffered write, no request before the core
and no local copy waits for port D: a clean word changes nothing, and the wait for its bank is counted; an error of
one byte is corrected and counted; of two bytes corrected, counted and recorded; a word that cannot be corrected is
counted, recorded and left poisoned, unless its region has a source that it is rewritten from. With one of them
waiting, in a gated bank or with the rail off, no word is read. A narrow read of words without errors changes nothing,
and a wide read of a row meets the row's words and slips 12 cycles for each of two bytes (R103); a word that an error
spoils is never changed beyond its 64 bytes. -/
def Obligations.ScrubOutcomes : Prop :=
  (∀ (c : CoreRef) (addr waited : Nat) (s : State), railOn s (chaseOf c) = true → coreExists s c = true →
    (getCore s c).wbuf = [] → olderWaits s c (getCore s c).arrived = false → CanAccess s c (addr / 64 * 64) 64 →
    let a := addr / 64 * 64
    let w := modCore s c (fun k => { k with cntNarrowWait := bump k.cntNarrowWait waited })
    (errsAt s c a = [] → exec (.scrub c addr waited) s = .next w) ∧
    ((errsAt s c a).length = 1 → Gives (.scrub c addr waited) s fun t => errsAt t c a = [] ∧
      (getCore t c).cntCorrOne = bump (getCore s c).cntCorrOne 1 ∧ t.mem.store = s.mem.store ∧ t.faults = s.faults ∧
      t.mem.storePoison = s.mem.storePoison) ∧
    ((errsAt s c a).length = 2 → Gives (.scrub c addr waited) s fun t => errsAt t c a = [] ∧
      (getCore t c).cntCorrTwo = bump (getCore s c).cntCorrTwo 1 ∧ t.mem.store = s.mem.store ∧
      t.mem.storePoison = s.mem.storePoison ∧
      t.faults = { s.faults with items := s.faults.items ++ [coreItem s Err.STORE_TWO_BYTE c [a]] }) ∧
    (3 ≤ (errsAt s c a).length → Gives (.scrub c addr waited) s fun t => errsAt t c a = [] ∧
      (getCore t c).cntPoison = bump (getCore s c).cntPoison 1 ∧
      (∃ it, t.faults = { s.faults with items := s.faults.items ++ [it] } ∧ it.code = Err.STORE_UNCORRECTABLE ∧
        it.row = some c.row.val ∧ it.lcol = some c.lcol.val ∧ it.x0 = some a) ∧
      storePoisoned t c a 64 = !(sourced s c a) ∧ (sourced s c a = true → storeRead t c a 64 = storeRead s c a 64) ∧
      BytesBut s.mem.store t.mem.store (storeAddr c a) 64)) ∧
  (∀ (c : CoreRef) (addr waited : Nat) (s : State), railOn s (chaseOf c) = false ∨ (getCore s c).wbuf ≠ [] ∨
    olderWaits s c (getCore s c).arrived = true ∨ ¬ CanAccess s c (addr / 64 * 64) 64 → exec (.scrub c addr waited) s = .next s) ∧
  (∀ (c : CoreRef) (a n : Nat) (who : Who) (s : State),
    ((∀ w ∈ wordsAt a n, errsAt s c w = []) → meetNarrow s c a n = s) ∧
    ((∀ w ∈ wordsAt a 128, (errsAt s c w).length ≠ 2) → meetRow s c a who = meetNarrow s c a 128) ∧
    (∀ x, x / 64 ∉ wordsOf (storeAddr c a) n → memRead (meetNarrow s c a n).mem.store x = memRead s.mem.store x) ∧
    ((wordsAt a 128).countP (fun w => (errsAt s c w).length == 2) = 1 →
      let u := meetNarrow s c a 128
      (getCore u c).lag + (getCore u c).holdLeft (getChase u (chaseOf c)).clk ≤ 40 →
      meetRow s c a who = holdSlip u c 12))

/-- FLIT_HOP (R22, R32, R148 to R157, R376). In a chase without transit the flit is lost. The head flit of an input's
class with an invalid kind or destination is dropped, counted and recorded once for its packet, whose later flits go
the same way. Any other takes its packet's output when that output serves it next: its link carries no other flit in
this cycle, no other packet of the class is on its way through the output, the next input has room, and no class
before it in the order 4, 6, 1, 0, 2, 3, 5, 7, and no input before it in the round robin, could use the output; else
it stays where it is. A packet keeps the output until its last flit. At its core's router it is delivered to the core,
at a rim gateway into the gateway's queue. Byte lanes with bad parity poison it, counted and recorded with the lowest
lane. -/
def Obligations.FabricHop : Prop :=
  (∀ (r : RouterRef) (i : Fin 7) (f : Flit) (lanes : List Nat) (s : State), transitUp s (chaseOfRouter r) = false →
    exec (.flitHop r i f lanes) s = .next { s with fabric := s.fabric.filter (fun x =>
      !(x.router == r && x.input == i.val && x.flit == f)) }) ∧
  (∀ (r : RouterRef) (i : Fin 7) (x : FlitAt) (s : State), transitUp s (chaseOfRouter r) = true →
    headAt s r i.val (flitClass x.flit) = some x →
    let f := x.flit
    let cls := flitClass f
    (packetAt s r i.val cls = none → 0xC ≤ flitKind f ∨ destOf s r.row.val r.pcol.val x.goal f = none →
      exec (.flitHop r i f []) s = .next (badRoute (leaveInput s r x Out.drop) r f)) ∧
    (∀ p, packetAt s r i.val cls = some p → p.out = Out.drop →
      exec (.flitHop r i f []) s = .next (leaveInput s r x Out.drop)) ∧
    (∀ o, outOf s r x = some o → o ≠ Out.drop →
      (winner s r o = some (cls, i.val) →
        exec (.flitHop r i f []) s = .next (passFlit s r x o) ∧
        (∀ m, moveOf o = some m → ∃ y ∈ (passFlit s r x o).fabric, y.flit = f ∧ y.router = routerAt r m ∧
          y.input = m.input) ∧
        (∀ lanes, lanes ≠ [] → exec (.flitHop r i f lanes) s = .next (passFlit (raise (addF { s with
            fabric := s.fabric.map (fun z => if z = x then { x with flit := { f with poison := true } } else z) }
            Reg.FAB_PARITY_EVENTS 1 0) { routerItem Err.FAB_PARITY r [i.val, lanes.foldl min 79] with
              stamp := some f.stamp.toNat }) r { x with flit := { f with poison := true } } o))) ∧
      (winner s r o ≠ some (cls, i.val) → ∀ lanes, exec (.flitHop r i f lanes) s = .next s)) ∧
    (∀ o, let t := leaveInput s r x o
      packetAt t r i.val cls = if flitEop f then none else some ⟨r, i.val, cls, o⟩)) ∧
  (∀ (r : RouterRef) (o cls i : Nat) (s : State), winner s r o = some (cls, i) → linkFree s r o = true ∧
    wants s r o cls i = true ∧
    ∀ cls' j, cls' < 8 → j < 7 → wants s r o cls' j = true →
      classOrder.idxOf cls ≤ classOrder.idxOf cls' ∧
      (cls' = cls → (inputOrder s r o cls).idxOf i ≤ (inputOrder s r o cls).idxOf j)) ∧
  (∀ (r : RouterRef) (o cls i : Nat) (s : State), wants s r o cls i = true ↔ ∃ x, headAt s r i cls = some x ∧
    outOf s r x = some o ∧ roomFor s r x.flit o = true ∧
    ∀ p ∈ s.packets, p.router = r → p.cls = cls → p.out = o → p.input = i) ∧
  (∀ (r : RouterRef) (o : Nat) (m : Move) (s : State), moveOf o = some m → linkFree s r o = true →
    staticHas s r m = false ∧ kget? s.taken (turnKey r o 0) ≠ some (getChase s (chaseOfRouter r)).clk) ∧
  (∀ (r : RouterRef) (f : Flit) (s : State), let t := deliverFlit s r f
    (flitDcol f < 0x400 → ∀ c, coreAtRouter s r = some c → t = { s with cores := t.cores } ∧
      AgreeBut s.cores t.cores [coreKey c] ∧
      (getCore t c).inbox = (getCore s c).inbox ++ [⟨(getCore s c).arrived, f⟩]) ∧
    (0x400 ≤ flitDcol f → t = { s with rim := s.rim ++ [⟨r, f⟩] }))

/-- Routes (R22, R26, R27, R32, R149, R152, R153): a core destination is the core named by DROW and DCOL, where its
column is below its chase's width; a reserved DCOL names nothing. Where the fixed route is open all the way, a packet
runs along its row to the destination's column as the row's own shift map places it, by skip links while two or more
columns remain, and then along the column; one that came by a column link goes on along the column, and one that a
gateway put in begins with its row. Where it is shut, a router next to the destination sends the packet there, and to
a destination that takes no flits it sends none. A move leads to a router inside the array whose chase has transit and
which has not failed, over a link that exists. -/
def Obligations.FabricRoutes : Prop :=
  (∀ (s : State) (row col : Int) (goal : Option (Int × Int)) (f : Flit),
    (flitDcol f < 0x400 → let c : CoreRef := ⟨Fin.ofNat 1024 (flitDrow f), Fin.ofNat 1024 (flitDcol f)⟩
      destOf s row col goal f = if flitDcol f % 64 < runWidth s (chaseOf c) then some (.core c) else none) ∧
    ((0x434 ≤ flitDcol f ∧ flitDcol f < 0x438) ∨ 0x43C ≤ flitDcol f → destOf s row col goal f = none)) ∧
  (∀ (s : State) (row col : Int) (input : Nat) (d : Dest) (m : Move), nextMove s row col input d = some m →
    0 ≤ row + m.dr ∧ row + m.dr < 1024 ∧ 0 ≤ col + m.dc ∧ col + m.dc < 1056 ∧
    transitUp s (cellChase (row + m.dr) (col + m.dc)) = true ∧ m.linked col = true ∧
    routerFailed s (cellChase (row + m.dr) (col + m.dc)) ((row + m.dr).toNat % 64) ((col + m.dc).toNat % 66) = false) ∧
  (∀ (s : State) (row col : Int) (input : Nat) (d : Dest), fixedOpen s d 4096 row col input = true →
    let tc := d.colIn s row
    (row = d.row ∨ onColumn row col input = false →
      (col + 2 ≤ tc → moveOk s row col Move.skipEast = true → nextMove s row col input d = some Move.skipEast) ∧
      (tc + 2 ≤ col → moveOk s row col Move.skipWest = true → nextMove s row col input d = some Move.skipWest) ∧
      (tc = col + 1 → moveOk s row col Move.east = true → nextMove s row col input d = some Move.east) ∧
      (col = tc + 1 → moveOk s row col Move.west = true → nextMove s row col input d = some Move.west)) ∧
    (tc = col ∨ onColumn row col input = true →
      (row < d.row → nextMove s row col input d = some Move.south) ∧
      (d.row < row → nextMove s row col input d = some Move.north))) ∧
  (∀ (s : State) (row col : Int) (input : Nat) (d : Dest), fixedOpen s d 4096 row col input = false →
    let goal : Int × Int := (d.row, d.colIn s d.row)
    (routerOk s goal.1 goal.2 = false → nextMove s row col input d = none) ∧
    (routerOk s goal.1 goal.2 = true → (∃ m ∈ detourMoves, m.linked col = true ∧ (row + m.dr, col + m.dc) = goal) →
      ∃ m, nextMove s row col input d = some m ∧ (row + m.dr, col + m.dc) = goal)) ∧
  (∀ (s : State) (d : Dest) (n : Nat) (row col : Int) (input : Nat), fixedOpen s d (n + 1) row col input = true ↔
    (row = d.row ∧ col = d.colIn s row) ∨ ∃ m, fixedMove s row col input d = some m ∧
      fixedOpen s d n (row + m.dr) (col + m.dc) m.input = true)

/-- Keeper halts of a chase whose page answers (R165 to R167, R174, R179): HALT_REQ set opens one slip of source 6, 32
cycles on; cleared, it ends it 32 cycles on. CHASE_HALTED sets HALTED once the halt is in effect and no core lags, and
not before. An open request that is unmet CHS.SLIP_LIMIT cycles after its first frozen cycle times out with a record,
and from then on a met condition does not end it (R173); before that nothing happens. While the page does not answer,
the write is refused and counted (R474, R536). SNAP and CLEAR of a chase whose page answers (R136, R137). SNAP latches
totals over the chase, or the selected core's counts, into the eight count registers; CLEAR zeroes every core's counts
and touches nothing else. -/
def Obligations.KeeperHalts : Prop :=
  (∀ (n : ChaseId) (s : State),
    (answers s (256 + n.val) = true → onF s Reg.CHS_SCHED_CTL_HALT_REQ n.val = false →
      Gives (.keeperHalt n) s fun t => onF t Reg.CHS_SCHED_CTL_HALT_REQ n.val = true ∧
        (getChase t n.val).slips = (getChase s n.val).slips ++ [⟨6, none, (getChase s n.val).clk + 32, none, 0, false⟩] ∧
        getF t Reg.CHS_SLIP_LAST_SOURCE n.val = 6 ∧ t.mem = s.mem ∧ t.cores = s.cores) ∧
    (answers s (256 + n.val) = true → onF s Reg.CHS_SCHED_CTL_HALT_REQ n.val = true → exec (.keeperHalt n) s = .next s) ∧
    (answers s (256 + n.val) = true → Gives (.haltEnd n) s fun t => onF t Reg.CHS_SCHED_CTL_HALT_REQ n.val = false ∧
      (getChase t n.val).slips = (getChase s n.val).slips.map (fun x => if x.stop = none ∧ x.timedOut = false ∧ x.source = 6
        then { x with stop := some ((getChase s n.val).clk + 32) } else x) ∧ t.mem = s.mem ∧ t.cores = s.cores) ∧
    (∀ c ∈ [Instr.keeperHalt n, .haltEnd n, .snap n, .clear n], answers s (256 + n.val) = false →
      exec c s = .next (addF (setPageErr s (256 + n.val) Reg.PAGE_ERR_WR_REFUSED 1) Reg.RST_WR_REFUSED 1 0)) ∧
    ((∃ x ∈ (getChase s n.val).slips, x.source = 6 ∧ x.stop = none ∧ x.start ≤ (getChase s n.val).clk) →
      lagMax s n.val = 0 → exec (.chaseHalted n) s = .next (setF s Reg.CHS_SCHED_CTL_HALTED 1 n.val)) ∧
    ((∀ x ∈ (getChase s n.val).slips, x.source = 6 → x.stop = none → (getChase s n.val).clk < x.start) ∨
      lagMax s n.val ≠ 0 → exec (.chaseHalted n) s = .next s) ∧
    (∀ (i : Nat) (x : Slip) (c : CoreRef), (getChase s n.val).slips[i]? = some x → x.stop = none → x.source ≠ 6 →
      x.timedOut = false → x.core = some c →
      x.start + getF s Reg.CHS_SLIP_LIMIT n.val ≤ (getChase s n.val).clk →
      Gives (.slipTimeout n i) s fun t =>
        (getChase t n.val).slips = (getChase s n.val).slips.set i { x with timedOut := true } ∧ t.regs = s.regs ∧
        ∃ it, t.faults = { s.faults with items := s.faults.items ++ [it] } ∧ it.code = Err.SCHED_SLIP_TIMEOUT ∧
          it.x0 = some x.source ∧ it.x1 = some (c.row.val % 64 + 64 * (c.lcol.val % 64))) ∧
    (∀ (i : Nat) (x : Slip), (getChase s n.val).slips[i]? = some x → (getChase s n.val).clk < x.start +
      getF s Reg.CHS_SLIP_LIMIT n.val → exec (.slipTimeout n i) s = .next s) ∧
    (∀ (p : Slip → Bool) (i : Nat) (x : Slip), (getChase s n.val).slips[i]? = some x → x.timedOut = true →
      (getChase (meetSlips s n.val p) n.val).slips[i]? = some x)) ∧
  (∀ (n : ChaseId) (s : State), answers s (256 + n.val) = true →
    (Gives (.snap n) s fun t =>
      RegsOnly s t (coreCounters.map (fun x => x.1.key n.val 0)) ∧
      (onF s Reg.CHS_CORE_CNT_SEL_MODE n.val = false → ∀ x ∈ coreCounters,
        getF t x.1 n.val = ((chaseCores s n.val).map (fun k => x.2 (kgetD s.cores k Core.reset))).sum % 2 ^ x.1.width) ∧
      (∀ k, onF s Reg.CHS_CORE_CNT_SEL_MODE n.val = true → selectedCore s n.val = some k → ∀ x ∈ coreCounters,
        getF t x.1 n.val = x.2 k % 2 ^ x.1.width)) ∧
    (Gives (.clear n) s fun t => t = { s with cores := t.cores } ∧
      ∀ k c, (k, c) ∈ s.cores → (k, if 16 * (k / 65536) + k % 1024 / 64 = n.val then c.uncount else c) ∈ t.cores))

/-- A command of a submission ring is fetched when its ring is next and its record has room (R291, R294): then it
takes its effect on the state with the head moved on, and CANCELs whose wait has lapsed complete (R329). With no room
it stays at the head; while it is not the ring's turn nothing happens. A record is the command that its KIND names;
one with an unknown KIND completes with BAD_KIND (R296). A GENERATE that passes every check of R300 and meets no
CANCEL becomes QUEUED in the lowest free stream entry (R292, R306): the entry holds its record, prompt and place in
fetch order; no other entry changes; no memory, galley or register changes; its conversation, where it names one, is
claimed by it. -/
def Obligations.RingCommandsFetched : Prop :=
  (∀ (q : QueueId) (rec : List Byte) (s : State), rec.length = 64 →
      (∀ p ∈ [(kindOf rec == 0x02, Instr.cancel q rec, cancelApply (fetched s q.val) q.val rec),
          (kindOf rec == 0x03, .release q rec, releaseApply (fetched s q.val) q.val rec),
          (kindOf rec == 0x10, .mooringSet q rec, mooringSetApply (fetched s q.val) q.val rec),
          (kindOf rec == 0x11, .mooringClear q rec, mooringClearApply (fetched s q.val) q.val rec),
          (!knownKinds.contains (kindOf rec), .badKind q rec, complete (fetched s q.val) q.val rec Sts.BAD_KIND 5)],
        p.1 = true →
        (Fetchable s q.val → exec p.2.1 s = .next (lapseTombstones p.2.2)) ∧
        (canFetch s q.val = true → rqFree s q.val = 0 → exec p.2.1 s = .next (blockHead s q.val)) ∧
        (canFetch s q.val = false → exec p.2.1 s = .next s)) ∧
      (∀ (h : HostData) (e : Nat), kindOf rec = 0x01 → kfree s.serve.streams 0 16384 = some e → Fetchable s q.val →
        exec (.generate q rec h) s = .next (lapseTombstones (genApply (fetched s q.val) q.val rec h e))) ∧
      (∀ h : HostData, kindOf rec = 0x01 → kfree s.serve.streams 0 16384 = none → canFetch s q.val = true →
        exec (.generate q rec h) s = .next (blockHead s q.val))) ∧
  (∀ (q : QueueId) (rec : List Byte) (h : HostData) (e : Nat) (s : State), rec.length = 64 → kindOf rec = 0x01 →
      kfree s.serve.streams 0 16384 = some e → Fetchable s q.val → s.serve.tombstones = [] →
      genCheck (fetched s q.val) rec h = none →
      e < 16384 ∧ kget? s.serve.streams e = none ∧ Gives (.generate q rec h) s fun t =>
        (∃ x, getSt t e = some x ∧ x.state = 0 ∧ x.cmd = rec ∧ x.queue = q.val ∧ x.order = s.serve.order ∧ x.req = none ∧
          x.tokens = h.prompt.take (genPromptLen rec)) ∧
        AgreeBut s.serve.streams t.serve.streams [e] ∧ t.serve.order = s.serve.order + 1 ∧
        t = { s with serve := t.serve } ∧
        (getQ t q.val).sqHead = ((getQ s q.val).sqHead + 1) % sqSize s q.val ∧
        (∀ c, genConv rec ≠ 0 → findConv t (tenantOf rec) (genConv rec) = some c → c.claimed = some e))

/-- A record for an open ring is written at its tail (R293, R294): 31 bytes, then the byte with PHASE; the tail moves
on modulo the ring, PHASE flips at its end, the record counts as used, and no other byte of host memory changes. A
record for a full ring, or while no port is up, is owed behind the others and nothing is written (R294, R495). No
CANCEL stays unanswered behind a record that ends its request (R330). A record put into a ring that is not full stands
at the tail slot, and the tail moves on (R558); a full ring first loses its oldest record, which is counted; no other
byte of host memory changes. -/
def Obligations.ResponseRecords : Prop :=
  ((∀ (q : Nat) (r : Resp) (s : State), RingOpen s q → s.serve.answered = [] → r.frees = none → 31 ≤ r.bytes.length →
      let t := respond s q r
      let a := getF s Reg.SRV_RQ_BASE q + 32 * (getQ s q).rqTail
      memReadBytes t.mem.host a 32 = r.bytes.take 31 ++ [if (getQ s q).phase then 1 else 0] ∧
      BytesBut s.mem.host t.mem.host a 32 ∧ t.mem.store = s.mem.store ∧ t.mem.stack = s.mem.stack ∧
      (getQ t q).rqTail = ((getQ s q).rqTail + 1) % rqSize s q ∧ (getQ t q).used = (getQ s q).used + 1 ∧
      (getQ t q).phase = (if (getQ s q).rqTail + 1 = rqSize s q then !(getQ s q).phase else (getQ s q).phase) ∧
      (getQ t q).owed = [] ∧ (getQ t q).sqHead = (getQ s q).sqHead ∧ t.serve.streams = s.serve.streams ∧
      (∀ p, p ≠ q → getQ t p = getQ s p)) ∧
    (∀ (q : Nat) (r : Resp) (s : State), q ∉ s.partner.handed → s.serve.answered = [] → (getQ s q).used = rqSize s q ∨ hostUp s = false →
      let t := respond s q r
      (getQ t q).owed = (getQ s q).owed ++ [r] ∧ t.mem = s.mem ∧ t.serve.streams = s.serve.streams ∧
      (getQ t q).rqTail = (getQ s q).rqTail ∧ (getQ t q).used = (getQ s q).used) ∧
    (∀ (q : Nat) (r : Resp) (s : State), (respond s q r).serve.answered = [])) ∧
  (∀ (s : State) (r : Ring) (bs : List Byte), r = errRing ∨ r = telRing → bs.length = r.size →
      let n := ringSlots s r
      let tl := getF s r.tail 0
      let t := ringPut s r bs
      memReadBytes t.mem.host (getF s r.base 0 + r.size * tl) r.size = bs ∧
      BytesBut s.mem.host t.mem.host (getF s r.base 0 + r.size * tl) r.size ∧
      getF t r.tail 0 = (tl + 1) % n % 2 ^ r.tail.width ∧
      ((tl + 1) % n ≠ getF s r.head 0 → getF t r.head 0 = getF s r.head 0 ∧ getF t r.lost 0 = getF s r.lost 0) ∧
      ((tl + 1) % n = getF s r.head 0 → getF t r.head 0 = (getF s r.head 0 + 1) % n % 2 ^ r.head.width ∧
        getF t r.lost 0 = min (getF s r.lost 0 + 1) (2 ^ r.lost.width - 1)) ∧
      t.mem.store = s.mem.store ∧ t.mem.stack = s.mem.stack ∧ t.faults = s.faults ∧ t.serve = s.serve)

/-- CANCEL and RELEASE (R301, R327 to R332, R340). A CANCEL of a request that is fetched and not terminal is noted
with it, and ends it at once where it is QUEUED or at a step boundary past its replay; with no such request it waits
as a tombstone for the commands of the target ring. RELEASE frees an unclaimed conversation with OK, answers CONV_BUSY
while a request claims it, NOT_FOUND where there is none. MOORING_SET and MOORING_CLEAR (R312 to R315). Off an ADMIN
queue both end in NOT_ADMIN. A MOORING_SET that passes its checks stands with its tenant, forme, streams, rate and
interval limit, and its reservation with the others on its forme fits within the mooring limit (R314); one that does
not pass changes only its record, nor does a number pass whose cleared mooring still stands (log entry 105, the
model's choice). A MOORING_CLEAR of the tenant's mooring marks it cleared, takes it from the requests QUEUED under it
and completes with OK, else with MOORING_UNKNOWN. -/
def Obligations.CancelReleaseMooring : Prop :=
  (∀ (q : Nat) (rec : List Byte) (s : State),
    (∀ e x, cancelTarget s (leAt rec 8 2) (leAt rec 10 2) = some (e, x) →
      let s' := adjSt s e (fun x => { x with cancels := x.cancels ++ [(q, cidOf rec)] })
      cancelApply s q rec = if x.state ≤ 1 ∨ (x.step = none ∧ x.holdRecovery = false ∧ x.replayTo ≤ x.vlen)
        then cancelStream s' e else s') ∧
    (cancelTarget s (leAt rec 8 2) (leAt rec 10 2) = none →
      ∃ b, (cancelApply s q rec).serve.tombstones = s.serve.tombstones ++ [b] ∧ b.target = leAt rec 8 2 ∧
        b.cid = leAt rec 10 2 ∧ b.from_ = q ∧ b.fromCid = cidOf rec ∧
        cancelApply s q rec = { s with serve := { s.serve with tombstones := (cancelApply s q rec).serve.tombstones } }) ∧
    (∀ k, findConv s (tenantOf rec) (genConv rec) = some k →
      releaseApply s q rec = if k.claimed.isSome then complete s q rec Sts.CONV_BUSY 5
        else complete (freeConv s (tenantOf rec) (genConv rec)) q rec Sts.OK 5) ∧
    (findConv s (tenantOf rec) (genConv rec) = none → releaseApply s q rec = complete s q rec Sts.NOT_FOUND 5) ∧
    (∀ e x, cancelTarget s (leAt rec 8 2) (leAt rec 10 2) = some (e, x) → (e, x) ∈ s.serve.streams ∧
      x.queue = leAt rec 8 2 ∧ cidOf x.cmd = leAt rec 10 2 ∧ x.ended = false ∧
      ∀ y ∈ s.serve.streams, y.2.queue = x.queue → cidOf y.2.cmd = cidOf x.cmd → y.2.ended = false → x.order ≤ y.2.order)) ∧
  (∀ (q : Nat) (rec : List Byte) (s : State),
    (onF s Reg.SRV_Q_CTL_ADMIN q = false → mooringSetApply s q rec = complete s q rec Sts.NOT_ADMIN 5 ∧
      mooringClearApply s q rec = complete s q rec Sts.NOT_ADMIN 5) ∧
    (∀ st x, onF s Reg.SRV_Q_CTL_ADMIN q = true → mooringCheck s rec = (st, some x) →
      mooringSetApply s q rec = complete (setMooring s (leAt rec 4 2) x) q rec Sts.OK 5 ∧
      x.tenant = leAt rec 2 2 ∧ x.forme = leAt rec 20 1 ∧ x.streams = leAt rec 8 4 ∧ x.rate = leAt rec 12 4 ∧ x.itl = leAt rec 16 4 ∧
      x.cleared = false ∧ 1 ≤ x.period ∧ x.streams ≠ 0 ∧ x.forme ≤ 15 ∧ resident s x.forme = true ∧
      ∀ f, getForme s x.forme = some f → reserved s x.forme (leAt rec 4 2) + (x.streams : Rat) / (x.period : Rat) ≤
        (slotsP f : Rat) * (getF s Reg.SRV_MOOR_LIMIT 0 : Rat) / 256) ∧
    (∀ st, onF s Reg.SRV_Q_CTL_ADMIN q = true → mooringCheck s rec = (st, none) →
      mooringSetApply s q rec = complete s q rec st 5 ∧ st ≠ Sts.OK) ∧
    (∀ x, onF s Reg.SRV_Q_CTL_ADMIN q = true → kget? s.serve.moorings (leAt rec 4 2) = some x → x.tenant = tenantOf rec →
      x.cleared = false → mooringClearApply s q rec = complete (sweepMoorings { s with serve := { s.serve with
        moorings := kset s.serve.moorings (leAt rec 4 2) { x with cleared := true }
        streams := s.serve.streams.map (fun e =>
          (e.1, if e.2.mooring == leAt rec 4 2 && e.2.state == 0 then { e.2 with unmoored := true } else e.2)) } })
        q rec Sts.OK 5) ∧
    (∀ x, kget? s.serve.moorings (leAt rec 4 2) = some x → x.cleared = true → (mooringCheck s rec).2 = none) ∧
    (onF s Reg.SRV_Q_CTL_ADMIN q = true → (∀ x, kget? s.serve.moorings (leAt rec 4 2) = some x → x.tenant ≠ tenantOf rec ∨ x.cleared = true) →
      mooringClearApply s q rec = complete s q rec Sts.MOORING_UNKNOWN 5))

/-- Doorbells of a page that answers (R289, R290, R293, R294): a tail within the ring becomes the queue's tail with
its lamp time; one beyond it sets BAD_TAIL only. A head within the records not freed frees them, all of a full ring's
where it equals the old head (log entry 32, the model's reading), and lets owed records be written; one beyond the
ring sets BAD_HEAD only; one past the tail is ignored. A coalescing time that runs out, in microseconds from the first
record not yet signalled, raises the queue's vector once, and not before (R295). -/
def Obligations.QueueDoorbells : Prop :=
  ∀ (q : QueueId) (v : Nat) (s : State), v < 65536 → answers s (1024 + q.val) = true →
    (sqSize s q.val ≤ v → exec (.sqTail q v) s = .next (setF s Reg.DBL_STAT_BAD_TAIL 1 q.val)) ∧
    (v < sqSize s q.val → v ≠ (getQ s q.val).sqTail → exec (.sqTail q v) s = .next (setQ s q.val { getQ s q.val with
      sqTail := v, bells := (getQ s q.val).bells ++ [(v, s.lampTime)] })) ∧
    (rqSize s q.val ≤ v → exec (.rqHead q v) s = .next (setF s Reg.DBL_STAT_BAD_HEAD 1 q.val)) ∧
    (v < rqSize s q.val →
      let d := (v + rqSize s q.val - (getQ s q.val).rqHead) % rqSize s q.val
      let freed := if d = 0 ∧ (getQ s q.val).used = rqSize s q.val then rqSize s q.val else d
      (freed ≤ (getQ s q.val).used →
        let s' := setQ s q.val { getQ s q.val with rqHead := v, used := (getQ s q.val).used - freed, blocked := false }
        exec (.rqHead q v) s = .next (settleRing (drainRing s' q.val) q.val)) ∧
      ((getQ s q.val).used < freed → exec (.rqHead q v) s = .next s)) ∧
    (∀ t0, (getQ s q.val).sinceAt = some t0 → s.lampTime < t0 + 1000 * getF s Reg.SRV_Q_COALESCE_TIME q.val →
      exec (.interruptCoalesceTime q) s = .next s) ∧
    (∀ t0, (getQ s q.val).sinceAt = some t0 → t0 + 1000 * getF s Reg.SRV_Q_COALESCE_TIME q.val ≤ s.lampTime →
      Gives (.interruptCoalesceTime q) s fun t =>
      t.io.msix = s.io.msix ++ [getF s Reg.SRV_Q_CTL_VECTOR q.val] ∧ (getQ t q.val).sinceAt = none ∧ (getQ t q.val).since = 0 ∧
      t.mem = s.mem ∧ t.regs = s.regs)

/-- Admission of a QUEUED request (R306, R310, R319, R362, R365): a best-effort one with room, or one of a mooring
that has stood since it was fetched and has a stream free, is admitted: PREFILL state, the lowest free request index,
its record unchanged. One whose forme is gone ends FORME_UNKNOWN, one with a lost forme WEIGHTS_LOST, one of a full
mooring MOORING_FULL, one of a mooring that does not stand MOORING_UNKNOWN, one with an overlay that is not loaded
OVERLAY_UNKNOWN; while its forme drains, with no room, or while a galley of its conversation stands in host memory and
no CXL link is up, it stays QUEUED. A request that is admitted with a prompt, on a ring that takes its INTERIM record
at once (R306, R310): its entry stands in PREFILL with the lowest free request index and its own record, and no other
entry changes. -/
def Obligations.AdmissionOutcomes : Prop :=
  (∀ (e : EntryId) (x : Stream) (s : State), getSt s e.val = some x → x.state = 0 → groupUp s 0 = true → groupUp s 1 = true →
    awake s = true →
    let fi := x.forme
    let st := getF s Reg.LOAD_F_STATE fi
    (st = 5 ∨ st = 0 ∨ st = 1 → exec (.admission e) s = .next (endStream s e.val Sts.FORME_UNKNOWN 5 0)) ∧
    (st = 6 → exec (.admission e) s = .next (endStream s e.val Sts.WEIGHTS_LOST 5 0)) ∧
    (∀ f, st = 2 ∨ st = 3 ∨ st = 4 → getForme s fi = some f →
      (draining s fi = true → exec (.admission e) s = .next s) ∧
      (draining s fi = false → (∃ o ∈ extOverlays x.ext, overlaySlot s fi x.tenant o = none) →
        exec (.admission e) s = .next (endStream s e.val Sts.OVERLAY_UNKNOWN 5 0)) ∧
      (draining s fi = false → (∀ o ∈ extOverlays x.ext, (overlaySlot s fi x.tenant o).isSome) →
        (cxlUp s = true ∨ ∀ g ∈ s.kv.galleys, g.2.st = .host → g.2.owner ≠ .conv x.tenant (genConv x.cmd) ∧
          convHolder x.tenant (genConv x.cmd) ∉ g.2.holders) →
        (x.mooring = 0 → bestEffortRoom s fi f x = true → exec (.admission e) s = .next (admitRequest s e.val x f.forAdmission)) ∧
        (x.mooring = 0 → bestEffortRoom s fi f x = false → exec (.admission e) s = .next s) ∧
        (x.mooring ≠ 0 → x.unmoored = true ∨ (∀ m, kget? s.serve.moorings x.mooring = some m →
            m.cleared = true ∨ m.tenant ≠ x.tenant ∨ m.forme ≠ fi) →
          exec (.admission e) s = .next (endStream s e.val Sts.MOORING_UNKNOWN 5 0)) ∧
        (∀ m, x.mooring ≠ 0 → kget? s.serve.moorings x.mooring = some m → m.cleared = false → m.tenant = x.tenant → m.forme = fi →
          x.unmoored = false →
          (mooringLive s x.mooring < m.streams → exec (.admission e) s = .next (admitRequest s e.val x f.forAdmission)) ∧
          (m.streams ≤ mooringLive s x.mooring → exec (.admission e) s = .next (endStream s e.val Sts.MOORING_FULL 5 0)))) ∧
      (draining s fi = false → (∀ o ∈ extOverlays x.ext, (overlaySlot s fi x.tenant o).isSome) → cxlUp s = false →
        (∃ g ∈ s.kv.galleys, g.2.st = .host ∧ (g.2.owner = .conv x.tenant (genConv x.cmd) ∨
          convHolder x.tenant (genConv x.cmd) ∈ g.2.holders)) → exec (.admission e) s = .next s))) ∧
  (∀ (e : Nat) (x : Stream) (f : Forme) (s : State), getSt s e = some x → x.tokens ≠ [] → RingOpen s x.queue →
    let t := admitRequest s e x f
    (∃ y, getSt t e = some y ∧ y.state = 1 ∧ y.req = some (nextReq s) ∧ y.cmd = x.cmd ∧ y.queue = x.queue ∧
      y.known = y.tokens.length) ∧
    AgreeBut s.serve.streams t.serve.streams [e])

/-- WAVE_LAUNCH of a forme that can run, a beat after its last wave, launches its wave, and the forme's count of waves
rises by one, and its B slots or zero blocks are noted (R286); at a barrier, in a recovery, in retention or within the
beat nothing happens (R366, R390, R435). Layers that wait for a barrier are written first once no step is in flight
(R372). A step of a prefill or a replay has at least one position, at most the forme's lanes, and never crosses the
end of a galley of 256 (R218, R285, R392); a decode step has one position and its proofs (R325). -/
def Obligations.WaveLaunches : Prop :=
  (∀ (fi : FormeId) (f : Forme) (s : State), getForme s fi.val = some f →
    (f.rewrite = [] → groupUp s 0 = true → awake s = true → resident s fi.val = true → atBarrier s fi.val = false →
      recovering s fi.val = false → 0 < f.cyclesD → waveDue s f = true → exec (.waveLaunch fi) s = .next (waveOf s fi.val f) ∧
        ∃ g, getForme (waveOf s fi.val f) fi.val = some g ∧ g.waves = f.waves + 1 ∧ g.image = f.image ∧ g.parts = f.parts ∧
          g.lastWave = some s.lampTime ∧ g.wave.length = imgB f.image) ∧
    (f.rewrite = [] → atBarrier s fi.val = true ∨ recovering s fi.val = true ∨ awake s = false ∨ waveDue s f = false →
      exec (.waveLaunch fi) s = .next s) ∧
    (f.rewrite ≠ [] → atBarrier s fi.val = true → (∃ e ∈ s.serve.streams, e.2.forme = fi.val ∧ e.2.step.isSome = true) →
      exec (.waveLaunch fi) s = .next s) ∧
    (waveDue s f = true ↔ ∀ t, f.lastWave = some t → (t : Rat) + beatNs s f ≤ (s.lampTime : Rat))) ∧
  (∀ (s : State) (f : Forme) (x : Stream), 1 ≤ imgL f.image →
    let n := nextCount s f x
    (x.vlen < x.replayTo ∨ x.vlen < x.known → 1 ≤ n.1 ∧ n.1 ≤ imgL f.image ∧ n.2 = 0 ∧
      (x.vlen + n.1 - 1) / 256 = x.vlen / 256 ∧ x.vlen + n.1 ≤ max x.replayTo x.known) ∧
    (x.replayTo ≤ x.vlen → x.known ≤ x.vlen → n.1 = 1 + n.2 ∧ n.2 = proofCount s x))

/-- TOKEN (R324, R378, R390 to R393): the samples of a step in flight end it as a replay step, a prefill step or a
decode step, by how far the stream has come, its pass names no galley any more (R240), the guesses are the argmaxes of
its proof heads' logits (R326), and its TOKEN packets have been taken (R150); a poisoned step is abandoned and its
forme recovers. The tokens of a step are delivered up to and with the first that stops the generation (R311): none of
those before the last delivered one is a stop token, the last one allowed, or at the last position; and where some
sample is not delivered, the last delivered one is. -/
def Obligations.TokenEndsStep : Prop :=
  (∀ (e : EntryId) (x : Stream) (st : Step) (f : Forme) (lanes heads : List LaneOut) (s : State),
    getSt s e.val = some x → x.step = some st → getForme s x.forme = some f →
    let g := heads.map (headGuess f.vocab)
    let s1 := endPass (takeTokens s x) e.val x
    let s' := timeStep s1 x.forme st.launched
    exec (.token e lanes heads true) s = .next (recoverForme (setSt s1 e.val { x with step := none, tlen := x.vlen }) x.forme) ∧
    (x.vlen < x.replayTo → exec (.token e lanes heads false) s = .next (rewriteNow (checkRecoveries 64 (endReplay s' e.val x f st lanes g)) x.forme)) ∧
    (x.replayTo ≤ x.vlen → x.vlen < x.known →
      exec (.token e lanes heads false) s = .next (rewriteNow (checkRecoveries 64 (endPrefill s' e.val x f st lanes g)) x.forme)) ∧
    (x.replayTo ≤ x.vlen → x.known ≤ x.vlen →
      exec (.token e lanes heads false) s = .next (rewriteNow (checkRecoveries 64 (endDecode s' e.val x f st lanes g)) x.forme)) ∧
    (∀ y ∈ s1.fabric, flitKind y.flit = Kind.token → some (stampReq y.flit.stamp) ≠ x.req) ∧
    (∀ p ∈ s1.kv.picks, p.stream ≠ e.val) ∧ (∀ p ∈ s.kv.picks, p.stream ≠ e.val → p ∈ s1.kv.picks)) ∧
  (∀ (stops : List Nat) (maxNew d p : Nat) (ts : List Nat),
    let n := cutTokens stops maxNew d p ts
    n ≤ ts.length ∧ (ts ≠ [] → 1 ≤ n) ∧
    (∀ i t, i + 1 < n → ts[i]? = some t → t ∉ stops ∧ d + i + 1 ≠ maxNew ∧ p + i ≠ 2 ^ 24 - 1) ∧
    (n < ts.length → ∃ t, ts[n - 1]? = some t ∧ (t ∈ stops ∨ d + n = maxNew ∨ p + n - 1 = 2 ^ 24 - 1)))

/-- What galley events do (R222, R223, R239, R241 to R245, R250). An acknowledged PENDING galley becomes RESIDENT
unless a word of it is poisoned (R378), and one of a paused conversation that no stream holds leaves the store. A
fetch that is done fills the galley's region. Idle conversations' galleys, their own and shared ones that no stream
attends to, are copied, with their summaries, to T2 where it is granted; an acknowledged T2 copy frees the T1 space
and the galley is HOST. A galley whose T0 region is filled from its T1 copy: the region holds the copy's bytes, every
other byte of the store is as it was, the galley stands at the region in the given state, and no other galley changes.
-/
def Obligations.GalleyEvents : Prop :=
  ((∀ (g : Nat) (x : Galley) (s : State), getG s g = some x → x.st = .pending → x.t1 ≠ none →
    exec (.galleyResident g) s = .next (galleyAck s g x) ∧
    ((∃ a, x.t0 = some a ∧ anyPoison s.mem.storePoison a x.bytes = true) → exec (.galleyResident g) s = .next s) ∧
    (∀ (a tn h : Nat), x.t0 = some a → anyPoison s.mem.storePoison a x.bytes = false → x.owner = .conv tn h →
      usersOf s x = [] → onF s Reg.ERR_PARTNER_CTL_MIRROR_KV 0 = false →
      Gives (.galleyResident g) s fun t => ∃ y, getG t g = some y ∧ y.st = .paused ∧ y.t0 = none ∧ y.req = none ∧ y.t1 = x.t1)) ∧
  (∀ (g : Nat) (x : Galley) (s : State), getG s g = some x →
    (x.st = .fetching → exec (.galleyFetchDone g) s = .next (copyToT0 s g .resident)) ∧
    (x.st ≠ .fetching → exec (.galleyFetchDone g) s = .next s)) ∧
  (∀ (tn h p : Nat) (c : Conv) (s : State), findConv s tn h = some c → c.held = false → c.paused = true → groupUp s 1 = true →
    t2Port s = some p →
    (c.pausedAt + 60000000000 ≤ s.lampTime → exec (.galleyToT2 tn h) s =
      .next ((galleysWhere s (fun g => g.idleFor s tn h)).foldl (fun s g => sendT2 s p g) s)) ∧
    (s.lampTime < c.pausedAt + 60000000000 → exec (.galleyToT2 tn h) s = .next s)) ∧
  (∀ (g a b : Nat) (x : Galley) (s : State), getG s g = some x → x.st = .paused ∨ x.st = .spilled → x.t1 = some a → x.t2 = some b →
    usersOf s x = [] → Gives (.t2CopyAck g) s fun t => getG t g = some { x with t1 := none, st := .host } ∧
      (∀ i < x.span, memRead t.mem.stack (a + i) = 0) ∧ BytesBut s.mem.stack t.mem.stack a x.span ∧
      t.mem.host = s.mem.host ∧ t.mem.store = s.mem.store ∧ AgreeBut s.kv.galleys t.kv.galleys [g])) ∧
  (∀ (p g a : Nat) (x : Galley) (s : State), Inv s → getG s g = some x → x.t1 = some a → x.t2 = none →
    errsIn s.mem.stackErrs a x.span = [] → stackPoisoned s a x.span = false →
    let b := firstFit x.span (getF s Reg.HST_T2_BASE p) s.kv.t2
    b + x.span ≤ getF s Reg.HST_T2_BASE p + getF s Reg.HST_T2_SIZE p →
    let t := sendT2 s p g
    getG t g = some { x with t2 := some b } ∧ (∀ i < x.span, memRead t.mem.host (b + i) = memRead s.mem.stack (a + i)) ∧
    BytesBut s.mem.host t.mem.host b x.span ∧ t.mem.store = s.mem.store ∧ t.mem.stack = s.mem.stack) ∧
  (∀ (g a b : Nat) (x : Galley) (f : Forme) (st : GalleyState) (s : State), Inv s → getG s g = some x → x.t1 = some b →
    kget? s.formes x.forme = some f → (x.t0 = some a ∨ (x.t0 = none ∧ freeRegion s f x.layer x.bytes = some a)) →
    errsIn s.mem.stackErrs b x.bytes = [] →
    let t := copyToT0 s g st
    (∀ i < x.bytes, memRead t.mem.store (a + i) = memRead s.mem.stack (b + i)) ∧
    BytesBut s.mem.store t.mem.store a x.bytes ∧ getG t g = some { x with t0 := some a, st := st } ∧
    AgreeBut s.kv.galleys t.kv.galleys [g] ∧ t.mem.stack = s.mem.stack ∧ t.mem.host = s.mem.host ∧
    t = { s with mem := t.mem, kv := { s.kv with galleys := t.kv.galleys } })

/-- Attention and experts (R229 to R237, R240, R257 to R268). A query's participants are n in number, the dense ones
or the window's and the picked ones, in ascending index; an empty state merges into the other unchanged, and two
states merge at the larger maximum. The ranking takes the first k, higher value first, then lower index, a NaN last.
No cold expert is bound to a slot that is STREAMING or holds a selected expert; an EMPTY slot is taken first, then an
unpredicted one; of the others the one that goes first. CLOSE in its other roles, and SEND_DYNAMIC of a leaf or group
result, complete: page selection leaves at most TOP_K candidates of the right range for the query and changes no
galley; routing leaves the token's selection, counts the position and leaves guarded slots alone; the predictor joins
its experts to the set, or sends it; a leaf changes no galley, and only the last of a galley's leaves can end its use
there (log entry 103). -/
def Obligations.AttentionAndExperts : Prop :=
  (∀ (a : Attn) (dense : Bool) (gc : Nat) (picks : List Nat),
    a.dense dense = true ∨ a.candidates gc ≤ a.topk ∨
      (picks.length = a.topk ∧ picks.Pairwise (· < ·) ∧ ∀ i ∈ picks, i < a.candidates gc) →
    let l := a.participants dense gc picks
    l.length = a.count dense gc ∧ l.Pairwise (· < ·) ∧ ∀ i ∈ l, i < gc) ∧
  (∀ (n : Nat) (x y : Leaf), mergeLeaf (Leaf.empty n) x = x ∧ (x.m ≠ negInf → mergeLeaf x (Leaf.empty n) = x) ∧
    (x.m ≠ negInf → y.m ≠ negInf → (mergeLeaf x y).m = max2F32 x.m y.m ∧
      (mergeLeaf x y).o.length = min x.o.length y.o.length)) ∧
  (∀ (k : Nat) (l : List (Nat × Nat)), (l.map (·.1)).Nodup →
    let t := topRanked k l
    t.length = min k l.length ∧ t.Pairwise (· ≤ ·) ∧ (∀ i ∈ t, i ∈ l.map (·.1)) ∧
    ∀ p ∈ l, ∀ q ∈ l, p.1 ∈ t → q.1 ∉ t → rankHigh p q = true) ∧
  (∀ (x : Experts) (y : ColdLayer),
    (∀ i, slotToBind x y = some i → ∃ c, y.slots[i]? = some c ∧ y.guarded c = false) ∧
    ((∃ c ∈ y.slots, c.st = .empty) → ∃ i c, slotToBind x y = some i ∧ y.slots[i]? = some c ∧ c.st = .empty) ∧
    ((∀ c ∈ y.slots, c.st ≠ .empty) → (∃ c ∈ y.slots, c.st = .loaded ∧ y.guarded c = false ∧ c.expert ∉ y.predicted) →
      ∃ i c, slotToBind x y = some i ∧ y.slots[i]? = some c ∧ c.st = .loaded ∧ c.expert ∉ y.predicted ∧
        ∀ j d, y.slots[j]? = some d → d.st = .loaded → y.guarded d = false → d.expert ∉ y.predicted →
          evictFirst x y (i, c) (j, d) = true) ∧
    (slotToBind x y = none ↔ ∀ c ∈ y.slots, c.st = .streaming ∨ (c.st = .loaded ∧ y.guarded c = true)) ∧
    (∀ e miss z, bindExpert x y e miss = some z → y.bound e = false ∧ z.bound e = true ∧
      ∀ (j : Nat) (c : ColdSlot), y.slots[j]? = some c → y.guarded c = true → z.slots[j]? = some c)) ∧
  (∀ (o : CloseOp) (s : State), runs s o.core (opCode 1 4) = true →
    let u := passOp s o.core
    let who : Who := some (o.stamp, o.instr)
    (∀ x, o.role = .ordered x → closable o.out = true → exec (.close o) s = .next (closeOrdered u o.core o.out o.dst o.scaleDst x who)) ∧
    (∀ x, o.role = .merge x → closable o.out = true → exec (.close o) s = .next (closeMerge u o.core o.out o.dst o.scaleDst o.stamp x who)) ∧
    (∀ x, o.role = .combine x → closable o.out = true →
      exec (.close o) s = .next (closeCombine u o.core o.out o.dst o.scaleDst o.stamp x o.recomputeLen who)) ∧
    (∀ e y, streamOfReq s (stampReq o.stamp) = some (e, y) →
      (∀ q g anchor a, o.role = .scores q g anchor → attnFor s y (stampLayer o.stamp) = some a →
        CanAccess s o.core q.codes (elemBytes q.fmt 96) → CanAccess s o.core q.scales (scaleBytes q.fmt 96) →
        Gives (.close o) s fun t => t.kv.galleys = s.kv.galleys ∧ t.serve = s.serve ∧ t.mem.stack = s.mem.stack ∧
          ∃ p ∈ t.kv.picks, p.stream = e ∧ p.layer = stampLayer o.stamp ∧ p.group = g ∧ p.pos = stampPos o.stamp ∧
            p.galleys.length ≤ a.topk ∧ ∀ i ∈ p.galleys, i < a.candidates (stampPos o.stamp / 256)) ∧
      (∀ q anchor f cl x, o.role = .router q anchor → getForme s y.forme = some f →
        coldAt s y.forme (stampLayer o.stamp) = some cl → expertsAt f.image (stampLayer o.stamp) = some x →
        let cols := ((((declAt f.image (stampLayer o.stamp)).tensors.find? (fun t => t.idx == x.routerTensor)).map Tensor.cols)).getD 0
        CanAccess s o.core q.codes (elemBytes q.fmt cols) → CanAccess s o.core q.scales (scaleBytes q.fmt cols) →
        Gives (.close o) s fun t => t.kv = s.kv ∧ t.serve = s.serve ∧ ∃ z, coldAt t y.forme (stampLayer o.stamp) = some z ∧
          z.passed = cl.passed + 1 ∧ (∃ k ∈ z.selected, k.req = stampReq o.stamp ∧ k.pos = stampPos o.stamp ∧
            k.experts.length ≤ x.topk ∧ k.ends = 0) ∧
          ∀ (i : Nat) (c : ColdSlot), cl.slots[i]? = some c → c.st = .streaming → z.slots[i]? = some c) ∧
      (∀ q anchor last f cl x, o.role = .predict q anchor last → getForme s y.forme = some f →
        coldAt s y.forme (stampLayer o.stamp + 2) = some cl → expertsAt f.image (stampLayer o.stamp + 2) = some x →
        x.predFrom = stampLayer o.stamp → x.predTensor ≠ 0xFFFF →
        let cols := ((((declAt f.image (stampLayer o.stamp)).tensors.find? (fun t => t.idx == x.predTensor)).map Tensor.cols)).getD 0
        CanAccess s o.core q.codes (elemBytes q.fmt cols) → CanAccess s o.core q.scales (scaleBytes q.fmt cols) →
        Gives (.close o) s fun t => t.kv = s.kv ∧ t.serve = s.serve ∧
          ∃ z, coldAt t y.forme (stampLayer o.stamp + 2) = some z ∧
            (last = false → z.slots = cl.slots ∧ ∀ e ∈ cl.predicting, e ∈ z.predicting) ∧
            (last = true → z.predicting = [] ∧ (∀ e ∈ cl.predicting, e ∈ z.predicted) ∧
              ∀ (i : Nat) (c : ColdSlot), cl.slots[i]? = some c → cl.guarded c = true → z.slots[i]? = some c)))) ∧
  (∀ (c : CoreRef) (f : Flit) (instr : Nat) (s : State), runs s c (opCode 5 2) = true →
    let v := passOp s c
    let who : Who := some (f.stamp, instr)
    (∀ x, (∀ a ∈ groupSlots s f.stamp x, CanAccess s c a (landedLen s c a)) →
      let u := (groupSlots v f.stamp x).foldl (fun s a => meetWide s c a (landedLen s c a) who) v
      exec (.sendDynamic c ⟨f, .group x, instr⟩) s = .next (sendMerged u c f (groupPacket u c f.stamp x))) ∧
    (∀ x r, leafSpan s c f.stamp x = some r → CanAccess s c x.query.codes (leafCodes x) →
      CanAccess s c x.query.scales (leafScales x) → CanAccess s c r.base r.bytes →
      Gives (.sendDynamic c ⟨f, .leaf x, instr⟩) s fun t => t.kv.galleys = s.kv.galleys ∧ t.serve = s.serve ∧
        (t.kv.leafs = s.kv.leafs ∨ (x.last = true ∧ t.kv.leafs = addOnce s.kv.leafs x.galley))) ∧
    (∀ x, leafSpan s c f.stamp x = none → exec (.sendDynamic c ⟨f, .leaf x, instr⟩) s = .next v))

/-- Expiry (R339, R541). A paused conversation whose time to live has run out since its pause, that no request holds,
and with room in the queue of expired handles, expires: its handle and its tombstone are put behind the others and it
is gone. With 64 handles waiting the expiry is held back and nothing else changes. One that a request holds, one that
is not paused, and one whose time is not over, does not expire. A tombstone is forgotten 604,800 s after its expiry,
and no other. -/
def Obligations.ConversationExpiry : Prop :=
  (∀ (tn h : Nat) (c : Conv) (s : State), findConv s tn h = some c → c.held = false → c.paused = true → groupUp s 1 = true →
    c.pausedAt + 1000000000 * c.ttl ≤ s.lampTime →
    (s.serve.convFifo.length < 64 → exec (.convExpiry tn h) s = .next (expireConv s c) ∧
      (c.claimed = none → let t := expireConv s c
        t.serve.convFifo = s.serve.convFifo ++ [h] ∧ t.serve.convTombs = s.serve.convTombs ++ [(tn, h, s.lampTime)] ∧
        findConv t tn h = none)) ∧
    (64 ≤ s.serve.convFifo.length → exec (.convExpiry tn h) s = .next { s with serve := { s.serve with
      convWait := addOnce s.serve.convWait (tn, h) } })) ∧
  (∀ (tn h : Nat) (c : Conv) (s : State), findConv s tn h = some c →
    c.held = true ∨ c.paused = false ∨ s.lampTime < c.pausedAt + 1000000000 * c.ttl → exec (.convExpiry tn h) s = .next s) ∧
  (∀ (tn h : Nat) (s : State), Gives (.convTombstoneLapse tn h) s fun t =>
    t = { s with serve := { s.serve with convTombs := t.serve.convTombs } } ∧
    ∀ x ∈ s.serve.convTombs, x ∈ t.serve.convTombs ↔
      ¬ (x.1 = tn ∧ x.2.1 = h ∧ x.2.2 + 604800000000000 ≤ s.lampTime))

/-- The load commands at their fetch (R348 to R352, R357, R482, R496). One that passes the checks of its record with
an image from host memory runs at once while the stack tier is trained; before that it is held. A held load of a slot
supersedes the earlier one of its target (R277). With FROM_LINK and room in the stack tier it waits, LOAD_FORME's
index reading LOADING, and asks every trained link for the identity; without room it completes with STACK_FULL (R355).
One that a check refuses only completes with the check's status. UNLOAD_FORME and deletions (R279, R362). An index
that may be unloaded turns UNLOADING and keeps its command; with every request of it terminal, UNLOAD_DRAINED frees
its placement and completes the command. A deletion lets the active version retire, at once into scrubbing where
nothing pins it, and completes with OK. -/
def Obligations.LoadCommands : Prop :=
  (∀ (q : QueueId) (rec : List Byte) (src : LoadSource) (s : State), rec.length = 64 → Fetchable s q.val →
    ∀ p ∈ [(Instr.loadForme q rec src, 0x20), (.replace q rec src, 0x21), (.loadVariant q rec src, 0x23), (.loadOverlay q rec src, 0x24)],
      kindOf rec = p.2 →
      let u := fetched s q.val
      let w := if p.2 = 0x23 ∨ p.2 = 0x24 then supersede u (ldForme rec) (tenantOf rec) (ldOverlay rec) (p.2 == 0x23) else u
      let l : Load :=
        { queue := q.val, cmd := BitVec.ofNat 8 p.2 :: rec.drop 1, image := if ldFromLink rec then [] else src.image
          source := none, offers := [], layersOk := 0, fromLink := ldFromLink rec, capacity := false, slotWait := false
          since := s.lampTime }
      (∀ st, loadCommon u q.val p.2 rec = some st →
        exec p.1 s = .next (lapseTombstones (loadRecord u q.val (cidOf rec) (tenantOf rec) (ldForme rec) st 0 0x02))) ∧
      (loadCommon u q.val p.2 rec = none → ldFromLink rec = false → src.fails = false → src.image.length = ldLength rec →
        (tierTrained u = true → exec p.1 s = .next (lapseTombstones (loadRun u l))) ∧
        (tierTrained u = false → Gives p.1 s fun t => t.loads = w.loads ++ [l] ∧
          (p.2 = 0x20 → getF t Reg.LOAD_F_STATE (ldForme rec) = 1) ∧ t.formes = s.formes ∧ t.slots = w.slots)) ∧
      (loadCommon u q.val p.2 rec = none → ldFromLink rec = true → getF u Reg.LOAD_LINK_WAIT 0 ≠ 0 →
        (stackRoom u (ldLength rec) = false → exec p.1 s = .next (lapseTombstones (finishLoad u l Sts.STACK_FULL 0))) ∧
        (stackRoom u (ldLength rec) = true → Gives p.1 s fun t => t.loads = w.loads ++ [l] ∧
          (p.2 = 0x20 → getF t Reg.LOAD_F_STATE (ldForme rec) = 1) ∧
          t.formes = s.formes ∧ t.slots = w.slots ∧ t.mem.store = s.mem.store ∧ t.mem.stack = s.mem.stack))) ∧
  (∀ (q : QueueId) (rec : List Byte) (f : Forme) (s : State), rec.length = 64 → kindOf rec = 0x22 → Fetchable s q.val →
    loadCommon (fetched s q.val) q.val 0x22 rec = none → getForme s (ldForme rec) = some f →
    Gives (.unloadForme q rec) s fun t => getF t Reg.LOAD_F_STATE (ldForme rec) = 5 ∧
      ∃ g, getForme t (ldForme rec) = some g ∧ g.unload = some (q.val, cidOf rec) ∧ g.parts = f.parts) ∧
  (∀ (i : FormeId) (f : Forme) (q cid : Nat) (s : State), getForme s i.val = some f → f.unload = some (q, cid) →
    ((∀ e ∈ s.serve.streams, e.2.forme = i.val → e.2.ended = true) →
      exec (.unloadDrained i) s = .next (loadStat (loadRecord (freePlacement
        ((s.serve.convs.filter (fun c => c.forme == i.val)).foldl tryExpire s) i.val) q cid 0 i.val Sts.OK 0 0x02) i.val 0)) ∧
    ((∃ e ∈ s.serve.streams, e.2.forme = i.val ∧ e.2.ended = false) → exec (.unloadDrained i) s = .next s)) ∧
  (∀ (q : QueueId) (rec : List Byte) (k : Nat) (x : Slot) (s : State), rec.length = 64 → Fetchable s q.val →
    ∀ p ∈ [(Instr.deleteVariant q rec, 0x25), (.deleteOverlay q rec, 0x26)], kindOf rec = p.2 →
      loadCommon (fetched s q.val) q.val p.2 rec = none →
      s.slots.find? (fun x => x.2.st == .active && sameTarget (ldForme rec) (tenantOf rec) (ldOverlay rec) (p.2 == 0x25) x.2)
        = some (k, x) →
      Gives p.1 s fun t => kget? t.slots k = some { x with st := if x.pins = 0 then .scrubbing else .retiring } ∧
        AgreeBut s.slots t.slots [k] ∧ t.formes = s.formes ∧ t.loads = s.loads)

/-- What a load that passes its checks does (R265, R272, R275 to R277, R352, R356, R363, R364, R367, R370). A placed
forme stands at its index with its image, its parts and generation 1, RESIDENT, and the load completes with OK; one
that finds no room completes with the refusal's status, or waits, LOADING, while chases still kindle. The head of an
image is read and checked before its layers, which are read only where no copy of the identity is resident and the
stack tier has room; a REPLACE reads its changed layers and global sections. A REPLACE on a forme without one becomes
its replacement, REPLACING unless a layer is quarantined; one that comes while another is being swapped waits behind
it, and else takes its place, which is cancelled. A variant or overlay takes a free slot with its places, LOADING;
with none free it waits, and says so. -/
def Obligations.LoadEffects : Prop :=
  (∀ (l : Load) (s : State), ldForme l.cmd < 16 →
    let fi := ldForme l.cmd
    let u := dropLoad s l
    (∀ p, impose u fi l.image = .ok p →
      let t := placeForme s l
      getF t Reg.LOAD_F_STATE fi = 2 ∧ getF t Reg.LOAD_STAT_LAST_STATUS 0 = Sts.OK ∧ t.loads = u.loads ∧
      ∃ f, getForme t fi = some f ∧ f.image = l.image ∧ f.ident = identity l.image ∧ f.gen = 1 ∧ f.layouts = p.layouts ∧
        f.parts.map (fun x => { x with start := 0 }) = p.parts.map (fun x => { x with start := 0 }) ∧ f.repl = none) ∧
    (∀ r, impose u fi l.image = .error r →
      ((r.check ≠ 21 ∧ r.check ≠ 22) ∨ onF s Reg.RST_STAGE_KINDLE_DONE 0 = true →
        placeForme s l = refuseLoad (loadStat (setFState u fi 0) fi 0) l r) ∧
      (r.check = 21 ∨ r.check = 22 → onF s Reg.RST_STAGE_KINDLE_DONE 0 = false →
        (placeForme s l).loads = u.loads ++ [{ l with capacity := true }] ∧ getF (placeForme s l) Reg.LOAD_F_STATE fi = 1 ∧ (placeForme s l).formes = s.formes))) ∧
  (∀ (l : Load) (f : Forme) (s : State), ldForme l.cmd < 16 → getForme s (ldForme l.cmd) = some f →
    let fi := ldForme l.cmd
    let r := replOf l f
    (f.repl = none → let t := replaceStart s l
      getForme t fi = some { f with repl := some r } ∧ getF t Reg.LOAD_F_STATE fi = (if f.quarantined = [] then 3 else 4) ∧ AgreeBut s.formes t.formes [fi] ∧
      t.mem = s.mem ∧ t.serve = s.serve) ∧
    (∀ old, f.repl = some old → old.swapping = true ∨ (old.staged = true ∧ old.policy = 1) →
      replaceStart s l = setForme s fi { f with replWait := f.replWait ++ [r] }) ∧
    (∀ old, f.repl = some old → old.swapping = false → old.staged = false → ∃ g, getForme (replaceStart s l) fi = some g ∧
      g = { f with repl := some (if old.ident = r.ident then { r with staged := false } else r) })) ∧
  (∀ (l : Load) (variant : Bool) (need : List (Nat × Nat)) (s : State),
    let t := takeSlot s l variant need
    ∃ k x, kget? s.slots k = none ∧ kget? t.slots k = some x ∧ AgreeBut s.slots t.slots [k] ∧ x.st = .loading ∧
      x.isVariant = variant ∧ x.forme = ldForme l.cmd ∧ x.tenant = tenantOf l.cmd ∧ x.image = l.image ∧ x.need = need ∧
      x.queue = l.queue ∧ x.cid = cidOf l.cmd ∧ x.pins = 0 ∧ t.formes = s.formes ∧ t.loads = s.loads ∧ t.serve = s.serve) ∧
  (∀ (l : Load) (s : State),
    let fi := ldForme l.cmd
    let u := countRead (dropLoad s l) l (headBytes l.image)
    (ldKind l.cmd = 0x20 →
      (∀ g, headRefusal u l = some g → loadRun s l = syncGolden (g (freeIndex u l))) ∧
      (headRefusal u l = none →
        (∀ j f, u.formes.find? (fun f => f.2.ident == identity l.image && resident u f.1) = some (j, f) →
          ldReplica l.cmd = false → loadRun s l =
            syncGolden (loadRecord (freeIndex u l) l.queue (cidOf l.cmd) 0 j Sts.ALREADY_RESIDENT 0 0x02)) ∧
        (u.formes.find? (fun f => f.2.ident == identity l.image && resident u f.1) = none →
          (stackRoom u (goldenSize l.image) = false →
            loadRun s l = syncGolden (finishLoad (freeIndex u l) l Sts.STACK_FULL 0)) ∧
          (stackRoom u (goldenSize l.image) = true → let v := countRead u l (l.image.length - headBytes l.image)
            loadRun s l = syncGolden (match (checksStream l.image).or (checksForme l.image) with
              | some r => refuseLoad (freeIndex v l) l r
              | none => placeForme (if l.fromLink then v else forwardImage v l) l))))) ∧
    (ldKind l.cmd = 0x21 →
      (∀ g, headRefusal u l = some g → loadRun s l = syncGolden (g u)) ∧
      (headRefusal u l = none → ∀ f, getForme u fi = some f →
        (shapeEqual f.image l.image = false → loadRun s l = syncGolden (finishLoad u l Sts.LOAD_SHAPE 0)) ∧
        (shapeEqual f.image l.image = true → stackRoom u (replOf l f).newBytes = false →
          loadRun s l = syncGolden (finishLoad u l Sts.STACK_FULL 0)) ∧
        (shapeEqual f.image l.image = true → stackRoom u (replOf l f).newBytes = true →
          loadRun s l = syncGolden (replaceStart (countRead u l ((replOf l f).readBytes - headBytes l.image)) l)))) ∧
    (ldKind l.cmd ≠ 0x20 → ldKind l.cmd ≠ 0x21 → ∀ r, checksEarly u.keys l.image = some r →
      loadRun s l = syncGolden (refuseLoad u l r)))

/-- A replacement (R363 to R370). LOAD_STAGED of one not staged is refused by the first check that fails, and else
staged. SWAP_BEGIN of a staged one that is ready, with no recovery on its forme, starts the swap, or ends it at once
where no layer changed. Each layer written with its digest right counts, and the last one makes the new version
current; a wrong digest rolls the swap back. While a recovery runs nothing is swapped. The end of a swap makes the new
image and identity current under the next generation (R367, R369), keeps the placement, and leaves the forme RESIDENT,
or QUARANTINED while a layer is, with no replacement where none waits (R370). -/
def Obligations.ReplacementSteps : Prop :=
  (∀ (fi : FormeId) (f : Forme) (r : Repl) (s : State), getForme s fi.val = some f → f.repl = some r →
    (r.staged = false → exec (.loadStaged fi) s = .next (match (checksStream r.image).or (checksForme r.image) with
      | some b => nextReplace (loadRecord (logFault s (locItem b.code b.loc)) r.queue r.cid 0 fi.val b.status 0 0x02) fi.val
      | none => stagedReplace s fi.val r)) ∧
    (r.staged = true → r.swapping = false → swapReady s fi.val r = true → recovering s fi.val = false →
      let r' := { r with swapping := true }
      let s' := setForme s fi.val { f with repl := some r' }
      (r.changed = [] → exec (.swapBegin fi) s = .next (finishSwap s' fi.val { f with repl := some r' } r')) ∧
      (r.changed ≠ [] → exec (.swapBegin fi) s =
        .next (loadStat (loadProgress s' r.changed.length 0 r.image.length) fi.val 5))) ∧
    (∀ l, r.swapping = true → recovering s fi.val = false → r.changed[r.written]? = some l →
      let r' := { r with written := r.written + 1 }
      let f' := { f with repl := some r' }
      let s' := loadProgress (setForme (writeLayer s fi.val l f r.image) fi.val f') r.changed.length (r.written + 1) r.image.length
      exec (.swapLayerWritten fi true) s = .next (if r.written + 1 = r.changed.length then finishSwap s' fi.val f' r' else s') ∧
      exec (.swapLayerWritten fi false) s = .next (rollBack s fi.val f r)) ∧
    (recovering s fi.val = true → exec (.swapBegin fi) s = .next s ∧ ∀ ok, exec (.swapLayerWritten fi ok) s = .next s)) ∧
  (∀ (fi : Nat) (f : Forme) (r : Repl) (s : State), fi < 16 → getForme s fi = some f → f.replWait = [] →
    let t := finishSwap s fi f r
    ∃ g, getForme t fi = some g ∧ g.image = r.image ∧ g.ident = r.ident ∧ g.gen = f.gen + 1 ∧ g.parts = f.parts ∧
      g.repl = none ∧ getF t Reg.LOAD_F_STATE fi = (if f.quarantined = [] then 2 else 4) ∧ g.keepHost = r.keepHost ∧ t.mem.store = s.mem.store)

/-- AUDIT_SWEEP a period after the last one, while audits are enabled and keeper group 1 runs (R371 to R374): it
arbitrates every layer of every forme by what its reads returned, counts the sweep, and notes the time for the layers
whose copies agree. A clean sweep changes nothing but that; within the period nothing happens. A layer on the wafer
that differs from a sound golden copy is counted, recorded and written again at a barrier; a golden copy whose read
and parity reconstruction disagree is written again from the one that matches, or from the wafer, counted and
recorded; a layer of which no copy matches is quarantined. Slots of variants and overlays (R275 to R278, R282). A
LOADING slot whose image matches its digest becomes ACTIVE and the version before it retires; one whose image does not
match is scrubbed. A slot scrubbed holds zeros, is FREE, and waiting loads are tried again. -/
def Obligations.AuditsAndSlots : Prop :=
  (∀ s : State, onF s Reg.LOAD_CTL_AUDIT_EN 0 = true → groupUp s 1 = true →
    let due := s.lastSweep + 1000000000 * getF s Reg.LOAD_AUDIT_PERIOD 0
    (due ≤ s.lampTime → ∀ found, Gives (.auditSweep found) s fun t => ∃ (all : List AuditFinding) (u : State),
      t = addF { all.foldl arbitrate u with lastSweep := s.lampTime } Reg.LOAD_AUDIT_SWEEPS 1 0 ∧
      u = { s with formes := u.formes } ∧
      u.formes.map (fun f => (f.1, { f.2 with lastAudit := [] })) = s.formes.map (fun f => (f.1, { f.2 with lastAudit := [] })) ∧
      (∀ a ∈ all, a ∈ found ∨ (a.goldenOk = true ∧ a.parityOk = true)) ∧
      (∀ f ∈ s.formes, f.1 < 16 → ∀ l < imgLayers f.2.image, ∃ a ∈ all, a.forme.val = f.1 ∧ a.layer = l)) ∧
    (due ≤ s.lampTime → (∀ fi f l, getForme s fi = some f → waferDiffers s fi l f = false) → Gives (.auditSweep []) s fun t =>
      t.formes = s.formes.map (fun f => (f.1, { f.2 with lastAudit := f.2.lastAudit.map (fun x => (x.1, s.lampTime)) })) ∧
      RegsOnly { s with formes := t.formes, lastSweep := s.lampTime } t [Reg.LOAD_AUDIT_SWEEPS.key 0 0]) ∧
    (s.lampTime < due → ∀ found, exec (.auditSweep found) s = .next s)) ∧
  (∀ (a : AuditFinding) (f : Forme) (s : State), getForme s a.forme.val = some f →
    let fi := a.forme.val
    let mend := fun (u : State) => let t := kgetD f.lastAudit a.layer 0
      rewriteNow (raiseBarrier (adjForme (loadFault (addF u Reg.LOAD_DIVERGED 1 0) Err.LOAD_T0_DIVERGED
        [a.layer, t % 2 ^ 32, t / 2 ^ 32]) fi (fun f => { f with rewrite := addOnce f.rewrite a.layer })) fi) fi
    let u := loadFault (addF (restoreGolden s f a.layer) Reg.LOAD_ARBITRATIONS 1 0) Err.LOAD_COPY_ARBITRATED [a.layer]
    (a.goldenOk = true → a.parityOk = true → waferDiffers s fi a.layer f = false → arbitrate s a = s) ∧
    (a.goldenOk = true → a.parityOk = true → waferDiffers s fi a.layer f = true → arbitrate s a = mend s) ∧
    (a.goldenOk ≠ a.parityOk → waferDiffers s fi a.layer f = true → arbitrate s a = mend u) ∧
    (a.goldenOk = false ∨ a.parityOk = false → waferDiffers s fi a.layer f = false → arbitrate s a = u) ∧
    (a.goldenOk = false → a.parityOk = false → waferDiffers s fi a.layer f = true → arbitrate s a = quarantine s fi a f)) ∧
  (∀ (k : Nat) (x : Slot) (s : State), kget? s.slots k = some x →
    (x.st = .loading → exec (.slotDigestCheck k true) s = .next (loadStat (activateSlot s k x) x.forme 0) ∧
      kget? (activateSlot s k x).slots k = some { x with st := .active } ∧
      (∀ j y, j ≠ k → kget? s.slots j = some y → kget? (activateSlot s k x).slots j =
        some (if y.st = .active ∧ sameTarget x.forme x.tenant x.number x.isVariant y = true then retireSlot y else y)) ∧
      Gives (.slotDigestCheck k false) s fun t => kget? t.slots k = some { x with st := .scrubbing } ∧
        AgreeBut s.slots t.slots [k] ∧ t.mem.store = s.mem.store) ∧
    (x.st = .scrubbing → exec (.slotScrubDone k) s =
      .next (retrySlots { fillSlot s x true with slots := kdel (fillSlot s x true).slots k })))

/-- Images over links (R357 to R359, R508). An ask is kept and answered with an offer where a golden copy matches and
links are served; an offer for a waiting load is noted, and taken where the load has no source, or where it comes on a
lower port than the source before any data; a take sends the image from the layer asked for; data are laid into the
image and counted, and with its head complete a load that its signature, EXPECT or the stack tier's room refuses ends;
the end of a layer whose digest is right is counted and forwarded, of one that is wrong goes to the next offer, and
the end of the image runs the load; with no offer within LOAD.LINK_WAIT seconds the load ends with LINK_SOURCE, and
not before. -/
def Obligations.LinkImages : Prop :=
  (∀ (k : LinkId) (e img : List Byte) (s : State), onF s Reg.LOAD_CTL_SERVE_LINK 0 = true →
    let u := modLink s k.val (fun x => { x with asks := addOnce x.asks e })
    (goldenImage u (fun i => i.take 32 == e) = some img →
      exec (.loadAsk k e) s = .next (linkSend u k.val (linkMsg 0x11 0 (identity img)))) ∧
    (goldenImage u (fun i => i.take 32 == e) = none → exec (.loadAsk k e) s = .next u)) ∧
  (∀ (k : LinkId) (i : List Byte) (l : Load) (s : State),
    s.loads.find? (fun l => l.fromLink && ldExpect l.cmd == i.take 32) = some l →
    let m := { l with offers := addOnce l.offers (k.val, i) }
    (l.source = none ∨ (l.image = [] ∧ ∀ j, l.source = some j → k.val < j) →
      exec (.loadOffer k i) s = .next (swapLoad (takeOffer s m).1 l (takeOffer s m).2)) ∧
    (∀ j, l.source = some j → j ≤ k.val ∨ l.image ≠ [] → exec (.loadOffer k i) s = .next (swapLoad s l m))) ∧
  (∀ (k : LinkId) (i img : List Byte) (n : Nat) (s : State), onF s Reg.LOAD_CTL_SERVE_LINK 0 = true →
    goldenImage s (fun j => j == i) = some img →
    exec (.loadTake k i n) s = .next (sendMsgs s k.val (headMsgs img ++
      ((List.range (imgLayers img)).filter (fun l => n ≤ l)).flatMap (layerMsgs img) ++ globalMsgs img))) ∧
  (∀ (k : LinkId) (l : Load) (s : State), s.loads.find? (fun l => l.fromLink && l.source == some k.val) = some l →
    (∀ (off : Nat) (bs : List Byte), bs.length ≤ 68 → l.headOk = true ∨ pastHead l.image off = false →
      Gives (.loadData k off bs) s fun t =>
      { l with image := layBytes l.image off bs } ∈ t.loads ∧ slice (layBytes l.image off bs) off bs.length = bs ∧
      RegsOnly { s with loads := t.loads } t [Reg.LOAD_BYTES.key 0 0]) ∧
    (∀ (off : Nat) (bs : List Byte), bs.length ≤ 68 → l.headOk = false → pastHead l.image off = true →
      (∀ g, headRefusal s l = some g → exec (.loadData k off bs) s = .next (g (freeIndex (dropLoad s l) l))) ∧
      (headRefusal s l = none → stackRoom (dropLoad s l) (goldenSize l.image) = false → exec (.loadData k off bs) s =
        .next (finishLoad (freeIndex (dropLoad s l) l) l Sts.STACK_FULL 0))) ∧
    (∀ n, l.headOk = true → imgLayers l.image ≤ n → exec (.loadEnd k n) s = .next (loadRun s l)) ∧
    (∀ n, l.headOk = true → n < imgLayers l.image → exec (.loadEnd k n) s =
      .next (if sha384 (layerBytes l.image n) = layerDigest l.image n then
        (forwardPorts (swapLoad s l { l with layersOk := n + 1 }) l.cmd (identity l.image)).foldl (fun s j =>
          sendMsgs s j ((if n = 0 then headMsgs l.image else []) ++ layerMsgs l.image n)) (swapLoad s l { l with layersOk := n + 1 })
      else nextSource s l k.val))) ∧
  (∀ (i : FormeId) (l : Load) (s : State),
    s.loads.find? (fun l => l.fromLink && l.offers.isEmpty && l.source.isNone && ldForme l.cmd == i.val
      && decide (l.since + 1000000000 * getF s Reg.LOAD_LINK_WAIT 0 ≤ s.lampTime)) = some l →
    Gives (.linkSource i) s fun t => t.loads = s.loads.filter (fun m => !(m.queue == l.queue && m.cmd == l.cmd)) ∧
      (ldKind l.cmd = 0x20 → getF t Reg.LOAD_F_STATE i.val = 0) ∧ getF t Reg.LOAD_STAT_LAST_STATUS 0 = Sts.LINK_SOURCE) ∧
  (∀ (i : FormeId) (s : State), (∀ l ∈ s.loads, l.fromLink = true → ldForme l.cmd = i.val →
    l.offers ≠ [] ∨ l.source ≠ none ∨ s.lampTime < l.since + 1000000000 * getF s Reg.LOAD_LINK_WAIT 0) → exec (.linkSource i) s = .next s)

/-- The telemetry second (R318, R320, R545), while keeper group 0 runs. With telemetry off nothing is written, the
held records and the second's counts are given up and the usage counts stay; with one held record that telemetry wants
and nothing of a mooring, the record is put into the ring and the ring's vector is raised. NUMERIC and EXPERT records
(R88, R89, R284): one for each layer with a count that is not zero, saturating at 32 bits; both start the counts anew.
While keeper group 0 runs they are handed to it. -/
def Obligations.TelemetryRecords : Prop :=
  (∀ s : State, groupUp s 0 = true →
    (onF s Reg.TEL_CTL_EN 0 = false → Gives .telemetrySecond s fun t =>
      t.mem = s.mem ∧ t.io = s.io ∧ t.regs = s.regs ∧ t.tele.held = [] ∧ t.tele.groupHeld = [] ∧ t.tele.gaps = [] ∧
      t.tele.tokens = [] ∧ t.tele.steps = [] ∧ t.tele.store = s.tele.store ∧ t.tele.open_ = s.tele.open_) ∧
    (∀ r, s.tele.tokens = [] → s.serve.moorings = [] → s.tele.groupHeld = [] → s.tele.held = [r] → telWanted s r = true →
      Gives .telemetrySecond s fun t => t.tele.held = [] ∧ t.io.msix = s.io.msix ++ [getF s Reg.TEL_CTL_VECTOR 0] ∧
        t.mem = (ringPut s telRing r).mem ∧ t.regs = (ringPut s telRing r).regs)) ∧
  (∀ s : State, groupUp s 0 = true →
    (groupUp s 2 = true → Gives .numeric s fun t =>
      t.tele.held = s.tele.held ++ ((List.range 256).filter (fun l => (numericOf s l).any (· != 0))).map
        (fun l => telRecord s.lampTime l 0x0004 ((numericOf s l).map sat32)) ∧
      (∀ x ∈ t.chases, x.2.counts = []) ∧ t.regs = s.regs ∧ t.mem = s.mem ∧ t.cores = s.cores) ∧
    (groupUp s 1 = true → ∀ first, Gives (.expert first) s fun t =>
      let xs := s.tele.experts.filter (fun x => x.2.figures.any (· != 0))
      t = { s with tele := { s.tele with experts := [], held := s.tele.held ++
        ((xs.filter (fun x => decide (first ≤ x.1)) ++ xs.filter (fun x => decide (x.1 < first))).map
          (fun x => telRecord s.lampTime x.1 0x0005 (x.2.figures.map sat32))) } }))

/-- Usage (R341, R547 to R551). Keeper group 0's counts pass to the open interval; the interval closes, once a
multiple of its length lies past its start, with one record for each pair, numbered on from the last, where the store
of 8,192 has room, and else stays open with EXTENDED set; a new length is taken from 1 to 3,600 s. Reading by number
gives the record's bytes or ABSENT; acknowledging frees the records up to the number and no other. -/
def Obligations.UsageEvidence : Prop :=
  (∀ s : State, groupUp s 0 = true → Gives .usageCounts s fun t => t.tele.pairs = [] ∧
    t.tele.open_ = s.tele.pairs.foldl (fun l p => modPair l p.mooring p.tenant (fun q => q.add p)) s.tele.open_ ∧
    t.tele.store = s.tele.store ∧ RegsOnly { s with tele := t.tele } t [Reg.USE_OPEN_PAIRS.key 0 0]) ∧
  (∀ s : State, (lastBoundary s ≤ getF s Reg.USE_OPEN_START 0 → exec .usageIntervalClose s = .next s) ∧
    (getF s Reg.USE_OPEN_START 0 < lastBoundary s → 8192 < s.tele.store.length + s.tele.open_.length →
      exec .usageIntervalClose s = .next (setF s Reg.USE_STAT_EXTENDED 1 0)) ∧
    (getF s Reg.USE_OPEN_START 0 < lastBoundary s → s.tele.store.length + s.tele.open_.length ≤ 8192 → Gives .usageIntervalClose s fun t =>
      (∃ rs, t.tele.store = s.tele.store ++ rs ∧ rs.length = s.tele.open_.length ∧
        ∀ i r, rs[i]? = some r → r.seq = s.tele.seq + 1 + i) ∧
      t.tele.seq = s.tele.seq + s.tele.open_.length ∧ t.tele.open_ = [] ∧ getF t Reg.USE_STAT_EXTENDED 0 = 0 ∧
      getF t Reg.USE_OPEN_START 0 = lastBoundary s % 2 ^ 64 ∧
      t.tele.pairs = s.tele.pairs ∧ t.mem = s.mem)) ∧
  (∀ (v : Nat) (s : State), answers s 18 = true →
    (1 ≤ v → v ≤ 3600 → exec (.intervalS v) s = .next (setF s Reg.USE_INTERVAL_S v 0)) ∧
    (v = 0 ∨ 3600 < v → exec (.intervalS v) s = .next (setF s Reg.USE_STAT_BAD_WRITE 1 0)) ∧
    Gives (.ackSeq v) s (fun t => (∀ r, r ∈ t.tele.store ↔ r ∈ s.tele.store ∧ v < r.seq) ∧
      getF t Reg.USE_STAT_HELD 0 = t.tele.store.length % 2 ^ 14 ∧ t.tele.seq = s.tele.seq ∧ t.mem = s.mem) ∧
    (∀ r, s.tele.store.find? (fun r => r.seq == v) = some r → Gives (.rdSeq v) s fun t =>
      onF t Reg.USE_STAT_READY 0 = true ∧ onF t Reg.USE_STAT_ABSENT 0 = false ∧
      (∀ k < 408, getF t Reg.USE_RD_DATA 0 k = leAt r.bytes (4 * k) 4 % 2 ^ 32) ∧ t = { s with regs := t.regs }) ∧
    (s.tele.store.find? (fun r => r.seq == v) = none → Gives (.rdSeq v) s fun t =>
      onF t Reg.USE_STAT_READY 0 = false ∧ onF t Reg.USE_STAT_ABSENT 0 = true ∧
      (∀ k < 408, getF t Reg.USE_RD_DATA 0 k = 0) ∧ t = { s with regs := t.regs }))

/-- A fault record that reaches the lamp domain (R381 to R384, R411, R489). It is counted by class. Repeated within
its second, a CORRECTED or DEFERRED one is only counted as suppressed. Else it stands at the head of the log of 64
under the next number with the lamp time, and the oldest beyond 64 is lost and counted; no memory but host memory
changes; a FATAL_MODULE record pulls MOD_FAULT_N low. -/
def Obligations.FaultRecordLogged : Prop :=
  ∀ (it : FaultItem) (s : State), (∀ b, it.block = some b → pageOfIdent b < 4096) →
    let t := logFault s it
    getF t Reg.ERR_CLASS_CNT 0 (classOf it.code) = min (getF s Reg.ERR_CLASS_CNT 0 (classOf it.code) + 1) (2 ^ 32 - 1) ∧
    t.mem.store = s.mem.store ∧ t.mem.stack = s.mem.stack ∧ t.serve = s.serve ∧ t.cores = s.cores ∧ t.chases = s.chases ∧
    (suppressed s it = true → RegsOnly s t [Reg.ERR_CLASS_CNT.key 0 (classOf it.code), Reg.ERR_SUPPRESSED.key 0 0] ∧
      getF t Reg.ERR_SUPPRESSED 0 = min (getF s Reg.ERR_SUPPRESSED 0 + 1) (2 ^ 32 - 1)) ∧
    (suppressed s it = false →
      t.faults.log = (⟨it, isRepeat s it, getF s Reg.ERR_SEQ 0 + 1, s.lampTime⟩ :: s.faults.log).take 64 ∧
      getF t Reg.ERR_SEQ 0 = (getF s Reg.ERR_SEQ 0 + 1) % 2 ^ 32 ∧ t.faults.items = s.faults.items ∧
      t.faults.recoveries = s.faults.recoveries ∧
      (64 ≤ s.faults.log.length → getF t Reg.ERR_LOG_LOST 0 = min (getF s Reg.ERR_LOG_LOST 0 + 1) (2 ^ 32 - 1)) ∧
      (onF s Reg.ERR_CTL_RING_EN 0 = false → t.mem = s.mem) ∧
      (classOf it.code = 4 → t.pins.modFaultN = false ∧ getF t Reg.SYS_MOD_FAULT 0 = 1) ∧
      (classOf it.code ≠ 4 → t.pins.modFaultN = s.pins.modFaultN))

/-- Register reads (R6, R7, R179, R411, R529 to R531, R541, R542). A counter that a read clears returns its count and
is zero then, in a page that answers; nothing else changes. The oldest expired handle is popped and returned, low half
first; with none, zero and UNDERRUN. A low half latches its high half; a 64-bit read returns both halves, and anywhere but at a low half aligned on 8 bytes it is
a bad access. A bad access returns zero, is flagged and
counted; no answer returns all ones and is flagged. The T2 directory gives a galley's host address and tenant (R497).
-/
def Obligations.RegisterReads : Prop :=
  (∀ (r : Requester) (n : ChaseId) (s : State), ∀ p ∈ [(Instr.slipLongest r n, Reg.CHS_SLIP_LONGEST, n.val, 256 + n.val),
      (.parkMax r n, Reg.CHS_PARK_MAX, n.val, 256 + n.val), (.ringLost r, Reg.ERR_RING_LOST, 0, 7),
      (.suppressed r, Reg.ERR_SUPPRESSED, 0, 7), (.logLost r, Reg.ERR_LOG_LOST, 0, 7)],
    answers s p.2.2.2 = true → exec p.1 s = .next (readResult (setF s p.2.1 0 p.2.2.1) r (getF s p.2.1 p.2.2.1))) ∧
  (∀ (r : Requester) (s : State), answers s 11 = true →
    (∀ h rest, s.serve.convFifo = h :: rest → Gives (.convExpired r) s fun t =>
      kget? t.io.readData (reqNum r) = some (h % 2 ^ 32) ∧ kget? t.io.pairLatch (latchKey r 0xB0A0) = some (h / 2 ^ 32) ∧
      (s.serve.convWait = [] → t.serve = { s.serve with convFifo := rest } ∧ t.regs = s.regs)) ∧
    (s.serve.convFifo = [] → Gives (.convExpired r) s fun t => kget? t.io.readData (reqNum r) = some 0 ∧
      onF t Reg.PAGE_ERR_UNDERRUN 11 = true ∧ t.serve = s.serve)) ∧
  (∀ (r : Requester) (addr : Nat) (s : State), addr < debugBase → addr % 4 = 0 → (pageType (addr / 0x1000)).isSome = true →
    addr ≠ 0xB0A0 → pairLowAt (addr / 0x1000) (addr % 0x1000) = true → Gives (.pairLowRead r ⟨addr, false⟩) s (fun t =>
      kget? t.io.readData (reqNum r) = some (wordAt s (addr / 0x1000) (addr % 0x1000)) ∧
      kget? t.io.pairLatch (latchKey r addr) = some (wordAt s (addr / 0x1000) (addr % 0x1000 + 4)) ∧ t.regs = s.regs ∧
      t.mem = s.mem) ∧
      (addr % 8 = 0 → exec (.pairLowRead r ⟨addr, true⟩) s = .next (readResult s r
        (wordAt s (addr / 0x1000) (addr % 0x1000) + 2 ^ 32 * wordAt s (addr / 0x1000) (addr % 0x1000 + 4))))) ∧
  (∀ (r : Requester) (addr : Nat) (s : State), addr % 8 ≠ 0 ∨ (addr < debugBase ∧ pairLowAt (addr / 0x1000) (addr % 0x1000) = false) →
    exec (.pairLowRead r ⟨addr, true⟩) s = .next (readResult (flagBadAccess s addr) r 0)) ∧
  (∀ (r : Requester) (addr : Nat) (s : State),
    exec (.badAccess r addr true) s = .next (readResult (flagBadAccess s addr) r 0) ∧
    exec (.badAccess r addr false) s = .next (flagBadAccess s addr) ∧
    getF (flagBadAccess s addr) Reg.SYS_BAD_ACCESS_CNT 0 = min (getF s Reg.SYS_BAD_ACCESS_CNT 0 + 1) (2 ^ 32 - 1) ∧
    getF (flagBadAccess s addr) Reg.SYS_BAD_ACCESS_ADDR 0 = addr % 2 ^ Reg.SYS_BAD_ACCESS_ADDR.width) ∧
  (∀ (r : Requester) (addr : Nat) (s : State), (pageType (addr / 0x1000)).any (fun t => !lampServed t.1) = true →
    answers s (addr / 0x1000) = true → 0x40 ≤ addr % 0x1000 →
    let u := setPageErr s (addr / 0x1000) Reg.PAGE_ERR_NO_ANSWER 1
    exec (.noAnswer r addr true) s = .next (readResult u r 0xFFFFFFFF) ∧ exec (.noAnswer r addr false) s = .next u) ∧
  (∀ (h : PortId) (i : Nat) (s : State), h.val ≤ 1 → onF s Reg.HST_PORT_STAT_UP h.val = true →
    onF s Reg.HST_PORT_STAT_CXL h.val = true → onF s Reg.HST_CXL_CTL_MEM_EN h.val = true →
    exec (.t2DirectoryRead (.host h) i) s = .next (readResult s (.host h)
      ((((s.kv.galleys.filter (fun g => g.2.st == .host))[i]?).map (fun g => t2Entry g.2)).getD 0)))

/-- Register writes (R6, R451, R474, R521, R529, R537, R538, R541). The management endpoint writes none. A word of an
answering page that no other command names takes its fields by their access: RW the value, RWL too unless the page is
locked, W1C clears ones, W1S sets ones, RO keeps. A page that does not answer refuses the write and counts it. A write
of a page's lock sets it and nothing else. T_target is clamped to 60 to 92 °C; a prefix limit evicts down to it
(R344). -/
def Obligations.RegisterWrites : Prop :=
  (∀ (addr : Nat) (wide : Bool) (v : Nat) (s : State), exec (.registerWrite .management addr wide v) s = .next s) ∧
  (∀ (h : PortId) (p off ty n v : Nat) (s : State), p * 0x1000 < debugBase → pageType p = some (ty, n) → off % 4 = 0 →
    0x40 ≤ off → off < 0x1000 → pairLowAt p off = false → pairHighAt p off = false → v < 2 ^ 32 →
    exec (.registerWrite (.host h) (p * 0x1000 + off) false v) s = wordWrite s p off v) ∧
  (∀ (p off n v : Nat) (ty : Nat) (s : State), pageType p = some (ty, n) → ty = 0x01 ∨ ty = 0x09 ∨ ty = 0x11 ∨ ty = 0x23 →
    wordWrite s p off v = .next (regWrite s p (fun s => plainWrite s ty n p off v))) ∧
  (∀ (f : Fld) (p i k v : Nat) (s : State), f.pair = false →
    let x := v / 2 ^ f.lo % 2 ^ f.width
    (f.acc = .rw → writeField s p i k v f = setF s f x i k) ∧
    (f.acc = .rwl → writeField s p i k v f = if pageLocked s p then s else setF s f x i k) ∧
    (f.acc = .w1c → writeField s p i k v f = setF s f (getF s f i k - (getF s f i k &&& x)) i k) ∧
    (f.acc = .w1s → writeField s p i k v f = setF s f (getF s f i k ||| x) i k) ∧
    (f.acc = .ro ∨ f.acc = .rc ∨ f.acc = .wo → writeField s p i k v f = s)) ∧
  (∀ (p : Nat) (f : State → State) (s : State), answers s p = false →
    regWrite s p f = addF (setPageErr s p Reg.PAGE_ERR_WR_REFUSED 1) Reg.RST_WR_REFUSED 1 0) ∧
  (∀ (p : Nat) (s : State), (pageType p).isSome = true → Gives (.locked p) s fun t =>
    pageLocked t p = true ∧ RegsOnly s t [Reg.PAGE_LOCK_LOCKED.key p 0]) ∧
  (∀ (v : Nat) (s : State), answers s 5 = true → Gives (.target v) s fun t => getF t Reg.THM_TARGET 0 = max 960 (min 1472 (v % 4096)) ∧
    RegsOnly s t [Reg.THM_TARGET.key 0 0]) ∧
  (∀ (v : Nat) (s : State), answers s 12 = true → exec (.limitGib v) s = .next (evictAll (setF s Reg.PFX_LIMIT_GIB v 0)))

/-- Rings, windows and queues (R289, R343, R411, R496, R545, R558). A ring's size and base change only while it is
disabled; it is enabled only within the windows, else RING_REFUSED. Its head moves only within the records it holds. A
window in use is not taken away: WIN_BUSY. A queue is enabled with its sizes where its rings lie in windows; an
enabled queue keeps its sizes; a disabled one keeps everything but the control word. -/
def Obligations.RingAndQueueControls : Prop :=
  (∀ p ∈ [(Instr.ringEn, 7, errRing, Reg.ERR_CTL_RING_EN, Reg.ERR_CTL_VECTOR), (.telEn, 15, telRing, Reg.TEL_CTL_EN, Reg.TEL_CTL_VECTOR)],
    ∀ (v : Nat) (s : State), answers s p.2.1 = true →
    let lg := v / 2 ^ 16 % 32
    (lg < 6 ∨ 16 < lg → exec (p.1 v) s = .next s) ∧
    (6 ≤ lg → lg ≤ 16 → v / 2 ^ 31 % 2 = 0 → Gives (p.1 v) s fun t => onF t p.2.2.2.1 0 = false ∧ t.mem = s.mem ∧
      (onF s p.2.2.2.1 0 = true → getF t p.2.2.1.log2 0 = getF s p.2.2.1.log2 0)) ∧
    (6 ≤ lg → lg ≤ 16 → v / 2 ^ 31 % 2 = 1 → onF s p.2.2.2.1 0 = false → lg ≠ getF s p.2.2.1.log2 0 →
      Gives (p.1 v) s fun t => getF t p.2.2.1.log2 0 = lg ∧ getF t p.2.2.1.head 0 = 0 ∧ getF t p.2.2.1.tail 0 = 0 ∧
        (inWindows s (getF s p.2.2.1.base 0) (p.2.2.1.size * 2 ^ lg) true = true → onF t p.2.2.2.1 0 = true) ∧
        (inWindows s (getF s p.2.2.1.base 0) (p.2.2.1.size * 2 ^ lg) true = false → onF t p.2.2.2.1 0 = false ∧
          getF t Reg.HST_WIN_STAT_RING_REFUSED 0 = 1))) ∧
  (∀ p ∈ [(Instr.ringHead, 7, errRing), (.head, 15, telRing)], ∀ (v : Nat) (s : State), v < 65536 → answers s p.2.1 = true →
    let n := ringSlots s p.2.2
    let h := getF s p.2.2.head 0
    exec (p.1 v) s = .next (if v < n ∧ (v + n - h) % n ≤ (getF s p.2.2.tail 0 + n - h) % n then setF s p.2.2.head v 0 else s)) ∧
  (∀ (v : Nat) (s : State), answers s 10 = true →
    let w := getF s Reg.HST_WIN_SEL 0
    let al := v / 4096 * 4096
    ∀ p ∈ [(0x54, setF s Reg.HST_WIN_BASE al w), (0x5C, setF s Reg.HST_WIN_SIZE al w),
        (0x64, setF (setF (setF s Reg.HST_WIN_CTL_FORME (v / 4) w) Reg.HST_WIN_CTL_WRITE (v / 2) w) Reg.HST_WIN_CTL_ENABLE v w)],
      exec (.winCtl p.1 v) s = .next (if windowUsed s w = true ∧ windowLoses s p.2 w = true then setF s Reg.HST_WIN_STAT_WIN_BUSY 1 0 else p.2)) ∧
  (∀ (v : Nat) (s : State), answers s 11 = true → getF s Reg.SRV_Q_SEL 0 < 1024 →
    let q := getF s Reg.SRV_Q_SEL 0
    let sq := v / 2 ^ 20 % 32
    let rq := v / 2 ^ 15 % 32
    (onF s Reg.SRV_Q_CTL_ENABLE q = true →
      (Gives (.queueEnable v) s fun t => onF t Reg.SRV_Q_CTL_ENABLE q = true ∧
        getF t Reg.SRV_Q_CTL_SQ_LOG2 q = getF s Reg.SRV_Q_CTL_SQ_LOG2 q ∧ getF t Reg.SRV_Q_CTL_RQ_LOG2 q = getF s Reg.SRV_Q_CTL_RQ_LOG2 q ∧
        getF t Reg.SRV_Q_CTL_PRIORITY q = v / 2 ^ 28 % 4 ∧ t.serve = s.serve ∧ t.mem = s.mem) ∧
      (Gives (.queueDisable v) s fun t => onF t Reg.SRV_Q_CTL_ENABLE q = false ∧ t.serve = s.serve ∧ t.mem = s.mem)) ∧
    (onF s Reg.SRV_Q_CTL_ENABLE q = false → 4 ≤ sq → sq ≤ 16 → 4 ≤ rq → rq ≤ 16 → Gives (.queueEnable v) s fun t =>
      getF t Reg.SRV_Q_CTL_SQ_LOG2 q = sq ∧ getF t Reg.SRV_Q_CTL_RQ_LOG2 q = rq ∧
      getF t Reg.SRV_Q_CTL_ADMIN q = v / 2 ^ 30 % 2 ∧
      (onF t Reg.SRV_Q_CTL_ENABLE q = true ↔ inWindows s (getF s Reg.SRV_SQ_BASE q) (64 * 2 ^ sq) false = true ∧
        inWindows s (getF s Reg.SRV_RQ_BASE q) (32 * 2 ^ rq) true = true) ∧
      (onF t Reg.SRV_Q_CTL_ENABLE q = false → getF t Reg.HST_WIN_STAT_RING_REFUSED 0 = 1)))

/-- Training of a link (R500, R503 to R506, R12, R505). DETECT finds lanes or leaves the link down; a signal restarts
it, unless it was refused; IDENTIFY takes the peer that holds most lanes, and goes down where the peer is wrong or is
this module outside loopback; EQUALISE keeps coefficients; LOCK selects the width and the logical lanes; IDENT and
VERSION complete the negotiation, another major leaves the link down; RETRAIN starts again from DETECT. A failed lane
is replaced by the first spare, without one the link narrows. -/
def Obligations.LinkTraining : Prop :=
  ∀ (k : LinkId) (s : State),
    (phase s k = Phase.detect → onF s Reg.LNK_CTL_ENABLE k = true → ∀ lanes, Gives (.detect k lanes) s fun t =>
      phase t k = (if maskLanes lanes = [] then Phase.down else Phase.identify) ∧ t.mem = s.mem ∧
      (maskLanes lanes ≠ [] → (getLink t k).good = maskLanes lanes)) ∧
    (phase s k = Phase.down → onF s Reg.LNK_CTL_ENABLE k = true → beaconOf s (linkPage k) = Beacon.occulting →
      ∀ b, exec (.signalLook k b) s = .next (if b = true ∧ (getLink s k).refused = false then setPhase s k Phase.detect else s)) ∧
    (∀ lanes serial die, phase s k = Phase.identify → mainPeer lanes = some (serial, die) → serial < 2 ^ 128 → die < 16 →
      Gives (.identify k lanes) s fun t => serialOf t Reg.LNK_PEER_ID k = serial ∧ getF t Reg.LNK_PEER_DIE k = die ∧
        phase t k = (if peerWrong s k serial die = true ∨ (serial = moduleSerial s ∧ onF s Reg.LNK_CTL_LOOPBACK k = false)
          then Phase.down else Phase.equalise)) ∧
    (phase s k = Phase.equalise → ∀ cs, exec (.equalise k cs) s =
      .next (setPhase (modLink s k (fun x => { x with trained := cs })) k Phase.lock)) ∧
    (∀ good, phase s k = Phase.lock ∨ phase s k = Phase.select →
      let lanes := (maskLanes good).filter (getLink s k).good.contains
      let w := linkWidth lanes.length
      Gives (.lock k good) s fun t => phase t k = (if w = 0 then Phase.down else Phase.negotiate) ∧
        (getLink t k).good = lanes ∧ (getLink t k).logical = lanes.take w ∧ (getLink t k).spares.length ≤ 2 ∧
        getF t Reg.LNK_STAT_WIDTH k = w ∧ w ≤ lanes.length) ∧
    (∀ (lane : Fin 32) (sp : Nat) (rest : List Nat), phase s k = Phase.up → lane.val ∈ (getLink s k).logical →
      ((getLink s k).spares = sp :: rest → Gives (.lnkLaneSpared k lane) s fun t =>
        (getLink t k).logical = (getLink s k).logical.map (fun l => if l = lane.val then sp else l) ∧
        (getLink t k).spares = rest ∧ (getLink t k).good = (getLink s k).good.filter (· != lane.val) ∧ phase t k = Phase.up) ∧
      ((getLink s k).spares = [] → Gives (.lnkLaneSpared k lane) s fun t => phase t k = Phase.select ∧
        (getLink t k).good = (getLink s k).good.filter (· != lane.val) ∧ (getLink t k).retrainAt = some s.lampTime)) ∧
    (∀ serial die grade cores idents, phase s k = Phase.negotiate → Gives (.ident k serial die grade cores idents) s fun t =>
      (getLink t k).gotIdent = true ∧ (getLink t k).peerIdents = idents ∧ (getLink t k).peerCores = cores ∧
      phase t k = (if (getLink s k).gotVersion = true then Phase.sync else Phase.negotiate)) ∧
    (∀ offers, phase s k = Phase.negotiate →
      (∀ m, ((offers.filter (fun o => o.1 == 1)).map (·.2)).max? = some m → Gives (.version k offers) s fun t =>
        getF t Reg.LNK_STAT_VER_MAJOR k = 1 ∧ getF t Reg.LNK_STAT_VER_MINOR k = min 1 m ∧
        phase t k = (if (getLink s k).gotIdent = true then Phase.sync else Phase.negotiate)) ∧
      ((∀ o ∈ offers, o.1 ≠ 1) → Gives (.version k offers) s fun t => phase t k = Phase.down ∧ (getLink t k).refused = true)) ∧
    (∀ v, v < 2 ^ 32 → v / 2 ^ 31 = 1 → v / 2 ^ 30 % 2 = 1 → answers s (linkPage k) = true → Gives (.retrain k v) s fun t =>
      phase t k = Phase.detect ∧ (getLink t k).refused = false ∧ getF t Reg.LNK_RETRAINS k = min (getF s Reg.LNK_RETRAINS k + 1) (2 ^ Reg.LNK_RETRAINS.width - 1) ∧
      (getLink t k).retrainAt = some s.lampTime)

/-- Time over the links (R467, R509). The first exchange after the negotiation brings the link up; an exchange on the
path to the source steers lamp time: no step back, one step forward when more than 1 ms behind, else a slew; SYNCED
within 50 ns. An announcement is kept, and the source chosen is one that no candidate is preferred to; a source that
is lost is chosen again. Every exchange starts with a message on the link. Frames, fabric packets and loss (R501,
R502, R507, R510, R407, R408). A frame that is sound and next in order is taken: its acknowledgement frees the replay
buffer, its NAK replays it; any other asks once for a replay; a frame not of 336 bytes is ill formed. A packet of a
split forme enters the fabric toward its part's first core. A link that does not come back within 250 ms goes down,
and after 2 s more the streams of its forme end PEER_LOST. Data of the partner are kept; a replay record becomes a
stream, a conversation stands paused, a queue goes on with its heads, tails and phase. -/
def Obligations.LinkTimeAndTraffic : Prop :=
  ((∀ (k : LinkId) (offset : Int) (delay : Nat) (s : State), Phase.sync ≤ phase s k →
    let u := modLink (setF (setF s Reg.LNK_TIME_OFFSET (signedWord offset) k) Reg.LNK_PATH_DELAY delay k) k
      (fun x => { x with lastExchange := some s.lampTime })
    let v := if phase s k = Phase.sync then bringUp u k else u
    exec (.pdelay k offset delay) s = .next (if timePath v = some k.val then followTime v k offset else v)) ∧
  (∀ (k : Nat) (offset : Int) (s : State), k < 16 → let t := followTime s k offset
    (1000000000 < offset → t.lampTime = s.lampTime ∧ t.slew = 0) ∧
    (offset < -1000000 → t.lampTime = s.lampTime + offset.natAbs ∧ t.slew = 0) ∧
    (-1000000 ≤ offset → offset ≤ 1000000000 → t.lampTime = s.lampTime ∧ t.slew = -offset) ∧
    onF t Reg.LAMP_TIME_CTL_SYNCED 0 = decide (offset.natAbs ≤ 50)) ∧
  (∀ (k : LinkId) (p n hops : Nat) (s : State), Phase.sync ≤ phase s k → hops < 16 → Gives (.announce k p n hops) s fun t =>
    (getLink t k).ann = some ⟨p, n, hops⟩ ∧ t.lampTime = s.lampTime ∧ t.mem = s.mem) ∧
  (∀ s : State, onF (chooseSource s) Reg.LAMP_TIME_CTL_SOURCE 0 = (bestSource s).link.isNone ∧
    (ownSource s).before (bestSource s) = false ∧ ∀ c ∈ heardSources s, c.before (bestSource s) = false) ∧
  (∀ s : State, (timePath s = none → exec .timeSourceLoss s = .next s) ∧
    ∀ k, timePath s = some k → exec .timeSourceLoss s = .next (chooseSource (modLink s k (fun x => { x with ann := none })))) ∧
  (∀ (k : LinkId) (s : State), Phase.sync ≤ phase s k → exec (.pdelayTimer k) s = .next (linkSend s k (openMsg s k 0x04)))) ∧
  (∀ (k : LinkId) (s : State),
    (∀ (fr : List Byte) (bad : Bool), fr.length ≠ 336 → exec (.linkFrame k fr bad) s = .fault (.illFormed "LINK_FRAME")) ∧
    (∀ fr : List Byte, fr.length = 336 → Phase.negotiate ≤ phase s k → leAt fr 328 4 = crc32c (fr.take 328) →
      leAt fr 0 2 = (getLink s k).rxSeq →
      let u := takeAck (setLink s k { getLink s k with rxSeq := ((getLink s k).rxSeq + 1) % 65536, nak := false }) k (leAt fr 2 2)
      exec (.linkFrame k fr false) s = .next (if leAt fr 4 1 % 2 = 1 then takeNak u k else u)) ∧
    (∀ fr : List Byte, fr.length = 336 → Phase.negotiate ≤ phase s k →
      leAt fr 328 4 ≠ crc32c (fr.take 328) ∨ leAt fr 0 2 ≠ (getLink s k).rxSeq →
      exec (.linkFrame k fr false) s = .next (if (getLink s k).nak = true then s
        else sendFrame (setLink s k { getLink s k with nak := true }) k 1 [])) ∧
    (∀ (f : Flit) (c : CoreRef), phase s k = Phase.up → onF s Reg.LNK_SPLIT_CTL_SPLIT_EN k = true →
      splitCore s f (getF s Reg.LNK_SPLIT_CTL_SPLIT_FORME k) = some c →
      Gives (.splitPacket k f) s fun t => t = { s with fabric := t.fabric } ∧ ∃ x, t.fabric = s.fabric ++ [x] ∧
        x.flit.payload = f.payload ∧ x.flit.stamp = f.stamp ∧ x.flit.route.toNat % 2 ^ 21 = c.row.val * 2 ^ 11 + c.lcol.val) ∧
    (∀ n, agedAt s (getLink s k).retrainAt 250000000 = false → exec (.lnkDown k n) s = .next s) ∧
    (agedAt s (getLink s k).downAt 2000000000 = false → exec (.peerLost k) s = .next s) ∧
    (agedAt s (getLink s k).retrainAt 250000000 = true → s.loads = [] → onF s Reg.LNK_SPLIT_CTL_SPLIT_EN k = false →
      ∀ n, Gives (.lnkDown k n) s fun t => phase t k = Phase.down ∧ (getLink t k).replay = [] ∧ (getLink t k).retrainAt = none ∧
        (getLink t k).ann = none ∧ (getLink t k).good = (getLink s k).good ∧ t.serve = s.serve) ∧
    (agedAt s (getLink s k).retrainAt 250000000 = true → onF s Reg.LNK_SPLIT_CTL_SPLIT_EN k = true → ∀ n, ∃ t, exec (.lnkDown k n) s = .next t) ∧
    (agedAt s (getLink s k).downAt 2000000000 = true → exec (.peerLost k) s = .next (checkRecoveries 64 (modLink
      (((s.serve.streams.filter (fun e => e.2.live && e.2.forme == getF s Reg.LNK_SPLIT_CTL_SPLIT_FORME k)).map (·.1)).foldl
        (fun s e => endStream s e Sts.PEER_LOST 5 0) s) k (fun x => { x with downAt := none })))) ∧
    (phase s k ≠ Phase.up → (∀ data, exec (.mirror k data) s = .next s) ∧ ∀ h, exec (.handover k h) s = .next s) ∧
    (phase s k = Phase.up →
      let got := fun (n : Nat) (data : List Byte) => { s with partner := { s.partner with received := s.partner.received ++ [(n, data)] } }
      (∀ data, exec (.mirror k data) s = .next (got 0x20 data)) ∧
      (∀ h, exec (.handover k (.stream h)) s = .next (adoptStream (got 0x21 h.record) h)) ∧
      (∀ h, exec (.handover k (.conv h)) s = .next (adoptConv s h)) ∧
      (∀ h : HandedQueue, Gives (.handover k (.queue h)) s fun t => t.mem = s.mem ∧ t.serve.streams = s.serve.streams ∧
        (getQ t h.queue).sqHead = h.sqHead ∧ (getQ t h.queue).sqTail = h.sqTail ∧ (getQ t h.queue).rqHead = h.rqHead ∧
        (getQ t h.queue).rqTail = h.rqTail ∧ (getQ t h.queue).phase = h.phase ∧ ∀ q, q ≠ h.queue → getQ t q = getQ s q)))

/-- The mailbox (R541, R554). A message sent while none waits is answered at once where its group runs and the last
reply is freed: the reply's first word holds the kind and the status, VALID is set and BUSY is clear; else it waits. A
query of a stream that does not exist answers NOT_FOUND, and a VERSION message without the module's API major (its
place is the model's choice, log entry 84) VERSION_UNSUPPORTED. ACK frees the reply, and a message that waits is
answered. Keeper groups (R400 to R404, R468, R469, R482, R553). A lost vote is recorded and counted; a core's third
within 24 hours fences it and leaves a pair; a pair's disagreement is a split, and so is a watchdog or a lockup. A
split group rebuilds, and of groups 0 and 1 every live stream holds; a second split within 60 s is KPR_DOUBLE. A
booted or a rebuilt group serves again. Contracted minutes of live streams are counted, and the faulted ones (R404).
-/
def Obligations.KeepersAndMailbox : Prop :=
  (∀ (g : GroupId) (s : State), answers s (2048 + g.val) = true →
    (onF s Reg.KMB_IN_CTL_BUSY g = false → ∀ p ∈ [(Instr.kmbVersion g, 1), (.groupState g, 2), (.streamQuery g, 3)],
      (groupUp s g = true → onF s Reg.KMB_OUT_STAT_VALID g = false → getF s Reg.KMB_IN_CTL_LEN g ≠ 0 → Gives p.1 s fun t =>
        getF t Reg.KMB_OUT_DATA g 0 = p.2 + 65536 * (if p.2 = 3 ∧ (s.serve.streams.find? (fun e =>
          e.2.req == some (getF s Reg.KMB_IN_DATA g 1))) = none then Sts.NOT_FOUND
          else if p.2 = 1 ∧ 2 ≤ getF s Reg.KMB_IN_CTL_LEN g ∧ getF s Reg.KMB_IN_DATA g 0 / 256 % 256 ≠ 1 then Sts.VERSION_UNSUPPORTED
          else Sts.OK) ∧
        onF t Reg.KMB_OUT_STAT_VALID g = true ∧ onF t Reg.KMB_IN_CTL_BUSY g = false ∧ t.serve = s.serve ∧ t.mem = s.mem) ∧
      (groupUp s g = false ∨ onF s Reg.KMB_OUT_STAT_VALID g = true → Gives p.1 s fun t => onF t Reg.KMB_IN_CTL_BUSY g = true ∧
        RegsOnly s t [Reg.KMB_IN_CTL_BUSY.key g 0, Reg.KMB_IN_DATA.key g 0])) ∧
    (onF s Reg.KMB_IN_CTL_BUSY g = true → ∀ c ∈ [Instr.kmbVersion g, .groupState g, .streamQuery g], exec c s = .next s) ∧
    exec (.ack g) s = .next (kmbServe (setF s Reg.KMB_OUT_STAT_VALID 0 g) g) ∧
    (onF s Reg.KMB_IN_CTL_BUSY g = false → Gives (.ack g) s fun t => onF t Reg.KMB_OUT_STAT_VALID g = false ∧
      RegsOnly s t [Reg.KMB_OUT_STAT_VALID.key g 0])) ∧
  (∀ (g : GroupId) (s : State),
    (∀ core : Fin 3, kprState s g = 2 →
      let l := s.keepers.minor.filter (fun x => decide (s.lampTime < x.2.2 + 86400000000000)) ++ [(g.val, core.val, s.lampTime)]
      Gives (.kprVoteMinority g core) s fun t => t.keepers.minor = l ∧
        getF t Reg.ERR_KPR_MINORITY 0 = min (getF s Reg.ERR_KPR_MINORITY 0 + 1) (2 ^ 32 - 1) ∧
        (if 3 ≤ l.countP (fun x => x.1 == g.val && x.2.1 == core.val) then kprState t g = 3 ∧
          getF t Reg.KPR_FENCED 0 g = (getF s Reg.KPR_FENCED 0 g ||| 2 ^ core.val) % 8 else kprState t g = 2)) ∧
    (∀ core : Fin 3, kprState s g = 3 → exec (.kprVoteMinority g core) s =
      .next (splitGroup (logFault s (blockItem Err.KPR_VOTE_SPLIT (kprIdent g) [g.val])) g)) ∧
    (groupUp s g = true →
      exec (.kprVoteSplit g) s = .next (splitGroup (logFault s (blockItem Err.KPR_VOTE_SPLIT (kprIdent g) [g.val])) g) ∧
      exec (.rstWatchdog g) s = .next (resetGroup (logFault (addF s Reg.KPR_WDOG_MISSES 1 0)
        (blockItem Err.RST_WATCHDOG (identOf 0x03 0) [g.val])) g 3) ∧
      exec (.rstLockup g) s = .next (resetGroup (logFault s (blockItem Err.RST_LOCKUP (identOf 0x03 0) [1, g.val])) g 7)) ∧
    ((∀ x ∈ s.keepers.splits, x.2 + 60000000000 ≤ s.lampTime) →
      let t := splitGroup s g
      kprState t g = 4 ∧ t.keepers.splits = [(g.val, s.lampTime)] ∧ t.faults.log = s.faults.log ∧ t.mem = s.mem ∧
      (g.val < 2 → ∀ e x, (e, x) ∈ t.serve.streams → x.live = true → x.holdRecovery = true)) ∧
    (∀ x ∈ s.keepers.splits, s.lampTime < x.2 + 60000000000 →
      let recent := s.keepers.splits.filter (fun x => decide (s.lampTime < x.2 + 60000000000))
      splitGroup s g = fatalModule (rebuildGroup { s with keepers := { s.keepers with splits := recent ++ [(g.val, s.lampTime)] } } g)
        (blockItem Err.KPR_DOUBLE (kprIdent g) [((((recent.map (·.1)) ++ [g.val]).dedup).map (2 ^ ·)).sum]) 3) ∧
    (kprState s g = 1 →
      let u := setF (setKpr s g (kprServing s g)) Reg.KPR_FW_VER (Config.firmwareVersion 1 % 2 ^ 32) 0
      exec (.keeperBooted g) s = .next (kmbServe (retryHeld (if g.val = 0 then setF (setF u Reg.KPR_KAPI_MAJOR 1 0) Reg.KPR_KAPI_MINOR 0 0 else u)) g)) ∧
    (kprState s g = 4 →
      let u := setKpr s g (kprServing s g)
      exec (.keeperRebuilt g) s = .next (kmbServe (retryHeld (releaseAll (if g.val = 0 then flushGroupHeld (rewriteLast u) else u))) g)) ∧
    (let mine := s.serve.streams.filter (fun e => e.2.live && e.2.mooring != 0);
      Gives .streamMinute s fun t =>
        getF t Reg.ERR_STREAM_MIN 0 = min (getF s Reg.ERR_STREAM_MIN 0 + mine.length) (2 ^ Reg.ERR_STREAM_MIN.width - 1) ∧
        getF t Reg.ERR_FAULT_MIN 0 = min (getF s Reg.ERR_FAULT_MIN 0 + mine.countP (fun e => e.2.minuteFault)) (2 ^ Reg.ERR_FAULT_MIN.width - 1) ∧
        (∀ e x, getSt s e = some x → getSt t e = some { x with minuteFault := false }) ∧ t.mem = s.mem))

/-- The management endpoint (R410, R517 to R521, R523, R556). On a bus that serves, a message is counted and answered:
the EID assigned, a sensor's value, the oldest event, the serial, grade and stepping, a register's value after status
0, a record of the fault log, a usage record; firmware that verifies is staged; SHUTDOWN and MODULE_RESET begin. On a
bus that does not serve nothing happens. A shorted bus is ignored; a stuck THERMTRIP_N is released. -/
def Obligations.ManagementMessages : Prop :=
  ∀ (b : Fin 2) (s : State),
    let u := addF s Reg.MGT_MESSAGES 1 0
    (busOk s b = true →
      (∀ eid, Gives (.mctpControl b eid) s fun t =>
        getF t (if b.val = 0 then Reg.MGT_EID_EID_I3C else Reg.MGT_EID_EID_SMB) 0 = eid % 256 ∧
        ∃ x, t.io.mgmtOut = s.io.mgmtOut ++ [(b.val, [x])]) ∧
      (∀ cmd, Gives (.pldmBase b cmd) s fun t => (∃ x, t.io.mgmtOut = s.io.mgmtOut ++ [(b.val, [x])]) ∧ t.regs = u.regs) ∧
      (∀ arg, Gives (.pldmMonitoring b 0x04 arg) s fun t => t.mgmt.receiver = decide (arg ≠ 0)) ∧
      (∀ arg, exec (.pldmMonitoring b 0x0B arg) s = .next (readEvent u b)) ∧
      (∀ i v, numericSensor u i = some v → exec (.pldmMonitoring b 0x11 i) s = .next (reply u b (leBytes 4 v))) ∧
      (∀ i v, stateSensor u i = some v → exec (.pldmMonitoring b 0x21 i) s = .next (reply u b (leBytes 1 v))) ∧
      (exec (.pldmFru b) s = .next (reply u b ((List.range 4).flatMap (fun k => leBytes 4 (getF u Reg.SYS_SERIAL 0 k)) ++
        orderingCode (getF u Reg.SYS_GRADE 0) ++ leBytes 1 (getF u Reg.SYS_GRADE 0) ++ leBytes 1 (getF u Reg.SYS_STEPPING 0)))) ∧
      (∀ addr, exec (.readReg b addr) s = .next (reply (readResult (readWord u .management addr).2 .management
        (readWord u .management addr).1) b (0 :: leBytes 4 (readWord u .management addr).1))) ∧
      (∀ addr, lampAnswers addr = false → exec (.readRegTimeout b addr) s = .next (reply u b [1])) ∧
      (∀ i r, s.faults.log[i]? = some r → exec (.readFaultLog b i) s = .next (reply u b (recordBytes r))) ∧
      (∀ n r, s.tele.store.find? (fun r => r.seq == n) = some r → exec (.readUsage b n) s = .next (reply u b r.bytes)) ∧
      exec .shutdown s = .next (shutdownSeq u 4) ∧ (∀ f, exec (.moduleReset f) s = .next (swReset u f)) ∧
      (∀ c img, c < 4 → Gives (.pldmFirmwareUpdate c img true) s fun t =>
        (∀ x, (c, x) ∈ t.mgmt.staged ↔ x = img) ∧ (∀ d x, d ≠ c → ((d, x) ∈ t.mgmt.staged ↔ (d, x) ∈ s.mgmt.staged)) ∧
        exec (.pldmFirmwareUpdate c img false) s = .next u)) ∧
    (busOk s 0 = true → ∀ a, ∀ c ∈ [Instr.setdasa a, .entdaa a], exec c s = .next { s with mgmt := { s.mgmt with dynAddr := a % 128 } }) ∧
    (busOk s b = false → ∀ x y, ∀ c ∈ [Instr.mctpControl b x, .pldmBase b x, .pldmMonitoring b x y, .pldmFru b, .readReg b x,
      .readRegTimeout b x, .readFaultLog b x, .readUsage b x], exec c s = .next s) ∧
    (Gives (.mgtBusShort b) s fun t => busOk t b = false ∧ (b.val, s.lampTime) ∈ t.mgmt.ignored ∧ t.mem.store = s.mem.store ∧
      ((∃ x ∈ s.mgmt.ignored, x.1 = b.val) → t.faults = s.faults)) ∧
    (∀ p : Fin 3, (p.val = 0 → agedAt s s.pins.lowSince 10000000000 = true) → Gives (.mgtPinStuck p) s fun t =>
      (p.val = 1 → t.pins.thermtripN = true) ∧ (p.val = 2 → (suppressed s (blockItem Err.MGT_PIN_STUCK (identOf 0x12 0) [3]) = true →
        t.pins.alertN = true)) ∧ t.mem.store = s.mem.store ∧ t.serve = s.serve) ∧
    (agedAt s s.pins.lowSince 10000000000 = false → exec (.mgtPinStuck 0) s = .next s)

/-- Memory stacks (R406, R511 to R516). A trained stack with profile major 1 is READY, with another it fails; a stack
that fails, by errors only after more than 16 poisoned words within 1 s, is FAILED and recorded, and the second down
of a parity group breaks the repair budget. A retraining, due 10 s after a failure or at once after a reset, starts
the rebuild where it succeeds; the third that fails leaves the stack FAILED for good. A rebuild that is done leaves it
READY with every stripe rebuilt. Host ports and the end of a handover (R408, R482, R491 to R495, R498). A port that
trains carries its queues, each by its home port, else the next one up in rising order; records owed go out. A link
that goes down is recorded and its queues fail over; with no port up every live stream holds. A handover ends with the
galleys, conversations and replay records sent and the host links dropped. -/
def Obligations.StacksAndPorts : Prop :=
  (∀ (n : StackId) (s : State),
    (stkState s n = 1 →
      (∀ minor ident, exec (.stackTrained n 1 minor ident) s = .next (retryHeld (setStkState
        (setF (setF s Reg.STK_STAT_PROF_MAJOR 1 n) Reg.STK_STAT_PROF_MINOR minor n) n 2))) ∧
      (∀ major minor ident, major ≠ 1 → exec (.stackTrained n major minor ident) s = .next (retryHeld (failStack
        (logFault s (blockItem Err.STK_PROFILE (identOf 0x23 n) [n.val, ident % 2 ^ 32])) n 2)))) ∧
    (stkState s n ∈ [1, 2, 4, 5] → stackWorn s n = false → exec (.stkFailed n 3) s = .next s) ∧
    (∀ cause, cause ≠ 2 → (cause = 3 → stackWorn s n = true) → stkState s n ∈ [1, 2, 4, 5] → exec (.stkFailed n cause) s = .next (retryHeld (failStack s n cause))) ∧
    (∀ cause, (∀ m < 32, m ≠ n.val → m % 4 = n.val % 4 → stkState s m ≠ 3 ∧ stkState s m ≠ 4) →
      let t := failStack s n cause
      stkState t n = 3 ∧ getF t Reg.STK_FAILS n = min (getF s Reg.STK_FAILS n + 1) (2 ^ 16 - 1) ∧ t.mem.stack = s.mem.stack ∧
      t.serve = s.serve ∧ getStk t n = { getStk s n with failedAt := s.lampTime, cause := cause }) ∧
    (∀ cause m, m < 32 → m ≠ n.val → m % 4 = n.val % 4 → stkState s m = 3 ∨ stkState s m = 4 →
      failStack s n cause = repairBudget (logFault (setStk (setStkState (addF s Reg.STK_FAILS 1 n) n 3) n
        { getStk s n with failedAt := s.lampTime, cause := cause })
        (blockItem Err.STK_FAILED (identOf 0x23 n) [n.val, cause]))) ∧
    (retrainDue s n = false → ∀ ok, exec (.stackRetrain n ok) s = .next s) ∧
    (retrainDue s n = true →
      (Gives (.stackRetrain n true) s fun t => stkState t n = 4 ∧ getF t Reg.STK_REBUILT n = 0 ∧ getStk t n = ⟨0, s.lampTime, (getStk s n).failedAt, (getStk s n).cause, [], 0⟩ ∧
        t.mem = s.mem) ∧
      (Gives (.stackRetrain n false) s fun t => getStk t n = { getStk s n with retrains := (getStk s n).retrains + 1, failedAt := s.lampTime } ∧ stkState t n = 3 ∧ t.mem = s.mem ∧
        (onF t Reg.STK_STAT_FAILED_PERM n = true ↔ 3 ≤ (getStk s n).retrains + 1))) ∧
    (stkState s n = 4 → getF s Reg.STK_CTL_REBUILD_SHARE n ≠ 0 → Gives (.stkRebuilt n) s fun t => stkState t n = 2 ∧
      getF t Reg.STK_REBUILT n = 23437500 ∧ t.mem.stack = s.mem.stack) ∧
    (stkState s n = 4 → getF s Reg.STK_CTL_REBUILD_SHARE n = 0 → exec (.stkRebuilt n) s = .next s)) ∧
  ((∀ (s : State) (q p : Nat), portFor s q = some p → p < 4 ∧ onF s Reg.HST_PORT_STAT_UP p = true ∧
    ∃ i < 4, p = (q + i) % 4 ∧ ∀ j < i, onF s Reg.HST_PORT_STAT_UP ((q + j) % 4) = false) ∧
  (∀ (h : PortId) (w v : Nat) (cxl : Bool) (s : State), portReleased s h = true → s.pins.surpriseDown = false →
    let u := setF (setF (setF s Reg.HST_PORT_STAT_UP 1 h) Reg.HST_PORT_STAT_WIDTH w h) Reg.HST_PORT_STAT_SPEED v h
    let u := flagF (flagF u Reg.HST_PORT_STAT_FLIT (v == 6) h) Reg.HST_PORT_STAT_CXL (cxl && decide (h.val < 2)) h
    let r := if (portFor s h).isNone then portsBack s u h else routeQueues u
    let x := (r.serve.queues.map (·.1)).foldl (fun s q => settleRing (drainRing s q) q) r
    exec (.hostLinkUp h w v cxl) s = .next (if cxlUp x = true then scrubT2 x else x)) ∧
  (∀ (h : PortId) (s : State), onF s Reg.HST_PORT_STAT_UP h = true →
    exec (.hstLinkDown h) s = .next (portDown (logFault s (blockItem Err.HST_LINK_DOWN (identOf 0x0B h) [h.val])) h)) ∧
  (∀ (h : PortId) (s : State), onF s Reg.HST_PORT_STAT_UP h = true →
    let t := portDown s h
    onF t Reg.HST_PORT_STAT_UP h = false ∧ t.mem.store = s.mem.store ∧ t.mem.stack = s.mem.stack ∧
    ((∀ p < 4, p ≠ h.val → onF s Reg.HST_PORT_STAT_UP p = false) →
      ∀ e x, (e, x) ∈ t.serve.streams → x.live = true → x.holdRing = true)) ∧
  (∀ s : State, (s.partner.sending = none → exec .handoverComplete s = .next s) ∧
    ∀ cause, s.partner.sending = some cause →
      let u := sendGalleys s
      let v := u.serve.convs.foldl handConv u
      let w := (openStreams v).foldl handStream v
      let x := surpriseDown { w with partner := { w.partner with sending := none } }
      exec .handoverComplete s = .next (if cause = 5 then moduleReset x 4 else if cause = 1 then stopShutdown x else x)))

/-- Chase clock, sense and overcurrent (R200, R416 to R422). The setpoint lies between 550 and 900 mV and the limit is
never below 600 MHz; a clock step of 25 MHz stays within 600 MHz and the limit and takes its setpoint with it, and
nothing else changes. An open sense point is excluded and recorded; a warning lowers the chase's own limit by 100 MHz;
limits return by 25 MHz; a hint of a running schedule reaches the regulator with the level of all that fall in its
cycle. Core rails (R399, R414, R415, R423 to R430). A rail that opens stands at no voltage and 600 MHz and its chase's
store is lost, every other chase's is kept. A switch-on ramps, and stands at 600 MHz after 64 µs, where no neighbour
is above 221 A and no chase of the group ramps, else it is deferred and checked again, after 50 ms with a record and
the neighbours' limits lowered. A rail fault trips the rail; a chase is tried again, and a parked one unparked, by a
switch-on and a whole self-test, once no packet is inside it. A bus converter lost is recorded, below four the group's
clocks are held. A lost transit takes its chase out of use. -/
def Obligations.ClocksAndRails : Prop :=
  (∀ (n : ChaseId) (s : State),
    (∀ f, 550 ≤ setpointMv s n f ∧ setpointMv s n f ≤ 900) ∧ 600 ≤ limitOf s n ∧
    (railOn s n = true →
      (∀ f, let t := setClock s n f
        getF t Reg.CPW_CLK_NOW n = f % 2048 ∧ getF t Reg.CPW_VSET n = setpointMv s n f ∧
        RegsOnly s t [Reg.CPW_CLK_NOW.key n 0, Reg.CPW_VSET.key n 0]) ∧
      (∀ up : Bool,
        let f := if up then getF s Reg.CPW_CLK_NOW n + 25 else getF s Reg.CPW_CLK_NOW n - 25
        ((if up then f ≤ getF s Reg.CPW_CLK_LIMIT n else 625 ≤ getF s Reg.CPW_CLK_NOW n) →
          exec (.clockChange n up) s = .next (setClock s n f)) ∧
        ((if up then getF s Reg.CPW_CLK_LIMIT n < f else getF s Reg.CPW_CLK_NOW n < 625) →
          exec (.clockChange n up) s = .next s))) ∧
    (∀ p : Fin 4, let ok := getF s Reg.CPW_STATE_SENSE_OK n
      ok / 2 ^ p.val % 2 = 1 →
      let u := resense (setF s Reg.CPW_STATE_SENSE_OK (ok - 2 ^ p.val) n) n
      exec (.pwrSenseOpen n p) s = .next (logFault u (railItem Err.PWR_SENSE_OPEN n [getF u Reg.CPW_STATE_SENSE_OK n, p.val]))) ∧
    (∀ i x, (getChase s n).hints[i]? = some x → (schedules s n = false ∨ hintDue s n x.1 = false → exec (.hint n i) s = .next s) ∧
      (schedules s n = true → hintDue s n x.1 = true → exec (.hint n i) s = .next (modChase (addF s Reg.CPW_HINTS 1 n) n
        (fun ch => { ch with hintLevel := levelDue s n })))) ∧
    (∀ cur, railOn s n = true → 2600 < cur →
      let u := addF s Reg.CPW_OC_CNT_OC_WARN 1 n
      let v := demand u n (fun ch => { ch with limOc := max 600 (getF s Reg.CPW_CLK_LIMIT n - 100) })
      exec (.pwrOcWarn n cur) s = .next (logFault v (railItem Err.PWR_OC_WARN n [cur, getF v Reg.CPW_CLK_LIMIT n]))) ∧
    (getF s Reg.CPW_I_CORE_PEAK n ≤ 2210 →
      let waits := (neighbours n).any (fun x => onF s Reg.CPW_STATE_DEFERRED x.2)
      exec (.ocLimitReturn n) s = .next (demand s n (fun ch => { ch with
        limOc := min 1400 (ch.limOc + 25)
        limNbr := if waits then ch.limNbr else min 1400 (ch.limNbr + 25) })))) ∧
  (∀ (n : ChaseId) (s : State),
    (∀ st, st < 5 → let t := railDown s n st
      rail t n = st ∧ getF t Reg.CPW_CLK_NOW n = 600 ∧ getF t Reg.CPW_VSET n = 0 ∧ t.mem.stack = s.mem.stack ∧ t.mem.host = s.mem.host ∧
      ∀ a, memRead t.mem.store a = if keyChase (a / coreBytes) = n then 0 else memRead s.mem.store a) ∧
    (rail s n = Rail.off → chaseBeacon s n = Beacon.lit → 0 < widthOf s n → Gives (.switchOn n) s fun t =>
      (hotNeighbours s n = [] → groupRamps s n = false → rail t n = Rail.ramping ∧ onF t Reg.CPW_STATE_DEFERRED n = false ∧
        (getChase t n).rampAt = s.lampTime ∧ t.mem = s.mem) ∧
      (hotNeighbours s n ≠ [] ∨ groupRamps s n = true → rail t n = Rail.off ∧ onF t Reg.CPW_STATE_DEFERRED n = true ∧
        RegsOnly { s with chases := t.chases } t [Reg.CPW_STATE_DEFERRED.key n 0])) ∧
    (rail s n = Rail.ramping → (getChase s n).rampAt + 64000 ≤ s.lampTime → rail (rampsEnd s) n = Rail.on ∧
      getF (rampsEnd s) Reg.CPW_CLK_NOW n = 600) ∧
    (onF s Reg.CPW_STATE_DEFERRED n = true →
      let u := tryOn s n
      exec (.switchOnRecheck n) s = .next (if onF u Reg.CPW_STATE_DEFERRED n = true ∧ 50 < waited u n then lowerNeighbours u n else u) ∧
      (50 ≤ waited s n → exec (.pwrSwitchDeferred n) s = .next (lowerNeighbours (logFault s (railItem Err.PWR_SWITCH_DEFERRED n
        [waited s n, ((hotNeighbours s n).map (fun x => 2 ^ x.1)).sum])) n))) ∧
    (∀ cause cur, railOn s n = true → exec (.pwrRailFault n cause cur) s = .next (railFault s n cause cur)) ∧
    (∀ rs, chaseBeacon s n = Beacon.occulting → onF s Reg.CPW_STATE_PARKED n = false → chaseClaimed s n = false →
      rail s n = Rail.tripped ∨ railOn s n = true →
      (∀ t, (getChase s n).railFaultAt = some t → t + 1000000000 ≤ s.lampTime) →
      let u := if railOn s n then s else tryOn s n
      exec (.railRetry n rs) s = .next (if railOn u n && fabricClear u [] [n.val] then finishSelfTest u n rs else u)) ∧
    (∀ rs, onF s Reg.CPW_STATE_PARKED n = true →
      let u := if railOn s n then s else tryOn s n
      exec (.unpark n rs) s = .next (if railOn u n && fabricClear u [] [n.val] then logFault (finishSelfTest (setF u Reg.CPW_STATE_PARKED 0 n) n rs)
        (railItem Err.PWR_PARK n [2]) else u)) ∧
    (∀ conv : Fin 40, getF s Reg.PWR_BUS_OK 0 / 2 ^ conv.val % 2 = 1 →
      let u := logFault (setF s Reg.PWR_BUS_OK (getF s Reg.PWR_BUS_OK 0 - 2 ^ conv.val) 0)
        (blockItem Err.PWR_BUS_DEGRADED (identOf 0x05 0) [conv.val, conv.val / 5])
      (4 ≤ busWorking u (conv.val / 5) → exec (.pwrBusDegraded conv) s = .next u) ∧ ∃ t, exec (.pwrBusDegraded conv) s = .next t) ∧
    (∀ cause, (getChase s n).transitOk = true → (getChase s n).pllOk = true →
      exec (.fabTransitLost n cause) s = .next (transitLost s n cause)))

/-- Banks, the current latch and retention (R431 to R437, R439). A bank that no region has used for a second is closed
and 64 cycles later gated, its words lost; opened again, over 256 cycles, it reads zeros. A latch counts its
millisecond and shows the readings, each at most its field's largest value. A request for retention is granted where
nothing runs that prevents it, else REFUSED; the exit begins from RETAINED, or from FORCED with the coolant in
specification, and its sixteenth wave ends it. -/
def Obligations.BanksLatchRetention : Prop :=
  (∀ (n : ChaseId) (b : Fin 36) (s : State),
    (bankUsed s n b = false → kget? (getChase s n).banks b = none → railOn s n = true →
      (s.lampTime < (getChase s n).vacatedAt + 1000000000 → exec (.bankGate n b) s = .next s) ∧
      ((getChase s n).vacatedAt + 1000000000 ≤ s.lampTime → exec (.bankGate n b) s =
      .next (refuseWrites (modChase s n (fun ch => { ch with banks := kset ch.banks b (.closing ch.clk) })) n
        (fun w => inBank b w.addr && !w.counted)))) ∧
    (∀ c, kget? (getChase s n).banks b = some (.closing c) → ((getChase s n).clk < c + 64 → exec (.bankGated n b) s = .next s) ∧
      (c + 64 ≤ (getChase s n).clk → Gives (.bankGated n b) s fun t =>
      kget? (getChase t n).banks b = some .gated ∧
      (∀ a, keyChase (a / coreBytes) = n.val → inBank b (a % coreBytes) = true → memRead t.mem.store a = 0) ∧
      (∀ a, keyChase (a / coreBytes) ≠ n.val ∨ inBank b (a % coreBytes) = false → memRead t.mem.store a = memRead s.mem.store a))) ∧
    (kget? (getChase s n).banks b = some .gated → exec (.bankOpen n b) s = .next (modChase s n (fun ch =>
      { ch with banks := kset ch.banks b (.opening ch.clk) }))) ∧
    (∀ c, kget? (getChase s n).banks b = some (.opening c) → c + 256 ≤ (getChase s n).clk → let t := openBank s n b
      kget? (getChase t n).banks b = none ∧ kget? (getChase (banksOpen s n) n).banks b = none ∧
      (∀ a, keyChase (a / coreBytes) = n.val → inBank b (a % coreBytes) = true → memRead t.mem.store a = 0) ∧
      (∀ a, keyChase (a / coreBytes) ≠ n.val ∨ inBank b (a % coreBytes) = false → memRead t.mem.store a = memRead s.mem.store a))) ∧
  (∀ (r : CurrentReading) (s : State), Gives (.currentLatch r) s fun t =>
    getF t Reg.PWR_MS_SEQ 0 = (getF s Reg.PWR_MS_SEQ 0 + 1) % 2 ^ 32 ∧ getF t Reg.PWR_INPUT_V 0 = min r.inputMv 65535 ∧
    getF t Reg.PWR_MODULE_P 0 = min r.moduleW 65535 ∧
    (∀ n < 256, getF t Reg.CPW_I_CORE_AVG n = min (r.coreAvg.getD n 0) 4095 ∧ getF t Reg.CPW_I_CORE_PEAK n = min (r.corePeak.getD n 0) 4095) ∧
    t = { s with regs := t.regs, free := t.free }) ∧
  (∀ s : State, answers s 4 = true →
    (retentionOk s = true → Gives .retentionRequest s fun t => getF t Reg.PWR_RETAIN_STAT_STATE 0 = 2) ∧
    (retentionOk s = false → getF s Reg.PWR_RETAIN_STAT_STATE 0 = 0 → Gives .retentionRequest s fun t =>
      getF t Reg.PWR_RETAIN_STAT_REFUSED 0 = 1 ∧ RegsOnly s t [Reg.PWR_RETAIN_CTL_REQ.key 0 0, Reg.PWR_RETAIN_STAT_REFUSED.key 0 0]) ∧
    (getF s Reg.PWR_RETAIN_STAT_STATE 0 = 2 ∨ (getF s Reg.PWR_RETAIN_STAT_STATE 0 = 4 ∧ onF s Reg.CLT_STAT_IN_SPEC 0 = true) →
      Gives (.retentionExit true) s fun t => getF t Reg.PWR_RETAIN_STAT_STATE 0 = 3 ∧ getF t Reg.PWR_RETAIN_CTL_REQ 0 = 0 ∧
        t.power.wave = 0 ∧ t.mem = s.mem)) ∧
  (∀ (e : Nat) (x : Stream) (s : State), getF s Reg.PWR_RETAIN_STAT_STATE 0 = 2 → (e, x) ∈ s.serve.streams → x.state = 0 →
    Gives (.retentionExit false) s fun t => getF t Reg.PWR_RETAIN_STAT_STATE 0 = 3 ∧ t.power.wave = 0 ∧ t.mem = s.mem) ∧
  (∀ s : State, getF s Reg.PWR_RETAIN_STAT_STATE 0 = 3 → Gives .retentionWave s fun t =>
    (s.power.wave < 15 → t.power.wave = s.power.wave + 1 ∧ t.mem = s.mem) ∧
    (15 ≤ s.power.wave → getF t Reg.PWR_RETAIN_STAT_STATE 0 = 0)) ∧
  (∀ s : State, getF (forceRetention s) Reg.PWR_RETAIN_STAT_STATE 0 = 4)

/-- Sensor pairs (R444 to R446, R454). A pair that agrees uses the higher reading, and its sample changes nothing
else. 20 samples more than 20 °C apart make a pair SUSPECT; a pair with one failed sensor uses the other; a pair with
both failed stays so. The second sample of a pair at 105 °C trips the module, once. The tray and sudden stops (R448,
R449, R455, R522). A reading of all three devices is taken; one that lacks a device, or a shorted tray bus, leaves the
flow unknown and the coolant out of specification. A short isolates the bus until a probe finds it gone. A stop sets
STOPPED, forces retention and hands over; 2 s of it end in the shutdown sequence. -/
def Obligations.SensorsAndTray : Prop :=
  ((∀ rs s, ∃ t, exec (.sensorSample rs) s = .next t) ∧
  (∀ (i : Nat) (a b : Int) (s : State), i < 256 → (getPair s i).st = .agree → (a - b).natAbs ≤ 64 → max a b < 1680 →
    Gives (.sensorSample [⟨i, a, b⟩]) s fun t =>
      (getPair t i).st = .agree ∧ usedOf t i = max a b ∧ (getPair t i).a = a ∧ (getPair t i).b = b ∧
      t = { s with pairs := t.pairs } ∧ AgreeBut s.pairs t.pairs [i]) ∧
  (∀ p : Pair,
    (p.st = .agree ∨ p.st = .flagged ∨ p.st = .oneFailed → 20 ≤ p.far → p.moved.st = .suspect ∧ p.moved.used = p.used) ∧
    (p.st = .agree → p.far < 20 → 200 ≤ p.apart → p.moved.st = .flagged ∧ p.moved.used = max p.a p.b) ∧
    (p.st = .flagged → p.far < 20 → 200000 ≤ p.apart → p.moved.st = .oneFailed ∧
      (p.failedA = false → p.failedB = false → p.moved.used = max p.a p.b)) ∧
    (p.st = .oneFailed → p.far < 20 → p.moved.used = if p.failedA then p.b else p.a) ∧
    (p.st = .bothFailed → p.moved.st = .bothFailed ∧ p.moved.failedA = true ∧ p.moved.failedB = true)) ∧
  (∀ (i : Nat) (s : State), 1680 ≤ (getPair s i).used → 1 ≤ (getPair s i).hot →
    let u := setPair s i { getPair s i with hot := min ((getPair s i).hot + 1) 2 }
    tripPair s i = if s.power.shut then u else thermalTrip u i (getPair s i).used)) ∧
  ((∀ (sup ret : Int) (flow : Nat) (s : State), onF s Reg.MGT_BUS_STAT_TRAY_ISOLATED 0 = false →
    exec (.trayRead ⟨some sup, some ret, some flow⟩) s = .next (trayStep s sup ret flow)) ∧
  (∀ (x : TrayReading) (s : State), onF s Reg.MGT_BUS_STAT_TRAY_ISOLATED 0 = false → x.supply = none ∨ x.return_ = none ∨ x.flow = none →
    Gives (.trayRead x) s fun t => getF t Reg.CLT_FLOW 0 = 0xFFFF ∧ onF t Reg.CLT_STAT_IN_SPEC 0 = false ∧
      onF t Reg.CLT_STAT_TRAY_LOST 0 = true ∧ t.thermal.tray = none ∧ t.serve = s.serve) ∧
  (∀ (x : TrayReading) (s : State), onF s Reg.MGT_BUS_STAT_TRAY_ISOLATED 0 = true → exec (.trayRead x) s = .next s) ∧
  (∀ (n : Nat) (s : State), onF s Reg.MGT_BUS_STAT_TRAY_ISOLATED 0 = false → Gives (.mgtTrayShort n) s fun t =>
    onF t Reg.MGT_BUS_STAT_TRAY_ISOLATED 0 = true ∧ getF t Reg.CLT_FLOW 0 = 0xFFFF ∧ t.thermal.tray = none) ∧
  (∀ (x : TrayReading) (s : State), onF s Reg.MGT_BUS_STAT_TRAY_ISOLATED 0 = true →
    exec (.trayProbe true x) s = .next s ∧
    exec (.trayProbe false x) s = .next (readTray (setF s Reg.MGT_BUS_STAT_TRAY_ISOLATED 0 0) x)) ∧
  (∀ s : State, onF s Reg.CLT_STAT_STOPPED 0 = true → s.power.shut = false →
    (s.lampTime < s.thermal.stoppedAt + 2000000000 → exec .stopTimeout s = .next s) ∧
    (s.thermal.stoppedAt + 2000000000 ≤ s.lampTime → Gives .stopTimeout s fun t =>
    t.power.shut = true ∧ t.pins.surpriseDown = true ∧ t.cores = [] ∧ t.formes = [])) ∧
  (∀ (cause v : Nat) (s : State), onF s Reg.CLT_STAT_STOPPED 0 = false → s.power.shut = false →
    suddenStop s cause v = fatalModule (addF (addF (setF { s with thermal := { s.thermal with stoppedAt := s.lampTime } } Reg.CLT_STAT_STOPPED 1 0) Reg.CLT_STOPS 1 0) Reg.LAMP_NV_WRITES 1 0)
      (blockItem Err.CLT_STOP cltIdent [cause, v]) 1) ∧
  (∀ f, (5400 ≤ f → flowSteps f = 0) ∧ (f < 5400 → 1 ≤ flowSteps f) ∧ ∀ g, f ≤ g → flowSteps g ≤ flowSteps f))

/-- The cap, the clock ceiling, the chases' thermal action and the cycle count (R450 to R453, R457, R458). The cap
lies between 4,000 and 36,000 W; the ceiling moves 25 MHz at a time between 600 and 1,400 MHz, and falls while the
module is above its cap; a chase at 95 °C falls to 600 MHz, one above T_target by 25 MHz each millisecond; a swing
below 20 K is no half-cycle; the life alarm comes at 80 % once. -/
def Obligations.ThermalControl : Prop :=
  (∀ (w : Nat) (s : State),
    let u := dropStep (if w < 2000 then s else thetaStep s w)
    exec (.estimatorSample w) s = .next (setCap u (capOf u)) ∧
    (s.thermal.capDrop ≤ 1 → 4000 ≤ capOf u ∧ capOf u ≤ 36000 ∧ getF (setCap u (capOf u)) Reg.PWR_CAP 0 = capOf u)) ∧
  (∀ (w : Nat) (s : State), 600 ≤ getF s Reg.THM_F_MOD 0 → getF s Reg.THM_F_MOD 0 ≤ 1400 → Gives (.fModStep w) s fun t =>
    let f := getF s Reg.THM_F_MOD 0
    let g := getF t Reg.THM_F_MOD 0
    600 ≤ g ∧ g ≤ 1400 ∧ g ≤ f + 25 ∧ f ≤ g + 25 ∧ (getF s Reg.PWR_CAP 0 < w → g = max 600 (f - 25)) ∧
    (97 * getF s Reg.PWR_CAP 0 ≤ 100 * w → g ≤ f) ∧ t.serve.streams.length = s.serve.streams.length) ∧
  (∀ (n : ChaseId) (s : State),
    let p := getPair s n
    let hot := decide (1520 ≤ p.used)
    let u := if hot = p.junction then s
      else
        let x := setPair s n { p with junction := hot }
        if hot then logFault x (blockItem Err.THM_JUNCTION_LIMIT thmIdent [n.val, int16 p.used]) else x
    let v := demand u n (fun ch =>
      ch.thermal p.used (getF u Reg.THM_TARGET 0 : Nat) (getF u Reg.CPW_CLK_NOW n) (getF u Reg.THM_F_MOD 0))
    exec (.chaseThermalAction n) s = .next (if 1000 ≤ (getChase v n).hotMs ∧ schedules v n = true ∧ (getChase v n).parkedFor = false ∧
      n.val ∉ v.thermal.refused then requestPark v n else v)) ∧
  (∀ (ch : Chase) (t target : Int) (clk fMod : Nat), target < 1520 →
    (1520 ≤ t → (ch.thermal t target clk fMod).limThermal = 600) ∧
    (target < t → t < 1520 → (ch.thermal t target clk fMod).limThermal = max 600 (ch.limThermal - 25)) ∧
    (t ≤ target → ch.limThermal ≤ (ch.thermal t target clk fMod).limThermal ∧ (ch.thermal t target clk fMod).limThermal ≤ ch.limThermal + 25) ∧
    (ch.limThermal < (ch.thermal t target clk fMod).limThermal → t < target - 32 ∨ (1520 ≤ t ∧ ch.limThermal < 600) ∨
      (target < t ∧ ch.limThermal < 600))) ∧
  (∀ (i : Nat) (x : Int) (s : State), hottestOf s (fun i => decide (i < 256)) = some (i, x) → Gives .thermalCycle s fun t =>
    let c := s.thermal.cycle x
    let ppm := c.halves20 + 5 * c.halves40 + 25 * c.halves60
    t.thermal = { c with lifeAlarm := c.lifeAlarm || decide (800000 ≤ ppm) } ∧
    (c.halves20 ≠ s.thermal.halves20 → getF t Reg.THM_LIFE_USED 0 = min ppm (2 ^ 20 - 1)) ∧ t.serve = s.serve) ∧
  (∀ (c : Thermal) (x v : Int), c.extreme = some x → (c.rising = true → v < x) → (c.rising = false → x < v) → (v - x).natAbs < 320 →
    c.cycle v = c)

/-- Reset and shutdown (R412, R413, R437, R438, R468 to R471, R477, R486). Power-on and a brown-out of the lamp rail
start the whole module: beacons DARK, nothing held, the errata map, usage records and fault log kept. A module reset
starts every block but the lamp domain again and is counted. RESET_N resets at its tenth low sample; a port's PERST
resets the port; software resets with the key. Input loss or overvoltage hands over and shuts the rails down, cause
recorded. Resetting one block, and kindling (R468, R478 to R480, R483, R484, R356). A write with the key and GO
quiesces a block that may be reset alone; it answers 3 for a block that may not and 1 for one in reset already. Once
idle, or past its time, the block is reset. A deadlock for 1 s resets its chase. The waves kindle in order once the
stacks stand; a chase whose self-test ends, with no packet inside it, is LIT, or EXTINGUISHED where its width is 0. -/
def Obligations.ResetsAndBlockReset : Prop :=
  ((∀ s : State, s.power.reversedLatch = false → Gives .powerOn s fun t =>
    (∀ p < 4096, beaconOf t p = Beacon.dark) ∧ t.cores = [] ∧ t.formes = [] ∧ t.serve = State.reset.serve ∧ t.mem.store = [] ∧
    t.mem.stack = [] ∧ t.mem.host = s.mem.host ∧ t.errata = s.errata ∧ t.faults.log = s.faults.log ∧ t.tele.store = s.tele.store ∧
    getF t Reg.RST_POR_COUNT 0 = min (getF s Reg.RST_POR_COUNT 0 + 1) (2 ^ 32 - 1) ∧ getF t Reg.RST_CAUSE 0 = 1 ∧
    t.pins.modReady = false ∧ t.lampTime = 0) ∧
  (∀ s : State, s.power.reversedLatch = true → Gives .powerOn s fun t => t.power.reversedLatch = false ∧
    getF t Reg.PWR_INPUT_STAT_REVERSED_SEEN 0 = 1 ∧ t.cores = [] ∧ t.errata = s.errata) ∧
  (∀ s : State, (Gives (.brownOut true) s fun t => getF t Reg.RST_CAUSE 0 = 2 ∧ t.release.causes = [1] ∧ t.cores = [] ∧
      t.errata = s.errata ∧ t.faults.log = s.faults.log) ∧ exec (.brownOut false) s = .next (resetNow s 1)) ∧
  (∀ (low : Bool) (s : State),
    let n := if low then s.pins.resetLow + 1 else 0
    let u := { s with pins := { s.pins with
      resetLow := n, lowSince := if low then some (s.pins.lowSince.getD s.lampTime) else none } }
    exec (.resetN low) s = .next (if n = 10 then resetNow u 2 else u)) ∧
  (∀ (h : PortId) (s : State),
    let u := fun (b : Bool) => { s with pins := { s.pins with perst := s.pins.perst.set h b } }
    (s.pins.perst.getD h true = false → exec (.perst h true) s = .next (causeRecord (resetPort (u true) h) 2 [identOf 0x0B h])) ∧
    (s.pins.perst.getD h true = true → exec (.perst h true) s = .next (u true)) ∧
    exec (.perst h false) s = .next (releasePort (u false) h)) ∧
  (∀ (v : Nat) (s : State), answers s 2 = true →
    let u := setF s Reg.RST_MOD_CTL_FORCE (v / 2) 0
    exec (.softwareModuleReset v) s = .next (if v / 2 ^ 24 % 256 = 0x4D ∧ v % 2 = 1 then swReset u (v / 2 % 2 == 1) else u)) ∧
  (∀ (cause : Nat) (s : State), cause < 8 → let t := moduleReset s cause
    t.cores = [] ∧ t.formes = [] ∧ t.fabric = [] ∧ t.serve = State.reset.serve ∧ t.mem.store = [] ∧ t.mem.stack = [] ∧
    t.errata = s.errata ∧ t.lampTime = s.lampTime ∧ t.pairs = s.pairs ∧ t.tele.store = s.tele.store ∧
    getF t Reg.RST_STAGE_STEP 0 = 2 ∧ getF t Reg.RST_CAUSE 0 = 2 ^ cause ∧
    getF t Reg.RST_MOD_RESETS 0 = min (getF s Reg.RST_MOD_RESETS 0 + 1) (2 ^ 32 - 1) ∧ t.pins.modReady = false) ∧
  (∀ (mv : Nat) (s : State),
    exec (.pwrInputLoss mv) s = .next (setF (fatalShutdown s (blockItem Err.PWR_INPUT_LOSS (identOf 0x05 0) [mv]) 2 2) Reg.PWR_INPUT_STAT_LOSS 1 0) ∧
    exec (.pwrInputOver mv) s = .next (setF (fatalShutdown s (blockItem Err.PWR_INPUT_OVER (identOf 0x05 0) [mv]) 7 3) Reg.PWR_INPUT_STAT_OVER 1 0) ∧
    Gives (.inputBandChange mv) s (fun t => onF t Reg.PWR_INPUT_STAT_LOW 0 = decide (38000 ≤ mv ∧ mv < 40000) ∧
      onF t Reg.PWR_INPUT_STAT_HIGH 0 = decide (60000 < mv ∧ mv ≤ 63000) ∧
      (38000 ≤ mv → mv ≤ 63000 → onF t Reg.PWR_INPUT_STAT_LOSS 0 = false ∧ onF t Reg.PWR_INPUT_STAT_OVER 0 = false)) ∧
    Gives .pwrInputReversed s (fun t => t.power.reversedLatch = true ∧ RegsOnly { s with power := t.power } t [Reg.LAMP_NV_WRITES.key 0 0])) ∧
  (∀ (cause : Nat) (s : State), cause < 8 → let t := shutdownSeq s cause
    t.power.shut = true ∧ t.pins.surpriseDown = true ∧ t.pins.modReady = false ∧ t.pins.modFaultN = s.pins.modFaultN ∧ t.cores = [] ∧
    t.formes = [] ∧ t.mem.store = [] ∧ getF t Reg.PWR_SHUTDOWN_CAUSE 0 = cause ∧ t.faults.log = s.faults.log)) ∧
  ((∀ (v : Nat) (s : State), answers s 2 = true → v / 2 ^ 24 % 256 = 0xB5 → v % 2 = 1 → onF s Reg.RST_BLK_CTL_BUSY 0 = false →
    let i := getF s Reg.RST_BLK_SEL 0
    (resettable i = false ∨ (i / 65536 = 0x23 ∧ groupDown s (i % 65536) = true) →
      exec (.blockReset v) s = .next (setF s Reg.RST_BLK_CTL_RESULT 3 0)) ∧
    (resettable i = true → ¬ (i / 65536 = 0x23 ∧ groupDown s (i % 65536) = true) → inReset s i = true →
      exec (.blockReset v) s = .next (setF s Reg.RST_BLK_CTL_RESULT 1 0)) ∧
    (resettable i = true → ¬ (i / 65536 = 0x23 ∧ groupDown s (i % 65536) = true) → inReset s i = false →
      Gives (.blockReset v) s fun t => t.blkReset = some ⟨i, 4, s.lampTime⟩ ∧ onF t Reg.RST_BLK_CTL_BUSY 0 = true ∧
        onF t Reg.PAGE_CTL_QUIESCE_REQ (pageOfIdent i) = true ∧ t.mem = s.mem ∧ t.serve = s.serve)) ∧
  (∀ (v : Nat) (s : State), answers s 2 = true → v / 2 ^ 24 % 256 ≠ 0xB5 ∨ v % 2 = 0 ∨ onF s Reg.RST_BLK_CTL_BUSY 0 = true →
    exec (.blockReset v) s = .next s) ∧
  (∀ (b : BlkReset) (s : State), s.blkReset = some b →
    exec .quiesceDone s = .next (resetBlock (setF s Reg.PAGE_QUIESCE_IDLE 1 (pageOfIdent b.ident)) b 1) ∧
    (s.lampTime < b.since + 100000 → ∀ held, exec (.rstQuiesceTimeout held) s = .next s) ∧
    (b.since + 100000 ≤ s.lampTime → ∀ held, exec (.rstQuiesceTimeout held) s = .next (resetBlock (logFault (setF (addF s Reg.RST_QUIESCE_TIMEOUTS 1 0)
      Reg.PAGE_QUIESCE_HELD (min held 65535) (pageOfIdent b.ident)) (blockItem Err.RST_QUIESCE_TIMEOUT (identOf 0x03 0) [b.ident, held])) b 2))) ∧
  (∀ s : State, s.blkReset = none → exec .quiesceDone s = .next s ∧ ∀ held, exec (.rstQuiesceTimeout held) s = .next s) ∧
  (∀ (n : ChaseId) (s : State), deadlockStands s n = false → exec (.fabricLockup n) s = .next s) ∧
  (∀ (n : ChaseId) (s : State), deadlockStands s n = true → onF s Reg.RST_BLK_CTL_BUSY 0 = false → chaseBeacon s n ≠ Beacon.dark →
    exec (.fabricLockup n) s = .next (quiesce (logFault s (blockItem Err.RST_LOCKUP (identOf 0x03 0) [2, n.val])) (identOf 0x20 n) 7)) ∧
  (∀ s : State, tierTrained s = true → groupUp s 2 = true → groupUp s 3 = true → s.release.kindling = [] → s.release.waves < 16 →
    s.power.shut = false → waveReady s = true → exec .kindlingWave s = .next (finishKindling ((waveChases s s.release.waves).foldl kindleChase
      (setF { s with release := { s.release with waves := s.release.waves + 1, waveEnd := s.lampTime } } Reg.RST_STAGE_WAVE s.release.waves 0)))) ∧
  (∀ (n : ChaseId) (s : State), widthOf s n = 0 → chaseBeacon (kindleChase s n) n = Beacon.extinguished) ∧
  (∀ (n : ChaseId) (s : State), 0 < widthOf s n → chaseBeacon (kindleChase s n) n = Beacon.kindling ∧ railOn (kindleChase s n) n = true ∧
    n.val ∈ (kindleChase s n).release.kindling) ∧
  (∀ (n : ChaseId) (rs : List CoreResult) (s : State), n.val ∈ s.release.kindling → fabricClear s [] [n.val] = true →
    let u := setClock s n (getF s Reg.CPW_CLK_LIMIT n)
    exec (.chaseLit n rs) s = .next (finishKindling (retryCapacity (finishSelfTest
      { u with release := { u.release with kindling := u.release.kindling.filter (· != n.val), waveEnd := s.lampTime } } n rs)))))

/-- The release order and the clocks (R464 to R467, R469, R472 to R476, R487). An instance whose step is due and whose
PLLs have counted is released, and STAGE.STEP follows; one that is not due waits. A count sets LOCKED and COUNTED; no
lock in time leaves the block in FAULT; a step that does not complete stops the sequence; an instance of a step that
is forced before its PLLs have counted is marked. The monitor fails a clock more than 1 % off, 4 % while it slews. The
crystal's and the first oscillator's loss switch over; with both oscillators lost the PLLs lose lock, and the module
is reset. -/
def Obligations.ReleaseAndClocks : Prop :=
  (∀ (k : Fin 11) (i : Nat) (s : State),
    (stepReady s k i = true → Gives (.releaseStep k i) s fun t => (k.val, i) ∈ t.release.released ∧
      getF t Reg.RST_STAGE_STEP 0 = max k.val (getF s Reg.RST_STAGE_STEP 0) % 16 ∧ t.serve = s.serve ∧ t.mem.store = s.mem.store) ∧
    (stepReady s k i = false → exec (.releaseStep k i) s = .next s)) ∧
  (∀ (d i : Nat) (s : State), i < pllCount d → s.power.shut = false →
    (Gives (.pllCountDone d i) s fun t => (d, i) ∈ t.release.counted ∧ onF t Reg.CLK_PLL_STAT_LOCKED (pllNo d i) = true ∧
      onF t Reg.CLK_PLL_STAT_COUNTED (pllNo d i) = true ∧ (d = 5 → getF t Reg.CLK_PLL_STAT_FREQ (pllNo d i) = 600) ∧ t.serve = s.serve) ∧
    ((d, i) ∉ s.release.counted → (d, i) ∉ s.release.pllFailed → stepPast s (if d = 0 then 4 else 5) 10000000 = true → Gives (.rstPllNoLock d i) s fun t =>
      (d, i) ∈ t.release.pllFailed ∧ (d = 0 → beaconOf t 11 = Beacon.fault) ∧ (d = 2 → beaconOf t (784 + i) = Beacon.fault) ∧
      (d = 3 ∨ d = 4 → beaconOf t (768 + i) = Beacon.fault) ∧ (d = 5 → chaseBeacon t i = Beacon.fault))) ∧
  (∀ (k : Nat) (s : State), k = 3 ∨ k = 4 → getF s Reg.RST_STAGE_STEP 0 + 1 = k → s.release.stopped = false → stepPast s (k - 1) 50010240 = true →
    exec (.rstStepTimeout k) s = .next (logFault { s with release := { s.release with stopped := true } }
      (blockItem Err.RST_STEP_TIMEOUT (identOf 0x03 0) [k]))) ∧
  (∀ (v : Nat) (s : State), answers s 2 = true → pageLocked s 2 = false → Gives (.forceStep v) s fun t =>
    getF t Reg.RST_FORCE_FORCE_STEP 0 = v % 16 ∧ t.release.released = s.release.released ∧
    ∀ i < stepSize (v % 16), (v % 16, i) ∉ s.release.released → (∃ x ∈ stepPlls (v % 16) i, x ∉ s.release.counted) → 16 * i + v % 16 ∈ t.release.forced) ∧
  (∀ (rs : List ClockReading) (s : State), exec (.clockMonitor rs) s = .next (rs.foldl monitorClock s)) ∧
  (∀ r : ClockReading, (r.present = false → clockFailed r = true) ∧ (r.present = true → (clockFailed r = true ↔
    (if r.slewing then 4 else 1) * r.commandedKhz < 100 * ((r.khz : Int) - r.commandedKhz).natAbs))) ∧
  (∀ (r : ClockReading) (s : State), (r.domain, r.inst) ∈ s.release.counted → clockFailed r = false →
    monitorClock s r = setF s Reg.CLK_PLL_STAT_FREQ (min (r.khz / 1000) 2047) (pllNo r.domain r.inst)) ∧
  (∀ (h : PortId) (s : State), Gives (.refclkRecovered h) s fun t =>
    getF t Reg.CLK_REF_STAT_REFCLK_OK 0 / 2 ^ h.val % 2 = 1 ∧ (1, h.val) ∈ t.release.counted ∧
    (s.pins.perst.getD h true = false → 5 ≤ getF s Reg.RST_STAGE_STEP 0 → s.power.shut = false → portReleased t h = true)) ∧
  (∀ s : State, onF s Reg.CLK_REF_STAT_LAMP_INTERNAL 0 = false → Gives .rstLampXtal s fun t =>
    onF t Reg.CLK_REF_STAT_LAMP_INTERNAL 0 = true ∧ onF t Reg.CLK_REF_STAT_LAMP_XTAL_OK 0 = false ∧ t.tele.openSynced = false ∧
    t.serve = s.serve) ∧
  (∀ s : State, onF s Reg.CLK_REF_STAT_FREF_SEL 0 = false → (Gives (.rstFabricRef true) s fun t =>
    onF t Reg.CLK_REF_STAT_FREF_SEL 0 = true ∧ onF t Reg.CLK_REF_STAT_FREF_A_OK 0 = false ∧
    getF t Reg.CLK_FREF_SWITCHES 0 = min (getF s Reg.CLK_FREF_SWITCHES 0 + 1) (2 ^ 32 - 1) ∧ t.serve = s.serve) ∧
    exec (.rstFabricRef false) s = .next (resetNow (loseLocks (setF (logFault (setF s Reg.CLK_REF_STAT_FREF_A_OK 0 0)
      (blockItem Err.RST_FABRIC_REF (identOf 0x03 0) [0])) Reg.CLK_REF_STAT_FREF_B_OK 0 0)) 6)) ∧
  (∀ (cs : List Nat) (s : State), s.syncs = [] → Gives (.timeSyncPoint cs) s fun t =>
    getF t Reg.CLK_SYNC_ERR 0 = min 255 (cs.foldl max 0) ∧ t.syncs = [(s.lampTime, cs.foldl max 0)] ∧
    RegsOnly { s with syncs := t.syncs } t [Reg.CLK_SYNC_ERR.key 0 0])

/-- EVENT (R209, R379, R389, R390). A fault item reaches keeper group 2: it leaves the waiting ones, its EVENT packet
is taken, and it is recorded, with REPLAY where a replay step raised it. A retested code's second record of one stamp
and instruction is a forme defect; one of class FATAL_BLOCK starts a recovery of its chase and of those whose cores
its retest names. A suspect count falls by one in 24 quiet hours. The steps of a recovery (R388, R390, R398, R205).
Once the chases stand and the fabric and the gateways' queues are clear of the affected formes, gates and queues are
cleared and the retest begins, or the parts are placed at once; the retest's end retires hard cores and places the
parts again; the reload's end restarts the chases and releases the streams. In any other phase the commands do
nothing. A recovery starts (R389 to R391). Its set holds the chase, and every forme with a part there is affected;
each live stream of an affected forme holds for RECOVERY with its step abandoned; every chase of the set that runs is
halted. -/
def Obligations.RecoverySteps : Prop :=
  (((∀ (i : Nat) (it : FaultItem) (s : State), s.faults.items[i]? = some it →
      let u0 := { s with faults := { s.faults with items := s.faults.items.eraseIdx i } }
      let u := if it.sent then dropFlit u0 (fun f => flitKind f == Kind.event && f.stamp == BitVec.ofNat 64 (it.stamp.getD 0))
        else u0
      let x := markReplay u it
      let v := logFault u x
      (firstOnly x.code = true → isRepeat u x = true → exec (.event i) s = .next (formeDefect v x)) ∧
      (∀ n, firstOnly x.code = false ∨ isRepeat u x = false → x.chase = some n → startsRecovery x = true →
        exec (.event i) s = .next (startRecovery v n (itemChases n x) [x] 1 [] [])) ∧
      (firstOnly x.code = false ∨ isRepeat u x = false → x.chase = none → exec (.event i) s = .next v) ∧
      (∀ n, firstOnly x.code = false ∨ isRepeat u x = false → x.chase = some n → startsRecovery x = false →
        (x.code ≠ Err.STORE_UNCORRECTABLE → exec (.event i) s = .next v) ∧
        (x.code = Err.STORE_UNCORRECTABLE → exec (.event i) s = .next (if stillPoisoned v x = true
          then { v with faults := { v.faults with evidence := v.faults.evidence ++ [x] } } else v)))) ∧
    (∀ (i : Nat) (s : State), s.faults.items.length ≤ i → exec (.event i) s = .next s) ∧
    (∀ (g : Fin 16384) (s : State), s.lampTime < (errataAt s g).since + 86400000000000 → exec (.suspectDecay g) s = .next s) ∧
    (∀ (g : Fin 16384) (s : State), (errataAt s g).since + 86400000000000 ≤ s.lampTime →
      Gives (.suspectDecay g) s fun t => (errataAt t g).suspect = (errataAt s g).suspect - 1 ∧
      (∀ j, j ≠ g.val → errataAt t j = errataAt s j) ∧ t = { s with errata := t.errata })) ∧
    (∀ (i : Nat) (r : Recovery) (s : State), s.faults.recoveries[i]? = some r →
      (r.phase = .halting → (∀ n ∈ r.chases, schedules s n = false ∨ onF s Reg.CHS_SCHED_CTL_HALTED n = true) →
        fabricClear s r.formes r.chases = true →
        let u := r.chases.foldl (fun s n => modCores (finishStackWrites s n) n Core.drained) (clearRim s r.formes)
        exec (.fabricDrained i) s = .next (if r.selfTest = [] ∧ (∀ it ∈ r.items, retested it.code = false) then placeStep u i r
          else setRecovery u i { r with phase := .retesting })) ∧
      (r.phase ≠ .halting → exec (.fabricDrained i) s = .next s) ∧
      (r.phase = .retesting → r.selfTest = [] → ∀ rs, exec (.retestDone i rs) s = .next (retestNamed s i r rs)) ∧
      (r.phase = .retesting → r.selfTest ≠ [] → ∀ rs,
        let bad := rs.filter (fun x => (x.coreFails || x.routerFails) && r.selfTest.contains (chaseOfRouter x.place))
        exec (.retestDone i rs) s = .next (placeStep (bad.foldl failSelfTest (r.items.foldl rewriteWord s)) i
          { r with cores := r.cores ++ poisonedCores r.items })) ∧
      (r.phase ≠ .retesting → ∀ rs, exec (.retestDone i rs) s = .next s) ∧
      (r.phase = .reloading →
        let a := r.chases.foldl restartMember (reloadAll s r)
        let fresh := a.formes.flatMap (fun f => f.2.parts.filter (fun p => p.live && !r.chases.contains p.chase
          && r.parts.contains (f.1, p.layer, p.part)))
        let b := startChases a fresh
        let back := (b.serve.streams.filter (fun e => e.2.lostState && e.2.live && r.formes.contains e.2.forme)).map (fun e => (e.1, e.2.order))
        exec (.reloadDone i) s = .next (checkRecoveries 64 (r.formes.foldl refixForme
          (releaseFormes (setRecovery b i { r with phase := .replaying, replays := back }) r.formes)))) ∧
      (r.phase ≠ .reloading → exec (.reloadDone i) s = .next s))) ∧
  (∀ (n : Nat) (items : List FaultItem) (kind : Nat) (self move : List Nat) (s : State), n < 256 →
      (∀ r ∈ s.faults.recoveries, n ∉ r.chases) →
      let t := startRecovery s n [n] items kind self move
      ∃ r, t.faults.recoveries = s.faults.recoveries ++ [r] ∧ r.phase = .halting ∧ r.chase = n ∧ n ∈ r.chases ∧
        r.since = s.lampTime ∧ (∀ it ∈ items, it ∈ r.items) ∧
        (∀ f x, (f, x) ∈ s.formes → (∃ p ∈ x.parts, p.live = true ∧ p.chase = n) → f ∈ r.formes) ∧
        (∀ e x, getSt s e = some x → x.live = true → x.forme ∈ r.formes →
          ∃ y, getSt t e = some y ∧ y.holdRecovery = true ∧ y.step = none ∧ y.vlen = x.vlen ∧ y.cmd = x.cmd) ∧
        (schedules s n = true → onF t Reg.CHS_SCHED_CTL_HALT_REQ n = true) ∧ t.mem = s.mem)
end

