-- ==== Sys2Proof/Laws/Maps.lean ====
section
/-! SUPPORT. Laws of the sparse maps and of the memories: a read after a write, and that every operation keeps
the canonical form. -/

namespace Sys2Proof.Machine

theorem kget?_kset_same {α : Type} (m : KMap α) (k : Nat) (v : α) : kget? (kset m k v) k = some v := by
  induction m with
  | nil => simp [kset, kget?]
  | cons a m ih =>
    obtain ⟨k', v'⟩ := a
    simp only [kset]
    split_ifs with h1 h2
    · simp [kget?]
    · simp [kget?]
    · simp [kget?, Ne.symm h2, ih]

theorem kget?_kset_ne {α : Type} (m : KMap α) {k j : Nat} (v : α) (h : j ≠ k) : kget? (kset m k v) j = kget? m j := by
  induction m with
  | nil => simp [kset, kget?, Ne.symm h]
  | cons a m ih =>
    obtain ⟨k', v'⟩ := a
    simp only [kset]
    split_ifs with h1 h2
    · simp [kget?, Ne.symm h]
    · subst h2; simp [kget?, Ne.symm h]
    · simp only [kget?, ih]

theorem kget?_kdel_same {α : Type} (m : KMap α) (k : Nat) : kget? (kdel m k) k = none := by
  induction m with
  | nil => rfl
  | cons a m ih =>
    obtain ⟨k', v'⟩ := a
    simp only [kdel]
    split_ifs with h
    · exact ih
    · simp [kget?, h, ih]

theorem kget?_kdel_ne {α : Type} (m : KMap α) {k j : Nat} (h : j ≠ k) : kget? (kdel m k) j = kget? m j := by
  induction m with
  | nil => rfl
  | cons a m ih =>
    obtain ⟨k', v'⟩ := a
    simp only [kdel]
    split_ifs with h1
    · subst h1; simp [kget?, Ne.symm h, ih]
    · simp only [kget?, ih]

@[simp] theorem kgetD_kset_same {α : Type} (m : KMap α) (k : Nat) (v d : α) : kgetD (kset m k v) k d = v := by
  simp [kgetD, kget?_kset_same]

theorem kgetD_kset_ne {α : Type} (m : KMap α) {k j : Nat} (v d : α) (h : j ≠ k) :
    kgetD (kset m k v) j d = kgetD m j d := by
  simp [kgetD, kget?_kset_ne m v h]

/-- An entry of a changed map is the new one or was there before. -/
theorem mem_kset {α : Type} {m : KMap α} {k : Nat} {v : α} {c : Nat × α} (h : c ∈ kset m k v) : c = (k, v) ∨ c ∈ m := by
  induction m with
  | nil => simpa [kset] using h
  | cons a m ih =>
    obtain ⟨k', v'⟩ := a
    simp only [kset] at h
    split_ifs at h with h1 h2
    · simpa using h
    · simp only [List.mem_cons] at h ⊢; tauto
    · simp only [List.mem_cons] at h ⊢
      rcases h with h | h
      · exact .inr (.inl h)
      · rcases ih h with h | h
        · exact .inl h
        · exact .inr (.inr h)

theorem mem_kdel {α : Type} {m : KMap α} {k : Nat} {c : Nat × α} (h : c ∈ kdel m k) : c ∈ m := by
  induction m with
  | nil => simp [kdel] at h
  | cons a m ih =>
    obtain ⟨k', v'⟩ := a
    simp only [kdel] at h
    split_ifs at h with h1
    · exact List.mem_cons_of_mem _ (ih h)
    · simp only [List.mem_cons] at h ⊢
      rcases h with h | h
      · exact .inl h
      · exact .inr (ih h)

theorem kset_sorted {α : Type} {m : KMap α} (h : KMap.sorted m) (k : Nat) (v : α) : KMap.sorted (kset m k v) := by
  induction m with
  | nil => simp [kset, KMap.sorted]
  | cons a m ih =>
    obtain ⟨k', v'⟩ := a
    have h' : (∀ c ∈ m, k' < c.1) ∧ KMap.sorted m := by simpa [KMap.sorted] using h
    simp only [kset]
    split_ifs with h1 h2
    · refine List.pairwise_cons.2 ⟨fun c hc => ?_, h⟩
      rcases List.mem_cons.1 hc with rfl | hc
      · exact h1
      · exact h1.trans (h'.1 c hc)
    · subst h2
      exact List.pairwise_cons.2 ⟨fun c hc => h'.1 c hc, h'.2⟩
    · refine List.pairwise_cons.2 ⟨fun c hc => ?_, ih h'.2⟩
      rcases mem_kset hc with rfl | hc
      · show k' < k
        omega
      · exact h'.1 c hc

theorem kdel_sorted {α : Type} {m : KMap α} (h : KMap.sorted m) (k : Nat) : KMap.sorted (kdel m k) := by
  induction m with
  | nil => simp [kdel, KMap.sorted]
  | cons a m ih =>
    obtain ⟨k', v'⟩ := a
    have h' : (∀ c ∈ m, k' < c.1) ∧ KMap.sorted m := by simpa [KMap.sorted] using h
    simp only [kdel]
    split_ifs with h1
    · exact ih h'.2
    · exact List.pairwise_cons.2 ⟨fun c hc => h'.1 c (mem_kdel hc), ih h'.2⟩

/-! ### Memories -/

theorem memWrite_wf {m : Memory} (h : m.wf) (a : Nat) (b : Byte) : (memWrite m a b).wf := by
  unfold memWrite
  split_ifs with hb
  · exact ⟨kdel_sorted (α := Byte) h.1 a, fun c hc => h.2 c (mem_kdel hc)⟩
  · refine ⟨kset_sorted (α := Byte) h.1 a b, fun c hc => ?_⟩
    rcases mem_kset hc with rfl | hc
    · exact hb
    · exact h.2 c hc

theorem memWriteBytes_wf {m : Memory} (h : m.wf) (a : Nat) (bs : List Byte) : (memWriteBytes m a bs).wf := by
  induction bs generalizing m a with
  | nil => exact h
  | cons b bs ih => exact ih (memWrite_wf h a b) (a + 1)

/-- Leaving out listed bytes keeps the form: they read as zero then. -/
theorem filter_wf {m : Memory} (h : m.wf) (p : Host.Cell → Bool) : Memory.wf (m.filter p) :=
  ⟨h.1.filter p, fun c hc => h.2 c (List.mem_of_mem_filter hc)⟩

theorem memZero_wf {m : Memory} (h : m.wf) (a n : Nat) : (memZero m a n).wf := filter_wf h _

theorem nil_wf : Memory.wf [] := ⟨List.Pairwise.nil, by simp⟩

theorem memRead_memWrite_same (m : Memory) (a : Nat) (b : Byte) : memRead (memWrite m a b) a = b := by
  unfold memRead memWrite kgetD
  split_ifs with h
  · rw [kget?_kdel_same]; simp [h]
  · rw [kget?_kset_same]; rfl

theorem memRead_memWrite_ne (m : Memory) {a x : Nat} (b : Byte) (h : x ≠ a) : memRead (memWrite m a b) x = memRead m x := by
  unfold memRead memWrite kgetD
  split_ifs
  · rw [kget?_kdel_ne _ h]
  · rw [kget?_kset_ne _ _ h]

/-- A write of bytes leaves every byte outside them. -/
theorem memRead_memWriteBytes_out (m : Memory) (a : Nat) (bs : List Byte) {x : Nat} (h : x < a ∨ a + bs.length ≤ x) :
    memRead (memWriteBytes m a bs) x = memRead m x := by
  induction bs generalizing m a with
  | nil => rfl
  | cons b bs ih =>
    have hl : (b :: bs).length = bs.length + 1 := rfl
    rw [memWriteBytes, ih _ _ (by omega), memRead_memWrite_ne _ _ (by omega)]

/-- A write of bytes gives each byte its value. -/
theorem memRead_memWriteBytes_in (m : Memory) (a : Nat) (bs : List Byte) {i : Nat} (h : i < bs.length) :
    memRead (memWriteBytes m a bs) (a + i) = bs[i] := by
  induction bs generalizing m a i with
  | nil => simp at h
  | cons b bs ih =>
    rw [memWriteBytes]
    cases i with
    | zero => rw [memRead_memWriteBytes_out _ _ _ (by omega)]; simpa using memRead_memWrite_same m a b
    | succ i =>
      have := ih (m := memWrite m a b) (a := a + 1) (i := i) (by simpa using h)
      rw [show a + (i + 1) = a + 1 + i by omega]
      simpa using this

/-- Reading back the bytes written. -/
theorem memReadBytes_memWriteBytes (m : Memory) (a : Nat) (bs : List Byte) :
    memReadBytes (memWriteBytes m a bs) a bs.length = bs := by
  apply List.ext_getElem
  · simp [memReadBytes]
  · intro i h1 h2
    simp [memReadBytes, memRead_memWriteBytes_in m a bs h2]

end Sys2Proof.Machine
end

