-- ==== Sys2Proof/Laws/State.lean ====
section
/-! SUPPORT. What each shared operation changes, one lemma per part of the state, so that no later proof
unfolds a record update; and reads after writes of register fields, cores, chases and rows. -/

namespace Sys2Proof.Machine

/-! ### Maps -/

theorem kset_kset {α : Type} (m : KMap α) (k : Nat) (v w : α) : kset (kset m k v) k w = kset m k w := by
  induction m with
  | nil => simp [kset]
  | cons a m ih =>
    obtain ⟨k', v'⟩ := a
    simp only [kset]
    split_ifs with h1 h2
    · simp [kset]
    · simp [kset]
    · simp [kset, h1, h2, ih]

theorem agreeBut_refl {α : Type} (m : KMap α) (ks : List Nat) : AgreeBut m m ks := fun _ _ => rfl

theorem agreeBut_kset {α : Type} {m m' : KMap α} {ks : List Nat} (h : AgreeBut m m' ks) {k : Nat} (v : α)
    (hk : k ∈ ks) : AgreeBut m (kset m' k v) ks := fun j hj => by
  rw [kget?_kset_ne _ _ (fun e : j = k => hj (e.symm ▸ hk)), h j hj]

theorem agreeBut_kdel {α : Type} {m m' : KMap α} {ks : List Nat} (h : AgreeBut m m' ks) {k : Nat}
    (hk : k ∈ ks) : AgreeBut m (kdel m' k) ks := fun j hj => by
  rw [kget?_kdel_ne _ (fun e : j = k => hj (e.symm ▸ hk)), h j hj]

/-! ### Register fields -/

@[simp] theorem getF_setF_same (s : State) (f : Fld) (v i k : Nat) : getF (setF s f v i k) f i k = v % 2 ^ f.width := by
  unfold getF setF putF
  split_ifs with h
  · simp [kgetD, kget?_kdel_same, h]
  · simp

theorem getF_setF_ne (s : State) {f g : Fld} (v : Nat) {i j k l : Nat} (h : g.key j l ≠ f.key i k) :
    getF (setF s f v i k) g j l = getF s g j l := by
  unfold getF setF putF kgetD
  split_ifs
  · rw [kget?_kdel_ne _ h]
  · rw [kget?_kset_ne _ _ h]

theorem agreeBut_putF {m m' : KMap Nat} {ks : List Nat} (h : AgreeBut m m' ks) (f : Fld) (v i k : Nat)
    (hk : f.key i k ∈ ks) : AgreeBut m (putF m' f v i k) ks := by
  unfold putF
  split_ifs
  · exact agreeBut_kdel h hk
  · exact agreeBut_kset h _ hk

/-- A write of one register field changes that field alone. -/
theorem setF_regsOnly {s t : State} {ks : List Nat} (h : RegsOnly s t ks) (f : Fld) (v i k : Nat) (hk : f.key i k ∈ ks) :
    RegsOnly s (setF t f v i k) ks := by
  obtain ⟨h1, h2⟩ := h
  refine ⟨?_, agreeBut_putF h2 f v i k hk⟩
  rw [h1]; rfl

theorem addF_regsOnly {s t : State} {ks : List Nat} (h : RegsOnly s t ks) (f : Fld) (n i k : Nat) (hk : f.key i k ∈ ks) :
    RegsOnly s (addF t f n i k) ks := setF_regsOnly h _ _ _ _ hk

theorem regsOnly_refl (s : State) (ks : List Nat) : RegsOnly s s ks := ⟨rfl, agreeBut_refl _ _⟩

@[simp] theorem setF_cores (s : State) (f : Fld) (v i k : Nat) : (setF s f v i k).cores = s.cores := rfl
@[simp] theorem setF_chases (s : State) (f : Fld) (v i k : Nat) : (setF s f v i k).chases = s.chases := rfl
@[simp] theorem setF_mem (s : State) (f : Fld) (v i k : Nat) : (setF s f v i k).mem = s.mem := rfl
@[simp] theorem setF_faults (s : State) (f : Fld) (v i k : Nat) : (setF s f v i k).faults = s.faults := rfl
@[simp] theorem setF_serve (s : State) (f : Fld) (v i k : Nat) : (setF s f v i k).serve = s.serve := rfl
@[simp] theorem setF_lampTime (s : State) (f : Fld) (v i k : Nat) : (setF s f v i k).lampTime = s.lampTime := rfl
@[simp] theorem setF_io (s : State) (f : Fld) (v i k : Nat) : (setF s f v i k).io = s.io := rfl
@[simp] theorem addF_cores (s : State) (f : Fld) (n i k : Nat) : (addF s f n i k).cores = s.cores := rfl
@[simp] theorem addF_chases (s : State) (f : Fld) (n i k : Nat) : (addF s f n i k).chases = s.chases := rfl
@[simp] theorem addF_mem (s : State) (f : Fld) (n i k : Nat) : (addF s f n i k).mem = s.mem := rfl
@[simp] theorem addF_faults (s : State) (f : Fld) (n i k : Nat) : (addF s f n i k).faults = s.faults := rfl
@[simp] theorem addF_serve (s : State) (f : Fld) (n i k : Nat) : (addF s f n i k).serve = s.serve := rfl
@[simp] theorem addF_lampTime (s : State) (f : Fld) (n i k : Nat) : (addF s f n i k).lampTime = s.lampTime := rfl

/-! ### Cores and chases -/

@[simp] theorem getCore_setCore (s : State) (c : CoreRef) (k : Core) : getCore (setCore s c k) c = k := by
  simp [getCore, setCore]

theorem getCore_setCore_ne (s : State) {c d : CoreRef} (k : Core) (h : coreKey d ≠ coreKey c) :
    getCore (setCore s c k) d = getCore s d := kgetD_kset_ne _ _ _ h

@[simp] theorem setCore_setCore (s : State) (c : CoreRef) (k l : Core) : setCore (setCore s c k) c l = setCore s c l := by
  simp [setCore, kset_kset]

@[simp] theorem modCore_modCore (s : State) (c : CoreRef) (f g : Core → Core) :
    modCore (modCore s c f) c g = modCore s c (fun k => g (f k)) := by
  simp [modCore]

@[simp] theorem getCore_modCore (s : State) (c : CoreRef) (f : Core → Core) :
    getCore (modCore s c f) c = f (getCore s c) := by
  simp [modCore]

@[simp] theorem setCore_regs (s : State) (c : CoreRef) (k : Core) : (setCore s c k).regs = s.regs := rfl
@[simp] theorem setCore_mem (s : State) (c : CoreRef) (k : Core) : (setCore s c k).mem = s.mem := rfl
@[simp] theorem setCore_chases (s : State) (c : CoreRef) (k : Core) : (setCore s c k).chases = s.chases := rfl
@[simp] theorem setCore_faults (s : State) (c : CoreRef) (k : Core) : (setCore s c k).faults = s.faults := rfl
@[simp] theorem modCore_regs (s : State) (c : CoreRef) (f : Core → Core) : (modCore s c f).regs = s.regs := rfl
@[simp] theorem modCore_mem (s : State) (c : CoreRef) (f : Core → Core) : (modCore s c f).mem = s.mem := rfl
@[simp] theorem modCore_chases (s : State) (c : CoreRef) (f : Core → Core) : (modCore s c f).chases = s.chases := rfl
@[simp] theorem modCore_faults (s : State) (c : CoreRef) (f : Core → Core) : (modCore s c f).faults = s.faults := rfl

@[simp] theorem getChase_setChase (s : State) (n : Nat) (c : Chase) : getChase (setChase s n c) n = c := by
  simp [getChase, setChase]

theorem getChase_setChase_ne (s : State) {n m : Nat} (c : Chase) (h : m ≠ n) :
    getChase (setChase s n c) m = getChase s m := kgetD_kset_ne _ _ _ h

@[simp] theorem setChase_regs (s : State) (n : Nat) (c : Chase) : (setChase s n c).regs = s.regs := rfl
@[simp] theorem setChase_cores (s : State) (n : Nat) (c : Chase) : (setChase s n c).cores = s.cores := rfl
@[simp] theorem setChase_mem (s : State) (n : Nat) (c : Chase) : (setChase s n c).mem = s.mem := rfl
@[simp] theorem getCore_setChase (s : State) (n : Nat) (k : Chase) (c : CoreRef) :
    getCore (setChase s n k) c = getCore s c := rfl

/-! ### Fault items -/

@[simp] theorem raise_regs (s : State) (it : FaultItem) : (raise s it).regs = s.regs := rfl
@[simp] theorem raise_cores (s : State) (it : FaultItem) : (raise s it).cores = s.cores := rfl
@[simp] theorem raise_chases (s : State) (it : FaultItem) : (raise s it).chases = s.chases := rfl
@[simp] theorem raise_mem (s : State) (it : FaultItem) : (raise s it).mem = s.mem := rfl

/-! ### Lanes and bytes -/

theorem leBytes_length (n v : Nat) : (leBytes n v).length = n := by
  induction n generalizing v with
  | zero => rfl
  | succ n ih => simp [leBytes, ih]

/-- The low bytes of a number read back as the number, cut to them. -/
theorem leNat_leBytes (n v : Nat) : leNat (leBytes n v) = v % 256 ^ n := by
  induction n generalizing v with
  | zero => simp [leBytes, leNat, Nat.mod_one]
  | succ n ih =>
    have h : leNat (leBytes (n + 1) v) = v % 256 + 256 * leNat (leBytes n (v / 256)) := by
      simp [leBytes, leNat]
    rw [h, ih, Nat.pow_succ', Nat.mod_mul]

/-- A field of `n` bytes that stands at its offset is read there. -/
theorem leAt_append (p q : List Byte) (n v : Nat) : leAt (p ++ (leBytes n v ++ q)) p.length n = v % 256 ^ n := by
  unfold leAt slice
  simp [leBytes_length, leNat_leBytes]

theorem flatMap_length_const {α β : Type} (f : α → List β) (n : Nat) (h : ∀ a, (f a).length = n) (l : List α) :
    (l.flatMap f).length = n * l.length := by
  induction l with
  | nil => simp
  | cons a l ih => simp [h a, ih, Nat.mul_succ, Nat.add_comm]

theorem laneRow_length (f : VFmt) (ls : List Nat) : (laneRow f ls).length = laneBytes f * ls.length :=
  flatMap_length_const _ _ (fun _ => leBytes_length _ _) ls

theorem lanesOf_length (f : VFmt) (bs : List Byte) : (lanesOf f bs).length = laneCount f := by simp [lanesOf]

/-! ### Poison marks -/

theorem mem_addOnce {α : Type} [DecidableEq α] (l : List α) (x y : α) : y ∈ addOnce l x ↔ y ∈ l ∨ y = x := by
  unfold addOnce
  split_ifs with h
  · constructor
    · exact Or.inl
    · rintro (h' | rfl)
      · exact h'
      · exact h
  · simp

theorem mem_foldl_addOnce (ws l : List Nat) (w : Nat) : w ∈ ws.foldl addOnce l ↔ w ∈ l ∨ w ∈ ws := by
  induction ws generalizing l with
  | nil => simp
  | cons a ws ih => rw [List.foldl_cons, ih, mem_addOnce]; simp [or_assoc]

theorem markWrite_marksBut (l : List Nat) (a n : Nat) (p : Bool) : MarksBut l (markWrite l a n p) a n := by
  intro w hw
  unfold markWrite
  split_ifs
  · rw [mem_foldl_addOnce]; simp [hw]
  · simp only [List.mem_filter, wholeWords, List.contains_eq_mem, List.mem_filter]
    simp [hw]

/-- A poisoned write of at least one byte poisons what is read back. -/
theorem anyPoison_markWrite (l : List Nat) {a n m : Nat} (hn : 0 < n) (hm : n ≤ m) :
    anyPoison (markWrite l a n true) a m = true := by
  unfold anyPoison markWrite
  rw [List.any_eq_true]
  have h1 : ∀ m, 0 < m → a / 64 ∈ wordsOf a m := fun m hm => by
    unfold wordsOf
    refine List.mem_map.2 ⟨0, List.mem_range.2 ?_, by simp⟩
    have : a / 64 + 1 ≤ (a + m + 63) / 64 := by omega
    omega
  refine ⟨a / 64, h1 m (by omega), ?_⟩
  simp [mem_foldl_addOnce, h1 n hn]

/-! ### Rows -/

theorem memReadBytes_take (m : Memory) (a : Nat) {n k : Nat} (h : k ≤ n) :
    (memReadBytes m a n).take k = memReadBytes m a k := by
  simp [memReadBytes, ← List.map_take, List.take_range, Nat.min_eq_left h]

theorem slice_take (l : List Byte) {n m : Nat} (h : n ≤ m) (hl : n ≤ l.length) : (slice l 0 m).take n = l.take n := by
  simp only [slice, List.drop_zero]
  rw [List.take_append_of_le_length (by simp; omega), List.take_take, Nat.min_eq_left h]

theorem slice_length (l : List Byte) (o n : Nat) : (slice l o n).length = n := by
  simp only [slice, List.length_append, List.length_take, List.length_drop, List.length_replicate]
  omega

/-- What a write over a static slot leaves there and elsewhere. -/
theorem slotWrite_same (m : KMap Flit) {i : Nat} (hi : i < 128) (bs : List Byte) (p : Bool) :
    ∃ f, kget? (slotWrite m i bs p) i = some f ∧ (bs.length ≤ 64 → (slice f.payload 0 64).take bs.length = bs) ∧
      (p = true → f.poison = true) := by
  unfold slotWrite
  rw [Nat.mod_eq_of_lt hi]
  refine ⟨_, kget?_kset_same _ _ _, fun h => ?_, fun hp => by simp [hp]⟩
  rw [slice_take _ h (by rw [slice_length]; omega), slice_take _ (by omega) (by simp)]
  simp

theorem slotWrite_ne (m : KMap Flit) {i j : Nat} (hij : j ≠ i % 128) (bs : List Byte) (p : Bool) :
    kget? (slotWrite m i bs p) j = kget? m j := kget?_kset_ne _ _ hij

theorem slotWrite_agree {m m' : KMap Flit} {ks : List Nat} (h : AgreeBut m m' ks) {i : Nat} (hi : i % 128 ∈ ks)
    (bs : List Byte) (p : Bool) : AgreeBut m (slotWrite m' i bs p) ks := fun j hj => by
  rw [slotWrite_ne m' (i := i) (fun e : j = i % 128 => hj (e.symm ▸ hi)), h j hj]

/-- A row laid over two neighbouring static slots is read there. -/
theorem slotRow_written (m : KMap Flit) {i : Nat} (hi : i < 128) (bs : List Byte) (p : Bool) (h : bs.length ≤ 128) :
    let m1 := slotWrite m i (bs.take 64) p
    let r := slotRow (if 64 < bs.length then slotWrite m1 (i + 1) (bs.drop 64) p else m1) i
    r.bytes.take bs.length = bs ∧ (p = true → r.poison = true) := by
  intro m1 r
  obtain ⟨f, hf, hb, hp⟩ := slotWrite_same m hi (bs.take 64) p
  have hb := hb (by simp)
  have e0 : i % 128 = i := Nat.mod_eq_of_lt hi
  have ne : i ≠ (i + 1) % 128 := by omega
  by_cases h64 : 64 < bs.length
  · obtain ⟨g, hg, hgb, _⟩ := slotWrite_same m1 (i := (i + 1) % 128) (Nat.mod_lt _ (by omega)) (bs.drop 64) p
    have hgb := hgb (by simp; omega)
    have hg' : kget? (slotWrite m1 (i + 1) (bs.drop 64) p) ((i + 1) % 128) = some g := by
      have : slotWrite m1 (i + 1) (bs.drop 64) p = slotWrite m1 ((i + 1) % 128) (bs.drop 64) p := by simp [slotWrite]
      rw [this]; exact hg
    have hf' : kget? (slotWrite m1 (i + 1) (bs.drop 64) p) i = some f := by rw [slotWrite_ne _ ne]; exact hf
    have hl : (bs.take 64).length = 64 := by simp; omega
    rw [hl] at hb
    have hb' : slice f.payload 0 64 = bs.take 64 := by
      rw [← hb, List.take_of_length_le (by rw [slice_length])]
    have hr : r = ⟨slice f.payload 0 64 ++ slice g.payload 0 64, f.poison || g.poison⟩ := by
      simp only [r, if_pos h64, slotRow, e0, hf', hg']; rfl
    rw [hr]
    refine ⟨?_, fun h => by simp [hp h]⟩
    show List.take _ (slice f.payload 0 64 ++ _) = _
    rw [hb', List.take_append, hl, List.take_of_length_le (by rw [hl]; omega)]
    have : bs.length - 64 = (bs.drop 64).length := by simp
    rw [this, hgb, List.take_append_drop]
  · have hl : bs.take 64 = bs := List.take_of_length_le (by omega)
    rw [hl] at hb hf
    have hr : r = ⟨slice f.payload 0 64 ++ slice (((kget? m1 ((i + 1) % 128)).map Flit.payload).getD []) 0 64,
        f.poison || (kget? m1 ((i + 1) % 128)).any Flit.poison⟩ := by
      simp only [r, if_neg h64, slotRow, e0, m1, hl, hf]; rfl
    rw [hr]
    refine ⟨?_, fun h => by simp [hp h]⟩
    show List.take _ (slice f.payload 0 64 ++ _) = _
    rw [List.take_append_of_le_length (by rw [slice_length]; omega), hb]

theorem mem_wholeWords {a n w : Nat} (h : w ∈ wholeWords a n) : w ∈ wordsOf a n := (List.mem_filter.1 h).1

/-- What a write of a destination row does. -/
theorem putRow_written (s : State) (c : CoreRef) (d : VRow) (bs : List Byte) (p : Bool) (h0 : 0 < bs.length)
    (h : bs.length ≤ 128) : RowWritten s (.next (putRow s c d bs p)) c d bs p := by
  refine ⟨_, rfl, fun hd => ⟨?_, ?_⟩, ?_⟩
  · cases d with
    | store a =>
      show List.take _ (memReadBytes _ _ 128) = bs
      rw [memReadBytes_take _ _ h]; exact memReadBytes_memWriteBytes _ _ _
    | reg r => simp [putRow, getRow, fileRow, Core.fresh]
    | recv i => exact absurd rfl (hd i)
    | send i =>
      have := (slotRow_written (getCore s c).sendFile i.isLt bs p h).1
      simpa [putRow, getRow, Core.fresh] using this
  · intro hp
    cases d with
    | store a => subst hp; exact anyPoison_markWrite _ h0 h
    | reg r => simp [putRow, getRow, fileRow, hp, Core.fresh]
    | recv i => exact absurd rfl (hd i)
    | send i =>
      have := (slotRow_written (getCore s c).sendFile i.isLt bs p h).2 hp
      simpa [putRow, getRow, Core.fresh] using this
  · cases d with
    | store a =>
      refine ⟨rfl, fun e he => ?_, fun x hx => memRead_memWriteBytes_out _ _ _ hx, markWrite_marksBut _ _ _ _⟩
      simp only [putRow, storeWrite, List.mem_filter]
      exact ⟨fun h => h.1, fun h => ⟨h, by simpa using fun hw => he (mem_wholeWords hw)⟩⟩
    | reg r =>
      refine ⟨?_, ?_⟩
      · simp [putRow, modCore, Core.fresh]
      · simp only [putRow, getCore_modCore, Core.fresh]
        exact agreeBut_kset (agreeBut_refl _ _) _ (by simp)
    | recv i => rfl
    | send i =>
      refine ⟨?_, ?_⟩
      · simp [putRow, modCore, Core.fresh]
      · simp only [putRow, getCore_modCore, Core.fresh]
        split
        · exact slotWrite_agree (slotWrite_agree (agreeBut_refl _ _) (by simp [Nat.mod_eq_of_lt i.isLt]) _ _) (by simp) _ _
        · exact slotWrite_agree (agreeBut_refl _ _) (by simp [Nat.mod_eq_of_lt i.isLt]) _ _

/-- What a core may access does not depend on where its program stands. -/
@[simp] theorem rowFault_passOp (s : State) (c d : CoreRef) : rowFault (passOp s c) d = rowFault s d := by
  funext r
  cases r <;> rfl

@[simp] theorem accessFault_passOp (s : State) (c d : CoreRef) (a n : Nat) :
    accessFault (passOp s c) d a n = accessFault s d a n := rfl

/-- An operation that its core executes does its effect, where the core has gone on. -/
theorem asOp_runs {s : State} {c : CoreRef} {op : Nat} (f : State → State) (h : runs s c op = true) :
    asOp s c op f = f (passOp s c) := by
  unfold asOp
  rw [if_pos h]

/-- An operation on rows that can be accessed, in a core that executes it, does its own effect. -/
theorem withRows_ready {s : State} {o : OpAt} {op : Nat} {srcs dsts : List VRow} (f : State → State)
    (h : Ready s o.core op (srcs ++ dsts)) : withRows s o op srcs dsts f = f (atWork s o srcs) := by
  unfold withRows
  rw [asOp_runs _ h.1, rowFault_passOp]
  have : (srcs ++ dsts).findSome? (rowFault s o.core) = none := List.findSome?_eq_none_iff.2 h.2
  rw [this]
  rfl

/-- What a lane-wise operation does: it answers with its destination row written from the rows as their reads leave
them. -/
theorem vecLanes_written (s : State) (o : VOp) (op : Nat) (srcs : List VRow) (g : List (List Nat) → List Nat)
    (h : Ready s o.core op (srcs ++ [o.dst]))
    (hl : ∀ ls, ls.length = srcs.length → (∀ l ∈ ls, l.length = laneCount o.fmt) → (g ls).length = laneCount o.fmt) :
    RowWritten (atWork s (vopAt o) srcs) (.next (vecLanes s o op srcs g)) o.core o.dst
      (laneRow o.fmt (g (srcs.map (fun r => rowLanes (atWork s (vopAt o) srcs) o r))))
      (rowsPoisoned (atWork s (vopAt o) srcs) o srcs) := by
  unfold vecLanes
  rw [withRows_ready (o := vopAt o) _ h]
  have e : (laneRow o.fmt (g (srcs.map (fun r => rowLanes (atWork s (vopAt o) srcs) o r)))).length = 128 := by
    rw [laneRow_length, hl]
    · cases o.fmt <;> rfl
    · simp
    · intro l hl
      rw [List.mem_map] at hl
      obtain ⟨r, _, rfl⟩ := hl
      exact lanesOf_length _ _
  exact putRow_written _ _ _ _ _
    (by show 0 < (laneRow o.fmt (g (srcs.map (fun r => rowLanes (atWork s (vopAt o) srcs) o r)))).length; omega) (le_of_eq e)

/-- Reads that find no error change nothing. -/
theorem meetFile_clean (s : State) (c : CoreRef) (u : Nat) (l : List Nat) (h : ∀ i ∈ l, (u, i) ∉ (getCore s c).parity) :
    meetFile s c u l = s := by
  unfold meetFile
  rw [List.filter_eq_nil_iff.2]
  · rfl
  · intro i hi
    simpa using h i hi

theorem meetRow_clean (s : State) (c : CoreRef) (a : Nat) (h : ∀ w ∈ wordsAt a 128, errsAt s c w = []) (who : Who) :
    meetRow s c a who = s := by
  unfold meetRow
  have h1 : slowCycles s c a 128 = 0 := by
    unfold slowCycles
    rw [List.countP_eq_zero.2]
    intro w hw
    simp [h w hw]
  have h2 : meetNarrow s c a 128 = s := by
    unfold meetNarrow
    generalize wordsAt a 128 = l at h
    induction l with
    | nil => rfl
    | cons w l ih =>
      rw [List.foldl_cons]
      have : meetWord s c w = s := by
        unfold meetWord
        rw [h w List.mem_cons_self]; rfl
      rw [this]
      exact ih (fun x hx => h x (List.mem_cons_of_mem _ hx))
  rw [h1, h2]
  simp [holdFor]

theorem meetRows_clean (c : CoreRef) (who : Who) (rows : List VRow) (s : State) (h : ∀ r ∈ rows, RowClean s c r) :
    meetRows s c who rows = s := by
  unfold meetRows
  induction rows with
  | nil => rfl
  | cons r rows ih =>
    rw [List.foldl_cons]
    have hr := h r List.mem_cons_self
    have : meetOperand s c who r = s := by
      cases r with
      | store a => exact meetRow_clean s c _ hr _
      | reg r => exact meetFile_clean _ _ _ _ (by simpa [RowClean] using hr)
      | recv i => exact meetFile_clean _ _ _ _ (by simpa [RowClean] using hr)
      | send i => exact meetFile_clean _ _ _ _ (by simpa [RowClean] using hr)
    rw [this]
    exact ih (fun x hx => h x (List.mem_cons_of_mem _ hx))

theorem Ready.sub {s : State} {c : CoreRef} {op : Nat} {l l' : List VRow} (h : Ready s c op l) (hl : ∀ r ∈ l', r ∈ l) :
    Ready s c op l' :=
  ⟨h.1, fun r hr => h.2 r (hl r hr)⟩

theorem onAccess_ok {s : State} {c : CoreRef} {a n : Nat} (who : Who) (f : State → State) (h : CanAccess s c a n) :
    onAccess s c a n who f = f s := by
  unfold onAccess; rw [h]

end Sys2Proof.Machine
end

