-- ==== Sys2Proof/Laws/Frames.lean ====
section
/-! SUPPORT. What the shared updates of State leave as it was: one lemma per update and field, beside those of Laws/State. -/

namespace Sys2Proof.Machine

@[simp] theorem setF_pending (s : State) (f : Fld) (v i k : Nat) : (setF s f v i k).pending = s.pending := rfl
@[simp] theorem setF_slew (s : State) (f : Fld) (v i k : Nat) : (setF s f v i k).slew = s.slew := rfl
@[simp] theorem setF_slewCycles (s : State) (f : Fld) (v i k : Nat) : (setF s f v i k).slewCycles = s.slewCycles := rfl
@[simp] theorem setF_syncs (s : State) (f : Fld) (v i k : Nat) : (setF s f v i k).syncs = s.syncs := rfl
@[simp] theorem setF_free (s : State) (f : Fld) (v i k : Nat) : (setF s f v i k).free = s.free := rfl
@[simp] theorem setF_fabric (s : State) (f : Fld) (v i k : Nat) : (setF s f v i k).fabric = s.fabric := rfl
@[simp] theorem setF_packets (s : State) (f : Fld) (v i k : Nat) : (setF s f v i k).packets = s.packets := rfl
@[simp] theorem setF_turns (s : State) (f : Fld) (v i k : Nat) : (setF s f v i k).turns = s.turns := rfl
@[simp] theorem setF_credits (s : State) (f : Fld) (v i k : Nat) : (setF s f v i k).credits = s.credits := rfl
@[simp] theorem setF_taken (s : State) (f : Fld) (v i k : Nat) : (setF s f v i k).taken = s.taken := rfl
@[simp] theorem setF_rim (s : State) (f : Fld) (v i k : Nat) : (setF s f v i k).rim = s.rim := rfl
@[simp] theorem setF_outliers (s : State) (f : Fld) (v i k : Nat) : (setF s f v i k).outliers = s.outliers := rfl
@[simp] theorem setF_errata (s : State) (f : Fld) (v i k : Nat) : (setF s f v i k).errata = s.errata := rfl
@[simp] theorem setF_kv (s : State) (f : Fld) (v i k : Nat) : (setF s f v i k).kv = s.kv := rfl
@[simp] theorem setF_golden (s : State) (f : Fld) (v i k : Nat) : (setF s f v i k).golden = s.golden := rfl
@[simp] theorem setF_formes (s : State) (f : Fld) (v i k : Nat) : (setF s f v i k).formes = s.formes := rfl
@[simp] theorem setF_loads (s : State) (f : Fld) (v i k : Nat) : (setF s f v i k).loads = s.loads := rfl
@[simp] theorem setF_slots (s : State) (f : Fld) (v i k : Nat) : (setF s f v i k).slots = s.slots := rfl
@[simp] theorem setF_cold (s : State) (f : Fld) (v i k : Nat) : (setF s f v i k).cold = s.cold := rfl
@[simp] theorem setF_tele (s : State) (f : Fld) (v i k : Nat) : (setF s f v i k).tele = s.tele := rfl
@[simp] theorem setF_keepers (s : State) (f : Fld) (v i k : Nat) : (setF s f v i k).keepers = s.keepers := rfl
@[simp] theorem setF_partner (s : State) (f : Fld) (v i k : Nat) : (setF s f v i k).partner = s.partner := rfl
@[simp] theorem setF_links (s : State) (f : Fld) (v i k : Nat) : (setF s f v i k).links = s.links := rfl
@[simp] theorem setF_stks (s : State) (f : Fld) (v i k : Nat) : (setF s f v i k).stks = s.stks := rfl
@[simp] theorem setF_pairs (s : State) (f : Fld) (v i k : Nat) : (setF s f v i k).pairs = s.pairs := rfl
@[simp] theorem setF_thermal (s : State) (f : Fld) (v i k : Nat) : (setF s f v i k).thermal = s.thermal := rfl
@[simp] theorem setF_power (s : State) (f : Fld) (v i k : Nat) : (setF s f v i k).power = s.power := rfl
@[simp] theorem setF_pins (s : State) (f : Fld) (v i k : Nat) : (setF s f v i k).pins = s.pins := rfl
@[simp] theorem setF_release (s : State) (f : Fld) (v i k : Nat) : (setF s f v i k).release = s.release := rfl
@[simp] theorem setF_blkReset (s : State) (f : Fld) (v i k : Nat) : (setF s f v i k).blkReset = s.blkReset := rfl
@[simp] theorem setF_mgmt (s : State) (f : Fld) (v i k : Nat) : (setF s f v i k).mgmt = s.mgmt := rfl
@[simp] theorem setF_keys (s : State) (f : Fld) (v i k : Nat) : (setF s f v i k).keys = s.keys := rfl
@[simp] theorem setF_lastSweep (s : State) (f : Fld) (v i k : Nat) : (setF s f v i k).lastSweep = s.lastSweep := rfl

@[simp] theorem addF_pending (s : State) (f : Fld) (n i k : Nat) : (addF s f n i k).pending = s.pending := rfl
@[simp] theorem addF_slew (s : State) (f : Fld) (n i k : Nat) : (addF s f n i k).slew = s.slew := rfl
@[simp] theorem addF_slewCycles (s : State) (f : Fld) (n i k : Nat) : (addF s f n i k).slewCycles = s.slewCycles := rfl
@[simp] theorem addF_syncs (s : State) (f : Fld) (n i k : Nat) : (addF s f n i k).syncs = s.syncs := rfl
@[simp] theorem addF_free (s : State) (f : Fld) (n i k : Nat) : (addF s f n i k).free = s.free := rfl
@[simp] theorem addF_io (s : State) (f : Fld) (n i k : Nat) : (addF s f n i k).io = s.io := rfl
@[simp] theorem addF_fabric (s : State) (f : Fld) (n i k : Nat) : (addF s f n i k).fabric = s.fabric := rfl
@[simp] theorem addF_packets (s : State) (f : Fld) (n i k : Nat) : (addF s f n i k).packets = s.packets := rfl
@[simp] theorem addF_turns (s : State) (f : Fld) (n i k : Nat) : (addF s f n i k).turns = s.turns := rfl
@[simp] theorem addF_credits (s : State) (f : Fld) (n i k : Nat) : (addF s f n i k).credits = s.credits := rfl
@[simp] theorem addF_taken (s : State) (f : Fld) (n i k : Nat) : (addF s f n i k).taken = s.taken := rfl
@[simp] theorem addF_rim (s : State) (f : Fld) (n i k : Nat) : (addF s f n i k).rim = s.rim := rfl
@[simp] theorem addF_outliers (s : State) (f : Fld) (n i k : Nat) : (addF s f n i k).outliers = s.outliers := rfl
@[simp] theorem addF_errata (s : State) (f : Fld) (n i k : Nat) : (addF s f n i k).errata = s.errata := rfl
@[simp] theorem addF_kv (s : State) (f : Fld) (n i k : Nat) : (addF s f n i k).kv = s.kv := rfl
@[simp] theorem addF_golden (s : State) (f : Fld) (n i k : Nat) : (addF s f n i k).golden = s.golden := rfl
@[simp] theorem addF_formes (s : State) (f : Fld) (n i k : Nat) : (addF s f n i k).formes = s.formes := rfl
@[simp] theorem addF_loads (s : State) (f : Fld) (n i k : Nat) : (addF s f n i k).loads = s.loads := rfl
@[simp] theorem addF_slots (s : State) (f : Fld) (n i k : Nat) : (addF s f n i k).slots = s.slots := rfl
@[simp] theorem addF_cold (s : State) (f : Fld) (n i k : Nat) : (addF s f n i k).cold = s.cold := rfl
@[simp] theorem addF_tele (s : State) (f : Fld) (n i k : Nat) : (addF s f n i k).tele = s.tele := rfl
@[simp] theorem addF_keepers (s : State) (f : Fld) (n i k : Nat) : (addF s f n i k).keepers = s.keepers := rfl
@[simp] theorem addF_partner (s : State) (f : Fld) (n i k : Nat) : (addF s f n i k).partner = s.partner := rfl
@[simp] theorem addF_links (s : State) (f : Fld) (n i k : Nat) : (addF s f n i k).links = s.links := rfl
@[simp] theorem addF_stks (s : State) (f : Fld) (n i k : Nat) : (addF s f n i k).stks = s.stks := rfl
@[simp] theorem addF_pairs (s : State) (f : Fld) (n i k : Nat) : (addF s f n i k).pairs = s.pairs := rfl
@[simp] theorem addF_thermal (s : State) (f : Fld) (n i k : Nat) : (addF s f n i k).thermal = s.thermal := rfl
@[simp] theorem addF_power (s : State) (f : Fld) (n i k : Nat) : (addF s f n i k).power = s.power := rfl
@[simp] theorem addF_pins (s : State) (f : Fld) (n i k : Nat) : (addF s f n i k).pins = s.pins := rfl
@[simp] theorem addF_release (s : State) (f : Fld) (n i k : Nat) : (addF s f n i k).release = s.release := rfl
@[simp] theorem addF_blkReset (s : State) (f : Fld) (n i k : Nat) : (addF s f n i k).blkReset = s.blkReset := rfl
@[simp] theorem addF_mgmt (s : State) (f : Fld) (n i k : Nat) : (addF s f n i k).mgmt = s.mgmt := rfl
@[simp] theorem addF_keys (s : State) (f : Fld) (n i k : Nat) : (addF s f n i k).keys = s.keys := rfl
@[simp] theorem addF_lastSweep (s : State) (f : Fld) (n i k : Nat) : (addF s f n i k).lastSweep = s.lastSweep := rfl

@[simp] theorem setCore_pending (s : State) (c : CoreRef) (k : Core) : (setCore s c k).pending = s.pending := rfl
@[simp] theorem setCore_lampTime (s : State) (c : CoreRef) (k : Core) : (setCore s c k).lampTime = s.lampTime := rfl
@[simp] theorem setCore_slew (s : State) (c : CoreRef) (k : Core) : (setCore s c k).slew = s.slew := rfl
@[simp] theorem setCore_slewCycles (s : State) (c : CoreRef) (k : Core) : (setCore s c k).slewCycles = s.slewCycles := rfl
@[simp] theorem setCore_syncs (s : State) (c : CoreRef) (k : Core) : (setCore s c k).syncs = s.syncs := rfl
@[simp] theorem setCore_free (s : State) (c : CoreRef) (k : Core) : (setCore s c k).free = s.free := rfl
@[simp] theorem setCore_io (s : State) (c : CoreRef) (k : Core) : (setCore s c k).io = s.io := rfl
@[simp] theorem setCore_fabric (s : State) (c : CoreRef) (k : Core) : (setCore s c k).fabric = s.fabric := rfl
@[simp] theorem setCore_packets (s : State) (c : CoreRef) (k : Core) : (setCore s c k).packets = s.packets := rfl
@[simp] theorem setCore_turns (s : State) (c : CoreRef) (k : Core) : (setCore s c k).turns = s.turns := rfl
@[simp] theorem setCore_credits (s : State) (c : CoreRef) (k : Core) : (setCore s c k).credits = s.credits := rfl
@[simp] theorem setCore_taken (s : State) (c : CoreRef) (k : Core) : (setCore s c k).taken = s.taken := rfl
@[simp] theorem setCore_rim (s : State) (c : CoreRef) (k : Core) : (setCore s c k).rim = s.rim := rfl
@[simp] theorem setCore_outliers (s : State) (c : CoreRef) (k : Core) : (setCore s c k).outliers = s.outliers := rfl
@[simp] theorem setCore_errata (s : State) (c : CoreRef) (k : Core) : (setCore s c k).errata = s.errata := rfl
@[simp] theorem setCore_serve (s : State) (c : CoreRef) (k : Core) : (setCore s c k).serve = s.serve := rfl
@[simp] theorem setCore_kv (s : State) (c : CoreRef) (k : Core) : (setCore s c k).kv = s.kv := rfl
@[simp] theorem setCore_golden (s : State) (c : CoreRef) (k : Core) : (setCore s c k).golden = s.golden := rfl
@[simp] theorem setCore_formes (s : State) (c : CoreRef) (k : Core) : (setCore s c k).formes = s.formes := rfl
@[simp] theorem setCore_loads (s : State) (c : CoreRef) (k : Core) : (setCore s c k).loads = s.loads := rfl
@[simp] theorem setCore_slots (s : State) (c : CoreRef) (k : Core) : (setCore s c k).slots = s.slots := rfl
@[simp] theorem setCore_cold (s : State) (c : CoreRef) (k : Core) : (setCore s c k).cold = s.cold := rfl
@[simp] theorem setCore_tele (s : State) (c : CoreRef) (k : Core) : (setCore s c k).tele = s.tele := rfl
@[simp] theorem setCore_keepers (s : State) (c : CoreRef) (k : Core) : (setCore s c k).keepers = s.keepers := rfl
@[simp] theorem setCore_partner (s : State) (c : CoreRef) (k : Core) : (setCore s c k).partner = s.partner := rfl
@[simp] theorem setCore_links (s : State) (c : CoreRef) (k : Core) : (setCore s c k).links = s.links := rfl
@[simp] theorem setCore_stks (s : State) (c : CoreRef) (k : Core) : (setCore s c k).stks = s.stks := rfl
@[simp] theorem setCore_pairs (s : State) (c : CoreRef) (k : Core) : (setCore s c k).pairs = s.pairs := rfl
@[simp] theorem setCore_thermal (s : State) (c : CoreRef) (k : Core) : (setCore s c k).thermal = s.thermal := rfl
@[simp] theorem setCore_power (s : State) (c : CoreRef) (k : Core) : (setCore s c k).power = s.power := rfl
@[simp] theorem setCore_pins (s : State) (c : CoreRef) (k : Core) : (setCore s c k).pins = s.pins := rfl
@[simp] theorem setCore_release (s : State) (c : CoreRef) (k : Core) : (setCore s c k).release = s.release := rfl
@[simp] theorem setCore_blkReset (s : State) (c : CoreRef) (k : Core) : (setCore s c k).blkReset = s.blkReset := rfl
@[simp] theorem setCore_mgmt (s : State) (c : CoreRef) (k : Core) : (setCore s c k).mgmt = s.mgmt := rfl
@[simp] theorem setCore_keys (s : State) (c : CoreRef) (k : Core) : (setCore s c k).keys = s.keys := rfl
@[simp] theorem setCore_lastSweep (s : State) (c : CoreRef) (k : Core) : (setCore s c k).lastSweep = s.lastSweep := rfl

@[simp] theorem modCore_pending (s : State) (c : CoreRef) (f : Core → Core) : (modCore s c f).pending = s.pending := rfl
@[simp] theorem modCore_lampTime (s : State) (c : CoreRef) (f : Core → Core) : (modCore s c f).lampTime = s.lampTime := rfl
@[simp] theorem modCore_slew (s : State) (c : CoreRef) (f : Core → Core) : (modCore s c f).slew = s.slew := rfl
@[simp] theorem modCore_slewCycles (s : State) (c : CoreRef) (f : Core → Core) : (modCore s c f).slewCycles = s.slewCycles := rfl
@[simp] theorem modCore_syncs (s : State) (c : CoreRef) (f : Core → Core) : (modCore s c f).syncs = s.syncs := rfl
@[simp] theorem modCore_free (s : State) (c : CoreRef) (f : Core → Core) : (modCore s c f).free = s.free := rfl
@[simp] theorem modCore_io (s : State) (c : CoreRef) (f : Core → Core) : (modCore s c f).io = s.io := rfl
@[simp] theorem modCore_fabric (s : State) (c : CoreRef) (f : Core → Core) : (modCore s c f).fabric = s.fabric := rfl
@[simp] theorem modCore_packets (s : State) (c : CoreRef) (f : Core → Core) : (modCore s c f).packets = s.packets := rfl
@[simp] theorem modCore_turns (s : State) (c : CoreRef) (f : Core → Core) : (modCore s c f).turns = s.turns := rfl
@[simp] theorem modCore_credits (s : State) (c : CoreRef) (f : Core → Core) : (modCore s c f).credits = s.credits := rfl
@[simp] theorem modCore_taken (s : State) (c : CoreRef) (f : Core → Core) : (modCore s c f).taken = s.taken := rfl
@[simp] theorem modCore_rim (s : State) (c : CoreRef) (f : Core → Core) : (modCore s c f).rim = s.rim := rfl
@[simp] theorem modCore_outliers (s : State) (c : CoreRef) (f : Core → Core) : (modCore s c f).outliers = s.outliers := rfl
@[simp] theorem modCore_errata (s : State) (c : CoreRef) (f : Core → Core) : (modCore s c f).errata = s.errata := rfl
@[simp] theorem modCore_serve (s : State) (c : CoreRef) (f : Core → Core) : (modCore s c f).serve = s.serve := rfl
@[simp] theorem modCore_kv (s : State) (c : CoreRef) (f : Core → Core) : (modCore s c f).kv = s.kv := rfl
@[simp] theorem modCore_golden (s : State) (c : CoreRef) (f : Core → Core) : (modCore s c f).golden = s.golden := rfl
@[simp] theorem modCore_formes (s : State) (c : CoreRef) (f : Core → Core) : (modCore s c f).formes = s.formes := rfl
@[simp] theorem modCore_loads (s : State) (c : CoreRef) (f : Core → Core) : (modCore s c f).loads = s.loads := rfl
@[simp] theorem modCore_slots (s : State) (c : CoreRef) (f : Core → Core) : (modCore s c f).slots = s.slots := rfl
@[simp] theorem modCore_cold (s : State) (c : CoreRef) (f : Core → Core) : (modCore s c f).cold = s.cold := rfl
@[simp] theorem modCore_tele (s : State) (c : CoreRef) (f : Core → Core) : (modCore s c f).tele = s.tele := rfl
@[simp] theorem modCore_keepers (s : State) (c : CoreRef) (f : Core → Core) : (modCore s c f).keepers = s.keepers := rfl
@[simp] theorem modCore_partner (s : State) (c : CoreRef) (f : Core → Core) : (modCore s c f).partner = s.partner := rfl
@[simp] theorem modCore_links (s : State) (c : CoreRef) (f : Core → Core) : (modCore s c f).links = s.links := rfl
@[simp] theorem modCore_stks (s : State) (c : CoreRef) (f : Core → Core) : (modCore s c f).stks = s.stks := rfl
@[simp] theorem modCore_pairs (s : State) (c : CoreRef) (f : Core → Core) : (modCore s c f).pairs = s.pairs := rfl
@[simp] theorem modCore_thermal (s : State) (c : CoreRef) (f : Core → Core) : (modCore s c f).thermal = s.thermal := rfl
@[simp] theorem modCore_power (s : State) (c : CoreRef) (f : Core → Core) : (modCore s c f).power = s.power := rfl
@[simp] theorem modCore_pins (s : State) (c : CoreRef) (f : Core → Core) : (modCore s c f).pins = s.pins := rfl
@[simp] theorem modCore_release (s : State) (c : CoreRef) (f : Core → Core) : (modCore s c f).release = s.release := rfl
@[simp] theorem modCore_blkReset (s : State) (c : CoreRef) (f : Core → Core) : (modCore s c f).blkReset = s.blkReset := rfl
@[simp] theorem modCore_mgmt (s : State) (c : CoreRef) (f : Core → Core) : (modCore s c f).mgmt = s.mgmt := rfl
@[simp] theorem modCore_keys (s : State) (c : CoreRef) (f : Core → Core) : (modCore s c f).keys = s.keys := rfl
@[simp] theorem modCore_lastSweep (s : State) (c : CoreRef) (f : Core → Core) : (modCore s c f).lastSweep = s.lastSweep := rfl

@[simp] theorem setChase_pending (s : State) (n : Nat) (c : Chase) : (setChase s n c).pending = s.pending := rfl
@[simp] theorem setChase_lampTime (s : State) (n : Nat) (c : Chase) : (setChase s n c).lampTime = s.lampTime := rfl
@[simp] theorem setChase_slew (s : State) (n : Nat) (c : Chase) : (setChase s n c).slew = s.slew := rfl
@[simp] theorem setChase_slewCycles (s : State) (n : Nat) (c : Chase) : (setChase s n c).slewCycles = s.slewCycles := rfl
@[simp] theorem setChase_syncs (s : State) (n : Nat) (c : Chase) : (setChase s n c).syncs = s.syncs := rfl
@[simp] theorem setChase_free (s : State) (n : Nat) (c : Chase) : (setChase s n c).free = s.free := rfl
@[simp] theorem setChase_io (s : State) (n : Nat) (c : Chase) : (setChase s n c).io = s.io := rfl
@[simp] theorem setChase_fabric (s : State) (n : Nat) (c : Chase) : (setChase s n c).fabric = s.fabric := rfl
@[simp] theorem setChase_packets (s : State) (n : Nat) (c : Chase) : (setChase s n c).packets = s.packets := rfl
@[simp] theorem setChase_turns (s : State) (n : Nat) (c : Chase) : (setChase s n c).turns = s.turns := rfl
@[simp] theorem setChase_credits (s : State) (n : Nat) (c : Chase) : (setChase s n c).credits = s.credits := rfl
@[simp] theorem setChase_taken (s : State) (n : Nat) (c : Chase) : (setChase s n c).taken = s.taken := rfl
@[simp] theorem setChase_rim (s : State) (n : Nat) (c : Chase) : (setChase s n c).rim = s.rim := rfl
@[simp] theorem setChase_outliers (s : State) (n : Nat) (c : Chase) : (setChase s n c).outliers = s.outliers := rfl
@[simp] theorem setChase_faults (s : State) (n : Nat) (c : Chase) : (setChase s n c).faults = s.faults := rfl
@[simp] theorem setChase_errata (s : State) (n : Nat) (c : Chase) : (setChase s n c).errata = s.errata := rfl
@[simp] theorem setChase_serve (s : State) (n : Nat) (c : Chase) : (setChase s n c).serve = s.serve := rfl
@[simp] theorem setChase_kv (s : State) (n : Nat) (c : Chase) : (setChase s n c).kv = s.kv := rfl
@[simp] theorem setChase_golden (s : State) (n : Nat) (c : Chase) : (setChase s n c).golden = s.golden := rfl
@[simp] theorem setChase_formes (s : State) (n : Nat) (c : Chase) : (setChase s n c).formes = s.formes := rfl
@[simp] theorem setChase_loads (s : State) (n : Nat) (c : Chase) : (setChase s n c).loads = s.loads := rfl
@[simp] theorem setChase_slots (s : State) (n : Nat) (c : Chase) : (setChase s n c).slots = s.slots := rfl
@[simp] theorem setChase_cold (s : State) (n : Nat) (c : Chase) : (setChase s n c).cold = s.cold := rfl
@[simp] theorem setChase_tele (s : State) (n : Nat) (c : Chase) : (setChase s n c).tele = s.tele := rfl
@[simp] theorem setChase_keepers (s : State) (n : Nat) (c : Chase) : (setChase s n c).keepers = s.keepers := rfl
@[simp] theorem setChase_partner (s : State) (n : Nat) (c : Chase) : (setChase s n c).partner = s.partner := rfl
@[simp] theorem setChase_links (s : State) (n : Nat) (c : Chase) : (setChase s n c).links = s.links := rfl
@[simp] theorem setChase_stks (s : State) (n : Nat) (c : Chase) : (setChase s n c).stks = s.stks := rfl
@[simp] theorem setChase_pairs (s : State) (n : Nat) (c : Chase) : (setChase s n c).pairs = s.pairs := rfl
@[simp] theorem setChase_thermal (s : State) (n : Nat) (c : Chase) : (setChase s n c).thermal = s.thermal := rfl
@[simp] theorem setChase_power (s : State) (n : Nat) (c : Chase) : (setChase s n c).power = s.power := rfl
@[simp] theorem setChase_pins (s : State) (n : Nat) (c : Chase) : (setChase s n c).pins = s.pins := rfl
@[simp] theorem setChase_release (s : State) (n : Nat) (c : Chase) : (setChase s n c).release = s.release := rfl
@[simp] theorem setChase_blkReset (s : State) (n : Nat) (c : Chase) : (setChase s n c).blkReset = s.blkReset := rfl
@[simp] theorem setChase_mgmt (s : State) (n : Nat) (c : Chase) : (setChase s n c).mgmt = s.mgmt := rfl
@[simp] theorem setChase_keys (s : State) (n : Nat) (c : Chase) : (setChase s n c).keys = s.keys := rfl
@[simp] theorem setChase_lastSweep (s : State) (n : Nat) (c : Chase) : (setChase s n c).lastSweep = s.lastSweep := rfl

@[simp] theorem modChase_pending (s : State) (n : Nat) (f : Chase → Chase) : (modChase s n f).pending = s.pending := rfl
@[simp] theorem modChase_lampTime (s : State) (n : Nat) (f : Chase → Chase) : (modChase s n f).lampTime = s.lampTime := rfl
@[simp] theorem modChase_slew (s : State) (n : Nat) (f : Chase → Chase) : (modChase s n f).slew = s.slew := rfl
@[simp] theorem modChase_slewCycles (s : State) (n : Nat) (f : Chase → Chase) : (modChase s n f).slewCycles = s.slewCycles := rfl
@[simp] theorem modChase_syncs (s : State) (n : Nat) (f : Chase → Chase) : (modChase s n f).syncs = s.syncs := rfl
@[simp] theorem modChase_free (s : State) (n : Nat) (f : Chase → Chase) : (modChase s n f).free = s.free := rfl
@[simp] theorem modChase_regs (s : State) (n : Nat) (f : Chase → Chase) : (modChase s n f).regs = s.regs := rfl
@[simp] theorem modChase_io (s : State) (n : Nat) (f : Chase → Chase) : (modChase s n f).io = s.io := rfl
@[simp] theorem modChase_mem (s : State) (n : Nat) (f : Chase → Chase) : (modChase s n f).mem = s.mem := rfl
@[simp] theorem modChase_cores (s : State) (n : Nat) (f : Chase → Chase) : (modChase s n f).cores = s.cores := rfl
@[simp] theorem modChase_fabric (s : State) (n : Nat) (f : Chase → Chase) : (modChase s n f).fabric = s.fabric := rfl
@[simp] theorem modChase_packets (s : State) (n : Nat) (f : Chase → Chase) : (modChase s n f).packets = s.packets := rfl
@[simp] theorem modChase_turns (s : State) (n : Nat) (f : Chase → Chase) : (modChase s n f).turns = s.turns := rfl
@[simp] theorem modChase_credits (s : State) (n : Nat) (f : Chase → Chase) : (modChase s n f).credits = s.credits := rfl
@[simp] theorem modChase_taken (s : State) (n : Nat) (f : Chase → Chase) : (modChase s n f).taken = s.taken := rfl
@[simp] theorem modChase_rim (s : State) (n : Nat) (f : Chase → Chase) : (modChase s n f).rim = s.rim := rfl
@[simp] theorem modChase_outliers (s : State) (n : Nat) (f : Chase → Chase) : (modChase s n f).outliers = s.outliers := rfl
@[simp] theorem modChase_faults (s : State) (n : Nat) (f : Chase → Chase) : (modChase s n f).faults = s.faults := rfl
@[simp] theorem modChase_errata (s : State) (n : Nat) (f : Chase → Chase) : (modChase s n f).errata = s.errata := rfl
@[simp] theorem modChase_serve (s : State) (n : Nat) (f : Chase → Chase) : (modChase s n f).serve = s.serve := rfl
@[simp] theorem modChase_kv (s : State) (n : Nat) (f : Chase → Chase) : (modChase s n f).kv = s.kv := rfl
@[simp] theorem modChase_golden (s : State) (n : Nat) (f : Chase → Chase) : (modChase s n f).golden = s.golden := rfl
@[simp] theorem modChase_formes (s : State) (n : Nat) (f : Chase → Chase) : (modChase s n f).formes = s.formes := rfl
@[simp] theorem modChase_loads (s : State) (n : Nat) (f : Chase → Chase) : (modChase s n f).loads = s.loads := rfl
@[simp] theorem modChase_slots (s : State) (n : Nat) (f : Chase → Chase) : (modChase s n f).slots = s.slots := rfl
@[simp] theorem modChase_cold (s : State) (n : Nat) (f : Chase → Chase) : (modChase s n f).cold = s.cold := rfl
@[simp] theorem modChase_tele (s : State) (n : Nat) (f : Chase → Chase) : (modChase s n f).tele = s.tele := rfl
@[simp] theorem modChase_keepers (s : State) (n : Nat) (f : Chase → Chase) : (modChase s n f).keepers = s.keepers := rfl
@[simp] theorem modChase_partner (s : State) (n : Nat) (f : Chase → Chase) : (modChase s n f).partner = s.partner := rfl
@[simp] theorem modChase_links (s : State) (n : Nat) (f : Chase → Chase) : (modChase s n f).links = s.links := rfl
@[simp] theorem modChase_stks (s : State) (n : Nat) (f : Chase → Chase) : (modChase s n f).stks = s.stks := rfl
@[simp] theorem modChase_pairs (s : State) (n : Nat) (f : Chase → Chase) : (modChase s n f).pairs = s.pairs := rfl
@[simp] theorem modChase_thermal (s : State) (n : Nat) (f : Chase → Chase) : (modChase s n f).thermal = s.thermal := rfl
@[simp] theorem modChase_power (s : State) (n : Nat) (f : Chase → Chase) : (modChase s n f).power = s.power := rfl
@[simp] theorem modChase_pins (s : State) (n : Nat) (f : Chase → Chase) : (modChase s n f).pins = s.pins := rfl
@[simp] theorem modChase_release (s : State) (n : Nat) (f : Chase → Chase) : (modChase s n f).release = s.release := rfl
@[simp] theorem modChase_blkReset (s : State) (n : Nat) (f : Chase → Chase) : (modChase s n f).blkReset = s.blkReset := rfl
@[simp] theorem modChase_mgmt (s : State) (n : Nat) (f : Chase → Chase) : (modChase s n f).mgmt = s.mgmt := rfl
@[simp] theorem modChase_keys (s : State) (n : Nat) (f : Chase → Chase) : (modChase s n f).keys = s.keys := rfl
@[simp] theorem modChase_lastSweep (s : State) (n : Nat) (f : Chase → Chase) : (modChase s n f).lastSweep = s.lastSweep := rfl

@[simp] theorem raise_pending (s : State) (it : FaultItem) : (raise s it).pending = s.pending := rfl
@[simp] theorem raise_lampTime (s : State) (it : FaultItem) : (raise s it).lampTime = s.lampTime := rfl
@[simp] theorem raise_slew (s : State) (it : FaultItem) : (raise s it).slew = s.slew := rfl
@[simp] theorem raise_slewCycles (s : State) (it : FaultItem) : (raise s it).slewCycles = s.slewCycles := rfl
@[simp] theorem raise_syncs (s : State) (it : FaultItem) : (raise s it).syncs = s.syncs := rfl
@[simp] theorem raise_free (s : State) (it : FaultItem) : (raise s it).free = s.free := rfl
@[simp] theorem raise_io (s : State) (it : FaultItem) : (raise s it).io = s.io := rfl
@[simp] theorem raise_fabric (s : State) (it : FaultItem) : (raise s it).fabric = s.fabric := rfl
@[simp] theorem raise_packets (s : State) (it : FaultItem) : (raise s it).packets = s.packets := rfl
@[simp] theorem raise_turns (s : State) (it : FaultItem) : (raise s it).turns = s.turns := rfl
@[simp] theorem raise_credits (s : State) (it : FaultItem) : (raise s it).credits = s.credits := rfl
@[simp] theorem raise_taken (s : State) (it : FaultItem) : (raise s it).taken = s.taken := rfl
@[simp] theorem raise_rim (s : State) (it : FaultItem) : (raise s it).rim = s.rim := rfl
@[simp] theorem raise_outliers (s : State) (it : FaultItem) : (raise s it).outliers = s.outliers := rfl
@[simp] theorem raise_errata (s : State) (it : FaultItem) : (raise s it).errata = s.errata := rfl
@[simp] theorem raise_serve (s : State) (it : FaultItem) : (raise s it).serve = s.serve := rfl
@[simp] theorem raise_kv (s : State) (it : FaultItem) : (raise s it).kv = s.kv := rfl
@[simp] theorem raise_golden (s : State) (it : FaultItem) : (raise s it).golden = s.golden := rfl
@[simp] theorem raise_formes (s : State) (it : FaultItem) : (raise s it).formes = s.formes := rfl
@[simp] theorem raise_loads (s : State) (it : FaultItem) : (raise s it).loads = s.loads := rfl
@[simp] theorem raise_slots (s : State) (it : FaultItem) : (raise s it).slots = s.slots := rfl
@[simp] theorem raise_cold (s : State) (it : FaultItem) : (raise s it).cold = s.cold := rfl
@[simp] theorem raise_tele (s : State) (it : FaultItem) : (raise s it).tele = s.tele := rfl
@[simp] theorem raise_keepers (s : State) (it : FaultItem) : (raise s it).keepers = s.keepers := rfl
@[simp] theorem raise_partner (s : State) (it : FaultItem) : (raise s it).partner = s.partner := rfl
@[simp] theorem raise_links (s : State) (it : FaultItem) : (raise s it).links = s.links := rfl
@[simp] theorem raise_stks (s : State) (it : FaultItem) : (raise s it).stks = s.stks := rfl
@[simp] theorem raise_pairs (s : State) (it : FaultItem) : (raise s it).pairs = s.pairs := rfl
@[simp] theorem raise_thermal (s : State) (it : FaultItem) : (raise s it).thermal = s.thermal := rfl
@[simp] theorem raise_power (s : State) (it : FaultItem) : (raise s it).power = s.power := rfl
@[simp] theorem raise_pins (s : State) (it : FaultItem) : (raise s it).pins = s.pins := rfl
@[simp] theorem raise_release (s : State) (it : FaultItem) : (raise s it).release = s.release := rfl
@[simp] theorem raise_blkReset (s : State) (it : FaultItem) : (raise s it).blkReset = s.blkReset := rfl
@[simp] theorem raise_mgmt (s : State) (it : FaultItem) : (raise s it).mgmt = s.mgmt := rfl
@[simp] theorem raise_keys (s : State) (it : FaultItem) : (raise s it).keys = s.keys := rfl
@[simp] theorem raise_lastSweep (s : State) (it : FaultItem) : (raise s it).lastSweep = s.lastSweep := rfl

@[simp] theorem modKv_pending (s : State) (f : Kv → Kv) : (modKv s f).pending = s.pending := rfl
@[simp] theorem modKv_lampTime (s : State) (f : Kv → Kv) : (modKv s f).lampTime = s.lampTime := rfl
@[simp] theorem modKv_slew (s : State) (f : Kv → Kv) : (modKv s f).slew = s.slew := rfl
@[simp] theorem modKv_slewCycles (s : State) (f : Kv → Kv) : (modKv s f).slewCycles = s.slewCycles := rfl
@[simp] theorem modKv_syncs (s : State) (f : Kv → Kv) : (modKv s f).syncs = s.syncs := rfl
@[simp] theorem modKv_free (s : State) (f : Kv → Kv) : (modKv s f).free = s.free := rfl
@[simp] theorem modKv_regs (s : State) (f : Kv → Kv) : (modKv s f).regs = s.regs := rfl
@[simp] theorem modKv_io (s : State) (f : Kv → Kv) : (modKv s f).io = s.io := rfl
@[simp] theorem modKv_mem (s : State) (f : Kv → Kv) : (modKv s f).mem = s.mem := rfl
@[simp] theorem modKv_cores (s : State) (f : Kv → Kv) : (modKv s f).cores = s.cores := rfl
@[simp] theorem modKv_chases (s : State) (f : Kv → Kv) : (modKv s f).chases = s.chases := rfl
@[simp] theorem modKv_fabric (s : State) (f : Kv → Kv) : (modKv s f).fabric = s.fabric := rfl
@[simp] theorem modKv_packets (s : State) (f : Kv → Kv) : (modKv s f).packets = s.packets := rfl
@[simp] theorem modKv_turns (s : State) (f : Kv → Kv) : (modKv s f).turns = s.turns := rfl
@[simp] theorem modKv_credits (s : State) (f : Kv → Kv) : (modKv s f).credits = s.credits := rfl
@[simp] theorem modKv_taken (s : State) (f : Kv → Kv) : (modKv s f).taken = s.taken := rfl
@[simp] theorem modKv_rim (s : State) (f : Kv → Kv) : (modKv s f).rim = s.rim := rfl
@[simp] theorem modKv_outliers (s : State) (f : Kv → Kv) : (modKv s f).outliers = s.outliers := rfl
@[simp] theorem modKv_faults (s : State) (f : Kv → Kv) : (modKv s f).faults = s.faults := rfl
@[simp] theorem modKv_errata (s : State) (f : Kv → Kv) : (modKv s f).errata = s.errata := rfl
@[simp] theorem modKv_serve (s : State) (f : Kv → Kv) : (modKv s f).serve = s.serve := rfl
@[simp] theorem modKv_golden (s : State) (f : Kv → Kv) : (modKv s f).golden = s.golden := rfl
@[simp] theorem modKv_formes (s : State) (f : Kv → Kv) : (modKv s f).formes = s.formes := rfl
@[simp] theorem modKv_loads (s : State) (f : Kv → Kv) : (modKv s f).loads = s.loads := rfl
@[simp] theorem modKv_slots (s : State) (f : Kv → Kv) : (modKv s f).slots = s.slots := rfl
@[simp] theorem modKv_cold (s : State) (f : Kv → Kv) : (modKv s f).cold = s.cold := rfl
@[simp] theorem modKv_tele (s : State) (f : Kv → Kv) : (modKv s f).tele = s.tele := rfl
@[simp] theorem modKv_keepers (s : State) (f : Kv → Kv) : (modKv s f).keepers = s.keepers := rfl
@[simp] theorem modKv_partner (s : State) (f : Kv → Kv) : (modKv s f).partner = s.partner := rfl
@[simp] theorem modKv_links (s : State) (f : Kv → Kv) : (modKv s f).links = s.links := rfl
@[simp] theorem modKv_stks (s : State) (f : Kv → Kv) : (modKv s f).stks = s.stks := rfl
@[simp] theorem modKv_pairs (s : State) (f : Kv → Kv) : (modKv s f).pairs = s.pairs := rfl
@[simp] theorem modKv_thermal (s : State) (f : Kv → Kv) : (modKv s f).thermal = s.thermal := rfl
@[simp] theorem modKv_power (s : State) (f : Kv → Kv) : (modKv s f).power = s.power := rfl
@[simp] theorem modKv_pins (s : State) (f : Kv → Kv) : (modKv s f).pins = s.pins := rfl
@[simp] theorem modKv_release (s : State) (f : Kv → Kv) : (modKv s f).release = s.release := rfl
@[simp] theorem modKv_blkReset (s : State) (f : Kv → Kv) : (modKv s f).blkReset = s.blkReset := rfl
@[simp] theorem modKv_mgmt (s : State) (f : Kv → Kv) : (modKv s f).mgmt = s.mgmt := rfl
@[simp] theorem modKv_keys (s : State) (f : Kv → Kv) : (modKv s f).keys = s.keys := rfl
@[simp] theorem modKv_lastSweep (s : State) (f : Kv → Kv) : (modKv s f).lastSweep = s.lastSweep := rfl

@[simp] theorem modCold_pending (s : State) (fi l : Nat) (g : ColdLayer → ColdLayer) : (modCold s fi l g).pending = s.pending := rfl
@[simp] theorem modCold_lampTime (s : State) (fi l : Nat) (g : ColdLayer → ColdLayer) : (modCold s fi l g).lampTime = s.lampTime := rfl
@[simp] theorem modCold_slew (s : State) (fi l : Nat) (g : ColdLayer → ColdLayer) : (modCold s fi l g).slew = s.slew := rfl
@[simp] theorem modCold_slewCycles (s : State) (fi l : Nat) (g : ColdLayer → ColdLayer) : (modCold s fi l g).slewCycles = s.slewCycles := rfl
@[simp] theorem modCold_syncs (s : State) (fi l : Nat) (g : ColdLayer → ColdLayer) : (modCold s fi l g).syncs = s.syncs := rfl
@[simp] theorem modCold_free (s : State) (fi l : Nat) (g : ColdLayer → ColdLayer) : (modCold s fi l g).free = s.free := rfl
@[simp] theorem modCold_regs (s : State) (fi l : Nat) (g : ColdLayer → ColdLayer) : (modCold s fi l g).regs = s.regs := rfl
@[simp] theorem modCold_io (s : State) (fi l : Nat) (g : ColdLayer → ColdLayer) : (modCold s fi l g).io = s.io := rfl
@[simp] theorem modCold_mem (s : State) (fi l : Nat) (g : ColdLayer → ColdLayer) : (modCold s fi l g).mem = s.mem := rfl
@[simp] theorem modCold_cores (s : State) (fi l : Nat) (g : ColdLayer → ColdLayer) : (modCold s fi l g).cores = s.cores := rfl
@[simp] theorem modCold_chases (s : State) (fi l : Nat) (g : ColdLayer → ColdLayer) : (modCold s fi l g).chases = s.chases := rfl
@[simp] theorem modCold_fabric (s : State) (fi l : Nat) (g : ColdLayer → ColdLayer) : (modCold s fi l g).fabric = s.fabric := rfl
@[simp] theorem modCold_packets (s : State) (fi l : Nat) (g : ColdLayer → ColdLayer) : (modCold s fi l g).packets = s.packets := rfl
@[simp] theorem modCold_turns (s : State) (fi l : Nat) (g : ColdLayer → ColdLayer) : (modCold s fi l g).turns = s.turns := rfl
@[simp] theorem modCold_credits (s : State) (fi l : Nat) (g : ColdLayer → ColdLayer) : (modCold s fi l g).credits = s.credits := rfl
@[simp] theorem modCold_taken (s : State) (fi l : Nat) (g : ColdLayer → ColdLayer) : (modCold s fi l g).taken = s.taken := rfl
@[simp] theorem modCold_rim (s : State) (fi l : Nat) (g : ColdLayer → ColdLayer) : (modCold s fi l g).rim = s.rim := rfl
@[simp] theorem modCold_outliers (s : State) (fi l : Nat) (g : ColdLayer → ColdLayer) : (modCold s fi l g).outliers = s.outliers := rfl
@[simp] theorem modCold_faults (s : State) (fi l : Nat) (g : ColdLayer → ColdLayer) : (modCold s fi l g).faults = s.faults := rfl
@[simp] theorem modCold_errata (s : State) (fi l : Nat) (g : ColdLayer → ColdLayer) : (modCold s fi l g).errata = s.errata := rfl
@[simp] theorem modCold_serve (s : State) (fi l : Nat) (g : ColdLayer → ColdLayer) : (modCold s fi l g).serve = s.serve := rfl
@[simp] theorem modCold_kv (s : State) (fi l : Nat) (g : ColdLayer → ColdLayer) : (modCold s fi l g).kv = s.kv := rfl
@[simp] theorem modCold_golden (s : State) (fi l : Nat) (g : ColdLayer → ColdLayer) : (modCold s fi l g).golden = s.golden := rfl
@[simp] theorem modCold_formes (s : State) (fi l : Nat) (g : ColdLayer → ColdLayer) : (modCold s fi l g).formes = s.formes := rfl
@[simp] theorem modCold_loads (s : State) (fi l : Nat) (g : ColdLayer → ColdLayer) : (modCold s fi l g).loads = s.loads := rfl
@[simp] theorem modCold_slots (s : State) (fi l : Nat) (g : ColdLayer → ColdLayer) : (modCold s fi l g).slots = s.slots := rfl
@[simp] theorem modCold_tele (s : State) (fi l : Nat) (g : ColdLayer → ColdLayer) : (modCold s fi l g).tele = s.tele := rfl
@[simp] theorem modCold_keepers (s : State) (fi l : Nat) (g : ColdLayer → ColdLayer) : (modCold s fi l g).keepers = s.keepers := rfl
@[simp] theorem modCold_partner (s : State) (fi l : Nat) (g : ColdLayer → ColdLayer) : (modCold s fi l g).partner = s.partner := rfl
@[simp] theorem modCold_links (s : State) (fi l : Nat) (g : ColdLayer → ColdLayer) : (modCold s fi l g).links = s.links := rfl
@[simp] theorem modCold_stks (s : State) (fi l : Nat) (g : ColdLayer → ColdLayer) : (modCold s fi l g).stks = s.stks := rfl
@[simp] theorem modCold_pairs (s : State) (fi l : Nat) (g : ColdLayer → ColdLayer) : (modCold s fi l g).pairs = s.pairs := rfl
@[simp] theorem modCold_thermal (s : State) (fi l : Nat) (g : ColdLayer → ColdLayer) : (modCold s fi l g).thermal = s.thermal := rfl
@[simp] theorem modCold_power (s : State) (fi l : Nat) (g : ColdLayer → ColdLayer) : (modCold s fi l g).power = s.power := rfl
@[simp] theorem modCold_pins (s : State) (fi l : Nat) (g : ColdLayer → ColdLayer) : (modCold s fi l g).pins = s.pins := rfl
@[simp] theorem modCold_release (s : State) (fi l : Nat) (g : ColdLayer → ColdLayer) : (modCold s fi l g).release = s.release := rfl
@[simp] theorem modCold_blkReset (s : State) (fi l : Nat) (g : ColdLayer → ColdLayer) : (modCold s fi l g).blkReset = s.blkReset := rfl
@[simp] theorem modCold_mgmt (s : State) (fi l : Nat) (g : ColdLayer → ColdLayer) : (modCold s fi l g).mgmt = s.mgmt := rfl
@[simp] theorem modCold_keys (s : State) (fi l : Nat) (g : ColdLayer → ColdLayer) : (modCold s fi l g).keys = s.keys := rfl
@[simp] theorem modCold_lastSweep (s : State) (fi l : Nat) (g : ColdLayer → ColdLayer) : (modCold s fi l g).lastSweep = s.lastSweep := rfl

end Sys2Proof.Machine
end

