-- ==== Sys2Proof/Laws/Kept.lean ====
section
/-! SUPPORT. That every operation of the block keeps the invariant, the keys and the waiting commands: what `Kept`
means, and the moves that the lemmas of Kept1 to Kept5 are made of. -/

namespace Sys2Proof.Machine

/-- The invariant holds, the keys are `k` and the waiting commands `q`. -/
def Kept (k : List (Nat × Nat × Nat)) (q : List Instr) (s : State) : Prop := Inv s ∧ s.keys = k ∧ s.pending = q
/-- An outcome that is a next state has `Kept`. -/
def KeptO (k : List (Nat × Nat × Nat)) (q : List Instr) : Host.Outcome State Fault Refusal → Prop
  | .next t => Kept k q t
  | _ => True
variable {kk : List (Nat × Nat × Nat)} {qq : List Instr}
theorem kept_next {t : State} (h : Kept kk qq t) : KeptO kk qq (.next t) := h
theorem kept_cut (v : State) {P : Prop} (hv : Kept kk qq v) (hb : Kept kk qq v → P) : P := hb hv
theorem kept_ite (c : Prop) [Decidable c] (a b : State) (ha : Kept kk qq a) (hb : Kept kk qq b) :
    Kept kk qq (if c then a else b) := by
  split
  · exact ha
  · exact hb
theorem kept_foldl {α : Type} (f : State → α → State) (l : List α) {s : State} (h : Kept kk qq s)
    (hf : ∀ t a, Kept kk qq t → Kept kk qq (f t a)) : Kept kk qq (l.foldl f s) := by
  induction l generalizing s with
  | nil => exact h
  | cons a l ih => exact ih (hf s a h)
theorem kept_upd {s : State} {lampTime_ : Nat} {slew_ : Int} {slewCycles_ : Nat} {syncs_ : List (Nat × Nat)} {free_ : Nat} {regs_ : KMap Nat} {io_ : Io} {cores_ : KMap Core} {chases_ : KMap Chase} {fabric_ : List FlitAt} {packets_ : List PacketAt} {turns_ : KMap Nat} {credits_ : List Credit} {taken_ : KMap Nat} {rim_ : List RimFlit} {outliers_ : List OutlierSet} {faults_items : List FaultItem} {faults_evidence : List FaultItem} {faults_suppress : List (Nat × Nat × Nat)} {faults_seen : List (Nat × Nat × Nat)} {faults_recoveries : List Recovery} {faults_lastReimpose : Option Nat} {errata_ : ErrataMap} {serve_queues : KMap Queue} {serve_streams : KMap Stream} {serve_tombstones : List Tombstone} {serve_convs : List Conv} {serve_convTombs : List (Nat × Nat × Nat)} {serve_convWait : List (Nat × Nat)} {serve_moorings : KMap Mooring} {serve_order : Nat} {serve_answered : List (Nat × Nat)} {kv_ : Kv} {golden_ : List Golden} {formes_ : KMap Forme} {loads_ : List Load} {slots_ : KMap Slot} {cold_ : List ColdLayer} {tele_held : List (List Byte)} {tele_groupHeld : List (List Byte)} {tele_gaps : KMap (List Nat)} {tele_tokens : KMap Nat} {tele_steps : KMap Nat} {tele_pairs : List UsagePair} {tele_open_ : List UsagePair} {tele_openSynced : Bool} {tele_nextLen : Nat} {tele_seq : Nat} {tele_experts : KMap ExpertCount} {keepers_ : Keepers} {partner_ : Partner} {links_ : KMap Link} {stks_ : KMap Stack} {pairs_ : KMap Pair} {thermal_ : Thermal} {power_ : Power} {pins_ : Pins} {release_ : Release} {blkReset_ : Option BlkReset} {mgmt_ : Mgmt} {lastSweep_ : Nat}
    (h : Kept kk qq s) : Kept kk qq ⟨s.pending, lampTime_, slew_, slewCycles_, syncs_, free_, regs_, io_, s.mem, cores_, chases_, fabric_, packets_, turns_, credits_, taken_, rim_, outliers_, ⟨faults_items, faults_evidence, s.faults.log, faults_suppress, faults_seen, faults_recoveries, faults_lastReimpose⟩, errata_, ⟨serve_queues, serve_streams, serve_tombstones, serve_convs, serve_convTombs, s.serve.convFifo, serve_convWait, serve_moorings, serve_order, serve_answered⟩, kv_, golden_, formes_, loads_, slots_, cold_, ⟨tele_held, tele_groupHeld, tele_gaps, tele_tokens, tele_steps, tele_pairs, tele_open_, tele_openSynced, s.tele.store, tele_nextLen, tele_seq, tele_experts⟩, keepers_, partner_, links_, stks_, pairs_, thermal_, power_, pins_, release_, blkReset_, mgmt_, s.keys, lastSweep_⟩ := h
theorem kept_updm {s : State} {lampTime_ : Nat} {slew_ : Int} {slewCycles_ : Nat} {syncs_ : List (Nat × Nat)} {free_ : Nat} {regs_ : KMap Nat} {io_ : Io} {cores_ : KMap Core} {chases_ : KMap Chase} {fabric_ : List FlitAt} {packets_ : List PacketAt} {turns_ : KMap Nat} {credits_ : List Credit} {taken_ : KMap Nat} {rim_ : List RimFlit} {outliers_ : List OutlierSet} {faults_items : List FaultItem} {faults_evidence : List FaultItem} {faults_suppress : List (Nat × Nat × Nat)} {faults_seen : List (Nat × Nat × Nat)} {faults_recoveries : List Recovery} {faults_lastReimpose : Option Nat} {errata_ : ErrataMap} {serve_queues : KMap Queue} {serve_streams : KMap Stream} {serve_tombstones : List Tombstone} {serve_convs : List Conv} {serve_convTombs : List (Nat × Nat × Nat)} {serve_convWait : List (Nat × Nat)} {serve_moorings : KMap Mooring} {serve_order : Nat} {serve_answered : List (Nat × Nat)} {kv_ : Kv} {golden_ : List Golden} {formes_ : KMap Forme} {loads_ : List Load} {slots_ : KMap Slot} {cold_ : List ColdLayer} {tele_held : List (List Byte)} {tele_groupHeld : List (List Byte)} {tele_gaps : KMap (List Nat)} {tele_tokens : KMap Nat} {tele_steps : KMap Nat} {tele_pairs : List UsagePair} {tele_open_ : List UsagePair} {tele_openSynced : Bool} {tele_nextLen : Nat} {tele_seq : Nat} {tele_experts : KMap ExpertCount} {keepers_ : Keepers} {partner_ : Partner} {links_ : KMap Link} {stks_ : KMap Stack} {pairs_ : KMap Pair} {thermal_ : Thermal} {power_ : Power} {pins_ : Pins} {release_ : Release} {blkReset_ : Option BlkReset} {mgmt_ : Mgmt} {lastSweep_ : Nat}
    {mem_ : Mem} (h : Kept kk qq s) (hm : MemOk mem_) : Kept kk qq ⟨s.pending, lampTime_, slew_, slewCycles_, syncs_, free_, regs_, io_, mem_, cores_, chases_, fabric_, packets_, turns_, credits_, taken_, rim_, outliers_, ⟨faults_items, faults_evidence, s.faults.log, faults_suppress, faults_seen, faults_recoveries, faults_lastReimpose⟩, errata_, ⟨serve_queues, serve_streams, serve_tombstones, serve_convs, serve_convTombs, s.serve.convFifo, serve_convWait, serve_moorings, serve_order, serve_answered⟩, kv_, golden_, formes_, loads_, slots_, cold_, ⟨tele_held, tele_groupHeld, tele_gaps, tele_tokens, tele_steps, tele_pairs, tele_open_, tele_openSynced, s.tele.store, tele_nextLen, tele_seq, tele_experts⟩, keepers_, partner_, links_, stks_, pairs_, thermal_, power_, pins_, release_, blkReset_, mgmt_, s.keys, lastSweep_⟩ := ⟨⟨hm, h.1.2⟩, h.2⟩

theorem memOk_mk {a b c : Memory} {errs_ : KMap (KMap Nat)} {storePoison_ : List Nat} {stackErrs_ : KMap (KMap Nat)} {stackPoison_ : List Nat} (ha : a.wf) (hb : b.wf) (hc : c.wf) : MemOk ⟨a, errs_, storePoison_, b, stackErrs_, stackPoison_, c⟩ := ⟨ha, hb, hc⟩
theorem Kept.store {s : State} (h : Kept kk qq s) : s.mem.store.wf := h.1.1.1
theorem Kept.stack {s : State} (h : Kept kk qq s) : s.mem.stack.wf := h.1.1.2.1
theorem Kept.host {s : State} (h : Kept kk qq s) : s.mem.host.wf := h.1.1.2.2
theorem memMove_wf {src dst : Memory} (hs : src.wf) (hd : dst.wf) (a b n : Nat) : (memMove src dst a b n).wf := by
  have key : ∀ (l : List Host.Cell) (d : Memory), d.wf → (∀ c ∈ l, c.2 ≠ 0) →
      Memory.wf (l.foldl (fun d c => kset d (b + (c.1 - a)) c.2) d) := by
    intro l
    induction l with
    | nil => intro d hd _; exact hd
    | cons c l ih =>
      intro d hd hl
      refine ih _ ⟨kset_sorted (α := Byte) hd.1 _ _, fun x hx => ?_⟩ (fun x hx => hl x (List.mem_cons_of_mem _ hx))
      rcases mem_kset hx with rfl | hx
      · exact hl c List.mem_cons_self
      · exact hd.2 x hx
  exact key _ _ (memZero_wf hd _ _) (fun c hc => hs.2 c (List.mem_of_mem_filter hc))
theorem spoilBytes_wf {m : Memory} (h : m.wf) (w : Nat) (es : KMap Nat) : (spoilBytes m w es).wf := by
  unfold spoilBytes
  induction es generalizing m with
  | nil => exact h
  | cons e es ih =>
    refine ih ?_
    dsimp only
    split
    · exact memWrite_wf h _ _
    · exact h
theorem kept_fault (f : Fault) : KeptO kk qq (.fault f) := trivial
theorem kept_foldlp {α β : Type} (f : State × β → α → State × β) (l : List α) {s : State × β} (h : Kept kk qq s.1)
    (hf : ∀ t a, Kept kk qq t.1 → Kept kk qq (f t a).1) : Kept kk qq (l.foldl f s).1 := by
  induction l generalizing s with
  | nil => exact h
  | cons a l ih => exact ih (hf s a h)
theorem kept_elim {α : Type} (o : Option α) (s : State) (f : α → State) (h : Kept kk qq s) (hf : ∀ a, Kept kk qq (f a)) :
    Kept kk qq (o.elim s f) := by
  cases o with
  | none => exact h
  | some a => exact hf a
theorem kept_mapD {α : Type} (o : Option α) (s : State) (f : α → State) (h : Kept kk qq s) (hf : ∀ a, Kept kk qq (f a)) :
    Kept kk qq ((o.map f).getD s) := by
  cases o with
  | none => exact h
  | some a => exact hf a
theorem setPartner_kept {s : State} (p : Partner) (h : Kept kk qq s) : Kept kk qq { s with partner := p } := kept_upd h

end Sys2Proof.Machine
end

