-- ==== Sys2Proof/Laws/Kept1.lean ====
section
/-! SUPPORT. One lemma for each operation, from `setF` to `sweepMoorings`: it keeps the invariant, the keys and
the waiting commands. -/

namespace Sys2Proof.Machine

set_option linter.all false

variable {kk : List (Nat × Nat × Nat)} {qq : List Instr}

theorem setF_kept (s : State) (f : Fld) (v : ℕ) (inst : ℕ) (k' : optParam ℕ 0) (h0 : Kept kk qq s) : Kept kk qq (setF s f v inst k') := by
  unfold setF
  all_goals repeat' first
    | with_reducible first
      | assumption | refine kept_ite _ _ _ ?_ ?_ | refine kept_foldl _ _ ?_ ?_
    | (with_reducible refine kept_upd ?_; with_reducible first | assumption)
    | split

theorem flagF_kept (s : State) (f : Fld) (b : Bool) (inst : ℕ) (k' : optParam ℕ 0) (h0 : Kept kk qq s) : Kept kk qq (flagF s f b inst k') := by
  unfold flagF
  all_goals repeat' first
    | with_reducible first
      | assumption | refine setF_kept _ _ _ _ _ ?_

theorem addF_kept (s : State) (f : Fld) (n : ℕ) (inst : ℕ) (k' : optParam ℕ 0) (h0 : Kept kk qq s) : Kept kk qq (addF s f n inst k') := by
  unfold addF
  all_goals repeat' first
    | with_reducible first
      | assumption | refine setF_kept _ _ _ _ _ ?_

theorem nextFree_kept (s : State) (h0 : Kept kk qq s) : Kept kk qq (nextFree s).2 := by
  unfold nextFree
  all_goals repeat' first
    | with_reducible first
      | assumption | refine kept_ite _ _ _ ?_ ?_
    | (with_reducible refine kept_upd ?_; with_reducible first | assumption)

theorem setCore_kept (s : State) (c : CoreRef) (k' : Core) (h0 : Kept kk qq s) : Kept kk qq (setCore s c k') := by
  unfold setCore
  all_goals repeat' first
    | with_reducible first
      | assumption
    | (with_reducible refine kept_upd ?_; with_reducible first | assumption)

theorem modCore_kept (s : State) (c : CoreRef) (f : Core → Core) (h0 : Kept kk qq s) : Kept kk qq (modCore s c f) := by
  unfold modCore
  all_goals repeat' first
    | with_reducible first
      | assumption | refine setCore_kept _ _ _ ?_

theorem setChase_kept (s : State) (n : ℕ) (c : Chase) (h0 : Kept kk qq s) : Kept kk qq (setChase s n c) := by
  unfold setChase
  all_goals repeat' first
    | with_reducible first
      | assumption
    | (with_reducible refine kept_upd ?_; with_reducible first | assumption)

theorem modChase_kept (s : State) (n : ℕ) (f : Chase → Chase) (h0 : Kept kk qq s) : Kept kk qq (modChase s n f) := by
  unfold modChase
  all_goals repeat' first
    | with_reducible first
      | assumption | refine setChase_kept _ _ _ ?_

theorem msix_kept (s : State) (v : ℕ) (h0 : Kept kk qq s) : Kept kk qq (msix s v) := by
  unfold msix
  all_goals repeat' first
    | with_reducible first
      | assumption | refine kept_ite _ _ _ ?_ ?_ | refine kept_foldl _ _ ?_ ?_
    | (with_reducible refine kept_upd ?_; with_reducible first | assumption)
    | split

theorem refreshIrq_kept (s : State) (p : ℕ) (h0 : Kept kk qq s) : Kept kk qq (refreshIrq s p) := by
  unfold refreshIrq
  all_goals repeat' first
    | with_reducible first
      | assumption | refine kept_ite _ _ _ ?_ ?_ | refine msix_kept _ _ ?_
    | (with_reducible refine kept_upd ?_; with_reducible first | assumption)

theorem pageEvent_kept (s : State) (p : ℕ) (h0 : Kept kk qq s) : Kept kk qq (pageEvent s p) := by
  unfold pageEvent
  all_goals repeat' first
    | with_reducible first
      | assumption | refine setF_kept _ _ _ _ _ ?_

theorem setPageErr_kept (s : State) (p : ℕ) (f : Fld) (v : ℕ) (h0 : Kept kk qq s) : Kept kk qq (setPageErr s p f v) := by
  unfold setPageErr
  all_goals repeat' first
    | with_reducible first
      | assumption | refine kept_ite _ _ _ ?_ ?_ | refine setF_kept _ _ _ _ _ ?_
      | refine refreshIrq_kept _ _ ?_ | refine pageEvent_kept _ _ ?_

theorem regWrite_kept (s : State) (p : ℕ) (f : State → State) (h0 : Kept kk qq s) (h1 : ∀ t, Kept kk qq t → Kept kk qq (f t)) : Kept kk qq (regWrite s p f) := by
  unfold regWrite
  all_goals repeat' first
    | with_reducible first
      | assumption | refine kept_ite _ _ _ ?_ ?_ | refine addF_kept _ _ _ _ _ ?_
      | refine setPageErr_kept _ _ _ _ ?_ | refine h1 _ ?_

theorem setBeacon_kept (s : State) (p : ℕ) (st : ℕ) (h0 : Kept kk qq s) : Kept kk qq (setBeacon s p st) := by
  unfold setBeacon
  all_goals repeat' first
    | with_reducible first
      | assumption | refine kept_ite _ _ _ ?_ ?_ | refine refreshIrq_kept _ _ ?_
      | refine pageEvent_kept _ _ ?_ | refine setF_kept _ _ _ _ _ ?_

theorem setChaseBeacon_kept (s : State) (n : ℕ) (st : ℕ) (h0 : Kept kk qq s) : Kept kk qq (setChaseBeacon s n st) := by
  unfold setChaseBeacon
  all_goals repeat' first
    | with_reducible first
      | assumption | refine setBeacon_kept _ _ _ ?_

theorem hostWrite_kept (s : State) (a : ℕ) (bs : List Byte) (h0 : Kept kk qq s) : Kept kk qq (hostWrite s a bs) := by
  exact ⟨⟨⟨h0.1.1.1, h0.1.1.2.1, memWriteBytes_wf h0.1.1.2.2 _ _⟩, h0.1.2⟩, h0.2⟩

theorem ringPut_kept (s : State) (r : Ring) (bs : List Byte) (h0 : Kept kk qq s) : Kept kk qq (ringPut s r bs) := by
  unfold ringPut
  all_goals repeat' first
    | with_reducible first
      | assumption | refine kept_ite _ _ _ ?_ ?_ | refine addF_kept _ _ _ _ _ ?_
      | refine setF_kept _ _ _ _ _ ?_ | refine hostWrite_kept _ _ _ ?_

theorem ringHeadWrite_kept (s : State) (r : Ring) (v : ℕ) (h0 : Kept kk qq s) : Kept kk qq (ringHeadWrite s r v) := by
  unfold ringHeadWrite
  all_goals repeat' first
    | with_reducible first
      | assumption | refine kept_ite _ _ _ ?_ ?_ | refine kept_foldl _ _ ?_ ?_ | refine setF_kept _ _ _ _ _ ?_
    | split

theorem ringEmpty_kept (s : State) (r : Ring) (h0 : Kept kk qq s) : Kept kk qq (ringEmpty s r) := by
  unfold ringEmpty
  all_goals repeat' first
    | with_reducible first
      | assumption | refine setF_kept _ _ _ _ _ ?_

theorem pldmEvent_kept (s : State) (r : FaultRec) (h0 : Kept kk qq s) : Kept kk qq (pldmEvent s r) := by
  unfold pldmEvent
  all_goals repeat' first
    | with_reducible first
      | assumption | refine kept_ite _ _ _ ?_ ?_ | refine setF_kept _ _ _ _ _ ?_
    | lift_lets
    | (intro x; refine kept_cut (kk := kk) (qq := qq) x ?_ ?_ <;> [subst x; (intro hx; clear_value x)])
    | intro x
    | (with_reducible refine kept_upd ?_; with_reducible first | assumption)

theorem modFault_kept (s : State) (code : ℕ) (h0 : Kept kk qq s) : Kept kk qq (modFault s code) := by
  unfold modFault
  all_goals repeat' first
    | with_reducible first
      | assumption | refine kept_ite _ _ _ ?_ ?_ | refine setF_kept _ _ _ _ _ ?_
    | (with_reducible refine kept_upd ?_; with_reducible first | assumption)

theorem ringFault_kept (s : State) (r : FaultRec) (h0 : Kept kk qq s) : Kept kk qq (ringFault s r) := by
  unfold ringFault
  all_goals repeat' first
    | with_reducible first
      | assumption | refine kept_ite _ _ _ ?_ ?_ | refine msix_kept _ _ ?_ | refine ringPut_kept _ _ _ ?_

theorem pushLog_kept (s : State) (r : FaultRec) (h0 : Kept kk qq s) : Kept kk qq (pushLog s r) := by
  exact ⟨⟨h0.1.1, by
    show (List.take 64 _).length ≤ 64
    rw [List.length_take]
    omega, h0.1.2.2⟩, h0.2⟩

theorem logFault_kept (s : State) (it : FaultItem) (h0 : Kept kk qq s) : Kept kk qq (logFault s it) := by
  unfold logFault
  all_goals repeat' first
    | with_reducible first
      | assumption | refine kept_ite _ _ _ ?_ ?_ | refine addF_kept _ _ _ _ _ ?_
      | refine setF_kept _ _ _ _ _ ?_ | refine pushLog_kept _ _ ?_ | refine setPageErr_kept _ _ _ _ ?_
      | refine ringFault_kept _ _ ?_ | refine modFault_kept _ _ ?_ | refine pldmEvent_kept _ _ ?_
    | (with_reducible refine kept_upd ?_; with_reducible first | refine kept_ite _ _ _ ?_ ?_ | refine setF_kept _ _ _ _ _ ?_ | refine pushLog_kept _ _ ?_ | refine ringFault_kept _ _ ?_ | refine pldmEvent_kept _ _ ?_)
    | split

theorem raise_kept (s : State) (it : FaultItem) (h0 : Kept kk qq s) : Kept kk qq (raise s it) := by
  unfold raise
  all_goals repeat' first
    | with_reducible first
      | assumption
    | (with_reducible refine kept_upd ?_; with_reducible first | assumption)

theorem storeWrite_kept (s : State) (c : CoreRef) (a : ℕ) (bs : List Byte) (poison : Bool) (h0 : Kept kk qq s) : Kept kk qq (storeWrite s c a bs poison) := by
  exact ⟨⟨⟨memWriteBytes_wf h0.1.1.1 _ _, h0.1.1.2⟩, h0.1.2⟩, h0.2⟩

theorem setStk_kept (s : State) (n : ℕ) (x : Stack) (h0 : Kept kk qq s) : Kept kk qq (setStk s n x) := by
  unfold setStk
  all_goals repeat' first
    | with_reducible first
      | assumption
    | (with_reducible refine kept_upd ?_; with_reducible first | assumption)

theorem meetStackWord_kept (s : State) (w : ℕ) (es : KMap ℕ) (h0 : Kept kk qq s) : Kept kk qq (meetStackWord s w es) := by
  unfold meetStackWord
  have h1 : Kept kk qq { s with mem := { s.mem with stackErrs := kdel s.mem.stackErrs w } } := kept_updm h0 ⟨h0.1.1.1, h0.1.1.2⟩
  dsimp only
  split
  · exact addF_kept _ _ _ _ _ h1
  split
  · exact addF_kept _ _ _ _ _ h1
  · exact addF_kept _ _ _ _ _ (setStk_kept _ _ _ (kept_updm h0 ⟨h0.1.1.1, spoilBytes_wf h0.1.1.2.1 _ _, h0.1.1.2.2⟩))

theorem meetStack_kept (s : State) (a : ℕ) (n : ℕ) (h0 : Kept kk qq s) : Kept kk qq (meetStack s a n) := by
  unfold meetStack
  all_goals repeat' first
    | with_reducible first
      | assumption | refine kept_ite _ _ _ ?_ ?_ | refine kept_foldl _ _ ?_ ?_
      | refine meetStackWord_kept _ _ _ ?_
    | intro x
    | split

theorem stackWrite_kept (s : State) (a : ℕ) (bs : List Byte) (poison : Bool) (h0 : Kept kk qq s) : Kept kk qq (stackWrite s a bs poison) := by
  exact ⟨⟨⟨h0.1.1.1, memWriteBytes_wf h0.1.1.2.1 _ _, h0.1.1.2.2⟩, h0.1.2⟩, h0.2⟩

theorem noteSlip_kept (s : State) (n : ℕ) (source : ℕ) (who : Option CoreRef) (h0 : Kept kk qq s) : Kept kk qq (noteSlip s n source who) := by
  unfold noteSlip
  all_goals repeat' first
    | with_reducible first
      | assumption | refine addF_kept _ _ _ _ _ ?_ | refine setF_kept _ _ _ _ _ ?_ | refine nextFree_kept _ ?_
    | split

theorem reqSlipAt_kept (s : State) (c : CoreRef) (source : ℕ) (len : ℕ) (at_ : ℕ) (h0 : Kept kk qq s) : Kept kk qq (reqSlipAt s c source len at_) := by
  unfold reqSlipAt
  all_goals repeat' first
    | with_reducible first
      | assumption | refine setChase_kept _ _ _ ?_ | refine noteSlip_kept _ _ _ _ ?_
      | refine modCore_kept _ _ _ ?_

theorem reqSlip_kept (s : State) (c : CoreRef) (source : ℕ) (len : ℕ) (h0 : Kept kk qq s) : Kept kk qq (reqSlip s c source len) := by
  unfold reqSlip
  all_goals repeat' first
    | with_reducible first
      | assumption | refine kept_ite _ _ _ ?_ ?_ | refine reqSlipAt_kept _ _ _ _ _ ?_

theorem holdSlip_kept (s : State) (c : CoreRef) (len : ℕ) (h0 : Kept kk qq s) : Kept kk qq (holdSlip s c len) := by
  unfold holdSlip
  all_goals repeat' first
    | with_reducible first
      | assumption | refine modCore_kept _ _ _ ?_ | refine reqSlipAt_kept _ _ _ _ _ ?_

theorem openSlip_kept (s : State) (n : ℕ) (source : ℕ) (who : Option CoreRef) (what : ℕ) (h0 : Kept kk qq s) : Kept kk qq (openSlip s n source who what) := by
  unfold openSlip
  all_goals repeat' first
    | with_reducible first
      | assumption | refine noteSlip_kept _ _ _ _ ?_ | refine setChase_kept _ _ _ ?_

theorem meetSlips_kept (s : State) (n : ℕ) (p : Slip → Bool) (h0 : Kept kk qq s) : Kept kk qq (meetSlips s n p) := by
  unfold meetSlips
  all_goals repeat' first
    | with_reducible first
      | assumption | refine modChase_kept _ _ _ ?_

theorem meetCore_kept (s : State) (c : CoreRef) (source : ℕ) (ok : ℕ → Bool) (h0 : Kept kk qq s) : Kept kk qq (meetCore s c source ok) := by
  unfold meetCore
  all_goals repeat' first
    | with_reducible first
      | assumption | refine meetSlips_kept _ _ _ ?_

theorem haltChase_kept (s : State) (n : ℕ) (h0 : Kept kk qq s) : Kept kk qq (haltChase s n) := by
  unfold haltChase
  all_goals repeat' first
    | with_reducible first
      | assumption | refine kept_ite _ _ _ ?_ ?_ | refine kept_foldl _ _ ?_ ?_
      | refine openSlip_kept _ _ _ _ _ ?_ | refine setF_kept _ _ _ _ _ ?_
    | split

theorem endHalt_kept (s : State) (n : ℕ) (h0 : Kept kk qq s) : Kept kk qq (endHalt s n) := by
  unfold endHalt
  all_goals repeat' first
    | with_reducible first
      | assumption | refine meetSlips_kept _ _ _ ?_ | refine setF_kept _ _ _ _ _ ?_

theorem modCores_kept (s : State) (n : ℕ) (f : Core → Core) (h0 : Kept kk qq s) : Kept kk qq (modCores s n f) := by
  unfold modCores
  all_goals repeat' first
    | with_reducible first
      | assumption
    | (with_reducible refine kept_upd ?_; with_reducible first | assumption)

theorem startAt_kept (s : State) (n : ℕ) (p : Placed → Bool) (t : Placed → ℕ) (h0 : Kept kk qq s) : Kept kk qq (startAt s n p t) := by
  unfold startAt
  all_goals repeat' first
    | with_reducible first
      | assumption | refine kept_ite _ _ _ ?_ ?_
    | (with_reducible refine kept_upd ?_; with_reducible first | assumption)

theorem restartChase_kept (s : State) (n : ℕ) (h0 : Kept kk qq s) : Kept kk qq (restartChase s n) := by
  unfold restartChase
  all_goals repeat' first
    | with_reducible first
      | assumption | refine modCores_kept _ _ _ ?_ | refine startAt_kept _ _ _ _ ?_
      | refine modChase_kept _ _ _ ?_ | refine setF_kept _ _ _ _ _ ?_

theorem execKeeperHalt_kept (n : ChaseId) (s : State) (h0 : Kept kk qq s) : KeptO kk qq (execKeeperHalt n s) := by
  unfold execKeeperHalt
  all_goals repeat' first
    | with_reducible first
      | assumption | refine kept_next ?_ | refine regWrite_kept _ _ _ ?_ ?_ | refine haltChase_kept _ _ ?_
    | (intro x; intro (hx : Kept kk qq x))

theorem execHaltEnd_kept (n : ChaseId) (s : State) (h0 : Kept kk qq s) : KeptO kk qq (execHaltEnd n s) := by
  unfold execHaltEnd
  all_goals repeat' first
    | with_reducible first
      | assumption | refine kept_next ?_ | refine regWrite_kept _ _ _ ?_ ?_ | refine endHalt_kept _ _ ?_
    | (intro x; intro (hx : Kept kk qq x))

theorem execChaseHalted_kept (n : ChaseId) (s : State) (h0 : Kept kk qq s) : KeptO kk qq (execChaseHalted n s) := by
  unfold execChaseHalted
  all_goals repeat' first
    | with_reducible first
      | assumption | refine kept_ite _ _ _ ?_ ?_ | refine kept_next ?_ | refine setF_kept _ _ _ _ _ ?_

theorem execSlipTimeout_kept (n : ChaseId) (i : ℕ) (s : State) (h0 : Kept kk qq s) : KeptO kk qq (execSlipTimeout n i s) := by
  unfold execSlipTimeout
  all_goals repeat' first
    | with_reducible first
      | assumption | refine kept_ite _ _ _ ?_ ?_ | refine kept_next ?_ | refine kept_foldl _ _ ?_ ?_
      | refine modChase_kept _ _ _ ?_ | refine raise_kept _ _ ?_
    | split

theorem execSnap_kept (n : ChaseId) (s : State) (h0 : Kept kk qq s) : KeptO kk qq (execSnap n s) := by
  unfold execSnap
  all_goals repeat' first
    | with_reducible first
      | assumption | refine kept_next ?_ | refine kept_foldl _ _ ?_ ?_ | refine regWrite_kept _ _ _ ?_ ?_
      | refine setF_kept _ _ _ _ _ ?_
    | intro x

theorem execClear_kept (n : ChaseId) (s : State) (h0 : Kept kk qq s) : KeptO kk qq (execClear n s) := by
  unfold execClear
  all_goals repeat' first
    | with_reducible first
      | assumption | refine kept_next ?_ | refine regWrite_kept _ _ _ ?_ ?_ | refine modCores_kept _ _ _ ?_
    | (intro x; intro (hx : Kept kk qq x))

theorem fillRegions_kept (s : State) (x1 : List (CoreRef × Alloc)) (x2 : List Byte) (h0 : Kept kk qq s) : Kept kk qq (fillRegions s x1 x2) := by
  revert h0
  fun_induction fillRegions s x1 x2 <;> intro h0
  all_goals repeat' first
    | with_reducible first
      | assumption | refine kept_ite _ _ _ ?_ ?_ | refine storeWrite_kept _ _ _ _ _ ?_
    | with_reducible apply_assumption

theorem fillPart_kept (s : State) (img : List Byte) (p : Placed) (h0 : Kept kk qq s) : Kept kk qq (fillPart s img p) := by
  unfold fillPart
  all_goals repeat' first
    | with_reducible first
      | assumption | refine fillRegions_kept _ _ _ ?_

theorem fillParts_kept (s : State) (img : List Byte) (ps : List Placed) (h0 : Kept kk qq s) : Kept kk qq (fillParts s img ps) := by
  unfold fillParts
  all_goals repeat' first
    | with_reducible first
      | assumption | refine kept_foldl _ _ ?_ ?_ | refine fillPart_kept _ _ _ ?_
    | intro x

theorem scrubParts_kept (s : State) (ps : List Placed) (h0 : Kept kk qq s) : Kept kk qq (scrubParts s ps) := by
  unfold scrubParts
  all_goals repeat' first
    | with_reducible first
      | assumption | refine kept_foldl _ _ ?_ ?_ | refine modChase_kept _ _ _ ?_
    | (intro (x : Mem); subst x)
    | intro x
    | (with_reducible refine kept_updm ?_ ?_; (with_reducible first | assumption); (with_reducible first | assumption | refine memOk_mk ?_ ?_ ?_))
    | with_reducible refine memZero_wf ?_ _ _
    | with_reducible refine memMove_wf ?_ ?_ _ _ _
    | with_reducible refine filter_wf ?_ _
    | with_reducible exact nil_wf
    | with_reducible exact Kept.store ‹_›
    | with_reducible exact Kept.stack ‹_›
    | with_reducible exact Kept.host ‹_›

theorem countNum_kept (s : State) (n : ℕ) (layer : ℕ) (f : NumCnt → NumCnt) (h0 : Kept kk qq s) : Kept kk qq (countNum s n layer f) := by
  unfold countNum
  all_goals repeat' first
    | with_reducible first
      | assumption | refine modChase_kept _ _ _ ?_

theorem recomputeSlips_kept (s : State) (c : CoreRef) (len : ℕ) (x3 : ℕ) (h0 : Kept kk qq s) : Kept kk qq (recomputeSlips s c len x3) := by
  unfold recomputeSlips
  all_goals repeat' first
    | with_reducible first
      | assumption | refine kept_ite _ _ _ ?_ ?_ | refine kept_foldl _ _ ?_ ?_
      | refine reqSlip_kept _ _ _ _ ?_ | refine modCore_kept _ _ _ ?_
    | split

theorem countSums_kept (s : State) (c : CoreRef) (layer : ℕ) (len : Option ℕ) (who : Who) (l : List (Acc × Bool)) (h0 : Kept kk qq s) : Kept kk qq (countSums s c layer len who l) := by
  unfold countSums
  dsimp only
  have hk : ∀ g, Kept kk qq (countNum (len.elim s (fun k => recomputeSlips s c k (l.map (·.1.recomputes)).sum)) (chaseOf c)
      layer g) := fun g => countNum_kept _ _ _ _ (kept_elim _ _ _ h0 (fun k => recomputeSlips_kept _ _ _ _ h0))
  split
  · exact raise_kept _ _ (hk _)
  · exact hk _

theorem onAccess_kept (s : State) (c : CoreRef) (a : ℕ) (len : ℕ) (who : Who) (f : State → State) (h0 : Kept kk qq s) (h1 : ∀ t, Kept kk qq t → Kept kk qq (f t)) : Kept kk qq (onAccess s c a len who f) := by
  unfold onAccess
  all_goals repeat' first
    | with_reducible first
      | assumption | refine raise_kept _ _ ?_ | refine h1 _ ?_
    | split

theorem poisonWord_kept (s : State) (c : CoreRef) (a : ℕ) (h0 : Kept kk qq s) : Kept kk qq (poisonWord s c a) := by
  unfold poisonWord
  all_goals repeat' first
    | with_reducible first
      | assumption | refine modCore_kept _ _ _ ?_ | refine raise_kept _ _ ?_
    | (intro (x : Mem); subst x)
    | (with_reducible refine kept_updm ?_ ?_; (with_reducible first | assumption); (with_reducible first | assumption | refine memOk_mk ?_ ?_ ?_))
    | with_reducible refine memZero_wf ?_ _ _
    | with_reducible refine memMove_wf ?_ ?_ _ _ _
    | with_reducible refine filter_wf ?_ _
    | with_reducible exact nil_wf
    | with_reducible exact Kept.store ‹_›
    | with_reducible exact Kept.stack ‹_›
    | with_reducible exact Kept.host ‹_›

theorem clearErrs_kept (s : State) (c : CoreRef) (a : ℕ) (h0 : Kept kk qq s) : Kept kk qq (clearErrs s c a) := by
  unfold clearErrs
  all_goals repeat' first
    | with_reducible first
      | assumption | refine kept_ite _ _ _ ?_ ?_
    | (intro (x : Mem); subst x)
    | (with_reducible refine kept_updm ?_ ?_; (with_reducible first | assumption); (with_reducible first | assumption | refine memOk_mk ?_ ?_ ?_))
    | with_reducible refine memZero_wf ?_ _ _
    | with_reducible refine memMove_wf ?_ ?_ _ _ _
    | with_reducible refine filter_wf ?_ _
    | with_reducible exact nil_wf
    | with_reducible exact Kept.store ‹_›
    | with_reducible exact Kept.stack ‹_›
    | with_reducible exact Kept.host ‹_›

theorem spoil_kept (s : State) (c : CoreRef) (a : ℕ) (h0 : Kept kk qq s) : Kept kk qq (spoil s c a) := by
  unfold spoil
  exact kept_updm h0 ⟨spoilBytes_wf h0.1.1.1 _ _, h0.1.1.2⟩

theorem meetWord_kept (s : State) (c : CoreRef) (a : ℕ) (h0 : Kept kk qq s) : Kept kk qq (meetWord s c a) := by
  unfold meetWord
  all_goals repeat' first
    | with_reducible first
      | assumption | refine clearErrs_kept _ _ _ ?_ | refine modCore_kept _ _ _ ?_ | refine raise_kept _ _ ?_
      | refine poisonWord_kept _ _ _ ?_ | refine spoil_kept _ _ _ ?_
    | split

theorem meetNarrow_kept (s : State) (c : CoreRef) (a : ℕ) (n : ℕ) (h0 : Kept kk qq s) : Kept kk qq (meetNarrow s c a n) := by
  unfold meetNarrow
  all_goals repeat' first
    | with_reducible first
      | assumption | refine kept_foldl _ _ ?_ ?_ | refine meetWord_kept _ _ _ ?_
    | intro x

theorem holdFor_kept (s : State) (c : CoreRef) (n : ℕ) (who : Who) (h0 : Kept kk qq s) : Kept kk qq (holdFor s c n who) := by
  unfold holdFor
  all_goals repeat' first
    | with_reducible first
      | assumption | refine kept_ite _ _ _ ?_ ?_ | refine raise_kept _ _ ?_ | refine holdSlip_kept _ _ _ ?_

theorem meetRow_kept (s : State) (c : CoreRef) (a : ℕ) (who : Who) (h0 : Kept kk qq s) : Kept kk qq (meetRow s c a who) := by
  unfold meetRow
  all_goals repeat' first
    | with_reducible first
      | assumption | refine holdFor_kept _ _ _ _ ?_ | refine meetNarrow_kept _ _ _ _ ?_

theorem meetWide_kept (s : State) (c : CoreRef) (a : ℕ) (n : ℕ) (who : Who) (h0 : Kept kk qq s) : Kept kk qq (meetWide s c a n who) := by
  unfold meetWide
  all_goals repeat' first
    | with_reducible first
      | assumption | refine kept_ite _ _ _ ?_ ?_ | refine kept_foldl _ _ ?_ ?_
      | refine meetRow_kept _ _ _ _ ?_
    | intro x
    | split

theorem narrowWrite_kept (s : State) (c : CoreRef) (a : ℕ) (bs : List Byte) (poison : Bool) (h0 : Kept kk qq s) : Kept kk qq (narrowWrite s c a bs poison) := by
  unfold narrowWrite
  all_goals repeat' first
    | with_reducible first
      | assumption | refine kept_foldl _ _ ?_ ?_ | refine storeWrite_kept _ _ _ _ _ ?_
      | refine meetWord_kept _ _ _ ?_
    | intro x

theorem meetStore_kept (s : State) (a : ℕ) (n : ℕ) (h0 : Kept kk qq s) : Kept kk qq (meetStore s a n) := by
  unfold meetStore
  all_goals repeat' first
    | with_reducible first
      | assumption | refine meetNarrow_kept _ _ _ _ ?_

theorem enterFabric_kept (s : State) (r : RouterRef) (input : ℕ) (f : Flit) (queued : Bool) (goal : Option (ℤ × ℤ)) (h0 : Kept kk qq s) : Kept kk qq (enterFabric s r input f queued goal) := by
  unfold enterFabric
  all_goals repeat' first
    | with_reducible first
      | assumption | refine kept_ite _ _ _ ?_ ?_
    | (with_reducible refine kept_upd ?_; with_reducible first | assumption)

theorem emitFlit_kept (s : State) (c : CoreRef) (f : Flit) (h0 : Kept kk qq s) : Kept kk qq (emitFlit s c f) := by
  unfold emitFlit
  all_goals repeat' first
    | with_reducible first
      | assumption | refine enterFabric_kept _ _ _ _ _ _ ?_
    | split

theorem emitPacket_kept (s : State) (c : CoreRef) (f : Flit) (h0 : Kept kk qq s) : Kept kk qq (emitPacket s c f) := by
  unfold emitPacket
  all_goals repeat' first
    | with_reducible first
      | assumption | refine kept_ite _ _ _ ?_ ?_ | refine modCore_kept _ _ _ ?_
      | refine emitFlit_kept _ _ _ ?_

theorem flushWaiting_kept (s : State) (c : CoreRef) (cls : ℕ) (h0 : Kept kk qq s) : Kept kk qq (flushWaiting s c cls) := by
  unfold flushWaiting
  all_goals repeat' first
    | with_reducible first
      | assumption | refine kept_foldl _ _ ?_ ?_ | refine emitFlit_kept _ _ _ ?_
      | refine modCore_kept _ _ _ ?_
    | intro x

theorem sendTo_kept (s : State) (c : CoreRef) (d : CoreRef) (kind : ℕ) (tclass : ℕ) (stamp : ℕ) (payload : List Byte) (poison : Bool) (h0 : Kept kk qq s) : Kept kk qq (sendTo s c d kind tclass stamp payload poison) := by
  unfold sendTo
  all_goals repeat' first
    | with_reducible first
      | assumption | refine emitPacket_kept _ _ _ ?_

theorem dropFlit_kept (s : State) (p : Flit → Bool) (h0 : Kept kk qq s) : Kept kk qq (dropFlit s p) := by
  unfold dropFlit
  all_goals repeat' first
    | with_reducible first
      | assumption | refine kept_ite _ _ _ ?_ ?_ | refine kept_foldl _ _ ?_ ?_
    | (with_reducible refine kept_upd ?_; with_reducible first | assumption)
    | split

theorem setQ_kept (s : State) (q' : ℕ) (x : Queue) (h0 : Kept kk qq s) : Kept kk qq (setQ s q' x) := by
  unfold setQ
  all_goals repeat' first
    | with_reducible first
      | assumption
    | (with_reducible refine kept_upd ?_; with_reducible first | assumption)

theorem modQ_kept (s : State) (q' : ℕ) (f : Queue → Queue) (h0 : Kept kk qq s) : Kept kk qq (modQ s q' f) := by
  unfold modQ
  all_goals repeat' first
    | with_reducible first
      | assumption | refine setQ_kept _ _ _ ?_

theorem raiseQueue_kept (s : State) (q' : ℕ) (h0 : Kept kk qq s) : Kept kk qq (raiseQueue s q') := by
  unfold raiseQueue
  all_goals repeat' first
    | with_reducible first
      | assumption | refine kept_ite _ _ _ ?_ ?_ | refine modQ_kept _ _ _ ?_ | refine msix_kept _ _ ?_

theorem coalesce_kept (s : State) (q' : ℕ) (h0 : Kept kk qq s) : Kept kk qq (coalesce s q') := by
  unfold coalesce
  all_goals repeat' first
    | with_reducible first
      | assumption | refine kept_ite _ _ _ ?_ ?_ | refine setQ_kept _ _ _ ?_ | refine raiseQueue_kept _ _ ?_

theorem freeEntry_kept (s : State) (e : ℕ) (h0 : Kept kk qq s) : Kept kk qq (freeEntry s e) := by
  unfold freeEntry
  all_goals repeat' first
    | with_reducible first
      | assumption
    | (with_reducible refine kept_upd ?_; with_reducible first | assumption)

theorem writeResp_kept (s : State) (q' : ℕ) (r : Resp) (h0 : Kept kk qq s) : Kept kk qq (writeResp s q' r) := by
  unfold writeResp
  all_goals repeat' first
    | with_reducible first
      | assumption | refine hostWrite_kept _ _ _ ?_ | refine setQ_kept _ _ _ ?_ | refine coalesce_kept _ _ ?_
      | refine freeEntry_kept _ _ ?_
    | split

theorem drainOwed_kept (s : State) (q' : ℕ) (x2 : List Resp) (h0 : Kept kk qq s) : Kept kk qq (drainOwed s q' x2) := by
  revert h0
  fun_induction drainOwed s q' x2 <;> intro h0
  all_goals repeat' first
    | with_reducible first
      | assumption | refine modQ_kept _ _ _ ?_ | refine writeResp_kept _ _ _ ?_
    | with_reducible apply_assumption

theorem respondOne_kept (s : State) (q' : ℕ) (r : Resp) (h0 : Kept kk qq s) : Kept kk qq (respondOne s q' r) := by
  unfold respondOne
  all_goals repeat' first
    | with_reducible first
      | assumption | refine kept_ite _ _ _ ?_ ?_ | refine kept_foldl _ _ ?_ ?_ | refine freeEntry_kept _ _ ?_
      | refine drainOwed_kept _ _ _ ?_
    | split

theorem payCancels_kept (x0 : ℕ) (x1 : State) (h0 : Kept kk qq x1) : Kept kk qq (payCancels x0 x1) := by
  revert h0
  fun_induction payCancels x0 x1 <;> intro h0
  all_goals repeat' first
    | with_reducible first
      | assumption | refine respondOne_kept _ _ _ ?_
    | with_reducible apply_assumption

theorem payAll_kept (s : State) (h0 : Kept kk qq s) : Kept kk qq (payAll s) := by
  unfold payAll
  all_goals repeat' first
    | with_reducible first
      | assumption | refine payCancels_kept _ _ ?_

theorem respond_kept (s : State) (q' : ℕ) (r : Resp) (h0 : Kept kk qq s) : Kept kk qq (respond s q' r) := by
  unfold respond
  all_goals repeat' first
    | with_reducible first
      | assumption | refine kept_ite _ _ _ ?_ ?_ | refine payAll_kept _ ?_ | refine respondOne_kept _ _ _ ?_

theorem drainRing_kept (s : State) (q' : ℕ) (h0 : Kept kk qq s) : Kept kk qq (drainRing s q') := by
  unfold drainRing
  all_goals repeat' first
    | with_reducible first
      | assumption | refine payAll_kept _ ?_ | refine drainOwed_kept _ _ _ ?_

theorem dropEntry_kept (s : State) (e : ℕ) (h0 : Kept kk qq s) : Kept kk qq (dropEntry s e) := by
  unfold dropEntry
  all_goals repeat' first
    | with_reducible first
      | assumption | refine freeEntry_kept _ _ ?_
    | (with_reducible refine kept_upd ?_; with_reducible first | assumption)

theorem complete_kept (s : State) (q' : ℕ) (rec : List Byte) (status : ℕ) (state : ℕ) (req : optParam ℕ 0) (tokens : optParam ℕ 0) (h0 : Kept kk qq s) : Kept kk qq (complete s q' rec status state req tokens) := by
  unfold complete
  all_goals repeat' first
    | with_reducible first
      | assumption | refine respond_kept _ _ _ ?_

theorem lapseTombstones_kept (s : State) (h0 : Kept kk qq s) : Kept kk qq (lapseTombstones s) := by
  unfold lapseTombstones
  all_goals repeat' first
    | with_reducible first
      | assumption | refine kept_foldl _ _ ?_ ?_ | refine respond_kept _ _ _ ?_
    | intro x
    | (with_reducible refine kept_upd ?_; with_reducible first | assumption)

theorem popHead_kept (s : State) (q' : ℕ) (h0 : Kept kk qq s) : Kept kk qq (popHead s q') := by
  unfold popHead
  all_goals repeat' first
    | with_reducible first
      | assumption | refine kept_ite _ _ _ ?_ ?_ | refine kept_foldl _ _ ?_ ?_ | refine setQ_kept _ _ _ ?_
    | split

theorem blockHead_kept (s : State) (q' : ℕ) (h0 : Kept kk qq s) : Kept kk qq (blockHead s q') := by
  unfold blockHead
  all_goals repeat' first
    | with_reducible first
      | assumption | refine modQ_kept _ _ _ ?_

theorem fetchWith_kept (s : State) (q' : ℕ) (f : State → State) (h0 : Kept kk qq s) (h1 : ∀ t, Kept kk qq t → Kept kk qq (f t)) : Kept kk qq (fetchWith s q' f) := by
  unfold fetchWith
  all_goals repeat' first
    | with_reducible first
      | assumption | refine kept_ite _ _ _ ?_ ?_ | refine blockHead_kept _ _ ?_ | refine popHead_kept _ _ ?_
      | refine lapseTombstones_kept _ ?_ | refine h1 _ ?_
    | (with_reducible refine kept_upd ?_; with_reducible first | refine kept_ite _ _ _ ?_ ?_ | refine popHead_kept _ _ ?_ | refine h1 _ ?_)

theorem withRecord_kept (name : String) (kinds : ℕ → Bool) (rec : List Byte) (s : State) (h0 : Kept kk qq s) : KeptO kk qq (withRecord name kinds rec s) := by
  unfold withRecord
  all_goals repeat' first
    | with_reducible first
      | assumption | refine kept_ite _ _ _ ?_ ?_ | refine kept_next ?_
    | with_reducible exact kept_fault _
    | split

theorem storeToStack_kept (s : State) (a : ℕ) (b : ℕ) (n : ℕ) (h0 : Kept kk qq s) : Kept kk qq (storeToStack s a b n) := by
  unfold storeToStack
  all_goals repeat' first
    | with_reducible first
      | assumption | refine meetStore_kept _ _ _ ?_
    | lift_lets
    | (intro (x : Mem); subst x)
    | (intro x; refine kept_cut (kk := kk) (qq := qq) x ?_ ?_ <;> [subst x; (intro hx; clear_value x)])
    | (with_reducible refine kept_updm ?_ ?_; (with_reducible first | assumption); (with_reducible first | assumption | refine memOk_mk ?_ ?_ ?_))
    | with_reducible refine memZero_wf ?_ _ _
    | with_reducible refine memMove_wf ?_ ?_ _ _ _
    | with_reducible refine filter_wf ?_ _
    | with_reducible exact nil_wf
    | with_reducible exact Kept.store ‹_›
    | with_reducible exact Kept.stack ‹_›
    | with_reducible exact Kept.host ‹_›

theorem stackToStore_kept (s : State) (a : ℕ) (b : ℕ) (n : ℕ) (h0 : Kept kk qq s) : Kept kk qq (stackToStore s a b n) := by
  unfold stackToStore
  all_goals repeat' first
    | with_reducible first
      | assumption | refine meetStack_kept _ _ _ ?_
    | lift_lets
    | (intro (x : Mem); subst x)
    | (intro x; refine kept_cut (kk := kk) (qq := qq) x ?_ ?_ <;> [subst x; (intro hx; clear_value x)])
    | (with_reducible refine kept_updm ?_ ?_; (with_reducible first | assumption); (with_reducible first | assumption | refine memOk_mk ?_ ?_ ?_))
    | with_reducible refine memZero_wf ?_ _ _
    | with_reducible refine memMove_wf ?_ ?_ _ _ _
    | with_reducible refine filter_wf ?_ _
    | with_reducible exact nil_wf
    | with_reducible exact Kept.store ‹_›
    | with_reducible exact Kept.stack ‹_›
    | with_reducible exact Kept.host ‹_›

theorem storeToStore_kept (s : State) (a : ℕ) (b : ℕ) (n : ℕ) (h0 : Kept kk qq s) : Kept kk qq (storeToStore s a b n) := by
  unfold storeToStore
  all_goals repeat' first
    | with_reducible first
      | assumption | refine meetStore_kept _ _ _ ?_
    | lift_lets
    | (intro (x : Mem); subst x)
    | (intro x; refine kept_cut (kk := kk) (qq := qq) x ?_ ?_ <;> [subst x; (intro hx; clear_value x)])
    | (with_reducible refine kept_updm ?_ ?_; (with_reducible first | assumption); (with_reducible first | assumption | refine memOk_mk ?_ ?_ ?_))
    | with_reducible refine memZero_wf ?_ _ _
    | with_reducible refine memMove_wf ?_ ?_ _ _ _
    | with_reducible refine filter_wf ?_ _
    | with_reducible exact nil_wf
    | with_reducible exact Kept.store ‹_›
    | with_reducible exact Kept.stack ‹_›
    | with_reducible exact Kept.host ‹_›

theorem stackToStack_kept (s : State) (a : ℕ) (b : ℕ) (n : ℕ) (h0 : Kept kk qq s) : Kept kk qq (stackToStack s a b n) := by
  unfold stackToStack
  all_goals repeat' first
    | with_reducible first
      | assumption | refine meetStack_kept _ _ _ ?_
    | lift_lets
    | (intro (x : Mem); subst x)
    | (intro x; refine kept_cut (kk := kk) (qq := qq) x ?_ ?_ <;> [subst x; (intro hx; clear_value x)])
    | (with_reducible refine kept_updm ?_ ?_; (with_reducible first | assumption); (with_reducible first | assumption | refine memOk_mk ?_ ?_ ?_))
    | with_reducible refine memZero_wf ?_ _ _
    | with_reducible refine memMove_wf ?_ ?_ _ _ _
    | with_reducible refine filter_wf ?_ _
    | with_reducible exact nil_wf
    | with_reducible exact Kept.store ‹_›
    | with_reducible exact Kept.stack ‹_›
    | with_reducible exact Kept.host ‹_›

theorem modKv_kept (s : State) (f : Kv → Kv) (h0 : Kept kk qq s) : Kept kk qq (modKv s f) := by
  unfold modKv
  all_goals repeat' first
    | with_reducible first
      | assumption | refine kept_ite _ _ _ ?_ ?_ | refine kept_foldl _ _ ?_ ?_
    | (with_reducible refine kept_upd ?_; with_reducible first | assumption)
    | split

theorem setG_kept (s : State) (g : ℕ) (x : Galley) (h0 : Kept kk qq s) : Kept kk qq (setG s g x) := by
  unfold setG
  all_goals repeat' first
    | with_reducible first
      | assumption | refine modKv_kept _ _ ?_

theorem adjG_kept (s : State) (g : ℕ) (f : Galley → Galley) (h0 : Kept kk qq s) : Kept kk qq (adjG s g f) := by
  unfold adjG
  all_goals repeat' first
    | with_reducible first
      | assumption | refine modKv_kept _ _ ?_

theorem addPiece_kept (w : GoldenWant) (s : State) (x : Sec) (h0 : Kept kk qq s) : Kept kk qq (addPiece w s x) := by
  unfold addPiece
  all_goals repeat' first
    | with_reducible first
      | assumption | refine kept_ite _ _ _ ?_ ?_ | refine stackWrite_kept _ _ _ _ ?_
    | lift_lets
    | (intro x; refine kept_cut (kk := kk) (qq := qq) x ?_ ?_ <;> [subst x; (intro hx; clear_value x)])
    | intro x
    | (with_reducible refine kept_upd ?_; with_reducible first | assumption)
    | split

theorem addGolden_kept (s : State) (w : GoldenWant) (h0 : Kept kk qq s) : Kept kk qq (addGolden s w) := by
  unfold addGolden
  all_goals repeat' first
    | with_reducible first
      | assumption | refine kept_ite _ _ _ ?_ ?_ | refine kept_foldl _ _ ?_ ?_ | refine addPiece_kept _ _ _ ?_
    | intro x

theorem zeroStack_kept (s : State) (a : ℕ) (n : ℕ) (h0 : Kept kk qq s) : Kept kk qq (zeroStack s a n) := by
  unfold zeroStack
  all_goals repeat' first
    | with_reducible first
      | assumption
    | (intro (x : Mem); subst x)
    | (with_reducible refine kept_updm ?_ ?_; (with_reducible first | assumption); (with_reducible first | assumption | refine memOk_mk ?_ ?_ ?_))
    | with_reducible refine memZero_wf ?_ _ _
    | with_reducible refine memMove_wf ?_ ?_ _ _ _
    | with_reducible refine filter_wf ?_ _
    | with_reducible exact nil_wf
    | with_reducible exact Kept.store ‹_›
    | with_reducible exact Kept.stack ‹_›
    | with_reducible exact Kept.host ‹_›

theorem syncGolden_kept (s : State) (h0 : Kept kk qq s) : Kept kk qq (syncGolden s) := by
  unfold syncGolden
  all_goals repeat' first
    | with_reducible first
      | assumption | refine kept_foldl _ _ ?_ ?_ | refine addGolden_kept _ _ ?_
      | refine zeroStack_kept _ _ _ ?_
    | intro x
    | (with_reducible refine kept_upd ?_; with_reducible first | assumption)

theorem scrubT0_kept (s : State) (a : ℕ) (n : ℕ) (h0 : Kept kk qq s) : Kept kk qq (scrubT0 s a n) := by
  unfold scrubT0
  all_goals repeat' first
    | with_reducible first
      | assumption
    | (intro (x : Mem); subst x)
    | (with_reducible refine kept_updm ?_ ?_; (with_reducible first | assumption); (with_reducible first | assumption | refine memOk_mk ?_ ?_ ?_))
    | with_reducible refine memZero_wf ?_ _ _
    | with_reducible refine memMove_wf ?_ ?_ _ _ _
    | with_reducible refine filter_wf ?_ _
    | with_reducible exact nil_wf
    | with_reducible exact Kept.store ‹_›
    | with_reducible exact Kept.stack ‹_›
    | with_reducible exact Kept.host ‹_›

theorem freeT1_kept (s : State) (a : ℕ) (n : ℕ) (h0 : Kept kk qq s) : Kept kk qq (freeT1 s a n) := by
  unfold freeT1
  all_goals repeat' first
    | with_reducible first
      | assumption | refine kept_ite _ _ _ ?_ ?_ | refine kept_foldl _ _ ?_ ?_ | refine modKv_kept _ _ ?_
      | refine zeroStack_kept _ _ _ ?_
    | split

theorem countT2_kept (s : State) (h0 : Kept kk qq s) : Kept kk qq (countT2 s) := by
  unfold countT2
  all_goals repeat' first
    | with_reducible first
      | assumption | refine setF_kept _ _ _ _ _ ?_

theorem freeT2_kept (s : State) (a : ℕ) (n : ℕ) (h0 : Kept kk qq s) : Kept kk qq (freeT2 s a n) := by
  unfold freeT2
  all_goals repeat' first
    | with_reducible first
      | assumption | refine kept_ite _ _ _ ?_ ?_ | refine countT2_kept _ ?_ | refine modKv_kept _ _ ?_
    | (intro (x : Mem); subst x)
    | (with_reducible refine kept_updm ?_ ?_; (with_reducible first | assumption); (with_reducible first | assumption | refine memOk_mk ?_ ?_ ?_))
    | with_reducible refine memZero_wf ?_ _ _
    | with_reducible refine memMove_wf ?_ ?_ _ _ _
    | with_reducible refine filter_wf ?_ _
    | with_reducible exact nil_wf
    | with_reducible exact Kept.store ‹_›
    | with_reducible exact Kept.stack ‹_›
    | with_reducible exact Kept.host ‹_›

theorem scrubT2_kept (s : State) (h0 : Kept kk qq s) : Kept kk qq (scrubT2 s) := by
  unfold scrubT2
  all_goals repeat' first
    | with_reducible first
      | assumption | refine kept_ite _ _ _ ?_ ?_ | refine kept_foldl _ _ ?_ ?_ | refine modKv_kept _ _ ?_
      | refine freeT2_kept _ _ _ ?_
    | intro x

theorem freeGalley_kept (s : State) (g : ℕ) (h0 : Kept kk qq s) : Kept kk qq (freeGalley s g) := by
  unfold freeGalley
  all_goals repeat' first
    | with_reducible first
      | assumption | refine scrubT0_kept _ _ _ ?_ | refine freeT1_kept _ _ _ ?_ | refine freeT2_kept _ _ _ ?_
      | refine modKv_kept _ _ ?_
    | split

theorem releaseGalley_kept (s : State) (g : ℕ) (h0 : Kept kk qq s) : Kept kk qq (releaseGalley s g) := by
  unfold releaseGalley
  all_goals repeat' first
    | with_reducible first
      | assumption | refine freeGalley_kept _ _ ?_
    | split

theorem dropT0_kept (s : State) (g : ℕ) (st : GalleyState) (h0 : Kept kk qq s) : Kept kk qq (dropT0 s g st) := by
  unfold dropT0
  all_goals repeat' first
    | with_reducible first
      | assumption | refine scrubT0_kept _ _ _ ?_ | refine setG_kept _ _ _ ?_
    | split

theorem copyToT1_kept (s : State) (g : ℕ) (h0 : Kept kk qq s) : Kept kk qq (copyToT1 s g) := by
  unfold copyToT1
  all_goals repeat' first
    | with_reducible first
      | assumption | refine storeToStack_kept _ _ _ _ ?_ | refine stackWrite_kept _ _ _ _ ?_
      | refine modKv_kept _ _ ?_ | refine setG_kept _ _ _ ?_
    | split

theorem fillT0_kept (s : State) (g : ℕ) (st : GalleyState) (h0 : Kept kk qq s) : Kept kk qq (fillT0 s g st) := by
  unfold fillT0
  all_goals repeat' first
    | with_reducible first
      | assumption | refine kept_ite _ _ _ ?_ ?_ | refine kept_foldl _ _ ?_ ?_
      | refine stackToStore_kept _ _ _ _ ?_ | refine setG_kept _ _ _ ?_
    | split

theorem takeT0In_kept (s : State) (g : ℕ) (rs : Forme → List (ℕ × ℕ)) (h0 : Kept kk qq s) : Kept kk qq (takeT0In s g rs) := by
  unfold takeT0In
  all_goals repeat' first
    | with_reducible first
      | assumption | refine setG_kept _ _ _ ?_
    | split

theorem takeT0_kept (s : State) (g : ℕ) (h0 : Kept kk qq s) : Kept kk qq (takeT0 s g) := by
  unfold takeT0
  all_goals repeat' first
    | with_reducible first
      | assumption | refine takeT0In_kept _ _ _ ?_
    | split

theorem copyToT0_kept (s : State) (g : ℕ) (st : GalleyState) (h0 : Kept kk qq s) : Kept kk qq (copyToT0 s g st) := by
  unfold copyToT0
  all_goals repeat' first
    | with_reducible first
      | assumption | refine kept_ite _ _ _ ?_ ?_ | refine takeT0_kept _ _ ?_ | refine fillT0_kept _ _ _ ?_

theorem fromT2_kept (s : State) (g : ℕ) (h0 : Kept kk qq s) : Kept kk qq (fromT2 s g) := by
  unfold fromT2
  all_goals repeat' first
    | with_reducible first
      | assumption | refine modKv_kept _ _ ?_ | refine setG_kept _ _ _ ?_ | refine freeT2_kept _ _ _ ?_
      | refine adjG_kept _ _ _ ?_
    | (intro (x : Mem); subst x)
    | (with_reducible refine kept_updm ?_ ?_; (with_reducible first | assumption); (with_reducible first | assumption | refine memOk_mk ?_ ?_ ?_))
    | with_reducible refine memZero_wf ?_ _ _
    | with_reducible refine memMove_wf ?_ ?_ _ _ _
    | with_reducible refine filter_wf ?_ _
    | with_reducible exact nil_wf
    | with_reducible exact Kept.store ‹_›
    | with_reducible exact Kept.stack ‹_›
    | with_reducible exact Kept.host ‹_›
    | split

theorem newGalley_kept (s : State) (x : Galley) (h0 : Kept kk qq s) : Kept kk qq (newGalley s x) := by
  unfold newGalley
  all_goals repeat' first
    | with_reducible first
      | assumption | refine modKv_kept _ _ ?_

theorem bindStick_kept (s : State) (e : ℕ) (fi : ℕ) (idx : ℕ) (tenant : ℕ) (req : Option ℕ) (p : ℕ × ℕ × ℕ) (h0 : Kept kk qq s) : Kept kk qq (bindStick s e fi idx tenant req p) := by
  unfold bindStick
  all_goals repeat' first
    | with_reducible first
      | assumption | refine newGalley_kept _ _ ?_

theorem bindSticks_kept (s : State) (e : ℕ) (fi : ℕ) (idx : ℕ) (tenant : ℕ) (req : Option ℕ) (h0 : Kept kk qq s) : Kept kk qq (bindSticks s e fi idx tenant req) := by
  unfold bindSticks
  all_goals repeat' first
    | with_reducible first
      | assumption | refine kept_foldl _ _ ?_ ?_ | refine bindStick_kept _ _ _ _ _ _ _ ?_
    | intro x
    | split

theorem placeStick_kept (s : State) (g : ℕ) (h0 : Kept kk qq s) : Kept kk qq (placeStick s g) := by
  unfold placeStick
  all_goals repeat' first
    | with_reducible first
      | assumption | refine kept_ite _ _ _ ?_ ?_ | refine kept_foldl _ _ ?_ ?_ | refine copyToT0_kept _ _ _ ?_
      | refine setG_kept _ _ _ ?_ | refine freeT1_kept _ _ _ ?_
    | lift_lets
    | (intro x; refine kept_cut (kk := kk) (qq := qq) x ?_ ?_ <;> [subst x; (intro hx; clear_value x)])
    | split

theorem placeSticks_kept (s : State) (e : ℕ) (h0 : Kept kk qq s) : Kept kk qq (placeSticks s e) := by
  unfold placeSticks
  all_goals repeat' first
    | with_reducible first
      | assumption | refine kept_foldl _ _ ?_ ?_ | refine placeStick_kept _ _ ?_
    | intro x

theorem summarise_kept (s : State) (x : Galley) (h0 : Kept kk qq s) : Kept kk qq (summarise s x).1 := by
  unfold summarise
  all_goals repeat' first
    | with_reducible first
      | assumption | refine meetWide_kept _ _ _ _ _ ?_ | refine countSums_kept _ _ _ _ _ _ ?_
    | split

theorem flushSticks_kept (s : State) (e : ℕ) (idx : ℕ) (late : List ℕ → List PrefixNode) (h0 : Kept kk qq s) : Kept kk qq (flushSticks s e idx late) := by
  unfold flushSticks
  all_goals repeat' first
    | with_reducible first
      | assumption | refine kept_ite _ _ _ ?_ ?_ | refine kept_foldl _ _ ?_ ?_ | refine summarise_kept _ _ ?_
      | refine copyToT1_kept _ _ ?_ | refine setG_kept _ _ _ ?_ | refine modKv_kept _ _ ?_
      | refine bindStick_kept _ _ _ _ _ _ _ ?_
    | intro x
    | split

theorem freeSticks_kept (s : State) (e : ℕ) (h0 : Kept kk qq s) : Kept kk qq (freeSticks s e) := by
  unfold freeSticks
  all_goals repeat' first
    | with_reducible first
      | assumption | refine kept_foldl _ _ ?_ ?_ | refine freeGalley_kept _ _ ?_
    | intro x

theorem countHeld_kept (s : State) (h0 : Kept kk qq s) : Kept kk qq (countHeld s) := by
  unfold countHeld
  all_goals repeat' first
    | with_reducible first
      | assumption | refine setF_kept _ _ _ _ _ ?_

theorem dropNode_kept (s : State) (n : PrefixNode) (h0 : Kept kk qq s) : Kept kk qq (dropNode s n) := by
  unfold dropNode
  all_goals repeat' first
    | with_reducible first
      | assumption | refine kept_foldl _ _ ?_ ?_ | refine modKv_kept _ _ ?_ | refine releaseGalley_kept _ _ ?_
      | refine adjG_kept _ _ _ ?_
    | intro x

theorem evict_kept (s : State) (x1 : ℕ) (h0 : Kept kk qq s) : Kept kk qq (evict s x1) := by
  revert h0
  fun_induction evict s x1 <;> intro h0
  all_goals repeat' first
    | with_reducible first
      | assumption | refine countHeld_kept _ ?_ | refine dropNode_kept _ _ ?_
    | with_reducible apply_assumption

theorem evictAll_kept (s : State) (h0 : Kept kk qq s) : Kept kk qq (evictAll s) := by
  unfold evictAll
  all_goals repeat' first
    | with_reducible first
      | assumption | refine kept_ite _ _ _ ?_ ?_ | refine kept_foldl _ _ ?_ ?_ | refine evict_kept _ _ ?_
    | split

theorem markPublic_kept (s : State) (g : ℕ) (pub : Bool) (h0 : Kept kk qq s) : Kept kk qq (markPublic s g pub) := by
  unfold markPublic
  all_goals repeat' first
    | with_reducible first
      | assumption | refine kept_ite _ _ _ ?_ ?_ | refine setG_kept _ _ _ ?_
      | refine stackWrite_kept _ _ _ _ ?_
    | split

theorem insertNode_kept (s : State) (n : PrefixNode) (h0 : Kept kk qq s) : Kept kk qq (insertNode s n) := by
  unfold insertNode
  all_goals repeat' first
    | with_reducible first
      | assumption | refine kept_foldl _ _ ?_ ?_ | refine modKv_kept _ _ ?_ | refine markPublic_kept _ _ _ ?_
      | refine adjG_kept _ _ _ ?_
    | intro x
    | split

theorem insertNodes_kept (s : State) (ns : List PrefixNode) (h0 : Kept kk qq s) : Kept kk qq (insertNodes s ns) := by
  unfold insertNodes
  all_goals repeat' first
    | with_reducible first
      | assumption | refine kept_ite _ _ _ ?_ ?_ | refine kept_foldl _ _ ?_ ?_ | refine insertNode_kept _ _ ?_
    | intro x

theorem setLink_kept (s : State) (k' : ℕ) (x : Link) (h0 : Kept kk qq s) : Kept kk qq (setLink s k' x) := by
  unfold setLink
  all_goals repeat' first
    | with_reducible first
      | assumption
    | (with_reducible refine kept_upd ?_; with_reducible first | assumption)

theorem modLink_kept (s : State) (k' : ℕ) (f : Link → Link) (h0 : Kept kk qq s) : Kept kk qq (modLink s k' f) := by
  unfold modLink
  all_goals repeat' first
    | with_reducible first
      | assumption | refine setLink_kept _ _ _ ?_

theorem setSerial_kept (s : State) (f : Fld) (inst : ℕ) (v : ℕ) (h0 : Kept kk qq s) : Kept kk qq (setSerial s f inst v) := by
  unfold setSerial
  all_goals repeat' first
    | with_reducible first
      | assumption | refine kept_foldl _ _ ?_ ?_ | refine setF_kept _ _ _ _ _ ?_
    | intro x

theorem sendFrame_kept (s : State) (k' : ℕ) (channel : ℕ) (flits : List (List Byte)) (h0 : Kept kk qq s) : Kept kk qq (sendFrame s k' channel flits) := by
  unfold sendFrame
  all_goals repeat' first
    | with_reducible first
      | assumption | refine kept_ite _ _ _ ?_ ?_ | refine setLink_kept _ _ _ ?_
    | (with_reducible refine kept_upd ?_; with_reducible first | refine kept_ite _ _ _ ?_ ?_ | refine setLink_kept _ _ _ ?_)

theorem sendFlits_kept (s : State) (k' : ℕ) (channel : ℕ) (flits : List (List Byte)) (h0 : Kept kk qq s) : Kept kk qq (sendFlits s k' channel flits) := by
  unfold sendFlits
  all_goals repeat' first
    | with_reducible first
      | assumption | refine kept_ite _ _ _ ?_ ?_ | refine kept_foldl _ _ ?_ ?_
      | refine sendFrame_kept _ _ _ _ ?_
    | intro x
    | split

theorem linkSend_kept (s : State) (k' : ℕ) (m : List Byte) (h0 : Kept kk qq s) : Kept kk qq (linkSend s k' m) := by
  unfold linkSend
  all_goals repeat' first
    | with_reducible first
      | assumption | refine sendFlits_kept _ _ _ _ ?_

theorem sendMsgs_kept (s : State) (k' : ℕ) (ms : List (List Byte)) (h0 : Kept kk qq s) : Kept kk qq (sendMsgs s k' ms) := by
  unfold sendMsgs
  all_goals repeat' first
    | with_reducible first
      | assumption | refine sendFlits_kept _ _ _ _ ?_

theorem sendFabric_kept (s : State) (k' : ℕ) (f : Flit) (h0 : Kept kk qq s) : Kept kk qq (sendFabric s k' f) := by
  unfold sendFabric
  all_goals repeat' first
    | with_reducible first
      | assumption | refine kept_ite _ _ _ ?_ ?_ | refine sendFlits_kept _ _ _ _ ?_

theorem setSt_kept (s : State) (e : ℕ) (x : Stream) (h0 : Kept kk qq s) : Kept kk qq (setSt s e x) := by
  unfold setSt
  all_goals repeat' first
    | with_reducible first
      | assumption
    | (with_reducible refine kept_upd ?_; with_reducible first | assumption)

theorem adjSt_kept (s : State) (e : ℕ) (f : Stream → Stream) (h0 : Kept kk qq s) : Kept kk qq (adjSt s e f) := by
  unfold adjSt
  all_goals repeat' first
    | with_reducible first
      | assumption
    | (with_reducible refine kept_upd ?_; with_reducible first | assumption)

theorem setForme_kept (s : State) (f : ℕ) (x : Forme) (h0 : Kept kk qq s) : Kept kk qq (setForme s f x) := by
  unfold setForme
  all_goals repeat' first
    | with_reducible first
      | assumption
    | (with_reducible refine kept_upd ?_; with_reducible first | assumption)

theorem adjForme_kept (s : State) (f : ℕ) (g : Forme → Forme) (h0 : Kept kk qq s) : Kept kk qq (adjForme s f g) := by
  unfold adjForme
  all_goals repeat' first
    | with_reducible first
      | assumption
    | (with_reducible refine kept_upd ?_; with_reducible first | assumption)

theorem reportForme_kept (s : State) (fi : ℕ) (h0 : Kept kk qq s) : Kept kk qq (reportForme s fi) := by
  unfold reportForme
  all_goals repeat' first
    | with_reducible first
      | assumption | refine kept_ite _ _ _ ?_ ?_ | refine kept_foldl _ _ ?_ ?_ | refine setF_kept _ _ _ _ _ ?_
    | intro x
    | split

theorem rebindForme_kept (s : State) (fi : ℕ) (f : Forme) (h0 : Kept kk qq s) : Kept kk qq (rebindForme s fi f) := by
  unfold rebindForme
  refine kept_foldlp _ _ h0 ?_
  intro t a ht
  dsimp only
  split
  · exact kept_upd ht
  · exact ht

theorem repriceForme_kept (s : State) (fi : ℕ) (h0 : Kept kk qq s) : Kept kk qq (repriceForme s fi) := by
  unfold repriceForme
  all_goals repeat' first
    | with_reducible first
      | assumption | refine reportForme_kept _ _ ?_ | refine rebindForme_kept _ _ _ ?_
    | (with_reducible refine kept_upd ?_; with_reducible first | assumption)
    | split

theorem refixForme_kept (s : State) (fi : ℕ) (h0 : Kept kk qq s) : Kept kk qq (refixForme s fi) := by
  unfold refixForme
  all_goals repeat' first
    | with_reducible first
      | assumption | refine repriceForme_kept _ _ ?_ | refine adjForme_kept _ _ _ ?_

theorem refixChase_kept (s : State) (n : ℕ) (h0 : Kept kk qq s) : Kept kk qq (refixChase s n) := by
  unfold refixChase
  all_goals repeat' first
    | with_reducible first
      | assumption | refine kept_ite _ _ _ ?_ ?_ | refine kept_foldl _ _ ?_ ?_ | refine refixForme_kept _ _ ?_
    | intro x

theorem timeStep_kept (s : State) (fi : ℕ) (launched : ℕ) (h0 : Kept kk qq s) : Kept kk qq (timeStep s fi launched) := by
  unfold timeStep
  all_goals repeat' first
    | with_reducible first
      | assumption | refine repriceForme_kept _ _ ?_ | refine setForme_kept _ _ _ ?_
    | split

theorem use_kept (s : State) (x : Stream) (f : UsagePair → UsagePair) (h0 : Kept kk qq s) : Kept kk qq (use s x f) := by
  unfold use
  all_goals repeat' first
    | with_reducible first
      | assumption
    | (with_reducible refine kept_upd ?_; with_reducible first | assumption)

theorem pinSlot_kept (s : State) (k' : ℕ) (h0 : Kept kk qq s) : Kept kk qq (pinSlot s k') := by
  unfold pinSlot
  all_goals repeat' first
    | with_reducible first
      | assumption
    | (with_reducible refine kept_upd ?_; with_reducible first | assumption)

theorem unpinSlot_kept (s : State) (k' : ℕ) (h0 : Kept kk qq s) : Kept kk qq (unpinSlot s k') := by
  unfold unpinSlot
  all_goals repeat' first
    | with_reducible first
      | assumption
    | (with_reducible refine kept_upd ?_; with_reducible first | assumption)

theorem modConv_kept (s : State) (tenant : ℕ) (handle : ℕ) (f : Conv → Conv) (h0 : Kept kk qq s) : Kept kk qq (modConv s tenant handle f) := by
  unfold modConv
  all_goals repeat' first
    | with_reducible first
      | assumption | refine kept_ite _ _ _ ?_ ?_ | refine kept_foldl _ _ ?_ ?_
    | (with_reducible refine kept_upd ?_; with_reducible first | assumption)
    | split

theorem dropConv_kept (s : State) (tenant : ℕ) (handle : ℕ) (h0 : Kept kk qq s) : Kept kk qq (dropConv s tenant handle) := by
  unfold dropConv
  all_goals repeat' first
    | with_reducible first
      | assumption
    | (with_reducible refine kept_upd ?_; with_reducible first | assumption)

theorem dropHolder_kept (s : State) (h : ℕ) (h0 : Kept kk qq s) : Kept kk qq (dropHolder s h) := by
  unfold dropHolder
  all_goals repeat' first
    | with_reducible first
      | assumption | refine kept_foldl _ _ ?_ ?_ | refine releaseGalley_kept _ _ ?_
      | refine adjG_kept _ _ _ ?_
    | intro x

theorem freeOwned_kept (s : State) (o : Owner) (h0 : Kept kk qq s) : Kept kk qq (freeOwned s o) := by
  unfold freeOwned
  all_goals repeat' first
    | with_reducible first
      | assumption | refine kept_ite _ _ _ ?_ ?_ | refine kept_foldl _ _ ?_ ?_ | refine freeGalley_kept _ _ ?_
      | refine setG_kept _ _ _ ?_
    | intro x
    | split

theorem freeConv_kept (s : State) (tenant : ℕ) (handle : ℕ) (h0 : Kept kk qq s) : Kept kk qq (freeConv s tenant handle) := by
  unfold freeConv
  all_goals repeat' first
    | with_reducible first
      | assumption | refine freeOwned_kept _ _ ?_ | refine dropHolder_kept _ _ ?_ | refine evictAll_kept _ ?_
      | refine dropConv_kept _ _ _ ?_

theorem restGalley_kept (s : State) (g : ℕ) (h0 : Kept kk qq s) : Kept kk qq (restGalley s g) := by
  unfold restGalley
  all_goals repeat' first
    | with_reducible first
      | assumption | refine kept_ite _ _ _ ?_ ?_ | refine dropT0_kept _ _ _ ?_ | refine setG_kept _ _ _ ?_
    | split

theorem restGalleys_kept (s : State) (h0 : Kept kk qq s) : Kept kk qq (restGalleys s) := by
  unfold restGalleys
  all_goals repeat' first
    | with_reducible first
      | assumption | refine kept_foldl _ _ ?_ ?_ | refine restGalley_kept _ _ ?_
    | intro x

theorem endPass_kept (s : State) (e : ℕ) (x : Stream) (h0 : Kept kk qq s) : Kept kk qq (endPass s e x) := by
  unfold endPass
  all_goals repeat' first
    | with_reducible first
      | assumption | refine modKv_kept _ _ ?_
    | lift_lets
    | (intro x; refine kept_cut (kk := kk) (qq := qq) x ?_ ?_ <;> [subst x; (intro hx; clear_value x)])
    | (with_reducible refine kept_upd ?_; with_reducible first | assumption)

theorem pauseGalley_kept (s : State) (o : Owner) (v : ℕ) (g : ℕ) (h0 : Kept kk qq s) : Kept kk qq (pauseGalley s o v g) := by
  unfold pauseGalley
  all_goals repeat' first
    | with_reducible first
      | assumption | refine kept_ite _ _ _ ?_ ?_ | refine kept_foldl _ _ ?_ ?_ | refine freeGalley_kept _ _ ?_
      | refine setG_kept _ _ _ ?_ | refine dropT0_kept _ _ _ ?_ | refine copyToT1_kept _ _ ?_
    | split

theorem pauseGalleys_kept (s : State) (e : ℕ) (tenant : ℕ) (handle : ℕ) (v : ℕ) (h0 : Kept kk qq s) : Kept kk qq (pauseGalleys s e tenant handle v) := by
  unfold pauseGalleys
  all_goals repeat' first
    | with_reducible first
      | assumption | refine kept_foldl _ _ ?_ ?_ | refine pauseGalley_kept _ _ _ _ ?_
      | refine restGalleys_kept _ ?_ | refine modKv_kept _ _ ?_
    | intro x

theorem insertTail_kept (s : State) (e : ℕ) (x : Stream) (h0 : Kept kk qq s) : Kept kk qq (insertTail s e x) := by
  unfold insertTail
  all_goals repeat' first
    | with_reducible first
      | assumption | refine kept_ite _ _ _ ?_ ?_ | refine kept_foldl _ _ ?_ ?_ | refine dropT0_kept _ _ _ ?_
      | refine copyToT1_kept _ _ ?_ | refine setG_kept _ _ _ ?_ | refine insertNodes_kept _ _ ?_
    | intro x
    | split

theorem keepLate_kept (s : State) (e : ℕ) (h0 : Kept kk qq s) : Kept kk qq (keepLate s e) := by
  unfold keepLate
  all_goals repeat' first
    | with_reducible first
      | assumption | refine kept_ite _ _ _ ?_ ?_ | refine kept_foldl _ _ ?_ ?_ | refine adjG_kept _ _ _ ?_
    | intro x

theorem sweepTree_kept (s : State) (h0 : Kept kk qq s) : Kept kk qq (sweepTree s) := by
  unfold sweepTree
  all_goals repeat' first
    | with_reducible first
      | assumption | refine kept_foldl _ _ ?_ ?_ | refine releaseGalley_kept _ _ ?_
    | intro x

theorem sweepMoorings_kept (s : State) (h0 : Kept kk qq s) : Kept kk qq (sweepMoorings s) := by
  unfold sweepMoorings
  all_goals repeat' first
    | with_reducible first
      | assumption | refine kept_foldl _ _ ?_ ?_ | refine reportForme_kept _ _ ?_
    | intro x
    | (with_reducible refine kept_upd ?_; with_reducible first | assumption)

end Sys2Proof.Machine
end

