-- ==== Sys2Proof/Laws/Kept2.lean ====
section
/-! SUPPORT. One lemma for each operation, from `settleConv` to `scrubWord`: it keeps the invariant, the keys and
the waiting commands. -/

namespace Sys2Proof.Machine

set_option linter.all false

variable {kk : List (Nat × Nat × Nat)} {qq : List Instr}

theorem settleConv_kept (s : State) (e : ℕ) (x : Stream) (cancelled : Bool) (keep : Bool) (h0 : Kept kk qq s) : Kept kk qq (settleConv s e x cancelled keep).1 := by
  unfold settleConv
  all_goals repeat' first
    | with_reducible first
      | assumption | refine modConv_kept _ _ _ _ ?_ | refine freeConv_kept _ _ _ ?_
      | refine pauseGalleys_kept _ _ _ _ _ ?_
    | lift_lets
    | intro x
    | split

theorem endStream_kept (s : State) (e : ℕ) (status : ℕ) (state : ℕ) (flags : ℕ) (keep : optParam Bool true) (h0 : Kept kk qq s) : Kept kk qq (endStream s e status state flags keep) := by
  unfold endStream
  all_goals repeat' first
    | with_reducible first
      | assumption | refine kept_foldl _ _ ?_ ?_ | refine settleConv_kept _ _ _ _ _ ?_
      | refine insertTail_kept _ _ _ ?_ | refine keepLate_kept _ _ ?_ | refine freeOwned_kept _ _ ?_
      | refine endPass_kept _ _ _ ?_ | refine evictAll_kept _ ?_ | refine sweepTree_kept _ ?_
      | refine dropHolder_kept _ _ ?_ | refine restGalleys_kept _ ?_ | refine modKv_kept _ _ ?_
      | refine unpinSlot_kept _ _ ?_ | refine adjSt_kept _ _ _ ?_ | refine sweepMoorings_kept _ ?_
      | refine use_kept _ _ _ ?_ | refine addF_kept _ _ _ _ _ ?_ | refine respond_kept _ _ _ ?_
    | intro x
    | split

theorem cancelStream_kept (s : State) (e : ℕ) (h0 : Kept kk qq s) : Kept kk qq (cancelStream s e) := by
  unfold cancelStream
  all_goals repeat' first
    | with_reducible first
      | assumption | refine kept_ite _ _ _ ?_ ?_ | refine kept_foldl _ _ ?_ ?_
      | refine endStream_kept _ _ _ _ _ _ ?_
    | split

theorem settleRing_kept (s : State) (q' : ℕ) (h0 : Kept kk qq s) : Kept kk qq (settleRing s q') := by
  unfold settleRing
  all_goals repeat' first
    | with_reducible first
      | assumption
    | (with_reducible refine kept_upd ?_; with_reducible first | assumption)

theorem mapForme_kept (s : State) (fi : ℕ) (f : Stream → Stream) (h0 : Kept kk qq s) : Kept kk qq (mapForme s fi f) := by
  unfold mapForme
  all_goals repeat' first
    | with_reducible first
      | assumption
    | (with_reducible refine kept_upd ?_; with_reducible first | assumption)

theorem mirrorSend_kept (s : State) (bs : List Byte) (h0 : Kept kk qq s) : Kept kk qq (mirrorSend s bs) := by
  unfold mirrorSend
  all_goals repeat' first
    | with_reducible first
      | assumption | refine kept_ite _ _ _ ?_ ?_ | refine linkSend_kept _ _ _ ?_
    | split

theorem commitReplay_kept (s : State) (e : ℕ) (h0 : Kept kk qq s) : Kept kk qq (commitReplay s e) := by
  unfold commitReplay
  all_goals repeat' first
    | with_reducible first
      | assumption | refine mirrorSend_kept _ _ ?_
    | split

theorem handMsg_kept (s : State) (bs : List Byte) (h0 : Kept kk qq s) : Kept kk qq (handMsg s bs) := by
  unfold handMsg
  all_goals repeat' first
    | with_reducible first
      | assumption | refine linkSend_kept _ _ _ ?_
    | split

theorem handQueue_kept (s : State) (q' : ℕ) (h0 : Kept kk qq s) : Kept kk qq (handQueue s q') := by
  unfold handQueue
  all_goals repeat' first
    | with_reducible first
      | assumption | refine kept_ite _ _ _ ?_ ?_ | refine handMsg_kept _ _ ?_
    | (with_reducible refine kept_upd ?_; with_reducible first | assumption)

theorem handStream_kept (s : State) (e : ℕ) (h0 : Kept kk qq s) : Kept kk qq (handStream s e) := by
  unfold handStream
  all_goals repeat' first
    | with_reducible first
      | assumption | refine kept_foldl _ _ ?_ ?_ | refine setF_kept _ _ _ _ _ ?_
      | refine handQueue_kept _ _ ?_ | refine handMsg_kept _ _ ?_ | refine freeOwned_kept _ _ ?_
      | refine countHeld_kept _ ?_ | refine dropHolder_kept _ _ ?_ | refine dropEntry_kept _ _ ?_
      | refine unpinSlot_kept _ _ ?_
    | intro x
    | split

theorem handOrEnd_kept (s : State) (status : ℕ) (f : Stream → Bool) (h0 : Kept kk qq s) : Kept kk qq (handOrEnd s status f) := by
  unfold handOrEnd
  all_goals repeat' first
    | with_reducible first
      | assumption | refine kept_ite _ _ _ ?_ ?_ | refine kept_foldl _ _ ?_ ?_ | refine handStream_kept _ _ ?_
      | refine endStream_kept _ _ _ _ _ _ ?_
    | intro x
    | split

theorem passOp_kept (s : State) (c : CoreRef) (h0 : Kept kk qq s) : Kept kk qq (passOp s c) := by
  unfold passOp
  all_goals repeat' first
    | with_reducible first
      | assumption | refine modCore_kept _ _ _ ?_

theorem asOp_kept (s : State) (c : CoreRef) (op : ℕ) (f : State → State) (h0 : Kept kk qq s) (h1 : ∀ t, Kept kk qq t → Kept kk qq (f t)) : Kept kk qq (asOp s c op f) := by
  unfold asOp
  all_goals repeat' first
    | with_reducible first
      | assumption | refine kept_ite _ _ _ ?_ ?_ | refine passOp_kept _ _ ?_ | refine h1 _ ?_

theorem takeIn_kept (s : State) (c : CoreRef) (p : Flit → Bool) (h0 : Kept kk qq s) : Kept kk qq (takeIn s c p) := by
  unfold takeIn
  all_goals repeat' first
    | with_reducible first
      | assumption | refine kept_ite _ _ _ ?_ ?_ | refine modCore_kept _ _ _ ?_

theorem holdIn_kept (s : State) (c : CoreRef) (f : Flit) (h0 : Kept kk qq s) : Kept kk qq (holdIn s c f) := by
  unfold holdIn
  all_goals repeat' first
    | with_reducible first
      | assumption | refine modCore_kept _ _ _ ?_

theorem countWait_kept (s : State) (c : CoreRef) (n : ℕ) (h0 : Kept kk qq s) : Kept kk qq (countWait s c n) := by
  unfold countWait
  all_goals repeat' first
    | with_reducible first
      | assumption | refine modCore_kept _ _ _ ?_

theorem meetFile_kept (s : State) (c : CoreRef) (u : ℕ) (slots : List ℕ) (h0 : Kept kk qq s) : Kept kk qq (meetFile s c u slots) := by
  unfold meetFile
  all_goals repeat' first
    | with_reducible first
      | assumption | refine kept_foldl _ _ ?_ ?_ | refine raise_kept _ _ ?_ | refine modCore_kept _ _ _ ?_
    | intro x

theorem setGate_kept (s : State) (c : CoreRef) (i : ℕ) (g : Gate) (h0 : Kept kk qq s) : Kept kk qq (setGate s c i g) := by
  unfold setGate
  all_goals repeat' first
    | with_reducible first
      | assumption | refine modCore_kept _ _ _ ?_

theorem landFlit_kept (s : State) (c : CoreRef) (i : ℕ) (g : Gate) (f : Flit) (h0 : Kept kk qq s) : Kept kk qq (landFlit s c i g f) := by
  unfold landFlit
  all_goals repeat' first
    | with_reducible first
      | assumption | refine kept_ite _ _ _ ?_ ?_ | refine kept_foldl _ _ ?_ ?_ | refine raise_kept _ _ ?_
      | refine onAccess_kept _ _ _ _ _ _ ?_ ?_ | refine setGate_kept _ _ _ _ ?_
      | refine narrowWrite_kept _ _ _ _ _ ?_ | refine meetCore_kept _ _ _ _ ?_ | refine addF_kept _ _ _ _ _ ?_
    | (intro x; intro (hx : Kept kk qq x))
    | split

theorem gateTake_kept (s : State) (c : CoreRef) (f : Flit) (h0 : Kept kk qq s) : Kept kk qq (gateTake s c f) := by
  unfold gateTake
  all_goals repeat' first
    | with_reducible first
      | assumption | refine landFlit_kept _ _ _ _ _ ?_ | refine setCore_kept _ _ _ ?_
      | refine setF_kept _ _ _ _ _ ?_ | refine holdIn_kept _ _ _ ?_
    | lift_lets
    | intro x
    | split

theorem landParked_kept (s : State) (c : CoreRef) (h0 : Kept kk qq s) : Kept kk qq (landParked s c) := by
  unfold landParked
  all_goals repeat' first
    | with_reducible first
      | assumption | refine kept_foldl _ _ ?_ ?_ | refine modCore_kept _ _ _ ?_
      | refine gateTake_kept _ _ _ ?_
    | intro x

theorem insertLate_kept (s : State) (x : Galley) (h0 : Kept kk qq s) : Kept kk qq (insertLate s x) := by
  unfold insertLate
  all_goals repeat' first
    | with_reducible first
      | assumption | refine kept_ite _ _ _ ?_ ?_ | refine kept_foldl _ _ ?_ ?_ | refine adjG_kept _ _ _ ?_
      | refine releaseGalley_kept _ _ ?_ | refine evictAll_kept _ ?_ | refine insertNodes_kept _ _ ?_
    | intro x

theorem galleyAck_kept (s : State) (g : ℕ) (x : Galley) (h0 : Kept kk qq s) : Kept kk qq (galleyAck s g x) := by
  unfold galleyAck
  all_goals repeat' first
    | with_reducible first
      | assumption | refine kept_ite _ _ _ ?_ ?_ | refine setG_kept _ _ _ ?_ | refine mirrorSend_kept _ _ ?_
      | refine restGalleys_kept _ ?_ | refine releaseGalley_kept _ _ ?_ | refine insertLate_kept _ _ ?_

theorem execGalleyResident_kept (g : ℕ) (s : State) (h0 : Kept kk qq s) : KeptO kk qq (execGalleyResident g s) := by
  unfold execGalleyResident
  all_goals repeat' first
    | with_reducible first
      | assumption | refine kept_next ?_ | refine galleyAck_kept _ _ _ ?_
    | split

theorem execGalleyFetchDone_kept (g : ℕ) (s : State) (h0 : Kept kk qq s) : KeptO kk qq (execGalleyFetchDone g s) := by
  unfold execGalleyFetchDone
  all_goals repeat' first
    | with_reducible first
      | assumption | refine kept_next ?_ | refine copyToT0_kept _ _ _ ?_
    | split

theorem sendT2_kept (s : State) (h : ℕ) (g : ℕ) (h0 : Kept kk qq s) : Kept kk qq (sendT2 s h g) := by
  unfold sendT2
  split
  · split
    · dsimp only
      split
      · exact meetStack_kept _ _ _ h0
      split
      · refine countT2_kept _ (modKv_kept _ _ (setG_kept _ _ _ (addF_kept _ _ _ _ _ ?_)))
        have h1 := meetStack_kept s (by assumption) (Galley.span (by assumption)) h0
        exact kept_updm h1 ⟨h1.1.1.1, h1.1.1.2.1, memMove_wf h1.1.1.2.1 h1.1.1.2.2 _ _ _⟩
      · exact meetStack_kept _ _ _ h0
    · exact h0
  · exact h0

theorem execGalleyToT2_kept (tenant : ℕ) (handle : ℕ) (s : State) (h0 : Kept kk qq s) : KeptO kk qq (execGalleyToT2 tenant handle s) := by
  unfold execGalleyToT2
  all_goals repeat' first
    | with_reducible first
      | assumption | refine kept_next ?_ | refine kept_foldl _ _ ?_ ?_ | refine sendT2_kept _ _ _ ?_
    | intro x
    | split

theorem execT2CopyAck_kept (g : ℕ) (s : State) (h0 : Kept kk qq s) : KeptO kk qq (execT2CopyAck g s) := by
  unfold execT2CopyAck
  all_goals repeat' first
    | with_reducible first
      | assumption | refine kept_ite _ _ _ ?_ ?_ | refine kept_next ?_ | refine kept_foldl _ _ ?_ ?_
      | refine setG_kept _ _ _ ?_ | refine freeT1_kept _ _ _ ?_
    | split

theorem expireConv_kept (s : State) (c : Conv) (h0 : Kept kk qq s) (h1 : s.serve.convFifo.length < 64) : Kept kk qq (expireConv s c) := by
  unfold expireConv
  dsimp only
  have h2 : Kept kk qq { s with serve := { s.serve with
      convFifo := s.serve.convFifo ++ [c.handle]
      convTombs := s.serve.convTombs ++ [(c.tenant, c.handle, s.lampTime)] } } :=
    ⟨⟨h0.1.1, h0.1.2.1, h0.1.2.2.1, by
      show (s.serve.convFifo ++ [c.handle]).length ≤ 64
      rw [List.length_append, List.length_singleton]
      exact h1⟩, h0.2⟩
  refine respond_kept _ _ _ (freeConv_kept _ _ _ ?_)
  split
  · exact endStream_kept _ _ _ _ _ _ h2
  · exact h2

theorem tryExpire_kept (s : State) (c : Conv) (h0 : Kept kk qq s) : Kept kk qq (tryExpire s c) := by
  unfold tryExpire
  split
  · exact expireConv_kept _ _ h0 ‹_›
  · exact kept_upd h0

theorem drainExpiries_kept (s : State) (x1 : List (ℕ × ℕ)) (h0 : Kept kk qq s) : Kept kk qq (drainExpiries s x1) := by
  induction x1 generalizing s with
  | nil => unfold drainExpiries; exact kept_upd h0
  | cons w r ih =>
    unfold drainExpiries
    split
    · rename_i hl
      split
      · rename_i c hc
        by_cases ho : ttlOver s c = true
        · rw [if_pos ho]; exact ih _ (expireConv_kept _ _ h0 hl)
        · rw [if_neg ho]; exact ih _ h0
      · exact ih _ h0
    · exact kept_upd h0

theorem execConvExpiry_kept (tenant : ℕ) (handle : ℕ) (s : State) (h0 : Kept kk qq s) : KeptO kk qq (execConvExpiry tenant handle s) := by
  unfold execConvExpiry
  all_goals repeat' first
    | with_reducible first
      | assumption | refine kept_next ?_ | refine tryExpire_kept _ _ ?_
    | split

theorem execConvTombstoneLapse_kept (tenant : ℕ) (handle : ℕ) (s : State) (h0 : Kept kk qq s) : KeptO kk qq (execConvTombstoneLapse tenant handle s) := by
  unfold execConvTombstoneLapse
  all_goals repeat' first
    | with_reducible first
      | assumption | refine kept_next ?_
    | (with_reducible refine kept_upd ?_; with_reducible first | assumption)

theorem execLimitGib_kept (v : ℕ) (s : State) (h0 : Kept kk qq s) : KeptO kk qq (execLimitGib v s) := by
  unfold execLimitGib
  all_goals repeat' first
    | with_reducible first
      | assumption | refine kept_ite _ _ _ ?_ ?_ | refine kept_next ?_ | refine regWrite_kept _ _ _ ?_ ?_
      | refine evictAll_kept _ ?_ | refine setF_kept _ _ _ _ _ ?_
    | (intro x; intro (hx : Kept kk qq x))

theorem readResult_kept (s : State) (r : Requester) (v : ℕ) (h0 : Kept kk qq s) : Kept kk qq (readResult s r v) := by
  unfold readResult
  all_goals repeat' first
    | with_reducible first
      | assumption
    | (with_reducible refine kept_upd ?_; with_reducible first | assumption)

theorem execT2DirectoryRead_kept (r : Requester) (index : ℕ) (s : State) (h0 : Kept kk qq s) : KeptO kk qq (execT2DirectoryRead r index s) := by
  unfold execT2DirectoryRead
  all_goals repeat' first
    | with_reducible first
      | assumption | refine kept_next ?_ | refine readResult_kept _ _ _ ?_
    | split

theorem withPacked_kept (s : State) (c : CoreRef) (x : PackedSrc) (n : ℕ) (who : Who) (f : State → List Elem → Bool → State) (h0 : Kept kk qq s) (h1 : ∀ t y0 y1, Kept kk qq t → Kept kk qq (f t y0 y1)) : Kept kk qq (withPacked s c x n who f) := by
  unfold withPacked
  dsimp only
  refine onAccess_kept _ _ _ _ _ _ h0 (fun t ht => onAccess_kept _ _ _ _ _ _ ht (fun u hu => ?_))
  exact h1 _ _ _ (meetWide_kept _ _ _ _ _ (meetWide_kept _ _ _ _ _ hu))

theorem writeBlock_kept (s : State) (c : CoreRef) (p : BlockPlace) (q' : QBlock) (poison : Bool) (who : Who) (h0 : Kept kk qq s) : Kept kk qq (writeBlock s c p q' poison who) := by
  unfold writeBlock
  all_goals repeat' first
    | with_reducible first
      | assumption | refine onAccess_kept _ _ _ _ _ _ ?_ ?_ | refine storeWrite_kept _ _ _ _ _ ?_
    | (intro x; intro (hx : Kept kk qq x))

theorem writeVals_kept (s : State) (c : CoreRef) (out : Fmt) (dst : ℕ) (scaleDst : ℕ) (xs : List FVal) (poison : Bool) (who : Who) (h0 : Kept kk qq s) : Kept kk qq (writeVals s c out dst scaleDst xs poison who) := by
  unfold writeVals
  all_goals repeat' first
    | with_reducible first
      | assumption | refine kept_ite _ _ _ ?_ ?_ | refine kept_foldl _ _ ?_ ?_
      | refine writeBlock_kept _ _ _ _ _ _ ?_ | refine onAccess_kept _ _ _ _ _ _ ?_ ?_
      | refine storeWrite_kept _ _ _ _ _ ?_
    | intro x

theorem withLanded_kept (s : State) (c : CoreRef) (as : List ℕ) (who : Who) (f : State → State) (h0 : Kept kk qq s) (h1 : ∀ t, Kept kk qq t → Kept kk qq (f t)) : Kept kk qq (withLanded s c as who f) := by
  unfold withLanded
  all_goals repeat' first
    | with_reducible first
      | assumption | refine kept_ite _ _ _ ?_ ?_ | refine kept_foldl _ _ ?_ ?_ | refine raise_kept _ _ ?_
      | refine meetWide_kept _ _ _ _ _ ?_ | refine h1 _ ?_
    | intro x
    | split

theorem closeMerge_kept (s : State) (c : CoreRef) (out : Fmt) (dst : ℕ) (scaleDst : ℕ) (stamp : Word64) (x : MergeSrc) (who : Who) (h0 : Kept kk qq s) : Kept kk qq (closeMerge s c out dst scaleDst stamp x who) := by
  unfold closeMerge
  all_goals repeat' first
    | with_reducible first
      | assumption | refine withLanded_kept _ _ _ _ _ ?_ ?_ | refine writeVals_kept _ _ _ _ _ _ _ _ ?_
    | (intro x; intro (hx : Kept kk qq x))

theorem closeOrdered_kept (s : State) (c : CoreRef) (out : Fmt) (dst : ℕ) (scaleDst : ℕ) (x : PartsSrc) (who : Who) (h0 : Kept kk qq s) : Kept kk qq (closeOrdered s c out dst scaleDst x who) := by
  unfold closeOrdered
  all_goals repeat' first
    | with_reducible first
      | assumption | refine kept_foldl _ _ ?_ ?_ | refine raise_kept _ _ ?_
      | refine meetWide_kept _ _ _ _ _ ?_ | refine writeVals_kept _ _ _ _ _ _ _ _ ?_
    | lift_lets
    | intro x
    | split

theorem closeScores_kept (s : State) (c : CoreRef) (stamp : Word64) (query : PackedSrc) (group : ℕ) (anchor : ℤ) (recomputeLen : ℕ) (who : Who) (h0 : Kept kk qq s) : Kept kk qq (closeScores s c stamp query group anchor recomputeLen who) := by
  unfold closeScores
  split
  · split
    · refine withPacked_kept _ _ _ _ _ _ h0 ?_
      intro t q b ht
      exact modKv_kept _ _ (countSums_kept _ _ _ _ _ _ ht)
    · exact h0
  · exact h0

theorem bringSummaries_kept (s : State) (stamp : ℕ) (layer : ℕ) (group : ℕ) (a : ℕ) (n : ℕ) (h0 : Kept kk qq s) : Kept kk qq (bringSummaries s stamp layer group a n) := by
  unfold bringSummaries
  split
  · exact modKv_kept _ _ h0
  · exact h0

theorem takeFetchSlot_kept (s : State) (e : ℕ) (g : ℕ) (k' : ℕ) (x : Galley) (chosen : List ℕ) (f : Forme) (p : Placed) (h0 : Kept kk qq s) : ∀ t, takeFetchSlot s e g k' x chosen f p = some t → Kept kk qq t := by
  intro t ht
  unfold takeFetchSlot at ht
  dsimp only at ht
  rw [Option.bind_eq_some_iff] at ht
  obtain ⟨u, hu, ht⟩ := ht
  have h1 : Kept kk qq u := by
    split at hu
    · cases hu; exact h0
    · rw [Option.map_eq_some_iff] at hu
      obtain ⟨y, _, rfl⟩ := hu
      exact restGalley_kept _ _ (modKv_kept _ _ h0)
  split at ht
  · cases ht; exact takeT0In_kept _ _ _ (modKv_kept _ _ h1)
  · cases ht

theorem reuseStaging_kept (s : State) (e : ℕ) (x : Galley) (h0 : Kept kk qq s) : Kept kk qq (reuseStaging s e x) := by
  unfold reuseStaging
  all_goals repeat' first
    | with_reducible first
      | assumption | refine kept_ite _ _ _ ?_ ?_ | refine restGalley_kept _ _ ?_
    | lift_lets
    | intro x
    | split

theorem takeStaging_kept (s : State) (e : ℕ) (g : ℕ) (x : Galley) (h0 : Kept kk qq s) : ∀ t, takeStaging s e g x = some t → Kept kk qq t := by
  intro t ht
  have key : ∀ u : State, Kept kk qq u → (if (getG u g).any (fun z => z.t0.isSome) then some u else none) = some t →
      Kept kk qq t := by
    intro u hu h
    split at h
    · cases h; exact hu
    · cases h
  refine key _ (kept_ite _ _ _ ?_ ?_) ht
  · exact takeT0_kept _ _ h0
  · exact takeT0_kept _ _ (reuseStaging_kept _ _ _ h0)

theorem beginFetch_kept (s : State) (stamp : Word64) (group : ℕ) (h0 : Kept kk qq s) : Kept kk qq (beginFetch s stamp group) := by
  unfold beginFetch
  split
  · split
    · dsimp only
      split
      · rename_i f a _ _ _ g x hx
        have h1 := fromT2_kept s g h0
        have key : ∀ r : Option State, (∀ u, r = some u → Kept kk qq u) →
            Kept kk qq ((r.map (fun s => adjG s g (fun z => { z with st := .fetching }))).getD (fromT2 s g)) := by
          intro r hr
          cases r with
          | none => exact h1
          | some u => exact adjG_kept _ _ _ (hr u rfl)
        refine key _ ?_
        intro u hu
        split at hu
        · exact takeStaging_kept _ _ _ _ h1 _ hu
        · obtain ⟨p, _, hp⟩ := List.exists_of_findSome?_eq_some hu
          exact takeFetchSlot_kept _ _ _ _ _ _ _ _ h1 _ hp
      · exact h0
    · exact h0
  · exact h0

theorem setRail_kept (s : State) (n : ℕ) (st : ℕ) (h0 : Kept kk qq s) : Kept kk qq (setRail s n st) := by
  unfold setRail
  all_goals repeat' first
    | with_reducible first
      | assumption | refine setF_kept _ _ _ _ _ ?_

theorem loseStore_kept (s : State) (n : ℕ) (p : ℕ → Bool) (h0 : Kept kk qq s) : Kept kk qq (loseStore s n p) := by
  unfold loseStore
  all_goals repeat' first
    | with_reducible first
      | assumption
    | (intro (x : Mem); subst x)
    | (with_reducible refine kept_updm ?_ ?_; (with_reducible first | assumption); (with_reducible first | assumption | refine memOk_mk ?_ ?_ ?_))
    | with_reducible refine memZero_wf ?_ _ _
    | with_reducible refine memMove_wf ?_ ?_ _ _ _
    | with_reducible refine filter_wf ?_ _
    | with_reducible exact nil_wf
    | with_reducible exact Kept.store ‹_›
    | with_reducible exact Kept.stack ‹_›
    | with_reducible exact Kept.host ‹_›

theorem nackBuffered_kept (s : State) (c : CoreRef) (k' : Core) (h0 : Kept kk qq s) : Kept kk qq (nackBuffered s c k') := by
  unfold nackBuffered
  all_goals repeat' first
    | with_reducible first
      | assumption | refine kept_foldl _ _ ?_ ?_ | refine emitFlit_kept _ _ _ ?_
    | intro x

theorem loseUnits_kept (s : State) (n : ℕ) (h0 : Kept kk qq s) : Kept kk qq (loseUnits s n) := by
  unfold loseUnits
  all_goals repeat' first
    | with_reducible first
      | assumption | refine kept_foldl _ _ ?_ ?_ | refine nackBuffered_kept _ _ _ ?_
      | refine modChase_kept _ _ _ ?_
    | intro x
    | (with_reducible refine kept_upd ?_; with_reducible first | refine kept_foldl _ _ ?_ ?_ | refine modChase_kept _ _ _ ?_)

theorem loseChase_kept (s : State) (n : ℕ) (h0 : Kept kk qq s) : Kept kk qq (loseChase s n) := by
  unfold loseChase
  all_goals repeat' first
    | with_reducible first
      | assumption | refine kept_ite _ _ _ ?_ ?_ | refine kept_foldl _ _ ?_ ?_ | refine loseUnits_kept _ _ ?_
      | refine loseStore_kept _ _ _ ?_
    | split

theorem setClock_kept (s : State) (n : ℕ) (f : ℕ) (h0 : Kept kk qq s) : Kept kk qq (setClock s n f) := by
  unfold setClock
  all_goals repeat' first
    | with_reducible first
      | assumption | refine setF_kept _ _ _ _ _ ?_

theorem updateLimit_kept (s : State) (n : ℕ) (h0 : Kept kk qq s) : Kept kk qq (updateLimit s n) := by
  unfold updateLimit
  all_goals repeat' first
    | with_reducible first
      | assumption | refine kept_ite _ _ _ ?_ ?_ | refine setF_kept _ _ _ _ _ ?_
      | refine setClock_kept _ _ _ ?_ | refine refixChase_kept _ _ ?_

theorem demand_kept (s : State) (n : ℕ) (f : Chase → Chase) (h0 : Kept kk qq s) : Kept kk qq (demand s n f) := by
  unfold demand
  all_goals repeat' first
    | with_reducible first
      | assumption | refine kept_ite _ _ _ ?_ ?_ | refine updateLimit_kept _ _ ?_
      | refine modChase_kept _ _ _ ?_

theorem railDown_kept (s : State) (n : ℕ) (st : ℕ) (h0 : Kept kk qq s) : Kept kk qq (railDown s n st) := by
  unfold railDown
  all_goals repeat' first
    | with_reducible first
      | assumption | refine setF_kept _ _ _ _ _ ?_ | refine setRail_kept _ _ _ ?_
      | refine loseChase_kept _ _ ?_

theorem railUp_kept (s : State) (n : ℕ) (h0 : Kept kk qq s) : Kept kk qq (railUp s n) := by
  unfold railUp
  all_goals repeat' first
    | with_reducible first
      | assumption | refine setF_kept _ _ _ _ _ ?_ | refine setRail_kept _ _ _ ?_
      | refine setClock_kept _ _ _ ?_ | refine updateLimit_kept _ _ ?_

theorem claimRail_kept (s : State) (n : ℕ) (h0 : Kept kk qq s) : Kept kk qq (claimRail s n) := by
  unfold claimRail
  all_goals repeat' first
    | with_reducible first
      | assumption | refine kept_ite _ _ _ ?_ ?_ | refine railUp_kept _ _ ?_ | refine loseUnits_kept _ _ ?_

theorem idleRail_kept (s : State) (n : ℕ) (h0 : Kept kk qq s) : Kept kk qq (idleRail s n) := by
  unfold idleRail
  all_goals repeat' first
    | with_reducible first
      | assumption | refine kept_ite _ _ _ ?_ ?_ | refine railDown_kept _ _ _ ?_

theorem railRetain_kept (s : State) (n : ℕ) (h0 : Kept kk qq s) : Kept kk qq (railRetain s n) := by
  unfold railRetain
  all_goals repeat' first
    | with_reducible first
      | assumption | refine kept_ite _ _ _ ?_ ?_ | refine kept_foldl _ _ ?_ ?_ | refine setF_kept _ _ _ _ _ ?_
      | refine setRail_kept _ _ _ ?_ | refine loseUnits_kept _ _ ?_ | refine loseStore_kept _ _ _ ?_
    | split

theorem openBank_kept (s : State) (n : ℕ) (b : ℕ) (h0 : Kept kk qq s) : Kept kk qq (openBank s n b) := by
  unfold openBank
  all_goals repeat' first
    | with_reducible first
      | assumption | refine kept_ite _ _ _ ?_ ?_ | refine loseStore_kept _ _ _ ?_
      | refine modChase_kept _ _ _ ?_ | refine setF_kept _ _ _ _ _ ?_

theorem rampsEnd_kept (s : State) (h0 : Kept kk qq s) : Kept kk qq (rampsEnd s) := by
  unfold rampsEnd
  all_goals repeat' first
    | with_reducible first
      | assumption | refine kept_foldl _ _ ?_ ?_ | refine railUp_kept _ _ ?_
    | intro x

theorem banksOpen_kept (s : State) (n : ℕ) (h0 : Kept kk qq s) : Kept kk qq (banksOpen s n) := by
  unfold banksOpen
  all_goals repeat' first
    | with_reducible first
      | assumption | refine kept_ite _ _ _ ?_ ?_ | refine kept_foldl _ _ ?_ ?_ | refine openBank_kept _ _ _ ?_
    | intro x

theorem stopStreaming_kept (s : State) (p : ℕ → Bool) (h0 : Kept kk qq s) : Kept kk qq (stopStreaming s p) := by
  unfold stopStreaming
  all_goals repeat' first
    | with_reducible first
      | assumption
    | (with_reducible refine kept_upd ?_; with_reducible first | assumption)

theorem forceRetention_kept (s : State) (h0 : Kept kk qq s) : Kept kk qq (forceRetention s) := by
  unfold forceRetention
  all_goals repeat' first
    | with_reducible first
      | assumption | refine kept_foldl _ _ ?_ ?_ | refine stopStreaming_kept _ _ ?_
      | refine railRetain_kept _ _ ?_ | refine setF_kept _ _ _ _ _ ?_
    | intro x

theorem setFState_kept (s : State) (fi : ℕ) (st : ℕ) (h0 : Kept kk qq s) : Kept kk qq (setFState s fi st) := by
  unfold setFState
  all_goals repeat' first
    | with_reducible first
      | assumption | refine setF_kept _ _ _ _ _ ?_

theorem settleFState_kept (s : State) (fi : ℕ) (h0 : Kept kk qq s) : Kept kk qq (settleFState s fi) := by
  unfold settleFState
  all_goals repeat' first
    | with_reducible first
      | assumption | refine setFState_kept _ _ _ ?_
    | split

theorem loadStat_kept (s : State) (fi : ℕ) (phase : ℕ) (h0 : Kept kk qq s) : Kept kk qq (loadStat s fi phase) := by
  unfold loadStat
  all_goals repeat' first
    | with_reducible first
      | assumption | refine kept_ite _ _ _ ?_ ?_ | refine kept_foldl _ _ ?_ ?_ | refine setF_kept _ _ _ _ _ ?_
      | refine flagF_kept _ _ _ _ _ ?_
    | split

theorem loadRecord_kept (s : State) (q' : ℕ) (cid : ℕ) (tenant : ℕ) (fi : ℕ) (status : ℕ) (layers : ℕ) (kind : ℕ) (h0 : Kept kk qq s) : Kept kk qq (loadRecord s q' cid tenant fi status layers kind) := by
  unfold loadRecord
  all_goals repeat' first
    | with_reducible first
      | assumption | refine kept_ite _ _ _ ?_ ?_ | refine setF_kept _ _ _ _ _ ?_
      | refine respond_kept _ _ _ ?_

theorem finishLoad_kept (s : State) (l : Load) (status : ℕ) (layers : ℕ) (h0 : Kept kk qq s) : Kept kk qq (finishLoad s l status layers) := by
  unfold finishLoad
  all_goals repeat' first
    | with_reducible first
      | assumption | refine loadRecord_kept _ _ _ _ _ _ _ _ ?_

theorem refuseLoad_kept (s : State) (l : Load) (r : Refuse) (h0 : Kept kk qq s) : Kept kk qq (refuseLoad s l r) := by
  unfold refuseLoad
  all_goals repeat' first
    | with_reducible first
      | assumption | refine kept_ite _ _ _ ?_ ?_ | refine finishLoad_kept _ _ _ _ ?_
      | refine logFault_kept _ _ ?_

theorem writeSlotData_kept (s : State) (f : Forme) (layer : ℕ) (kind : ℕ) (idx : ℕ) (bs : List Byte) (h0 : Kept kk qq s) : Kept kk qq (writeSlotData s f layer kind idx bs) := by
  unfold writeSlotData
  all_goals repeat' first
    | with_reducible first
      | assumption | refine fillRegions_kept _ _ _ ?_

theorem writeTiles_kept (s : State) (f : Forme) (layer : ℕ) (idx : ℕ) (bs : List Byte) (h0 : Kept kk qq s) : Kept kk qq (writeTiles s f layer idx bs) := by
  unfold writeTiles
  all_goals repeat' first
    | with_reducible first
      | assumption | refine kept_foldl _ _ ?_ ?_ | refine storeWrite_kept _ _ _ _ _ ?_
    | intro x

theorem bindCold_kept (s : State) (fi : ℕ) (f : Forme) (h0 : Kept kk qq s) : Kept kk qq (bindCold s fi f) := by
  unfold bindCold
  all_goals repeat' first
    | with_reducible first
      | assumption | refine kept_foldl _ _ ?_ ?_ | refine writeTiles_kept _ _ _ _ _ ?_
    | intro x
    | (with_reducible refine kept_upd ?_; with_reducible first | assumption)
    | split

theorem refillCold_kept (s : State) (fi : ℕ) (layer : ℕ) (f : Forme) (img : List Byte) (h0 : Kept kk qq s) : Kept kk qq (refillCold s fi layer f img) := by
  unfold refillCold
  all_goals repeat' first
    | with_reducible first
      | assumption | refine kept_foldl _ _ ?_ ?_ | refine writeTiles_kept _ _ _ _ _ ?_
    | intro x
    | split

theorem startChases_kept (s : State) (ps : List Placed) (h0 : Kept kk qq s) : Kept kk qq (startChases s ps) := by
  unfold startChases
  all_goals repeat' first
    | with_reducible first
      | assumption | refine kept_ite _ _ _ ?_ ?_ | refine kept_foldl _ _ ?_ ?_
      | refine startAt_kept _ _ _ _ ?_ | refine modChase_kept _ _ _ ?_ | refine claimRail_kept _ _ ?_
    | (intro x; intro (hx : Kept kk qq x))
    | intro x
    | split

theorem openPlaced_kept (s : State) (img : List Byte) (ps : List Placed) (h0 : Kept kk qq s) : Kept kk qq (openPlaced s img ps) := by
  unfold openPlaced
  all_goals repeat' first
    | with_reducible first
      | assumption | refine kept_foldl _ _ ?_ ?_ | refine openBank_kept _ _ _ ?_
    | intro x

theorem installForme_kept (s : State) (fi : ℕ) (img : List Byte) (ident : List Byte) (p : Placement) (keepHost : Option (ℕ × ℕ)) (h0 : Kept kk qq s) : Kept kk qq (installForme s fi img ident p keepHost) := by
  unfold installForme
  all_goals repeat' first
    | with_reducible first
      | assumption | refine openPlaced_kept _ _ _ ?_ | refine setForme_kept _ _ _ ?_
      | refine fillParts_kept _ _ _ ?_ | refine bindCold_kept _ _ _ ?_ | refine startChases_kept _ _ ?_
      | refine setF_kept _ _ _ _ _ ?_ | refine refixForme_kept _ _ ?_ | refine setFState_kept _ _ _ ?_

theorem loadProgress_kept (s : State) (total : ℕ) (done : ℕ) (bytes : ℕ) (h0 : Kept kk qq s) : Kept kk qq (loadProgress s total done bytes) := by
  unfold loadProgress
  all_goals repeat' first
    | with_reducible first
      | assumption | refine kept_ite _ _ _ ?_ ?_ | refine setF_kept _ _ _ _ _ ?_

theorem dropLoad_kept (s : State) (l : Load) (h0 : Kept kk qq s) : Kept kk qq (dropLoad s l) := by
  unfold dropLoad
  all_goals repeat' first
    | with_reducible first
      | assumption
    | (with_reducible refine kept_upd ?_; with_reducible first | assumption)

theorem placeForme_kept (s : State) (l : Load) (h0 : Kept kk qq s) : Kept kk qq (placeForme s l) := by
  unfold placeForme
  all_goals repeat' first
    | with_reducible first
      | assumption | refine dropLoad_kept _ _ ?_ | refine installForme_kept _ _ _ _ _ _ ?_
      | refine finishLoad_kept _ _ _ _ ?_ | refine loadStat_kept _ _ _ ?_
      | refine loadProgress_kept _ _ _ _ ?_ | refine setFState_kept _ _ _ ?_ | refine refuseLoad_kept _ _ _ ?_
    | lift_lets
    | (intro x; refine kept_cut (kk := kk) (qq := qq) x ?_ ?_ <;> [subst x; (intro hx; clear_value x)])
    | intro x
    | (with_reducible refine kept_upd ?_; with_reducible first | assumption)
    | split

theorem retryCapacity_kept (s : State) (h0 : Kept kk qq s) : Kept kk qq (retryCapacity s) := by
  unfold retryCapacity
  all_goals repeat' first
    | with_reducible first
      | assumption | refine kept_foldl _ _ ?_ ?_ | refine syncGolden_kept _ ?_ | refine placeForme_kept _ _ ?_
    | intro x

theorem forwardImage_kept (s : State) (l : Load) (h0 : Kept kk qq s) : Kept kk qq (forwardImage s l) := by
  unfold forwardImage
  all_goals repeat' first
    | with_reducible first
      | assumption | refine kept_foldl _ _ ?_ ?_ | refine sendMsgs_kept _ _ _ ?_
    | intro x

theorem countRead_kept (s : State) (l : Load) (n : ℕ) (h0 : Kept kk qq s) : Kept kk qq (countRead s l n) := by
  unfold countRead
  all_goals repeat' first
    | with_reducible first
      | assumption | refine kept_ite _ _ _ ?_ ?_ | refine kept_foldl _ _ ?_ ?_ | refine addF_kept _ _ _ _ _ ?_
    | split

theorem headRefusal_kept (s : State) (l : Load) (h0 : Kept kk qq s) : ∀ f, headRefusal s l = some f → ∀ t, Kept kk qq t → Kept kk qq (f t) := by
  intro f hf t ht
  unfold headRefusal at hf
  split at hf
  · cases hf; exact refuseLoad_kept _ _ _ ht
  · split at hf
    · cases hf; exact finishLoad_kept _ _ _ _ ht
    · split at hf
      · cases hf; exact finishLoad_kept _ _ _ _ ht
      · cases hf

theorem freeIndex_kept (s : State) (l : Load) (h0 : Kept kk qq s) : Kept kk qq (freeIndex s l) := by
  unfold freeIndex
  all_goals repeat' first
    | with_reducible first
      | assumption | refine kept_ite _ _ _ ?_ ?_ | refine setFState_kept _ _ _ ?_
      | refine loadStat_kept _ _ _ ?_

theorem formeLoad_kept (s : State) (l : Load) (h0 : Kept kk qq s) : Kept kk qq (formeLoad s l) := by
  have h1 : Kept kk qq (countRead (dropLoad s l) l (headBytes l.image)) := countRead_kept _ _ _ (dropLoad_kept _ _ h0)
  unfold formeLoad
  dsimp only
  split
  · rename_i f hf
    exact headRefusal_kept _ _ h1 f hf _ (freeIndex_kept _ _ h1)
  · split
    · exact loadRecord_kept _ _ _ _ _ _ _ _ (freeIndex_kept _ _ h1)
    · split
      · exact refuseLoad_kept _ _ _ (freeIndex_kept _ _ h1)
      · exact placeForme_kept _ _ h1
    · split
      · exact finishLoad_kept _ _ _ _ (freeIndex_kept _ _ h1)
      · have h2 := countRead_kept (countRead (dropLoad s l) l (headBytes l.image)) l (l.image.length - headBytes l.image) h1
        split
        · exact refuseLoad_kept _ _ _ (freeIndex_kept _ _ h2)
        · refine placeForme_kept _ _ ?_
          split
          · exact h2
          · exact forwardImage_kept _ _ h2

theorem fillSlot_kept (s : State) (x : Slot) (zero : Bool) (h0 : Kept kk qq s) : Kept kk qq (fillSlot s x zero) := by
  unfold fillSlot
  all_goals repeat' first
    | with_reducible first
      | assumption | refine kept_foldl _ _ ?_ ?_ | refine writeSlotData_kept _ _ _ _ _ _ ?_
      | refine writeTiles_kept _ _ _ _ _ ?_
    | intro x
    | split

theorem supersede_kept (s : State) (fi : ℕ) (tenant : ℕ) (number : ℕ) (variant : Bool) (h0 : Kept kk qq s) : Kept kk qq (supersede s fi tenant number variant) := by
  unfold supersede
  all_goals repeat' first
    | with_reducible first
      | assumption | refine kept_ite _ _ _ ?_ ?_ | refine kept_foldl _ _ ?_ ?_
      | refine finishLoad_kept _ _ _ _ ?_ | refine dropLoad_kept _ _ ?_
      | refine loadRecord_kept _ _ _ _ _ _ _ _ ?_
    | (intro x; intro (hx : Kept kk qq x))
    | intro x
    | (with_reducible refine kept_upd ?_; with_reducible first | assumption)

theorem takeSlot_kept (s : State) (l : Load) (variant : Bool) (need : List (ℕ × ℕ)) (h0 : Kept kk qq s) : Kept kk qq (takeSlot s l variant need) := by
  unfold takeSlot
  all_goals repeat' first
    | with_reducible first
      | assumption | refine loadStat_kept _ _ _ ?_ | refine fillSlot_kept _ _ _ ?_
    | (with_reducible refine kept_upd ?_; with_reducible first | assumption)

theorem slotLoad_kept (s : State) (l : Load) (h0 : Kept kk qq s) : Kept kk qq (slotLoad s l) := by
  unfold slotLoad
  all_goals repeat' first
    | with_reducible first
      | assumption | refine countRead_kept _ _ _ ?_ | refine dropLoad_kept _ _ ?_
      | refine refuseLoad_kept _ _ _ ?_ | refine finishLoad_kept _ _ _ _ ?_
      | refine supersede_kept _ _ _ _ _ ?_ | refine takeSlot_kept _ _ _ _ ?_ | refine loadStat_kept _ _ _ ?_
      | refine loadRecord_kept _ _ _ _ _ _ _ _ ?_
    | lift_lets
    | (intro x; refine kept_cut (kk := kk) (qq := qq) x ?_ ?_ <;> [subst x; (intro hx; clear_value x)])
    | intro x
    | (with_reducible refine kept_upd ?_; with_reducible first | assumption)
    | split

theorem retrySlots_kept (s : State) (h0 : Kept kk qq s) : Kept kk qq (retrySlots s) := by
  unfold retrySlots
  all_goals repeat' first
    | with_reducible first
      | assumption | refine kept_foldl _ _ ?_ ?_ | refine syncGolden_kept _ ?_
      | refine takeSlot_kept _ _ _ _ ?_ | refine dropLoad_kept _ _ ?_ | refine finishLoad_kept _ _ _ _ ?_
    | lift_lets
    | intro x
    | split

theorem liftBarrier_kept (s : State) (fi : ℕ) (h0 : Kept kk qq s) : Kept kk qq (liftBarrier s fi) := by
  unfold liftBarrier
  all_goals repeat' first
    | with_reducible first
      | assumption | refine kept_ite _ _ _ ?_ ?_ | refine mapForme_kept _ _ _ ?_

theorem raiseBarrier_kept (s : State) (fi : ℕ) (h0 : Kept kk qq s) : Kept kk qq (raiseBarrier s fi) := by
  unfold raiseBarrier
  all_goals repeat' first
    | with_reducible first
      | assumption | refine kept_ite _ _ _ ?_ ?_ | refine kept_foldl _ _ ?_ ?_ | refine mapForme_kept _ _ _ ?_
    | split

theorem stagedReplace_kept (s : State) (fi : ℕ) (r : Repl) (h0 : Kept kk qq s) : Kept kk qq (stagedReplace s fi r) := by
  unfold stagedReplace
  all_goals repeat' first
    | with_reducible first
      | assumption | refine kept_ite _ _ _ ?_ ?_ | refine adjForme_kept _ _ _ ?_
      | refine loadRecord_kept _ _ _ _ _ _ _ _ ?_ | refine loadStat_kept _ _ _ ?_
      | refine raiseBarrier_kept _ _ ?_

theorem nextReplace_kept (s : State) (fi : ℕ) (h0 : Kept kk qq s) : Kept kk qq (nextReplace s fi) := by
  unfold nextReplace
  refine syncGolden_kept _ ?_
  split
  · split
    · exact loadStat_kept _ _ _ (settleFState_kept _ _ (setForme_kept _ _ _ h0))
    · exact loadStat_kept _ _ _ (settleFState_kept _ _ (setForme_kept _ _ _ h0))
  · exact h0

theorem writeLayer_kept (s : State) (fi : ℕ) (layer : ℕ) (f : Forme) (img : List Byte) (h0 : Kept kk qq s) : Kept kk qq (writeLayer s fi layer f img) := by
  unfold writeLayer
  all_goals repeat' first
    | with_reducible first
      | assumption | refine refillCold_kept _ _ _ _ _ ?_ | refine fillParts_kept _ _ _ ?_

theorem rewriteNow_kept (s : State) (fi : ℕ) (h0 : Kept kk qq s) : Kept kk qq (rewriteNow s fi) := by
  unfold rewriteNow
  all_goals repeat' first
    | with_reducible first
      | assumption | refine kept_ite _ _ _ ?_ ?_ | refine kept_foldl _ _ ?_ ?_
      | refine writeLayer_kept _ _ _ _ _ ?_ | refine adjForme_kept _ _ _ ?_ | refine liftBarrier_kept _ _ ?_
      | refine settleFState_kept _ _ ?_
    | intro x
    | split

theorem finishSwap_kept (s : State) (fi : ℕ) (f : Forme) (r : Repl) (h0 : Kept kk qq s) : Kept kk qq (finishSwap s fi f r) := by
  unfold finishSwap
  all_goals repeat' first
    | with_reducible first
      | assumption | refine setForme_kept _ _ _ ?_ | refine addF_kept _ _ _ _ _ ?_
      | refine mapForme_kept _ _ _ ?_ | refine reportForme_kept _ _ ?_ | refine liftBarrier_kept _ _ ?_
      | refine nextReplace_kept _ _ ?_ | refine loadRecord_kept _ _ _ _ _ _ _ _ ?_
      | refine loadProgress_kept _ _ _ _ ?_

theorem rollBack_kept (s : State) (fi : ℕ) (f : Forme) (r : Repl) (h0 : Kept kk qq s) : Kept kk qq (rollBack s fi f r) := by
  unfold rollBack
  all_goals repeat' first
    | with_reducible first
      | assumption | refine kept_foldl _ _ ?_ ?_ | refine writeLayer_kept _ _ _ _ _ ?_
      | refine mapForme_kept _ _ _ ?_ | refine liftBarrier_kept _ _ ?_ | refine nextReplace_kept _ _ ?_
      | refine loadRecord_kept _ _ _ _ _ _ _ _ ?_
    | intro x

theorem replaceStart_kept (s : State) (l : Load) (h0 : Kept kk qq s) : Kept kk qq (replaceStart s l) := by
  unfold replaceStart
  all_goals repeat' first
    | with_reducible first
      | assumption | refine finishLoad_kept _ _ _ _ ?_ | refine setForme_kept _ _ _ ?_
      | refine loadRecord_kept _ _ _ _ _ _ _ _ ?_ | refine stagedReplace_kept _ _ _ ?_
      | refine loadStat_kept _ _ _ ?_ | refine settleFState_kept _ _ ?_
    | lift_lets
    | intro x
    | split

theorem replaceLoad_kept (s : State) (l : Load) (h0 : Kept kk qq s) : Kept kk qq (replaceLoad s l) := by
  have h1 : Kept kk qq (countRead (dropLoad s l) l (headBytes l.image)) := countRead_kept _ _ _ (dropLoad_kept _ _ h0)
  unfold replaceLoad
  dsimp only
  split
  · rename_i hf
    exact headRefusal_kept _ _ h1 _ hf _ h1
  · exact finishLoad_kept _ _ _ _ h1
  · split
    · exact finishLoad_kept _ _ _ _ h1
    · split
      · exact finishLoad_kept _ _ _ _ h1
      · exact replaceStart_kept _ _ (countRead_kept _ _ _ h1)

theorem loadRun_kept (s : State) (l : Load) (h0 : Kept kk qq s) : Kept kk qq (loadRun s l) := by
  unfold loadRun
  all_goals repeat' first
    | with_reducible first
      | assumption | refine kept_ite _ _ _ ?_ ?_ | refine syncGolden_kept _ ?_ | refine formeLoad_kept _ _ ?_
      | refine replaceLoad_kept _ _ ?_ | refine slotLoad_kept _ _ ?_

theorem holdLoad_kept (s : State) (l : Load) (h0 : Kept kk qq s) : Kept kk qq (holdLoad s l) := by
  unfold holdLoad
  all_goals repeat' first
    | with_reducible first
      | assumption | refine kept_ite _ _ _ ?_ ?_ | refine kept_foldl _ _ ?_ ?_
      | refine supersede_kept _ _ _ _ _ ?_ | refine setFState_kept _ _ _ ?_ | refine loadStat_kept _ _ _ ?_
    | (with_reducible refine kept_upd ?_; with_reducible first | refine kept_ite _ _ _ ?_ ?_ | refine supersede_kept _ _ _ _ _ ?_ | refine loadStat_kept _ _ _ ?_)
    | split

theorem retryHeld_kept (s : State) (h0 : Kept kk qq s) : Kept kk qq (retryHeld s) := by
  unfold retryHeld
  all_goals repeat' first
    | with_reducible first
      | assumption | refine kept_ite _ _ _ ?_ ?_ | refine kept_foldl _ _ ?_ ?_ | refine loadRun_kept _ _ ?_
    | intro x

theorem loadStart_kept (s : State) (q' : ℕ) (kind : ℕ) (rec : List Byte) (src : LoadSource) (h0 : Kept kk qq s) : Kept kk qq (loadStart s q' kind rec src) := by
  unfold loadStart
  all_goals repeat' first
    | with_reducible first
      | assumption | refine kept_foldl _ _ ?_ ?_ | refine loadRecord_kept _ _ _ _ _ _ _ _ ?_
      | refine finishLoad_kept _ _ _ _ ?_ | refine linkSend_kept _ _ _ ?_ | refine holdLoad_kept _ _ ?_
      | refine loadRun_kept _ _ ?_
    | intro x
    | split

theorem modCold_kept (s : State) (fi : ℕ) (layer : ℕ) (g : ColdLayer → ColdLayer) (h0 : Kept kk qq s) : Kept kk qq (modCold s fi layer g) := by
  unfold modCold
  all_goals repeat' first
    | with_reducible first
      | assumption | refine kept_ite _ _ _ ?_ ?_
    | (with_reducible refine kept_upd ?_; with_reducible first | assumption)

theorem countExperts_kept (s : State) (layer : ℕ) (g : ExpertCount → ExpertCount) (h0 : Kept kk qq s) : Kept kk qq (countExperts s layer g) := by
  unfold countExperts
  all_goals repeat' first
    | with_reducible first
      | assumption
    | (with_reducible refine kept_upd ?_; with_reducible first | assumption)

theorem rebindMisses_kept (s : State) (fi : ℕ) (layer : ℕ) (h0 : Kept kk qq s) : Kept kk qq (rebindMisses s fi layer) := by
  unfold rebindMisses
  all_goals repeat' first
    | with_reducible first
      | assumption | refine kept_ite _ _ _ ?_ ?_ | refine countExperts_kept _ _ _ ?_
      | refine modCold_kept _ _ _ _ ?_
    | split

theorem endSlots_kept (s : State) (c : CoreRef) (h0 : Kept kk qq s) : Kept kk qq (endSlots s c) := by
  unfold endSlots
  all_goals repeat' first
    | with_reducible first
      | assumption | refine rebindMisses_kept _ _ _ ?_ | refine modCold_kept _ _ _ _ ?_
    | split

theorem routed_kept (s : State) (fi : ℕ) (layer : ℕ) (x : Experts) (y : ColdLayer) (req : ℕ) (pos : ℕ) (sel : List ℕ) (h0 : Kept kk qq s) : Kept kk qq (routed s fi layer x y req pos sel) := by
  unfold routed
  all_goals repeat' first
    | with_reducible first
      | assumption | refine countExperts_kept _ _ _ ?_ | refine modCold_kept _ _ _ _ ?_

theorem closeRouter_kept (s : State) (c : CoreRef) (dst : ℕ) (stamp : Word64) (input : PackedSrc) (anchor : ℤ) (recomputeLen : ℕ) (who : Who) (h0 : Kept kk qq s) : Kept kk qq (closeRouter s c dst stamp input anchor recomputeLen who) := by
  unfold closeRouter
  all_goals repeat' first
    | with_reducible first
      | assumption | refine kept_ite _ _ _ ?_ ?_ | refine kept_foldl _ _ ?_ ?_
      | refine withPacked_kept _ _ _ _ _ _ ?_ ?_ | refine routed_kept _ _ _ _ _ _ _ _ ?_
      | refine writeVals_kept _ _ _ _ _ _ _ _ ?_ | refine countSums_kept _ _ _ _ _ _ ?_
    | lift_lets
    | intro x
    | split

theorem withOuts_kept (c : CoreRef) (n : ℕ) (who : Who) (x3 : List ℕ) (x4 : State) (x5 : State → List (List Elem) → Bool → State) (h0 : Kept kk qq x4) (h1 : ∀ t y0 y1, Kept kk qq t → Kept kk qq (x5 t y0 y1)) : Kept kk qq (withOuts c n who x3 x4 x5) := by
  revert h0 h1
  fun_induction withOuts c n who x3 x4 x5 <;> intro h0 h1
  all_goals repeat' first
    | with_reducible first
      | assumption | refine withPacked_kept _ _ _ _ _ _ ?_ ?_ | refine h1 _ _ _ ?_
    | intro x
    | with_reducible apply_assumption

theorem closeCombine_kept (s : State) (c : CoreRef) (out : Fmt) (dst : ℕ) (scaleDst : ℕ) (stamp : Word64) (x : CombineSrc) (recomputeLen : ℕ) (who : Who) (h0 : Kept kk qq s) : Kept kk qq (closeCombine s c out dst scaleDst stamp x recomputeLen who) := by
  unfold closeCombine
  all_goals repeat' first
    | with_reducible first
      | assumption | refine withPacked_kept _ _ _ _ _ _ ?_ ?_ | refine withOuts_kept _ _ _ _ _ _ ?_ ?_
      | refine writeVals_kept _ _ _ _ _ _ _ _ ?_ | refine countSums_kept _ _ _ _ _ _ ?_
    | intro x

theorem predicted_kept (s : State) (fi : ℕ) (layer : ℕ) (x : Experts) (y : ColdLayer) (es : List ℕ) (h0 : Kept kk qq s) : Kept kk qq (predicted s fi layer x y es) := by
  unfold predicted
  all_goals repeat' first
    | with_reducible first
      | assumption | refine kept_ite _ _ _ ?_ ?_ | refine countExperts_kept _ _ _ ?_
      | refine modCold_kept _ _ _ _ ?_

theorem closePredict_kept (s : State) (c : CoreRef) (stamp : Word64) (input : PackedSrc) (anchor : ℤ) (last : Bool) (recomputeLen : ℕ) (who : Who) (h0 : Kept kk qq s) : Kept kk qq (closePredict s c stamp input anchor last recomputeLen who) := by
  unfold closePredict
  all_goals repeat' first
    | with_reducible first
      | assumption | refine withPacked_kept _ _ _ _ _ _ ?_ ?_ | refine countSums_kept _ _ _ _ _ _ ?_
      | refine predicted_kept _ _ _ _ _ _ ?_ | refine modCold_kept _ _ _ _ ?_
    | lift_lets
    | intro x
    | split

theorem setDesc_kept (s : State) (c : CoreRef) (i : ℕ) (d : Desc) (h0 : Kept kk qq s) : Kept kk qq (setDesc s c i d) := by
  unfold setDesc
  all_goals repeat' first
    | with_reducible first
      | assumption | refine modCore_kept _ _ _ ?_

theorem storeOne_kept (s : State) (c : CoreRef) (h0 : Kept kk qq s) : Kept kk qq (storeOne s c) := by
  unfold storeOne
  all_goals repeat' first
    | with_reducible first
      | assumption | refine modCore_kept _ _ _ ?_ | refine sendTo_kept _ _ _ _ _ _ _ _ ?_
      | refine narrowWrite_kept _ _ _ _ _ ?_
    | split

theorem portD_kept (x0 : ℕ) (x1 : State) (x2 : CoreRef) (x3 : ℕ) (h0 : Kept kk qq x1) : Kept kk qq (portD x0 x1 x2 x3) := by
  revert h0
  fun_induction portD x0 x1 x2 x3 <;> intro h0
  all_goals repeat' first
    | with_reducible first
      | assumption | refine storeOne_kept _ _ ?_
    | with_reducible apply_assumption

theorem sendFlit_kept (s : State) (c : CoreRef) (d : Desc) (k' : ℕ) (h0 : Kept kk qq s) : Kept kk qq (sendFlit s c d k') := by
  unfold sendFlit
  all_goals repeat' first
    | with_reducible first
      | assumption | refine kept_ite _ _ _ ?_ ?_ | refine kept_foldl _ _ ?_ ?_
      | refine emitPacket_kept _ _ _ ?_ | refine onAccess_kept _ _ _ _ _ _ ?_ ?_
      | refine meetNarrow_kept _ _ _ _ ?_
    | (intro x; intro (hx : Kept kk qq x))
    | split

theorem pump_kept (x0 : ℕ) (x1 : State) (x2 : CoreRef) (x3 : ℕ) (h0 : Kept kk qq x1) : Kept kk qq (pump x0 x1 x2 x3) := by
  revert h0
  fun_induction pump x0 x1 x2 x3 <;> intro h0
  all_goals repeat' first
    | with_reducible first
      | assumption | refine sendFlit_kept _ _ _ _ ?_ | refine setDesc_kept _ _ _ _ ?_
    | with_reducible apply_assumption

theorem settleFences_kept (s : State) (c : CoreRef) (h0 : Kept kk qq s) : Kept kk qq (settleFences s c) := by
  unfold settleFences
  all_goals repeat' first
    | with_reducible first
      | assumption | refine setCore_kept _ _ _ ?_ | refine meetCore_kept _ _ _ _ ?_

theorem fence_kept (s : State) (c : CoreRef) (kind : ℕ) (h0 : Kept kk qq s) : Kept kk qq (fence s c kind) := by
  unfold fence
  all_goals repeat' first
    | with_reducible first
      | assumption | refine kept_ite _ _ _ ?_ ?_ | refine asOp_kept _ _ _ _ ?_ ?_
      | refine openSlip_kept _ _ _ _ _ ?_ | refine setCore_kept _ _ _ ?_
    | (intro x; intro (hx : Kept kk qq x))

theorem execFenceD_kept (c : CoreRef) (s : State) (h0 : Kept kk qq s) : KeptO kk qq (execFenceD c s) := by
  unfold execFenceD
  all_goals repeat' first
    | with_reducible first
      | assumption | refine kept_next ?_ | refine fence_kept _ _ _ ?_

theorem execFenceS_kept (c : CoreRef) (s : State) (h0 : Kept kk qq s) : KeptO kk qq (execFenceS c s) := by
  unfold execFenceS
  all_goals repeat' first
    | with_reducible first
      | assumption | refine kept_next ?_ | refine fence_kept _ _ _ ?_

theorem execFenceA_kept (c : CoreRef) (s : State) (h0 : Kept kk qq s) : KeptO kk qq (execFenceA c s) := by
  unfold execFenceA
  all_goals repeat' first
    | with_reducible first
      | assumption | refine kept_next ?_ | refine fence_kept _ _ _ ?_

theorem landBytes_kept (s : State) (c : CoreRef) (d : Desc) (r : ℕ) (o : ℕ) (bs : List Byte) (poison : Bool) (h0 : Kept kk qq s) : Kept kk qq (landBytes s c d r o bs poison) := by
  unfold landBytes
  all_goals repeat' first
    | with_reducible first
      | assumption | refine kept_ite _ _ _ ?_ ?_ | refine kept_foldl _ _ ?_ ?_
      | refine onAccess_kept _ _ _ _ _ _ ?_ ?_ | refine narrowWrite_kept _ _ _ _ _ ?_
    | intro x

theorem copyRows_kept (s : State) (c : CoreRef) (d : Desc) (x3 : ℕ) (h0 : Kept kk qq s) : Kept kk qq (copyRows s c d x3).1 := by
  revert h0
  fun_induction copyRows s c d x3 <;> intro h0
  all_goals repeat' first
    | with_reducible first
      | assumption | refine kept_ite _ _ _ ?_ ?_ | refine kept_foldl _ _ ?_ ?_
      | refine meetNarrow_kept _ _ _ _ ?_ | refine landBytes_kept _ _ _ _ _ _ _ ?_
      | refine onAccess_kept _ _ _ _ _ _ ?_ ?_
    | (intro x; intro (hx : Kept kk qq x))
    | with_reducible apply_assumption
    | split

theorem setEvent_kept (s : State) (c : CoreRef) (e : ℕ) (h0 : Kept kk qq s) : Kept kk qq (setEvent s c e) := by
  unfold setEvent
  all_goals repeat' first
    | with_reducible first
      | assumption | refine modCore_kept _ _ _ ?_

theorem complDesc_kept (s : State) (c : CoreRef) (d : Desc) (st : DescStatus) (h0 : Kept kk qq s) : Kept kk qq (complDesc s c d st) := by
  unfold complDesc
  all_goals repeat' first
    | with_reducible first
      | assumption | refine kept_ite _ _ _ ?_ ?_ | refine modCore_kept _ _ _ ?_
      | refine setEvent_kept _ _ _ ?_ | refine settleFences_kept _ _ ?_ | refine meetCore_kept _ _ _ _ ?_

theorem endBind_kept (s : State) (d : Desc) (h0 : Kept kk qq s) : Kept kk qq (endBind s d) := by
  unfold endBind
  all_goals repeat' first
    | with_reducible first
      | assumption | refine kept_ite _ _ _ ?_ ?_ | refine rebindMisses_kept _ _ _ ?_
      | refine modCold_kept _ _ _ _ ?_
    | split

theorem endSums_kept (s : State) (d : Desc) (h0 : Kept kk qq s) : Kept kk qq (endSums s d) := by
  unfold endSums
  all_goals repeat' first
    | with_reducible first
      | assumption | refine kept_foldl _ _ ?_ ?_ | refine bringSummaries_kept _ _ _ _ _ _ ?_
    | intro x
    | split

theorem pumpAll_kept (s : State) (c : CoreRef) (h0 : Kept kk qq s) : Kept kk qq (pumpAll s c) := by
  unfold pumpAll
  all_goals repeat' first
    | with_reducible first
      | assumption | refine kept_foldl _ _ ?_ ?_ | refine pump_kept _ _ _ _ ?_
    | intro x

theorem execDescriptorComplete_kept (o : PortOp) (i : ℕ) (s : State) (h0 : Kept kk qq s) : KeptO kk qq (execDescriptorComplete o i s) := by
  unfold execDescriptorComplete
  all_goals repeat' first
    | with_reducible first
      | assumption | refine kept_next ?_ | refine copyRows_kept _ _ _ _ ?_ | refine portD_kept _ _ _ _ ?_
      | refine countWait_kept _ _ _ ?_ | refine pumpAll_kept _ _ ?_ | refine complDesc_kept _ _ _ _ ?_
      | refine endSums_kept _ _ ?_ | refine endBind_kept _ _ ?_ | refine modCore_kept _ _ _ ?_
    | split

theorem issueFetch_kept (s : State) (d : Desc) (u : IssueUse) (h0 : Kept kk qq s) : Kept kk qq (issueFetch s d u) := by
  unfold issueFetch
  all_goals repeat' first
    | with_reducible first
      | assumption | refine beginFetch_kept _ _ _ ?_
    | split

theorem execIssue_kept (o : IssueOp) (addr : ℕ) (instr : ℕ) (conflict : Bool) (use_ : IssueUse) (s : State) (h0 : Kept kk qq s) : KeptO kk qq (execIssue o addr instr conflict use_ s) := by
  unfold execIssue
  all_goals repeat' first
    | with_reducible first
      | assumption | refine kept_ite _ _ _ ?_ ?_ | refine kept_next ?_ | refine kept_foldl _ _ ?_ ?_
      | refine asOp_kept _ _ _ _ ?_ ?_ | refine raise_kept _ _ ?_ | refine onAccess_kept _ _ _ _ _ _ ?_ ?_
      | refine countWait_kept _ _ _ ?_ | refine meetNarrow_kept _ _ _ _ ?_ | refine complDesc_kept _ _ _ _ ?_
      | refine pump_kept _ _ _ _ ?_ | refine issueFetch_kept _ _ _ ?_ | refine setCore_kept _ _ _ ?_
    | (intro x; intro (hx : Kept kk qq x))
    | lift_lets
    | intro x
    | split

theorem raiseDue_kept (s : State) (c : CoreRef) (d : Desc) (h0 : Kept kk qq s) : Kept kk qq (raiseDue s c d) := by
  unfold raiseDue
  all_goals repeat' first
    | with_reducible first
      | assumption | refine kept_ite _ _ _ ?_ ?_ | refine openSlip_kept _ _ _ _ _ ?_

theorem execStreamDue_kept (c : CoreRef) (i : ℕ) (s : State) (h0 : Kept kk qq s) : KeptO kk qq (execStreamDue c i s) := by
  unfold execStreamDue
  all_goals repeat' first
    | with_reducible first
      | assumption | refine kept_next ?_ | refine raiseDue_kept _ _ _ ?_
    | split

theorem answered_kept (s : State) (c : CoreRef) (i : ℕ) (k' : ℕ) (d : Desc) (h0 : Kept kk qq s) : Kept kk qq (answered s c i k' d) := by
  unfold answered
  all_goals repeat' first
    | with_reducible first
      | assumption | refine kept_ite _ _ _ ?_ ?_ | refine settleFences_kept _ _ ?_
      | refine pump_kept _ _ _ _ ?_ | refine setDesc_kept _ _ _ _ ?_

theorem refuseFlit_kept (s : State) (c : CoreRef) (i : ℕ) (k' : ℕ) (d : Desc) (st : DescStatus) (h0 : Kept kk qq s) : Kept kk qq (refuseFlit s c i k' d st) := by
  unfold refuseFlit
  all_goals repeat' first
    | with_reducible first
      | assumption | refine answered_kept _ _ _ _ _ ?_

theorem execReadData_kept (o : PortOp) (i : ℕ) (k' : ℕ) (f : Flit) (s : State) (h0 : Kept kk qq s) : KeptO kk qq (execReadData o i k' f s) := by
  unfold execReadData
  all_goals repeat' first
    | with_reducible first
      | assumption | refine kept_ite _ _ _ ?_ ?_ | refine kept_next ?_ | refine countWait_kept _ _ _ ?_
      | refine portD_kept _ _ _ _ ?_ | refine takeIn_kept _ _ _ ?_ | refine refuseFlit_kept _ _ _ _ _ _ ?_
      | refine meetStack_kept _ _ _ ?_ | refine landBytes_kept _ _ _ _ _ _ _ ?_
      | refine addF_kept _ _ _ _ _ ?_ | refine answered_kept _ _ _ _ _ ?_
    | split

theorem takeAnswer_kept (s : State) (c : CoreRef) (i : ℕ) (kind : ℕ) (h0 : Kept kk qq s) : Kept kk qq (takeAnswer s c i kind) := by
  unfold takeAnswer
  all_goals repeat' first
    | with_reducible first
      | assumption | refine takeIn_kept _ _ _ ?_
    | split

theorem execWriteAck_kept (o : PortOp) (i : ℕ) (k' : ℕ) (s : State) (h0 : Kept kk qq s) : KeptO kk qq (execWriteAck o i k' s) := by
  unfold execWriteAck
  all_goals repeat' first
    | with_reducible first
      | assumption | refine kept_next ?_ | refine countWait_kept _ _ _ ?_ | refine takeAnswer_kept _ _ _ _ ?_
      | refine answered_kept _ _ _ _ _ ?_ | refine hostWrite_kept _ _ _ ?_
      | refine refuseFlit_kept _ _ _ _ _ _ ?_
    | split

theorem landStack_kept (s : State) (c : CoreRef) (d : Desc) (k' : ℕ) (h0 : Kept kk qq s) : Kept kk qq (landStack s c d k') := by
  unfold landStack
  all_goals repeat' first
    | with_reducible first
      | assumption | refine kept_ite _ _ _ ?_ ?_ | refine kept_foldl _ _ ?_ ?_
      | refine stackWrite_kept _ _ _ _ ?_
    | split

theorem execStackWriteAck_kept (o : StackAck) (s : State) (h0 : Kept kk qq s) : KeptO kk qq (execStackWriteAck o s) := by
  unfold execStackWriteAck
  all_goals repeat' first
    | with_reducible first
      | assumption | refine kept_ite _ _ _ ?_ ?_ | refine kept_next ?_ | refine countWait_kept _ _ _ ?_
      | refine takeAnswer_kept _ _ _ _ ?_ | refine refuseFlit_kept _ _ _ _ _ _ ?_
      | refine answered_kept _ _ _ _ _ ?_ | refine landStack_kept _ _ _ _ ?_
    | split

theorem execNack_kept (o : PortOp) (i : ℕ) (k' : ℕ) (bad : Bool) (s : State) (h0 : Kept kk qq s) : KeptO kk qq (execNack o i k' bad s) := by
  unfold execNack
  all_goals repeat' first
    | with_reducible first
      | assumption | refine kept_next ?_ | refine countWait_kept _ _ _ ?_ | refine takeAnswer_kept _ _ _ _ ?_
      | refine refuseFlit_kept _ _ _ _ _ _ ?_
    | split

theorem refuseRemote_kept (s : State) (c : CoreRef) (src : CoreRef) (stamp : Word64) (a : ℕ) (bad : Bool) (h0 : Kept kk qq s) : Kept kk qq (refuseRemote s c src stamp a bad) := by
  unfold refuseRemote
  all_goals repeat' first
    | with_reducible first
      | assumption | refine kept_ite _ _ _ ?_ ?_ | refine modCore_kept _ _ _ ?_ | refine raise_kept _ _ ?_
      | refine sendTo_kept _ _ _ _ _ _ _ _ ?_

theorem execReadReq_kept (c : CoreRef) (addr : ℕ) (len : ℕ) (src : CoreRef) (stamp : Word64) (waited : ℕ) (s : State) (h0 : Kept kk qq s) : KeptO kk qq (execReadReq c addr len src stamp waited s) := by
  unfold execReadReq
  all_goals repeat' first
    | with_reducible first
      | assumption | refine kept_ite _ _ _ ?_ ?_ | refine kept_next ?_ | refine takeIn_kept _ _ _ ?_
      | refine refuseRemote_kept _ _ _ _ _ _ ?_ | refine meetNarrow_kept _ _ _ _ ?_
      | refine countWait_kept _ _ _ ?_ | refine portD_kept _ _ _ _ ?_ | refine sendTo_kept _ _ _ _ _ _ _ _ ?_

theorem execWrite_kept (c : CoreRef) (f : Flit) (src : CoreRef) (desc : ℕ) (s : State) (h0 : Kept kk qq s) : KeptO kk qq (execWrite c f src desc s) := by
  unfold execWrite
  all_goals repeat' first
    | with_reducible first
      | assumption | refine kept_ite _ _ _ ?_ ?_ | refine kept_next ?_ | refine takeIn_kept _ _ _ ?_
      | refine refuseRemote_kept _ _ _ _ _ _ ?_ | refine sendTo_kept _ _ _ _ _ _ _ _ ?_
      | refine modCore_kept _ _ _ ?_ | refine holdIn_kept _ _ _ ?_

theorem execRemoteWriteStored_kept (o : PortOp) (s : State) (h0 : Kept kk qq s) : KeptO kk qq (execRemoteWriteStored o s) := by
  unfold execRemoteWriteStored
  all_goals repeat' first
    | with_reducible first
      | assumption | refine kept_next ?_ | refine storeOne_kept _ _ ?_ | refine countWait_kept _ _ _ ?_
    | split

theorem execGateFlit_kept (o : PortOp) (f : Flit) (s : State) (h0 : Kept kk qq s) : KeptO kk qq (execGateFlit o f s) := by
  unfold execGateFlit
  all_goals repeat' first
    | with_reducible first
      | assumption | refine kept_ite _ _ _ ?_ ?_ | refine kept_next ?_ | refine gateTake_kept _ _ _ ?_
      | refine countWait_kept _ _ _ ?_ | refine portD_kept _ _ _ _ ?_ | refine takeIn_kept _ _ _ ?_

theorem execParkStale_kept (c : CoreRef) (i : ℕ) (s : State) (h0 : Kept kk qq s) : KeptO kk qq (execParkStale c i s) := by
  unfold execParkStale
  all_goals repeat' first
    | with_reducible first
      | assumption | refine kept_ite _ _ _ ?_ ?_ | refine kept_next ?_ | refine kept_foldl _ _ ?_ ?_
      | refine addF_kept _ _ _ _ _ ?_ | refine modCore_kept _ _ _ ?_
    | split

theorem execArm_kept (a : ArmOp) (s : State) (h0 : Kept kk qq s) : KeptO kk qq (execArm a s) := by
  unfold execArm
  all_goals repeat' first
    | with_reducible first
      | assumption | refine kept_ite _ _ _ ?_ ?_ | refine kept_next ?_ | refine asOp_kept _ _ _ _ ?_ ?_
      | refine setGate_kept _ _ _ _ ?_ | refine landParked_kept _ _ ?_ | refine countWait_kept _ _ _ ?_
    | (intro x; intro (hx : Kept kk qq x))

theorem execCheck_kept (c : CoreRef) (entries : List (Fin 32)) (s : State) (h0 : Kept kk qq s) : KeptO kk qq (execCheck c entries s) := by
  unfold execCheck
  all_goals repeat' first
    | with_reducible first
      | assumption | refine kept_ite _ _ _ ?_ ?_ | refine kept_next ?_ | refine kept_foldl _ _ ?_ ?_
      | refine asOp_kept _ _ _ _ ?_ ?_ | refine modCore_kept _ _ _ ?_ | refine openSlip_kept _ _ _ _ _ ?_
    | (intro x; intro (hx : Kept kk qq x))
    | intro x

theorem execEndOp_kept (c : CoreRef) (s : State) (h0 : Kept kk qq s) : KeptO kk qq (execEndOp c s) := by
  unfold execEndOp
  all_goals repeat' first
    | with_reducible first
      | assumption | refine kept_ite _ _ _ ?_ ?_ | refine kept_next ?_ | refine endSlots_kept _ _ ?_
      | refine modCore_kept _ _ _ ?_

theorem execLoop_kept (c : CoreRef) (count : ℕ) (bodyCycles : ℕ) (bodyWords : ℕ) (s : State) (h0 : Kept kk qq s) : KeptO kk qq (execLoop c count bodyCycles bodyWords s) := by
  unfold execLoop
  all_goals repeat' first
    | with_reducible first
      | assumption | refine kept_ite _ _ _ ?_ ?_ | refine kept_next ?_ | refine modCore_kept _ _ _ ?_

theorem execWaitEvent_kept (c : CoreRef) (flag : Fin 64) (s : State) (h0 : Kept kk qq s) : KeptO kk qq (execWaitEvent c flag s) := by
  unfold execWaitEvent
  all_goals repeat' first
    | with_reducible first
      | assumption | refine kept_ite _ _ _ ?_ ?_ | refine kept_next ?_ | refine asOp_kept _ _ _ _ ?_ ?_
      | refine modCore_kept _ _ _ ?_
    | (intro x; intro (hx : Kept kk qq x))

theorem execSendStatic_kept (c : CoreRef) (slot : Fin 128) (stamp : Word64) (payload : List Byte) (poison : Bool) (s : State) (h0 : Kept kk qq s) : KeptO kk qq (execSendStatic c slot stamp payload poison s) := by
  unfold execSendStatic
  all_goals repeat' first
    | with_reducible first
      | assumption | refine kept_next ?_ | refine asOp_kept _ _ _ _ ?_ ?_ | refine modCore_kept _ _ _ ?_
    | (intro x; intro (hx : Kept kk qq x))

theorem sendPacket_kept (s : State) (c : CoreRef) (f : Flit) (h0 : Kept kk qq s) : Kept kk qq (sendPacket s c f) := by
  unfold sendPacket
  all_goals repeat' first
    | with_reducible first
      | assumption | refine modCore_kept _ _ _ ?_ | refine emitFlit_kept _ _ _ ?_
      | refine flushWaiting_kept _ _ _ ?_ | refine emitPacket_kept _ _ _ ?_
    | lift_lets
    | intro x
    | split

theorem sendMerged_kept (s : State) (c : CoreRef) (f : Flit) (m : Merged) (h0 : Kept kk qq s) : Kept kk qq (sendMerged s c f m) := by
  unfold sendMerged
  all_goals repeat' first
    | with_reducible first
      | assumption | refine kept_ite _ _ _ ?_ ?_ | refine kept_foldl _ _ ?_ ?_ | refine raise_kept _ _ ?_
      | refine sendPacket_kept _ _ _ ?_
    | split

theorem formLeaf_kept (s : State) (c : CoreRef) (stamp : Word64) (x : LeafSrc) (r : LeafSpan) (who : Who) (h0 : Kept kk qq s) : Kept kk qq (formLeaf s c stamp x r who) := by
  unfold formLeaf
  all_goals repeat' first
    | with_reducible first
      | assumption | refine meetWide_kept _ _ _ _ _ ?_ | refine countSums_kept _ _ _ _ _ _ ?_

theorem leafDone_kept (s : State) (x : LeafSrc) (h0 : Kept kk qq s) : Kept kk qq (leafDone s x) := by
  unfold leafDone
  all_goals repeat' first
    | with_reducible first
      | assumption | refine modKv_kept _ _ ?_

theorem sendLeaf_kept (s : State) (c : CoreRef) (f : Flit) (x : LeafSrc) (who : Who) (h0 : Kept kk qq s) : Kept kk qq (sendLeaf s c f x who) := by
  unfold sendLeaf
  all_goals repeat' first
    | with_reducible first
      | assumption | refine kept_ite _ _ _ ?_ ?_ | refine onAccess_kept _ _ _ _ _ _ ?_ ?_
      | refine formLeaf_kept _ _ _ _ _ _ ?_ | refine leafDone_kept _ _ ?_ | refine sendMerged_kept _ _ _ _ ?_
    | (intro x; intro (hx : Kept kk qq x))
    | split

theorem execSendDynamic_kept (c : CoreRef) (o : SendOp) (s : State) (h0 : Kept kk qq s) : KeptO kk qq (execSendDynamic c o s) := by
  unfold execSendDynamic
  all_goals repeat' first
    | with_reducible first
      | assumption | refine kept_next ?_ | refine asOp_kept _ _ _ _ ?_ ?_ | refine sendPacket_kept _ _ _ ?_
      | refine sendLeaf_kept _ _ _ _ _ ?_ | refine withLanded_kept _ _ _ _ _ ?_ ?_
      | refine sendMerged_kept _ _ _ _ ?_ | refine onAccess_kept _ _ _ _ _ _ ?_ ?_
      | refine meetNarrow_kept _ _ _ _ ?_
    | (intro x; intro (hx : Kept kk qq x))
    | split

theorem scrubWord_kept (s : State) (c : CoreRef) (a : ℕ) (h0 : Kept kk qq s) : Kept kk qq (scrubWord s c a) := by
  unfold scrubWord
  all_goals repeat' first
    | with_reducible first
      | assumption | refine kept_ite _ _ _ ?_ ?_ | refine meetWord_kept _ _ _ ?_
      | refine storeWrite_kept _ _ _ _ _ ?_

end Sys2Proof.Machine
end

