-- ==== Sys2Proof/Laws/Kept3.lean ====
section
/-! SUPPORT. One lemma for each operation, from `execScrub` to `kmbGo`: it keeps the invariant, the keys and
the waiting commands. -/

namespace Sys2Proof.Machine

set_option linter.all false

variable {kk : List (Nat × Nat × Nat)} {qq : List Instr}

theorem execScrub_kept (c : CoreRef) (addr : ℕ) (waited : ℕ) (s : State) (h0 : Kept kk qq s) : KeptO kk qq (execScrub c addr waited s) := by
  unfold execScrub
  refine kept_next ?_
  dsimp only
  refine kept_ite _ _ _ ?_ h0
  exact scrubWord_kept _ _ _ h0

theorem freeExt_kept (s : State) (n : ℕ) (h0 : Kept kk qq s) : Kept kk qq (freeExt s n) := by
  unfold freeExt
  all_goals repeat' first
    | with_reducible first
      | assumption
    | (with_reducible refine kept_upd ?_; with_reducible first | assumption)

theorem writeRetired_kept (s : State) (seg : ℕ) (l : List Retired) (h0 : Kept kk qq s) : Kept kk qq (writeRetired s seg l) := by
  unfold writeRetired
  all_goals repeat' first
    | with_reducible first
      | assumption
    | (with_reducible refine kept_upd ?_; with_reducible first | assumption)

theorem setWidth_kept (s : State) (n : ℕ) (w : ℕ) (h0 : Kept kk qq s) : Kept kk qq (setWidth s n w) := by
  unfold setWidth
  all_goals repeat' first
    | with_reducible first
      | assumption | refine kept_ite _ _ _ ?_ ?_ | refine kept_foldl _ _ ?_ ?_
    | (with_reducible refine kept_upd ?_; with_reducible first | assumption)
    | split

theorem retire_kept (s : State) (n : ℕ) (row : ℕ) (pos : ℕ) (router : Bool) (h0 : Kept kk qq s) : Kept kk qq (retire s n row pos router) := by
  unfold retire
  all_goals repeat' first
    | with_reducible first
      | assumption | refine kept_ite _ _ _ ?_ ?_ | refine addF_kept _ _ _ _ _ ?_
      | refine writeRetired_kept _ _ _ ?_ | refine setWidth_kept _ _ _ ?_ | refine freeExt_kept _ _ ?_

theorem suspect_kept (s : State) (seg : ℕ) (lcol : ℕ) (h0 : Kept kk qq s) : Kept kk qq (suspect s seg lcol) := by
  unfold suspect
  all_goals repeat' first
    | with_reducible first
      | assumption
    | (with_reducible refine kept_upd ?_; with_reducible first | assumption)

theorem execSuspectDecay_kept (seg : Fin 16384) (s : State) (h0 : Kept kk qq s) : KeptO kk qq (execSuspectDecay seg s) := by
  unfold execSuspectDecay
  all_goals repeat' first
    | with_reducible first
      | assumption | refine kept_ite _ _ _ ?_ ?_ | refine kept_next ?_
    | (with_reducible refine kept_upd ?_; with_reducible first | assumption)

theorem badRoute_kept (s : State) (r : RouterRef) (f : Flit) (h0 : Kept kk qq s) : Kept kk qq (badRoute s r f) := by
  unfold badRoute
  all_goals repeat' first
    | with_reducible first
      | assumption | refine raise_kept _ _ ?_ | refine addF_kept _ _ _ _ _ ?_

theorem deliverFlit_kept (s : State) (r : RouterRef) (f : Flit) (h0 : Kept kk qq s) : Kept kk qq (deliverFlit s r f) := by
  unfold deliverFlit
  all_goals repeat' first
    | with_reducible first
      | assumption | refine modCore_kept _ _ _ ?_
    | (with_reducible refine kept_upd ?_; with_reducible first | assumption)
    | split

theorem rimTake_kept (s : State) (x : RimFlit) (h0 : Kept kk qq s) : Kept kk qq (rimTake s x) := by
  unfold rimTake
  all_goals repeat' first
    | with_reducible first
      | assumption | refine kept_ite _ _ _ ?_ ?_ | refine sendFabric_kept _ _ _ ?_
    | (with_reducible refine kept_upd ?_; with_reducible first | assumption)

theorem rimDrain_kept (s : State) (h0 : Kept kk qq s) : Kept kk qq (rimDrain s) := by
  unfold rimDrain
  all_goals repeat' first
    | with_reducible first
      | assumption | refine kept_foldl _ _ ?_ ?_ | refine rimTake_kept _ _ ?_
    | intro x

theorem refreshHead_kept (s : State) (r : RouterRef) (input : ℕ) (cls : ℕ) (h0 : Kept kk qq s) : Kept kk qq (refreshHead s r input cls) := by
  unfold refreshHead
  all_goals repeat' first
    | with_reducible first
      | assumption | refine kept_ite _ _ _ ?_ ?_ | refine kept_foldl _ _ ?_ ?_
    | (with_reducible refine kept_upd ?_; with_reducible first | assumption)
    | split

theorem returnCredit_kept (s : State) (r : RouterRef) (input : ℕ) (cls : ℕ) (h0 : Kept kk qq s) : Kept kk qq (returnCredit s r input cls) := by
  unfold returnCredit
  all_goals repeat' first
    | with_reducible first
      | assumption
    | (with_reducible refine kept_upd ?_; with_reducible first | assumption)
    | split

theorem takeCredits_kept (s : State) (n : ℕ) (h0 : Kept kk qq s) : Kept kk qq (takeCredits s n) := by
  unfold takeCredits
  all_goals repeat' first
    | with_reducible first
      | assumption
    | (with_reducible refine kept_upd ?_; with_reducible first | assumption)

theorem settleInput_kept (s : State) (r : RouterRef) (input : ℕ) (cls : ℕ) (h0 : Kept kk qq s) : Kept kk qq (settleInput s r input cls) := by
  unfold settleInput
  all_goals repeat' first
    | with_reducible first
      | assumption | refine kept_ite _ _ _ ?_ ?_ | refine returnCredit_kept _ _ _ _ ?_
    | (with_reducible refine kept_upd ?_; with_reducible first | assumption)
    | split

theorem settleQueues_kept (s : State) (n : ℕ) (h0 : Kept kk qq s) : Kept kk qq (settleQueues s n) := by
  unfold settleQueues
  all_goals repeat' first
    | with_reducible first
      | assumption | refine kept_foldl _ _ ?_ ?_ | refine settleInput_kept _ _ _ _ ?_
      | refine takeCredits_kept _ _ ?_
    | intro x

theorem leaveInput_kept (s : State) (r : RouterRef) (x : FlitAt) (out : ℕ) (h0 : Kept kk qq s) : Kept kk qq (leaveInput s r x out) := by
  unfold leaveInput
  all_goals repeat' first
    | with_reducible first
      | assumption | refine settleInput_kept _ _ _ _ ?_ | refine refreshHead_kept _ _ _ _ ?_
    | (with_reducible refine kept_upd ?_; with_reducible first | assumption)

theorem passFlit_kept (s : State) (r : RouterRef) (x : FlitAt) (out : ℕ) (h0 : Kept kk qq s) : Kept kk qq (passFlit s r x out) := by
  unfold passFlit
  all_goals repeat' first
    | with_reducible first
      | assumption | refine kept_ite _ _ _ ?_ ?_ | refine leaveInput_kept _ _ _ _ ?_
      | refine enterFabric_kept _ _ _ _ _ _ ?_ | refine badRoute_kept _ _ _ ?_
      | refine deliverFlit_kept _ _ _ ?_
    | split

theorem arrive_kept (s : State) (r : RouterRef) (input : ℕ) (f : Flit) (h0 : Kept kk qq s) : Kept kk qq (arrive s r input f) := by
  unfold arrive
  all_goals repeat' first
    | with_reducible first
      | assumption | refine kept_ite _ _ _ ?_ ?_ | refine enterFabric_kept _ _ _ _ _ _ ?_

theorem execFlitHop_kept (r : RouterRef) (input : Fin 7) (f : Flit) (badLanes : List ℕ) (s : State) (h0 : Kept kk qq s) : KeptO kk qq (execFlitHop r input f badLanes s) := by
  unfold execFlitHop
  all_goals repeat' first
    | with_reducible first
      | assumption | refine kept_ite _ _ _ ?_ ?_ | refine kept_next ?_ | refine kept_foldl _ _ ?_ ?_
      | refine arrive_kept _ _ _ _ ?_ | refine raise_kept _ _ ?_ | refine addF_kept _ _ _ _ _ ?_
      | refine passFlit_kept _ _ _ _ ?_
    | lift_lets
    | (intro x; refine kept_cut (kk := kk) (qq := qq) x ?_ ?_ <;> [subst x; (intro hx; clear_value x)])
    | (with_reducible refine kept_upd ?_; with_reducible first | assumption)
    | split

theorem execFabDeadlock_kept (r : RouterRef) (cls : Fin 8) (input : Fin 7) (stamp : Word64) (s : State) (h0 : Kept kk qq s) : KeptO kk qq (execFabDeadlock r cls input stamp s) := by
  unfold execFabDeadlock
  all_goals repeat' first
    | with_reducible first
      | assumption | refine kept_next ?_ | refine raise_kept _ _ ?_ | refine addF_kept _ _ _ _ _ ?_
    | split

theorem execControl_kept (r : RouterRef) (payload : List Byte) (s : State) (h0 : Kept kk qq s) : KeptO kk qq (execControl r payload s) := by
  unfold execControl
  all_goals repeat' first
    | with_reducible first
      | assumption | refine kept_next ?_ | refine takeIn_kept _ _ _ ?_
    | (with_reducible refine kept_upd ?_; with_reducible first | assumption)
    | split

theorem execLoadForme_kept (q' : QueueId) (rec : List Byte) (src : LoadSource) (s : State) (h0 : Kept kk qq s) : KeptO kk qq (execLoadForme q' rec src s) := by
  unfold execLoadForme
  all_goals repeat' first
    | with_reducible first
      | assumption | refine kept_ite _ _ _ ?_ ?_ | refine withRecord_kept _ _ _ _ ?_
      | refine fetchWith_kept _ _ _ ?_ ?_ | refine loadStart_kept _ _ _ _ _ ?_
    | (intro x; intro (hx : Kept kk qq x))

theorem execReplace_kept (q' : QueueId) (rec : List Byte) (src : LoadSource) (s : State) (h0 : Kept kk qq s) : KeptO kk qq (execReplace q' rec src s) := by
  unfold execReplace
  all_goals repeat' first
    | with_reducible first
      | assumption | refine withRecord_kept _ _ _ _ ?_ | refine fetchWith_kept _ _ _ ?_ ?_
      | refine loadStart_kept _ _ _ _ _ ?_
    | (intro x; intro (hx : Kept kk qq x))

theorem execLoadVariant_kept (q' : QueueId) (rec : List Byte) (src : LoadSource) (s : State) (h0 : Kept kk qq s) : KeptO kk qq (execLoadVariant q' rec src s) := by
  unfold execLoadVariant
  all_goals repeat' first
    | with_reducible first
      | assumption | refine withRecord_kept _ _ _ _ ?_ | refine fetchWith_kept _ _ _ ?_ ?_
      | refine loadStart_kept _ _ _ _ _ ?_
    | (intro x; intro (hx : Kept kk qq x))

theorem execLoadOverlay_kept (q' : QueueId) (rec : List Byte) (src : LoadSource) (s : State) (h0 : Kept kk qq s) : KeptO kk qq (execLoadOverlay q' rec src s) := by
  unfold execLoadOverlay
  all_goals repeat' first
    | with_reducible first
      | assumption | refine withRecord_kept _ _ _ _ ?_ | refine fetchWith_kept _ _ _ ?_ ?_
      | refine loadStart_kept _ _ _ _ _ ?_
    | (intro x; intro (hx : Kept kk qq x))

theorem unloadStart_kept (s : State) (q' : ℕ) (rec : List Byte) (h0 : Kept kk qq s) : Kept kk qq (unloadStart s q' rec) := by
  unfold unloadStart
  all_goals repeat' first
    | with_reducible first
      | assumption | refine kept_foldl _ _ ?_ ?_ | refine loadRecord_kept _ _ _ _ _ _ _ _ ?_
      | refine setFState_kept _ _ _ ?_ | refine adjForme_kept _ _ _ ?_ | refine loadStat_kept _ _ _ ?_
      | refine endStream_kept _ _ _ _ _ _ ?_
    | intro x
    | split

theorem execUnloadForme_kept (q' : QueueId) (rec : List Byte) (s : State) (h0 : Kept kk qq s) : KeptO kk qq (execUnloadForme q' rec s) := by
  unfold execUnloadForme
  all_goals repeat' first
    | with_reducible first
      | assumption | refine kept_ite _ _ _ ?_ ?_ | refine kept_foldl _ _ ?_ ?_
      | refine withRecord_kept _ _ _ _ ?_ | refine fetchWith_kept _ _ _ ?_ ?_
      | refine unloadStart_kept _ _ _ ?_
    | (intro x; intro (hx : Kept kk qq x))
    | split

theorem leaveT0_kept (s : State) (fi : ℕ) (h0 : Kept kk qq s) : Kept kk qq (leaveT0 s fi) := by
  unfold leaveT0
  all_goals repeat' first
    | with_reducible first
      | assumption | refine kept_foldl _ _ ?_ ?_ | refine dropT0_kept _ _ _ ?_ | refine freeGalley_kept _ _ ?_
    | intro x
    | split

theorem freePlacement_kept (s : State) (fi : ℕ) (h0 : Kept kk qq s) : Kept kk qq (freePlacement s fi) := by
  unfold freePlacement
  all_goals repeat' first
    | with_reducible first
      | assumption | refine kept_foldl _ _ ?_ ?_ | refine leaveT0_kept _ _ ?_
      | refine finishLoad_kept _ _ _ _ ?_ | refine dropLoad_kept _ _ ?_ | refine scrubParts_kept _ _ ?_
      | refine idleRail_kept _ _ ?_ | refine modChase_kept _ _ _ ?_ | refine setF_kept _ _ _ _ _ ?_
      | refine syncGolden_kept _ ?_ | refine reportForme_kept _ _ ?_ | refine setFState_kept _ _ _ ?_
    | intro x
    | (with_reducible refine kept_upd ?_; with_reducible first | refine kept_foldl _ _ ?_ ?_ | refine finishLoad_kept _ _ _ _ ?_ | refine scrubParts_kept _ _ ?_ | refine modChase_kept _ _ _ ?_ | refine syncGolden_kept _ ?_ | refine setFState_kept _ _ _ ?_)
    | split

theorem execUnloadDrained_kept (f : FormeId) (s : State) (h0 : Kept kk qq s) : KeptO kk qq (execUnloadDrained f s) := by
  unfold execUnloadDrained
  all_goals repeat' first
    | with_reducible first
      | assumption | refine kept_ite _ _ _ ?_ ?_ | refine kept_next ?_ | refine kept_foldl _ _ ?_ ?_
      | refine tryExpire_kept _ _ ?_ | refine freePlacement_kept _ _ ?_ | refine loadStat_kept _ _ _ ?_
      | refine loadRecord_kept _ _ _ _ _ _ _ _ ?_
    | intro x
    | split

theorem execLoadStaged_kept (fi : FormeId) (s : State) (h0 : Kept kk qq s) : KeptO kk qq (execLoadStaged fi s) := by
  unfold execLoadStaged
  all_goals repeat' first
    | with_reducible first
      | assumption | refine kept_next ?_ | refine logFault_kept _ _ ?_ | refine nextReplace_kept _ _ ?_
      | refine loadRecord_kept _ _ _ _ _ _ _ _ ?_ | refine stagedReplace_kept _ _ _ ?_
    | split

theorem execSwapBegin_kept (fi : FormeId) (s : State) (h0 : Kept kk qq s) : KeptO kk qq (execSwapBegin fi s) := by
  unfold execSwapBegin
  all_goals repeat' first
    | with_reducible first
      | assumption | refine kept_ite _ _ _ ?_ ?_ | refine kept_next ?_ | refine setForme_kept _ _ _ ?_
      | refine finishSwap_kept _ _ _ _ ?_ | refine loadStat_kept _ _ _ ?_
      | refine loadProgress_kept _ _ _ _ ?_
    | split

theorem execSwapLayerWritten_kept (fi : FormeId) (digestOk : Bool) (s : State) (h0 : Kept kk qq s) : KeptO kk qq (execSwapLayerWritten fi digestOk s) := by
  unfold execSwapLayerWritten
  all_goals repeat' first
    | with_reducible first
      | assumption | refine kept_ite _ _ _ ?_ ?_ | refine kept_next ?_ | refine writeLayer_kept _ _ _ _ _ ?_
      | refine loadProgress_kept _ _ _ _ ?_ | refine setForme_kept _ _ _ ?_
      | refine finishSwap_kept _ _ _ _ ?_ | refine rollBack_kept _ _ _ _ ?_
    | split

theorem failForme_kept (s : State) (fi : ℕ) (h0 : Kept kk qq s) : Kept kk qq (failForme s fi) := by
  unfold failForme
  all_goals repeat' first
    | with_reducible first
      | assumption | refine setFState_kept _ _ _ ?_ | refine handOrEnd_kept _ _ _ ?_

theorem loadFault_kept (s : State) (code : ℕ) (xs : List ℕ) (h0 : Kept kk qq s) : Kept kk qq (loadFault s code xs) := by
  unfold loadFault
  all_goals repeat' first
    | with_reducible first
      | assumption | refine kept_ite _ _ _ ?_ ?_ | refine kept_foldl _ _ ?_ ?_ | refine logFault_kept _ _ ?_
    | split

theorem restoreGolden_kept (s : State) (f : Forme) (layer : ℕ) (h0 : Kept kk qq s) : Kept kk qq (restoreGolden s f layer) := by
  unfold restoreGolden
  all_goals repeat' first
    | with_reducible first
      | assumption | refine kept_foldl _ _ ?_ ?_ | refine stackWrite_kept _ _ _ _ ?_
    | intro x
    | split

theorem quarantine_kept (s : State) (fi : ℕ) (a : AuditFinding) (f : Forme) (h0 : Kept kk qq s) : Kept kk qq (quarantine s fi a f) := by
  unfold quarantine
  all_goals repeat' first
    | with_reducible first
      | assumption | refine kept_ite _ _ _ ?_ ?_ | refine loadFault_kept _ _ _ ?_
      | refine addF_kept _ _ _ _ _ ?_ | refine adjForme_kept _ _ _ ?_ | refine setFState_kept _ _ _ ?_
      | refine restoreGolden_kept _ _ _ ?_ | refine rewriteNow_kept _ _ ?_ | refine raiseBarrier_kept _ _ ?_
      | refine failForme_kept _ _ ?_

theorem arbitrate_kept (s : State) (a : AuditFinding) (h0 : Kept kk qq s) : Kept kk qq (arbitrate s a) := by
  unfold arbitrate
  all_goals repeat' first
    | with_reducible first
      | assumption | refine kept_ite _ _ _ ?_ ?_ | refine restoreGolden_kept _ _ _ ?_
      | refine loadFault_kept _ _ _ ?_ | refine addF_kept _ _ _ _ _ ?_ | refine quarantine_kept _ _ _ _ ?_
      | refine rewriteNow_kept _ _ ?_ | refine raiseBarrier_kept _ _ ?_ | refine adjForme_kept _ _ _ ?_
    | lift_lets
    | intro x
    | split

theorem execAuditSweep_kept (found : List AuditFinding) (s : State) (h0 : Kept kk qq s) : KeptO kk qq (execAuditSweep found s) := by
  unfold execAuditSweep
  all_goals repeat' first
    | with_reducible first
      | assumption | refine kept_ite _ _ _ ?_ ?_ | refine kept_next ?_ | refine kept_foldl _ _ ?_ ?_
      | refine addF_kept _ _ _ _ _ ?_ | refine arbitrate_kept _ _ ?_
    | lift_lets
    | (intro x; refine kept_cut (kk := kk) (qq := qq) x ?_ ?_ <;> [subst x; (intro hx; clear_value x)])
    | intro x
    | (with_reducible refine kept_upd ?_; with_reducible first | assumption)

theorem execLinkSource_kept (f : FormeId) (s : State) (h0 : Kept kk qq s) : KeptO kk qq (execLinkSource f s) := by
  unfold execLinkSource
  all_goals repeat' first
    | with_reducible first
      | assumption | refine kept_next ?_ | refine dropLoad_kept _ _ ?_ | refine setFState_kept _ _ _ ?_
      | refine loadStat_kept _ _ _ ?_ | refine finishLoad_kept _ _ _ _ ?_
    | split

theorem execLoadAsk_kept (k' : LinkId) (expect : List Byte) (s : State) (h0 : Kept kk qq s) : KeptO kk qq (execLoadAsk k' expect s) := by
  unfold execLoadAsk
  all_goals repeat' first
    | with_reducible first
      | assumption | refine kept_next ?_ | refine modLink_kept _ _ _ ?_ | refine linkSend_kept _ _ _ ?_
    | lift_lets
    | (intro x; refine kept_cut (kk := kk) (qq := qq) x ?_ ?_ <;> [subst x; (intro hx; clear_value x)])
    | split

theorem takeOffer_kept (s : State) (l : Load) (h0 : Kept kk qq s) : Kept kk qq (takeOffer s l).1 := by
  unfold takeOffer
  all_goals repeat' first
    | with_reducible first
      | assumption | refine linkSend_kept _ _ _ ?_
    | split

theorem swapLoad_kept (s : State) (l : Load) (m : Load) (h0 : Kept kk qq s) : Kept kk qq (swapLoad s l m) := by
  unfold swapLoad
  all_goals repeat' first
    | with_reducible first
      | assumption | refine kept_ite _ _ _ ?_ ?_ | refine kept_foldl _ _ ?_ ?_
    | (with_reducible refine kept_upd ?_; with_reducible first | assumption)
    | split

theorem execLoadOffer_kept (k' : LinkId) (ident : List Byte) (s : State) (h0 : Kept kk qq s) : KeptO kk qq (execLoadOffer k' ident s) := by
  unfold execLoadOffer
  all_goals repeat' first
    | with_reducible first
      | assumption | refine kept_next ?_ | refine takeOffer_kept _ _ ?_ | refine swapLoad_kept _ _ _ ?_
    | split

theorem execLoadTake_kept (k' : LinkId) (ident : List Byte) (layer : ℕ) (s : State) (h0 : Kept kk qq s) : KeptO kk qq (execLoadTake k' ident layer s) := by
  unfold execLoadTake
  all_goals repeat' first
    | with_reducible first
      | assumption | refine kept_next ?_ | refine sendMsgs_kept _ _ _ ?_
    | split

theorem withHead_kept (s : State) (l : Load) (f : State → Load → State) (h0 : Kept kk qq s) (h1 : ∀ t y0, Kept kk qq t → Kept kk qq (f t y0)) : Kept kk qq (withHead s l f) := by
  unfold withHead
  split
  · exact h1 _ _ h0
  · split
    · rename_i g hg
      exact headRefusal_kept _ _ h0 g hg _ (freeIndex_kept _ _ (dropLoad_kept _ _ h0))
    · split
      · exact finishLoad_kept _ _ _ _ (freeIndex_kept _ _ (dropLoad_kept _ _ h0))
      · exact h1 _ _ (swapLoad_kept _ _ _ h0)

theorem execLoadData_kept (k' : LinkId) (offset : ℕ) (bytes : List Byte) (s : State) (h0 : Kept kk qq s) : KeptO kk qq (execLoadData k' offset bytes s) := by
  unfold execLoadData
  all_goals repeat' first
    | with_reducible first
      | assumption | refine kept_ite _ _ _ ?_ ?_ | refine kept_next ?_ | refine swapLoad_kept _ _ _ ?_
      | refine addF_kept _ _ _ _ _ ?_ | refine withHead_kept _ _ _ ?_ ?_
    | intro x
    | split

theorem nextSource_kept (s : State) (l : Load) (k' : ℕ) (h0 : Kept kk qq s) : Kept kk qq (nextSource s l k') := by
  unfold nextSource
  all_goals repeat' first
    | with_reducible first
      | assumption | refine kept_ite _ _ _ ?_ ?_ | refine takeOffer_kept _ _ ?_
      | refine swapLoad_kept _ _ _ ?_

theorem execLoadEnd_kept (k' : LinkId) (layer : ℕ) (s : State) (h0 : Kept kk qq s) : KeptO kk qq (execLoadEnd k' layer s) := by
  unfold execLoadEnd
  all_goals repeat' first
    | with_reducible first
      | assumption | refine kept_next ?_ | refine kept_foldl _ _ ?_ ?_ | refine withHead_kept _ _ _ ?_ ?_
      | refine loadRun_kept _ _ ?_ | refine swapLoad_kept _ _ _ ?_ | refine sendMsgs_kept _ _ _ ?_
      | refine nextSource_kept _ _ _ ?_
    | (intro x y; intro (hx : Kept kk qq x))
    | split

theorem deleteStart_kept (s : State) (q' : ℕ) (kind : ℕ) (rec : List Byte) (h0 : Kept kk qq s) : Kept kk qq (deleteStart s q' kind rec) := by
  unfold deleteStart
  all_goals repeat' first
    | with_reducible first
      | assumption | refine loadRecord_kept _ _ _ _ _ _ _ _ ?_
    | lift_lets
    | intro x
    | (with_reducible refine kept_upd ?_; with_reducible first | assumption)
    | split

theorem execDeleteVariant_kept (q' : QueueId) (rec : List Byte) (s : State) (h0 : Kept kk qq s) : KeptO kk qq (execDeleteVariant q' rec s) := by
  unfold execDeleteVariant
  all_goals repeat' first
    | with_reducible first
      | assumption | refine withRecord_kept _ _ _ _ ?_ | refine fetchWith_kept _ _ _ ?_ ?_
      | refine deleteStart_kept _ _ _ _ ?_
    | (intro x; intro (hx : Kept kk qq x))

theorem execDeleteOverlay_kept (q' : QueueId) (rec : List Byte) (s : State) (h0 : Kept kk qq s) : KeptO kk qq (execDeleteOverlay q' rec s) := by
  unfold execDeleteOverlay
  all_goals repeat' first
    | with_reducible first
      | assumption | refine kept_ite _ _ _ ?_ ?_ | refine kept_foldl _ _ ?_ ?_
      | refine withRecord_kept _ _ _ _ ?_ | refine fetchWith_kept _ _ _ ?_ ?_
      | refine deleteStart_kept _ _ _ _ ?_
    | (intro x; intro (hx : Kept kk qq x))
    | split

theorem activateSlot_kept (s : State) (k' : ℕ) (x : Slot) (h0 : Kept kk qq s) : Kept kk qq (activateSlot s k' x) := by
  unfold activateSlot
  all_goals repeat' first
    | with_reducible first
      | assumption | refine loadRecord_kept _ _ _ _ _ _ _ _ ?_
    | (with_reducible refine kept_upd ?_; with_reducible first | assumption)

theorem execSlotDigestCheck_kept (slot : ℕ) (ok : Bool) (s : State) (h0 : Kept kk qq s) : KeptO kk qq (execSlotDigestCheck slot ok s) := by
  unfold execSlotDigestCheck
  all_goals repeat' first
    | with_reducible first
      | assumption | refine kept_next ?_ | refine loadStat_kept _ _ _ ?_ | refine activateSlot_kept _ _ _ ?_
      | refine nextFree_kept _ ?_ | refine logFault_kept _ _ ?_ | refine loadRecord_kept _ _ _ _ _ _ _ _ ?_
    | (with_reducible refine kept_upd ?_; with_reducible first | assumption)
    | split

theorem execSlotScrubDone_kept (slot : ℕ) (s : State) (h0 : Kept kk qq s) : KeptO kk qq (execSlotScrubDone slot s) := by
  unfold execSlotScrubDone
  all_goals repeat' first
    | with_reducible first
      | assumption | refine kept_ite _ _ _ ?_ ?_ | refine kept_next ?_ | refine fillSlot_kept _ _ _ ?_
      | refine retrySlots_kept _ ?_
    | (with_reducible refine kept_upd ?_; with_reducible first | refine kept_ite _ _ _ ?_ ?_ | refine fillSlot_kept _ _ _ ?_)
    | split

theorem enqueue_kept (s : State) (q' : ℕ) (rec : List Byte) (h : HostData) (e : ℕ) (h0 : Kept kk qq s) : Kept kk qq (enqueue s q' rec h e) := by
  unfold enqueue
  all_goals repeat' first
    | with_reducible first
      | assumption | refine kept_ite _ _ _ ?_ ?_ | refine modConv_kept _ _ _ _ ?_ | refine setSt_kept _ _ _ ?_
    | lift_lets
    | (intro x; refine kept_cut (kk := kk) (qq := qq) x ?_ ?_ <;> [subst x; (intro hx; clear_value x)])
    | intro x
    | (with_reducible refine kept_upd ?_; with_reducible first | assumption)

theorem meetTombstones_kept (s : State) (q' : ℕ) (cid : ℕ) (h0 : Kept kk qq s) : Kept kk qq (meetTombstones s q' cid) := by
  unfold meetTombstones
  all_goals repeat' first
    | with_reducible first
      | assumption | refine kept_foldl _ _ ?_ ?_ | refine respond_kept _ _ _ ?_
    | intro x
    | (with_reducible refine kept_upd ?_; with_reducible first | assumption)

theorem genApply_kept (s : State) (q' : ℕ) (rec : List Byte) (h : HostData) (e : ℕ) (h0 : Kept kk qq s) : Kept kk qq (genApply s q' rec h e) := by
  unfold genApply
  all_goals repeat' first
    | with_reducible first
      | assumption | refine meetTombstones_kept _ _ _ ?_ | refine complete_kept _ _ _ _ _ _ _ ?_
      | refine enqueue_kept _ _ _ _ _ ?_
    | (with_reducible refine kept_upd ?_; with_reducible first | assumption)
    | split

theorem execGenerate_kept (q' : QueueId) (rec : List Byte) (h : HostData) (s : State) (h0 : Kept kk qq s) : KeptO kk qq (execGenerate q' rec h s) := by
  unfold execGenerate
  all_goals repeat' first
    | with_reducible first
      | assumption | refine withRecord_kept _ _ _ _ ?_ | refine fetchWith_kept _ _ _ ?_ ?_
      | refine genApply_kept _ _ _ _ _ ?_ | refine blockHead_kept _ _ ?_
    | (intro x; intro (hx : Kept kk qq x))
    | split

theorem cancelApply_kept (s : State) (q' : ℕ) (rec : List Byte) (h0 : Kept kk qq s) : Kept kk qq (cancelApply s q' rec) := by
  unfold cancelApply
  dsimp only
  split
  all_goals repeat' first
    | with_reducible first
      | assumption | refine kept_ite _ _ _ ?_ ?_ | refine kept_foldl _ _ ?_ ?_ | refine adjSt_kept _ _ _ ?_
      | refine cancelStream_kept _ _ ?_
    | (with_reducible refine kept_upd ?_; with_reducible first | assumption)
    | split

theorem execCancel_kept (q' : QueueId) (rec : List Byte) (s : State) (h0 : Kept kk qq s) : KeptO kk qq (execCancel q' rec s) := by
  unfold execCancel
  all_goals repeat' first
    | with_reducible first
      | assumption | refine withRecord_kept _ _ _ _ ?_ | refine fetchWith_kept _ _ _ ?_ ?_
      | refine cancelApply_kept _ _ _ ?_
    | (intro x; intro (hx : Kept kk qq x))

theorem releaseApply_kept (s : State) (q' : ℕ) (rec : List Byte) (h0 : Kept kk qq s) : Kept kk qq (releaseApply s q' rec) := by
  unfold releaseApply
  all_goals repeat' first
    | with_reducible first
      | assumption | refine complete_kept _ _ _ _ _ _ _ ?_ | refine freeConv_kept _ _ _ ?_
    | lift_lets
    | intro x
    | split

theorem execRelease_kept (q' : QueueId) (rec : List Byte) (s : State) (h0 : Kept kk qq s) : KeptO kk qq (execRelease q' rec s) := by
  unfold execRelease
  all_goals repeat' first
    | with_reducible first
      | assumption | refine kept_ite _ _ _ ?_ ?_ | refine withRecord_kept _ _ _ _ ?_
      | refine fetchWith_kept _ _ _ ?_ ?_ | refine releaseApply_kept _ _ _ ?_
    | (intro x; intro (hx : Kept kk qq x))

theorem setMooring_kept (s : State) (m : ℕ) (x : Mooring) (h0 : Kept kk qq s) : Kept kk qq (setMooring s m x) := by
  unfold setMooring
  dsimp only
  split
  · exact reportForme_kept _ _ (reportForme_kept _ _ (kept_mapD _ _ _ (kept_upd h0) (fun f => rebindForme_kept _ _ _ (kept_upd h0))))
  · exact reportForme_kept _ _ (kept_mapD _ _ _ (kept_upd h0) (fun f => rebindForme_kept _ _ _ (kept_upd h0)))

theorem mooringSetApply_kept (s : State) (q' : ℕ) (rec : List Byte) (h0 : Kept kk qq s) : Kept kk qq (mooringSetApply s q' rec) := by
  unfold mooringSetApply
  all_goals repeat' first
    | with_reducible first
      | assumption | refine complete_kept _ _ _ _ _ _ _ ?_ | refine setMooring_kept _ _ _ ?_
    | split

theorem execMooringSet_kept (q' : QueueId) (rec : List Byte) (s : State) (h0 : Kept kk qq s) : KeptO kk qq (execMooringSet q' rec s) := by
  unfold execMooringSet
  all_goals repeat' first
    | with_reducible first
      | assumption | refine withRecord_kept _ _ _ _ ?_ | refine fetchWith_kept _ _ _ ?_ ?_
      | refine mooringSetApply_kept _ _ _ ?_
    | (intro x; intro (hx : Kept kk qq x))

theorem mooringClearApply_kept (s : State) (q' : ℕ) (rec : List Byte) (h0 : Kept kk qq s) : Kept kk qq (mooringClearApply s q' rec) := by
  unfold mooringClearApply
  all_goals repeat' first
    | with_reducible first
      | assumption | refine kept_ite _ _ _ ?_ ?_ | refine complete_kept _ _ _ _ _ _ _ ?_
      | refine sweepMoorings_kept _ ?_
    | (with_reducible refine kept_upd ?_; with_reducible first | assumption)
    | split

theorem execMooringClear_kept (q' : QueueId) (rec : List Byte) (s : State) (h0 : Kept kk qq s) : KeptO kk qq (execMooringClear q' rec s) := by
  unfold execMooringClear
  all_goals repeat' first
    | with_reducible first
      | assumption | refine withRecord_kept _ _ _ _ ?_ | refine fetchWith_kept _ _ _ ?_ ?_
      | refine mooringClearApply_kept _ _ _ ?_
    | (intro x; intro (hx : Kept kk qq x))

theorem execBadKind_kept (q' : QueueId) (rec : List Byte) (s : State) (h0 : Kept kk qq s) : KeptO kk qq (execBadKind q' rec s) := by
  unfold execBadKind
  all_goals repeat' first
    | with_reducible first
      | assumption | refine kept_ite _ _ _ ?_ ?_ | refine kept_foldl _ _ ?_ ?_
      | refine withRecord_kept _ _ _ _ ?_ | refine fetchWith_kept _ _ _ ?_ ?_
      | refine complete_kept _ _ _ _ _ _ _ ?_
    | (intro x; intro (hx : Kept kk qq x))
    | split

theorem execSqTail_kept (q' : QueueId) (v : ℕ) (s : State) (h0 : Kept kk qq s) : KeptO kk qq (execSqTail q' v s) := by
  unfold execSqTail
  all_goals repeat' first
    | with_reducible first
      | assumption | refine kept_ite _ _ _ ?_ ?_ | refine kept_next ?_ | refine regWrite_kept _ _ _ ?_ ?_
      | refine setF_kept _ _ _ _ _ ?_ | refine modQ_kept _ _ _ ?_
    | (intro x; intro (hx : Kept kk qq x))

theorem freeRecords_kept (s : State) (q' : ℕ) (v : ℕ) (h0 : Kept kk qq s) : Kept kk qq (freeRecords s q' v) := by
  unfold freeRecords
  all_goals repeat' first
    | with_reducible first
      | assumption | refine kept_ite _ _ _ ?_ ?_ | refine setQ_kept _ _ _ ?_ | refine settleRing_kept _ _ ?_
      | refine drainRing_kept _ _ ?_

theorem execRqHead_kept (q' : QueueId) (v : ℕ) (s : State) (h0 : Kept kk qq s) : KeptO kk qq (execRqHead q' v s) := by
  unfold execRqHead
  all_goals repeat' first
    | with_reducible first
      | assumption | refine kept_ite _ _ _ ?_ ?_ | refine kept_next ?_ | refine regWrite_kept _ _ _ ?_ ?_
      | refine setF_kept _ _ _ _ _ ?_ | refine freeRecords_kept _ _ _ ?_
    | (intro x; intro (hx : Kept kk qq x))

theorem execInterruptCoalesceTime_kept (q' : QueueId) (s : State) (h0 : Kept kk qq s) : KeptO kk qq (execInterruptCoalesceTime q' s) := by
  unfold execInterruptCoalesceTime
  all_goals repeat' first
    | with_reducible first
      | assumption | refine kept_ite _ _ _ ?_ ?_ | refine kept_next ?_ | refine raiseQueue_kept _ _ ?_

theorem recallGalley_kept (s : State) (fi : ℕ) (v : ℕ) (g : ℕ) (h0 : Kept kk qq s) : Kept kk qq (recallGalley s fi v g) := by
  unfold recallGalley
  all_goals repeat' first
    | with_reducible first
      | assumption | refine fromT2_kept _ _ ?_ | refine copyToT0_kept _ _ _ ?_
    | lift_lets
    | (intro x; refine kept_cut (kk := kk) (qq := qq) x ?_ ?_ <;> [subst x; (intro hx; clear_value x)])
    | split

theorem resumeGalley_kept (s : State) (e : ℕ) (fi : ℕ) (v : ℕ) (req : ℕ) (g : ℕ) (h0 : Kept kk qq s) : Kept kk qq (resumeGalley s e fi v req g) := by
  unfold resumeGalley
  all_goals repeat' first
    | with_reducible first
      | assumption | refine fromT2_kept _ _ ?_ | refine placeStick_kept _ _ ?_ | refine setG_kept _ _ _ ?_
      | refine recallGalley_kept _ _ _ _ ?_
    | lift_lets
    | (intro x; refine kept_cut (kk := kk) (qq := qq) x ?_ ?_ <;> [subst x; (intro hx; clear_value x)])
    | split

theorem resumeGalleys_kept (s : State) (e : ℕ) (tenant : ℕ) (handle : ℕ) (fi : ℕ) (v : ℕ) (req : ℕ) (h0 : Kept kk qq s) : Kept kk qq (resumeGalleys s e tenant handle fi v req) := by
  unfold resumeGalleys
  all_goals repeat' first
    | with_reducible first
      | assumption | refine kept_foldl _ _ ?_ ?_ | refine resumeGalley_kept _ _ _ _ _ _ ?_
      | refine modKv_kept _ _ ?_ | refine recallGalley_kept _ _ _ _ ?_
    | intro x

theorem stickSpace_kept (s : State) (k' : ℕ) (y : Galley) (h0 : Kept kk qq s) : Kept kk qq (stickSpace s k' y).1 := by
  unfold stickSpace
  all_goals repeat' first
    | with_reducible first
      | assumption | refine kept_ite _ _ _ ?_ ?_ | refine kept_foldl _ _ ?_ ?_ | refine modKv_kept _ _ ?_
      | refine setG_kept _ _ _ ?_
    | split

theorem copyEntries_kept (s : State) (e : ℕ) (n : ℕ) (g : ℕ) (h0 : Kept kk qq s) : Kept kk qq (copyEntries s e n g) := by
  unfold copyEntries
  all_goals repeat' first
    | with_reducible first
      | assumption | refine fromT2_kept _ _ ?_ | refine storeToStore_kept _ _ _ _ ?_
      | refine stackToStore_kept _ _ _ _ ?_ | refine stickSpace_kept _ _ _ ?_
      | refine storeToStack_kept _ _ _ _ ?_ | refine stackToStack_kept _ _ _ _ ?_
    | lift_lets
    | (intro x; refine kept_cut (kk := kk) (qq := qq) x ?_ ?_ <;> [subst x; (intro hx; clear_value x)])
    | split

theorem takePrefix_kept (s : State) (e : ℕ) (fi : ℕ) (hit : List PrefixNode) (h0 : Kept kk qq s) : Kept kk qq (takePrefix s e fi hit) := by
  unfold takePrefix
  all_goals repeat' first
    | with_reducible first
      | assumption | refine kept_ite _ _ _ ?_ ?_ | refine kept_foldl _ _ ?_ ?_
      | refine recallGalley_kept _ _ _ _ ?_ | refine adjG_kept _ _ _ ?_ | refine copyEntries_kept _ _ _ _ ?_
      | refine modKv_kept _ _ ?_
    | intro x

theorem splitShared_kept (s : State) (e : ℕ) (v : ℕ) (h0 : Kept kk qq s) : Kept kk qq (splitShared s e v) := by
  unfold splitShared
  all_goals repeat' first
    | with_reducible first
      | assumption | refine kept_ite _ _ _ ?_ ?_ | refine kept_foldl _ _ ?_ ?_
      | refine releaseGalley_kept _ _ ?_ | refine adjG_kept _ _ _ ?_ | refine copyEntries_kept _ _ _ _ ?_
    | intro x

theorem admitRequest_kept (s : State) (e : ℕ) (x : Stream) (f : Forme) (h0 : Kept kk qq s) : Kept kk qq (admitRequest s e x f) := by
  unfold admitRequest
  all_goals repeat' first
    | with_reducible first
      | assumption | refine kept_ite _ _ _ ?_ ?_ | refine kept_foldl _ _ ?_ ?_ | refine pinSlot_kept _ _ ?_
      | refine modConv_kept _ _ _ _ ?_ | refine resumeGalleys_kept _ _ _ _ _ _ _ ?_
      | refine dropHolder_kept _ _ ?_ | refine freeOwned_kept _ _ ?_ | refine addF_kept _ _ _ _ _ ?_
      | refine splitShared_kept _ _ _ ?_ | refine bindSticks_kept _ _ _ _ _ _ ?_ | refine setSt_kept _ _ _ ?_
      | refine takePrefix_kept _ _ _ _ ?_ | refine use_kept _ _ _ ?_ | refine respond_kept _ _ _ ?_
      | refine endStream_kept _ _ _ _ _ _ ?_
    | intro x
    | split

theorem admission_kept (s : State) (e : ℕ) (x : Stream) (h0 : Kept kk qq s) : Kept kk qq (admission s e x) := by
  unfold admission
  all_goals repeat' first
    | with_reducible first
      | assumption | refine kept_ite _ _ _ ?_ ?_ | refine endStream_kept _ _ _ _ _ _ ?_
      | refine admitRequest_kept _ _ _ _ ?_
    | split

theorem execAdmission_kept (e : EntryId) (s : State) (h0 : Kept kk qq s) : KeptO kk qq (execAdmission e s) := by
  unfold execAdmission
  all_goals repeat' first
    | with_reducible first
      | assumption | refine kept_next ?_ | refine admission_kept _ _ _ ?_
    | split

theorem surpriseDown_kept (s : State) (h0 : Kept kk qq s) : Kept kk qq (surpriseDown s) := by
  unfold surpriseDown
  all_goals repeat' first
    | with_reducible first
      | assumption | refine kept_foldl _ _ ?_ ?_ | refine setF_kept _ _ _ _ _ ?_
    | intro x
    | (with_reducible refine kept_upd ?_; with_reducible first | assumption)

theorem leaveStream_kept (s : State) (e : ℕ) (h0 : Kept kk qq s) : Kept kk qq (leaveStream s e) := by
  unfold leaveStream
  all_goals repeat' first
    | with_reducible first
      | assumption | refine kept_ite _ _ _ ?_ ?_ | refine kept_foldl _ _ ?_ ?_ | refine dropEntry_kept _ _ ?_
      | refine setF_kept _ _ _ _ _ ?_
    | (with_reducible refine kept_upd ?_; with_reducible first | assumption)
    | split

theorem moduleHandover_kept (s : State) (cause : ℕ) (live : Bool) (h0 : Kept kk qq s) : Kept kk qq (moduleHandover s cause live) := by
  unfold moduleHandover
  extract_lets ready n block s1
  have h1 : Kept kk qq s1 := logFault_kept s _ h0
  clear_value s1 ready n block
  exact kept_ite _ _ _
    (surpriseDown_kept _ (kept_foldl _ _ h1 fun t e ht => endStream_kept _ _ _ _ _ _ ht))
    (kept_ite _ _ _ (setPartner_kept _ h1) (surpriseDown_kept _ (kept_foldl _ _ h1 fun t e ht => leaveStream_kept _ _ ht)))

theorem fatalModule_kept (s : State) (it : FaultItem) (cause : ℕ) (h0 : Kept kk qq s) : Kept kk qq (fatalModule s it cause) := by
  unfold fatalModule
  all_goals repeat' first
    | with_reducible first
      | assumption | refine moduleHandover_kept _ _ _ ?_ | refine forceRetention_kept _ ?_
      | refine logFault_kept _ _ ?_

theorem repairBudget_kept (s : State) (h0 : Kept kk qq s) : Kept kk qq (repairBudget s) := by
  unfold repairBudget
  all_goals repeat' first
    | with_reducible first
      | assumption | refine nextFree_kept _ ?_ | refine fatalModule_kept _ _ _ ?_

theorem endPasses_kept (s : State) (fi : ℕ) (h0 : Kept kk qq s) : Kept kk qq (endPasses s fi) := by
  unfold endPasses
  all_goals repeat' first
    | with_reducible first
      | assumption | refine kept_ite _ _ _ ?_ ?_ | refine kept_foldl _ _ ?_ ?_ | refine endPass_kept _ _ _ ?_
    | intro x

theorem holdFormes_kept (s : State) (fs : List ℕ) (h0 : Kept kk qq s) : Kept kk qq (holdFormes s fs) := by
  unfold holdFormes
  all_goals repeat' first
    | with_reducible first
      | assumption | refine kept_foldl _ _ ?_ ?_ | refine stopStreaming_kept _ _ ?_
      | refine mapForme_kept _ _ _ ?_ | refine endPasses_kept _ _ ?_
    | intro x

theorem setRecovery_kept (s : State) (i : ℕ) (r : Recovery) (h0 : Kept kk qq s) : Kept kk qq (setRecovery s i r) := by
  unfold setRecovery
  all_goals repeat' first
    | with_reducible first
      | assumption
    | (with_reducible refine kept_upd ?_; with_reducible first | assumption)

theorem startRecovery_kept (s : State) (chase : ℕ) (cs : List ℕ) (items : List FaultItem) (kind : ℕ) (self : List ℕ) (move : List ℕ) (h0 : Kept kk qq s) : Kept kk qq (startRecovery s chase cs items kind self move) := by
  unfold startRecovery
  all_goals repeat' first
    | with_reducible first
      | assumption | refine kept_foldl _ _ ?_ ?_ | refine holdFormes_kept _ _ ?_
      | refine haltChase_kept _ _ ?_
    | intro x
    | (with_reducible refine kept_upd ?_; with_reducible first | assumption)

theorem recoverForme_kept (s : State) (fi : ℕ) (h0 : Kept kk qq s) : Kept kk qq (recoverForme s fi) := by
  unfold recoverForme
  dsimp only
  split
  · exact startRecovery_kept _ _ _ _ _ _ _ h0
  · exact holdFormes_kept _ _ h0

theorem relaneRow_kept (s : State) (n : ℕ) (row : ℕ) (h0 : Kept kk qq s) : Kept kk qq (relaneRow s n row).1 := by
  unfold relaneRow
  all_goals repeat' first
    | with_reducible first
      | assumption
    | (with_reducible refine kept_upd ?_; with_reducible first | assumption)

theorem loseGalleys_kept (s : State) (keys : List ℕ) (h0 : Kept kk qq s) : Kept kk qq (loseGalleys s keys) := by
  unfold loseGalleys
  refine kept_upd (modKv_kept _ _ (kept_foldl _ _ h0 ?_))
  intro t g ht
  exact kept_elim _ _ _ ht (fun a => scrubT0_kept _ _ _ ht)

theorem moveChase_kept (s : State) (n : ℕ) (usable : Bool) (h0 : Kept kk qq s) : Kept kk qq (moveChase s n usable).1 := by
  unfold moveChase
  all_goals repeat' first
    | with_reducible first
      | assumption | refine kept_ite _ _ _ ?_ ?_ | refine kept_foldl _ _ ?_ ?_ | refine kept_foldlp _ _ ?_ ?_
      | refine loseGalleys_kept _ _ ?_ | refine scrubParts_kept _ _ ?_ | refine openPlaced_kept _ _ _ ?_
      | refine adjForme_kept _ _ _ ?_ | refine setFState_kept _ _ _ ?_ | refine logFault_kept _ _ ?_
    | (intro x y; intro (hx : Kept kk qq x.1))
    | split

theorem fillCore_kept (s : State) (c : CoreRef) (x2 : List (CoreRef × Alloc)) (x3 : List Byte) (h0 : Kept kk qq s) : Kept kk qq (fillCore s c x2 x3) := by
  revert h0
  fun_induction fillCore s c x2 x3 <;> intro h0
  all_goals repeat' first
    | with_reducible first
      | assumption | refine kept_ite _ _ _ ?_ ?_ | refine storeWrite_kept _ _ _ _ _ ?_
    | with_reducible apply_assumption

theorem reloadCore_kept (s : State) (key : ℕ) (h0 : Kept kk qq s) : Kept kk qq (reloadCore s key) := by
  unfold reloadCore
  all_goals repeat' first
    | with_reducible first
      | assumption | refine kept_foldl _ _ ?_ ?_ | refine fillCore_kept _ _ _ _ ?_
      | refine storeWrite_kept _ _ _ _ _ ?_
    | lift_lets
    | intro x
    | split

theorem refillLayer_kept (s : State) (fi : ℕ) (layer : ℕ) (h0 : Kept kk qq s) : Kept kk qq (refillLayer s fi layer) := by
  unfold refillLayer
  all_goals repeat' first
    | with_reducible first
      | assumption | refine kept_ite _ _ _ ?_ ?_ | refine kept_foldl _ _ ?_ ?_
      | refine refillCold_kept _ _ _ _ _ ?_ | refine fillSlot_kept _ _ _ ?_
    | intro x
    | split

theorem refillGalleys_kept (s : State) (fs : List ℕ) (h0 : Kept kk qq s) : Kept kk qq (refillGalleys s fs) := by
  unfold refillGalleys
  all_goals repeat' first
    | with_reducible first
      | assumption | refine kept_foldl _ _ ?_ ?_ | refine copyToT0_kept _ _ _ ?_
    | intro x
    | split

theorem reloadAll_kept (s : State) (r : Recovery) (h0 : Kept kk qq s) : Kept kk qq (reloadAll s r) := by
  unfold reloadAll
  all_goals repeat' first
    | with_reducible first
      | assumption | refine kept_foldl _ _ ?_ ?_ | refine reloadCore_kept _ _ ?_
      | refine fillPart_kept _ _ _ ?_ | refine refillGalleys_kept _ _ ?_ | refine refillLayer_kept _ _ _ ?_
    | intro x
    | split

theorem replayStream_kept (s : State) (e : ℕ) (h0 : Kept kk qq s) : Kept kk qq (replayStream s e) := by
  unfold replayStream
  all_goals repeat' first
    | with_reducible first
      | assumption | refine kept_foldl _ _ ?_ ?_ | refine freeGalley_kept _ _ ?_ | refine setG_kept _ _ _ ?_
      | refine bindSticks_kept _ _ _ _ _ _ ?_ | refine setSt_kept _ _ _ ?_
    | intro x
    | split

theorem releaseFormes_kept (s : State) (fs : List ℕ) (h0 : Kept kk qq s) : Kept kk qq (releaseFormes s fs) := by
  unfold releaseFormes
  all_goals repeat' first
    | with_reducible first
      | assumption | refine kept_foldl _ _ ?_ ?_ | refine replayStream_kept _ _ ?_
      | refine adjSt_kept _ _ _ ?_ | refine cancelStream_kept _ _ ?_
    | (intro x y; intro (hx : Kept kk qq x))
    | lift_lets
    | (intro x; refine kept_cut (kk := kk) (qq := qq) x ?_ ?_ <;> [subst x; (intro hx; clear_value x)])
    | split

theorem finishRecovery_kept (s : State) (i : ℕ) (r : Recovery) (h0 : Kept kk qq s) : Kept kk qq (finishRecovery s i r) := by
  unfold finishRecovery
  all_goals repeat' first
    | with_reducible first
      | assumption | refine kept_ite _ _ _ ?_ ?_ | refine kept_foldl _ _ ?_ ?_ | refine mapForme_kept _ _ _ ?_
      | refine logFault_kept _ _ ?_ | refine modChase_kept _ _ _ ?_ | refine setF_kept _ _ _ _ _ ?_
      | refine addF_kept _ _ _ _ _ ?_
    | intro x
    | (with_reducible refine kept_upd ?_; with_reducible first | assumption)
    | split

theorem checkRecoveries_kept (x0 : ℕ) (x1 : State) (h0 : Kept kk qq x1) : Kept kk qq (checkRecoveries x0 x1) := by
  revert h0
  fun_induction checkRecoveries x0 x1 <;> intro h0
  all_goals repeat' first
    | with_reducible first
      | assumption | refine finishRecovery_kept _ _ _ ?_
    | with_reducible apply_assumption

theorem formeDefect_kept (s : State) (it : FaultItem) (h0 : Kept kk qq s) : Kept kk qq (formeDefect s it) := by
  unfold formeDefect
  all_goals repeat' first
    | with_reducible first
      | assumption | refine logFault_kept _ _ ?_ | refine checkRecoveries_kept _ _ ?_
      | refine endStream_kept _ _ _ _ _ _ ?_
    | lift_lets
    | (intro x; refine kept_cut (kk := kk) (qq := qq) x ?_ ?_ <;> [subst x; (intro hx; clear_value x)])
    | split

theorem execEvent_kept (i : ℕ) (s : State) (h0 : Kept kk qq s) : KeptO kk qq (execEvent i s) := by
  unfold execEvent
  all_goals repeat' first
    | with_reducible assumption
    | with_reducible refine kept_ite _ _ _ ?_ ?_
    | with_reducible refine kept_next ?_
    | with_reducible refine kept_foldl _ _ ?_ ?_
    | with_reducible refine kept_foldlp _ _ ?_ ?_
    | with_reducible refine dropFlit_kept _ _ ?_
    | with_reducible refine logFault_kept _ _ ?_
    | with_reducible refine formeDefect_kept _ _ ?_
    | with_reducible refine startRecovery_kept _ _ _ _ _ _ _ ?_
    | with_reducible exact kept_fault _
    | (intro x; intro (hx : Kept kk qq x))
    | (intro x y z; intro (hx : Kept kk qq x))
    | (intro x y; intro (hx : Kept kk qq x))
    | (intro x y; intro (hx : Kept kk qq x.1))
    | lift_lets
    | (intro (x : Mem); subst x)
    | (intro (x : Serve); subst x)
    | (intro (x : Faults); subst x)
    | (intro (x : Tele); subst x)
    | (intro x; refine kept_cut (kk := kk) (qq := qq) x ?_ ?_ <;> [subst x; (intro hx; clear_value x)])
    | intro x
    | (with_reducible refine kept_upd ?_; first | with_reducible assumption | with_reducible refine kept_ite _ _ _ ?_ ?_ | with_reducible refine kept_next ?_ | with_reducible refine kept_foldl _ _ ?_ ?_ | with_reducible refine kept_foldlp _ _ ?_ ?_ | with_reducible refine dropFlit_kept _ _ ?_ | with_reducible refine logFault_kept _ _ ?_ | with_reducible refine formeDefect_kept _ _ ?_ | with_reducible refine startRecovery_kept _ _ _ _ _ _ _ ?_)
    | (with_reducible refine kept_updm ?_ ?_; (first | with_reducible assumption | with_reducible refine kept_ite _ _ _ ?_ ?_ | with_reducible refine kept_next ?_ | with_reducible refine kept_foldl _ _ ?_ ?_ | with_reducible refine kept_foldlp _ _ ?_ ?_ | with_reducible refine dropFlit_kept _ _ ?_ | with_reducible refine logFault_kept _ _ ?_ | with_reducible refine formeDefect_kept _ _ ?_ | with_reducible refine startRecovery_kept _ _ _ _ _ _ _ ?_); (first | with_reducible assumption | with_reducible refine memOk_mk ?_ ?_ ?_))
    | with_reducible refine memZero_wf ?_ _ _
    | with_reducible refine memMove_wf ?_ ?_ _ _ _
    | with_reducible refine filter_wf ?_ _
    | with_reducible exact nil_wf
    | with_reducible exact Kept.store ‹_›
    | with_reducible exact Kept.stack ‹_›
    | with_reducible exact Kept.host ‹_›
    | split

theorem extinguish_kept (s : State) (n : ℕ) (h0 : Kept kk qq s) : Kept kk qq (extinguish s n) := by
  unfold extinguish
  all_goals repeat' first
    | with_reducible first
      | assumption | refine kept_ite _ _ _ ?_ ?_ | refine railDown_kept _ _ _ ?_
      | refine setChaseBeacon_kept _ _ _ ?_

theorem placeStep_kept (s : State) (i : ℕ) (r : Recovery) (h0 : Kept kk qq s) : Kept kk qq (placeStep s i r) := by
  unfold placeStep
  all_goals repeat' first
    | with_reducible first
      | assumption | refine kept_ite _ _ _ ?_ ?_ | refine kept_foldl _ _ ?_ ?_ | refine kept_foldlp _ _ ?_ ?_
      | refine extinguish_kept _ _ ?_ | refine moveChase_kept _ _ _ ?_ | refine setRecovery_kept _ _ _ ?_
      | refine loseGalleys_kept _ _ ?_ | refine modChase_kept _ _ _ ?_ | refine repairBudget_kept _ ?_
    | intro x
    | (with_reducible refine kept_upd ?_; with_reducible first | refine kept_ite _ _ _ ?_ ?_ | refine kept_foldl _ _ ?_ ?_ | refine extinguish_kept _ _ ?_ | refine setRecovery_kept _ _ _ ?_ | refine modChase_kept _ _ _ ?_)

theorem finishStackWrites_kept (s : State) (n : ℕ) (h0 : Kept kk qq s) : Kept kk qq (finishStackWrites s n) := by
  unfold finishStackWrites
  all_goals repeat' first
    | with_reducible first
      | assumption | refine kept_foldl _ _ ?_ ?_ | refine landStack_kept _ _ _ _ ?_
    | intro x

theorem clearRim_kept (s : State) (fs : List ℕ) (h0 : Kept kk qq s) : Kept kk qq (clearRim s fs) := by
  unfold clearRim
  all_goals repeat' first
    | with_reducible first
      | assumption
    | (with_reducible refine kept_upd ?_; with_reducible first | assumption)

theorem execFabricDrained_kept (i : ℕ) (s : State) (h0 : Kept kk qq s) : KeptO kk qq (execFabricDrained i s) := by
  unfold execFabricDrained
  all_goals repeat' first
    | with_reducible first
      | assumption | refine kept_ite _ _ _ ?_ ?_ | refine kept_next ?_ | refine kept_foldl _ _ ?_ ?_
      | refine modCores_kept _ _ _ ?_ | refine finishStackWrites_kept _ _ ?_ | refine clearRim_kept _ _ ?_
      | refine placeStep_kept _ _ _ ?_ | refine setRecovery_kept _ _ _ ?_
    | intro x
    | split

theorem markHard_kept (s : State) (it : FaultItem) (h0 : Kept kk qq s) : Kept kk qq (markHard s it) := by
  exact ⟨⟨h0.1.1, by
    show (List.map _ _).length ≤ 64
    rw [List.length_map]
    exact h0.1.2.1, h0.1.2.2⟩, h0.2⟩

theorem failSelfTest_kept (s : State) (x : CoreResult) (h0 : Kept kk qq s) : Kept kk qq (failSelfTest s x) := by
  unfold failSelfTest
  all_goals repeat' first
    | with_reducible first
      | assumption | refine logFault_kept _ _ ?_ | refine retire_kept _ _ _ _ _ ?_

theorem settlePlace_kept (items : List FaultItem) (results : List CoreResult) (s : State) (p : ℕ × ℕ) (h0 : Kept kk qq s) : Kept kk qq (settlePlace items results s p) := by
  unfold settlePlace
  all_goals repeat' first
    | with_reducible first
      | assumption | refine kept_foldl _ _ ?_ ?_ | refine markHard_kept _ _ ?_
      | refine retire_kept _ _ _ _ _ ?_ | refine suspect_kept _ _ _ ?_
    | lift_lets
    | intro x
    | split

theorem rewriteWord_kept (s : State) (it : FaultItem) (h0 : Kept kk qq s) : Kept kk qq (rewriteWord s it) := by
  unfold rewriteWord
  split
  · dsimp only
    split
    · exact kept_updm h0 ⟨h0.1.1.1, h0.1.1.2⟩
    · exact h0
  · exact h0

theorem retestNamed_kept (s : State) (i : ℕ) (r : Recovery) (results : List CoreResult) (h0 : Kept kk qq s) : Kept kk qq (retestNamed s i r results) := by
  unfold retestNamed
  all_goals repeat' first
    | with_reducible first
      | assumption | refine kept_ite _ _ _ ?_ ?_ | refine kept_foldl _ _ ?_ ?_ | refine kept_foldlp _ _ ?_ ?_
      | refine rewriteWord_kept _ _ ?_ | refine settlePlace_kept _ _ _ _ ?_ | refine relaneRow_kept _ _ _ ?_
      | refine placeStep_kept _ _ _ ?_ | refine setRecovery_kept _ _ _ ?_
    | lift_lets
    | intro x
    | (with_reducible refine kept_upd ?_; with_reducible first | refine kept_ite _ _ _ ?_ ?_ | refine kept_foldlp _ _ ?_ ?_ | refine settlePlace_kept _ _ _ _ ?_ | refine placeStep_kept _ _ _ ?_)
    | split

theorem execRetestDone_kept (i : ℕ) (results : List CoreResult) (s : State) (h0 : Kept kk qq s) : KeptO kk qq (execRetestDone i results s) := by
  unfold execRetestDone
  all_goals repeat' first
    | with_reducible first
      | assumption | refine kept_next ?_ | refine kept_foldl _ _ ?_ ?_ | refine failSelfTest_kept _ _ ?_
      | refine rewriteWord_kept _ _ ?_ | refine placeStep_kept _ _ _ ?_ | refine retestNamed_kept _ _ _ _ ?_
    | intro x
    | split

theorem restartMember_kept (s : State) (n : ℕ) (h0 : Kept kk qq s) : Kept kk qq (restartMember s n) := by
  unfold restartMember
  all_goals repeat' first
    | with_reducible first
      | assumption | refine kept_ite _ _ _ ?_ ?_ | refine restartChase_kept _ _ ?_
      | refine modChase_kept _ _ _ ?_ | refine idleRail_kept _ _ ?_ | refine setChaseBeacon_kept _ _ _ ?_
      | refine setF_kept _ _ _ _ _ ?_

theorem execReloadDone_kept (i : ℕ) (s : State) (h0 : Kept kk qq s) : KeptO kk qq (execReloadDone i s) := by
  unfold execReloadDone
  all_goals repeat' first
    | with_reducible first
      | assumption | refine kept_next ?_ | refine kept_foldl _ _ ?_ ?_ | refine reloadAll_kept _ _ ?_
      | refine restartMember_kept _ _ ?_ | refine startChases_kept _ _ ?_ | refine setRecovery_kept _ _ _ ?_
      | refine releaseFormes_kept _ _ ?_ | refine refixForme_kept _ _ ?_ | refine checkRecoveries_kept _ _ ?_
    | intro x
    | split

theorem setPhase_kept (s : State) (k' : ℕ) (ph : ℕ) (h0 : Kept kk qq s) : Kept kk qq (setPhase s k' ph) := by
  unfold setPhase
  all_goals repeat' first
    | with_reducible first
      | assumption | refine setBeacon_kept _ _ _ ?_ | refine setF_kept _ _ _ _ _ ?_

theorem linkFault_kept (s : State) (k' : ℕ) (code : ℕ) (xs : List ℕ) (h0 : Kept kk qq s) : Kept kk qq (linkFault s k' code xs) := by
  unfold linkFault
  all_goals repeat' first
    | with_reducible first
      | assumption | refine kept_ite _ _ _ ?_ ?_ | refine kept_foldl _ _ ?_ ?_ | refine logFault_kept _ _ ?_
    | split

theorem setGood_kept (s : State) (k' : ℕ) (l : List ℕ) (h0 : Kept kk qq s) : Kept kk qq (setGood s k' l) := by
  unfold setGood
  all_goals repeat' first
    | with_reducible first
      | assumption | refine setF_kept _ _ _ _ _ ?_ | refine modLink_kept _ _ _ ?_

theorem execDetect_kept (k' : LinkId) (lanes : ℕ) (s : State) (h0 : Kept kk qq s) : KeptO kk qq (execDetect k' lanes s) := by
  unfold execDetect
  all_goals repeat' first
    | with_reducible first
      | assumption | refine kept_ite _ _ _ ?_ ?_ | refine kept_next ?_ | refine setPhase_kept _ _ _ ?_
      | refine setGood_kept _ _ _ ?_

theorem refuseLink_kept (s : State) (k' : ℕ) (h0 : Kept kk qq s) : Kept kk qq (refuseLink s k') := by
  unfold refuseLink
  all_goals repeat' first
    | with_reducible first
      | assumption | refine kept_ite _ _ _ ?_ ?_ | refine setPhase_kept _ _ _ ?_
      | refine modLink_kept _ _ _ ?_

theorem execSignalLook_kept (k' : LinkId) (signal : Bool) (s : State) (h0 : Kept kk qq s) : KeptO kk qq (execSignalLook k' signal s) := by
  unfold execSignalLook
  all_goals repeat' first
    | with_reducible first
      | assumption | refine kept_ite _ _ _ ?_ ?_ | refine kept_next ?_ | refine setPhase_kept _ _ _ ?_

theorem fixLanes_kept (s : State) (k' : ℕ) (lanes : List LaneIdent) (h0 : Kept kk qq s) : Kept kk qq (fixLanes s k' lanes) := by
  unfold fixLanes
  all_goals repeat' first
    | with_reducible first
      | assumption | refine kept_ite _ _ _ ?_ ?_ | refine setF_kept _ _ _ _ _ ?_
      | refine linkFault_kept _ _ _ _ ?_

theorem execIdentify_kept (k' : LinkId) (lanes : List LaneIdent) (s : State) (h0 : Kept kk qq s) : KeptO kk qq (execIdentify k' lanes s) := by
  unfold execIdentify
  all_goals repeat' first
    | with_reducible first
      | assumption | refine kept_ite _ _ _ ?_ ?_ | refine kept_next ?_ | refine setGood_kept _ _ _ ?_
      | refine fixLanes_kept _ _ _ ?_ | refine linkFault_kept _ _ _ _ ?_ | refine setF_kept _ _ _ _ _ ?_
      | refine setSerial_kept _ _ _ _ ?_ | refine refuseLink_kept _ _ ?_ | refine setPhase_kept _ _ _ ?_
      | refine flagF_kept _ _ _ _ _ ?_
    | split

theorem execEqualise_kept (k' : LinkId) (coefficients : List ℕ) (s : State) (h0 : Kept kk qq s) : KeptO kk qq (execEqualise k' coefficients s) := by
  unfold execEqualise
  all_goals repeat' first
    | with_reducible first
      | assumption | refine kept_ite _ _ _ ?_ ?_ | refine kept_next ?_ | refine setPhase_kept _ _ _ ?_
      | refine modLink_kept _ _ _ ?_

theorem selectLanes_kept (s : State) (k' : ℕ) (good : List ℕ) (h0 : Kept kk qq s) : Kept kk qq (selectLanes s k' good) := by
  unfold selectLanes
  all_goals repeat' first
    | with_reducible first
      | assumption | refine kept_ite _ _ _ ?_ ?_ | refine kept_foldl _ _ ?_ ?_ | refine modLink_kept _ _ _ ?_
      | refine setGood_kept _ _ _ ?_ | refine setF_kept _ _ _ _ _ ?_
    | split

theorem execLock_kept (k' : LinkId) (good : ℕ) (s : State) (h0 : Kept kk qq s) : KeptO kk qq (execLock k' good s) := by
  unfold execLock
  all_goals repeat' first
    | with_reducible first
      | assumption | refine kept_ite _ _ _ ?_ ?_ | refine kept_next ?_ | refine selectLanes_kept _ _ _ ?_
      | refine setPhase_kept _ _ _ ?_ | refine modLink_kept _ _ _ ?_ | refine sendMsgs_kept _ _ _ ?_

theorem retrainFrom_kept (s : State) (k' : ℕ) (ph : ℕ) (h0 : Kept kk qq s) : Kept kk qq (retrainFrom s k' ph) := by
  unfold retrainFrom
  all_goals repeat' first
    | with_reducible first
      | assumption | refine linkFault_kept _ _ _ _ ?_ | refine addF_kept _ _ _ _ _ ?_
      | refine setPhase_kept _ _ _ ?_ | refine modLink_kept _ _ _ ?_

theorem execLnkLaneSpared_kept (k' : LinkId) (lane : Fin 32) (s : State) (h0 : Kept kk qq s) : KeptO kk qq (execLnkLaneSpared k' lane s) := by
  unfold execLnkLaneSpared
  refine kept_next ?_
  dsimp only
  split
  · exact h0
  split
  · split
    · exact linkFault_kept _ _ _ _ (setF_kept _ _ _ _ _ (addF_kept _ _ _ _ _ (modLink_kept _ _ _ (setGood_kept _ _ _ h0))))
    · exact retrainFrom_kept _ _ _ (linkFault_kept _ _ _ _ (setGood_kept _ _ _ h0))
  · exact modLink_kept _ _ _ (setGood_kept _ _ _ h0)

theorem negotiated_kept (s : State) (k' : ℕ) (h0 : Kept kk qq s) : Kept kk qq (negotiated s k') := by
  unfold negotiated
  all_goals repeat' first
    | with_reducible first
      | assumption | refine kept_ite _ _ _ ?_ ?_ | refine setPhase_kept _ _ _ ?_

theorem execIdent_kept (k' : LinkId) (serial : ℕ) (die : ℕ) (grade : ℕ) (cores : ℕ) (idents : List (List Byte)) (s : State) (h0 : Kept kk qq s) : KeptO kk qq (execIdent k' serial die grade cores idents s) := by
  unfold execIdent
  all_goals repeat' first
    | with_reducible first
      | assumption | refine kept_ite _ _ _ ?_ ?_ | refine kept_next ?_ | refine setF_kept _ _ _ _ _ ?_
      | refine setSerial_kept _ _ _ _ ?_ | refine modLink_kept _ _ _ ?_ | refine nextFree_kept _ ?_
      | refine negotiated_kept _ _ ?_
    | lift_lets
    | (intro x; refine kept_cut (kk := kk) (qq := qq) x ?_ ?_ <;> [subst x; (intro hx; clear_value x)])
    | intro x
    | (with_reducible refine kept_upd ?_; with_reducible first | assumption)

theorem execVersion_kept (k' : LinkId) (offers : List (ℕ × ℕ)) (s : State) (h0 : Kept kk qq s) : KeptO kk qq (execVersion k' offers s) := by
  unfold execVersion
  all_goals repeat' first
    | with_reducible first
      | assumption | refine kept_next ?_ | refine setF_kept _ _ _ _ _ ?_ | refine negotiated_kept _ _ ?_
      | refine modLink_kept _ _ _ ?_ | refine refuseLink_kept _ _ ?_ | refine linkFault_kept _ _ _ _ ?_
    | split

theorem setSynced_kept (s : State) (b : Bool) (h0 : Kept kk qq s) : Kept kk qq (setSynced s b) := by
  unfold setSynced
  all_goals repeat' first
    | with_reducible first
      | assumption | refine kept_ite _ _ _ ?_ ?_ | refine kept_foldl _ _ ?_ ?_
      | refine flagF_kept _ _ _ _ _ ?_
    | intro x
    | (with_reducible refine kept_upd ?_; with_reducible first | refine kept_ite _ _ _ ?_ ?_ | refine kept_foldl _ _ ?_ ?_)

theorem chooseSource_kept (s : State) (h0 : Kept kk qq s) : Kept kk qq (chooseSource s) := by
  unfold chooseSource
  all_goals repeat' first
    | with_reducible first
      | assumption | refine kept_ite _ _ _ ?_ ?_ | refine kept_foldl _ _ ?_ ?_
      | refine flagF_kept _ _ _ _ _ ?_ | refine setSynced_kept _ _ ?_
    | intro x
    | (with_reducible refine kept_upd ?_; with_reducible first | refine kept_ite _ _ _ ?_ ?_ | refine kept_foldl _ _ ?_ ?_ | refine setSynced_kept _ _ ?_)

theorem sendAnnounce_kept (s : State) (k' : ℕ) (priority : ℕ) (serial : ℕ) (hops : ℕ) (h0 : Kept kk qq s) : Kept kk qq (sendAnnounce s k' priority serial hops) := by
  unfold sendAnnounce
  all_goals repeat' first
    | with_reducible first
      | assumption | refine kept_ite _ _ _ ?_ ?_ | refine kept_foldl _ _ ?_ ?_ | refine linkSend_kept _ _ _ ?_
    | split

theorem execAnnounce_kept (k' : LinkId) (priority : ℕ) (serial : ℕ) (hops : ℕ) (s : State) (h0 : Kept kk qq s) : KeptO kk qq (execAnnounce k' priority serial hops s) := by
  unfold execAnnounce
  all_goals repeat' first
    | with_reducible first
      | assumption | refine kept_ite _ _ _ ?_ ?_ | refine kept_next ?_ | refine kept_foldl _ _ ?_ ?_
      | refine modLink_kept _ _ _ ?_ | refine sendAnnounce_kept _ _ _ _ _ ?_ | refine chooseSource_kept _ ?_
    | intro x

theorem resumeSplit_kept (s : State) (k' : ℕ) (h0 : Kept kk qq s) : Kept kk qq (resumeSplit s k') := by
  unfold resumeSplit
  all_goals repeat' first
    | with_reducible first
      | assumption | refine kept_ite _ _ _ ?_ ?_ | refine kept_foldl _ _ ?_ ?_ | refine modLink_kept _ _ _ ?_
      | refine recoverForme_kept _ _ ?_
    | intro x

theorem bringUp_kept (s : State) (k' : ℕ) (h0 : Kept kk qq s) : Kept kk qq (bringUp s k') := by
  unfold bringUp
  all_goals repeat' first
    | with_reducible first
      | assumption | refine kept_ite _ _ _ ?_ ?_ | refine setLink_kept _ _ _ ?_
      | refine addF_kept _ _ _ _ _ ?_ | refine setPhase_kept _ _ _ ?_ | refine sendAnnounce_kept _ _ _ _ _ ?_
      | refine resumeSplit_kept _ _ ?_ | refine chooseSource_kept _ ?_

theorem followTime_kept (s : State) (k' : ℕ) (offset : ℤ) (h0 : Kept kk qq s) : Kept kk qq (followTime s k' offset) := by
  unfold followTime
  all_goals repeat' first
    | with_reducible first
      | assumption | refine kept_ite _ _ _ ?_ ?_ | refine setF_kept _ _ _ _ _ ?_
      | refine linkFault_kept _ _ _ _ ?_ | refine setSynced_kept _ _ ?_
    | (with_reducible refine kept_upd ?_; with_reducible first | refine kept_ite _ _ _ ?_ ?_ | refine setF_kept _ _ _ _ _ ?_ | refine setSynced_kept _ _ ?_)

theorem execPdelay_kept (k' : LinkId) (offset : ℤ) (delay : ℕ) (s : State) (h0 : Kept kk qq s) : KeptO kk qq (execPdelay k' offset delay s) := by
  unfold execPdelay
  all_goals repeat' first
    | with_reducible first
      | assumption | refine kept_ite _ _ _ ?_ ?_ | refine kept_next ?_ | refine setF_kept _ _ _ _ _ ?_
      | refine modLink_kept _ _ _ ?_ | refine bringUp_kept _ _ ?_ | refine followTime_kept _ _ _ ?_

theorem execPdelayTimer_kept (k' : LinkId) (s : State) (h0 : Kept kk qq s) : KeptO kk qq (execPdelayTimer k' s) := by
  unfold execPdelayTimer
  all_goals repeat' first
    | with_reducible first
      | assumption | refine kept_ite _ _ _ ?_ ?_ | refine kept_next ?_ | refine linkSend_kept _ _ _ ?_

theorem execTimeSourceLoss_kept (s : State) (h0 : Kept kk qq s) : KeptO kk qq (execTimeSourceLoss s) := by
  unfold execTimeSourceLoss
  all_goals repeat' first
    | with_reducible first
      | assumption | refine kept_next ?_ | refine chooseSource_kept _ ?_ | refine modLink_kept _ _ _ ?_
    | split

theorem takeAck_kept (s : State) (k' : ℕ) (ack : ℕ) (h0 : Kept kk qq s) : Kept kk qq (takeAck s k' ack) := by
  unfold takeAck
  all_goals repeat' first
    | with_reducible first
      | assumption | refine kept_ite _ _ _ ?_ ?_ | refine kept_foldl _ _ ?_ ?_ | refine setLink_kept _ _ _ ?_
    | lift_lets
    | (intro x; refine kept_cut (kk := kk) (qq := qq) x ?_ ?_ <;> [subst x; (intro hx; clear_value x)])
    | intro x
    | (with_reducible refine kept_upd ?_; with_reducible first | assumption)
    | split

theorem takeNak_kept (s : State) (k' : ℕ) (h0 : Kept kk qq s) : Kept kk qq (takeNak s k') := by
  unfold takeNak
  all_goals repeat' first
    | with_reducible first
      | assumption | refine kept_ite _ _ _ ?_ ?_ | refine modLink_kept _ _ _ ?_
      | refine addF_kept _ _ _ _ _ ?_ | refine retrainFrom_kept _ _ _ ?_
    | (with_reducible refine kept_upd ?_; with_reducible first | assumption)

theorem execLinkFrame_kept (k' : LinkId) (frame : List Byte) (uncorrectable : Bool) (s : State) (h0 : Kept kk qq s) : KeptO kk qq (execLinkFrame k' frame uncorrectable s) := by
  unfold execLinkFrame
  all_goals repeat' first
    | with_reducible first
      | assumption | refine kept_ite _ _ _ ?_ ?_ | refine kept_next ?_ | refine addF_kept _ _ _ _ _ ?_
      | refine sendFrame_kept _ _ _ _ ?_ | refine setLink_kept _ _ _ ?_ | refine takeAck_kept _ _ _ ?_
      | refine takeNak_kept _ _ ?_
    | with_reducible exact kept_fault _
    | split

theorem execSplitPacket_kept (k' : LinkId) (f : Flit) (s : State) (h0 : Kept kk qq s) : KeptO kk qq (execSplitPacket k' f s) := by
  unfold execSplitPacket
  refine kept_next ?_
  dsimp only
  split
  · exact h0
  split
  · exact kept_upd h0
  · exact raise_kept _ _ (addF_kept _ _ _ _ _ h0)

theorem execLnkDown_kept (k' : LinkId) (framesLost : ℕ) (s : State) (h0 : Kept kk qq s) : KeptO kk qq (execLnkDown k' framesLost s) := by
  unfold execLnkDown
  all_goals repeat' first
    | with_reducible first
      | assumption | refine kept_ite _ _ _ ?_ ?_ | refine kept_next ?_ | refine kept_foldl _ _ ?_ ?_
      | refine setLink_kept _ _ _ ?_ | refine setPhase_kept _ _ _ ?_ | refine linkFault_kept _ _ _ _ ?_
      | refine holdFormes_kept _ _ ?_ | refine nextSource_kept _ _ _ ?_ | refine chooseSource_kept _ ?_
    | intro x

theorem execPeerLost_kept (k' : LinkId) (s : State) (h0 : Kept kk qq s) : KeptO kk qq (execPeerLost k' s) := by
  unfold execPeerLost
  all_goals repeat' first
    | with_reducible first
      | assumption | refine kept_ite _ _ _ ?_ ?_ | refine kept_next ?_ | refine kept_foldl _ _ ?_ ?_
      | refine endStream_kept _ _ _ _ _ _ ?_ | refine checkRecoveries_kept _ _ ?_
      | refine modLink_kept _ _ _ ?_
    | intro x

theorem execRetrain_kept (k' : LinkId) (v : ℕ) (s : State) (h0 : Kept kk qq s) : KeptO kk qq (execRetrain k' v s) := by
  unfold execRetrain
  all_goals repeat' first
    | with_reducible first
      | assumption | refine kept_ite _ _ _ ?_ ?_ | refine kept_next ?_ | refine regWrite_kept _ _ _ ?_ ?_
      | refine setF_kept _ _ _ _ _ ?_ | refine retrainFrom_kept _ _ _ ?_ | refine modLink_kept _ _ _ ?_
    | (intro x; intro (hx : Kept kk qq x))

theorem execMirror_kept (k' : LinkId) (data : List Byte) (s : State) (h0 : Kept kk qq s) : KeptO kk qq (execMirror k' data s) := by
  unfold execMirror
  all_goals repeat' first
    | with_reducible first
      | assumption | refine kept_ite _ _ _ ?_ ?_ | refine kept_next ?_
    | (with_reducible refine kept_upd ?_; with_reducible first | assumption)

theorem landGalleys_kept (s : State) (o : Owner) (fi : ℕ) (tenant : ℕ) (vlen : ℕ) (st : GalleyState) (bytes : List (List Byte)) (h0 : Kept kk qq s) : Kept kk qq (landGalleys s o fi tenant vlen st bytes) := by
  unfold landGalleys
  all_goals repeat' first
    | with_reducible first
      | assumption | refine kept_foldl _ _ ?_ ?_ | refine stackWrite_kept _ _ _ _ ?_
      | refine modKv_kept _ _ ?_ | refine newGalley_kept _ _ ?_
    | (intro x y; intro (hx : Kept kk qq x))
    | split

theorem adoptStream_kept (s : State) (h : HandedStream) (h0 : Kept kk qq s) : Kept kk qq (adoptStream s h) := by
  unfold adoptStream
  all_goals repeat' first
    | with_reducible first
      | assumption | refine kept_ite _ _ _ ?_ ?_ | refine kept_foldl _ _ ?_ ?_ | refine setSt_kept _ _ _ ?_
      | refine pinSlot_kept _ _ ?_ | refine landGalleys_kept _ _ _ _ _ _ _ ?_
      | refine bindSticks_kept _ _ _ _ _ _ ?_
    | intro x
    | (with_reducible refine kept_upd ?_; with_reducible first | refine kept_ite _ _ _ ?_ ?_ | refine setSt_kept _ _ _ ?_ | refine landGalleys_kept _ _ _ _ _ _ _ ?_)
    | split

theorem adoptQueue_kept (s : State) (h : HandedQueue) (h0 : Kept kk qq s) : Kept kk qq (adoptQueue s h) := by
  unfold adoptQueue
  all_goals repeat' first
    | with_reducible first
      | assumption | refine setF_kept _ _ _ _ _ ?_ | refine modQ_kept _ _ _ ?_

theorem adoptConv_kept (s : State) (h : HandedConv) (h0 : Kept kk qq s) : Kept kk qq (adoptConv s h) := by
  unfold adoptConv
  all_goals repeat' first
    | with_reducible first
      | assumption | refine landGalleys_kept _ _ _ _ _ _ _ ?_
    | (with_reducible refine kept_upd ?_; with_reducible first | assumption)

theorem execHandover_kept (k' : LinkId) (h : Handed) (s : State) (h0 : Kept kk qq s) : KeptO kk qq (execHandover k' h s) := by
  unfold execHandover
  all_goals repeat' first
    | with_reducible first
      | assumption | refine kept_ite _ _ _ ?_ ?_ | refine kept_next ?_ | refine adoptQueue_kept _ _ ?_
      | refine adoptStream_kept _ _ ?_ | refine adoptConv_kept _ _ ?_
    | (with_reducible refine kept_upd ?_; with_reducible first | assumption)
    | split

theorem kmbData_kept (s : State) (g : ℕ) (bs : List Byte) (h0 : Kept kk qq s) : Kept kk qq (kmbData s g bs) := by
  unfold kmbData
  all_goals repeat' first
    | with_reducible first
      | assumption | refine kept_foldl _ _ ?_ ?_ | refine setF_kept _ _ _ _ _ ?_
    | intro x

theorem kmbPut_kept (s : State) (g : ℕ) (status : ℕ) (tail : List Byte) (h0 : Kept kk qq s) : Kept kk qq (kmbPut s g status tail) := by
  unfold kmbPut
  all_goals repeat' first
    | with_reducible first
      | assumption | refine setF_kept _ _ _ _ _ ?_ | refine kmbData_kept _ _ _ ?_

theorem kmbFree_kept (s : State) (g : ℕ) (status : ℕ) (h0 : Kept kk qq s) : Kept kk qq (kmbFree s g status) := by
  unfold kmbFree
  all_goals repeat' first
    | with_reducible first
      | assumption | refine nextFree_kept _ ?_ | refine kmbPut_kept _ _ _ _ ?_

theorem kmbAnswer_kept (s : State) (g : ℕ) (h0 : Kept kk qq s) : Kept kk qq (kmbAnswer s g) := by
  unfold kmbAnswer
  all_goals repeat' first
    | with_reducible first
      | assumption | refine kmbFree_kept _ _ _ ?_ | refine kmbPut_kept _ _ _ _ ?_
    | split

theorem kmbServe_kept (s : State) (g : ℕ) (h0 : Kept kk qq s) : Kept kk qq (kmbServe s g) := by
  unfold kmbServe
  all_goals repeat' first
    | with_reducible first
      | assumption | refine kept_ite _ _ _ ?_ ?_ | refine kept_foldl _ _ ?_ ?_ | refine kmbAnswer_kept _ _ ?_
    | split

theorem kmbGo_kept (s : State) (g : ℕ) (h0 : Kept kk qq s) : Kept kk qq (kmbGo s g) := by
  unfold kmbGo
  all_goals repeat' first
    | with_reducible first
      | assumption | refine kept_ite _ _ _ ?_ ?_ | refine kmbServe_kept _ _ ?_ | refine setF_kept _ _ _ _ _ ?_

end Sys2Proof.Machine
end

