-- ==== Sys2Proof/Laws/Kept4.lean ====
section
/-! SUPPORT. One lemma for each operation, from `kmbSend` to `readWord`: it keeps the invariant, the keys and
the waiting commands. -/

namespace Sys2Proof.Machine

set_option linter.all false

variable {kk : List (Nat × Nat × Nat)} {qq : List Instr}

theorem kmbSend_kept (s : State) (g : ℕ) (kind : ℕ) (h0 : Kept kk qq s) : Kept kk qq (kmbSend s g kind) := by
  unfold kmbSend
  all_goals repeat' first
    | with_reducible first
      | assumption | refine kept_ite _ _ _ ?_ ?_ | refine regWrite_kept _ _ _ ?_ ?_ | refine kmbGo_kept _ _ ?_
      | refine setF_kept _ _ _ _ _ ?_
    | (intro x; intro (hx : Kept kk qq x))

theorem execKmbVersion_kept (g : GroupId) (s : State) (h0 : Kept kk qq s) : KeptO kk qq (execKmbVersion g s) := by
  unfold execKmbVersion
  all_goals repeat' first
    | with_reducible first
      | assumption | refine kept_ite _ _ _ ?_ ?_ | refine kept_next ?_ | refine kmbSend_kept _ _ _ ?_

theorem execGroupState_kept (g : GroupId) (s : State) (h0 : Kept kk qq s) : KeptO kk qq (execGroupState g s) := by
  unfold execGroupState
  all_goals repeat' first
    | with_reducible first
      | assumption | refine kept_next ?_ | refine kmbSend_kept _ _ _ ?_

theorem execStreamQuery_kept (g : GroupId) (s : State) (h0 : Kept kk qq s) : KeptO kk qq (execStreamQuery g s) := by
  unfold execStreamQuery
  all_goals repeat' first
    | with_reducible first
      | assumption | refine kept_next ?_ | refine kmbSend_kept _ _ _ ?_

theorem execAck_kept (g : GroupId) (s : State) (h0 : Kept kk qq s) : KeptO kk qq (execAck g s) := by
  unfold execAck
  all_goals repeat' first
    | with_reducible first
      | assumption | refine kept_next ?_ | refine regWrite_kept _ _ _ ?_ ?_ | refine kmbServe_kept _ _ ?_
      | refine setF_kept _ _ _ _ _ ?_
    | (intro x; intro (hx : Kept kk qq x))

theorem telPut_kept (s : State) (r : List Byte) (h0 : Kept kk qq s) : Kept kk qq (telPut s r) := by
  unfold telPut
  all_goals repeat' first
    | with_reducible first
      | assumption | refine kept_ite _ _ _ ?_ ?_ | refine ringPut_kept _ _ _ ?_

theorem execTelemetrySecond_kept (s : State) (h0 : Kept kk qq s) : KeptO kk qq (execTelemetrySecond s) := by
  unfold execTelemetrySecond
  all_goals repeat' first
    | with_reducible first
      | assumption | refine kept_ite _ _ _ ?_ ?_ | refine kept_next ?_ | refine kept_foldl _ _ ?_ ?_
      | refine telPut_kept _ _ ?_ | refine msix_kept _ _ ?_
    | lift_lets
    | (intro x; refine kept_cut (kk := kk) (qq := qq) x ?_ ?_ <;> [subst x; (intro hx; clear_value x)])
    | intro x
    | (with_reducible refine kept_upd ?_; with_reducible first | assumption)
    | split

theorem dropOld_kept (s : State) (h0 : Kept kk qq s) : Kept kk qq (dropOld s) := by
  unfold dropOld
  all_goals repeat' first
    | with_reducible first
      | assumption | refine addF_kept _ _ _ _ _ ?_
    | (with_reducible refine kept_upd ?_; with_reducible first | assumption)

theorem handRecords_kept (s : State) (rs : List (List Byte)) (h0 : Kept kk qq s) : Kept kk qq (handRecords s rs) := by
  unfold handRecords
  all_goals repeat' first
    | with_reducible first
      | assumption | refine kept_ite _ _ _ ?_ ?_ | refine dropOld_kept _ ?_
    | (with_reducible refine kept_upd ?_; with_reducible first | assumption)

theorem execNumeric_kept (s : State) (h0 : Kept kk qq s) : KeptO kk qq (execNumeric s) := by
  unfold execNumeric
  all_goals repeat' first
    | with_reducible first
      | assumption | refine kept_ite _ _ _ ?_ ?_ | refine kept_next ?_ | refine handRecords_kept _ _ ?_
    | (with_reducible refine kept_upd ?_; with_reducible first | assumption)

theorem execExpert_kept (first : ℕ) (s : State) (h0 : Kept kk qq s) : KeptO kk qq (execExpert first s) := by
  unfold execExpert
  all_goals repeat' first
    | with_reducible first
      | assumption | refine kept_ite _ _ _ ?_ ?_ | refine kept_next ?_ | refine handRecords_kept _ _ ?_
    | (with_reducible refine kept_upd ?_; with_reducible first | assumption)

theorem execUsageCounts_kept (s : State) (h0 : Kept kk qq s) : KeptO kk qq (execUsageCounts s) := by
  unfold execUsageCounts
  all_goals repeat' first
    | with_reducible first
      | assumption | refine kept_ite _ _ _ ?_ ?_ | refine kept_next ?_ | refine setF_kept _ _ _ _ _ ?_
    | (with_reducible refine kept_upd ?_; with_reducible first | assumption)

theorem usageRegs_kept (s : State) (h0 : Kept kk qq s) : Kept kk qq (usageRegs s) := by
  unfold usageRegs
  all_goals repeat' first
    | with_reducible first
      | assumption | refine setF_kept _ _ _ _ _ ?_

theorem closeInterval_kept (s : State) (stop : ℕ) (h0 : Kept kk qq s) : Kept kk qq (closeInterval s stop) := by
  unfold closeInterval
  extract_lets ps
  split
  · exact setF_kept _ _ _ _ _ h0
  · rename_i hn
    refine usageRegs_kept _ ?_
    have h1 : ∀ s1, Kept kk qq s1 → Kept kk qq (setF (setF (setF s1 Reg.USE_STAT_EXTENDED 0 0) Reg.USE_OPEN_START stop 0) Reg.USE_OPEN_PAIRS 0 0) :=
      fun s1 h => setF_kept _ _ _ _ _ (setF_kept _ _ _ _ _ (setF_kept _ _ _ _ _ h))
    have h2 : ∀ (l : List UsageRec) (a : Nat) (b : List UsagePair) (c : Bool) (d : Nat), s.tele.store.length + l.length ≤ 8192 →
        Kept kk qq { s with tele := { s.tele with store := s.tele.store ++ l, seq := a, open_ := b, openSynced := c, nextLen := d } } :=
      fun l a b c d hl => ⟨⟨h0.1.1, h0.1.2.1, by
        show (s.tele.store ++ l).length ≤ 8192
        rw [List.length_append]
        exact hl, h0.1.2.2.2⟩, h0.2⟩
    refine kept_ite _ _ _ (h1 _ ?_) (addF_kept _ _ _ _ _ (h1 _ ?_)) <;>
      exact h2 _ _ _ _ _ (by rw [List.length_mapIdx]; exact Nat.not_lt.mp hn)

theorem execUsageIntervalClose_kept (s : State) (h0 : Kept kk qq s) : KeptO kk qq (execUsageIntervalClose s) := by
  unfold execUsageIntervalClose
  all_goals repeat' first
    | with_reducible first
      | assumption | refine kept_ite _ _ _ ?_ ?_ | refine kept_next ?_ | refine closeInterval_kept _ _ ?_

theorem execIntervalS_kept (v : ℕ) (s : State) (h0 : Kept kk qq s) : KeptO kk qq (execIntervalS v s) := by
  unfold execIntervalS
  all_goals repeat' first
    | with_reducible first
      | assumption | refine kept_ite _ _ _ ?_ ?_ | refine kept_next ?_ | refine regWrite_kept _ _ _ ?_ ?_
      | refine setF_kept _ _ _ _ _ ?_
    | (intro x; intro (hx : Kept kk qq x))

theorem setRdData_kept (s : State) (bs : List Byte) (h0 : Kept kk qq s) : Kept kk qq (setRdData s bs) := by
  unfold setRdData
  all_goals repeat' first
    | with_reducible first
      | assumption | refine kept_ite _ _ _ ?_ ?_ | refine kept_foldl _ _ ?_ ?_ | refine setF_kept _ _ _ _ _ ?_
    | intro x
    | split

theorem execRdSeq_kept (v : ℕ) (s : State) (h0 : Kept kk qq s) : KeptO kk qq (execRdSeq v s) := by
  unfold execRdSeq
  all_goals repeat' first
    | with_reducible first
      | assumption | refine kept_next ?_ | refine regWrite_kept _ _ _ ?_ ?_ | refine setF_kept _ _ _ _ _ ?_
      | refine setRdData_kept _ _ ?_
    | (intro x; intro (hx : Kept kk qq x))
    | lift_lets
    | (intro x; refine kept_cut (kk := kk) (qq := qq) x ?_ ?_ <;> [subst x; (intro hx; clear_value x)])
    | split

theorem execAckSeq_kept (v : ℕ) (s : State) (h0 : Kept kk qq s) : KeptO kk qq (execAckSeq v s) := by
  unfold execAckSeq
  refine kept_next (regWrite_kept _ _ _ h0 fun t ht => usageRegs_kept _ ⟨⟨ht.1.1, ht.1.2.1, ?_, ht.1.2.2.2⟩, ht.2⟩)
  exact Nat.le_trans (List.length_filter_le _ _) ht.1.2.2.1

theorem resetNonLamp_kept (s : State) (h0 : Kept kk qq s) : Kept kk qq (resetNonLamp s) := by
  exact ⟨⟨⟨nil_wf, nil_wf, h0.1.1.2.2⟩, h0.1.2.1, h0.1.2.2.1, Nat.zero_le _⟩, h0.2⟩

theorem causeRecord_kept (s : State) (cause : ℕ) (block : List ℕ) (h0 : Kept kk qq s) : Kept kk qq (causeRecord s cause block) := by
  unfold causeRecord
  all_goals repeat' first
    | with_reducible first
      | assumption | refine logFault_kept _ _ ?_

theorem moduleReset_kept (s : State) (cause : ℕ) (h0 : Kept kk qq s) : Kept kk qq (moduleReset s cause) := by
  unfold moduleReset
  all_goals repeat' first
    | with_reducible first
      | assumption | refine kept_ite _ _ _ ?_ ?_ | refine resetNonLamp_kept _ ?_
      | refine setF_kept _ _ _ _ _ ?_ | refine causeRecord_kept _ _ _ ?_ | refine addF_kept _ _ _ _ _ ?_
    | (with_reducible refine kept_upd ?_; with_reducible first | refine kept_ite _ _ _ ?_ ?_ | refine resetNonLamp_kept _ ?_ | refine causeRecord_kept _ _ _ ?_)

theorem resetNow_kept (s : State) (cause : ℕ) (h0 : Kept kk qq s) : Kept kk qq (resetNow s cause) := by
  unfold resetNow
  all_goals repeat' first
    | with_reducible first
      | assumption | refine kept_ite _ _ _ ?_ ?_ | refine moduleHandover_kept _ _ _ ?_
      | refine surpriseDown_kept _ ?_ | refine moduleReset_kept _ _ ?_

theorem powerReset_kept (s : State) (h0 : Kept kk qq s) : Kept kk qq (powerReset s) := by
  exact ⟨⟨⟨nil_wf, nil_wf, h0.1.1.2.2⟩, h0.1.2.1, h0.1.2.2.1, Nat.zero_le _⟩, h0.2⟩

theorem shutdownSeq_kept (s : State) (cause : ℕ) (h0 : Kept kk qq s) : Kept kk qq (shutdownSeq s cause) := by
  unfold shutdownSeq
  all_goals repeat' first
    | with_reducible first
      | assumption | refine kept_ite _ _ _ ?_ ?_ | refine closeInterval_kept _ _ ?_
      | refine surpriseDown_kept _ ?_ | refine resetNonLamp_kept _ ?_ | refine flagF_kept _ _ _ _ _ ?_
      | refine setF_kept _ _ _ _ _ ?_ | refine addF_kept _ _ _ _ _ ?_
    | (with_reducible refine kept_upd ?_; with_reducible first | refine kept_ite _ _ _ ?_ ?_ | refine surpriseDown_kept _ ?_ | refine flagF_kept _ _ _ _ _ ?_ | refine addF_kept _ _ _ _ _ ?_)

theorem fatalShutdown_kept (s : State) (it : FaultItem) (handover : ℕ) (cause : ℕ) (h0 : Kept kk qq s) : Kept kk qq (fatalShutdown s it handover cause) := by
  unfold fatalShutdown
  all_goals repeat' first
    | with_reducible first
      | assumption | refine shutdownSeq_kept _ _ ?_ | refine moduleHandover_kept _ _ _ ?_
      | refine logFault_kept _ _ ?_

theorem execPwrInputLoss_kept (mv : ℕ) (s : State) (h0 : Kept kk qq s) : KeptO kk qq (execPwrInputLoss mv s) := by
  unfold execPwrInputLoss
  all_goals repeat' first
    | with_reducible first
      | assumption | refine kept_next ?_ | refine setF_kept _ _ _ _ _ ?_
      | refine fatalShutdown_kept _ _ _ _ ?_

theorem execPwrInputOver_kept (mv : ℕ) (s : State) (h0 : Kept kk qq s) : KeptO kk qq (execPwrInputOver mv s) := by
  unfold execPwrInputOver
  all_goals repeat' first
    | with_reducible first
      | assumption | refine kept_ite _ _ _ ?_ ?_ | refine kept_next ?_ | refine kept_foldl _ _ ?_ ?_
      | refine setF_kept _ _ _ _ _ ?_ | refine fatalShutdown_kept _ _ _ _ ?_
    | split

theorem execInputBandChange_kept (mv : ℕ) (s : State) (h0 : Kept kk qq s) : KeptO kk qq (execInputBandChange mv s) := by
  unfold execInputBandChange
  all_goals repeat' first
    | with_reducible first
      | assumption | refine kept_ite _ _ _ ?_ ?_ | refine kept_next ?_ | refine flagF_kept _ _ _ _ _ ?_
      | refine setF_kept _ _ _ _ _ ?_

theorem execPwrInputReversed_kept (s : State) (h0 : Kept kk qq s) : KeptO kk qq (execPwrInputReversed s) := by
  unfold execPwrInputReversed
  all_goals repeat' first
    | with_reducible first
      | assumption | refine kept_next ?_ | refine addF_kept _ _ _ _ _ ?_
    | (with_reducible refine kept_upd ?_; with_reducible first | assumption)

theorem railFault_kept (s : State) (n : ℕ) (cause : ℕ) (current : ℕ) (h0 : Kept kk qq s) : Kept kk qq (railFault s n cause current) := by
  unfold railFault
  all_goals repeat' first
    | with_reducible first
      | assumption | refine kept_ite _ _ _ ?_ ?_ | refine addF_kept _ _ _ _ _ ?_
      | refine railDown_kept _ _ _ ?_ | refine logFault_kept _ _ ?_ | refine setChaseBeacon_kept _ _ _ ?_
      | refine modChase_kept _ _ _ ?_ | refine extinguish_kept _ _ ?_ | refine setWidth_kept _ _ _ ?_
      | refine freeExt_kept _ _ ?_ | refine startRecovery_kept _ _ _ _ _ _ _ ?_
    | (with_reducible refine kept_upd ?_; with_reducible first | refine kept_ite _ _ _ ?_ ?_ | refine railDown_kept _ _ _ ?_ | refine setChaseBeacon_kept _ _ _ ?_ | refine extinguish_kept _ _ ?_ | refine freeExt_kept _ _ ?_)

theorem execPwrRailFault_kept (n : ChaseId) (cause : ℕ) (current : ℕ) (s : State) (h0 : Kept kk qq s) : KeptO kk qq (execPwrRailFault n cause current s) := by
  unfold execPwrRailFault
  all_goals repeat' first
    | with_reducible first
      | assumption | refine kept_ite _ _ _ ?_ ?_ | refine kept_next ?_ | refine railFault_kept _ _ _ _ ?_

theorem execPwrBusDegraded_kept (conv : Fin 40) (s : State) (h0 : Kept kk qq s) : KeptO kk qq (execPwrBusDegraded conv s) := by
  unfold execPwrBusDegraded
  all_goals repeat' first
    | with_reducible first
      | assumption | refine kept_ite _ _ _ ?_ ?_ | refine kept_next ?_ | refine kept_foldl _ _ ?_ ?_
      | refine setF_kept _ _ _ _ _ ?_ | refine logFault_kept _ _ ?_ | refine nextFree_kept _ ?_
      | refine railFault_kept _ _ _ _ ?_ | refine demand_kept _ _ _ ?_
    | intro x

theorem execClockChange_kept (n : ChaseId) (up : Bool) (s : State) (h0 : Kept kk qq s) : KeptO kk qq (execClockChange n up s) := by
  unfold execClockChange
  all_goals repeat' first
    | with_reducible first
      | assumption | refine kept_ite _ _ _ ?_ ?_ | refine kept_next ?_ | refine setClock_kept _ _ _ ?_

theorem resense_kept (s : State) (n : ℕ) (h0 : Kept kk qq s) : Kept kk qq (resense s n) := by
  unfold resense
  all_goals repeat' first
    | with_reducible first
      | assumption | refine kept_ite _ _ _ ?_ ?_ | refine demand_kept _ _ _ ?_ | refine setF_kept _ _ _ _ _ ?_

theorem execPwrSenseOpen_kept (n : ChaseId) (point : Fin 4) (s : State) (h0 : Kept kk qq s) : KeptO kk qq (execPwrSenseOpen n point s) := by
  unfold execPwrSenseOpen
  all_goals repeat' first
    | with_reducible first
      | assumption | refine kept_ite _ _ _ ?_ ?_ | refine kept_next ?_ | refine kept_foldl _ _ ?_ ?_
      | refine resense_kept _ _ ?_ | refine setF_kept _ _ _ _ _ ?_ | refine logFault_kept _ _ ?_
    | split

theorem execHint_kept (n : ChaseId) (i : ℕ) (s : State) (h0 : Kept kk qq s) : KeptO kk qq (execHint n i s) := by
  unfold execHint
  all_goals repeat' first
    | with_reducible first
      | assumption | refine kept_next ?_ | refine modChase_kept _ _ _ ?_ | refine addF_kept _ _ _ _ _ ?_
    | split

theorem execPwrOcWarn_kept (n : ChaseId) (current : ℕ) (s : State) (h0 : Kept kk qq s) : KeptO kk qq (execPwrOcWarn n current s) := by
  unfold execPwrOcWarn
  all_goals repeat' first
    | with_reducible first
      | assumption | refine kept_ite _ _ _ ?_ ?_ | refine kept_next ?_ | refine demand_kept _ _ _ ?_
      | refine addF_kept _ _ _ _ _ ?_ | refine logFault_kept _ _ ?_

theorem execOcLimitReturn_kept (n : ChaseId) (s : State) (h0 : Kept kk qq s) : KeptO kk qq (execOcLimitReturn n s) := by
  unfold execOcLimitReturn
  all_goals repeat' first
    | with_reducible first
      | assumption | refine kept_ite _ _ _ ?_ ?_ | refine kept_next ?_ | refine demand_kept _ _ _ ?_

theorem deferOn_kept (s : State) (n : ℕ) (h0 : Kept kk qq s) : Kept kk qq (deferOn s n) := by
  unfold deferOn
  all_goals repeat' first
    | with_reducible first
      | assumption | refine modChase_kept _ _ _ ?_ | refine setF_kept _ _ _ _ _ ?_

theorem tryOn_kept (s : State) (n : ℕ) (h0 : Kept kk qq s) : Kept kk qq (tryOn s n) := by
  unfold tryOn
  all_goals repeat' first
    | with_reducible first
      | assumption | refine kept_ite _ _ _ ?_ ?_ | refine modChase_kept _ _ _ ?_
      | refine setF_kept _ _ _ _ _ ?_ | refine setRail_kept _ _ _ ?_ | refine deferOn_kept _ _ ?_

theorem lowerNeighbours_kept (s : State) (n : ℕ) (h0 : Kept kk qq s) : Kept kk qq (lowerNeighbours s n) := by
  unfold lowerNeighbours
  all_goals repeat' first
    | with_reducible first
      | assumption | refine kept_foldl _ _ ?_ ?_ | refine demand_kept _ _ _ ?_
    | intro x

theorem execSwitchOn_kept (n : ChaseId) (s : State) (h0 : Kept kk qq s) : KeptO kk qq (execSwitchOn n s) := by
  unfold execSwitchOn
  all_goals repeat' first
    | with_reducible first
      | assumption | refine kept_ite _ _ _ ?_ ?_ | refine kept_next ?_ | refine tryOn_kept _ _ ?_

theorem execSwitchOnRecheck_kept (n : ChaseId) (s : State) (h0 : Kept kk qq s) : KeptO kk qq (execSwitchOnRecheck n s) := by
  unfold execSwitchOnRecheck
  all_goals repeat' first
    | with_reducible first
      | assumption | refine kept_ite _ _ _ ?_ ?_ | refine kept_next ?_ | refine kept_foldl _ _ ?_ ?_
      | refine tryOn_kept _ _ ?_ | refine lowerNeighbours_kept _ _ ?_
    | split

theorem execPwrSwitchDeferred_kept (n : ChaseId) (s : State) (h0 : Kept kk qq s) : KeptO kk qq (execPwrSwitchDeferred n s) := by
  unfold execPwrSwitchDeferred
  all_goals repeat' first
    | with_reducible first
      | assumption | refine kept_ite _ _ _ ?_ ?_ | refine kept_next ?_ | refine lowerNeighbours_kept _ _ ?_
      | refine logFault_kept _ _ ?_

theorem clearPair_kept (s : State) (n : ℕ) (h0 : Kept kk qq s) : Kept kk qq (clearPair s n) := by
  unfold clearPair
  all_goals repeat' first
    | with_reducible first
      | assumption
    | (with_reducible refine kept_upd ?_; with_reducible first | assumption)

theorem finishSelfTest_kept (s : State) (n : ℕ) (results : List CoreResult) (h0 : Kept kk qq s) : Kept kk qq (finishSelfTest s n results) := by
  unfold finishSelfTest
  all_goals repeat' first
    | with_reducible first
      | assumption | refine kept_ite _ _ _ ?_ ?_ | refine kept_foldl _ _ ?_ ?_
      | refine updateLimit_kept _ _ ?_ | refine clearPair_kept _ _ ?_ | refine failSelfTest_kept _ _ ?_
      | refine resense_kept _ _ ?_ | refine setF_kept _ _ _ _ _ ?_ | refine extinguish_kept _ _ ?_
      | refine idleRail_kept _ _ ?_ | refine setChaseBeacon_kept _ _ _ ?_
    | intro x

theorem execRailRetry_kept (n : ChaseId) (results : List CoreResult) (s : State) (h0 : Kept kk qq s) : KeptO kk qq (execRailRetry n results s) := by
  unfold execRailRetry
  all_goals repeat' first
    | with_reducible first
      | assumption | refine kept_ite _ _ _ ?_ ?_ | refine kept_next ?_ | refine tryOn_kept _ _ ?_
      | refine finishSelfTest_kept _ _ _ ?_

theorem execUnpark_kept (n : ChaseId) (results : List CoreResult) (s : State) (h0 : Kept kk qq s) : KeptO kk qq (execUnpark n results s) := by
  unfold execUnpark
  all_goals repeat' first
    | with_reducible first
      | assumption | refine kept_ite _ _ _ ?_ ?_ | refine kept_next ?_ | refine tryOn_kept _ _ ?_
      | refine logFault_kept _ _ ?_ | refine finishSelfTest_kept _ _ _ ?_ | refine setF_kept _ _ _ _ _ ?_

theorem finishKindling_kept (s : State) (h0 : Kept kk qq s) : Kept kk qq (finishKindling s) := by
  unfold finishKindling
  all_goals repeat' first
    | with_reducible first
      | assumption | refine kept_ite _ _ _ ?_ ?_ | refine setF_kept _ _ _ _ _ ?_
      | refine retryCapacity_kept _ ?_
    | (with_reducible refine kept_upd ?_; with_reducible first | refine kept_ite _ _ _ ?_ ?_ | refine setF_kept _ _ _ _ _ ?_)

theorem transitLost_kept (s : State) (n : ℕ) (cause : ℕ) (h0 : Kept kk qq s) : Kept kk qq (transitLost s n cause) := by
  unfold transitLost
  all_goals repeat' first
    | with_reducible first
      | assumption | refine kept_ite _ _ _ ?_ ?_ | refine modChase_kept _ _ _ ?_
      | refine addF_kept _ _ _ _ _ ?_ | refine setF_kept _ _ _ _ _ ?_ | refine logFault_kept _ _ ?_
      | refine setChaseBeacon_kept _ _ _ ?_ | refine finishKindling_kept _ ?_
      | refine startRecovery_kept _ _ _ _ _ _ _ ?_
    | (with_reducible refine kept_upd ?_; with_reducible first | refine kept_ite _ _ _ ?_ ?_ | refine modChase_kept _ _ _ ?_ | refine setF_kept _ _ _ _ _ ?_ | refine setChaseBeacon_kept _ _ _ ?_ | refine finishKindling_kept _ ?_)

theorem execFabTransitLost_kept (n : ChaseId) (cause : ℕ) (s : State) (h0 : Kept kk qq s) : KeptO kk qq (execFabTransitLost n cause s) := by
  unfold execFabTransitLost
  all_goals repeat' first
    | with_reducible first
      | assumption | refine kept_ite _ _ _ ?_ ?_ | refine kept_next ?_ | refine kept_foldl _ _ ?_ ?_
      | refine transitLost_kept _ _ _ ?_
    | split

theorem refuseWrites_kept (s : State) (n : ℕ) (p : WBuf → Bool) (h0 : Kept kk qq s) : Kept kk qq (refuseWrites s n p) := by
  unfold refuseWrites
  all_goals repeat' first
    | with_reducible first
      | assumption | refine kept_foldl _ _ ?_ ?_ | refine modCore_kept _ _ _ ?_
      | refine refuseRemote_kept _ _ _ _ _ _ ?_
    | (intro x; intro (hx : Kept kk qq x))
    | intro x

theorem showGated_kept (s : State) (n : ℕ) (h0 : Kept kk qq s) : Kept kk qq (showGated s n) := by
  unfold showGated
  all_goals repeat' first
    | with_reducible first
      | assumption | refine setF_kept _ _ _ _ _ ?_

theorem execBankGate_kept (n : ChaseId) (b : Fin 36) (s : State) (h0 : Kept kk qq s) : KeptO kk qq (execBankGate n b s) := by
  unfold execBankGate
  all_goals repeat' first
    | with_reducible first
      | assumption | refine kept_ite _ _ _ ?_ ?_ | refine kept_next ?_ | refine modChase_kept _ _ _ ?_
      | refine refuseWrites_kept _ _ _ ?_

theorem execBankGated_kept (n : ChaseId) (b : Fin 36) (s : State) (h0 : Kept kk qq s) : KeptO kk qq (execBankGated n b s) := by
  unfold execBankGated
  all_goals repeat' first
    | with_reducible first
      | assumption | refine kept_next ?_ | refine refuseWrites_kept _ _ _ ?_ | refine modChase_kept _ _ _ ?_
      | refine loseStore_kept _ _ _ ?_ | refine showGated_kept _ _ ?_
    | split

theorem execBankOpen_kept (n : ChaseId) (b : Fin 36) (s : State) (h0 : Kept kk qq s) : KeptO kk qq (execBankOpen n b s) := by
  unfold execBankOpen
  all_goals repeat' first
    | with_reducible first
      | assumption | refine kept_next ?_ | refine modChase_kept _ _ _ ?_
    | split

theorem latchF_kept (s : State) (f : Fld) (v : ℕ) (inst : ℕ) (h0 : Kept kk qq s) : Kept kk qq (latchF s f v inst) := by
  unfold latchF
  all_goals repeat' first
    | with_reducible first
      | assumption | refine setF_kept _ _ _ _ _ ?_

theorem execCurrentLatch_kept (r : CurrentReading) (s : State) (h0 : Kept kk qq s) : KeptO kk qq (execCurrentLatch r s) := by
  unfold execCurrentLatch
  all_goals repeat' first
    | with_reducible first
      | assumption | refine kept_next ?_ | refine kept_foldl _ _ ?_ ?_ | refine setF_kept _ _ _ _ _ ?_
      | refine latchF_kept _ _ _ _ ?_ | refine nextFree_kept _ ?_
    | (intro x y; intro (hx : Kept kk qq x))

theorem drainWrites_kept (s : State) (n : ℕ) (h0 : Kept kk qq s) : Kept kk qq (drainWrites s n) := by
  unfold drainWrites
  all_goals repeat' first
    | with_reducible first
      | assumption | refine kept_ite _ _ _ ?_ ?_ | refine kept_foldl _ _ ?_ ?_ | refine modCore_kept _ _ _ ?_
      | refine sendTo_kept _ _ _ _ _ _ _ _ ?_ | refine narrowWrite_kept _ _ _ _ _ ?_
    | (intro x; intro (hx : Kept kk qq x))
    | intro x
    | split

theorem moveStacks_kept (s : State) (a : ℕ) (b : ℕ) (h0 : Kept kk qq s) : Kept kk qq (moveStacks s a b) := by
  unfold moveStacks
  all_goals repeat' first
    | with_reducible first
      | assumption | refine kept_ite _ _ _ ?_ ?_ | refine kept_foldl _ _ ?_ ?_ | refine setF_kept _ _ _ _ _ ?_
    | intro x

theorem requestRetention_kept (s : State) (h0 : Kept kk qq s) : Kept kk qq (requestRetention s) := by
  unfold requestRetention
  all_goals repeat' first
    | with_reducible first
      | assumption | refine kept_ite _ _ _ ?_ ?_ | refine kept_foldl _ _ ?_ ?_ | refine setF_kept _ _ _ _ _ ?_
      | refine drainWrites_kept _ _ ?_ | refine stopStreaming_kept _ _ ?_ | refine railRetain_kept _ _ ?_
      | refine moveStacks_kept _ _ _ ?_
    | intro x

theorem execRetentionRequest_kept (s : State) (h0 : Kept kk qq s) : KeptO kk qq (execRetentionRequest s) := by
  unfold execRetentionRequest
  all_goals repeat' first
    | with_reducible first
      | assumption | refine kept_ite _ _ _ ?_ ?_ | refine kept_next ?_ | refine regWrite_kept _ _ _ ?_ ?_
      | refine requestRetention_kept _ ?_
    | (intro x; intro (hx : Kept kk qq x))

theorem beginExit_kept (s : State) (h0 : Kept kk qq s) : Kept kk qq (beginExit s) := by
  unfold beginExit
  all_goals repeat' first
    | with_reducible first
      | assumption | refine kept_ite _ _ _ ?_ ?_ | refine setF_kept _ _ _ _ _ ?_
      | refine moveStacks_kept _ _ _ ?_
    | (with_reducible refine kept_upd ?_; with_reducible first | assumption)

theorem execRetentionExit_kept (byHost : Bool) (s : State) (h0 : Kept kk qq s) : KeptO kk qq (execRetentionExit byHost s) := by
  unfold execRetentionExit
  all_goals repeat' first
    | with_reducible first
      | assumption | refine kept_ite _ _ _ ?_ ?_ | refine kept_next ?_ | refine regWrite_kept _ _ _ ?_ ?_
      | refine beginExit_kept _ ?_ | refine setF_kept _ _ _ _ _ ?_
    | (intro x; intro (hx : Kept kk qq x))

theorem checkFar_kept (s : State) (n : ℕ) (h0 : Kept kk qq s) : Kept kk qq (checkFar s n) := by
  unfold checkFar
  all_goals repeat' first
    | with_reducible first
      | assumption | refine kept_foldl _ _ ?_ ?_ | refine scrubWord_kept _ _ _ ?_
    | intro x

theorem checkFars_kept (s : State) (h0 : Kept kk qq s) : Kept kk qq (checkFars s) := by
  unfold checkFars
  exact kept_foldl _ _ h0 fun x _ h => checkFar_kept _ _ h

theorem wakeChase_kept (s : State) (n : ℕ) (h0 : Kept kk qq s) : Kept kk qq (wakeChase s n) := by
  unfold wakeChase
  all_goals repeat' first
    | with_reducible first
      | assumption | refine kept_ite _ _ _ ?_ ?_ | refine modChase_kept _ _ _ ?_
      | refine restartChase_kept _ _ ?_ | refine railDown_kept _ _ _ ?_

theorem reloadFormes_kept (s : State) (h0 : Kept kk qq s) : Kept kk qq (reloadFormes s) := by
  unfold reloadFormes
  all_goals repeat' first
    | with_reducible first
      | assumption | refine kept_ite _ _ _ ?_ ?_ | refine kept_foldl _ _ ?_ ?_ | refine fillPart_kept _ _ _ ?_
      | refine refillLayer_kept _ _ _ ?_
    | (intro x y; intro (hx : Kept kk qq x))
    | split

theorem execRetentionWave_kept (s : State) (h0 : Kept kk qq s) : KeptO kk qq (execRetentionWave s) := by
  unfold execRetentionWave
  all_goals repeat' first
    | with_reducible first
      | assumption | refine kept_ite _ _ _ ?_ ?_ | refine kept_next ?_ | refine kept_foldl _ _ ?_ ?_
      | refine railUp_kept _ _ ?_ | refine checkFars_kept _ ?_ | refine reloadFormes_kept _ ?_ | refine setF_kept _ _ _ _ _ ?_
      | refine wakeChase_kept _ _ ?_
    | intro x
    | (with_reducible refine kept_upd ?_; with_reducible first | refine kept_ite _ _ _ ?_ ?_ | refine kept_foldl _ _ ?_ ?_ | refine reloadFormes_kept _ ?_ | refine wakeChase_kept _ _ ?_)

theorem setPair_kept (s : State) (i : ℕ) (p : Pair) (h0 : Kept kk qq s) : Kept kk qq (setPair s i p) := by
  unfold setPair
  all_goals repeat' first
    | with_reducible first
      | assumption
    | (with_reducible refine kept_upd ?_; with_reducible first | assumption)

theorem pairRecord_kept (s : State) (i : ℕ) (old : Pair) (new : Pair) (h0 : Kept kk qq s) : Kept kk qq (pairRecord s i old new) := by
  unfold pairRecord
  all_goals repeat' first
    | with_reducible first
      | assumption | refine kept_ite _ _ _ ?_ ?_ | refine logFault_kept _ _ ?_ | refine addF_kept _ _ _ _ _ ?_
    | split

theorem samplePair_kept (s : State) (r : PairReading) (h0 : Kept kk qq s) : Kept kk qq (samplePair s r) := by
  unfold samplePair
  all_goals repeat' first
    | with_reducible first
      | assumption | refine pairRecord_kept _ _ _ _ ?_ | refine setPair_kept _ _ _ ?_

theorem estimatePair_kept (s : State) (i : ℕ) (h0 : Kept kk qq s) : Kept kk qq (estimatePair s i) := by
  unfold estimatePair
  all_goals repeat' first
    | with_reducible first
      | assumption | refine setPair_kept _ _ _ ?_ | refine pairRecord_kept _ _ _ _ ?_
    | lift_lets
    | intro x
    | split

theorem thermalTrip_kept (s : State) (i : ℕ) (v : ℤ) (h0 : Kept kk qq s) : Kept kk qq (thermalTrip s i v) := by
  unfold thermalTrip
  all_goals repeat' first
    | with_reducible first
      | assumption | refine addF_kept _ _ _ _ _ ?_ | refine fatalShutdown_kept _ _ _ _ ?_
    | (with_reducible refine kept_upd ?_; with_reducible first | refine addF_kept _ _ _ _ _ ?_)

theorem tripPair_kept (s : State) (i : ℕ) (h0 : Kept kk qq s) : Kept kk qq (tripPair s i) := by
  unfold tripPair
  all_goals repeat' first
    | with_reducible first
      | assumption | refine kept_ite _ _ _ ?_ ?_ | refine setPair_kept _ _ _ ?_
      | refine thermalTrip_kept _ _ _ ?_

theorem suddenStop_kept (s : State) (cause : ℕ) (value : ℕ) (h0 : Kept kk qq s) : Kept kk qq (suddenStop s cause value) := by
  unfold suddenStop
  all_goals repeat' first
    | with_reducible first
      | assumption | refine kept_ite _ _ _ ?_ ?_ | refine kept_foldl _ _ ?_ ?_ | refine addF_kept _ _ _ _ _ ?_
      | refine setF_kept _ _ _ _ _ ?_ | refine fatalModule_kept _ _ _ ?_
    | (with_reducible refine kept_upd ?_; with_reducible first | assumption)
    | split

theorem outletStep_kept (s : State) (h0 : Kept kk qq s) : Kept kk qq (outletStep s) := by
  unfold outletStep
  all_goals repeat' first
    | with_reducible first
      | assumption | refine kept_ite _ _ _ ?_ ?_ | refine setF_kept _ _ _ _ _ ?_
      | refine suddenStop_kept _ _ _ ?_
    | (with_reducible refine kept_upd ?_; with_reducible first | assumption)

theorem execSensorSample_kept (rs : List PairReading) (s : State) (h0 : Kept kk qq s) : KeptO kk qq (execSensorSample rs s) := by
  unfold execSensorSample
  all_goals repeat' first
    | with_reducible first
      | assumption | refine kept_ite _ _ _ ?_ ?_ | refine kept_next ?_ | refine kept_foldl _ _ ?_ ?_
      | refine samplePair_kept _ _ ?_ | refine estimatePair_kept _ _ ?_ | refine updateLimit_kept _ _ ?_
      | refine tripPair_kept _ _ ?_ | refine outletStep_kept _ ?_
    | intro x

theorem trayLost_kept (s : State) (h0 : Kept kk qq s) : Kept kk qq (trayLost s) := by
  unfold trayLost
  all_goals repeat' first
    | with_reducible first
      | assumption | refine kept_ite _ _ _ ?_ ?_ | refine setF_kept _ _ _ _ _ ?_ | refine logFault_kept _ _ ?_
    | (with_reducible refine kept_upd ?_; with_reducible first | assumption)

theorem flowStep_kept (s : State) (flow : ℕ) (h0 : Kept kk qq s) : Kept kk qq (flowStep s flow) := by
  unfold flowStep
  all_goals repeat' first
    | with_reducible first
      | assumption | refine kept_ite _ _ _ ?_ ?_ | refine flagF_kept _ _ _ _ _ ?_
      | refine setF_kept _ _ _ _ _ ?_ | refine logFault_kept _ _ ?_ | refine suddenStop_kept _ _ _ ?_
    | (with_reducible refine kept_upd ?_; with_reducible first | refine kept_ite _ _ _ ?_ ?_ | refine setF_kept _ _ _ _ _ ?_ | refine suddenStop_kept _ _ _ ?_)

theorem restartEstimator_kept (s : State) (h0 : Kept kk qq s) : Kept kk qq (restartEstimator s) := by
  unfold restartEstimator
  all_goals repeat' first
    | with_reducible first
      | assumption | refine setF_kept _ _ _ _ _ ?_
    | (with_reducible refine kept_upd ?_; with_reducible first | assumption)

theorem specStep_kept (s : State) (flow : ℕ) (h0 : Kept kk qq s) : Kept kk qq (specStep s flow) := by
  unfold specStep
  all_goals repeat' first
    | with_reducible first
      | assumption | refine kept_ite _ _ _ ?_ ?_ | refine flagF_kept _ _ _ _ _ ?_
      | refine restartEstimator_kept _ ?_ | refine setF_kept _ _ _ _ _ ?_
    | (with_reducible refine kept_upd ?_; with_reducible first | assumption)

theorem setCap_kept (s : State) (w : ℕ) (h0 : Kept kk qq s) : Kept kk qq (setCap s w) := by
  unfold setCap
  all_goals repeat' first
    | with_reducible first
      | assumption | refine setF_kept _ _ _ _ _ ?_

theorem actCross_kept (s : State) (k' : ℕ) (h0 : Kept kk qq s) : Kept kk qq (actCross s k') := by
  unfold actCross
  all_goals repeat' first
    | with_reducible first
      | assumption | refine kept_ite _ _ _ ?_ ?_ | refine kept_foldl _ _ ?_ ?_ | refine logFault_kept _ _ ?_
      | refine flagF_kept _ _ _ _ _ ?_ | refine setF_kept _ _ _ _ _ ?_ | refine setCap_kept _ _ ?_
    | (with_reducible refine kept_upd ?_; with_reducible first | assumption)
    | split

theorem trayStep_kept (s : State) (sup : ℤ) (ret : ℤ) (flow : ℕ) (h0 : Kept kk qq s) : Kept kk qq (trayStep s sup ret flow) := by
  unfold trayStep
  all_goals repeat' first
    | with_reducible assumption
    | with_reducible refine kept_ite _ _ _ ?_ ?_
    | with_reducible refine kept_next ?_
    | with_reducible refine kept_foldl _ _ ?_ ?_
    | with_reducible refine kept_foldlp _ _ ?_ ?_
    | with_reducible refine setF_kept _ _ _ _ _ ?_
    | with_reducible refine actCross_kept _ _ ?_
    | with_reducible refine specStep_kept _ _ ?_
    | with_reducible refine flowStep_kept _ _ ?_
    | with_reducible exact kept_fault _
    | (intro x; intro (hx : Kept kk qq x))
    | (intro x y z; intro (hx : Kept kk qq x))
    | (intro x y; intro (hx : Kept kk qq x))
    | (intro x y; intro (hx : Kept kk qq x.1))
    | lift_lets
    | (intro (x : Mem); subst x)
    | (intro (x : Serve); subst x)
    | (intro (x : Faults); subst x)
    | (intro (x : Tele); subst x)
    | (intro x; refine kept_cut (kk := kk) (qq := qq) x ?_ ?_ <;> [subst x; (intro hx; clear_value x)])
    | intro x
    | (with_reducible refine kept_upd ?_; first | with_reducible assumption | with_reducible refine kept_ite _ _ _ ?_ ?_ | with_reducible refine kept_next ?_ | with_reducible refine kept_foldl _ _ ?_ ?_ | with_reducible refine kept_foldlp _ _ ?_ ?_ | with_reducible refine setF_kept _ _ _ _ _ ?_ | with_reducible refine actCross_kept _ _ ?_ | with_reducible refine specStep_kept _ _ ?_ | with_reducible refine flowStep_kept _ _ ?_)
    | (with_reducible refine kept_updm ?_ ?_; (first | with_reducible assumption | with_reducible refine kept_ite _ _ _ ?_ ?_ | with_reducible refine kept_next ?_ | with_reducible refine kept_foldl _ _ ?_ ?_ | with_reducible refine kept_foldlp _ _ ?_ ?_ | with_reducible refine setF_kept _ _ _ _ _ ?_ | with_reducible refine actCross_kept _ _ ?_ | with_reducible refine specStep_kept _ _ ?_ | with_reducible refine flowStep_kept _ _ ?_); (first | with_reducible assumption | with_reducible refine memOk_mk ?_ ?_ ?_))
    | with_reducible refine memZero_wf ?_ _ _
    | with_reducible refine memMove_wf ?_ ?_ _ _ _
    | with_reducible refine filter_wf ?_ _
    | with_reducible exact nil_wf
    | with_reducible exact Kept.store ‹_›
    | with_reducible exact Kept.stack ‹_›
    | with_reducible exact Kept.host ‹_›
    | split

theorem readTray_kept (s : State) (t : TrayReading) (h0 : Kept kk qq s) : Kept kk qq (readTray s t) := by
  unfold readTray
  all_goals repeat' first
    | with_reducible first
      | assumption | refine trayStep_kept _ _ _ _ ?_ | refine trayLost_kept _ ?_
    | split

theorem execTrayRead_kept (t : TrayReading) (s : State) (h0 : Kept kk qq s) : KeptO kk qq (execTrayRead t s) := by
  unfold execTrayRead
  all_goals repeat' first
    | with_reducible first
      | assumption | refine kept_ite _ _ _ ?_ ?_ | refine kept_next ?_ | refine readTray_kept _ _ ?_

theorem execMgtTrayShort_kept (lines : ℕ) (s : State) (h0 : Kept kk qq s) : KeptO kk qq (execMgtTrayShort lines s) := by
  unfold execMgtTrayShort
  all_goals repeat' first
    | with_reducible first
      | assumption | refine kept_ite _ _ _ ?_ ?_ | refine kept_next ?_ | refine setF_kept _ _ _ _ _ ?_
      | refine trayLost_kept _ ?_ | refine logFault_kept _ _ ?_

theorem execTrayProbe_kept (shorted : Bool) (t : TrayReading) (s : State) (h0 : Kept kk qq s) : KeptO kk qq (execTrayProbe shorted t s) := by
  unfold execTrayProbe
  all_goals repeat' first
    | with_reducible first
      | assumption | refine kept_ite _ _ _ ?_ ?_ | refine kept_next ?_ | refine readTray_kept _ _ ?_
      | refine setF_kept _ _ _ _ _ ?_

theorem stopShutdown_kept (s : State) (h0 : Kept kk qq s) : Kept kk qq (stopShutdown s) := by
  unfold stopShutdown
  all_goals repeat' first
    | with_reducible first
      | assumption | refine kept_ite _ _ _ ?_ ?_ | refine nextFree_kept _ ?_ | refine shutdownSeq_kept _ _ ?_

theorem execStopTimeout_kept (s : State) (h0 : Kept kk qq s) : KeptO kk qq (execStopTimeout s) := by
  unfold execStopTimeout
  all_goals repeat' first
    | with_reducible first
      | assumption | refine kept_ite _ _ _ ?_ ?_ | refine kept_next ?_ | refine stopShutdown_kept _ ?_

theorem thetaStep_kept (s : State) (meanW : ℕ) (h0 : Kept kk qq s) : Kept kk qq (thetaStep s meanW) := by
  unfold thetaStep
  all_goals repeat' first
    | with_reducible first
      | assumption | refine kept_ite _ _ _ ?_ ?_ | refine kept_foldl _ _ ?_ ?_ | refine setF_kept _ _ _ _ _ ?_
    | (with_reducible refine kept_upd ?_; with_reducible first | assumption)
    | split

theorem dropStep_kept (s : State) (h0 : Kept kk qq s) : Kept kk qq (dropStep s) := by
  unfold dropStep
  all_goals repeat' first
    | with_reducible first
      | assumption
    | (with_reducible refine kept_upd ?_; with_reducible first | assumption)

theorem execEstimatorSample_kept (meanW : ℕ) (s : State) (h0 : Kept kk qq s) : KeptO kk qq (execEstimatorSample meanW s) := by
  unfold execEstimatorSample
  all_goals repeat' first
    | with_reducible first
      | assumption | refine kept_ite _ _ _ ?_ ?_ | refine kept_next ?_ | refine dropStep_kept _ ?_
      | refine thetaStep_kept _ _ ?_ | refine setCap_kept _ _ ?_

theorem execFModStep_kept (powerW : ℕ) (s : State) (h0 : Kept kk qq s) : KeptO kk qq (execFModStep powerW s) := by
  unfold execFModStep
  all_goals repeat' first
    | with_reducible first
      | assumption | refine kept_ite _ _ _ ?_ ?_ | refine kept_next ?_ | refine kept_foldl _ _ ?_ ?_
      | refine logFault_kept _ _ ?_ | refine updateLimit_kept _ _ ?_ | refine setF_kept _ _ _ _ _ ?_
    | intro x
    | (with_reducible refine kept_upd ?_; with_reducible first | assumption)

theorem requestPark_kept (s : State) (n : ℕ) (h0 : Kept kk qq s) : Kept kk qq (requestPark s n) := by
  unfold requestPark
  all_goals repeat' first
    | with_reducible assumption
    | with_reducible refine kept_ite _ _ _ ?_ ?_
    | with_reducible refine kept_next ?_
    | with_reducible refine kept_foldl _ _ ?_ ?_
    | with_reducible refine kept_foldlp _ _ ?_ ?_
    | with_reducible refine modChase_kept _ _ _ ?_
    | with_reducible refine startRecovery_kept _ _ _ _ _ _ _ ?_
    | with_reducible exact kept_fault _
    | (intro x; intro (hx : Kept kk qq x))
    | (intro x y z; intro (hx : Kept kk qq x))
    | (intro x y; intro (hx : Kept kk qq x))
    | (intro x y; intro (hx : Kept kk qq x.1))
    | lift_lets
    | (intro (x : Mem); subst x)
    | (intro (x : Serve); subst x)
    | (intro (x : Faults); subst x)
    | (intro (x : Tele); subst x)
    | (intro x; refine kept_cut (kk := kk) (qq := qq) x ?_ ?_ <;> [subst x; (intro hx; clear_value x)])
    | intro x
    | (with_reducible refine kept_upd ?_; first | with_reducible assumption | with_reducible refine kept_ite _ _ _ ?_ ?_ | with_reducible refine kept_next ?_ | with_reducible refine kept_foldl _ _ ?_ ?_ | with_reducible refine kept_foldlp _ _ ?_ ?_ | with_reducible refine modChase_kept _ _ _ ?_ | with_reducible refine startRecovery_kept _ _ _ _ _ _ _ ?_)
    | (with_reducible refine kept_updm ?_ ?_; (first | with_reducible assumption | with_reducible refine kept_ite _ _ _ ?_ ?_ | with_reducible refine kept_next ?_ | with_reducible refine kept_foldl _ _ ?_ ?_ | with_reducible refine kept_foldlp _ _ ?_ ?_ | with_reducible refine modChase_kept _ _ _ ?_ | with_reducible refine startRecovery_kept _ _ _ _ _ _ _ ?_); (first | with_reducible assumption | with_reducible refine memOk_mk ?_ ?_ ?_))
    | with_reducible refine memZero_wf ?_ _ _
    | with_reducible refine memMove_wf ?_ ?_ _ _ _
    | with_reducible refine filter_wf ?_ _
    | with_reducible exact nil_wf
    | with_reducible exact Kept.store ‹_›
    | with_reducible exact Kept.stack ‹_›
    | with_reducible exact Kept.host ‹_›
    | split

theorem execChaseThermalAction_kept (n : ChaseId) (s : State) (h0 : Kept kk qq s) : KeptO kk qq (execChaseThermalAction n s) := by
  unfold execChaseThermalAction
  all_goals repeat' first
    | with_reducible first
      | assumption | refine kept_ite _ _ _ ?_ ?_ | refine kept_next ?_ | refine setPair_kept _ _ _ ?_
      | refine logFault_kept _ _ ?_ | refine demand_kept _ _ _ ?_ | refine requestPark_kept _ _ ?_

theorem execThermalCycle_kept (s : State) (h0 : Kept kk qq s) : KeptO kk qq (execThermalCycle s) := by
  unfold execThermalCycle
  all_goals repeat' first
    | with_reducible first
      | assumption | refine kept_ite _ _ _ ?_ ?_ | refine kept_next ?_ | refine setF_kept _ _ _ _ _ ?_
      | refine addF_kept _ _ _ _ _ ?_ | refine logFault_kept _ _ ?_
    | (with_reducible refine kept_upd ?_; with_reducible first | assumption)
    | split

theorem execTarget_kept (v : ℕ) (s : State) (h0 : Kept kk qq s) : KeptO kk qq (execTarget v s) := by
  unfold execTarget
  all_goals repeat' first
    | with_reducible first
      | assumption | refine kept_next ?_ | refine regWrite_kept _ _ _ ?_ ?_ | refine setF_kept _ _ _ _ _ ?_
    | (intro x; intro (hx : Kept kk qq x))

theorem setKpr_kept (s : State) (g : ℕ) (st : ℕ) (h0 : Kept kk qq s) : Kept kk qq (setKpr s g st) := by
  unfold setKpr
  all_goals repeat' first
    | with_reducible first
      | assumption | refine kept_ite _ _ _ ?_ ?_ | refine kept_foldl _ _ ?_ ?_ | refine setF_kept _ _ _ _ _ ?_
    | split

theorem holdAll_kept (s : State) (h0 : Kept kk qq s) : Kept kk qq (holdAll s) := by
  unfold holdAll
  all_goals repeat' first
    | with_reducible first
      | assumption
    | (with_reducible refine kept_upd ?_; with_reducible first | assumption)

theorem releaseAll_kept (s : State) (h0 : Kept kk qq s) : Kept kk qq (releaseAll s) := by
  unfold releaseAll
  all_goals repeat' first
    | with_reducible first
      | assumption | refine kept_ite _ _ _ ?_ ?_ | refine releaseFormes_kept _ _ ?_

theorem rebuildGroup_kept (s : State) (g : ℕ) (h0 : Kept kk qq s) : Kept kk qq (rebuildGroup s g) := by
  unfold rebuildGroup
  all_goals repeat' first
    | with_reducible first
      | assumption | refine kept_ite _ _ _ ?_ ?_ | refine setKpr_kept _ _ _ ?_ | refine holdAll_kept _ ?_
    | (with_reducible refine kept_upd ?_; with_reducible first | refine kept_ite _ _ _ ?_ ?_ | refine setKpr_kept _ _ _ ?_)

theorem splitGroup_kept (s : State) (g : ℕ) (h0 : Kept kk qq s) : Kept kk qq (splitGroup s g) := by
  unfold splitGroup
  all_goals repeat' first
    | with_reducible first
      | assumption | refine kept_ite _ _ _ ?_ ?_ | refine rebuildGroup_kept _ _ ?_
      | refine fatalModule_kept _ _ _ ?_
    | (with_reducible refine kept_upd ?_; with_reducible first | assumption)

theorem execKprVoteSplit_kept (g : GroupId) (s : State) (h0 : Kept kk qq s) : KeptO kk qq (execKprVoteSplit g s) := by
  unfold execKprVoteSplit
  all_goals repeat' first
    | with_reducible first
      | assumption | refine kept_ite _ _ _ ?_ ?_ | refine kept_next ?_ | refine splitGroup_kept _ _ ?_
      | refine logFault_kept _ _ ?_

theorem execKprVoteMinority_kept (g : GroupId) (core : Fin 3) (s : State) (h0 : Kept kk qq s) : KeptO kk qq (execKprVoteMinority g core s) := by
  unfold execKprVoteMinority
  all_goals repeat' first
    | with_reducible first
      | assumption | refine kept_ite _ _ _ ?_ ?_ | refine kept_next ?_ | refine splitGroup_kept _ _ ?_
      | refine logFault_kept _ _ ?_ | refine addF_kept _ _ _ _ _ ?_ | refine setKpr_kept _ _ _ ?_
      | refine setF_kept _ _ _ _ _ ?_
    | (with_reducible refine kept_upd ?_; with_reducible first | refine kept_ite _ _ _ ?_ ?_ | refine splitGroup_kept _ _ ?_ | refine logFault_kept _ _ ?_ | refine setKpr_kept _ _ _ ?_)

theorem resetGroup_kept (s : State) (g : ℕ) (source : ℕ) (h0 : Kept kk qq s) : Kept kk qq (resetGroup s g source) := by
  unfold resetGroup
  all_goals repeat' first
    | with_reducible first
      | assumption | refine splitGroup_kept _ _ ?_ | refine causeRecord_kept _ _ _ ?_

theorem execRstWatchdog_kept (g : GroupId) (s : State) (h0 : Kept kk qq s) : KeptO kk qq (execRstWatchdog g s) := by
  unfold execRstWatchdog
  all_goals repeat' first
    | with_reducible first
      | assumption | refine kept_ite _ _ _ ?_ ?_ | refine kept_next ?_ | refine kept_foldl _ _ ?_ ?_
      | refine resetGroup_kept _ _ _ ?_ | refine logFault_kept _ _ ?_ | refine addF_kept _ _ _ _ _ ?_
    | split

theorem execRstLockup_kept (g : GroupId) (s : State) (h0 : Kept kk qq s) : KeptO kk qq (execRstLockup g s) := by
  unfold execRstLockup
  all_goals repeat' first
    | with_reducible first
      | assumption | refine kept_ite _ _ _ ?_ ?_ | refine kept_next ?_ | refine resetGroup_kept _ _ _ ?_
      | refine logFault_kept _ _ ?_

theorem rewriteLast_kept (s : State) (h0 : Kept kk qq s) : Kept kk qq (rewriteLast s) := by
  unfold rewriteLast
  all_goals repeat' first
    | with_reducible first
      | assumption | refine kept_ite _ _ _ ?_ ?_ | refine kept_foldl _ _ ?_ ?_
      | refine hostWrite_kept _ _ _ ?_
    | intro x

theorem flushGroupHeld_kept (s : State) (h0 : Kept kk qq s) : Kept kk qq (flushGroupHeld s) := by
  unfold flushGroupHeld
  all_goals repeat' first
    | with_reducible first
      | assumption | refine dropOld_kept _ ?_ | refine kept_ite _ _ _ ?_ ?_ | refine handRecords_kept _ _ ?_
    | (with_reducible refine kept_upd ?_; with_reducible first | assumption | refine dropOld_kept _ ?_)

theorem execKeeperRebuilt_kept (g : GroupId) (s : State) (h0 : Kept kk qq s) : KeptO kk qq (execKeeperRebuilt g s) := by
  unfold execKeeperRebuilt
  all_goals repeat' first
    | with_reducible first
      | assumption | refine kept_ite _ _ _ ?_ ?_ | refine kept_next ?_ | refine setKpr_kept _ _ _ ?_
      | refine flushGroupHeld_kept _ ?_ | refine rewriteLast_kept _ ?_ | refine kmbServe_kept _ _ ?_
      | refine retryHeld_kept _ ?_ | refine releaseAll_kept _ ?_

theorem execKeeperBooted_kept (g : GroupId) (s : State) (h0 : Kept kk qq s) : KeptO kk qq (execKeeperBooted g s) := by
  unfold execKeeperBooted
  all_goals repeat' first
    | with_reducible first
      | assumption | refine kept_ite _ _ _ ?_ ?_ | refine kept_next ?_ | refine setKpr_kept _ _ _ ?_
      | refine setF_kept _ _ _ _ _ ?_ | refine kmbServe_kept _ _ ?_ | refine retryHeld_kept _ ?_

theorem execStreamMinute_kept (s : State) (h0 : Kept kk qq s) : KeptO kk qq (execStreamMinute s) := by
  unfold execStreamMinute
  all_goals repeat' first
    | with_reducible first
      | assumption | refine kept_next ?_ | refine addF_kept _ _ _ _ _ ?_
    | (with_reducible refine kept_upd ?_; with_reducible first | refine kept_next ?_ | refine addF_kept _ _ _ _ _ ?_)

theorem setStkState_kept (s : State) (n : ℕ) (st : ℕ) (h0 : Kept kk qq s) : Kept kk qq (setStkState s n st) := by
  unfold setStkState
  all_goals repeat' first
    | with_reducible first
      | assumption | refine setBeacon_kept _ _ _ ?_ | refine setF_kept _ _ _ _ _ ?_

theorem failStack_kept (s : State) (n : ℕ) (cause : ℕ) (h0 : Kept kk qq s) : Kept kk qq (failStack s n cause) := by
  unfold failStack
  all_goals repeat' first
    | with_reducible first
      | assumption | refine kept_ite _ _ _ ?_ ?_ | refine kept_foldl _ _ ?_ ?_
      | refine setStkState_kept _ _ _ ?_ | refine addF_kept _ _ _ _ _ ?_ | refine setStk_kept _ _ _ ?_
      | refine logFault_kept _ _ ?_ | refine repairBudget_kept _ ?_
    | split

theorem execStkFailed_kept (n : StackId) (cause : ℕ) (s : State) (h0 : Kept kk qq s) : KeptO kk qq (execStkFailed n cause s) := by
  unfold execStkFailed
  all_goals repeat' first
    | with_reducible first
      | assumption | refine kept_ite _ _ _ ?_ ?_ | refine kept_next ?_ | refine nextFree_kept _ ?_
      | refine logFault_kept _ _ ?_ | refine retryHeld_kept _ ?_ | refine failStack_kept _ _ _ ?_

theorem execStackTrained_kept (n : StackId) (profileMajor : ℕ) (profileMinor : ℕ) (identity : ℕ) (s : State) (h0 : Kept kk qq s) : KeptO kk qq (execStackTrained n profileMajor profileMinor identity s) := by
  unfold execStackTrained
  all_goals repeat' first
    | with_reducible first
      | assumption | refine kept_ite _ _ _ ?_ ?_ | refine kept_next ?_ | refine retryHeld_kept _ ?_
      | refine failStack_kept _ _ _ ?_ | refine logFault_kept _ _ ?_ | refine setF_kept _ _ _ _ _ ?_
      | refine setStkState_kept _ _ _ ?_

theorem execStackRetrain_kept (n : StackId) (ok : Bool) (s : State) (h0 : Kept kk qq s) : KeptO kk qq (execStackRetrain n ok s) := by
  unfold execStackRetrain
  all_goals repeat' first
    | with_reducible first
      | assumption | refine kept_ite _ _ _ ?_ ?_ | refine kept_next ?_ | refine setStkState_kept _ _ _ ?_
      | refine setStk_kept _ _ _ ?_ | refine setF_kept _ _ _ _ _ ?_

theorem rebuildStripes_kept (s : State) (n : ℕ) (h0 : Kept kk qq s) : Kept kk qq (rebuildStripes s n) := by
  unfold rebuildStripes
  all_goals repeat' first
    | with_reducible first
      | assumption | refine setF_kept _ _ _ _ _ ?_ | refine setStk_kept _ _ _ ?_
    | intro x

theorem rebuildsGo_kept (s : State) (h0 : Kept kk qq s) : Kept kk qq (rebuildsGo s) := by
  unfold rebuildsGo
  exact kept_foldl _ _ h0 fun x _ h => rebuildStripes_kept _ _ h

theorem execStkRebuilt_kept (n : StackId) (s : State) (h0 : Kept kk qq s) : KeptO kk qq (execStkRebuilt n s) := by
  unfold execStkRebuilt
  all_goals repeat' first
    | with_reducible first
      | assumption | refine kept_ite _ _ _ ?_ ?_ | refine kept_next ?_ | refine setStkState_kept _ _ _ ?_
      | refine setF_kept _ _ _ _ _ ?_ | refine logFault_kept _ _ ?_

theorem routeQueues_kept (s : State) (h0 : Kept kk qq s) : Kept kk qq (routeQueues s) := by
  unfold routeQueues
  all_goals repeat' first
    | with_reducible first
      | assumption
    | (with_reducible refine kept_upd ?_; with_reducible first | assumption)

theorem rewriteRing_kept (s : State) (q' : ℕ) (h0 : Kept kk qq s) : Kept kk qq (rewriteRing s q') := by
  unfold rewriteRing
  all_goals repeat' first
    | with_reducible first
      | assumption | refine kept_foldl _ _ ?_ ?_ | refine hostWrite_kept _ _ _ ?_
      | refine raiseQueue_kept _ _ ?_
    | intro x

theorem failOver_kept (s : State) (h p : ℕ) (mine : List ℕ) (h0 : Kept kk qq s) : Kept kk qq (failOver s h p mine) := by
  unfold failOver
  all_goals repeat' first
    | with_reducible first
      | assumption | refine kept_foldl _ _ ?_ ?_ | refine rewriteRing_kept _ _ ?_ | refine logFault_kept _ _ ?_
      | refine addF_kept _ _ _ _ _ ?_
    | intro x

theorem portsBack_kept (was s : State) (h : ℕ) (h0 : Kept kk qq s) : Kept kk qq (portsBack was s h) := by
  unfold portsBack
  all_goals repeat' first
    | with_reducible first
      | assumption | refine kept_ite _ _ _ ?_ ?_ | refine kept_foldl _ _ ?_ ?_ | refine rewriteRing_kept _ _ ?_
      | refine failOver_kept _ _ _ _ ?_ | refine routeQueues_kept _ ?_
    | intro x

theorem portDown_kept (s : State) (h : ℕ) (h0 : Kept kk qq s) : Kept kk qq (portDown s h) := by
  unfold portDown
  all_goals repeat' first
    | with_reducible first
      | assumption | refine kept_foldl _ _ ?_ ?_ | refine failOver_kept _ _ _ _ ?_ | refine setF_kept _ _ _ _ _ ?_
      | refine rewriteRing_kept _ _ ?_ | refine routeQueues_kept _ ?_ | refine logFault_kept _ _ ?_
      | refine addF_kept _ _ _ _ _ ?_
    | lift_lets
    | (intro x; refine kept_cut (kk := kk) (qq := qq) x ?_ ?_ <;> [subst x; (intro hx; clear_value x)])
    | intro x
    | (with_reducible refine kept_upd ?_; with_reducible first | assumption)
    | split

theorem execHstLinkDown_kept (h : PortId) (s : State) (h0 : Kept kk qq s) : KeptO kk qq (execHstLinkDown h s) := by
  unfold execHstLinkDown
  all_goals repeat' first
    | with_reducible first
      | assumption | refine kept_ite _ _ _ ?_ ?_ | refine kept_next ?_ | refine kept_foldl _ _ ?_ ?_
      | refine portDown_kept _ _ ?_ | refine logFault_kept _ _ ?_
    | split

theorem execHostLinkUp_kept (h : PortId) (width : ℕ) (speed : ℕ) (cxl : Bool) (s : State) (h0 : Kept kk qq s) : KeptO kk qq (execHostLinkUp h width speed cxl s) := by
  unfold execHostLinkUp
  all_goals repeat' first
    | with_reducible first
      | assumption | refine portsBack_kept _ _ _ ?_ | refine kept_ite _ _ _ ?_ ?_ | refine kept_next ?_ | refine kept_foldl _ _ ?_ ?_
      | refine setF_kept _ _ _ _ _ ?_ | refine flagF_kept _ _ _ _ _ ?_ | refine routeQueues_kept _ ?_
      | refine settleRing_kept _ _ ?_ | refine drainRing_kept _ _ ?_ | refine scrubT2_kept _ ?_
    | intro x

theorem sendGalleys_kept (s : State) (h0 : Kept kk qq s) : Kept kk qq (sendGalleys s) := by
  unfold sendGalleys
  all_goals repeat' first
    | with_reducible first
      | assumption | refine kept_ite _ _ _ ?_ ?_ | refine kept_foldl _ _ ?_ ?_
      | refine meetStack_kept _ _ _ ?_ | refine linkSend_kept _ _ _ ?_
    | intro x
    | split

theorem handConv_kept (s : State) (c : Conv) (h0 : Kept kk qq s) : Kept kk qq (handConv s c) := by
  unfold handConv
  all_goals repeat' first
    | with_reducible first
      | assumption | refine kept_ite _ _ _ ?_ ?_ | refine freeConv_kept _ _ _ ?_ | refine handMsg_kept _ _ ?_

theorem execHandoverComplete_kept (s : State) (h0 : Kept kk qq s) : KeptO kk qq (execHandoverComplete s) := by
  unfold execHandoverComplete
  all_goals repeat' first
    | with_reducible first
      | assumption | refine kept_next ?_ | refine kept_foldl _ _ ?_ ?_ | refine sendGalleys_kept _ ?_
      | refine handConv_kept _ _ ?_ | refine handStream_kept _ _ ?_ | refine surpriseDown_kept _ ?_
      | refine moduleReset_kept _ _ ?_ | refine stopShutdown_kept _ ?_
    | lift_lets
    | (intro x; refine kept_cut (kk := kk) (qq := qq) x ?_ ?_ <;> [subst x; (intro hx; clear_value x)])
    | intro x
    | (with_reducible refine kept_upd ?_; with_reducible first | assumption)
    | split

theorem lampStart_kept (s : State) (cause : ℕ) (h0 : Kept kk qq s) : Kept kk qq (lampStart s cause) := by
  unfold lampStart
  all_goals repeat' first
    | with_reducible first
      | assumption | refine powerReset_kept _ ?_ | refine setF_kept _ _ _ _ _ ?_
    | (with_reducible refine kept_upd ?_; with_reducible first | refine powerReset_kept _ ?_)

theorem execPowerOn_kept (s : State) (h0 : Kept kk qq s) : KeptO kk qq (execPowerOn s) := by
  unfold execPowerOn
  all_goals repeat' first
    | with_reducible first
      | assumption | refine kept_ite _ _ _ ?_ ?_ | refine kept_next ?_ | refine addF_kept _ _ _ _ _ ?_
      | refine lampStart_kept _ _ ?_ | refine setF_kept _ _ _ _ _ ?_ | refine logFault_kept _ _ ?_
    | (with_reducible refine kept_upd ?_; with_reducible first | refine kept_ite _ _ _ ?_ ?_ | refine addF_kept _ _ _ _ _ ?_ | refine setF_kept _ _ _ _ _ ?_)

theorem execBrownOut_kept (lampRail : Bool) (s : State) (h0 : Kept kk qq s) : KeptO kk qq (execBrownOut lampRail s) := by
  unfold execBrownOut
  all_goals repeat' first
    | with_reducible first
      | assumption | refine kept_ite _ _ _ ?_ ?_ | refine kept_next ?_ | refine lampStart_kept _ _ ?_
      | refine resetNow_kept _ _ ?_
    | lift_lets
    | (intro x; refine kept_cut (kk := kk) (qq := qq) x ?_ ?_ <;> [subst x; (intro hx; clear_value x)])
    | (with_reducible refine kept_upd ?_; with_reducible first | assumption)

theorem execResetN_kept (low : Bool) (s : State) (h0 : Kept kk qq s) : KeptO kk qq (execResetN low s) := by
  unfold execResetN
  all_goals repeat' first
    | with_reducible first
      | assumption | refine kept_ite _ _ _ ?_ ?_ | refine kept_next ?_ | refine kept_foldl _ _ ?_ ?_
      | refine resetNow_kept _ _ ?_
    | (with_reducible refine kept_upd ?_; with_reducible first | assumption)
    | split

theorem releasePort_kept (s : State) (h : ℕ) (h0 : Kept kk qq s) : Kept kk qq (releasePort s h) := by
  unfold releasePort
  all_goals repeat' first
    | with_reducible first
      | assumption | refine kept_ite _ _ _ ?_ ?_ | refine setF_kept _ _ _ _ _ ?_
    | (with_reducible refine kept_upd ?_; with_reducible first | assumption)

theorem resetPort_kept (s : State) (h : ℕ) (h0 : Kept kk qq s) : Kept kk qq (resetPort s h) := by
  unfold resetPort
  all_goals repeat' first
    | with_reducible first
      | assumption | refine portDown_kept _ _ ?_ | refine setF_kept _ _ _ _ _ ?_
    | (with_reducible refine kept_upd ?_; with_reducible first | refine portDown_kept _ _ ?_)

theorem execPerst_kept (h : PortId) (asserted : Bool) (s : State) (h0 : Kept kk qq s) : KeptO kk qq (execPerst h asserted s) := by
  unfold execPerst
  all_goals repeat' first
    | with_reducible first
      | assumption | refine kept_ite _ _ _ ?_ ?_ | refine kept_next ?_ | refine causeRecord_kept _ _ _ ?_
      | refine resetPort_kept _ _ ?_ | refine releasePort_kept _ _ ?_
    | (with_reducible refine kept_upd ?_; with_reducible first | assumption)

theorem swReset_kept (s : State) (force : Bool) (h0 : Kept kk qq s) : Kept kk qq (swReset s force) := by
  unfold swReset
  all_goals repeat' first
    | with_reducible first
      | assumption | refine kept_ite _ _ _ ?_ ?_ | refine resetNow_kept _ _ ?_
      | refine moduleHandover_kept _ _ _ ?_ | refine moduleReset_kept _ _ ?_

theorem execSoftwareModuleReset_kept (v : ℕ) (s : State) (h0 : Kept kk qq s) : KeptO kk qq (execSoftwareModuleReset v s) := by
  unfold execSoftwareModuleReset
  all_goals repeat' first
    | with_reducible first
      | assumption | refine kept_ite _ _ _ ?_ ?_ | refine kept_next ?_ | refine regWrite_kept _ _ _ ?_ ?_
      | refine setF_kept _ _ _ _ _ ?_ | refine swReset_kept _ _ ?_
    | (intro x; intro (hx : Kept kk qq x))

theorem quiesce_kept (s : State) (i : ℕ) (source : ℕ) (h0 : Kept kk qq s) : Kept kk qq (quiesce s i source) := by
  unfold quiesce
  all_goals repeat' first
    | with_reducible first
      | assumption | refine kept_ite _ _ _ ?_ ?_ | refine setF_kept _ _ _ _ _ ?_
      | refine setChaseBeacon_kept _ _ _ ?_ | refine setBeacon_kept _ _ _ ?_
    | (with_reducible refine kept_upd ?_; with_reducible first | refine kept_ite _ _ _ ?_ ?_ | refine setF_kept _ _ _ _ _ ?_ | refine setBeacon_kept _ _ _ ?_)

theorem execBlockReset_kept (v : ℕ) (s : State) (h0 : Kept kk qq s) : KeptO kk qq (execBlockReset v s) := by
  unfold execBlockReset
  all_goals repeat' first
    | with_reducible first
      | assumption | refine kept_ite _ _ _ ?_ ?_ | refine kept_next ?_ | refine regWrite_kept _ _ _ ?_ ?_
      | refine setF_kept _ _ _ _ _ ?_ | refine quiesce_kept _ _ _ ?_
    | (intro x; intro (hx : Kept kk qq x))

theorem resetChase_kept (s : State) (n : ℕ) (h0 : Kept kk qq s) : Kept kk qq (resetChase s n) := by
  unfold resetChase
  all_goals repeat' first
    | with_reducible first
      | assumption | refine kept_ite _ _ _ ?_ ?_ | refine kept_foldl _ _ ?_ ?_
      | refine setChaseBeacon_kept _ _ _ ?_ | refine startRecovery_kept _ _ _ _ _ _ _ ?_
    | (with_reducible refine kept_upd ?_; with_reducible first | refine kept_ite _ _ _ ?_ ?_ | refine setChaseBeacon_kept _ _ _ ?_)
    | split

theorem resetBlock_kept (s : State) (b : BlkReset) (result : ℕ) (h0 : Kept kk qq s) : Kept kk qq (resetBlock s b result) := by
  unfold resetBlock
  all_goals repeat' first
    | with_reducible first
      | assumption | refine addF_kept _ _ _ _ _ ?_ | refine setF_kept _ _ _ _ _ ?_
      | refine causeRecord_kept _ _ _ ?_ | refine setBeacon_kept _ _ _ ?_ | refine portDown_kept _ _ ?_
      | refine failStack_kept _ _ _ ?_ | refine retrainFrom_kept _ _ _ ?_ | refine rebuildGroup_kept _ _ ?_
      | refine resetChase_kept _ _ ?_
    | lift_lets
    | (intro x; refine kept_cut (kk := kk) (qq := qq) x ?_ ?_ <;> [subst x; (intro hx; clear_value x)])
    | intro x
    | (with_reducible refine kept_upd ?_; with_reducible first | assumption)
    | split

theorem execQuiesceDone_kept (s : State) (h0 : Kept kk qq s) : KeptO kk qq (execQuiesceDone s) := by
  unfold execQuiesceDone
  all_goals repeat' first
    | with_reducible first
      | assumption | refine kept_next ?_ | refine resetBlock_kept _ _ _ ?_ | refine setF_kept _ _ _ _ _ ?_
    | split

theorem execRstQuiesceTimeout_kept (held : ℕ) (s : State) (h0 : Kept kk qq s) : KeptO kk qq (execRstQuiesceTimeout held s) := by
  unfold execRstQuiesceTimeout
  all_goals repeat' first
    | with_reducible first
      | assumption | refine kept_ite _ _ _ ?_ ?_ | refine kept_next ?_ | refine setF_kept _ _ _ _ _ ?_
      | refine addF_kept _ _ _ _ _ ?_ | refine resetBlock_kept _ _ _ ?_ | refine logFault_kept _ _ ?_
    | split

theorem execFabricLockup_kept (n : ChaseId) (s : State) (h0 : Kept kk qq s) : KeptO kk qq (execFabricLockup n s) := by
  unfold execFabricLockup
  all_goals repeat' first
    | with_reducible first
      | assumption | refine kept_ite _ _ _ ?_ ?_ | refine kept_next ?_ | refine logFault_kept _ _ ?_
      | refine quiesce_kept _ _ _ ?_

theorem execPllCountDone_kept (domain : ℕ) (inst : ℕ) (s : State) (h0 : Kept kk qq s) : KeptO kk qq (execPllCountDone domain inst s) := by
  unfold execPllCountDone
  all_goals repeat' first
    | with_reducible first
      | assumption | refine kept_ite _ _ _ ?_ ?_ | refine kept_next ?_ | refine setF_kept _ _ _ _ _ ?_
    | (with_reducible refine kept_upd ?_; with_reducible first | assumption)

theorem execRstPllNoLock_kept (domain : ℕ) (inst : ℕ) (s : State) (h0 : Kept kk qq s) : KeptO kk qq (execRstPllNoLock domain inst s) := by
  unfold execRstPllNoLock
  all_goals repeat' first
    | with_reducible first
      | assumption | refine kept_next ?_ | refine kept_foldl _ _ ?_ ?_ | refine logFault_kept _ _ ?_
      | refine setBeacon_kept _ _ _ ?_ | refine setF_kept _ _ _ _ _ ?_ | refine setChaseBeacon_kept _ _ _ ?_
      | refine modChase_kept _ _ _ ?_
    | intro x
    | (with_reducible refine kept_upd ?_; with_reducible first | assumption)
    | split

theorem releaseBlock_kept (s : State) (k' : ℕ) (inst : ℕ) (h0 : Kept kk qq s) : Kept kk qq (releaseBlock s k' inst) := by
  unfold releaseBlock
  all_goals repeat' first
    | with_reducible first
      | assumption | refine kept_foldl _ _ ?_ ?_ | refine setBeacon_kept _ _ _ ?_
      | refine setF_kept _ _ _ _ _ ?_ | refine causeRecord_kept _ _ _ ?_ | refine setKpr_kept _ _ _ ?_
      | refine setStkState_kept _ _ _ ?_ | refine setPhase_kept _ _ _ ?_
    | lift_lets
    | (intro x; refine kept_cut (kk := kk) (qq := qq) x ?_ ?_ <;> [subst x; (intro hx; clear_value x)])
    | intro x
    | (with_reducible refine kept_upd ?_; with_reducible first | assumption)
    | split

theorem execReleaseStep_kept (k' : Fin 11) (inst : ℕ) (s : State) (h0 : Kept kk qq s) : KeptO kk qq (execReleaseStep k' inst s) := by
  unfold execReleaseStep
  all_goals repeat' first
    | with_reducible first
      | assumption | refine kept_ite _ _ _ ?_ ?_ | refine kept_next ?_ | refine kept_foldl _ _ ?_ ?_
      | refine setF_kept _ _ _ _ _ ?_ | refine releaseBlock_kept _ _ _ ?_
    | intro x
    | (with_reducible refine kept_upd ?_; with_reducible first | assumption)
    | split

theorem execRstStepTimeout_kept (k' : ℕ) (s : State) (h0 : Kept kk qq s) : KeptO kk qq (execRstStepTimeout k' s) := by
  unfold execRstStepTimeout
  all_goals repeat' first
    | with_reducible first
      | assumption | refine kept_ite _ _ _ ?_ ?_ | refine kept_next ?_ | refine logFault_kept _ _ ?_
    | (with_reducible refine kept_upd ?_; with_reducible first | assumption)

theorem execForceStep_kept (v : ℕ) (s : State) (h0 : Kept kk qq s) : KeptO kk qq (execForceStep v s) := by
  unfold execForceStep
  all_goals repeat' first
    | with_reducible first
      | assumption | refine kept_ite _ _ _ ?_ ?_ | refine kept_next ?_ | refine kept_foldl _ _ ?_ ?_
      | refine regWrite_kept _ _ _ ?_ ?_ | refine setF_kept _ _ _ _ _ ?_ | refine logFault_kept _ _ ?_
    | (intro x; intro (hx : Kept kk qq x))
    | intro x
    | (with_reducible refine kept_upd ?_; with_reducible first | assumption)

theorem failClock_kept (s : State) (domain : ℕ) (inst : ℕ) (h0 : Kept kk qq s) : Kept kk qq (failClock s domain inst) := by
  unfold failClock
  all_goals repeat' first
    | with_reducible first
      | assumption | refine kept_ite _ _ _ ?_ ?_ | refine kept_foldl _ _ ?_ ?_
      | refine rebuildGroup_kept _ _ ?_ | refine causeRecord_kept _ _ _ ?_ | refine setF_kept _ _ _ _ _ ?_
      | refine resetPort_kept _ _ ?_ | refine failStack_kept _ _ _ ?_ | refine retrainFrom_kept _ _ _ ?_
      | refine transitLost_kept _ _ _ ?_
    | intro x
    | split

theorem monitorClock_kept (s : State) (r : ClockReading) (h0 : Kept kk qq s) : Kept kk qq (monitorClock s r) := by
  unfold monitorClock
  all_goals repeat' first
    | with_reducible first
      | assumption | refine kept_ite _ _ _ ?_ ?_ | refine setF_kept _ _ _ _ _ ?_
      | refine addF_kept _ _ _ _ _ ?_ | refine logFault_kept _ _ ?_ | refine failClock_kept _ _ _ ?_
    | (with_reducible refine kept_upd ?_; with_reducible first | refine kept_ite _ _ _ ?_ ?_ | refine setF_kept _ _ _ _ _ ?_ | refine logFault_kept _ _ ?_)

theorem execClockMonitor_kept (rs : List ClockReading) (s : State) (h0 : Kept kk qq s) : KeptO kk qq (execClockMonitor rs s) := by
  unfold execClockMonitor
  all_goals repeat' first
    | with_reducible first
      | assumption | refine kept_next ?_ | refine kept_foldl _ _ ?_ ?_ | refine monitorClock_kept _ _ ?_
    | intro x

theorem execRefclkRecovered_kept (h : PortId) (s : State) (h0 : Kept kk qq s) : KeptO kk qq (execRefclkRecovered h s) := by
  unfold execRefclkRecovered
  all_goals repeat' first
    | with_reducible first
      | assumption | refine kept_next ?_ | refine setF_kept _ _ _ _ _ ?_ | refine releasePort_kept _ _ ?_
    | (with_reducible refine kept_upd ?_; with_reducible first | refine kept_next ?_ | refine setF_kept _ _ _ _ _ ?_)

theorem execRstLampXtal_kept (s : State) (h0 : Kept kk qq s) : KeptO kk qq (execRstLampXtal s) := by
  unfold execRstLampXtal
  all_goals repeat' first
    | with_reducible first
      | assumption | refine kept_ite _ _ _ ?_ ?_ | refine kept_next ?_ | refine setF_kept _ _ _ _ _ ?_
      | refine logFault_kept _ _ ?_
    | (with_reducible refine kept_upd ?_; with_reducible first | refine kept_ite _ _ _ ?_ ?_ | refine setF_kept _ _ _ _ _ ?_)

theorem loseLocks_kept (s : State) (h0 : Kept kk qq s) : Kept kk qq (loseLocks s) := by
  unfold loseLocks
  all_goals repeat' first
    | with_reducible first
      | assumption | refine kept_ite _ _ _ ?_ ?_ | refine kept_foldl _ _ ?_ ?_ | refine addF_kept _ _ _ _ _ ?_
    | intro x
    | split

theorem execRstFabricRef_kept (bGood : Bool) (s : State) (h0 : Kept kk qq s) : KeptO kk qq (execRstFabricRef bGood s) := by
  unfold execRstFabricRef
  all_goals repeat' first
    | with_reducible first
      | assumption | refine kept_ite _ _ _ ?_ ?_ | refine kept_next ?_ | refine setF_kept _ _ _ _ _ ?_
      | refine resetNow_kept _ _ ?_ | refine loseLocks_kept _ ?_ | refine logFault_kept _ _ ?_
      | refine addF_kept _ _ _ _ _ ?_

theorem execTimeSyncPoint_kept (corrections : List ℕ) (s : State) (h0 : Kept kk qq s) : KeptO kk qq (execTimeSyncPoint corrections s) := by
  unfold execTimeSyncPoint
  all_goals repeat' first
    | with_reducible first
      | assumption | refine kept_next ?_ | refine setF_kept _ _ _ _ _ ?_
    | (with_reducible refine kept_upd ?_; with_reducible first | assumption)

theorem kindleChase_kept (s : State) (n : ℕ) (h0 : Kept kk qq s) : Kept kk qq (kindleChase s n) := by
  unfold kindleChase
  all_goals repeat' first
    | with_reducible first
      | assumption | refine kept_ite _ _ _ ?_ ?_ | refine setChaseBeacon_kept _ _ _ ?_
      | refine railUp_kept _ _ ?_
    | lift_lets
    | (intro x; refine kept_cut (kk := kk) (qq := qq) x ?_ ?_ <;> [subst x; (intro hx; clear_value x)])
    | (with_reducible refine kept_upd ?_; with_reducible first | assumption)

theorem execKindlingWave_kept (s : State) (h0 : Kept kk qq s) : KeptO kk qq (execKindlingWave s) := by
  unfold execKindlingWave
  all_goals repeat' first
    | with_reducible first
      | assumption | refine kept_ite _ _ _ ?_ ?_ | refine kept_next ?_ | refine kept_foldl _ _ ?_ ?_
      | refine setF_kept _ _ _ _ _ ?_ | refine finishKindling_kept _ ?_ | refine kindleChase_kept _ _ ?_
    | intro x
    | (with_reducible refine kept_upd ?_; with_reducible first | assumption)

theorem execChaseLit_kept (n : ChaseId) (results : List CoreResult) (s : State) (h0 : Kept kk qq s) : KeptO kk qq (execChaseLit n results s) := by
  unfold execChaseLit
  all_goals repeat' first
    | with_reducible first
      | assumption | refine kept_ite _ _ _ ?_ ?_ | refine kept_next ?_ | refine setClock_kept _ _ _ ?_
      | refine finishKindling_kept _ ?_ | refine retryCapacity_kept _ ?_ | refine finishSelfTest_kept _ _ _ ?_
    | (with_reducible refine kept_upd ?_; with_reducible first | refine kept_ite _ _ _ ?_ ?_ | refine setClock_kept _ _ _ ?_ | refine retryCapacity_kept _ ?_)

theorem debugRefused_kept (s : State) (h0 : Kept kk qq s) : Kept kk qq (debugRefused s) := by
  unfold debugRefused
  all_goals repeat' first
    | with_reducible first
      | assumption | refine addF_kept _ _ _ _ _ ?_

theorem debugRead_kept (s : State) (addr : ℕ) (h0 : Kept kk qq s) : Kept kk qq (debugRead s addr).2 := by
  unfold debugRead
  all_goals repeat' first
    | with_reducible first
      | assumption | refine nextFree_kept _ ?_ | refine debugRefused_kept _ ?_
    | split

theorem flagBadAccess_kept (s : State) (addr : ℕ) (h0 : Kept kk qq s) : Kept kk qq (flagBadAccess s addr) := by
  unfold flagBadAccess
  all_goals repeat' first
    | with_reducible first
      | assumption | refine kept_ite _ _ _ ?_ ?_ | refine kept_foldl _ _ ?_ ?_
      | refine setPageErr_kept _ _ _ _ ?_ | refine addF_kept _ _ _ _ _ ?_ | refine setF_kept _ _ _ _ _ ?_
    | split

theorem popExpired_kept (s : State) (h0 : Kept kk qq s) : Kept kk qq (popExpired s).2 := by
  unfold popExpired
  split
  · rename_i h r hf
    refine drainExpiries_kept _ _ ⟨⟨h0.1.1, h0.1.2.1, h0.1.2.2.1, ?_⟩, h0.2⟩
    have := h0.1.2.2.2
    rw [hf, List.length_cons] at this
    exact Nat.le_of_succ_le this
  · exact setPageErr_kept _ _ _ _ h0

theorem clearOnRead_kept (s : State) (p : ℕ) (off : ℕ) (h0 : Kept kk qq s) : Kept kk qq (clearOnRead s p off) := by
  unfold clearOnRead
  all_goals repeat' first
    | with_reducible first
      | assumption | refine kept_foldl _ _ ?_ ?_ | refine setF_kept _ _ _ _ _ ?_
    | intro x
    | split

theorem readWord_kept (s : State) (r : Requester) (addr : ℕ) (h0 : Kept kk qq s) : Kept kk qq (readWord s r addr).2 := by
  unfold readWord
  all_goals repeat' first
    | with_reducible first
      | assumption | refine debugRead_kept _ _ ?_ | refine flagBadAccess_kept _ _ ?_
      | refine popExpired_kept _ ?_ | refine clearOnRead_kept _ _ _ ?_
    | lift_lets
    | (intro x; refine kept_cut (kk := kk) (qq := qq) x ?_ ?_ <;> [subst x; (intro hx; clear_value x)])
    | intro x
    | (with_reducible refine kept_upd ?_; with_reducible first | assumption)
    | split

theorem readWide_kept (s : State) (addr : ℕ) (h0 : Kept kk qq s) : Kept kk qq (readWide s addr).2 := by
  unfold readWide
  all_goals repeat' first
    | with_reducible first
      | assumption | refine debugRead_kept _ _ ?_ | refine debugRefused_kept _ ?_ | refine flagBadAccess_kept _ _ ?_
      | refine popExpired_kept _ ?_ | refine clearOnRead_kept _ _ _ ?_
    | lift_lets
    | (intro x; refine kept_cut (kk := kk) (qq := qq) x ?_ ?_ <;> [subst x; (intro hx; clear_value x)])
    | intro x
    | (with_reducible refine kept_upd ?_; with_reducible first | assumption)
    | split

end Sys2Proof.Machine
end

