-- ==== Sys2Proof/Laws/Kept5.lean ====
section
/-! SUPPORT. One lemma for each operation, from `readReg` to `tick`: it keeps the invariant, the keys and
the waiting commands. -/

namespace Sys2Proof.Machine

set_option linter.all false

variable {kk : List (Nat × Nat × Nat)} {qq : List Instr}

theorem readReg_kept (s : State) (r : Requester) (addr : ℕ) (h0 : Kept kk qq s) : Kept kk qq (readReg s r addr) := by
  unfold readReg
  all_goals repeat' first
    | with_reducible first
      | assumption | refine kept_ite _ _ _ ?_ ?_ | refine readWord_kept _ _ _ ?_
      | refine readResult_kept _ _ _ ?_

theorem readRegWide_kept (s : State) (r : Requester) (addr : ℕ) (h0 : Kept kk qq s) : Kept kk qq (readRegWide s r addr) := by
  unfold readRegWide
  exact readResult_kept _ _ _ (readWide_kept _ _ h0)

theorem execSlipLongest_kept (r : Requester) (n : ChaseId) (s : State) (h0 : Kept kk qq s) : KeptO kk qq (execSlipLongest r n s) := by
  unfold execSlipLongest
  all_goals repeat' first
    | with_reducible first
      | assumption | refine kept_next ?_ | refine readReg_kept _ _ _ ?_

theorem execParkMax_kept (r : Requester) (n : ChaseId) (s : State) (h0 : Kept kk qq s) : KeptO kk qq (execParkMax r n s) := by
  unfold execParkMax
  all_goals repeat' first
    | with_reducible first
      | assumption | refine kept_next ?_ | refine readReg_kept _ _ _ ?_

theorem execRingLost_kept (r : Requester) (s : State) (h0 : Kept kk qq s) : KeptO kk qq (execRingLost r s) := by
  unfold execRingLost
  all_goals repeat' first
    | with_reducible first
      | assumption | refine kept_next ?_ | refine readReg_kept _ _ _ ?_

theorem execSuppressed_kept (r : Requester) (s : State) (h0 : Kept kk qq s) : KeptO kk qq (execSuppressed r s) := by
  unfold execSuppressed
  all_goals repeat' first
    | with_reducible first
      | assumption | refine kept_next ?_ | refine readReg_kept _ _ _ ?_

theorem execLogLost_kept (r : Requester) (s : State) (h0 : Kept kk qq s) : KeptO kk qq (execLogLost r s) := by
  unfold execLogLost
  all_goals repeat' first
    | with_reducible first
      | assumption | refine kept_ite _ _ _ ?_ ?_ | refine kept_next ?_ | refine kept_foldl _ _ ?_ ?_
      | refine readReg_kept _ _ _ ?_
    | split

theorem execConvExpired_kept (r : Requester) (s : State) (h0 : Kept kk qq s) : KeptO kk qq (execConvExpired r s) := by
  unfold execConvExpired
  all_goals repeat' first
    | with_reducible first
      | assumption | refine kept_next ?_ | refine readReg_kept _ _ _ ?_

theorem execPairLowRead_kept (r : Requester) (o : ReadAt) (s : State) (h0 : Kept kk qq s) : KeptO kk qq (execPairLowRead r o s) := by
  unfold execPairLowRead
  all_goals repeat' first
    | with_reducible first
      | assumption | refine kept_ite _ _ _ ?_ ?_ | refine readRegWide_kept _ _ _ ?_ | refine kept_next ?_ | refine readReg_kept _ _ _ ?_

theorem execBadAccess_kept (r : Requester) (addr : ℕ) (isRead : Bool) (s : State) (h0 : Kept kk qq s) : KeptO kk qq (execBadAccess r addr isRead s) := by
  unfold execBadAccess
  all_goals repeat' first
    | with_reducible first
      | assumption | refine kept_ite _ _ _ ?_ ?_ | refine kept_next ?_ | refine flagBadAccess_kept _ _ ?_
      | refine readResult_kept _ _ _ ?_

theorem execNoAnswer_kept (r : Requester) (addr : ℕ) (isRead : Bool) (s : State) (h0 : Kept kk qq s) : KeptO kk qq (execNoAnswer r addr isRead s) := by
  unfold execNoAnswer
  all_goals repeat' first
    | with_reducible first
      | assumption | refine kept_ite _ _ _ ?_ ?_ | refine kept_next ?_ | refine setPageErr_kept _ _ _ _ ?_
      | refine readResult_kept _ _ _ ?_

theorem setBus_kept (s : State) (bus : ℕ) (b : Bool) (h0 : Kept kk qq s) : Kept kk qq (setBus s bus b) := by
  unfold setBus
  all_goals repeat' first
    | with_reducible first
      | assumption | refine kept_ite _ _ _ ?_ ?_ | refine flagF_kept _ _ _ _ _ ?_

theorem served_kept (s : State) (bus : ℕ) (f : State → State) (h0 : Kept kk qq s) (h1 : ∀ t, Kept kk qq t → Kept kk qq (f t)) : Kept kk qq (served s bus f) := by
  unfold served
  all_goals repeat' first
    | with_reducible first
      | assumption | refine kept_ite _ _ _ ?_ ?_ | refine addF_kept _ _ _ _ _ ?_ | refine h1 _ ?_

theorem servedAny_kept (s : State) (f : State → State) (h0 : Kept kk qq s) (h1 : ∀ t, Kept kk qq t → Kept kk qq (f t)) : Kept kk qq (servedAny s f) := by
  unfold servedAny
  all_goals repeat' first
    | with_reducible first
      | assumption | refine served_kept _ _ _ ?_ ?_ | refine h1 _ ?_

theorem reply_kept (s : State) (bus : ℕ) (bs : List Byte) (h0 : Kept kk qq s) : Kept kk qq (reply s bus bs) := by
  unfold reply
  all_goals repeat' first
    | with_reducible first
      | assumption | refine kept_ite _ _ _ ?_ ?_ | refine kept_foldl _ _ ?_ ?_
    | (with_reducible refine kept_upd ?_; with_reducible first | assumption)
    | split

theorem replyFree_kept (s : State) (bus : ℕ) (h0 : Kept kk qq s) : Kept kk qq (replyFree s bus) := by
  unfold replyFree
  all_goals repeat' first
    | with_reducible first
      | assumption | refine nextFree_kept _ ?_ | refine reply_kept _ _ _ ?_

theorem readEvent_kept (s : State) (bus : ℕ) (h0 : Kept kk qq s) : Kept kk qq (readEvent s bus) := by
  unfold readEvent
  all_goals repeat' first
    | with_reducible first
      | assumption | refine setF_kept _ _ _ _ _ ?_ | refine reply_kept _ _ _ ?_
    | (with_reducible refine kept_upd ?_; with_reducible first | assumption)
    | split

theorem execMctpControl_kept (bus : Fin 2) (eid : ℕ) (s : State) (h0 : Kept kk qq s) : KeptO kk qq (execMctpControl bus eid s) := by
  unfold execMctpControl
  all_goals repeat' first
    | with_reducible first
      | assumption | refine kept_ite _ _ _ ?_ ?_ | refine kept_next ?_ | refine served_kept _ _ _ ?_ ?_
      | refine setF_kept _ _ _ _ _ ?_ | refine replyFree_kept _ _ ?_
    | (intro x; intro (hx : Kept kk qq x))

theorem execPldmBase_kept (bus : Fin 2) (_cmd : ℕ) (s : State) (h0 : Kept kk qq s) : KeptO kk qq (execPldmBase bus _cmd s) := by
  unfold execPldmBase
  all_goals repeat' first
    | with_reducible first
      | assumption | refine kept_next ?_ | refine served_kept _ _ _ ?_ ?_ | refine replyFree_kept _ _ ?_
    | (intro x; intro (hx : Kept kk qq x))

theorem execPldmMonitoring_kept (bus : Fin 2) (cmd : ℕ) (arg : ℕ) (s : State) (h0 : Kept kk qq s) : KeptO kk qq (execPldmMonitoring bus cmd arg s) := by
  unfold execPldmMonitoring
  all_goals repeat' first
    | with_reducible first
      | assumption | refine kept_next ?_ | refine served_kept _ _ _ ?_ ?_ | refine replyFree_kept _ _ ?_
      | refine readEvent_kept _ _ ?_ | refine reply_kept _ _ _ ?_
    | (intro x; intro (hx : Kept kk qq x))
    | (with_reducible refine kept_upd ?_; with_reducible first | assumption)
    | split

theorem execPldmFru_kept (bus : Fin 2) (s : State) (h0 : Kept kk qq s) : KeptO kk qq (execPldmFru bus s) := by
  unfold execPldmFru
  all_goals repeat' first
    | with_reducible first
      | assumption | refine kept_next ?_ | refine served_kept _ _ _ ?_ ?_ | refine reply_kept _ _ _ ?_
    | (intro x; intro (hx : Kept kk qq x))

theorem execPldmFirmwareUpdate_kept (component : ℕ) (image : List Byte) (verified : Bool) (s : State) (h0 : Kept kk qq s) : KeptO kk qq (execPldmFirmwareUpdate component image verified s) := by
  unfold execPldmFirmwareUpdate
  all_goals repeat' first
    | with_reducible first
      | assumption | refine kept_ite _ _ _ ?_ ?_ | refine kept_next ?_ | refine servedAny_kept _ _ ?_ ?_
    | (intro x; intro (hx : Kept kk qq x))
    | (with_reducible refine kept_upd ?_; with_reducible first | assumption)

theorem execReadReg_kept (bus : Fin 2) (addr : ℕ) (s : State) (h0 : Kept kk qq s) : KeptO kk qq (execReadReg bus addr s) := by
  unfold execReadReg
  all_goals repeat' first
    | with_reducible first
      | assumption | refine kept_ite _ _ _ ?_ ?_ | refine kept_next ?_ | refine kept_foldl _ _ ?_ ?_
      | refine served_kept _ _ _ ?_ ?_ | refine readWord_kept _ _ _ ?_ | refine reply_kept _ _ _ ?_
      | refine readResult_kept _ _ _ ?_
    | (intro x; intro (hx : Kept kk qq x))
    | split

theorem execReadRegTimeout_kept (bus : Fin 2) (addr : ℕ) (s : State) (h0 : Kept kk qq s) : KeptO kk qq (execReadRegTimeout bus addr s) := by
  unfold execReadRegTimeout
  all_goals repeat' first
    | with_reducible first
      | assumption | refine kept_ite _ _ _ ?_ ?_ | refine kept_next ?_ | refine served_kept _ _ _ ?_ ?_
      | refine reply_kept _ _ _ ?_
    | (intro x; intro (hx : Kept kk qq x))

theorem execReadFaultLog_kept (bus : Fin 2) (i : ℕ) (s : State) (h0 : Kept kk qq s) : KeptO kk qq (execReadFaultLog bus i s) := by
  unfold execReadFaultLog
  all_goals repeat' first
    | with_reducible first
      | assumption | refine kept_next ?_ | refine served_kept _ _ _ ?_ ?_ | refine reply_kept _ _ _ ?_
    | (intro x; intro (hx : Kept kk qq x))

theorem execReadUsage_kept (bus : Fin 2) (seq : ℕ) (s : State) (h0 : Kept kk qq s) : KeptO kk qq (execReadUsage bus seq s) := by
  unfold execReadUsage
  all_goals repeat' first
    | with_reducible first
      | assumption | refine kept_ite _ _ _ ?_ ?_ | refine kept_next ?_ | refine served_kept _ _ _ ?_ ?_
      | refine reply_kept _ _ _ ?_
    | (intro x; intro (hx : Kept kk qq x))

theorem execShutdown_kept (s : State) (h0 : Kept kk qq s) : KeptO kk qq (execShutdown s) := by
  unfold execShutdown
  all_goals repeat' first
    | with_reducible first
      | assumption | refine kept_next ?_ | refine servedAny_kept _ _ ?_ ?_ | refine shutdownSeq_kept _ _ ?_
    | (intro x; intro (hx : Kept kk qq x))

theorem execModuleReset_kept (force : Bool) (s : State) (h0 : Kept kk qq s) : KeptO kk qq (execModuleReset force s) := by
  unfold execModuleReset
  all_goals repeat' first
    | with_reducible first
      | assumption | refine kept_next ?_ | refine servedAny_kept _ _ ?_ ?_ | refine swReset_kept _ _ ?_
    | (intro x; intro (hx : Kept kk qq x))

theorem execSetdasa_kept (addr : ℕ) (s : State) (h0 : Kept kk qq s) : KeptO kk qq (execSetdasa addr s) := by
  unfold execSetdasa
  all_goals repeat' first
    | with_reducible first
      | assumption | refine kept_ite _ _ _ ?_ ?_ | refine kept_next ?_
    | (with_reducible refine kept_upd ?_; with_reducible first | assumption)

theorem execEntdaa_kept (addr : ℕ) (s : State) (h0 : Kept kk qq s) : KeptO kk qq (execEntdaa addr s) := by
  unfold execEntdaa
  all_goals repeat' first
    | with_reducible first
      | assumption | refine kept_ite _ _ _ ?_ ?_ | refine kept_next ?_
    | (with_reducible refine kept_upd ?_; with_reducible first | assumption)

theorem execMgtBusShort_kept (bus : Fin 2) (s : State) (h0 : Kept kk qq s) : KeptO kk qq (execMgtBusShort bus s) := by
  unfold execMgtBusShort
  all_goals repeat' first
    | with_reducible first
      | assumption | refine kept_ite _ _ _ ?_ ?_ | refine kept_next ?_ | refine kept_foldl _ _ ?_ ?_
      | refine setBus_kept _ _ _ ?_ | refine logFault_kept _ _ ?_
    | (with_reducible refine kept_upd ?_; with_reducible first | refine kept_ite _ _ _ ?_ ?_ | refine kept_foldl _ _ ?_ ?_ | refine setBus_kept _ _ _ ?_)
    | split

theorem busesReturn_kept (s : State) (h0 : Kept kk qq s) : Kept kk qq (busesReturn s) := by
  unfold busesReturn
  all_goals repeat' first
    | with_reducible first
      | assumption | refine kept_foldl _ _ ?_ ?_ | refine setBus_kept _ _ _ ?_
    | intro x
    | (with_reducible refine kept_upd ?_; with_reducible first | assumption)

theorem execMgtPinStuck_kept (pin : Fin 3) (s : State) (h0 : Kept kk qq s) : KeptO kk qq (execMgtPinStuck pin s) := by
  unfold execMgtPinStuck
  all_goals repeat' first
    | with_reducible first
      | assumption | refine kept_next ?_ | refine logFault_kept _ _ ?_
    | (with_reducible refine kept_upd ?_; with_reducible first | assumption)
    | split

theorem setAcc_kept (s : State) (c : CoreRef) (i : ℕ) (a : Acc) (h0 : Kept kk qq s) : Kept kk qq (setAcc s c i a) := by
  unfold setAcc
  all_goals repeat' first
    | with_reducible first
      | assumption | refine kept_ite _ _ _ ?_ ?_ | refine modCore_kept _ _ _ ?_

theorem clearAcc_kept (s : State) (c : CoreRef) (i : ℕ) (h0 : Kept kk qq s) : Kept kk qq (clearAcc s c i) := by
  unfold clearAcc
  all_goals repeat' first
    | with_reducible first
      | assumption | refine modCore_kept _ _ _ ?_

theorem tileRead_kept (s : State) (c : CoreRef) (fmt : Fmt) (sparse : Bool) (tile : ℕ) (d : ℕ) (stamp : Word64) (instr : ℕ) (h0 : Kept kk qq s) : Kept kk qq (tileRead s c fmt sparse tile d stamp instr).1 := by
  unfold tileRead
  all_goals repeat' first
    | with_reducible first
      | assumption | refine raise_kept _ _ ?_ | refine meetWide_kept _ _ _ _ _ ?_
      | refine meetRow_kept _ _ _ _ ?_
    | lift_lets
    | intro x
    | split

theorem feedRow_kept (s : State) (o : FeedOp) (h0 : Kept kk qq s) : Kept kk qq (feedRow s o).1 := by
  unfold feedRow
  dsimp only
  split
  · split
    · split
      · exact modCore_kept _ _ _ h0
      · exact h0
    · exact h0
  · have ht := tileRead_kept s o.core o.fed o.sparse o.tile o.dataRow o.stamp o.instr h0
    split
    · rename_i heq
      rw [heq] at ht
      exact modCore_kept _ _ _ ht
    · rename_i heq
      rw [heq] at ht
      exact ht

theorem execFeed_kept (o : FeedOp) (s : State) (h0 : Kept kk qq s) : KeptO kk qq (execFeed o s) := by
  unfold execFeed
  dsimp only
  refine kept_next (kept_ite _ _ _ (asOp_kept _ _ _ _ h0 ?_) h0)
  intro t ht
  have hr := feedRow_kept t { o with sparse := o.sparse && !privateTile s o.core (rowAt o.tile) } ht
  split
  · rename_i heq
    rw [heq] at hr
    exact hr
  · rename_i s' l heq
    rw [heq] at hr
    exact modCore_kept _ _ _ (setAcc_kept _ _ _ _ (meetFile_kept _ _ _ _ hr))

theorem execLatch_kept (c : CoreRef) (cycles : ℕ) (s : State) (h0 : Kept kk qq s) : KeptO kk qq (execLatch c cycles s) := by
  unfold execLatch
  all_goals repeat' first
    | with_reducible first
      | assumption | refine kept_next ?_ | refine asOp_kept _ _ _ _ ?_ ?_ | refine modCore_kept _ _ _ ?_
    | (intro x; intro (hx : Kept kk qq x))

theorem execFileLoad_kept (o : OpAt) (addr : ℕ) (side : Bool) (row : Fin 32) (s : State) (h0 : Kept kk qq s) : KeptO kk qq (execFileLoad o addr side row s) := by
  unfold execFileLoad
  all_goals repeat' first
    | with_reducible first
      | assumption | refine kept_ite _ _ _ ?_ ?_ | refine kept_next ?_ | refine asOp_kept _ _ _ _ ?_ ?_
      | refine onAccess_kept _ _ _ _ _ _ ?_ ?_ | refine meetRow_kept _ _ _ _ ?_ | refine modCore_kept _ _ _ ?_
    | (intro x; intro (hx : Kept kk qq x))

theorem sendPartial_kept (s : State) (c : CoreRef) (owner : CoreRef) (a : Acc) (stamp : Word64) (h0 : Kept kk qq s) : Kept kk qq (sendPartial s c owner a stamp) := by
  unfold sendPartial
  all_goals repeat' first
    | with_reducible first
      | assumption | refine kept_ite _ _ _ ?_ ?_ | refine kept_foldl _ _ ?_ ?_
      | refine sendTo_kept _ _ _ _ _ _ _ _ ?_
    | split

theorem retain_kept (s : State) (c : CoreRef) (stamp : Word64) (tensor : ℕ) (a : Acc) (h0 : Kept kk qq s) : Kept kk qq (retain s c stamp tensor a) := by
  unfold retain
  all_goals repeat' first
    | with_reducible first
      | assumption | refine modCore_kept _ _ _ ?_

theorem settleAcc_kept (s : State) (o : CloseOp) (a : Acc) (h0 : Kept kk qq s) : Kept kk qq (settleAcc s o a).1 := by
  unfold settleAcc
  all_goals repeat' first
    | with_reducible first
      | assumption | refine kept_ite _ _ _ ?_ ?_ | refine recomputeSlips_kept _ _ _ _ ?_
      | refine countNum_kept _ _ _ _ ?_ | refine raise_kept _ _ ?_

theorem settleAccs_kept (s : State) (o : CloseOp) (x2 : List ℕ) (h0 : Kept kk qq s) : Kept kk qq (settleAccs s o x2).1 := by
  revert h0
  fun_induction settleAccs s o x2 <;> intro h0
  all_goals repeat' first
    | with_reducible first
      | assumption | refine kept_ite _ _ _ ?_ ?_ | refine settleAcc_kept _ _ _ ?_
      | refine clearAcc_kept _ _ _ ?_
    | with_reducible apply_assumption

theorem writeClosed_kept (s : State) (o : CloseOp) (as : List Acc) (h0 : Kept kk qq s) : Kept kk qq (writeClosed s o as) := by
  unfold writeClosed
  all_goals repeat' first
    | with_reducible first
      | assumption | refine raise_kept _ _ ?_ | refine writeBlock_kept _ _ _ _ _ _ ?_
      | refine onAccess_kept _ _ _ _ _ _ ?_ ?_ | refine storeWrite_kept _ _ _ _ _ ?_
    | (intro x; intro (hx : Kept kk qq x))
    | split

theorem mismatch_kept (s : State) (c : CoreRef) (stamp : Word64) (element : ℕ) (expected : ℕ) (got : ℕ) (h0 : Kept kk qq s) : Kept kk qq (mismatch s c stamp element expected got) := by
  unfold mismatch
  all_goals repeat' first
    | with_reducible first
      | assumption | refine raise_kept _ _ ?_

theorem reAnchorAll_kept (s : State) (c : CoreRef) (contributors : List CoreRef) (stamp : Word64) (a : Acc) (anchor : ℤ) (h0 : Kept kk qq s) : Kept kk qq (reAnchorAll s c contributors stamp a anchor) := by
  unfold reAnchorAll
  all_goals repeat' first
    | with_reducible first
      | assumption | refine kept_foldl _ _ ?_ ?_ | refine sendTo_kept _ _ _ _ _ _ _ _ ?_
    | intro x

theorem ownerReAnchor_kept (s : State) (c : CoreRef) (contributors : List CoreRef) (stamp : Word64) (layer : ℕ) (recomputeLen : ℕ) (i : ℕ) (a : Acc) (h0 : Kept kk qq s) : Kept kk qq (ownerReAnchor s c contributors stamp layer recomputeLen i a) := by
  unfold ownerReAnchor
  all_goals repeat' first
    | with_reducible first
      | assumption | refine kept_ite _ _ _ ?_ ?_ | refine setAcc_kept _ _ _ _ ?_
      | refine countNum_kept _ _ _ _ ?_ | refine reqSlip_kept _ _ _ _ ?_
      | refine reAnchorAll_kept _ _ _ _ _ _ ?_ | refine openSlip_kept _ _ _ _ _ ?_

theorem closeOwner_kept (s : State) (o : CloseOp) (h0 : Kept kk qq s) : Kept kk qq (closeOwner s o) := by
  unfold closeOwner
  all_goals repeat' first
    | with_reducible first
      | assumption | refine kept_ite _ _ _ ?_ ?_ | refine kept_foldl _ _ ?_ ?_
      | refine mismatch_kept _ _ _ _ _ _ ?_ | refine settleAccs_kept _ _ _ ?_
      | refine writeClosed_kept _ _ _ ?_ | refine ownerReAnchor_kept _ _ _ _ _ _ _ _ ?_
    | intro x
    | split

theorem closeSum_kept (s : State) (o : CloseOp) (h0 : Kept kk qq s) : Kept kk qq (closeSum s o) := by
  unfold closeSum
  all_goals repeat' first
    | with_reducible first
      | assumption | refine kept_ite _ _ _ ?_ ?_ | refine kept_foldl _ _ ?_ ?_ | refine clearAcc_kept _ _ _ ?_
      | refine retain_kept _ _ _ _ _ ?_ | refine sendPartial_kept _ _ _ _ _ ?_ | refine closeOwner_kept _ _ ?_
      | refine settleAccs_kept _ _ _ ?_ | refine writeClosed_kept _ _ _ ?_
    | intro x

theorem execClose_kept (o : CloseOp) (s : State) (h0 : Kept kk qq s) : KeptO kk qq (execClose o s) := by
  unfold execClose
  all_goals repeat' first
    | with_reducible first
      | assumption | refine kept_next ?_ | refine closeSum_kept _ _ ?_ | refine passOp_kept _ _ ?_
      | refine closeOrdered_kept _ _ _ _ _ _ _ ?_ | refine closeMerge_kept _ _ _ _ _ _ _ _ ?_
      | refine closeScores_kept _ _ _ _ _ _ _ _ ?_ | refine closeRouter_kept _ _ _ _ _ _ _ _ ?_
      | refine closePredict_kept _ _ _ _ _ _ _ _ ?_ | refine closeCombine_kept _ _ _ _ _ _ _ _ _ ?_
    | split

theorem testOwner_kept (s : State) (o : PartialOp) (i : ℕ) (a : Acc) (h0 : Kept kk qq s) : Kept kk qq (testOwner s o i a) := by
  unfold testOwner
  all_goals repeat' first
    | with_reducible first
      | assumption | refine kept_ite _ _ _ ?_ ?_ | refine meetCore_kept _ _ _ _ ?_
      | refine mismatch_kept _ _ _ _ _ _ ?_ | refine ownerReAnchor_kept _ _ _ _ _ _ _ _ ?_

theorem addPartial_kept (s : State) (o : PartialOp) (j : ℕ) (h0 : Kept kk qq s) : Kept kk qq (addPartial s o j) := by
  unfold addPartial
  all_goals repeat' first
    | with_reducible first
      | assumption | refine kept_ite _ _ _ ?_ ?_ | refine mismatch_kept _ _ _ _ _ _ ?_
      | refine testOwner_kept _ _ _ _ ?_ | refine setAcc_kept _ _ _ _ ?_

theorem execLongPartial_kept (o : PartialOp) (s : State) (h0 : Kept kk qq s) : KeptO kk qq (execLongPartial o s) := by
  unfold execLongPartial
  all_goals repeat' first
    | with_reducible first
      | assumption | refine kept_next ?_ | refine kept_foldl _ _ ?_ ?_ | refine addPartial_kept _ _ _ ?_
      | refine takeIn_kept _ _ _ ?_
    | intro x

theorem execReAnchor_kept (o : ReAnchorOp) (s : State) (h0 : Kept kk qq s) : KeptO kk qq (execReAnchor o s) := by
  unfold execReAnchor
  all_goals repeat' first
    | with_reducible first
      | assumption | refine kept_next ?_ | refine takeIn_kept _ _ _ ?_ | refine modCore_kept _ _ _ ?_
      | refine sendPartial_kept _ _ _ _ _ ?_ | refine reqSlip_kept _ _ _ _ ?_
    | split

theorem execSave_kept (o : OpAt) (acc : Fin 64) (dst : ℕ) (s : State) (h0 : Kept kk qq s) : KeptO kk qq (execSave o acc dst s) := by
  unfold execSave
  all_goals repeat' first
    | with_reducible first
      | assumption | refine kept_next ?_ | refine asOp_kept _ _ _ _ ?_ ?_
      | refine onAccess_kept _ _ _ _ _ _ ?_ ?_ | refine modCore_kept _ _ _ ?_
      | refine storeWrite_kept _ _ _ _ _ ?_
    | (intro x; intro (hx : Kept kk qq x))

theorem execRestore_kept (o : OpAt) (acc : Fin 64) (src : ℕ) (s : State) (h0 : Kept kk qq s) : KeptO kk qq (execRestore o acc src s) := by
  unfold execRestore
  all_goals repeat' first
    | with_reducible first
      | assumption | refine kept_ite _ _ _ ?_ ?_ | refine kept_next ?_ | refine kept_foldl _ _ ?_ ?_
      | refine asOp_kept _ _ _ _ ?_ ?_ | refine onAccess_kept _ _ _ _ _ _ ?_ ?_
      | refine meetRow_kept _ _ _ _ ?_ | refine setAcc_kept _ _ _ _ ?_
    | (intro x; intro (hx : Kept kk qq x))
    | intro x
    | split

theorem execOutlierGather_kept (o : GatherOp) (s : State) (h0 : Kept kk qq s) : KeptO kk qq (execOutlierGather o s) := by
  unfold execOutlierGather
  refine kept_next (kept_ite _ _ _ ?_ h0)
  have h1 : Kept kk qq (if o.pass = 0 then passOp s o.core else s) := kept_ite _ _ _ (passOp_kept _ _ h0) h0
  have ht := tileRead_kept _ o.core o.fed o.sparse o.tile o.dataRow o.stamp o.instr h1
  dsimp only
  split
  · rename_i heq
    rw [heq] at ht
    exact ht
  · rename_i heq
    rw [heq] at ht
    split
    · exact ht
    · exact modCore_kept _ _ _ (setAcc_kept _ _ _ _ ht)

theorem windowWrite_kept (s : State) (t : State) (w : ℕ) (h0 : Kept kk qq s) (h1 : Kept kk qq t) : Kept kk qq (windowWrite s t w) := by
  unfold windowWrite
  all_goals repeat' first
    | with_reducible first
      | assumption | refine kept_ite _ _ _ ?_ ?_ | refine setF_kept _ _ _ _ _ ?_

theorem execWinCtl_kept (off : ℕ) (v : ℕ) (s : State) (h0 : Kept kk qq s) : KeptO kk qq (execWinCtl off v s) := by
  unfold execWinCtl
  all_goals repeat' first
    | with_reducible first
      | assumption | refine kept_ite _ _ _ ?_ ?_ | refine kept_next ?_ | refine regWrite_kept _ _ _ ?_ ?_
      | refine windowWrite_kept _ _ _ ?_ ?_ | refine setF_kept _ _ _ _ _ ?_
    | (intro x; intro (hx : Kept kk qq x))

theorem ringRefused_kept (s : State) (h0 : Kept kk qq s) : Kept kk qq (ringRefused s) := by
  unfold ringRefused
  all_goals repeat' first
    | with_reducible first
      | assumption | refine kept_ite _ _ _ ?_ ?_ | refine setF_kept _ _ _ _ _ ?_

theorem ringCtl_kept (s : State) (r : Ring) (en : Fld) (vector : Fld) (v : ℕ) (h0 : Kept kk qq s) : Kept kk qq (ringCtl s r en vector v) := by
  unfold ringCtl
  all_goals repeat' first
    | with_reducible first
      | assumption | refine kept_ite _ _ _ ?_ ?_ | refine setF_kept _ _ _ _ _ ?_
      | refine ringEmpty_kept _ _ ?_ | refine ringRefused_kept _ ?_

theorem ringBase_kept (s : State) (r : Ring) (en : Fld) (v : ℕ) (h0 : Kept kk qq s) : Kept kk qq (ringBase s r en v) := by
  unfold ringBase
  all_goals repeat' first
    | with_reducible first
      | assumption | refine kept_ite _ _ _ ?_ ?_ | refine ringEmpty_kept _ _ ?_
      | refine setF_kept _ _ _ _ _ ?_

theorem execRingEn_kept (v : ℕ) (s : State) (h0 : Kept kk qq s) : KeptO kk qq (execRingEn v s) := by
  unfold execRingEn
  all_goals repeat' first
    | with_reducible first
      | assumption | refine kept_next ?_ | refine regWrite_kept _ _ _ ?_ ?_ | refine ringCtl_kept _ _ _ _ _ ?_
    | (intro x; intro (hx : Kept kk qq x))

theorem execRingHead_kept (v : ℕ) (s : State) (h0 : Kept kk qq s) : KeptO kk qq (execRingHead v s) := by
  unfold execRingHead
  all_goals repeat' first
    | with_reducible first
      | assumption | refine kept_next ?_ | refine regWrite_kept _ _ _ ?_ ?_
      | refine ringHeadWrite_kept _ _ _ ?_
    | (intro x; intro (hx : Kept kk qq x))

theorem execTelEn_kept (v : ℕ) (s : State) (h0 : Kept kk qq s) : KeptO kk qq (execTelEn v s) := by
  unfold execTelEn
  all_goals repeat' first
    | with_reducible first
      | assumption | refine kept_ite _ _ _ ?_ ?_ | refine kept_next ?_ | refine kept_foldl _ _ ?_ ?_
      | refine regWrite_kept _ _ _ ?_ ?_ | refine ringCtl_kept _ _ _ _ _ ?_
    | (intro x; intro (hx : Kept kk qq x))
    | split

theorem execHead_kept (v : ℕ) (s : State) (h0 : Kept kk qq s) : KeptO kk qq (execHead v s) := by
  unfold execHead
  all_goals repeat' first
    | with_reducible first
      | assumption | refine kept_next ?_ | refine regWrite_kept _ _ _ ?_ ?_
      | refine ringHeadWrite_kept _ _ _ ?_
    | (intro x; intro (hx : Kept kk qq x))

theorem restartSq_kept (s : State) (q' : ℕ) (h0 : Kept kk qq s) : Kept kk qq (restartSq s q') := by
  unfold restartSq
  all_goals repeat' first
    | with_reducible first
      | assumption | refine modQ_kept _ _ _ ?_

theorem restartRq_kept (s : State) (q' : ℕ) (h0 : Kept kk qq s) : Kept kk qq (restartRq s q') := by
  unfold restartRq
  all_goals repeat' first
    | with_reducible first
      | assumption | refine kept_ite _ _ _ ?_ ?_ | refine modQ_kept _ _ _ ?_

theorem queueSize_kept (s : State) (f : Fld) (q' : ℕ) (lg : ℕ) (restart : State → ℕ → State) (h0 : Kept kk qq s) (h1 : ∀ t y0, Kept kk qq t → Kept kk qq (restart t y0)) : Kept kk qq (queueSize s f q' lg restart) := by
  unfold queueSize
  all_goals repeat' first
    | with_reducible first
      | assumption | refine kept_ite _ _ _ ?_ ?_ | refine setF_kept _ _ _ _ _ ?_ | refine h1 _ _ ?_

theorem queueBase_kept (s : State) (f : Fld) (q' : ℕ) (v : ℕ) (restart : State → ℕ → State) (h0 : Kept kk qq s) (h1 : ∀ t y0, Kept kk qq t → Kept kk qq (restart t y0)) : Kept kk qq (queueBase s f q' v restart) := by
  unfold queueBase
  all_goals repeat' first
    | with_reducible first
      | assumption | refine kept_ite _ _ _ ?_ ?_ | refine setF_kept _ _ _ _ _ ?_ | refine h1 _ _ ?_

theorem queueCtl_kept (s : State) (q' : ℕ) (v : ℕ) (h0 : Kept kk qq s) : Kept kk qq (queueCtl s q' v) := by
  unfold queueCtl
  all_goals repeat' first
    | with_reducible first
      | assumption | refine setF_kept _ _ _ _ _ ?_ | refine queueSize_kept _ _ _ _ _ ?_ ?_
      | refine restartSq_kept _ _ ?_ | refine restartRq_kept _ _ ?_
    | intro x

theorem execQueueEnable_kept (v : ℕ) (s : State) (h0 : Kept kk qq s) : KeptO kk qq (execQueueEnable v s) := by
  unfold execQueueEnable
  all_goals repeat' first
    | with_reducible first
      | assumption | refine kept_ite _ _ _ ?_ ?_ | refine kept_next ?_ | refine regWrite_kept _ _ _ ?_ ?_
      | refine queueCtl_kept _ _ _ ?_ | refine setF_kept _ _ _ _ _ ?_ | refine ringRefused_kept _ ?_
    | (intro x; intro (hx : Kept kk qq x))

theorem execQueueDisable_kept (v : ℕ) (s : State) (h0 : Kept kk qq s) : KeptO kk qq (execQueueDisable v s) := by
  unfold execQueueDisable
  all_goals repeat' first
    | with_reducible first
      | assumption | refine kept_ite _ _ _ ?_ ?_ | refine kept_next ?_ | refine kept_foldl _ _ ?_ ?_
      | refine regWrite_kept _ _ _ ?_ ?_ | refine setF_kept _ _ _ _ _ ?_ | refine queueCtl_kept _ _ _ ?_
    | (intro x; intro (hx : Kept kk qq x))
    | split

theorem execLocked_kept (page : ℕ) (s : State) (h0 : Kept kk qq s) : KeptO kk qq (execLocked page s) := by
  unfold execLocked
  all_goals repeat' first
    | with_reducible first
      | assumption | refine kept_ite _ _ _ ?_ ?_ | refine kept_next ?_ | refine setF_kept _ _ _ _ _ ?_
      | refine flagBadAccess_kept _ _ ?_

theorem writeField_kept (s : State) (p : ℕ) (inst : ℕ) (k' : ℕ) (v : ℕ) (f : Fld) (h0 : Kept kk qq s) : Kept kk qq (writeField s p inst k' v f) := by
  unfold writeField
  all_goals repeat' first
    | with_reducible first
      | assumption | refine setF_kept _ _ _ _ _ ?_
    | split

theorem plainWrite_kept (s : State) (ty : ℕ) (n : ℕ) (p : ℕ) (off : ℕ) (v : ℕ) (h0 : Kept kk qq s) : Kept kk qq (plainWrite s ty n p off v) := by
  unfold plainWrite
  all_goals repeat' first
    | with_reducible first
      | assumption | refine kept_ite _ _ _ ?_ ?_ | refine kept_foldl _ _ ?_ ?_
      | refine writeField_kept _ _ _ _ _ _ ?_
    | intro x

theorem headerWrite_kept (s : State) (p : ℕ) (off : ℕ) (v : ℕ) (h0 : Kept kk qq s) : Kept kk qq (headerWrite s p off v) := by
  unfold headerWrite
  all_goals repeat' first
    | with_reducible first
      | assumption | refine kept_foldl _ _ ?_ ?_ | refine refreshIrq_kept _ _ ?_
      | refine writeField_kept _ _ _ _ _ _ ?_
    | intro x

theorem plainPair_kept (s : State) (ty : ℕ) (n : ℕ) (off : ℕ) (v : ℕ) (h0 : Kept kk qq s) : Kept kk qq (plainPair s ty n off v) := by
  unfold plainPair
  all_goals repeat' first
    | with_reducible first
      | assumption | refine kept_foldl _ _ ?_ ?_ | refine writeField_kept _ _ _ _ _ _ ?_
    | intro x

theorem pairWrite_kept (s : State) (p : ℕ) (off : ℕ) (v : ℕ) (h0 : Kept kk qq s) : KeptO kk qq (pairWrite s p off v) := by
  unfold pairWrite
  all_goals repeat' first
    | with_reducible first
      | assumption | refine kept_next ?_ | refine regWrite_kept _ _ _ ?_ ?_ | refine ringBase_kept _ _ _ _ ?_
      | refine execWinCtl_kept _ _ _ ?_ | refine plainPair_kept _ _ _ _ _ ?_
      | refine queueBase_kept _ _ _ _ _ ?_ ?_ | refine restartSq_kept _ _ ?_ | refine restartRq_kept _ _ ?_
      | refine execRdSeq_kept _ _ ?_ | refine execAckSeq_kept _ _ ?_
    | intro x
    | split

theorem splitCtl_kept (s : State) (k' : ℕ) (p : ℕ) (v : ℕ) (h0 : Kept kk qq s) : Kept kk qq (splitCtl s k' p v) := by
  unfold splitCtl
  all_goals repeat' first
    | with_reducible first
      | assumption | refine regWrite_kept _ _ _ ?_ ?_ | refine resumeSplit_kept _ _ ?_
      | refine plainWrite_kept _ _ _ _ _ _ ?_
    | (intro x; intro (hx : Kept kk qq x))

theorem timeCtl_kept (s : State) (v : ℕ) (h0 : Kept kk qq s) : Kept kk qq (timeCtl s v) := by
  unfold timeCtl
  all_goals repeat' first
    | with_reducible first
      | assumption | refine kept_ite _ _ _ ?_ ?_ | refine kept_foldl _ _ ?_ ?_
      | refine regWrite_kept _ _ _ ?_ ?_ | refine chooseSource_kept _ ?_
      | refine plainWrite_kept _ _ _ _ _ _ ?_
    | (intro x; intro (hx : Kept kk qq x))
    | split

theorem mailCtl_kept (s : State) (g : ℕ) (v : ℕ) (h0 : Kept kk qq s) : Kept kk qq (mailCtl s g v) := by
  unfold mailCtl
  all_goals repeat' first
    | with_reducible first
      | assumption | refine kept_ite _ _ _ ?_ ?_ | refine regWrite_kept _ _ _ ?_ ?_
      | refine setF_kept _ _ _ _ _ ?_ | refine kmbGo_kept _ _ ?_
    | (intro x; intro (hx : Kept kk qq x))

theorem linkCtl_kept (k' : ℕ) (v : ℕ) (s : State) (h0 : Kept kk qq s) : KeptO kk qq (linkCtl k' v s) := by
  unfold linkCtl
  all_goals repeat' first
    | with_reducible first
      | assumption | refine execRetrain_kept _ _ _ ?_

theorem wordWrite_kept (s : State) (p : ℕ) (off : ℕ) (v : ℕ) (h0 : Kept kk qq s) : KeptO kk qq (wordWrite s p off v) := by
  unfold wordWrite
  split
  · exact h0
  split
  all_goals try split
  all_goals first
      | with_reducible exact kept_next (timeCtl_kept _ _ h0)
      | with_reducible exact kept_next (splitCtl_kept _ _ _ _ h0)
      | with_reducible exact kept_next (mailCtl_kept _ _ _ h0)
      | with_reducible exact kept_next (regWrite_kept _ _ _ h0 fun t ht => ht)
      | with_reducible exact kept_next (regWrite_kept _ _ _ h0 fun t ht => plainWrite_kept _ _ _ _ _ _ ht)
      | with_reducible exact execBlockReset_kept _ _ h0
      | with_reducible exact execSoftwareModuleReset_kept _ _ h0
      | with_reducible exact execForceStep_kept _ _ h0
      | with_reducible exact execRetentionRequest_kept _ h0
      | with_reducible exact execRetentionExit_kept _ _ h0
      | with_reducible exact execTarget_kept _ _ h0
      | with_reducible exact execRingEn_kept _ _ h0
      | with_reducible exact execRingHead_kept _ _ h0
      | with_reducible exact execWinCtl_kept _ _ _ h0
      | with_reducible exact execQueueEnable_kept _ _ h0
      | with_reducible exact execQueueDisable_kept _ _ h0
      | with_reducible exact execLimitGib_kept _ _ h0
      | with_reducible exact execTelEn_kept _ _ h0
      | with_reducible exact execHead_kept _ _ h0
      | with_reducible exact execIntervalS_kept _ _ h0
      | with_reducible exact execKeeperHalt_kept _ _ h0
      | with_reducible exact execHaltEnd_kept _ _ h0
      | with_reducible exact execSnap_kept _ _ h0
      | with_reducible exact execClear_kept _ _ h0
      | with_reducible exact execSqTail_kept _ _ _ h0
      | with_reducible exact execRqHead_kept _ _ _ h0
      | with_reducible exact execAck_kept _ _ h0
      | with_reducible exact linkCtl_kept _ _ _ h0
      | skip
  · rename_i n _ _ _ _ _
    have h := execSnap_kept (kk := kk) (qq := qq) (Fin.ofNat 256 n) _ h0
    split
    · rename_i heq
      rw [heq] at h
      exact execClear_kept _ _ h
    · exact h

theorem debugWrite_kept (s : State) (addr : ℕ) (bs : List Byte) (h0 : Kept kk qq s) : Kept kk qq (debugWrite s addr bs) := by
  unfold debugWrite
  all_goals repeat' first
    | with_reducible first
      | assumption | refine kept_ite _ _ _ ?_ ?_ | refine narrowWrite_kept _ _ _ _ _ ?_
      | refine debugRefused_kept _ ?_
    | split

theorem halfWrite_kept (s : State) (r : Requester) (addr : ℕ) (v : ℕ) (h0 : Kept kk qq s) : KeptO kk qq (halfWrite s r addr v) := by
  unfold halfWrite
  all_goals repeat' first
    | with_reducible first
      | assumption | refine kept_next ?_ | refine regWrite_kept _ _ _ ?_ ?_ | refine pairWrite_kept _ _ _ _ ?_
    | lift_lets
    | intro x
    | (with_reducible refine kept_upd ?_; with_reducible first | assumption)
    | split

theorem hostRegWrite_kept (r : Requester) (addr : ℕ) (wide : Bool) (v : ℕ) (s : State) (h0 : Kept kk qq s) : KeptO kk qq (hostRegWrite r addr wide v s) := by
  unfold hostRegWrite
  all_goals repeat' first
    | with_reducible first
      | assumption | refine kept_next ?_ | refine flagBadAccess_kept _ _ ?_ | refine pairWrite_kept _ _ _ _ ?_
      | refine headerWrite_kept _ _ _ _ ?_ | refine halfWrite_kept _ _ _ _ ?_
      | refine wordWrite_kept _ _ _ _ ?_
    | lift_lets
    | intro x
    | split

theorem execRegisterWrite_kept (r : Requester) (addr : ℕ) (wide : Bool) (v : ℕ) (s : State) (h0 : Kept kk qq s) : KeptO kk qq (execRegisterWrite r addr wide v s) := by
  unfold execRegisterWrite
  all_goals repeat' first
    | with_reducible first
      | assumption | refine kept_next ?_ | refine flagBadAccess_kept _ _ ?_ | refine debugWrite_kept _ _ _ ?_
      | refine hostRegWrite_kept _ _ _ _ _ ?_
    | split

theorem putRow_kept (s : State) (c : CoreRef) (d : VRow) (bs : List Byte) (poison : Bool) (h0 : Kept kk qq s) : Kept kk qq (putRow s c d bs poison) := by
  unfold putRow
  all_goals repeat' first
    | with_reducible first
      | assumption | refine storeWrite_kept _ _ _ _ _ ?_ | refine modCore_kept _ _ _ ?_
    | split

theorem meetOperand_kept (s : State) (c : CoreRef) (who : Who) (x3 : VRow) (h0 : Kept kk qq s) : Kept kk qq (meetOperand s c who x3) := by
  unfold meetOperand
  all_goals repeat' first
    | with_reducible first
      | assumption | refine kept_ite _ _ _ ?_ ?_ | refine kept_foldl _ _ ?_ ?_
      | refine meetRow_kept _ _ _ _ ?_ | refine meetFile_kept _ _ _ _ ?_
    | split

theorem meetRows_kept (s : State) (c : CoreRef) (who : Who) (rows : List VRow) (h0 : Kept kk qq s) : Kept kk qq (meetRows s c who rows) := by
  unfold meetRows
  all_goals repeat' first
    | with_reducible first
      | assumption | refine kept_foldl _ _ ?_ ?_ | refine meetOperand_kept _ _ _ _ ?_
    | intro x

theorem withRows_kept (s : State) (o : OpAt) (op : ℕ) (srcs : List VRow) (dsts : List VRow) (f : State → State) (h0 : Kept kk qq s) (h1 : ∀ t, Kept kk qq t → Kept kk qq (f t)) : Kept kk qq (withRows s o op srcs dsts f) := by
  unfold withRows
  all_goals repeat' first
    | with_reducible first
      | assumption | refine asOp_kept _ _ _ _ ?_ ?_ | refine raise_kept _ _ ?_
      | refine meetRows_kept _ _ _ _ ?_ | refine h1 _ ?_
    | (intro x; intro (hx : Kept kk qq x))
    | split

theorem vecLanes_kept (s : State) (o : VOp) (op : ℕ) (srcs : List VRow) (g : List (List ℕ) → List ℕ) (h0 : Kept kk qq s) : Kept kk qq (vecLanes s o op srcs g) := by
  unfold vecLanes
  all_goals repeat' first
    | with_reducible first
      | assumption | refine kept_ite _ _ _ ?_ ?_ | refine withRows_kept _ _ _ _ _ _ ?_ ?_
      | refine putRow_kept _ _ _ _ _ ?_
    | (intro x; intro (hx : Kept kk qq x))

theorem vecUn_kept (s : State) (o : VOp) (op : ℕ) (f : FVal → FVal) (h0 : Kept kk qq s) : Kept kk qq (vecUn s o op f) := by
  unfold vecUn
  all_goals repeat' first
    | with_reducible first
      | assumption | refine kept_ite _ _ _ ?_ ?_ | refine vecLanes_kept _ _ _ _ _ ?_

theorem vecBin_kept (s : State) (o : VOp) (op : ℕ) (f : FVal → FVal → FVal) (h0 : Kept kk qq s) : Kept kk qq (vecBin s o op f) := by
  unfold vecBin
  all_goals repeat' first
    | with_reducible first
      | assumption | refine kept_ite _ _ _ ?_ ?_ | refine vecLanes_kept _ _ _ _ _ ?_

theorem vecF32_kept (s : State) (o : VOp) (op : ℕ) (f : ℕ → ℕ) (h0 : Kept kk qq s) : Kept kk qq (vecF32 s o op f) := by
  unfold vecF32
  all_goals repeat' first
    | with_reducible first
      | assumption | refine kept_ite _ _ _ ?_ ?_ | refine vecLanes_kept _ _ _ _ _ ?_

theorem vecInt_kept (s : State) (o : VOp) (op : ℕ) (f : ℕ → ℕ → ℕ) (h0 : Kept kk qq s) : Kept kk qq (vecInt s o op f) := by
  unfold vecInt
  all_goals repeat' first
    | with_reducible first
      | assumption | refine kept_ite _ _ _ ?_ ?_ | refine vecLanes_kept _ _ _ _ _ ?_

theorem execLensRotate_kept (o : LensOp) (s : State) (h0 : Kept kk qq s) : KeptO kk qq (execLensRotate o s) := by
  unfold execLensRotate
  all_goals repeat' first
    | with_reducible first
      | assumption | refine kept_ite _ _ _ ?_ ?_ | refine kept_next ?_ | refine kept_foldl _ _ ?_ ?_
      | refine asOp_kept _ _ _ _ ?_ ?_ | refine onAccess_kept _ _ _ _ _ _ ?_ ?_
      | refine meetWide_kept _ _ _ _ _ ?_ | refine storeWrite_kept _ _ _ _ _ ?_
    | (intro x; intro (hx : Kept kk qq x))
    | intro x
    | split

theorem execPositionRotate_kept (o : RotateOp) (s : State) (h0 : Kept kk qq s) : KeptO kk qq (execPositionRotate o s) := by
  unfold execPositionRotate
  refine kept_next ?_
  split
  · exact h0
  · refine asOp_kept _ _ _ _ h0 ?_
    intro t ht
    dsimp only
    split
    · exact raise_kept _ _ ht
    · refine onAccess_kept _ _ _ _ _ _ ht (fun t ht => onAccess_kept _ _ _ _ _ _ ht (fun u hu => ?_))
      exact storeWrite_kept _ _ _ _ _ (meetWide_kept _ _ _ _ _ hu)

theorem placeWindow_kept (s : State) (e : ℕ) (x : Stream) (h0 : Kept kk qq s) : Kept kk qq (placeWindow s e x) := by
  unfold placeWindow
  all_goals repeat' first
    | with_reducible first
      | assumption | refine kept_foldl _ _ ?_ ?_ | refine copyToT0_kept _ _ _ ?_
    | intro x

theorem launchStep_kept (s : State) (f : Forme) (e : ℕ) (x : Stream) (turn : ℕ) (h0 : Kept kk qq s) : Kept kk qq (launchStep s f e x turn) := by
  unfold launchStep
  all_goals repeat' first
    | with_reducible first
      | assumption | refine setSt_kept _ _ _ ?_

theorem launchFirst_kept (s : State) (f : Forme) (turn : Stream → ℕ) (x3 : List ℕ) (h0 : Kept kk qq s) : Kept kk qq (launchFirst s f turn x3).1 := by
  revert h0
  fun_induction launchFirst s f turn x3 <;> intro h0
  all_goals repeat' first
    | with_reducible first
      | assumption | refine kept_ite _ _ _ ?_ ?_ | refine launchStep_kept _ _ _ _ _ ?_
      | refine setSt_kept _ _ _ ?_
    | with_reducible apply_assumption

theorem slotLaunch_kept (s : State) (fi : ℕ) (f : Forme) (c : ℕ) (p : ℕ) (n : ℕ) (h0 : Kept kk qq s) : Kept kk qq (slotLaunch s fi f c p n).1 := by
  unfold slotLaunch
  dsimp only
  split
  · exact launchFirst_kept _ _ _ _ h0
  · exact launchFirst_kept _ _ _ _ (launchFirst_kept _ _ _ _ h0)

theorem waveOf_kept (s : State) (fi : ℕ) (f : Forme) (h0 : Kept kk qq s) : Kept kk qq (waveOf s fi f) := by
  unfold waveOf
  all_goals repeat' first
    | with_reducible first
      | assumption | refine kept_foldl _ _ ?_ ?_ | refine kept_foldlp _ _ ?_ ?_
      | refine placeWindow_kept _ _ _ ?_ | refine placeSticks_kept _ _ ?_
      | refine slotLaunch_kept _ _ _ _ _ _ ?_ | refine adjForme_kept _ _ _ ?_
    | intro x

theorem execWaveLaunch_kept (fi : FormeId) (s : State) (h0 : Kept kk qq s) : KeptO kk qq (execWaveLaunch fi s) := by
  unfold execWaveLaunch
  all_goals repeat' first
    | with_reducible first
      | assumption | refine kept_ite _ _ _ ?_ ?_ | refine kept_next ?_ | refine rewriteNow_kept _ _ ?_
      | refine waveOf_kept _ _ _ ?_
    | split

theorem countStep_kept (s : State) (e : ℕ) (x : Stream) (n : ℕ) (h0 : Kept kk qq s) : Kept kk qq (countStep s e x n) := by
  unfold countStep
  all_goals repeat' first
    | with_reducible first
      | assumption | refine use_kept _ _ _ ?_ | refine adjSt_kept _ _ _ ?_
    | (with_reducible refine kept_upd ?_; with_reducible first | assumption)

theorem writeTokens_kept (s : State) (x : Stream) (layers : ℕ) (p : ℕ) (last : Bool) (ts : List Sampled) (h0 : Kept kk qq s) : Kept kk qq (writeTokens s x layers p last ts) := by
  unfold writeTokens
  all_goals repeat' first
    | with_reducible first
      | assumption | refine kept_foldl _ _ ?_ ?_ | refine respond_kept _ _ _ ?_
    | intro x

theorem boundary_kept (s : State) (e : ℕ) (flags : ℕ) (ended : Bool) (h0 : Kept kk qq s) : Kept kk qq (boundary s e flags ended) := by
  unfold boundary
  all_goals repeat' first
    | with_reducible first
      | assumption | refine kept_ite _ _ _ ?_ ?_ | refine kept_foldl _ _ ?_ ?_
      | refine endStream_kept _ _ _ _ _ _ ?_ | refine cancelStream_kept _ _ ?_ | refine setSt_kept _ _ _ ?_
    | split

theorem deliver_kept (s : State) (e : ℕ) (x : Stream) (layers : ℕ) (p : ℕ) (samples : List Sampled) (h0 : Kept kk qq s) : Kept kk qq (deliver s e x layers p samples) := by
  unfold deliver
  all_goals repeat' first
    | with_reducible first
      | assumption | refine commitReplay_kept _ _ ?_ | refine setSt_kept _ _ _ ?_
      | refine countStep_kept _ _ _ _ ?_ | refine writeTokens_kept _ _ _ _ _ _ ?_ | refine adjSt_kept _ _ _ ?_
      | refine boundary_kept _ _ _ _ ?_

theorem advance_kept (s : State) (e : ℕ) (x : Stream) (n : ℕ) (h0 : Kept kk qq s) : Kept kk qq (advance s e x n) := by
  unfold advance
  all_goals repeat' first
    | with_reducible first
      | assumption | refine kept_ite _ _ _ ?_ ?_ | refine setSt_kept _ _ _ ?_ | refine restGalleys_kept _ ?_
      | refine flushSticks_kept _ _ _ _ ?_

theorem endDecode_kept (s : State) (e : ℕ) (x : Stream) (f : Forme) (t : Step) (lanes : List LaneOut) (guesses : List ℕ) (h0 : Kept kk qq s) : Kept kk qq (endDecode s e x f t lanes guesses) := by
  unfold endDecode
  all_goals repeat' first
    | with_reducible first
      | assumption | refine kept_ite _ _ _ ?_ ?_ | refine addF_kept _ _ _ _ _ ?_
      | refine advance_kept _ _ _ _ ?_ | refine deliver_kept _ _ _ _ _ _ ?_

theorem endPrefill_kept (s : State) (e : ℕ) (x : Stream) (f : Forme) (t : Step) (lanes : List LaneOut) (guesses : List ℕ) (h0 : Kept kk qq s) : Kept kk qq (endPrefill s e x f t lanes guesses) := by
  unfold endPrefill
  all_goals repeat' first
    | with_reducible first
      | assumption | refine kept_ite _ _ _ ?_ ?_ | refine use_kept _ _ _ ?_ | refine advance_kept _ _ _ _ ?_
      | refine boundary_kept _ _ _ _ ?_ | refine deliver_kept _ _ _ _ _ _ ?_

theorem endReplay_kept (s : State) (e : ℕ) (x : Stream) (f : Forme) (t : Step) (lanes : List LaneOut) (guesses : List ℕ) (h0 : Kept kk qq s) : Kept kk qq (endReplay s e x f t lanes guesses) := by
  unfold endReplay
  dsimp only
  split
  · exact endStream_kept _ _ _ _ _ _ (logFault_kept _ _ (setSt_kept _ _ _ h0))
  · exact boundary_kept _ _ _ _ (advance_kept _ _ _ _ h0)

theorem takeTokens_kept (s : State) (x : Stream) (h0 : Kept kk qq s) : Kept kk qq (takeTokens s x) := by
  unfold takeTokens
  all_goals repeat' first
    | with_reducible first
      | assumption
    | (with_reducible refine kept_upd ?_; with_reducible first | assumption)

theorem execToken_kept (e : EntryId) (lanes : List LaneOut) (heads : List LaneOut) (poisoned : Bool) (s : State) (h0 : Kept kk qq s) : KeptO kk qq (execToken e lanes heads poisoned s) := by
  unfold execToken
  refine kept_next ?_
  split
  · split
    · dsimp only
      have h1 := endPass_kept s e.val (by assumption) h0
      split
      · exact recoverForme_kept _ _ (setSt_kept _ _ _ h1)
      · show Kept kk qq (rewriteNow _ _)
        refine rewriteNow_kept _ _ (checkRecoveries_kept _ _ ?_)
        split
        · exact endReplay_kept _ _ _ _ _ _ _ (timeStep_kept _ _ _ h1)
        · split
          · exact endPrefill_kept _ _ _ _ _ _ _ (timeStep_kept _ _ _ h1)
          · exact endDecode_kept _ _ _ _ _ _ _ (timeStep_kept _ _ _ h1)
    · exact h0
  · exact h0

theorem execAdd_kept (o : VOp) (s : State) (h0 : Kept kk qq s) : KeptO kk qq (execAdd o s) := by
  unfold execAdd
  all_goals repeat' first
    | with_reducible first
      | assumption | refine kept_next ?_ | refine vecBin_kept _ _ _ _ ?_

theorem execSubtract_kept (o : VOp) (s : State) (h0 : Kept kk qq s) : KeptO kk qq (execSubtract o s) := by
  unfold execSubtract
  all_goals repeat' first
    | with_reducible first
      | assumption | refine kept_next ?_ | refine vecBin_kept _ _ _ _ ?_

theorem execMultiply_kept (o : VOp) (s : State) (h0 : Kept kk qq s) : KeptO kk qq (execMultiply o s) := by
  unfold execMultiply
  all_goals repeat' first
    | with_reducible first
      | assumption | refine kept_ite _ _ _ ?_ ?_ | refine kept_next ?_ | refine kept_foldl _ _ ?_ ?_
      | refine vecBin_kept _ _ _ _ ?_
    | split

theorem execMin_kept (o : VOp) (s : State) (h0 : Kept kk qq s) : KeptO kk qq (execMin o s) := by
  unfold execMin
  all_goals repeat' first
    | with_reducible first
      | assumption | refine kept_next ?_ | refine vecBin_kept _ _ _ _ ?_

theorem execMax_kept (o : VOp) (s : State) (h0 : Kept kk qq s) : KeptO kk qq (execMax o s) := by
  unfold execMax
  all_goals repeat' first
    | with_reducible first
      | assumption | refine kept_next ?_ | refine vecBin_kept _ _ _ _ ?_

theorem execAbs_kept (o : VOp) (s : State) (h0 : Kept kk qq s) : KeptO kk qq (execAbs o s) := by
  unfold execAbs
  all_goals repeat' first
    | with_reducible first
      | assumption | refine kept_ite _ _ _ ?_ ?_ | refine kept_next ?_ | refine vecUn_kept _ _ _ _ ?_

theorem execNegate_kept (o : VOp) (s : State) (h0 : Kept kk qq s) : KeptO kk qq (execNegate o s) := by
  unfold execNegate
  all_goals repeat' first
    | with_reducible first
      | assumption | refine kept_next ?_ | refine vecUn_kept _ _ _ _ ?_

theorem execFusedMultiplyAdd_kept (o : VOp) (s : State) (h0 : Kept kk qq s) : KeptO kk qq (execFusedMultiplyAdd o s) := by
  unfold execFusedMultiplyAdd
  all_goals repeat' first
    | with_reducible first
      | assumption | refine kept_ite _ _ _ ?_ ?_ | refine kept_next ?_ | refine vecLanes_kept _ _ _ _ _ ?_

theorem execSqrt_kept (o : VOp) (s : State) (h0 : Kept kk qq s) : KeptO kk qq (execSqrt o s) := by
  unfold execSqrt
  all_goals repeat' first
    | with_reducible first
      | assumption | refine kept_next ?_ | refine vecF32_kept _ _ _ _ ?_

theorem execRsqrt_kept (o : VOp) (s : State) (h0 : Kept kk qq s) : KeptO kk qq (execRsqrt o s) := by
  unfold execRsqrt
  all_goals repeat' first
    | with_reducible first
      | assumption | refine kept_next ?_ | refine vecF32_kept _ _ _ _ ?_

theorem execRcp_kept (o : VOp) (s : State) (h0 : Kept kk qq s) : KeptO kk qq (execRcp o s) := by
  unfold execRcp
  all_goals repeat' first
    | with_reducible first
      | assumption | refine kept_ite _ _ _ ?_ ?_ | refine kept_next ?_ | refine kept_foldl _ _ ?_ ?_
      | refine vecF32_kept _ _ _ _ ?_
    | split

theorem execExp2_kept (o : VOp) (s : State) (h0 : Kept kk qq s) : KeptO kk qq (execExp2 o s) := by
  unfold execExp2
  all_goals repeat' first
    | with_reducible first
      | assumption | refine kept_next ?_ | refine vecF32_kept _ _ _ _ ?_

theorem execLog2_kept (o : VOp) (s : State) (h0 : Kept kk qq s) : KeptO kk qq (execLog2 o s) := by
  unfold execLog2
  all_goals repeat' first
    | with_reducible first
      | assumption | refine kept_next ?_ | refine vecF32_kept _ _ _ _ ?_

theorem execSigmoid_kept (o : VOp) (s : State) (h0 : Kept kk qq s) : KeptO kk qq (execSigmoid o s) := by
  unfold execSigmoid
  all_goals repeat' first
    | with_reducible first
      | assumption | refine kept_ite _ _ _ ?_ ?_ | refine kept_next ?_ | refine vecF32_kept _ _ _ _ ?_

theorem execTanh_kept (o : VOp) (s : State) (h0 : Kept kk qq s) : KeptO kk qq (execTanh o s) := by
  unfold execTanh
  all_goals repeat' first
    | with_reducible first
      | assumption | refine kept_next ?_ | refine vecF32_kept _ _ _ _ ?_

theorem execErf_kept (o : VOp) (s : State) (h0 : Kept kk qq s) : KeptO kk qq (execErf o s) := by
  unfold execErf
  all_goals repeat' first
    | with_reducible first
      | assumption | refine kept_next ?_ | refine vecF32_kept _ _ _ _ ?_

theorem execSilu_kept (o : VOp) (s : State) (h0 : Kept kk qq s) : KeptO kk qq (execSilu o s) := by
  unfold execSilu
  all_goals repeat' first
    | with_reducible first
      | assumption | refine kept_next ?_ | refine vecF32_kept _ _ _ _ ?_

theorem execGelu_kept (o : VOp) (s : State) (h0 : Kept kk qq s) : KeptO kk qq (execGelu o s) := by
  unfold execGelu
  all_goals repeat' first
    | with_reducible first
      | assumption | refine kept_next ?_ | refine vecF32_kept _ _ _ _ ?_

theorem execConvert_kept (o : VOp) (src : Fmt) (dst : Fmt) (s : State) (h0 : Kept kk qq s) : KeptO kk qq (execConvert o src dst s) := by
  unfold execConvert
  all_goals repeat' first
    | with_reducible first
      | assumption | refine kept_ite _ _ _ ?_ ?_ | refine kept_next ?_ | refine kept_foldl _ _ ?_ ?_
      | refine withRows_kept _ _ _ _ _ _ ?_ ?_ | refine putRow_kept _ _ _ _ _ ?_
    | (intro x; intro (hx : Kept kk qq x))
    | split

theorem execQuantise_kept (o : QuantOp) (s : State) (h0 : Kept kk qq s) : KeptO kk qq (execQuantise o s) := by
  unfold execQuantise
  all_goals repeat' first
    | with_reducible first
      | assumption | refine kept_ite _ _ _ ?_ ?_ | refine kept_next ?_
      | refine withRows_kept _ _ _ _ _ _ ?_ ?_ | refine countNum_kept _ _ _ _ ?_ | refine raise_kept _ _ ?_
      | refine writeBlock_kept _ _ _ _ _ _ ?_
    | (intro x; intro (hx : Kept kk qq x))
    | lift_lets
    | intro x
    | split

theorem execCompare_kept (o : VOp) (kind : CmpKind) (s : State) (h0 : Kept kk qq s) : KeptO kk qq (execCompare o kind s) := by
  unfold execCompare
  all_goals repeat' first
    | with_reducible first
      | assumption | refine kept_next ?_ | refine vecLanes_kept _ _ _ _ _ ?_

theorem execSelect_kept (o : VOp) (s : State) (h0 : Kept kk qq s) : KeptO kk qq (execSelect o s) := by
  unfold execSelect
  all_goals repeat' first
    | with_reducible first
      | assumption | refine kept_ite _ _ _ ?_ ?_ | refine kept_next ?_ | refine vecLanes_kept _ _ _ _ _ ?_

theorem execRunningMax_kept (o : VOp) (s : State) (h0 : Kept kk qq s) : KeptO kk qq (execRunningMax o s) := by
  unfold execRunningMax
  all_goals repeat' first
    | with_reducible first
      | assumption | refine kept_next ?_ | refine vecLanes_kept _ _ _ _ _ ?_

theorem execArgmax_kept (o : VOp) (s : State) (h0 : Kept kk qq s) : KeptO kk qq (execArgmax o s) := by
  unfold execArgmax
  all_goals repeat' first
    | with_reducible first
      | assumption | refine kept_next ?_ | refine withRows_kept _ _ _ _ _ _ ?_ ?_
      | refine putRow_kept _ _ _ _ _ ?_
    | (intro x; intro (hx : Kept kk qq x))

theorem execIntegerAdd_kept (o : VOp) (s : State) (h0 : Kept kk qq s) : KeptO kk qq (execIntegerAdd o s) := by
  unfold execIntegerAdd
  all_goals repeat' first
    | with_reducible first
      | assumption | refine kept_next ?_ | refine vecInt_kept _ _ _ _ ?_

theorem execShift_kept (o : VOp) (kind : ShiftKind) (s : State) (h0 : Kept kk qq s) : KeptO kk qq (execShift o kind s) := by
  unfold execShift
  all_goals repeat' first
    | with_reducible first
      | assumption | refine kept_next ?_ | refine vecInt_kept _ _ _ _ ?_

theorem execAnd_kept (o : VOp) (s : State) (h0 : Kept kk qq s) : KeptO kk qq (execAnd o s) := by
  unfold execAnd
  all_goals repeat' first
    | with_reducible first
      | assumption | refine kept_ite _ _ _ ?_ ?_ | refine kept_next ?_ | refine kept_foldl _ _ ?_ ?_
      | refine vecInt_kept _ _ _ _ ?_
    | split

theorem execOr_kept (o : VOp) (s : State) (h0 : Kept kk qq s) : KeptO kk qq (execOr o s) := by
  unfold execOr
  all_goals repeat' first
    | with_reducible first
      | assumption | refine kept_next ?_ | refine vecInt_kept _ _ _ _ ?_

theorem execXor_kept (o : VOp) (s : State) (h0 : Kept kk qq s) : KeptO kk qq (execXor o s) := by
  unfold execXor
  all_goals repeat' first
    | with_reducible first
      | assumption | refine kept_next ?_ | refine vecInt_kept _ _ _ _ ?_

theorem addOutliers_kept (s : State) (req : ℕ) (pos : ℕ) (layer : ℕ) (xs : List Outlier) (h0 : Kept kk qq s) : Kept kk qq (addOutliers s req pos layer xs) := by
  unfold addOutliers
  all_goals repeat' first
    | with_reducible first
      | assumption | refine kept_ite _ _ _ ?_ ?_
    | (with_reducible refine kept_upd ?_; with_reducible first | assumption)

theorem endDetection_kept (s : State) (o : OutlierOp) (req : ℕ) (pos : ℕ) (layer : ℕ) (h0 : Kept kk qq s) : Kept kk qq (endDetection s o req pos layer) := by
  unfold endDetection
  split
  · dsimp only
    split
    · exact kept_upd h0
    · refine countNum_kept _ _ _ _ (kept_foldl _ _ (kept_upd h0) ?_)
      intro t a ht
      exact reqSlip_kept _ _ _ _ ht
  · exact h0

theorem execOutlierTest_kept (o : OutlierOp) (s : State) (h0 : Kept kk qq s) : KeptO kk qq (execOutlierTest o s) := by
  unfold execOutlierTest
  all_goals repeat' first
    | with_reducible first
      | assumption | refine kept_ite _ _ _ ?_ ?_ | refine kept_next ?_
      | refine withRows_kept _ _ _ _ _ _ ?_ ?_ | refine addOutliers_kept _ _ _ _ _ ?_
      | refine putRow_kept _ _ _ _ _ ?_ | refine endDetection_kept _ _ _ _ _ ?_
    | (intro x; intro (hx : Kept kk qq x))
    | split

theorem countFrozen_kept (s : State) (n : ℕ) (run : ℕ) (h0 : Kept kk qq s) : Kept kk qq (countFrozen s n run) := by
  unfold countFrozen
  all_goals repeat' first
    | with_reducible first
      | assumption | refine addF_kept _ _ _ _ _ ?_ | refine setF_kept _ _ _ _ _ ?_

theorem countMissSlip_kept (s : State) (n : ℕ) (h0 : Kept kk qq s) : Kept kk qq (countMissSlip s n) := by
  unfold countMissSlip
  all_goals repeat' first
    | with_reducible first
      | assumption | refine countExperts_kept _ _ _ ?_
    | lift_lets
    | intro x
    | split

theorem redoSlips_kept (s : State) (n : ℕ) (h0 : Kept kk qq s) : Kept kk qq (redoSlips s n) := by
  unfold redoSlips
  all_goals repeat' first
    | with_reducible first
      | assumption | refine kept_ite _ _ _ ?_ ?_ | refine kept_foldl _ _ ?_ ?_
      | refine reqSlip_kept _ _ _ _ ?_ | refine modCore_kept _ _ _ ?_
    | (intro x y; intro (hx : Kept kk qq x))

theorem dueSlips_kept (s : State) (n : ℕ) (h0 : Kept kk qq s) : Kept kk qq (dueSlips s n) := by
  unfold dueSlips
  all_goals repeat' first
    | with_reducible first
      | assumption | refine kept_ite _ _ _ ?_ ?_ | refine kept_foldl _ _ ?_ ?_ | refine raiseDue_kept _ _ _ ?_
    | intro x
    | split

theorem laneCycle_kept (s : State) (n : ℕ) (h0 : Kept kk qq s) : Kept kk qq (laneCycle s n) := by
  unfold laneCycle
  all_goals repeat' first
    | with_reducible first
      | assumption | refine kept_foldl _ _ ?_ ?_ | refine meetFile_kept _ _ _ _ ?_
      | refine modChase_kept _ _ _ ?_ | refine modCore_kept _ _ _ ?_
    | intro x

theorem sendEvent_kept (s : State) (it : FaultItem) (h0 : Kept kk qq s) : Kept kk qq (sendEvent s it) := by
  unfold sendEvent
  all_goals repeat' first
    | with_reducible first
      | assumption | refine enterFabric_kept _ _ _ _ _ _ ?_

theorem sendEvents_kept (s : State) (n : ℕ) (h0 : Kept kk qq s) : Kept kk qq (sendEvents s n) := by
  unfold sendEvents
  all_goals repeat' first
    | with_reducible first
      | assumption | refine kept_ite _ _ _ ?_ ?_ | refine kept_foldl _ _ ?_ ?_ | refine sendEvent_kept _ _ ?_
    | intro x
    | (with_reducible refine kept_upd ?_; with_reducible first | assumption)

theorem coreCycle_kept (s : State) (n : ℕ) (h0 : Kept kk qq s) : Kept kk qq (coreCycle s n) := by
  unfold coreCycle
  all_goals repeat' first
    | with_reducible first
      | assumption | refine kept_ite _ _ _ ?_ ?_ | refine countMissSlip_kept _ _ ?_
      | refine laneCycle_kept _ _ ?_ | refine modChase_kept _ _ _ ?_ | refine countFrozen_kept _ _ _ ?_
      | refine dueSlips_kept _ _ ?_ | refine redoSlips_kept _ _ ?_ | refine banksOpen_kept _ _ ?_
      | refine setF_kept _ _ _ _ _ ?_
    | (with_reducible refine kept_upd ?_; with_reducible first | refine kept_ite _ _ _ ?_ ?_ | refine laneCycle_kept _ _ ?_ | refine countFrozen_kept _ _ _ ?_ | refine redoSlips_kept _ _ ?_ | refine setF_kept _ _ _ _ _ ?_)

theorem chaseCycle_kept (s : State) (n : ℕ) (h0 : Kept kk qq s) : Kept kk qq (chaseCycle s n) := by
  unfold chaseCycle
  all_goals repeat' first
    | with_reducible first
      | assumption | refine settleQueues_kept _ _ ?_ | refine sendEvents_kept _ _ ?_
      | refine coreCycle_kept _ _ ?_

theorem chaseCycles_kept (x0 : ℕ) (x1 : State) (x2 : ℕ) (h0 : Kept kk qq x1) : Kept kk qq (chaseCycles x0 x1 x2) := by
  revert h0
  fun_induction chaseCycles x0 x1 x2 <;> intro h0
  all_goals repeat' first
    | with_reducible first
      | assumption | refine chaseCycle_kept _ _ ?_
    | with_reducible apply_assumption

theorem transitCycle_kept (s : State) (n : ℕ) (h0 : Kept kk qq s) : Kept kk qq (transitCycle s n) := by
  unfold transitCycle
  all_goals repeat' first
    | with_reducible first
      | assumption | refine settleQueues_kept _ _ ?_ | refine sendEvents_kept _ _ ?_
      | refine modChase_kept _ _ _ ?_

theorem transitCycles_kept (x0 : ℕ) (x1 : State) (x2 : ℕ) (h0 : Kept kk qq x1) : Kept kk qq (transitCycles x0 x1 x2) := by
  revert h0
  fun_induction transitCycles x0 x1 x2 <;> intro h0
  all_goals repeat' first
    | with_reducible first
      | assumption | refine kept_ite _ _ _ ?_ ?_ | refine kept_foldl _ _ ?_ ?_
      | refine transitCycle_kept _ _ ?_
    | with_reducible apply_assumption
    | split

theorem chaseTicks_kept (s : State) (n : ℕ) (h0 : Kept kk qq s) : Kept kk qq (chaseTicks s n) := by
  unfold chaseTicks
  all_goals repeat' first
    | with_reducible first
      | assumption | refine kept_ite _ _ _ ?_ ?_ | refine chaseCycles_kept _ _ _ ?_
      | refine transitCycles_kept _ _ _ ?_

theorem advanceLamp_kept (s : State) (h0 : Kept kk qq s) : Kept kk qq (advanceLamp s) := by
  unfold advanceLamp
  all_goals repeat' first
    | with_reducible first
      | assumption | refine kept_ite _ _ _ ?_ ?_
    | (with_reducible refine kept_upd ?_; with_reducible first | assumption)

theorem lapseSync_kept (s : State) (h0 : Kept kk qq s) : Kept kk qq (lapseSync s) := by
  unfold lapseSync
  all_goals repeat' first
    | with_reducible first
      | assumption | refine kept_ite _ _ _ ?_ ?_ | refine setSynced_kept _ _ ?_

theorem strike_kept (s : State) (h0 : Kept kk qq s) : Kept kk qq (strike s) := by
  unfold strike
  all_goals repeat' first
    | with_reducible first
      | assumption
    | (intro (x : Mem); subst x)
    | (with_reducible refine kept_updm ?_ ?_; (with_reducible first | assumption); (with_reducible first | assumption | refine memOk_mk ?_ ?_ ?_))
    | with_reducible refine memZero_wf ?_ _ _
    | with_reducible refine memMove_wf ?_ ?_ _ _ _
    | with_reducible refine filter_wf ?_ _
    | with_reducible exact nil_wf
    | with_reducible exact Kept.store ‹_›
    | with_reducible exact Kept.stack ‹_›
    | with_reducible exact Kept.host ‹_›

theorem strikeFiles_kept (s : State) (h0 : Kept kk qq s) : Kept kk qq (strikeFiles s) := by
  unfold strikeFiles
  all_goals repeat' first
    | with_reducible first
      | assumption | refine kept_foldl _ _ ?_ ?_ | refine modCore_kept _ _ _ ?_
    | intro x

theorem tick_kept (s : State) (h0 : Kept kk qq s) : Kept kk qq (tick s) := by
  unfold tick
  all_goals repeat' first
    | with_reducible first
      | assumption | refine rebuildsGo_kept _ ?_ | refine kept_foldl _ _ ?_ ?_ | refine rampsEnd_kept _ ?_ | refine rimDrain_kept _ ?_
      | refine chaseTicks_kept _ _ ?_ | refine strikeFiles_kept _ ?_ | refine strike_kept _ ?_
      | refine advanceLamp_kept _ ?_ | refine busesReturn_kept _ ?_ | refine lapseSync_kept _ ?_
    | intro x

/-- Every command keeps the invariant, the keys and the waiting commands. -/
theorem exec_kept (c : Instr) {s : State} (h : Kept kk qq s) : KeptO kk qq (exec c s) :=
  match c with
  | .generate x0 x1 x2 => execGenerate_kept x0 x1 x2 s h
  | .cancel x0 x1 => execCancel_kept x0 x1 s h
  | .release x0 x1 => execRelease_kept x0 x1 s h
  | .mooringSet x0 x1 => execMooringSet_kept x0 x1 s h
  | .mooringClear x0 x1 => execMooringClear_kept x0 x1 s h
  | .badKind x0 x1 => execBadKind_kept x0 x1 s h
  | .loadForme x0 x1 x2 => execLoadForme_kept x0 x1 x2 s h
  | .replace x0 x1 x2 => execReplace_kept x0 x1 x2 s h
  | .unloadForme x0 x1 => execUnloadForme_kept x0 x1 s h
  | .loadVariant x0 x1 x2 => execLoadVariant_kept x0 x1 x2 s h
  | .loadOverlay x0 x1 x2 => execLoadOverlay_kept x0 x1 x2 s h
  | .deleteVariant x0 x1 => execDeleteVariant_kept x0 x1 s h
  | .deleteOverlay x0 x1 => execDeleteOverlay_kept x0 x1 s h
  | .sqTail x0 x1 => execSqTail_kept x0 x1 s h
  | .rqHead x0 x1 => execRqHead_kept x0 x1 s h
  | .admission x0 => execAdmission_kept x0 s h
  | .waveLaunch x0 => execWaveLaunch_kept x0 s h
  | .token x0 x1 x2 x3 => execToken_kept x0 x1 x2 x3 s h
  | .galleyResident x0 => execGalleyResident_kept x0 s h
  | .galleyFetchDone x0 => execGalleyFetchDone_kept x0 s h
  | .galleyToT2 x0 x1 => execGalleyToT2_kept x0 x1 s h
  | .t2CopyAck x0 => execT2CopyAck_kept x0 s h
  | .convExpiry x0 x1 => execConvExpiry_kept x0 x1 s h
  | .convTombstoneLapse x0 x1 => execConvTombstoneLapse_kept x0 x1 s h
  | .telemetrySecond => execTelemetrySecond_kept s h
  | .numeric => execNumeric_kept s h
  | .expert x0 => execExpert_kept x0 s h
  | .usageCounts => execUsageCounts_kept s h
  | .usageIntervalClose => execUsageIntervalClose_kept s h
  | .interruptCoalesceTime x0 => execInterruptCoalesceTime_kept x0 s h
  | .loadStaged x0 => execLoadStaged_kept x0 s h
  | .swapBegin x0 => execSwapBegin_kept x0 s h
  | .swapLayerWritten x0 x1 => execSwapLayerWritten_kept x0 x1 s h
  | .unloadDrained x0 => execUnloadDrained_kept x0 s h
  | .auditSweep x0 => execAuditSweep_kept x0 s h
  | .linkSource x0 => execLinkSource_kept x0 s h
  | .loadAsk x0 x1 => execLoadAsk_kept x0 x1 s h
  | .loadOffer x0 x1 => execLoadOffer_kept x0 x1 s h
  | .loadTake x0 x1 x2 => execLoadTake_kept x0 x1 x2 s h
  | .loadData x0 x1 x2 => execLoadData_kept x0 x1 x2 s h
  | .loadEnd x0 x1 => execLoadEnd_kept x0 x1 s h
  | .ident x0 x1 x2 x3 x4 x5 => execIdent_kept x0 x1 x2 x3 x4 x5 s h
  | .version x0 x1 => execVersion_kept x0 x1 s h
  | .announce x0 x1 x2 x3 => execAnnounce_kept x0 x1 x2 x3 s h
  | .pdelay x0 x1 x2 => execPdelay_kept x0 x1 x2 s h
  | .pdelayTimer x0 => execPdelayTimer_kept x0 s h
  | .timeSourceLoss => execTimeSourceLoss_kept s h
  | .mirror x0 x1 => execMirror_kept x0 x1 s h
  | .handover x0 x1 => execHandover_kept x0 x1 s h
  | .linkFrame x0 x1 x2 => execLinkFrame_kept x0 x1 x2 s h
  | .lnkLaneSpared x0 x1 => execLnkLaneSpared_kept x0 x1 s h
  | .detect x0 x1 => execDetect_kept x0 x1 s h
  | .signalLook x0 x1 => execSignalLook_kept x0 x1 s h
  | .identify x0 x1 => execIdentify_kept x0 x1 s h
  | .equalise x0 x1 => execEqualise_kept x0 x1 s h
  | .lock x0 x1 => execLock_kept x0 x1 s h
  | .lnkDown x0 x1 => execLnkDown_kept x0 x1 s h
  | .peerLost x0 => execPeerLost_kept x0 s h
  | .splitPacket x0 x1 => execSplitPacket_kept x0 x1 s h
  | .retrain x0 x1 => execRetrain_kept x0 x1 s h
  | .flitHop x0 x1 x2 x3 => execFlitHop_kept x0 x1 x2 x3 s h
  | .gateFlit x0 x1 => execGateFlit_kept x0 x1 s h
  | .parkStale x0 x1 => execParkStale_kept x0 x1 s h
  | .fabDeadlock x0 x1 x2 x3 => execFabDeadlock_kept x0 x1 x2 x3 s h
  | .fabricLockup x0 => execFabricLockup_kept x0 s h
  | .readReq x0 x1 x2 x3 x4 x5 => execReadReq_kept x0 x1 x2 x3 x4 x5 s h
  | .readData x0 x1 x2 x3 => execReadData_kept x0 x1 x2 x3 s h
  | .write x0 x1 x2 x3 => execWrite_kept x0 x1 x2 x3 s h
  | .remoteWriteStored x0 => execRemoteWriteStored_kept x0 s h
  | .writeAck x0 x1 x2 => execWriteAck_kept x0 x1 x2 s h
  | .nack x0 x1 x2 x3 => execNack_kept x0 x1 x2 x3 s h
  | .longPartial x0 => execLongPartial_kept x0 s h
  | .reAnchor x0 => execReAnchor_kept x0 s h
  | .control x0 x1 => execControl_kept x0 x1 s h
  | .event x0 => execEvent_kept x0 s h
  | .descriptorComplete x0 x1 => execDescriptorComplete_kept x0 x1 s h
  | .streamDue x0 x1 => execStreamDue_kept x0 x1 s h
  | .slipTimeout x0 x1 => execSlipTimeout_kept x0 x1 s h
  | .scrub x0 x1 x2 => execScrub_kept x0 x1 x2 s h
  | .endOp x0 => execEndOp_kept x0 s h
  | .loop x0 x1 x2 x3 => execLoop_kept x0 x1 x2 x3 s h
  | .arm x0 => execArm_kept x0 s h
  | .check x0 x1 => execCheck_kept x0 x1 s h
  | .fenceD x0 => execFenceD_kept x0 s h
  | .fenceS x0 => execFenceS_kept x0 s h
  | .fenceA x0 => execFenceA_kept x0 s h
  | .issue x0 x1 x2 x3 x4 => execIssue_kept x0 x1 x2 x3 x4 s h
  | .waitEvent x0 x1 => execWaitEvent_kept x0 x1 s h
  | .feed x0 => execFeed_kept x0 s h
  | .latch x0 x1 => execLatch_kept x0 x1 s h
  | .fileLoad x0 x1 x2 x3 => execFileLoad_kept x0 x1 x2 x3 s h
  | .close x0 => execClose_kept x0 s h
  | .save x0 x1 x2 => execSave_kept x0 x1 x2 s h
  | .restore x0 x1 x2 => execRestore_kept x0 x1 x2 s h
  | .outlierGather x0 => execOutlierGather_kept x0 s h
  | .add x0 => execAdd_kept x0 s h
  | .subtract x0 => execSubtract_kept x0 s h
  | .multiply x0 => execMultiply_kept x0 s h
  | .fusedMultiplyAdd x0 => execFusedMultiplyAdd_kept x0 s h
  | .min x0 => execMin_kept x0 s h
  | .max x0 => execMax_kept x0 s h
  | .abs x0 => execAbs_kept x0 s h
  | .negate x0 => execNegate_kept x0 s h
  | .sqrt x0 => execSqrt_kept x0 s h
  | .rsqrt x0 => execRsqrt_kept x0 s h
  | .rcp x0 => execRcp_kept x0 s h
  | .exp2 x0 => execExp2_kept x0 s h
  | .log2 x0 => execLog2_kept x0 s h
  | .sigmoid x0 => execSigmoid_kept x0 s h
  | .tanh x0 => execTanh_kept x0 s h
  | .erf x0 => execErf_kept x0 s h
  | .convert x0 x1 x2 => execConvert_kept x0 x1 x2 s h
  | .quantise x0 => execQuantise_kept x0 s h
  | .compare x0 x1 => execCompare_kept x0 x1 s h
  | .select x0 => execSelect_kept x0 s h
  | .runningMax x0 => execRunningMax_kept x0 s h
  | .argmax x0 => execArgmax_kept x0 s h
  | .integerAdd x0 => execIntegerAdd_kept x0 s h
  | .shift x0 x1 => execShift_kept x0 x1 s h
  | .and x0 => execAnd_kept x0 s h
  | .or x0 => execOr_kept x0 s h
  | .xor x0 => execXor_kept x0 s h
  | .outlierTest x0 => execOutlierTest_kept x0 s h
  | .silu x0 => execSilu_kept x0 s h
  | .gelu x0 => execGelu_kept x0 s h
  | .lensRotate x0 => execLensRotate_kept x0 s h
  | .positionRotate x0 => execPositionRotate_kept x0 s h
  | .sendStatic x0 x1 x2 x3 x4 => execSendStatic_kept x0 x1 x2 x3 x4 s h
  | .sendDynamic x0 x1 => execSendDynamic_kept x0 x1 s h
  | .snap x0 => execSnap_kept x0 s h
  | .clear x0 => execClear_kept x0 s h
  | .keeperHalt x0 => execKeeperHalt_kept x0 s h
  | .haltEnd x0 => execHaltEnd_kept x0 s h
  | .chaseHalted x0 => execChaseHalted_kept x0 s h
  | .slipLongest x0 x1 => execSlipLongest_kept x0 x1 s h
  | .parkMax x0 x1 => execParkMax_kept x0 x1 s h
  | .ringLost x0 => execRingLost_kept x0 s h
  | .suppressed x0 => execSuppressed_kept x0 s h
  | .logLost x0 => execLogLost_kept x0 s h
  | .convExpired x0 => execConvExpired_kept x0 s h
  | .pairLowRead x0 x1 => execPairLowRead_kept x0 x1 s h
  | .registerWrite x0 x1 x2 x3 => execRegisterWrite_kept x0 x1 x2 x3 s h
  | .badAccess x0 x1 x2 => execBadAccess_kept x0 x1 x2 s h
  | .noAnswer x0 x1 x2 => execNoAnswer_kept x0 x1 x2 s h
  | .queueEnable x0 => execQueueEnable_kept x0 s h
  | .queueDisable x0 => execQueueDisable_kept x0 s h
  | .limitGib x0 => execLimitGib_kept x0 s h
  | .ringEn x0 => execRingEn_kept x0 s h
  | .ringHead x0 => execRingHead_kept x0 s h
  | .telEn x0 => execTelEn_kept x0 s h
  | .head x0 => execHead_kept x0 s h
  | .retentionRequest => execRetentionRequest_kept s h
  | .retentionExit x0 => execRetentionExit_kept x0 s h
  | .retentionWave => execRetentionWave_kept s h
  | .blockReset x0 => execBlockReset_kept x0 s h
  | .quiesceDone => execQuiesceDone_kept s h
  | .rstQuiesceTimeout x0 => execRstQuiesceTimeout_kept x0 s h
  | .softwareModuleReset x0 => execSoftwareModuleReset_kept x0 s h
  | .forceStep x0 => execForceStep_kept x0 s h
  | .locked x0 => execLocked_kept x0 s h
  | .intervalS x0 => execIntervalS_kept x0 s h
  | .rdSeq x0 => execRdSeq_kept x0 s h
  | .ackSeq x0 => execAckSeq_kept x0 s h
  | .kmbVersion x0 => execKmbVersion_kept x0 s h
  | .groupState x0 => execGroupState_kept x0 s h
  | .streamQuery x0 => execStreamQuery_kept x0 s h
  | .ack x0 => execAck_kept x0 s h
  | .winCtl x0 x1 => execWinCtl_kept x0 x1 s h
  | .target x0 => execTarget_kept x0 s h
  | .t2DirectoryRead x0 x1 => execT2DirectoryRead_kept x0 x1 s h
  | .mctpControl x0 x1 => execMctpControl_kept x0 x1 s h
  | .pldmBase x0 x1 => execPldmBase_kept x0 x1 s h
  | .pldmMonitoring x0 x1 x2 => execPldmMonitoring_kept x0 x1 x2 s h
  | .pldmFru x0 => execPldmFru_kept x0 s h
  | .pldmFirmwareUpdate x0 x1 x2 => execPldmFirmwareUpdate_kept x0 x1 x2 s h
  | .readReg x0 x1 => execReadReg_kept x0 x1 s h
  | .readRegTimeout x0 x1 => execReadRegTimeout_kept x0 x1 s h
  | .readFaultLog x0 x1 => execReadFaultLog_kept x0 x1 s h
  | .readUsage x0 x1 => execReadUsage_kept x0 x1 s h
  | .shutdown => execShutdown_kept s h
  | .moduleReset x0 => execModuleReset_kept x0 s h
  | .setdasa x0 => execSetdasa_kept x0 s h
  | .entdaa x0 => execEntdaa_kept x0 s h
  | .mgtBusShort x0 => execMgtBusShort_kept x0 s h
  | .mgtPinStuck x0 => execMgtPinStuck_kept x0 s h
  | .trayRead x0 => execTrayRead_kept x0 s h
  | .stopTimeout => execStopTimeout_kept s h
  | .handoverComplete => execHandoverComplete_kept s h
  | .mgtTrayShort x0 => execMgtTrayShort_kept x0 s h
  | .trayProbe x0 x1 => execTrayProbe_kept x0 x1 s h
  | .pwrInputLoss x0 => execPwrInputLoss_kept x0 s h
  | .pwrInputOver x0 => execPwrInputOver_kept x0 s h
  | .inputBandChange x0 => execInputBandChange_kept x0 s h
  | .pwrInputReversed => execPwrInputReversed_kept s h
  | .pwrBusDegraded x0 => execPwrBusDegraded_kept x0 s h
  | .fabTransitLost x0 x1 => execFabTransitLost_kept x0 x1 s h
  | .clockChange x0 x1 => execClockChange_kept x0 x1 s h
  | .pwrSenseOpen x0 x1 => execPwrSenseOpen_kept x0 x1 s h
  | .hint x0 x1 => execHint_kept x0 x1 s h
  | .pwrOcWarn x0 x1 => execPwrOcWarn_kept x0 x1 s h
  | .ocLimitReturn x0 => execOcLimitReturn_kept x0 s h
  | .pwrRailFault x0 x1 x2 => execPwrRailFault_kept x0 x1 x2 s h
  | .railRetry x0 x1 => execRailRetry_kept x0 x1 s h
  | .unpark x0 x1 => execUnpark_kept x0 x1 s h
  | .switchOn x0 => execSwitchOn_kept x0 s h
  | .switchOnRecheck x0 => execSwitchOnRecheck_kept x0 s h
  | .pwrSwitchDeferred x0 => execPwrSwitchDeferred_kept x0 s h
  | .bankGate x0 x1 => execBankGate_kept x0 x1 s h
  | .bankGated x0 x1 => execBankGated_kept x0 x1 s h
  | .bankOpen x0 x1 => execBankOpen_kept x0 x1 s h
  | .currentLatch x0 => execCurrentLatch_kept x0 s h
  | .sensorSample x0 => execSensorSample_kept x0 s h
  | .estimatorSample x0 => execEstimatorSample_kept x0 s h
  | .fModStep x0 => execFModStep_kept x0 s h
  | .chaseThermalAction x0 => execChaseThermalAction_kept x0 s h
  | .thermalCycle => execThermalCycle_kept s h
  | .suspectDecay x0 => execSuspectDecay_kept x0 s h
  | .powerOn => execPowerOn_kept s h
  | .brownOut x0 => execBrownOut_kept x0 s h
  | .resetN x0 => execResetN_kept x0 s h
  | .perst x0 x1 => execPerst_kept x0 x1 s h
  | .rstWatchdog x0 => execRstWatchdog_kept x0 s h
  | .rstLockup x0 => execRstLockup_kept x0 s h
  | .clockMonitor x0 => execClockMonitor_kept x0 s h
  | .rstLampXtal => execRstLampXtal_kept s h
  | .rstFabricRef x0 => execRstFabricRef_kept x0 s h
  | .timeSyncPoint x0 => execTimeSyncPoint_kept x0 s h
  | .releaseStep x0 x1 => execReleaseStep_kept x0 x1 s h
  | .pllCountDone x0 x1 => execPllCountDone_kept x0 x1 s h
  | .rstPllNoLock x0 x1 => execRstPllNoLock_kept x0 x1 s h
  | .rstStepTimeout x0 => execRstStepTimeout_kept x0 s h
  | .refclkRecovered x0 => execRefclkRecovered_kept x0 s h
  | .kindlingWave => execKindlingWave_kept s h
  | .chaseLit x0 x1 => execChaseLit_kept x0 x1 s h
  | .fabricDrained x0 => execFabricDrained_kept x0 s h
  | .retestDone x0 x1 => execRetestDone_kept x0 x1 s h
  | .reloadDone x0 => execReloadDone_kept x0 s h
  | .kprVoteMinority x0 x1 => execKprVoteMinority_kept x0 x1 s h
  | .kprVoteSplit x0 => execKprVoteSplit_kept x0 s h
  | .keeperRebuilt x0 => execKeeperRebuilt_kept x0 s h
  | .streamMinute => execStreamMinute_kept s h
  | .stkFailed x0 x1 => execStkFailed_kept x0 x1 s h
  | .stackRetrain x0 x1 => execStackRetrain_kept x0 x1 s h
  | .stkRebuilt x0 => execStkRebuilt_kept x0 s h
  | .stackWriteAck x0 => execStackWriteAck_kept x0 s h
  | .hstLinkDown x0 => execHstLinkDown_kept x0 s h
  | .slotDigestCheck x0 x1 => execSlotDigestCheck_kept x0 x1 s h
  | .slotScrubDone x0 => execSlotScrubDone_kept x0 s h
  | .keeperBooted x0 => execKeeperBooted_kept x0 s h
  | .stackTrained x0 x1 x2 x3 => execStackTrained_kept x0 x1 x2 x3 s h
  | .hostLinkUp x0 x1 x2 x3 => execHostLinkUp_kept x0 x1 x2 x3 s h

end Sys2Proof.Machine
end

