-- ==== Sys2Proof/WellFormed.lean ====
section
/-! DEFINITION. Which commands are well formed: the sizes that the spec fixes for the data a command
carries. Host software cannot form a command of another size, so a meaning meets one only through a
command queue written by hand. -/

namespace Sys2Proof

/-- The KIND of a command record, its first byte (R296). -/
def recordKind (rec : List Byte) : Nat := (rec.headD 0).toNat

/-- A command record is 64 bytes (R289), of a KIND that names the command (R296, R348). -/
def recordOk (kinds : Nat → Bool) (rec : List Byte) : Bool := rec.length == 64 && kinds (recordKind rec)

/-- No command has this KIND (R296, R348). -/
def unknownKind (k : Nat) : Bool := k ∉ [0x01, 0x02, 0x03, 0x10, 0x11, 0x20, 0x21, 0x22, 0x23, 0x24, 0x25, 0x26]

/-- A flit's payload is 68 bytes (R145), its route word's reserved bits are zero (R148). -/
def Flit.wf (f : Flit) : Bool := f.payload.length == 68 && decide (f.route.toNat < 2 ^ 29)

/-- A link frame is 336 bytes (R501). -/
def frameOk (frame : List Byte) : Bool := frame.length == 336

/-- A weight identity is 48 bytes (R185). -/
def identOk (i : List Byte) : Bool := i.length == 48

/-- The sizes of a command's data. -/
def Instr.wf : Instr → Bool
  | .generate _ r _ => recordOk (· == 0x01) r
  | .cancel _ r => recordOk (· == 0x02) r
  | .release _ r => recordOk (· == 0x03) r
  | .mooringSet _ r => recordOk (· == 0x10) r
  | .mooringClear _ r => recordOk (· == 0x11) r
  | .badKind _ r => recordOk unknownKind r
  | .loadForme _ r _ => recordOk (· == 0x20) r
  | .replace _ r _ => recordOk (· == 0x21) r
  | .unloadForme _ r => recordOk (· == 0x22) r
  | .loadVariant _ r _ => recordOk (· == 0x23) r
  | .loadOverlay _ r _ => recordOk (· == 0x24) r
  | .deleteVariant _ r => recordOk (· == 0x25) r
  | .deleteOverlay _ r => recordOk (· == 0x26) r
  | .loadAsk _ e => e.length == 32
  | .loadOffer _ i | .loadTake _ i _ => identOk i
  | .loadData _ _ bs => decide (bs.length ≤ 68)
  | .ident _ _ _ _ _ is => is.all identOk
  | .linkFrame _ fr _ => frameOk fr
  | .splitPacket _ f | .flitHop _ _ f _ | .gateFlit _ f | .readData _ _ _ f | .write _ f _ _ => f.wf
  | .sendStatic _ _ _ p _ => p.length == 68
  | .sendDynamic _ o => o.flit.wf
  | .longPartial o => o.flit.wf
  | .arm a => decide (a.partLo ≤ a.partHi)
  | .token _ lanes _ _ => decide (1 ≤ lanes.length ∧ lanes.length ≤ 16)
  | .sqTail _ _ | .rqHead _ _ | .admission _ | .waveLaunch _ | .galleyResident _
  | .galleyFetchDone _ | .galleyToT2 _ _ | .t2CopyAck _ | .convExpiry _ _
  | .convTombstoneLapse _ _ | .telemetrySecond | .numeric | .expert _ | .usageCounts
  | .usageIntervalClose | .interruptCoalesceTime _ | .loadStaged _ | .swapBegin _
  | .swapLayerWritten _ _ | .unloadDrained _ | .auditSweep _ | .linkSource _ | .loadEnd _ _
  | .version _ _ | .announce _ _ _ _ | .pdelay _ _ _ | .pdelayTimer _ | .timeSourceLoss
  | .mirror _ _ | .handover _ _ | .lnkLaneSpared _ _ | .detect _ _ | .signalLook _ _
  | .identify _ _ | .equalise _ _ | .lock _ _ | .lnkDown _ _ | .peerLost _ | .retrain _ _
  | .parkStale _ _ | .fabDeadlock _ _ _ _ | .fabricLockup _ | .readReq _ _ _ _ _ _
  | .remoteWriteStored _ | .writeAck _ _ _ | .nack _ _ _ _ | .reAnchor _ | .control _ _
  | .event _ | .descriptorComplete _ _ | .streamDue _ _ | .slipTimeout _ _ | .scrub _ _ _
  | .endOp _ | .loop _ _ _ _ | .check _ _ | .fenceD _ | .fenceS _ | .fenceA _ | .issue _ _ _ _ _
  | .waitEvent _ _ | .feed _ | .latch _ _ | .fileLoad _ _ _ _ | .close _ | .save _ _ _
  | .restore _ _ _ | .outlierGather _ | .add _ | .subtract _ | .multiply _ | .fusedMultiplyAdd _
  | .min _ | .max _ | .abs _ | .negate _ | .sqrt _ | .rsqrt _ | .rcp _ | .exp2 _ | .log2 _
  | .sigmoid _ | .tanh _ | .erf _ | .convert _ _ _ | .quantise _ | .compare _ _ | .select _
  | .runningMax _ | .argmax _ | .integerAdd _ | .shift _ _ | .and _ | .or _ | .xor _
  | .outlierTest _ | .silu _ | .gelu _ | .lensRotate _ | .positionRotate _ | .snap _ | .clear _
  | .keeperHalt _ | .haltEnd _ | .chaseHalted _ | .slipLongest _ _ | .parkMax _ _ | .ringLost _
  | .suppressed _ | .logLost _ | .convExpired _ | .pairLowRead _ _ | .registerWrite _ _ _ _
  | .badAccess _ _ _ | .noAnswer _ _ _ | .queueEnable _ | .queueDisable _ | .limitGib _
  | .ringEn _ | .ringHead _ | .telEn _ | .head _ | .retentionRequest | .retentionExit _
  | .retentionWave | .blockReset _ | .quiesceDone | .rstQuiesceTimeout _
  | .softwareModuleReset _ | .forceStep _ | .locked _ | .intervalS _ | .rdSeq _ | .ackSeq _
  | .kmbVersion _ | .groupState _ | .streamQuery _ | .ack _ | .winCtl _ _ | .target _
  | .t2DirectoryRead _ _ | .mctpControl _ _ | .pldmBase _ _ | .pldmMonitoring _ _ _ | .pldmFru _
  | .pldmFirmwareUpdate _ _ _ | .readReg _ _ | .readRegTimeout _ _ | .readFaultLog _ _
  | .readUsage _ _ | .shutdown | .moduleReset _ | .setdasa _ | .entdaa _ | .mgtBusShort _
  | .mgtPinStuck _ | .trayRead _ | .stopTimeout | .handoverComplete | .mgtTrayShort _
  | .trayProbe _ _ | .pwrInputLoss _ | .pwrInputOver _ | .inputBandChange _ | .pwrInputReversed
  | .pwrBusDegraded _ | .fabTransitLost _ _ | .clockChange _ _ | .pwrSenseOpen _ _ | .hint _ _
  | .pwrOcWarn _ _ | .ocLimitReturn _ | .pwrRailFault _ _ _ | .railRetry _ _ | .unpark _ _
  | .switchOn _ | .switchOnRecheck _ | .pwrSwitchDeferred _ | .bankGate _ _ | .bankGated _ _
  | .bankOpen _ _ | .currentLatch _ | .sensorSample _ | .estimatorSample _ | .fModStep _
  | .chaseThermalAction _ | .thermalCycle | .suspectDecay _ | .powerOn | .brownOut _ | .resetN _
  | .perst _ _ | .rstWatchdog _ | .rstLockup _ | .clockMonitor _ | .rstLampXtal
  | .rstFabricRef _ | .timeSyncPoint _ | .releaseStep _ _ | .pllCountDone _ _
  | .rstPllNoLock _ _ | .rstStepTimeout _ | .refclkRecovered _ | .kindlingWave | .chaseLit _ _
  | .fabricDrained _ | .retestDone _ _ | .reloadDone _ | .kprVoteMinority _ _ | .kprVoteSplit _
  | .keeperRebuilt _ | .streamMinute | .stkFailed _ _ | .stackRetrain _ _ | .stkRebuilt _
  | .stackWriteAck _ | .hstLinkDown _ | .slotDigestCheck _ _ | .slotScrubDone _
  | .keeperBooted _ | .stackTrained _ _ _ _ | .hostLinkUp _ _ _ _ => true

end Sys2Proof
end

