-- ==== Sys2Proof/Tests/Slice0.lean ====
section
/-! SUPPORT. Small tests: an ill-formed term for each check of well-formedness, a state and operands that meet
the hypotheses of each statement (a witness for each clause), and values that the spec works out. -/
open Sys2Proof Sys2Proof.Machine
namespace Sys2Proof.Tests

-- One test after the other: tests that wait for each other's evaluation would each take a thread.
set_option Elab.async false

/-! ### Helpers -/

/-- The state after reset with the given fields written. -/
def st (fs : List (Fld × Nat × Nat)) : State := fs.foldl (fun s x => setF s x.1 x.2.1 x.2.2) State.reset

/-- Page `p` reads LIT. -/
def lit (p : Nat) : Fld × Nat × Nat := (Reg.PAGE_BEACON_STATE, 2, p)

/-- Keeper group `g` of state `s` runs. -/
def grp (s : State) (g : Nat) : State := setF s Reg.KPR_STATE 2 0 g

def c0 : CoreRef := ⟨0, 0⟩
def c1 : CoreRef := ⟨0, 1⟩

/-- Chase 0 is LIT with its rail ON. -/
def run0 : State := st [lit 256, (Reg.CPW_STATE_RAIL, 2, 0)]

/-- Core 0 of `run0` holds `k`. -/
def with0 (k : Core) : State := { run0 with cores := [(0, k)] }

def flit0 : Flit := ⟨0, 0, List.replicate 68 0, 0, false⟩
def rec0 : List Byte := List.replicate 64 0
/-- A command record of KIND `k` (R296). -/
def recK (k : Byte) : List Byte := k :: List.replicate 63 0

def vop (f : VFmt) : VOp := ⟨c0, f, .store 0, .store 128, .reg 0, .reg 7, 0, 0⟩

/-! ### Well-formedness: each check refuses an ill-formed term -/

theorem test_wf_record : Instr.wf (.cancel 0 [2]) = false ∧ Instr.wf (.cancel 0 (recK 3)) = false ∧
    Instr.wf (.cancel 0 (recK 2)) = true ∧ Instr.wf (.badKind 0 (recK 2)) = false := by decide
theorem test_wf_flit : Instr.wf (.gateFlit ⟨c0, 0⟩ { flit0 with payload := List.replicate 67 0 }) = false ∧
    Instr.wf (.gateFlit ⟨c0, 0⟩ { flit0 with route := 0x20000000 }) = false ∧ Instr.wf (.gateFlit ⟨c0, 0⟩ flit0) = true := by decide
theorem test_wf_partial : Instr.wf (.longPartial ⟨c0, { flit0 with payload := [] }, [], 0, 0, [], 0, 0, 0⟩) = false := by decide
theorem test_wf_frame : Instr.wf (.linkFrame 0 [] false) = false := by decide
theorem test_wf_ask : Instr.wf (.loadAsk 0 (List.replicate 31 0)) = false := by decide
theorem test_wf_offer : Instr.wf (.loadOffer 0 (List.replicate 47 0)) = false ∧ Instr.wf (.ident 0 0 0 0 0 [[]]) = false := by decide
theorem test_wf_data : Instr.wf (.loadData 0 0 (List.replicate 69 0)) = false ∧ Instr.wf (.loadData 0 0 (List.replicate 68 0)) = true := by decide
theorem test_wf_arm : Instr.wf (.arm ⟨c0, 0, false, 0, 0, 0, 2, 1, 1, 0, 0, 0⟩) = false ∧ Instr.wf (.arm ⟨c0, 0, false, 0, 0, 0, 1, 1, 1, 0, 0, 0⟩) = true := by decide
theorem test_wf_token : Instr.wf (.token 0 [] [] false) = false ∧ Instr.wf (.token 0 (List.replicate 17 ⟨[]⟩) [] false) = false ∧
    Instr.wf (.token 0 (List.replicate 16 ⟨[]⟩) [] false) = true := by decide

/-- The table gives no row any bits, so no word spells a command. -/
theorem test_no_word : decodeTableWord 32 0 = none ∧ decodeTableWord 8 255 = none := by decide

/-! ### Values that the spec works out -/

/-- The ties of R78, and magnitudes above 6. -/
theorem test_n4_ties : [1 / 4, 3 / 4, 5 / 4, 7 / 4, 5 / 2, 7 / 2, 5, 100].map (fun y => n4Value (n4Nearest y)) = [0, 1, 1, 2, 2, 4, 4, 6] := by
  decide +kernel
theorem test_n4_signs : n4Nearest (-5) = 14 ∧ n4Nearest (-1 / 4) = 0 ∧ n4Value 8 = 0 := by decide +kernel
theorem test_i4_ties : [5 / 2, 7 / 2, -5 / 2, 9, -9].map (fun y => i4Value (i4Nearest y)) = [2, 4, -2, 7, -8] := by decide +kernel

/-- R46: the figures of F8. R45, R49: the invalid T2 code and the zero-block scale. -/
theorem test_f8 : decodeF8 0x7E = .fin false 448 ∧ decodeF8 0x08 = .fin false (1 / 64) ∧ decodeF8 0x01 = .fin false (1 / 512) ∧
    encodeF8 (.fin false 1000) = 0x7E ∧ encodeF8 .nan = 0x7F := by decide +kernel
theorem test_t2_s8 : t2Value 2 = 0 ∧ t2Value 3 = -1 ∧ s8Exp 0xFF = none ∧ s8Exp 0 = some (-127) := by decide

/-- R48: one in B16 and F32, the device's NaN, and ties to even. -/
theorem test_ieee : FloatShape.b16.encode (.fin false 1) = 0x3F80 ∧ FloatShape.f32.encode (.fin true (-2)) = 0xC0000000 ∧
    FloatShape.b16.encode .nan = 0x7FC0 ∧ FloatShape.b16.encode (.fin false (1 + 1 / 256)) = 0x3F80 ∧
    FloatShape.b16.encode (.fin false (1 + 3 / 256)) = 0x3F82 := by decide +kernel

/-- R61: truncation is toward zero on both sides. -/
theorem test_trunc : termInt 96 (7 / 2) = 3 ∧ termInt 96 (-7 / 2) = -3 ∧ termInt 97 3 = 1 := by decide +kernel

/-- R17: core (1023, 1023) is in chase 255; R19: a retired column moves the columns behind it. -/
theorem test_chase_of : chaseOf ⟨1023, 1023⟩ = 255 ∧ chaseOf ⟨64, 64⟩ = 17 := by decide
theorem test_shift_map :
    let s := { State.reset with errata := ⟨[], [], [], [(0, [3])]⟩ }
    physLocal s 0 2 = some 2 ∧ physLocal s 0 3 = some 4 ∧ physLocal s 0 63 = some 64 ∧ logicalLocal s 0 3 = none := by decide

/-- R44, R43: an I4 code times an N4 code in the exact sum. -/
theorem test_i4_n4 : i4Value 0xF = -1 ∧ n4Value 0xF = -6 := by decide +kernel

/-- A pass ends (R192) and the loop stack empties. -/
theorem test_end : ∃ t, exec (.endOp c0) (with0 { Core.reset with loops := [⟨1, 0, 1, 8, 2⟩] }) = .next t ∧ (getCore t c0).pass = 1 ∧
    (getCore t c0).loops = [] := ⟨_, rfl, by decide, by decide⟩

/-- Integer addition wraps at 2^32 (R117), and the sum of two rows lands in the destination register. -/
theorem test_shift_lane : shiftLane .arith 0x80000000 31 = 0xFFFFFFFF ∧ shiftLane .left 3 31 = 0x80000000 ∧
    shiftLane .right 0x80000000 31 = 1 := by decide

/-- R295, R541: a tail beyond the ring is refused. -/
theorem test_bad_tail : ∃ t, exec (.sqTail 0 65535) (st [lit 11]) = .next t ∧ onF t Reg.DBL_STAT_BAD_TAIL 0 = true :=
  ⟨_, rfl, by decide⟩

/-- The first record of a log (R384), a write that no page answers (R474), and T_target's clamp (R451). -/
theorem test_log : (logFault State.reset (blockItem Err.RST_LOCKUP 0 [])).faults.log.length = 1 := by decide
theorem test_refused : getF (regWrite State.reset 5 id) Reg.RST_WR_REFUSED 0 = 1 := by decide
theorem test_target_clamped : ∃ t, exec (.target 0) (st [lit 5]) = .next t ∧ getF t Reg.THM_TARGET 0 = 960 := ⟨_, rfl, by decide⟩

/-! ### Witnesses: a state and operands that meet the hypotheses of each statement, clause by clause -/

/-! ### Witnesses: a state and operands that meet the hypotheses of each statement, clause by clause -/

theorem wit_idle_step : State.reset.pending = [] ∧ State.reset.slewCycles = 0 := by decide
theorem wit_rails_off : ∀ n, railOn State.reset n = false ∧ rail State.reset n ≠ Rail.ramping := by
  intro n
  have h : rail State.reset n = 0 := by simp [rail, getF, State.reset]; rfl
  exact ⟨by simp [railOn, h]; decide, by rw [h]; decide⟩
theorem wit_keeps : ∃ t, Inv State.reset ∧ step State.reset = .next t :=
  ⟨_, ⟨⟨by decide, by decide, by decide⟩, by decide, by decide, by decide⟩, rfl⟩
theorem wit_queue_and_keys : ∃ t, Inv State.reset ∧ exec .usageIntervalClose State.reset = .next t :=
  ⟨_, ⟨⟨by decide, by decide, by decide⟩, by decide, by decide, by decide⟩, rfl⟩

/- Number codes, exact sums, columns. -/
theorem wit_codes : (6 : Rat) < 7 ∧ (-7 : Rat) < -6 ∧
    (|(5 / 2 : Rat) - n4Value 5| = |5 / 2 - n4Value (n4Nearest (5 / 2))| ∧ n4Value 5 ≠ n4Value (n4Nearest (5 / 2))) ∧
    (|(5 / 2 : Rat) - (3 : Int)| = |5 / 2 - (i4Value (i4Nearest (5 / 2)) : Rat)| ∧ 3 ≠ i4Value (i4Nearest (5 / 2))) := by decide +kernel
theorem wit_sums : [(1 : Rat), 2].Perm [2, 1] ∧ [(1 : Rat), 2] ≠ [] ∧ (0 < termInt 0 1 ∧ termInt 0 (-1) < 0) ∧
    (-2 ^ 175 : Int) ≤ 2 ^ 175 - 1 := ⟨List.Perm.swap _ _ _, by simp, by decide +kernel, by decide⟩
theorem wit_columns : physLocal { State.reset with errata := ⟨[], [], [], [(0, [0, 65])]⟩ } 0 63 = some 64 ∧
    kgetD ({ State.reset with errata := ⟨[], [], [], [(0, [0, 65])]⟩ } : State).errata.shift 0 [] = [0, 65] := by decide

/-! #### A forme -/

/-- A forme with an empty image. -/
def forme0 : Forme :=
  ⟨[], [], [], [], 0, 0, 0, 0, 0, 0, 0, 0, 0, none, [], none, [], none, none, [], [], []⟩
/-- An image with one layer: a rotation site 5 of group size 32 with threshold 2.0 and one static channel, and a layout with one
ATTENTION part of one core with a GALLEY region and one reduction record (tensor 9, split, elements 0 to 3, one contributor,
five terms); B 1, H 3, L 16. -/
def img1 : List Byte :=
  List.replicate 12 0 ++ [2, 0, 1, 0] ++ List.replicate 10 0 ++ [1, 3] ++ List.replicate 148 0 ++ [16] ++ List.replicate 79 0 ++
  leBytes 8 3 ++ leBytes 8 320 ++ leBytes 8 28 ++ leBytes 8 0 ++ leBytes 8 4 ++ leBytes 8 348 ++ leBytes 8 136 ++ leBytes 8 0 ++
  ([0, 0, 1, 0] ++ List.replicate 12 0 ++ [5, 5, 0, 0, 0, 0, 1, 0] ++ [31, 0, 0, 127]) ++
  (leBytes 4 1 ++ leBytes 4 8 ++ List.replicate 8 0 ++
    ([0, 0, 0, 0, 1, 1, 2, 0] ++ leBytes 4 0 ++ leBytes 4 80 ++ leBytes 4 104 ++ leBytes 2 1 ++ List.replicate 42 0) ++
    leBytes 4 88 ++ leBytes 4 1 ++ (leBytes 4 0x05000000 ++ leBytes 4 1024 ++ List.replicate 8 0) ++
    ([9, 0, 1, 0] ++ leBytes 4 0 ++ leBytes 4 4 ++ [0, 0, 1, 0] ++ leBytes 4 5 ++ leBytes 4 0 ++ leBytes 4 4 ++ leBytes 4 100))
def part1 : Placed := ⟨0, 0, 0, 0, 0, 0, 1, 1, 2, 8, 0, 0, 0, 16, [], [], 0, false⟩
def forme1 : Forme := { forme0 with image := img1, parts := [part1], layouts := [0], tNs := 1000, cyclesD := 75, cycleNs := 1000 }
def formed (s : State) : State := { s with formes := [(0, forme1)] }
theorem wit_formed : partOfCore (formed run0) c0 = some (0, forme1, part1) ∧ runs (formed run0) c0 1 = true ∧ partOfCore run0 c0 = none := by
  decide +kernel

/-! #### The vector unit: the operand rows lie at the ends of the store, in a register and in static slots -/

theorem wit_rows : Ready run0 c0 (opCode 2 0x029) [.store 0, .store (coreBytes - 128), .reg 0, .reg 7, .recv 127, .send 127] := by
  constructor
  · decide
  · intro r h
    fin_cases h <;> decide
theorem wit_rows_clean : ∀ r ∈ [VRow.store 0, .store (coreBytes - 128), .reg 7, .recv 127, .send 127], RowClean run0 c0 r := by
  intro r h
  fin_cases h <;> simp only [RowClean] <;> decide
/-- A core without a program takes any operation. -/
theorem runs_bare : ∀ op, runs run0 c0 op = true := by
  have h : nextOp run0 c0 = none := by decide
  intro op
  simp only [runs, opDue, h, Option.all_none]
  decide
theorem wit_float_lanes : (VFmt.b16 ≠ .int32 ∧ VFmt.f32 ≠ .int32) ∧
    ∀ n, Ready run0 c0 (opCode 2 n) [(vop .b16).a, (vop .b16).b, (vop .b16).c, (vop .b16).dst] :=
  ⟨by decide, fun _ => ⟨runs_bare _, fun r h => by fin_cases h <;> decide⟩⟩
theorem wit_f32 : (vop .f32).fmt = .f32 ∧ ∀ n, Ready run0 c0 (opCode 2 n) [(vop .f32).a, (vop .f32).dst] :=
  ⟨rfl, fun _ => ⟨runs_bare _, fun r h => by fin_cases h <;> decide⟩⟩
theorem wit_int_lanes : (vop .int32).fmt = .int32 ∧ ∀ n, Ready run0 c0 (opCode 2 n) [(vop .int32).a, (vop .int32).b, (vop .int32).dst] :=
  ⟨rfl, fun _ => ⟨runs_bare _, fun r h => by fin_cases h <;> decide⟩⟩
theorem wit_argmax : ∀ v ∈ [(0 : Nat), 2 ^ 31 - 1], v < 2 ^ 31 := by decide
theorem wit_compare : (∀ n, Ready run0 c0 (opCode 2 n) [(vop .f32).a, (vop .f32).b, (vop .f32).c, (vop .f32).dst]) ∧ laneNan .f32 0 = false ∧
    laneNan .f32 0x7FC00001 = true ∧ convertible .f32 .b16 = true ∧ convertible .f8w .f8w = false :=
  ⟨fun _ => ⟨runs_bare _, fun r h => by fin_cases h <;> decide⟩, by decide +kernel, by decide +kernel, by decide, by decide⟩

/-! #### Quantise and the outlier test -/

def qop : QuantOp := ⟨c0, .f32, .store 0, 0, false, coreBytes - 16, coreBytes - 1, 0, 0, 3, 0, none⟩
theorem wit_quantise : blockOk .b16 1 = true ∧ blockOk .f32 0 = true ∧
    Ready run0 c0 (opCode 2 0x029) ([qop.src] ++ if qop.kv.isSome then [] else [.store qop.dst, .store qop.scaleDst]) ∧
    (quantiseBlock qop.i4 (blockVals .f32 (getRow run0 c0 qop.src).bytes 0)).nan = false ∧
    (∃ p, blockPlace run0 c0 qop.stamp qop.dst qop.scaleDst qop.kv = some p ∧ CanAccess run0 c0 p.codes 16 ∧
      CanAccess run0 c0 p.scale (1 + p.pad)) :=
  ⟨by decide, by decide, ⟨by decide, fun r h => by fin_cases h <;> decide⟩, by decide +kernel,
    ⟨_, rfl, by unfold CanAccess; decide, by unfold CanAccess; decide⟩⟩
def otest : OutlierOp := ⟨c0, .b16, .reg 0, .reg 1, 1, 5, 0, 0, 0, false⟩
theorem wit_outlier_test : blockOk otest.fmt otest.block = true ∧ (siteOf (formed run0) c0 5).map (·.1) = some 0 ∧
    writableRow otest.dst = true ∧ Ready (formed run0) c0 (opCode 2 0x040) [otest.src, otest.dst] :=
  ⟨by decide, by decide +kernel, rfl, by decide +kernel, fun r h => by fin_cases h <;> decide⟩
def outs (n : Nat) : OutlierSet := ⟨0, 0, 0, (List.range n).map (fun i => ⟨5, i, 0x3F80, false⟩), false⟩
def outed (n : Nat) : State := { formed run0 with outliers := [outs n] }
theorem wit_detection : outliersAt (outed 64) 0 0 0 = some (outs 64) ∧ outliersAt (outed 65) 0 0 0 = some (outs 65) ∧
    (outs 64).items.length ≤ 64 ∧ 64 < (outs 65).items.length ∧ (partOfCore (outed 65) c0).isSome = true := by decide +kernel

/-! #### The press -/

def feed0 : FeedOp := ⟨c0, 0, 7, .n4, false, false, .n4, 0, 0, 9, 0, 0, 0, 0, none, none⟩
def latched0 (n : Nat) : State := with0 { Core.reset with latch := some ⟨⟨List.replicate 128 0, false⟩, [], n, false⟩ }
theorem wit_feed : pairAccepted feed0.held feed0.fed = true ∧ coldWaits run0 c0 (rowAt feed0.tile) feed0.stamp = false ∧
    (feedRow (passOp run0 c0) feed0).2.isSome = true := by decide
theorem wit_feed_row : feed0.latched = false ∧ CanAccess run0 c0 (tileRow .n4 false 0 7) 128 ∧
    CanAccess run0 c0 (tileMeta .n4 false 0 7) (metaBytes .n4 false) := ⟨rfl, by unfold CanAccess; decide, by unfold CanAccess; decide⟩
theorem wit_feed_latched : ∃ l, ({ feed0 with latched := true } : FeedOp).latched = true ∧ (getCore (latched0 16) c0).latch = some l ∧ 0 < l.left ∧
    runs (latched0 16) c0 (opCode 1 2) = true := ⟨_, rfl, rfl, by decide, by decide⟩
theorem wit_feed_latch_over : (getCore (latched0 0) c0).latch = some ⟨⟨List.replicate 128 0, false⟩, [], 0, false⟩ := by decide
theorem wit_feed_fault : accessFault run0 c0 (tileRow .n4 false (coreBytes - 128) 0) 128 = some Err.CORE_ADDR_RANGE := by decide
/-- The tile's data row lies in an open bank, its metadata in a shut one. -/
theorem wit_feed_meta_fault : let s := { run0 with chases := [(0, { Chase.reset with banks := [(0, .gated)] })] }
    CanAccess s c0 (tileRow .n4 false (0xA000 - 128) 0) 128 ∧ (accessFault s c0 (tileMeta .n4 false (0xA000 - 128) 0) (metaBytes .n4 false)).isSome = true :=
  ⟨by unfold CanAccess; decide, by decide⟩
theorem wit_file_load : runs run0 c0 (opCode 1 3) = true ∧ CanAccess run0 c0 (rowAt 0) 128 := ⟨runs_bare _, by unfold CanAccess; decide⟩
def gath0 : GatherOp := ⟨c0, 0, 0, 0, .n4, false, 5, 0, 0, 9, 0, 0, 0, 0⟩
theorem wit_gather : runs (outed 65) c0 (opCode 1 7) = true ∧ gatherable gath0.fed = true ∧
    (tileRead (outed 65) c0 gath0.fed gath0.sparse gath0.tile gath0.dataRow gath0.stamp gath0.instr).2.isSome = true ∧
    (hitsOf (outed 65) gath0 256).length = 64 ∧ (hitsOf (outed 65) { gath0 with site := 6 } 256) = [] ∧
    outliersAt (outed 65) (stampReq gath0.stamp) (stampPos gath0.stamp) (stampLayer gath0.stamp) = some (outs 65) := by decide +kernel
/-- An extra pass runs in its slip. -/
theorem wit_gather_extra : deferring { outed 65 with chases := [(0, { Chase.reset with slips := [⟨2, some c0, 0, some 9, 0, false⟩] })] } c0 = true ∧
    (hitsOf (outed 65) { gath0 with pass := 1 } 256).length = 1 := by decide +kernel

/-! #### Closing, saving, partials, rotations -/

def close0 : CloseOp := ⟨c0, 63, 1, .f32, [], 0, 128, 0, 0, false, c0, [c1], 5, 0, 0, none, .sum⟩
/-- The owner of a split element with one contributor. -/
def closeO : CloseOp := { close0 with split := true }
def accd (a : Acc) : State := with0 { Core.reset with accs := [(63, a)] }
/-- Five terms and one partial have come; the sum fits, or is beyond the window. -/
def acc5 : Acc := { Acc.empty 0 0 with terms := 5, partials := 1 }
def accOvf : Acc := { acc5 with acc := 2 ^ 160 }
theorem wit_close_bound : close0.role = .sum ∧ runs run0 c0 (opCode 1 4) = true ∧ recordOf run0 c0 1 (getAcc run0 c0 63).element = none ∧
    (recordOf (formed run0) c0 9 (getAcc (formed run0) c0 63).element).isSome = true ∧ boundClose run0 close0 = close0 := by decide +kernel
theorem wit_close_record : let o := boundClose (formed run0) { close0 with tensor := 9 }
    o.split = true ∧ o.owner = c0 ∧ o.terms = 5 ∧ o.recomputeLen = 4 ∧ expected (formed run0) c0 9 0 [] = 1 := by decide +kernel
theorem wit_close_format : closable .t2 = false ∧ closable .s8 = false ∧ closable .f32 = true ∧ (Fmt.f32 ≠ .n4 ∧ Fmt.f32 ≠ .i4) := by decide
theorem wit_close_contributor : let o : CloseOp := { closeO with owner := c1 }
    boundClose run0 o = o ∧ o.split = true ∧ o.owner ≠ o.core := by decide +kernel
theorem wit_close_waits : boundClose run0 closeO = closeO ∧ closeO.owner = closeO.core ∧
    (∃ i ∈ closeAccs closeO, (getAcc run0 c0 i).partials < expected run0 c0 closeO.tensor (getAcc run0 c0 i).element closeO.contributors) :=
  ⟨by decide +kernel, by decide, 63, by decide, by decide +kernel⟩
theorem wit_close_owner : (∀ a ∈ [acc5, accOvf, { acc5 with terms := 4 }], expected (accd a) c0 closeO.tensor a.element closeO.contributors ≤ a.partials) ∧
    ({ acc5 with terms := 4 } : Acc).terms ≠ closeO.terms ∧ accOvf.terms = closeO.terms ∧ accOvf.overflows = true ∧ accOvf.recomputes < 3 ∧
    acc5.terms = closeO.terms ∧ acc5.overflows = false ∧ 3 ≤ ({ accOvf with recomputes := 3 } : Acc).recomputes ∧ boundClose (accd acc5) closeO = closeO := by
  decide +kernel
theorem wit_close_written : close0.split = false ∧ (getAcc (accd acc5) c0 63) = acc5 ∧ acc5.closed.2 = false ∧
    CanAccess (accd acc5) c0 (close0.dst / fmtBytes close0.out * fmtBytes close0.out) (fmtBytes close0.out) :=
  ⟨by decide, by decide, by decide +kernel, by unfold CanAccess; decide⟩
theorem wit_save : runs run0 c0 (opCode 1 5) = true ∧ runs run0 c0 (opCode 1 6) = true ∧ CanAccess run0 c0 (coreBytes - 128) 128 ∧ (coreBytes - 128) % 128 = 0 ∧
    ∀ i < 4, (getAcc run0 c0 ((62 + i) % 64)).poison = false := ⟨runs_bare _, runs_bare _, by unfold CanAccess; decide, by decide, by decide⟩
def part0 : PartialOp := ⟨c0, { flit0 with payload := (Acc.empty 5 9).record ++ List.replicate 32 0 ++ [1, 0, 0, 0] }, [63], 1, 5, [c1, c1], 0, 0, 0⟩
theorem wit_partial : leAt part0.flit.payload 64 1 = 1 ∧ part0.accs = [63] ∧ boundPartial run0 part0 9 = part0 ∧
    (Acc.ofRecord (slice part0.flit.payload 0 32) []).anchor = ((getAcc run0 c0 63).begin_ 5 9).anchor ∧
    ((getAcc run0 c0 63).begin_ 5 9).partials + 1 < expected run0 c0 part0.tensor 9 part0.contributors ∧
    (Acc.ofRecord (slice part0.flit.payload 0 32) []).anchor ≠ ((getAcc run0 c0 63).begin_ 6 9).anchor := by decide +kernel
/-- The last partial: the terms are fewer, as many or more than the record's, and the sum fits or overflows. -/
theorem wit_partial_last : let a := ({ Acc.empty 5 9 with partials := 1, terms := 3 } : Acc)
    let b := ({ Acc.empty 5 9 with partials := 1, acc := 2 ^ 160 } : Acc)
    (getAcc (accd a) c0 63).begin_ 5 9 = a ∧ expected (accd a) c0 part0.tensor 9 part0.contributors ≤ a.partials + 1 ∧
    a.terms < ({ part0 with terms := 4 } : PartialOp).terms ∧ ({ part0 with terms := 2 } : PartialOp).terms < a.terms ∧
    a.terms = ({ part0 with terms := 3 } : PartialOp).terms ∧ a.overflows = false ∧ b.overflows = true ∧ b.recomputes < 3 ∧
    (getAcc (accd b) c0 63).begin_ 5 9 = b ∧ b.terms = part0.terms := by decide +kernel
def reanchor0 : ReAnchorOp := ⟨c0, 1, 7, 32, 0, 0, c1, 0⟩
theorem wit_re_anchor : let x : Retained := ⟨0, 1, 7, 100, Acc.empty 0 7⟩
    boundReAnchor run0 reanchor0 = reanchor0 ∧
    retainedAt (with0 { Core.reset with retained := [x] }) c0 reanchor0.stamp reanchor0.tensor reanchor0.element = some x ∧
    retainedAt run0 c0 reanchor0.stamp reanchor0.tensor reanchor0.element = none := by decide +kernel

theorem wit_lens : partOfCore (formed run0) c0 = some (0, forme1, part1) ∧ siteOf (formed run0) c0 5 = some (0, ⟨5, 5, 0, 0, [(31, 127)]⟩) ∧
    VFmt.f32 ≠ .int32 ∧ runs (formed run0) c0 (opCode 3 1) = true ∧ runs (formed run0) c0 (opCode 4 1) = true ∧ CanAccess (formed run0) c0 (coreBytes - 128) (2 ^ 5 * 4) ∧
    CanAccess (formed run0) c0 (coreBytes - 1) 1 ∧ (0 ≤ 31 ∧ 31 < 0 + 2 ^ 5) ∧ (0 + 4 * 2 ^ 5 ≤ coreBytes - 1 + 0) := by
  refine ⟨by decide +kernel, by decide +kernel, by decide, by decide +kernel, by decide +kernel, ?_, ?_, by decide, by decide⟩ <;> unfold CanAccess <;> decide
def partM : Placed := { part1 with posOffset := -1 }
theorem wit_rotate : (stampPos 0 : Int) + partM.posOffset < 0 ∧ (2 : Int) ^ 24 ≤ (stampPos 0 : Int) + ({ part1 with posOffset := 2 ^ 24 } : Placed).posOffset ∧
    (stampPos 0 : Int) + ({ part1 with posOffset := 2 ^ 24 - 1 } : Placed).posOffset < 2 ^ 24 ∧
    partOfCore { run0 with formes := [(0, { forme1 with parts := [partM] })] } c0 = some (0, { forme1 with parts := [partM] }, partM) ∧
    CanAccess (formed run0) c0 0 (2 * laneBytes .b16) ∧ CanAccess (formed run0) c0 (coreBytes - 4) (2 * laneBytes .b16) := by
  refine ⟨by decide, by decide, by decide, by decide +kernel, ?_, ?_⟩ <;> unfold CanAccess <;> decide

/-! #### The sequencer, the stream engine, the gate -/

/-- Bytes set in a record of zeros. -/
def recW (l : List (Nat × Byte)) : List Byte := l.foldl (fun r x => r.set x.1 x.2) rec0

/-- A descriptor of a kind with STREAM set and one row of 64 bytes, and one not of that shape. -/
def descK (k : Nat) : Desc := { descOf (recW [(1, 1), (4, 64), (32, 1)]) 0 0 none with kind := k, outstanding := [0], next := 1 }
def desc0 : Desc := descK 2
def coreD (d : Desc) : State := with0 { Core.reset with descs := [(0, d)], issued := 1 }

theorem wit_end : runs run0 c0 (opCode 0 1) = true ∧ runs run0 c0 (opCode 0 2) = true ∧ runs run0 c0 (opCode 0 9) = true ∧ partOfCore run0 c0 = none ∧
    (∀ x, partOfCore (formed run0) c0 = some x → x.2.2.flags / 4 % 2 ≠ 1) := by
  refine ⟨runs_bare _, runs_bare _, runs_bare _, by decide, ?_⟩
  intro x h
  rw [wit_formed.1] at h
  cases h
  decide
theorem wit_fence : fenceMet (getCore (coreD desc0) c0) (2, 1, 0) = false ∧ fenceMet (getCore (coreD desc0) c0) (0, 1, 0) = true := by decide
/-- An image with a program: its part's core begins at word 1, a LOOP in cycle 0 over one word, then an END in cycle 5. -/
def imgP : List Byte :=
  List.replicate 12 0 ++ [2, 0, 1, 0] ++ List.replicate 10 0 ++ [1, 3] ++ List.replicate 148 0 ++ [16] ++ List.replicate 79 0 ++
  leBytes 8 4 ++ leBytes 8 320 ++ leBytes 8 80 ++ leBytes 8 0 ++ leBytes 8 5 ++ leBytes 8 400 ++ leBytes 8 48 ++ leBytes 8 0 ++
  (leBytes 4 1 ++ leBytes 4 8 ++ List.replicate 8 0 ++ ([0, 0, 0, 0, 1, 1, 2, 0] ++ List.replicate 56 0)) ++
  (List.replicate 16 0 ++ ([2, 0, 0, 0] ++ leBytes 12 0) ++ ([1, 0, 0, 0] ++ leBytes 4 5 ++ leBytes 8 0))
def progS : State := { run0 with formes := [(0, { forme1 with image := imgP })] }
theorem wit_next_op : ∃ x, nextOp progS c0 = some x ∧ opCode x.word.unit x.word.fn = opCode 0 2 ∧ x.word.cycle = 0 ∧
    reached (getChase progS (chaseOf c0)).time (getCore progS c0).lag x.due = true ∧ runs progS c0 (opCode 0 2) = true ∧
    runs progS c0 (opCode 0 1) = false := ⟨_, rfl, by decide +kernel⟩
/-- The END of cycle 5 is not due in cycle 0. -/
theorem wit_next_op_early : let s := { progS with cores := [(0, { Core.reset with op := 1 })] }
    ∃ x, nextOp s c0 = some x ∧ opCode x.word.unit x.word.fn = opCode 0 1 ∧
    reached (getChase s (chaseOf c0)).time (getCore s c0).lag x.due = false := ⟨_, rfl, by decide +kernel⟩
theorem wit_loop : let k (n : Nat) : Core := { Core.reset with op := 2, loops := [⟨1, 0, 2, 9, n⟩] }
    (k 2).loops = ⟨1, 0, 2, 9, 2⟩ :: [] ∧ (k 2).op + 1 = 1 + 2 ∧ (1 < 2 ∧ 1 ≤ 1) := by decide
/-- A chase frozen by a halt; a fence at its use cycle; a use cycle of an entry that is not complete. -/
theorem wit_core_stands : (getChase { run0 with chases := [(0, { Chase.reset with slips := [⟨6, none, 0, none, 0, false⟩] })] } (chaseOf c0)).frozen = true ∧
    (getCore run0 c0).lag = 0 ∧ reached 0 0 0 = true ∧ (getCore (with0 { Core.reset with fences := [(0, 1, 0)] }) c0).fences = [(0, 1, 0)] ∧
    runs (with0 { Core.reset with fences := [(0, 1, 0)] }) c0 0 = false ∧
    (getGate (with0 { Core.reset with uses := [(31, 0)] }) c0 31).st ≠ .complete ∧ runs (with0 { Core.reset with uses := [(31, 0)] }) c0 0 = false := by decide
theorem wit_issue : runs run0 c0 (opCode 0 8) = true ∧ CanAccess run0 c0 ((coreBytes - 1) / 64 * 64) 64 ∧ kfree (getCore run0 c0).descs 0 16 = some 0 ∧
    (descOf (storeRead run0 c0 0 64) 0 0 none).valid = false ∧ storePoisoned run0 c0 0 64 = false := by
  refine ⟨by decide, ?_, by decide, by decide, by decide⟩
  unfold CanAccess
  decide
theorem wit_issue_full : kfree (getCore (with0 { Core.reset with descs := (List.range 16).map (fun i => (i, desc0)) }) c0).descs 0 16 = none := by decide
def issued0 (b : List Byte) : State := { run0 with mem := { run0.mem with store := memWriteBytes [] 0 b } }
theorem wit_issue_poisoned : storePoisoned { run0 with mem := { run0.mem with storePoison := [0] } } c0 0 64 = true := by decide
theorem wit_issue_empty : (descOf (storeRead (issued0 [7]) c0 0 64) 0 0 none).valid = true ∧ (descOf (storeRead (issued0 [7]) c0 0 64) 0 0 none).length = 0 := by decide
theorem wit_issue_queued : let d := descOf (storeRead (issued0 (recW [(0, 1), (4, 1), (32, 1)])) c0 0 64) 0 0 none
    d.valid = true ∧ d.length ≠ 0 ∧ d.rows ≠ 0 := by decide
theorem wit_window : kget? (getCore (coreD desc0) c0).descs 0 = some desc0 ∧ desc0.outstanding.length ≤ desc0.window ∧
    ({ desc0 with flags := 0 } : Desc).outstanding.length ≤ ({ desc0 with flags := 0 } : Desc).window ∧ ({ desc0 with depth := 64 } : Desc).window = 64 := by decide
theorem wit_complete : let d := { desc0 with outstanding := [], next := rowBase, flags := 9, eventId := 63 }
    kget? (getCore (coreD d) c0).descs 0 = some d ∧ d.settled = true ∧ d.event = true ∧ firstOf (getCore (coreD d) c0) d = true ∧
    desc0.settled = false ∧ firstOf (getCore (with0 { Core.reset with descs := [(0, d), (1, { d with seq := 1 })] }) c0) { d with seq := 1 } = false := by decide
theorem wit_stream_due : let s := { coreD desc0 with chases := [(0, { Chase.reset with time := 5 })] }
    ({ desc0 with due := 5 } : Desc).due ≠ 0 ∧ reached (getChase s (chaseOf c0)).time 0 5 = true ∧ reached (getChase s (chaseOf c0)).time 0 6 = false ∧
    ∀ x ∈ (getChase s (chaseOf c0)).slips, ¬ (x.source = Src.streamDue ∧ x.core = some c0 ∧ x.what = desc0.seq) := by decide
theorem wit_read_data : kget? (getCore (coreD desc0) c0).descs 0 = some desc0 ∧ 0 ∈ desc0.outstanding ∧ desc0.kind = 2 ∧
    leAt flit0.payload 64 1 ≠ 2 ∧ leAt flit0.payload 64 1 ≠ 3 ∧ answerable (coreD desc0) desc0 0 = true ∧
    leAt ({ flit0 with payload := flit0.payload.set 64 2 } : Flit).payload 64 1 = 2 ∧ leAt ({ flit0 with payload := flit0.payload.set 64 3 } : Flit).payload 64 1 = 3 := by decide
theorem wit_read_stack : answerable (coreD (descK 4)) (descK 4) 0 = true ∧ answerable (coreD (descK 4)) { descK 4 with src := 2 ^ 61 + 2 ^ 47 } 0 = false ∧
    answerable (coreD (descK 6)) (descK 6) 0 = false := by decide
theorem wit_landing : desc0.slug = false ∧ CanAccess run0 c0 (beatAt (desc0.dstRow 0 + 0)) 64 ∧ 0 < (List.replicate 64 (0 : Byte)).length ∧
    (let d := { desc0 with flags := 3, length := 68, dst := 64 }
     d.slug = true ∧ (68 : Nat) = 68 * 1 ∧ CanAccess run0 c0 (d.dstScale + 4 * (0 * (d.rowLen / 68) + 1)) 4 ∧ CanAccess run0 c0 (d.dstRow 0 + 64 * 1) 64 ∧
      d.dstScale + 4 * (0 * (d.rowLen / 68) + 1) + 4 ≤ d.dstRow 0 + 64 * 1) := by
  refine ⟨by decide, ?_, by decide, by decide, by decide, ?_, ?_, by decide⟩ <;> unfold CanAccess <;> decide
def winS : State := st [(Reg.HST_WIN_BASE, 4096, 63), (Reg.HST_WIN_SIZE, 2 ^ 32, 63), (Reg.HST_WIN_CTL_ENABLE, 1, 63), (Reg.HST_WIN_CTL_WRITE, 1, 63),
  (Reg.HST_WIN_CTL_FORME, 1, 63)]
theorem wit_write_ack : (descK 3).kind = 3 ∧ (descK 7).kind = 7 ∧ formeHost winS ((descK 7).dstOf 0) ((descK 7).lenOf 0) true = some 4096 ∧
    formeHost run0 ((descK 7).dstOf 0) ((descK 7).lenOf 0) true = none := by decide
theorem wit_stack_write : (0, descK 5) ∈ (getCore (coreD (descK 5)) c0).descs ∧ (descK 5).kind = 5 ∧ (descK 5).outstanding = [0] ∧
    (∀ x ∈ (getCore (coreD (descK 5)) c0).descs, x.2.kind = 5 → x.2.outstanding ≠ [] → x = (0, descK 5) ∨ (descK 5).seq < x.2.seq) ∧
    (descK 5).dstOf 0 + (descK 5).lenOf 0 ≤ stackBytes ∧ stackBytes < ({ descK 5 with dst := 2 ^ 61 + 2 ^ 47 } : Desc).dstOf 0 + (descK 5).lenOf 0 := by decide
theorem wit_read_req : coreExists run0 c0 = true ∧ railOn run0 (chaseOf c0) = true ∧ badBeats (beatAt (coreBytes - 64)) ((64 + 15) / 16 * 16 / 16) = false ∧
    bankShut run0 c0 (coreBytes - 64) = false ∧ badBeats 48 ((32 + 15) / 16 * 16 / 16) = true ∧ railOn State.reset 0 = false ∧
    bankShut { run0 with chases := [(0, { Chase.reset with banks := [(35, .gated)] })] } c0 (coreBytes - 64) = true := by decide
/-- A write of one word at the store's last word. -/
def wflit : Flit := { flit0 with payload := leBytes 4 (coreBytes - 16 + 2 ^ 19) ++ List.replicate 64 7 }
theorem wit_write : let w := leAt wflit.payload 0 4
    badBeats (beatAt (w % 2 ^ 19)) (w / 2 ^ 19 % 8) = false ∧ bankShut run0 c0 (beatAt (w % 2 ^ 19)) = false ∧ w / 2 ^ 19 % 8 ≠ 0 ∧
    (getCore run0 c0).wbuf = [] ∧ (∀ a ∈ wordsAt (beatAt (w % 2 ^ 19)) 16, errsAt run0 c0 a = []) := by decide
theorem wit_write_full : 16 ≤ (getCore (with0 { Core.reset with wbuf := List.replicate 16 ⟨0, [], false, false, c0, 0, 0⟩ }) c0).wbuf.length := by decide
theorem wit_write_stored : nextWrite (with0 { Core.reset with wbuf := [⟨0, [1], false, false, c0, 0, 0⟩] }) c0 = some ⟨0, [1], false, false, c0, 0, 0⟩ := by decide

/-- A flit of a packet that goes on. -/
def flitOn : Flit := { flit0 with route := routeWord 1 0 0 0 - BitVec.ofNat 32 (2 ^ 24) }
def flitEnd : Flit := { flit0 with route := routeWord 1 0 0 0 }
def sendingS : State := with0 { Core.reset with txOpen := [⟨0, headRoute (classRoute flitOn.route.toNat 0), 0, 1⟩] }
theorem wit_sends : runs run0 c0 (opCode 5 1) = true ∧ runs run0 c0 (opCode 5 2) = true ∧ physCol run0 c0 = some 0 ∧ (∀ t ∈ (getCore run0 c0).txOpen, t.cls ≠ sendClass flit0) ∧
    heldAt run0 ⟨0, 0⟩ 6 0 false < 4 ∧ heldAt run0 ⟨0, 0⟩ 6 0 true = 0 ∧ flitEop flitOn = false ∧ flitEop flitEnd = true := by decide
theorem wit_sends_on : ∃ y, (getCore sendingS c0).txOpen.find? (fun t => t.cls == sendClass flitOn) = some y ∧
    y.route = headRoute (classRoute flitOn.route.toNat (sendClass flitOn)) ∧ y.stamp = flitOn.stamp.toNat ∧ runs sendingS c0 (opCode 5 2) = true ∧
    (physCol sendingS c0).isSome = true ∧ y.stamp ≠ ({ flitOn with stamp := 1 } : Flit).stamp.toNat := ⟨_, rfl, by decide⟩
theorem wit_send_slug : CanAccess run0 c0 (coreBytes - 64) 64 ∧ CanAccess run0 c0 0 4 := ⟨by unfold CanAccess; decide, by unfold CanAccess; decide⟩
def r0 : RouterRef := ⟨0, 0⟩
def aired (l : List FlitAt) : State := { run0 with fabric := l }
theorem wit_deadlock : let s := setF (aired [⟨r0, 3, flit0, false, 0, none⟩]) Reg.CHS_DEADLOCK_LIMIT 10 0
    headAt s r0 3 0 = some ⟨r0, 3, flit0, false, 0, none⟩ ∧ (getChase s 0).clk < 0 + getF s Reg.CHS_DEADLOCK_LIMIT 0 ∧
    (let t := { s with chases := [(0, { Chase.reset with clk := 10 })] }
     0 + getF t Reg.CHS_DEADLOCK_LIMIT 0 ≤ (getChase t 0).clk) ∧ headAt run0 r0 3 0 = none := by decide
theorem wit_control : coreAtRouter run0 r0 = some c0 ∧ coreAtRouter run0 ⟨0, 64⟩ = none := by decide
theorem wit_arm : runs run0 c0 (opCode 0 3) = true ∧ runs run0 c0 (opCode 0 4) = true ∧ (getCore run0 c0).park = [] := by decide
def gate0 : Gate := ⟨.armed, 0, 0, 0, 0, 0, 1, 0, 0, [0]⟩
def gated0 (g : Gate) : State := with0 { Core.reset with gates := [(31, g)] }
theorem wit_gate_match : gateKind (flitKind flit0) = true ∧ coreExists run0 c0 = true ∧ gateFor (getCore (gated0 gate0) c0) flit0.stamp = some (31, gate0) := by decide
theorem wit_gate_park : gateFor (getCore run0 c0) flit0.stamp = none ∧ (getCore run0 c0).park.length < 16 ∧ (getCore run0 c0).wbuf = [] ∧
    16 ≤ (getCore (with0 { Core.reset with park := List.replicate 16 ⟨flit0, 0⟩ }) c0).park.length := by decide
theorem wit_gate_land : gate0.open_ = true ∧ flit0.index < gate0.flits ∧ gate0.landed.getD (stampPart flit0.stamp - gate0.partLo) 0 < gate0.flits ∧
    CanAccess (gated0 gate0) c0 (gate0.base + (stampPart flit0.stamp - gate0.partLo) * gate0.stride + 68 * flit0.index) 68 ∧
    flit0.payload.length = 68 ∧ ({ gate0 with st := .complete } : Gate).open_ = false ∧ gate0.flits ≤ ({ flit0 with index := 1 } : Flit).index ∧
    gate0.flits ≤ ({ gate0 with landed := [1] } : Gate).landed.getD 0 0 := by
  refine ⟨by decide, by decide, by decide, ?_, by decide⟩
  unfold CanAccess
  decide
theorem wit_park_stale : let s := with0 { Core.reset with park := [⟨flit0, 0⟩] }
    (getCore s c0).park[0]? = some ⟨flit0, 0⟩ ∧ (getChase s (chaseOf c0)).clk < 0 + 2 ^ 16 ∧
    0 + 2 ^ 16 ≤ (getChase { s with chases := [(0, { Chase.reset with clk := 2 ^ 16 })] } (chaseOf c0)).clk := by decide
def erred (n : Nat) : State := { run0 with mem := { run0.mem with errs := [(0, (List.range n).map (fun i => (i, 1)))] } }
theorem wit_scrub : railOn run0 (chaseOf c0) = true ∧ coreExists run0 c0 = true ∧ (getCore run0 c0).wbuf = [] ∧ olderWaits run0 c0 (getCore run0 c0).arrived = false ∧
    CanAccess run0 c0 ((coreBytes - 1) / 64 * 64) 64 ∧ errsAt run0 c0 (coreBytes - 64) = [] ∧ (errsAt (erred 1) c0 0).length = 1 ∧
    (errsAt (erred 2) c0 0).length = 2 ∧ 3 ≤ (errsAt (erred 3) c0 0).length ∧ sourced (erred 3) c0 0 = false ∧ railOn State.reset (chaseOf c0) = false := by
  refine ⟨by decide, by decide, by decide, by decide, ?_, by decide, by decide, by decide, by decide, by decide, by decide⟩
  unfold CanAccess
  decide
/-- A READ_REQ that came before the next request stands before the core. -/
def waitingS (w : List WBuf) : State := with0 { Core.reset with
  wbuf := w, inbox := [⟨0, { flit0 with route := routeWord 1 0 0 Kind.readReq }⟩], arrived := 2 }
theorem wit_scrub_not : ¬ CanAccess run0 c0 (coreBytes / 64 * 64) 64 ∧ olderWaits (waitingS []) c0 (getCore (waitingS []) c0).arrived = true := by
  refine ⟨?_, by decide⟩
  unfold CanAccess
  decide
/-- A buffered write that came after a waiting request; twelve of them. -/
theorem wit_write_order : let w : WBuf := ⟨0, [1], false, false, c0, 0, 1⟩
    nextWrite (waitingS [w]) c0 = some w ∧ (getCore (waitingS [w]) c0).wbuf.length < 12 ∧ olderWaits (waitingS [w]) c0 w.at_ = true ∧
    12 ≤ (getCore (waitingS (List.replicate 12 w)) c0).wbuf.length ∧ olderWaits (with0 { Core.reset with wbuf := [w] }) c0 w.at_ = false := by decide
theorem wit_wide_read : (∀ w ∈ wordsAt 0 128, (errsAt (erred 1) c0 w).length ≠ 2) ∧
    (wordsAt 0 128).countP (fun w => (errsAt (erred 2) c0 w).length == 2) = 1 ∧
    (getCore (meetNarrow (erred 2) c0 0 128) c0).lag + (getCore (meetNarrow (erred 2) c0 0 128) c0).holdLeft
      (getChase (meetNarrow (erred 2) c0 0 128) (chaseOf c0)).clk ≤ 40 := by decide

/-! #### The fabric and the chases -/

/-- A flit of class 0 to core (0, 63), and one whose kind or column names nothing. -/
def farFlit : Flit := { flit0 with route := routeWord 63 0 0 0 }
def badFlit : Flit := { flit0 with route := routeWord 0 0 0 0xC }
def fAt (f : Flit) : FlitAt := ⟨r0, 6, f, false, 0, none⟩
theorem wit_hop_dark : transitUp State.reset (chaseOfRouter r0) = false ∧
    transitUp { run0 with chases := [(0, { Chase.reset with transitOk := false })] } (chaseOfRouter r0) = false := by decide
theorem wit_hop : transitUp (aired [fAt flit0]) (chaseOfRouter r0) = true ∧ headAt (aired [fAt badFlit]) r0 6 (flitClass badFlit) = some (fAt badFlit) ∧
    packetAt (aired [fAt badFlit]) r0 6 0 = none ∧ 0xC ≤ flitKind badFlit ∧
    destOf run0 0 0 none { flit0 with route := routeWord 0x7FF 0 0 0 } = none := by decide
theorem wit_hop_dropped : let s := { aired [fAt farFlit] with packets := [⟨r0, 6, 0, Out.drop⟩] }
    headAt s r0 6 0 = some (fAt farFlit) ∧ packetAt s r0 6 0 = some ⟨r0, 6, 0, Out.drop⟩ := by decide
theorem wit_hop_on : outOf (aired [fAt farFlit]) r0 (fAt farFlit) = some 4 ∧ moveOf 4 = some Move.skipEast ∧
    winner (aired [fAt farFlit]) r0 4 = some (0, 6) ∧ flitEop farFlit = true := by decide +kernel
/-- A flit to its own core, and one that waits for an output that another input's flit takes first. -/
theorem wit_hop_here : outOf (aired [fAt flit0]) r0 (fAt flit0) = some Out.local_ ∧ winner (aired [fAt flit0]) r0 Out.local_ = some (0, 6) ∧
    flitDcol flit0 < 0x400 ∧ coreAtRouter run0 r0 = some c0 := by decide +kernel
theorem wit_hop_waits : let s := aired [fAt farFlit, ⟨r0, 3, { farFlit with route := routeWord 63 0 4 5 }, false, 0, none⟩]
    outOf s r0 (fAt farFlit) = some 4 ∧ winner s r0 4 = some (4, 3) ∧ wants s r0 4 0 6 = true := by decide +kernel
theorem wit_routes : flitDcol farFlit < 0x400 ∧ (0x434 ≤ 0x437 ∧ 0x437 < 0x438) ∧ 0x43C ≤ 0x7FF ∧
    nextMove run0 0 0 6 (.core ⟨0, 63⟩) = some Move.skipEast ∧ nextMove run0 0 64 6 (.core ⟨0, 63⟩) = some Move.west ∧
    nextMove run0 0 2 6 (.core ⟨0, 0⟩) = some Move.skipWest ∧ nextMove run0 0 62 6 (.core ⟨0, 63⟩) = some Move.east := by decide +kernel
theorem wit_routes_column : (Dest.core ⟨5, 0⟩).colIn run0 0 = 0 ∧ moveOk run0 0 0 Move.south = true ∧ moveOk run0 5 0 Move.north = true ∧
    (Dest.core ⟨0, 63⟩).colIn run0 0 = 63 ∧ moveOk run0 0 0 Move.skipEast = true ∧ moveOk run0 0 62 Move.east = true ∧
    moveOk run0 0 63 Move.skipWest = true ∧ moveOk run0 0 63 Move.west = true := by decide +kernel
theorem wit_routes_fixed : fixedOpen run0 (.core ⟨0, 63⟩) 4096 0 0 6 = true ∧ (0 = (Dest.core ⟨0, 63⟩).row ∨ onColumn 0 0 6 = false) ∧
    fixedOpen run0 (.core ⟨0, 0⟩) 4096 5 0 6 = true ∧ onColumn 5 1 0 = true ∧ onColumn 0 1 0 = false := by decide +kernel
/-- Chase 16 is dark. In row 0 core column 0 has moved to the failed router (0, 1); in row 1 it stands at the router below. -/
theorem wit_routes_shut : let s := { run0 with errata := ⟨[(0, ⟨1, 0x7F, true, false, true, false, 0, 0x7F, 0⟩)], [], [], [(0, [0])]⟩ }
    fixedOpen run0 (.core ⟨64, 0⟩) 4096 0 0 6 = false ∧ routerOk run0 64 0 = false ∧
    fixedOpen s (.core ⟨1, 0⟩) 4096 0 0 6 = false ∧ (Dest.core ⟨1, 0⟩).colIn s 1 = 0 ∧ routerOk s 1 0 = true ∧
    Move.south ∈ detourMoves ∧ Move.south.linked 0 = true ∧ ((0 : Int) + Move.south.dr, (0 : Int) + Move.south.dc) = (1, 0) := by decide +kernel
theorem wit_link : linkFree run0 r0 4 = true ∧ moveOf 4 = some Move.skipEast := by decide
theorem wit_halt : answers run0 256 = true ∧ onF run0 Reg.CHS_SCHED_CTL_HALT_REQ 0 = false ∧ answers State.reset 511 = false ∧
    onF (st [(Reg.CHS_SCHED_CTL_HALT_REQ, 1, 0)]) Reg.CHS_SCHED_CTL_HALT_REQ 0 = true := by decide
/-- A halt in effect, an open request of core 0, and one that has timed out. -/
def halting0 (clk : Nat) : State := { run0 with chases := [(0, { Chase.reset with
  clk := clk, slips := [⟨6, none, 32, none, 0, false⟩, ⟨1, some c0, 0, none, 0, false⟩, ⟨1, some c0, 0, none, 0, true⟩] })] }
theorem wit_halted : (∃ x ∈ (getChase (halting0 32) 0).slips, x.source = 6 ∧ x.stop = none ∧ x.start ≤ (getChase (halting0 32) 0).clk) ∧
    lagMax (halting0 32) 0 = 0 ∧
    (∀ x ∈ (getChase (halting0 31) 0).slips, x.source = 6 → x.stop = none → (getChase (halting0 31) 0).clk < x.start) := by decide
theorem wit_halted_lag : lagMax { run0 with cores := [(0, { Core.reset with lag := 1 })] } 0 ≠ 0 := by decide
theorem wit_slip_timeout : let x : Slip := ⟨1, some c0, 0, none, 0, false⟩
    (getChase (halting0 (2 ^ 32)) 0).slips[1]? = some x ∧ x.stop = none ∧ x.source ≠ 6 ∧ x.timedOut = false ∧ x.core = some c0 ∧
    x.start + getF (halting0 (2 ^ 32)) Reg.CHS_SLIP_LIMIT 0 ≤ (getChase (halting0 (2 ^ 32)) 0).clk ∧
    (getChase (halting0 0) 0).clk < x.start + getF (halting0 0) Reg.CHS_SLIP_LIMIT 0 ∧
    (getChase (halting0 0) 0).slips[2]? = some { x with timedOut := true } := by decide
theorem wit_snap : answers run0 256 = true ∧ selectedCore run0 0 ≠ none ∧ onF run0 Reg.CHS_CORE_CNT_SEL_MODE 0 = false ∧
    onF (st [(Reg.CHS_CORE_CNT_SEL_MODE, 1, 0)]) Reg.CHS_CORE_CNT_SEL_MODE 0 = true := by decide

/-! #### Serving -/

def gal0 : Galley := ⟨.conv 1 5, 0, 0, 0, 0, .pending, 1, false, some 0, some 4096, none, 1024, 256, [], 0, none, [], 0, []⟩

/-- Keeper group 0 runs, host port 0 is up, queue 0 is an enabled ADMIN queue with a command at its head and a
window over all its addresses. -/
def served : State := setQ (grp (st [lit 11, lit 12, (Reg.HST_PORT_STAT_UP, 1, 0), (Reg.SRV_Q_CTL_ENABLE, 1, 0), (Reg.SRV_Q_CTL_ADMIN, 1, 0),
    (Reg.SRV_Q_CTL_SQ_LOG2, 4, 0), (Reg.SRV_Q_CTL_RQ_LOG2, 4, 0), (Reg.HST_WIN_SIZE, 2 ^ 32, 0), (Reg.HST_WIN_CTL_ENABLE, 1, 0),
    (Reg.HST_WIN_CTL_WRITE, 1, 0), (Reg.LOAD_F_STATE, 2, 0)]) 0) 0 { Queue.reset 0 with sqTail := 1 }

theorem wit_fetch : (recK 2).length = 64 ∧ [2, 3, 0x10, 0x11].map (fun k => kindOf (recK k)) = [2, 3, 0x10, 0x11] ∧
    knownKinds.contains (kindOf (recK 7)) = false ∧ canFetch served 0 = true ∧ rqFree served 0 ≠ 0 := by decide
theorem wit_fetch_blocked : let s := setQ served 0 { getQ served 0 with used := 16 }
    canFetch s 0 = true ∧ rqFree s 0 = 0 ∧ canFetch served 1 = false := by decide
theorem wit_fetch_entry : kfree served.serve.streams 0 16384 = some 0 := by decide +kernel
/-- One prompt token at address 0, TOP_K 1, TENANT 1, TOP_P 1. -/
def gen0 : List Byte := recW [(0, 1), (2, 1), (24, 1), (28, 1), (42, 1), (44, 0x80), (45, 0x3F)]
def host0 : HostData := ⟨[0], [], [], false⟩
theorem wit_generate : gen0.length = 64 ∧ kindOf gen0 = 1 ∧ kfree served.serve.streams 0 16384 = some 0 ∧ canFetch served 0 = true ∧ rqFree served 0 ≠ 0 ∧
    served.serve.tombstones = [] := by decide +kernel
def served1 : State := setF served Reg.SRV_F_VOCAB 1 0
theorem wit_generate_ok : genCheck (fetched served1 0) gen0 host0 = none := by decide +kernel
theorem wit_ring_open : 0 ∉ served.partner.handed ∧ served.serve.answered = [] ∧ (getQ served 0).owed = [] ∧ (getQ served 0).used < rqSize served 0 ∧ hostUp served = true ∧
    31 ≤ rec0.length ∧ (⟨rec0, none⟩ : Resp).frees = none := by decide
theorem wit_owed : let s := setQ served 0 { getQ served 0 with used := 16 }
    0 ∉ s.partner.handed ∧ (getQ s 0).used = rqSize s 0 ∧ hostUp State.reset = false := by decide

/-- A request of queue 0 with CID 0, at its first position. -/
def str0 : Stream := { newStream served 0 gen0 host0 false with state := 3, req := some 0, known := 1, vlen := 1, depth := 1 }
def stream1 (x : Stream) : State := { served with serve := { served.serve with streams := [(0, x)] }, formes := [(0, forme0)] }
theorem wit_cancel : cancelTarget (stream1 str0) (leAt rec0 8 2) (leAt rec0 10 2) = some (0, str0) ∧
    cancelTarget served (leAt rec0 8 2) (leAt rec0 10 2) = none := by decide
def conv0 : Conv := ⟨1, 5, 0, [], 0, none, false, true, 0, 0, 0, [], none, []⟩
def conved (c : Conv) : State := { grp served 1 with serve := { served.serve with convs := [c] } }
theorem wit_release : findConv (conved conv0) (tenantOf gen0) 5 = some conv0 ∧ findConv served (tenantOf rec0) (genConv rec0) = none := by decide
theorem wit_cancel_target : (0, str0) ∈ (stream1 str0).serve.streams ∧ str0.ended = false := by decide
def moor0 : Mooring := ⟨1, 0, 1, 1, 1, 1, false, false⟩
def moored : State := { stream1 { str0 with state := 0 } with serve := { (stream1 { str0 with state := 0 }).serve with moorings := [(9, moor0)] } }
/-- MOORING 9 of tenant 1. -/
def mrec : List Byte := recW [(0, 0x10), (2, 1), (4, 9), (8, 1), (12, 1), (16, 1)]
theorem wit_mooring : onF served Reg.SRV_Q_CTL_ADMIN 0 = true ∧ onF served Reg.SRV_Q_CTL_ADMIN 1 = false ∧
    mooringCheck served mrec = (Sts.FORME_UNKNOWN, none) ∧ kget? moored.serve.moorings (leAt mrec 4 2) = some moor0 ∧ moor0.tenant = tenantOf mrec ∧
    moor0.cleared = false ∧ kget? served.serve.moorings (leAt mrec 4 2) = none := by decide
theorem wit_mooring_cleared : let s := { moored with serve := { moored.serve with moorings := [(9, { moor0 with cleared := true })] } }
    kget? s.serve.moorings (leAt mrec 4 2) = some { moor0 with cleared := true } ∧ onF s Reg.SRV_Q_CTL_ADMIN 0 = true := by decide
theorem wit_doorbells : answers served (1024 + 0) = true ∧ 15 < sqSize served 0 ∧ 15 ≠ (getQ served 0).sqTail ∧ sqSize served 0 ≤ 16 ∧ rqSize served 0 ≤ 16 ∧
    15 < rqSize served 0 ∧ (getQ served 0).used < (15 + rqSize served 0 - (getQ served 0).rqHead) % rqSize served 0 ∧
    (0 + rqSize served 0 - (getQ served 0).rqHead) % rqSize served 0 ≤ (getQ served 0).used := by decide
/-- A full ring with its head at 0: a head of 0 frees its 16 records, and a head of 3 three of them (R293). -/
def fullRing : State := setQ served 0 { Queue.reset 0 with used := 16 }
theorem test_rqHead_full : rqSize fullRing 0 = 16 ∧ freedBy fullRing 0 0 = 16 ∧ freedBy fullRing 0 3 = 3 ∧ freedBy served 0 0 = 0 := by decide
theorem wit_coalesce : let s := setF (setQ served 0 { Queue.reset 0 with sinceAt := some 0 }) Reg.SRV_Q_COALESCE_TIME 1 0
    (getQ s 0).sinceAt = some 0 ∧ s.lampTime < 0 + 1000 * getF s Reg.SRV_Q_COALESCE_TIME 0 ∧
    0 + 1000 * getF { s with lampTime := 1000 } Reg.SRV_Q_COALESCE_TIME 0 ≤ ({ s with lampTime := 1000 } : State).lampTime := by decide
def queued0 : State := grp (stream1 { str0 with state := 0 }) 1
theorem wit_admission : getSt queued0 0 = some { str0 with state := 0 } ∧ groupUp queued0 0 = true ∧ groupUp queued0 1 = true ∧ awake queued0 = true ∧
    getF queued0 Reg.LOAD_F_STATE 0 = 2 ∧ getForme queued0 0 = some forme0 ∧ draining queued0 0 = false ∧
    (∀ o ∈ extOverlays str0.ext, (overlaySlot queued0 0 1 o).isSome) ∧
    cxlUp queued0 = false ∧ queued0.kv.galleys = [] ∧ str0.mooring = 0 ∧ str0.unmoored = false ∧
    getF (setF queued0 Reg.LOAD_F_STATE 5 0) Reg.LOAD_F_STATE 0 = 5 ∧ getF (setF queued0 Reg.LOAD_F_STATE 6 0) Reg.LOAD_F_STATE 0 = 6 := by decide
/-- A galley of the request's conversation in host memory while no CXL link is up; a request whose mooring was cleared. -/
theorem wit_admission_waits : let x := { str0 with state := 0, cmd := gen0.set 8 5 }
    let s := { grp (stream1 x) 1 with kv := { State.reset.kv with galleys := [(3, { gal0 with st := .host, t0 := none, t1 := none, t2 := some 0 })] } }
    getSt s 0 = some x ∧ cxlUp s = false ∧ (∃ g ∈ s.kv.galleys, g.2.st = .host ∧ g.2.owner = .conv x.tenant (genConv x.cmd)) ∧
    ({ x with cmd := gen0.set 4 9, unmoored := true } : Stream).mooring ≠ 0 ∧
    (∀ m, kget? s.serve.moorings ({ x with cmd := gen0.set 4 9 } : Stream).mooring = some m → m.cleared = true) := by decide
theorem wit_room : bestEffortRoom { formed queued0 with regs := (setF queued0 Reg.CPW_CLK_NOW 600 0).regs } 0 forme1 { str0 with state := 0 } = true ∧
    bestEffortRoom queued0 0 forme0 { str0 with state := 0 } = false := by decide +kernel
theorem wit_draining : draining { queued0 with formes := [(0, { forme0 with repl := some ⟨[], [], 0, 0, 0, [], none, true, false, 0⟩ })] } 0 = true := by decide
theorem wit_moored : let x := { str0 with state := 0, cmd := gen0.set 4 9 }
    x.mooring ≠ 0 ∧ kget? moored.serve.moorings x.mooring = some moor0 ∧ moor0.cleared = false ∧ moor0.tenant = x.tenant ∧ moor0.forme = x.forme ∧
    mooringLive moored x.mooring < moor0.streams ∧ ({ moor0 with streams := 0 } : Mooring).streams ≤ mooringLive moored x.mooring := by decide
theorem wit_admitted : getSt queued0 0 = some { str0 with state := 0 } ∧ str0.tokens ≠ [] ∧ (getQ queued0 str0.queue).used < rqSize queued0 str0.queue := by decide
theorem wit_wave : let s := setF (formed served) Reg.CPW_CLK_NOW 600 0
    getForme s 0 = some forme1 ∧ forme1.rewrite = [] ∧ groupUp s 0 = true ∧ awake s = true ∧ resident s 0 = true ∧ atBarrier s 0 = false ∧
    recovering s 0 = false ∧ 0 < forme1.cyclesD ∧ waveDue s forme1 = true ∧ waveDue s { forme1 with lastWave := some 0 } = false := by decide +kernel
theorem wit_wave_rewrite : ({ forme1 with rewrite := [0] } : Forme).rewrite ≠ [] ∧
    ∃ e ∈ (stream1 { str0 with step := some ⟨1, 0, [], 0, 0, []⟩ }).serve.streams, e.2.forme = 0 ∧ e.2.step.isSome = true :=
  ⟨by decide, _, List.mem_singleton_self _, by decide⟩
theorem wit_wave_stops : atBarrier (setF served Reg.LOAD_F_STATE 4 0) 0 = true ∧ awake (setF served Reg.PWR_RETAIN_STAT_STATE 2 0) = false := by decide
theorem wit_step_now : (str0.replayTo ≤ str0.vlen ∧ str0.known ≤ str0.vlen) := by decide
theorem wit_step : 1 ≤ imgL forme1.image ∧ ({ str0 with vlen := 255, replayTo := 300 } : Stream).vlen < 300 ∧ ({ str0 with vlen := 0 } : Stream).vlen < str0.known ∧
    str0.replayTo ≤ str0.vlen ∧ str0.known ≤ str0.vlen := by decide +kernel
theorem wit_token : let x := { str0 with step := some ⟨1, 0, [], 0, 0, []⟩ }
    getSt (stream1 x) 0 = some x ∧ x.step = some ⟨1, 0, [], 0, 0, []⟩ ∧ getForme (stream1 x) x.forme = some forme0 := by decide
/-- A pass that names a galley, and one of another stream. -/
theorem wit_token_picks : (⟨1, 0, 0, 0, []⟩ : Pick).stream ≠ 0 ∧ ({ str0 with vlen := 0, replayTo := 1 } : Stream).vlen < 1 ∧
    ({ str0 with vlen := 0 } : Stream).vlen < str0.known ∧ str0.replayTo ≤ ({ str0 with vlen := 0 } : Stream).vlen := by decide
theorem wit_delivery : cutTokens [7] 9 0 0 [1, 7, 2] = 2 ∧ cutTokens [] 2 0 0 [1, 7, 2] = 2 ∧ cutTokens [] 9 0 (2 ^ 24 - 1) [1, 7] = 1 := by decide

/-! #### Galleys and conversations -/

def kved (g : Galley) : State := { formed State.reset with kv := { State.reset.kv with galleys := [(3, g)] } }
theorem wit_galley_copy : let g := { gal0 with t0 := none, st := .fetching }
    getG (kved g) 3 = some g ∧ g.t1 = some 4096 ∧ kget? (kved g).formes g.forme = some forme1 ∧ freeRegion (kved g) forme1 0 1024 = some 0 ∧
    errsIn (kved g).mem.stackErrs 4096 g.bytes = [] ∧ gal0.t0 = some 0 := by
  decide +kernel
theorem wit_galley_inv : Inv (kved gal0) := ⟨⟨by decide, by decide, by decide⟩, by decide, by decide, by decide⟩
theorem wit_galley_resident : getG (kved gal0) 3 = some gal0 ∧ gal0.st = .pending ∧ gal0.t1 ≠ none ∧ gal0.t0 = some 0 ∧ gal0.owner = .conv 1 5 ∧
    anyPoison (kved gal0).mem.storePoison 0 1024 = false ∧ anyPoison [15] 0 1024 = true ∧ usersOf (kved gal0) gal0 = [] ∧
    onF (kved gal0) Reg.ERR_PARTNER_CTL_MIRROR_KV 0 = false := by decide
theorem wit_fetch_done : let g := { gal0 with st := .fetching, owner := .stream 0 }
    getG (kved g) 3 = some g ∧ g.st = .fetching ∧ gal0.st ≠ .fetching := by decide
def t2S : State := setF (setF (setF (setF (conved conv0) Reg.HST_PORT_STAT_CXL 1 0) Reg.HST_CXL_CTL_CACHE_EN 1 0) Reg.HST_T2_SIZE 4096 0) Reg.HST_T2_BASE 4096 0
theorem wit_to_t2 : findConv t2S 1 5 = some conv0 ∧ conv0.held = false ∧ conv0.paused = true ∧ groupUp t2S 1 = true ∧ t2Port t2S = some 0 ∧
    t2S.lampTime < conv0.pausedAt + 60000000000 ∧ conv0.pausedAt + 60000000000 ≤ ({ t2S with lampTime := 60000000000 } : State).lampTime := by decide
theorem wit_t2_ack : let g := { gal0 with st := .paused, t2 := some 0 }
    getG (kved g) 3 = some g ∧ g.st = .paused ∧ g.t1 = some 4096 ∧ g.t2 = some 0 := by decide
theorem wit_send_t2 : let s := setF (setF (kved gal0) Reg.HST_T2_SIZE 4096 0) Reg.HST_T2_BASE 4096 0
    getG s 3 = some gal0 ∧ gal0.t2 = none ∧ errsIn s.mem.stackErrs 4096 gal0.span = [] ∧ stackPoisoned s 4096 gal0.span = false ∧
    firstFit gal0.span (getF s Reg.HST_T2_BASE 0) s.kv.t2 + gal0.span ≤ getF s Reg.HST_T2_BASE 0 + getF s Reg.HST_T2_SIZE 0 := by decide +kernel
theorem wit_send_t2_inv : Inv (setF (setF (kved gal0) Reg.HST_T2_SIZE 4096 0) Reg.HST_T2_BASE 4096 0) :=
  ⟨⟨by decide, by decide, by decide⟩, by decide, by decide, by decide⟩
theorem wit_expiry : findConv (conved conv0) 1 5 = some conv0 ∧ conv0.held = false ∧ conv0.paused = true ∧ groupUp (conved conv0) 1 = true ∧ conv0.claimed = none ∧
    (conved conv0).serve.convFifo.length < 64 ∧ 64 ≤ (List.replicate 64 5).length ∧ ({ conv0 with held := true } : Conv).held = true ∧
    conv0.pausedAt + 1000000000 * conv0.ttl ≤ (conved conv0).lampTime ∧ (conved conv0).lampTime < ({ conv0 with ttl := 1 } : Conv).pausedAt + 1000000000 * 1 := by decide
theorem wit_lapse : (0 : Nat) + 604800000000000 ≤ ({ State.reset with lampTime := 604800000000000 } : State).lampTime := by decide

/-! #### Attention and experts -/

/-- Layer 0 with an attention record (one KV group, two blocks, selection, window 256, top 2) and experts (two routed, one selected, one
cold slot); layer 2 with experts whose predictor runs in layer 0. -/
def img2 : List Byte :=
  List.replicate 12 0 ++ [3, 0, 3, 0] ++ List.replicate 160 0 ++ [16] ++ List.replicate 79 0 ++
  leBytes 8 3 ++ leBytes 8 352 ++ leBytes 8 32 ++ leBytes 8 0 ++ leBytes 8 7 ++ leBytes 8 384 ++ leBytes 8 64 ++ leBytes 8 0 ++
  leBytes 8 (7 + 2 * 2 ^ 32) ++ leBytes 8 448 ++ leBytes 8 64 ++ leBytes 8 0 ++
  ([0, 0, 0, 0, 1] ++ List.replicate 11 0 ++ [0, 0, 1, 2, 0, 1, 0, 0, 0, 1, 0, 0, 2, 0, 0, 0]) ++
  ([2, 0, 0, 1, 0, 0, 1, 0, 1, 0] ++ leBytes 2 0xFFFF ++ leBytes 2 0 ++ leBytes 2 0xFFFF ++ List.replicate 16 0 ++
    [0, 0, 1, 0] ++ List.replicate 12 0 ++ [1, 0, 1, 0] ++ List.replicate 12 0) ++
  ([2, 0, 0, 1, 0, 0, 1, 0, 1, 0] ++ leBytes 2 0 ++ leBytes 2 0 ++ leBytes 2 1 ++ List.replicate 16 0 ++
    [0, 0, 1, 0] ++ List.replicate 12 0 ++ [1, 0, 1, 0] ++ List.replicate 12 0)
def cold0 (layer : Nat) (c : ColdSlot) : ColdLayer := ⟨0, layer, [c], [], 0, [], [], []⟩
def emptySlot : ColdSlot := ⟨.empty, 0, 0, false⟩
/-- A pass in flight of a stream with request 0 on a forme of that image. -/
def attS : State := { run0 with
  formes := [(0, { forme0 with image := img2 })]
  serve := { run0.serve with streams := [(0, { str0 with step := some ⟨1, 0, [], 0, 0, [(0, 1)]⟩, vlen := 1, tlen := 2 })] }
  kv := { run0.kv with galleys := [(3, { gal0 with owner := .stream 0, st := .composing, t0 := some 0, t1 := none, bytes := 16384 })] }
  cold := [cold0 0 emptySlot, cold0 2 emptySlot] }
def att0 : Attn := ⟨0, 1, 2, 0, true, 0, 256, 2⟩
theorem wit_participants : att0.dense true = true ∧ att0.candidates 3 ≤ att0.topk ∧
    ([1, 4].length = att0.topk ∧ [1, 4].Pairwise (· < ·) ∧ ∀ i ∈ [1, 4], i < att0.candidates 7) := by decide
theorem wit_leaves : (⟨0, 0, [0]⟩ : Leaf).m ≠ negInf ∧ (([(1, 0x3F800000), (2, 0x3F800000)] : List (Nat × Nat)).map (·.1)).Nodup := by decide
theorem wit_ranked : 1 ∈ topRanked 1 [(1, 0x3F800000), (2, 0x3F800000)] ∧ 2 ∉ topRanked 1 [(1, 0x3F800000), (2, 0x3F800000)] := by
  have h : rankHigh (1, 0x3F800000) (2, 0x3F800000) = true := by decide +kernel
  constructor <;> simp [topRanked, List.mergeSort, List.MergeSort.Internal.splitInTwo, h]
def exp0 : Experts := expertsOf (secBytes img2 ⟨1, 7, 0, 0, 0, 384, 64⟩)
theorem wit_cold_slots : slotToBind exp0 (cold0 0 emptySlot) = some 0 ∧ slotToBind exp0 (cold0 0 ⟨.loaded, 1, 0, false⟩) = some 0 ∧
    (cold0 0 ⟨.loaded, 1, 0, false⟩).guarded ⟨.loaded, 1, 0, false⟩ = false ∧ slotToBind exp0 (cold0 0 ⟨.streaming, 1, 0, false⟩) = none ∧
    (bindExpert exp0 (cold0 0 emptySlot) 1 true).isSome = true ∧ (cold0 0 ⟨.streaming, 1, 0, false⟩).guarded ⟨.streaming, 1, 0, false⟩ = true := by
  decide +kernel
theorem wit_close_roles : runs attS c0 (opCode 1 4) = true ∧ runs attS c0 (opCode 5 2) = true ∧ closable .f32 = true ∧ (streamOfReq attS (stampReq 0)).isSome = true ∧
    attnFor attS str0 (stampLayer 0) = some att0 ∧ elemBytes .n4 96 = 48 ∧ scaleBytes .n4 96 = 3 := by decide +kernel
theorem wit_close_access : CanAccess attS c0 0 48 ∧ CanAccess attS c0 (coreBytes - 3) 3 := by
  constructor <;> unfold CanAccess <;> decide
theorem wit_router : (getForme attS 0).map Forme.image = some img2 ∧ coldAt attS 0 0 = some (cold0 0 emptySlot) ∧ (expertsAt img2 0).isSome = true ∧
    coldAt attS 0 (0 + 2) = some (cold0 2 emptySlot) := by decide +kernel
theorem wit_predictor : (expertsAt img2 (0 + 2)).map Experts.predFrom = some 0 ∧
    (expertsAt img2 (0 + 2)).map Experts.predTensor = some 1 := by decide +kernel
theorem wit_guarded : (cold0 2 ⟨.streaming, 0, 0, false⟩).guarded ⟨.streaming, 0, 0, false⟩ = true := by decide +kernel
/-- A layer with a part of one core, one cold slot of 1,024 bytes, and two cold experts of which a token of request 0 selected
the second. -/
def imgC : List Byte :=
  List.replicate 12 0 ++ [2, 0, 1, 0] ++ List.replicate 10 0 ++ [1, 3] ++ List.replicate 148 0 ++ [16] ++ List.replicate 79 0 ++
  leBytes 8 4 ++ leBytes 8 320 ++ leBytes 8 104 ++ leBytes 8 0 ++ leBytes 8 7 ++ leBytes 8 424 ++ leBytes 8 64 ++ leBytes 8 0 ++
  (leBytes 4 1 ++ leBytes 4 8 ++ List.replicate 8 0 ++
    ([0, 0, 0, 0, 1, 1, 4, 0] ++ leBytes 4 0 ++ leBytes 4 80 ++ List.replicate 48 0) ++
    leBytes 4 88 ++ leBytes 4 1 ++ (leBytes 4 0x07000000 ++ leBytes 4 1024 ++ List.replicate 8 0)) ++
  ([2, 0, 0, 1, 0, 0, 1, 0, 1, 0] ++ leBytes 2 0xFFFF ++ leBytes 2 0 ++ leBytes 2 0xFFFF ++ List.replicate 16 0 ++
    [0, 0, 1, 0] ++ List.replicate 12 0 ++ [1, 0, 1, 0] ++ List.replicate 12 0)
def coldS (k : ColdSlot) (chosen : List Nat) : State := { run0 with
  formes := [(0, { forme1 with image := imgC })], cold := [⟨0, 0, [k], [], 0, [⟨0, 0, chosen, 0, false⟩], [], []⟩] }
/-- A feed waits for the expert that streams into its tile's slot, and for one that no slot holds yet; not for a token that
selected none, and not where the slot holds it. -/
theorem wit_cold_waits : coldWaits (coldS ⟨.streaming, 1, 0, true⟩ [1]) c0 (rowAt 0) 0 = true ∧ coldWaits (coldS emptySlot [1]) c0 (rowAt 0) 0 = true ∧
    coldWaits (coldS ⟨.loaded, 1, 0, true⟩ [1]) c0 (rowAt 0) 0 = false ∧ coldWaits (coldS emptySlot []) c0 (rowAt 0) 0 = false ∧
    runs (coldS emptySlot [1]) c0 (opCode 1 1) = true := by decide +kernel
def leaf0 : LeafSrc := ⟨3, ⟨0, 0, .n4⟩, [0], [1], 0, 0, 0, 0, 0, true⟩
theorem wit_group_sent : groupSlots attS 0 ⟨0, 0, 64⟩ = [0] ∧ landedLen attS c0 0 = 16 ∧ (leafSpan attS c0 (BitVec.ofNat 64 0) leaf0).map (fun r => (r.base, r.bytes)) = some (0, 48) ∧
    leafSpan attS c0 (BitVec.ofNat 64 0) { leaf0 with galley := 4 } = none := by
  decide +kernel
theorem wit_leaf_sent : CanAccess attS c0 leaf0.query.codes (leafCodes leaf0) ∧ CanAccess attS c0 leaf0.query.scales (leafScales leaf0) ∧
    CanAccess attS c0 0 48 := by
  refine ⟨?_, ?_, ?_⟩ <;> unfold CanAccess <;> decide

def mooringS : State := setF (setF (formed served) Reg.CPW_CLK_NOW 600 0) Reg.SRV_MOOR_LIMIT 128 0
def mrec2 : List Byte := recW [(0, 0x10), (2, 1), (4, 9), (8, 1), (12, 1), (16, 0x10), (17, 0x27)]
theorem wit_period : periodOf mooringS forme1 1 10000 = 256 := by
  have c : forme1.cycleNs = 1000 := by decide +kernel
  have m : getF mooringS Reg.SRV_SLIP_MARGIN 0 = 10 := by decide +kernel
  unfold periodOf
  simp only [c, m]
  norm_num
  decide +kernel
theorem wit_mooring_set : mooringCheck mooringS mrec2 = (Sts.OK, some ⟨1, 0, 1, 1, 10000, 256, false, false⟩) := by
  unfold mooringCheck
  rw [if_neg (by decide), if_neg (by decide)]
  have g : getForme mooringS (leAt mrec2 20 1) = some forme1 := by decide +kernel
  have e : slotsP forme1 = 75 := by decide +kernel
  have l : getF mooringS Reg.SRV_MOOR_LIMIT 0 = 128 := by decide
  have r : reserved mooringS (leAt mrec2 20 1) (leAt mrec2 4 2) = 0 := by decide +kernel
  have p : periodOf mooringS forme1 (leAt mrec2 12 4) (leAt mrec2 16 4) = 256 := wit_period
  simp only [g, e, l, r, p]
  rw [if_neg (by decide), if_neg (by decide), if_neg (by decide), if_neg (by rw [show leAt mrec2 8 4 = 1 from by decide]; norm_num)]
  rfl

/-! #### Loading -/

/-- A LOAD_FORME record of 16 bytes at address 0, and one FROM_LINK with an identity expected. -/
def ldRec : List Byte := recW [(0, 0x20), (16, 16)]
def ldLink : List Byte := recW [(0, 0x20), (1, 1), (32, 1)]
def empty0 : State := setF served Reg.LOAD_F_STATE 0 0
def stacked (s : State) : State := (List.range 32).foldl (fun s n => setF s Reg.STK_STAT_STATE 2 n) s
def src0 : LoadSource := ⟨List.replicate 16 0, false⟩
theorem wit_load : ldRec.length = 64 ∧ kindOf ldRec = 0x20 ∧ canFetch empty0 0 = true ∧ rqFree empty0 0 ≠ 0 ∧ loadCommon (fetched empty0 0) 0 0x20 ldRec = none ∧
    ldFromLink ldRec = false ∧ src0.fails = false ∧ src0.image.length = ldLength ldRec ∧
    loadCommon (fetched served 0) 0 0x20 ldRec = some Sts.FORME_BUSY := by decide
theorem wit_load_tier : tierTrained (addF (fetched (stacked empty0) 0) Reg.HST_RD_BYTES 16 0) = true ∧
    tierTrained (addF (fetched empty0 0) Reg.HST_RD_BYTES 16 0) = false := by decide
theorem wit_load_link : ldLink.length = 64 ∧ loadCommon (fetched empty0 0) 0 0x20 ldLink = none ∧ ldFromLink ldLink = true ∧
    getF (fetched empty0 0) Reg.LOAD_LINK_WAIT 0 ≠ 0 ∧ stackRoom (fetched empty0 0) (ldLength ldLink) = true ∧
    stackRoom (fetched { empty0 with kv := { empty0.kv with t1 := [(0, stackBytes)] } } 0) 1 = false := by decide +kernel
theorem wit_load_kinds : loadCommon (fetched served 0) 0 0x21 (recW [(0, 0x21), (16, 16)]) = none ∧
    loadCommon (fetched served 0) 0 0x23 (recW [(0, 0x23), (2, 1), (16, 16)]) = none ∧
    loadCommon (fetched served 0) 0 0x24 (recW [(0, 0x24), (2, 1), (16, 16)]) = none := by decide
theorem wit_unload : loadCommon (fetched served 0) 0 0x22 (recW [(0, 0x22)]) = none ∧
    getForme { served with formes := [(0, forme0)] } (ldForme (recW [(0, 0x22)])) = some forme0 := by decide
theorem wit_unload_drained : let f := { forme0 with unload := some (0, 0) }
    getForme { served with formes := [(0, f)] } 0 = some f ∧ f.unload = some (0, 0) ∧
    (∀ e ∈ served.serve.streams, e.2.forme = 0 → e.2.ended = true) ∧
    (∃ e ∈ (stream1 str0).serve.streams, e.2.forme = 0 ∧ e.2.ended = false) :=
  ⟨by decide, by decide, by decide, _, List.mem_singleton_self _, by decide⟩
def slot0 (x : SlotState) : Slot := ⟨x, false, 0, 1, 7, 1, false, [], [], 0, 0, 0⟩
def slotted (x : SlotState) : State := { served with slots := [(2, slot0 x)] }
theorem wit_delete : let r := recW [(0, 0x26), (2, 1), (4, 7)]
    loadCommon (fetched served 0) 0 0x26 r = none ∧ loadCommon (fetched served 0) 0 0x25 (recW [(0, 0x25), (2, 1)]) = none ∧
    (slotted .active).slots.find? (fun x => x.2.st == .active && sameTarget (ldForme r) (tenantOf r) (ldOverlay r) (0x26 == 0x25) x.2) =
      some (2, slot0 .active) := by decide
theorem wit_delete_pinned : (slot0 .active).pins = 0 ∧ ({ slot0 .active with pins := 1 } : Slot).pins ≠ 0 := by decide
def repl0 : Repl := ⟨[], [], 1, 0, 0, [], none, false, false, 0⟩
def replaced (r : Repl) : State := { served with formes := [(0, { forme0 with repl := some r })] }
theorem wit_staged : getForme (replaced repl0) 0 = some { forme0 with repl := some repl0 } ∧ repl0.staged = false := by decide
theorem wit_swap_begin : let r := { repl0 with staged := true }
    r.staged = true ∧ r.swapping = false ∧ swapReady (replaced r) 0 r = true ∧ recovering (replaced r) 0 = false ∧ r.changed = [] ∧
    ({ r with changed := [0] } : Repl).changed ≠ [] := by decide
theorem wit_swap_written : let r := { repl0 with swapping := true, changed := [0, 4], written := 1 }
    r.swapping = true ∧ recovering (replaced r) 0 = false ∧ r.changed[r.written]? = some 4 := by decide
theorem wit_swap_recovering : recovering { served with faults := { served.faults with recoveries := [{ Recovery.empty 0 with formes := [0] }] } } 0 = true := by decide
theorem wit_finish : (15 : Nat) < 16 ∧ getForme (replaced repl0) 0 = some { forme0 with repl := some repl0 } ∧ forme0.replWait = [] := by decide
def auditS : State := grp (setF { served with formes := [(0, forme0)] } Reg.LOAD_CTL_AUDIT_EN 1 0) 1
theorem wit_audit : onF auditS Reg.LOAD_CTL_AUDIT_EN 0 = true ∧ groupUp auditS 1 = true ∧
    auditS.lampTime < auditS.lastSweep + 1000000000 * getF auditS Reg.LOAD_AUDIT_PERIOD 0 ∧
    (let s := { auditS with lampTime := 1000000000 * 2 ^ 32 }
     s.lastSweep + 1000000000 * getF s Reg.LOAD_AUDIT_PERIOD 0 ≤ s.lampTime) := by decide
theorem wit_audit_clean : ∀ fi f l, getForme auditS fi = some f → waferDiffers auditS fi l f = false := by
  intro fi f l h
  have e : auditS.formes = [(0, forme0)] := rfl
  have g : f = forme0 := by
    unfold getForme at h
    rw [e] at h
    simp only [kget?] at h
    split at h <;> simp_all
  rw [g]
  rfl
/-- An image of one layer with 16 bytes of weights that are not zero. -/
def img3 : List Byte :=
  List.replicate 12 0 ++ [2, 0, 1, 0] ++ List.replicate 240 0 ++
  leBytes 8 4 ++ leBytes 8 320 ++ leBytes 8 104 ++ leBytes 8 0 ++ leBytes 8 6 ++ leBytes 8 424 ++ leBytes 8 16 ++ leBytes 8 0 ++
  (leBytes 4 1 ++ leBytes 4 8 ++ List.replicate 8 0 ++ ([0, 0, 0, 0, 1, 1, 2, 0] ++ leBytes 4 0 ++ leBytes 4 80 ++ List.replicate 48 0) ++
    leBytes 4 88 ++ leBytes 4 1 ++ (leBytes 4 0x01000000 ++ leBytes 4 16 ++ List.replicate 8 0)) ++ List.replicate 16 7
/-- A layer that differs on the wafer, and one whose copies agree. -/
def differing : State := { served with formes := [(0, { forme1 with image := img3, parts := [{ part1 with weightLen := 16 }] })] }
theorem wit_arbitrate : waferDiffers differing 0 0 { forme1 with image := img3, parts := [{ part1 with weightLen := 16 }] } = true ∧
    waferDiffers (formed served) 0 0 forme1 = false ∧ getForme (formed served) 0 = some forme1 := by decide +kernel
theorem wit_same_target : sameTarget 0 1 7 false (slot0 .active) = true := by decide
theorem wit_ask : onF (st [(Reg.LOAD_CTL_SERVE_LINK, 1, 0)]) Reg.LOAD_CTL_SERVE_LINK 0 = true ∧
    goldenImage { served with formes := [(0, forme1)] } (fun _ => true) = some img1 ∧ goldenImage served (fun _ => true) = none := by decide +kernel
def load0 : Load := ⟨0, ldLink, img1, some 3, [], 0, true, false, false, 0, true⟩
def loading0 (l : Load) : State := { served with loads := [l] }
theorem wit_offer : let i := slice ldLink 32 32 ++ List.replicate 16 0
    (loading0 load0).loads.find? (fun l => l.fromLink && ldExpect l.cmd == i.take 32) = some load0 ∧ ({ load0 with image := [] } : Load).image = [] ∧
    ((2 : LinkId).val < 3 ∧ load0.source = some 3 ∧ 3 ≤ (3 : LinkId).val ∧ load0.image ≠ [] ∧ ({ load0 with source := none } : Load).source = none) := by decide +kernel
theorem wit_load_data : (loading0 load0).loads.find? (fun l => l.fromLink && l.source == some (3 : LinkId).val) = some load0 ∧
    (List.replicate 68 (0 : Byte)).length ≤ 68 ∧ imgLayers load0.image ≤ 0xFFFF ∧ 0 < imgLayers load0.image ∧ load0.headOk = true ∧
    pastHead img1 0 = false := by decide +kernel
/-- An image with a head alone. Its key's point doubles to infinity, and the digest serves as the signature's second part. -/
def imgS : List Byte :=
  [0x46, 0x4F, 0x52, 0x4D, 0, 0, 1, 0, 0, 0, 0, 1, 2, 0, 1, 0] ++ List.replicate 96 0 ++ leBytes 8 416 ++ List.replicate 136 0 ++
  leBytes 8 1 ++ leBytes 8 320 ++ leBytes 8 96 ++ leBytes 8 0 ++ leBytes 8 9 ++ leBytes 8 416 ++ leBytes 8 96 ++ leBytes 8 0 ++ List.replicate 96 0 ++
  beBytes 48 0xaa87ca22be8b05378eb1c71ef320ad746e1d3b628ba79b9859f741e082542a385502f25dbf55296c3a545e3872760ab7 ++
  beBytes 48 0x14058bf44d6e328d5ae786eb1121b7098df16fcfd4dcf5a1ff42a07c744be1f5f92535cae89646f74fbbf4dc6ec3392
theorem imgS_early : checksEarly [(0, 0, 0)] imgS = none := by decide +kernel
theorem imgS_head (s : State) (l : Load) (k : s.keys = [(0, 0, 0)]) (i : l.image = imgS) (e : ¬ ldExpects l.cmd) : headRefusal s l = none := by
  have n : imgLayers imgS ≠ 0 := by decide +kernel
  unfold headRefusal
  rw [k, i, imgS_early]
  simp [n, e]
/-- The head of an image is done: it is refused, or accepted where the tier has no room. -/
theorem wit_load_head : let l := { load0 with cmd := ldRec, image := imgS, headOk := false }
    let s := { loading0 l with keys := [(0, 0, 0)], kv := { served.kv with t1 := [(0, stackBytes)] } }
    pastHead imgS 512 = true ∧ (headRefusal served l).isSome = true ∧ headRefusal s l = none ∧
    stackRoom (dropLoad s l) (goldenSize l.image) = false ∧ s.loads.find? (fun l => l.fromLink && l.source == some (3 : LinkId).val) = some l := by
  refine ⟨by decide +kernel, by decide +kernel, imgS_head _ _ rfl rfl (by decide), by decide +kernel, by decide +kernel⟩
theorem wit_link_source : let l := { load0 with source := none }
    let s := { loading0 l with lampTime := 1000000000 * 2 ^ 16 }
    s.loads.find? (fun l => l.fromLink && l.offers.isEmpty && l.source.isNone && ldForme l.cmd == (0 : FormeId).val
      && decide (l.since + 1000000000 * getF s Reg.LOAD_LINK_WAIT 0 ≤ s.lampTime)) = some l ∧ ldKind load0.cmd = 0x20 := by decide +kernel
theorem wit_link_waits : ∀ l ∈ (loading0 load0).loads, l.fromLink = true → ldForme l.cmd = (0 : FormeId).val →
    l.offers ≠ [] ∨ l.source ≠ none ∨ (loading0 load0).lampTime < l.since + 1000000000 * getF (loading0 load0) Reg.LOAD_LINK_WAIT 0 := by decide
theorem wit_slots : kget? (slotted .loading).slots 2 = some (slot0 .loading) ∧ kget? (slotted .scrubbing).slots 2 = some (slot0 .scrubbing) := by decide

/-- What a load does: with no live chase an image finds no room; with one, it is placed unless its lanes breach the schedule. -/
def ldBytes : Load := ⟨0, ldRec, img1, none, [], 0, false, false, false, 0, false⟩
theorem wit_impose_room : (match impose (dropLoad served ldBytes) 0 img1 with | .error r => r.check == 21 | .ok _ => false) = true ∧
    onF served Reg.RST_STAGE_KINDLE_DONE 0 = false ∧ onF (setF served Reg.RST_STAGE_KINDLE_DONE 1 0) Reg.RST_STAGE_KINDLE_DONE 0 = true ∧
    ldForme ldRec < 16 ∧ ldKind ldRec = 0x20 := by decide +kernel
theorem wit_repl_waits : (⟨[], [], 1, 0, 0, [], none, true, false, 0⟩ : Repl).staged = true ∧ (⟨[], [], 1, 0, 0, [], none, true, false, 0⟩ : Repl).policy = 1 ∧
    repl0.swapping = false ∧ repl0.staged = false ∧ forme0.repl = none := by decide
theorem wit_slot_refused : ldKind (recW [(0, 0x23)]) ≠ 0x20 ∧ ldKind (recW [(0, 0x23)]) ≠ 0x21 ∧ (checksSlot [] []).isSome = true ∧
    ldKind (recW [(0, 0x21)]) = 0x21 := by decide +kernel

/-! #### Telemetry and usage -/

theorem wit_tele_off : groupUp served 0 = true ∧ onF served Reg.TEL_CTL_EN 0 = false := by decide
theorem wit_tele_on : let s := { setF served Reg.TEL_CTL_EN 1 0 with tele := { served.tele with held := [telRecord 0 0 0x0004 [1]] } }
    s.tele.tokens = [] ∧ s.serve.moorings = [] ∧ s.tele.groupHeld = [] ∧ s.tele.held = [telRecord 0 0 0x0004 [1]] ∧
    telWanted s (telRecord 0 0 0x0004 [1]) = true := by decide
theorem wit_ring_put : (List.replicate 64 (0 : Byte)).length = errRing.size ∧ (telRecord 0 0 4 [0, 0, 0, 0, 0]).length = telRing.size ∧
    (getF State.reset errRing.tail 0 + 1) % ringSlots State.reset errRing ≠ getF State.reset errRing.head 0 ∧
    (getF (st [(errRing.head, 1, 0)]) errRing.tail 0 + 1) % ringSlots (st [(errRing.head, 1, 0)]) errRing = getF (st [(errRing.head, 1, 0)]) errRing.head 0 := by decide
theorem wit_layers : groupUp (grp (grp served 2) 1) 0 = true ∧ groupUp (grp (grp served 2) 1) 1 = true ∧ groupUp (grp (grp served 2) 1) 2 = true := by decide
theorem wit_boundary : lastBoundary served ≤ getF served Reg.USE_OPEN_START 0 ∧
    getF { served with lampTime := 60000000000 } Reg.USE_OPEN_START 0 < lastBoundary { served with lampTime := 60000000000 } := by decide
theorem wit_close_interval : served.tele.store.length + served.tele.open_.length ≤ 8192 ∧
    8192 < (List.replicate 8192 (⟨0, []⟩ : UsageRec)).length + [UsagePair.empty 0 0].length := by
  constructor
  · decide
  · rw [List.length_replicate]; decide
theorem wit_usage : answers (st [lit 18]) 18 = true ∧ (1 ≤ 3600 ∧ 3600 ≤ 3600) ∧
    ([(⟨4, [1]⟩ : UsageRec)]).find? (fun r => r.seq == 4) = some ⟨4, [1]⟩ ∧ ([(⟨4, [1]⟩ : UsageRec)]).find? (fun r => r.seq == 5) = none := by decide

/-! #### Fault records and registers -/

theorem wit_fault_block : ∀ b, (blockItem Err.RST_LOCKUP (identOf 0x03 0) []).block = some b → pageOfIdent b < 4096 := by
  intro b h
  have e : b = identOf 0x03 0 := by
    rw [show (blockItem Err.RST_LOCKUP (identOf 0x03 0) []).block = some (identOf 0x03 0) from rfl] at h
    exact (Option.some.inj h).symm
  rw [e]
  decide
theorem wit_suppressed : suppressed State.reset (blockItem Err.CLT_SLOW_FLOW cltIdent [1]) = false ∧
    suppressed (logFault State.reset (blockItem Err.CLT_SLOW_FLOW cltIdent [1])) (blockItem Err.CLT_SLOW_FLOW cltIdent [1]) = true ∧
    classOf Err.PWR_INPUT_LOSS = 4 ∧ classOf Err.CLT_SLOW_FLOW ≠ 4 ∧ onF State.reset Reg.ERR_CTL_RING_EN 0 = false := by decide
theorem wit_read_clear : answers (st [lit 7, lit 256]) 7 = true ∧ answers (st [lit 7, lit 256]) 256 = true := by decide
theorem wit_conv_expired : let s := { st [lit 11] with serve := { State.reset.serve with convFifo := [5, 6] } }
    answers s 11 = true ∧ s.serve.convFifo = [5, 6] ∧ s.serve.convWait = [] ∧ (st [lit 11]).serve.convFifo = [] := by decide
theorem wit_pair_low : 0xA088 < debugBase ∧ 0xA088 % 4 = 0 ∧ (pageType (0xA088 / 0x1000)).isSome = true ∧ pairLowAt (0xA088 / 0x1000) (0xA088 % 0x1000) = true ∧
    (0xA088 : Nat) ≠ 0xB0A0 ∧ 0xA088 % 8 = 0 ∧ 0xA08C % 8 ≠ 0 ∧ 0xA000 < debugBase ∧
    pairLowAt (0xA000 / 0x1000) (0xA000 % 0x1000) = false := by decide
theorem wit_no_answer : (pageType 256).any (fun t => !lampServed t.1) = true ∧ answers (st [lit 256]) (0x100040 / 0x1000) = true ∧ 0x40 ≤ 0x100040 % 0x1000 := by decide
theorem wit_t2_dir : let s := st [(Reg.HST_PORT_STAT_UP, 1, 1), (Reg.HST_PORT_STAT_CXL, 1, 1), (Reg.HST_CXL_CTL_MEM_EN, 1, 1)]
    (1 : PortId).val ≤ 1 ∧ onF s Reg.HST_PORT_STAT_UP 1 = true ∧ onF s Reg.HST_PORT_STAT_CXL 1 = true ∧ onF s Reg.HST_CXL_CTL_MEM_EN 1 = true := by decide
theorem wit_register_write : 5 * 0x1000 < debugBase ∧ pageType 5 = some (0x06, 0) ∧ pairLowAt 5 0xFFC = false ∧ pairHighAt 5 0xFFC = false ∧
    Reg.THM_TARGET.pair = false ∧ answers State.reset 5 = false ∧ answers (st [lit 5, lit 12]) 5 = true ∧ answers (st [lit 5, lit 12]) 12 = true := by decide
theorem wit_field_access : Reg.THM_TARGET.acc = .rw ∧ Reg.RST_FORCE_FORCE_STEP.acc = .rwl ∧ Reg.PAGE_BEACON_CHANGED.acc = .w1c ∧
    Reg.PAGE_LOCK_LOCKED.acc = .w1s ∧ Reg.ERR_RING_LOST.acc = .rc ∧ Reg.RST_BLK_CTL_KEY.acc = .wo ∧ Reg.PAGE_ID_TYPE.acc = .ro ∧
    (pageType 0).map (·.1) = some 0x01 ∧ (pageType 8).map (·.1) = some 0x09 := by decide
theorem wit_rings : answers (st [lit 7, lit 15]) 7 = true ∧ answers (st [lit 7, lit 15]) 15 = true ∧ onF State.reset Reg.ERR_CTL_RING_EN 0 = false ∧
    (16 : Nat) ≠ getF State.reset errRing.log2 0 ∧ (7 : Nat) ≠ getF State.reset telRing.log2 0 ∧ inWindows State.reset 0 64 true = false ∧
    inWindows winS 4096 64 true = true := by decide
theorem wit_win : answers (st [lit 10]) 10 = true ∧ getF (st [lit 10]) Reg.HST_WIN_SEL 0 = 0 := by decide
theorem wit_queue : answers served 11 = true ∧ getF served Reg.SRV_Q_SEL 0 < 1024 ∧ onF served Reg.SRV_Q_CTL_ENABLE 0 = true ∧
    onF served Reg.SRV_Q_CTL_ENABLE 1023 = false := by decide

/-! #### Links -/

/-- Link 15 in phase `ph`, enabled, its page answering. -/
def linked (ph : Nat) : State := st [(Reg.LNK_STAT_PHASE, ph, 15), (Reg.LNK_CTL_ENABLE, 1, 15), lit (linkPage 15)]
def withLink (s : State) (l : Link) : State := { s with links := [(15, l)] }
theorem wit_detect : phase (linked Phase.detect) 15 = Phase.detect ∧ onF (linked Phase.detect) Reg.LNK_CTL_ENABLE 15 = true := by decide
theorem wit_signal : let s := st [(Reg.LNK_CTL_ENABLE, 1, 15), (Reg.PAGE_BEACON_STATE, Beacon.occulting, linkPage 15)]
    phase s 15 = Phase.down ∧ onF s Reg.LNK_CTL_ENABLE 15 = true ∧ beaconOf s (linkPage 15) = Beacon.occulting := by decide
theorem wit_identify : phase (linked Phase.identify) 15 = Phase.identify ∧
    mainPeer [⟨0, 7, 15, 0, false⟩] = some (7, 15) := ⟨by decide, by simp [mainPeer]⟩
theorem wit_lock : phase (linked Phase.equalise) 15 = Phase.equalise ∧ phase (linked Phase.lock) 15 = Phase.lock ∧ phase (linked Phase.select) 15 = Phase.select := by decide
theorem wit_spared : let s := withLink (linked Phase.up) { Link.reset with logical := [31], spares := [7] }
    phase s 15 = Phase.up ∧ ((31 : Fin 32).val ∈ (getLink s 15).logical) ∧ (getLink s 15).spares = 7 :: [] ∧
    (getLink (withLink (linked Phase.up) { Link.reset with logical := [31] }) 15).spares = [] := by decide
theorem wit_negotiate : phase (linked Phase.negotiate) 15 = Phase.negotiate ∧ (([(1, 7), (1, 9), (2, 0)].filter (fun o : Nat × Nat => o.1 == 1)).map (·.2)).max? = some 9 ∧
    (∀ o ∈ [((2 : Nat), (0 : Nat))], o.1 ≠ 1) := by decide
theorem wit_retrain : (2 ^ 31 + 2 ^ 30 : Nat) < 2 ^ 32 ∧ (2 ^ 31 + 2 ^ 30) / 2 ^ 31 = 1 ∧ (2 ^ 31 + 2 ^ 30) / 2 ^ 30 % 2 = 1 ∧ answers (linked Phase.up) (linkPage 15) = true := by decide
theorem wit_pdelay : Phase.sync ≤ phase (linked Phase.sync) 15 ∧ Phase.sync ≤ phase (linked Phase.up) 15 ∧
    timePath (st [(Reg.LNK_STAT_TIME_PATH, 1, 15)]) = some 15 ∧ timePath State.reset = none := by decide
theorem wit_offsets : (1000000000 : Int) < 1000000001 ∧ (-1000001 : Int) < -1000000 ∧ (-1000000 : Int) ≤ 1000000000 ∧ (15 : Nat) < 16 := by decide
def frameBody : List Byte := List.replicate 328 0
def frame0 : List Byte := frameBody ++ (leBytes 4 (crc32c frameBody) ++ leBytes 4 0)

theorem crcBits_lt (n c : Nat) (h : c < 2 ^ 32) : crcBits n c < 2 ^ 32 := by
  induction n generalizing c with
  | zero => exact h
  | succ n ih =>
    unfold crcBits
    apply ih
    split
    · exact Nat.xor_lt_two_pow (by omega) (by decide)
    · omega
theorem crc32c_lt (bs : List Byte) : crc32c bs < 2 ^ 32 := by
  have : ∀ c, c < 2 ^ 32 → bs.foldl (fun c b => crcBits 8 (c ^^^ b.toNat)) c < 2 ^ 32 := by
    induction bs with
    | nil => intro c h; exact h
    | cons b bs ih => intro c h; exact ih _ (crcBits_lt _ _ (Nat.xor_lt_two_pow h (by have := b.isLt; omega)))
  exact Nat.xor_lt_two_pow (this _ (by decide)) (by decide)

theorem frameBody_length : frameBody.length = 328 := List.length_replicate

/-- A sound frame, next in order, on a link that is up. -/
theorem wit_frame : frame0.length = 336 ∧ Phase.negotiate ≤ phase (linked Phase.up) 15 ∧ leAt frame0 328 4 = crc32c (frame0.take 328) ∧
    leAt frame0 0 2 = (getLink (linked Phase.up) 15).rxSeq := by
  refine ⟨?_, by decide, ?_, rfl⟩
  · unfold frame0
    rw [List.length_append, List.length_append, frameBody_length, leBytes_length, leBytes_length]
  · have h : frame0.take 328 = frameBody := List.take_left' frameBody_length
    have g := leAt_append frameBody (leBytes 4 0) 4 (crc32c frameBody)
    rw [frameBody_length] at g
    rw [h]
    exact g.trans (Nat.mod_eq_of_lt (crc32c_lt _))
/-- The same frame, out of order. -/
theorem wit_frame_bad : leAt frame0 0 2 ≠ (getLink (withLink (linked Phase.up) { Link.reset with rxSeq := 1 }) 15).rxSeq := by
  rw [show leAt frame0 0 2 = 0 from rfl]
  decide
theorem wit_split : let s := setF (formed (linked Phase.up)) Reg.LNK_SPLIT_CTL_SPLIT_EN 1 15
    phase s 15 = Phase.up ∧ onF s Reg.LNK_SPLIT_CTL_SPLIT_EN 15 = true ∧ splitCore s flit0 (getF s Reg.LNK_SPLIT_CTL_SPLIT_FORME 15) = some c0 := by decide
theorem wit_lnk_down : let s := { withLink (linked Phase.detect) { Link.reset with retrainAt := some 0, downAt := some 0 } with lampTime := 2000000000 }
    agedAt s (getLink s 15).retrainAt 250000000 = true ∧ agedAt s (getLink s 15).downAt 2000000000 = true ∧ s.loads = [] ∧
    onF s Reg.LNK_SPLIT_CTL_SPLIT_EN 15 = false ∧ onF (setF s Reg.LNK_SPLIT_CTL_SPLIT_EN 1 15) Reg.LNK_SPLIT_CTL_SPLIT_EN 15 = true ∧
    agedAt State.reset (getLink State.reset 15).retrainAt 250000000 = false ∧ phase s 15 ≠ Phase.up ∧ phase (linked Phase.up) 15 = Phase.up := by decide

/-! #### Keepers, mailbox, management, stacks, ports -/

def mailed : State := st [lit 8, (Reg.KMB_IN_CTL_LEN, 4, 3)]
theorem wit_mail : answers mailed (2048 + 3) = true ∧ onF mailed Reg.KMB_IN_CTL_BUSY 3 = false ∧ groupUp (grp mailed 3) 3 = true ∧
    onF mailed Reg.KMB_OUT_STAT_VALID 3 = false ∧ getF mailed Reg.KMB_IN_CTL_LEN 3 ≠ 0 ∧ groupUp mailed 3 = false ∧
    onF (setF mailed Reg.KMB_IN_CTL_BUSY 1 3) Reg.KMB_IN_CTL_BUSY 3 = true ∧
    2 ≤ getF mailed Reg.KMB_IN_CTL_LEN 3 ∧ getF mailed Reg.KMB_IN_DATA 3 0 / 256 % 256 ≠ 1 := by decide
theorem wit_keepers : kprState (grp State.reset 3) 3 = 2 ∧ kprState (setF State.reset Reg.KPR_STATE 3 0 3) 3 = 3 ∧ groupUp (grp State.reset 3) 3 = true ∧
    kprState (setF State.reset Reg.KPR_STATE 1 0 3) 3 = 1 ∧ kprState (setF State.reset Reg.KPR_STATE 4 0 3) 3 = 4 := by decide
theorem wit_double_split : let s := { State.reset with lampTime := 60000000000, keepers := ⟨[], [(0, 0)]⟩ }
    (∀ x ∈ s.keepers.splits, x.2 + 60000000000 ≤ s.lampTime) ∧ ((0, 1) : Nat × Nat) ∈ [(0, 1)] ∧ s.lampTime < 1 + 60000000000 := by decide
def bussed : State := st [(Reg.MGT_BUS_STAT_I3C_OK, 1, 0), (Reg.MGT_BUS_STAT_SMB_OK, 1, 0)]
theorem wit_management : busOk bussed 0 = true ∧ busOk bussed 1 = true ∧ busOk (setF bussed Reg.MGT_BUS_STAT_SMB_OK 0 0) 1 = false ∧
    (numericSensor bussed 7).isSome = true ∧ (stateSensor bussed 2).isSome = true ∧ lampAnswers (0x100040) = false ∧
    (logFault bussed (blockItem Err.RST_LOCKUP 0 [])).faults.log[0]?.isSome = true ∧ (3 : Nat) < 4 := by decide
theorem wit_pin_stuck : agedAt { State.reset with lampTime := 10000000000, pins := { State.reset.pins with lowSince := some 0 } } (some 0) 10000000000 = true ∧
    agedAt State.reset State.reset.pins.lowSince 10000000000 = false := by decide
theorem wit_stack_training : stkState (st [(Reg.STK_STAT_STATE, 1, 31)]) 31 = 1 ∧ (2 : Nat) ≠ 1 := by decide
theorem wit_stack_failing : stkState (st [(Reg.STK_STAT_STATE, 5, 31)]) 31 ∈ [1, 2, 4, 5] ∧ (∀ m < 32, m ≠ 31 → m % 4 = 31 % 4 →
    stkState (st [(Reg.STK_STAT_STATE, 5, 31)]) m ≠ 3 ∧ stkState (st [(Reg.STK_STAT_STATE, 5, 31)]) m ≠ 4) ∧
    stkState (st [(Reg.STK_STAT_STATE, 3, 27)]) 27 = 3 ∧ 27 % 4 = 31 % 4 := by decide
theorem wit_stack_worn : stackWorn (st [(Reg.STK_STAT_STATE, 5, 31)]) 31 = false ∧
    stackWorn { st [(Reg.STK_STAT_STATE, 5, 31)] with stks := [(31, ⟨0, 0, 0, 0, List.replicate 17 0, 0⟩)] } 31 = true := by decide
theorem wit_stack_retrain : let s := setF (st [(Reg.STK_STAT_STATE, 3, 31), (Reg.STK_CTL_AUTO_RETRAIN, 1, 31)]) Reg.KPR_STATE 2 0 2
    retrainDue { s with lampTime := 10000000000 } 31 = true ∧ retrainDue { s with stks := [(31, ⟨0, 0, 0, 4, [], 0⟩)] } 31 = true ∧
    retrainDue s 31 = false := by decide
theorem wit_rebuilt : let s := st [(Reg.STK_STAT_STATE, 4, 31), (Reg.STK_CTL_REBUILD_SHARE, 1, 31)]
    stkState s 31 = 4 ∧ getF s Reg.STK_CTL_REBUILD_SHARE 31 ≠ 0 ∧ getF (setF s Reg.STK_CTL_REBUILD_SHARE 0 31) Reg.STK_CTL_REBUILD_SHARE 31 = 0 := by decide
theorem wit_ports : portFor (st [(Reg.HST_PORT_STAT_UP, 1, 2)]) 3 = some 2 ∧
    portReleased { State.reset with release := { State.reset.release with released := [(6, 3)] } } 3 = true ∧ State.reset.pins.surpriseDown = false ∧
    (portFor State.reset 3).isNone = true ∧ onF (st [(Reg.HST_PORT_STAT_UP, 1, 3)]) Reg.HST_PORT_STAT_UP 3 = true ∧
    (∀ p < 4, p ≠ 3 → onF (st [(Reg.HST_PORT_STAT_UP, 1, 3)]) Reg.HST_PORT_STAT_UP p = false) := by decide
theorem wit_handover : ({ State.reset.partner with sending := some 5 } : Partner).sending = some 5 ∧ State.reset.partner.sending = none := by decide

/-! #### Power -/

def railed : State := st [lit (256 + 255), (Reg.CPW_STATE_RAIL, 2, 255), (Reg.CPW_CLK_NOW, 625, 255)]
theorem wit_clock : railOn railed 255 = true ∧ getF railed Reg.CPW_CLK_NOW 255 + 25 ≤ getF (setF railed Reg.CPW_CLK_LIMIT 650 255) Reg.CPW_CLK_LIMIT 255 ∧
    getF (setF railed Reg.CPW_CLK_LIMIT 649 255) Reg.CPW_CLK_LIMIT 255 < getF railed Reg.CPW_CLK_NOW 255 + 25 ∧ 625 ≤ getF railed Reg.CPW_CLK_NOW 255 ∧
    getF (setF railed Reg.CPW_CLK_NOW 624 255) Reg.CPW_CLK_NOW 255 < 625 := by decide
theorem wit_sense : getF (st [(Reg.CPW_STATE_SENSE_OK, 8, 255)]) Reg.CPW_STATE_SENSE_OK 255 / 2 ^ (3 : Fin 4).val % 2 = 1 := by decide
/-- An image of one layer whose part has a hint of 3 A in cycle 0. -/
def img4 : List Byte :=
  List.replicate 12 0 ++ [1, 0, 1, 0] ++ List.replicate 240 0 ++ leBytes 8 4 ++ leBytes 8 288 ++ leBytes 8 88 ++ leBytes 8 0 ++
  (leBytes 4 1 ++ leBytes 4 8 ++ List.replicate 8 0 ++ ([0, 0, 0, 0, 1, 1] ++ List.replicate 22 0 ++ leBytes 4 80 ++ leBytes 2 1 ++ List.replicate 30 0) ++
    ([0, 0, 0, 0, 3, 0] ++ leBytes 2 3))
def hinted : State := { railed with
  chases := [(255, { Chase.reset with hints := [(0, 3)] })], formes := [(0, { forme1 with image := img4, parts := [{ part1 with chase := 255 }] })] }
theorem wit_hint : (getChase hinted 255).hints[0]? = some (0, 3) ∧ schedules hinted 255 = true ∧ hintDue hinted 255 0 = true ∧
    hintDue hinted 255 1 = false ∧ schedules State.reset 255 = false ∧ (2600 : Nat) < 2601 ∧ getF hinted Reg.CPW_I_CORE_PEAK 255 ≤ 2210 := by
  decide +kernel
theorem wit_clock_formes : livePartFormes railed 255 = [] ∧ livePartFormes hinted 255 = [0] := by decide +kernel
theorem wit_switch_on : let s := st [lit 511]
    rail s 255 = Rail.off ∧ chaseBeacon s 255 = Beacon.lit ∧ 0 < widthOf s 255 ∧ hotNeighbours s 255 = [] ∧
    hotNeighbours (setF s Reg.CPW_I_CORE_PEAK 2211 254) 255 ≠ [] ∧ onF (setF s Reg.CPW_STATE_DEFERRED 1 255) Reg.CPW_STATE_DEFERRED 255 = true ∧
    groupRamps s 255 = false ∧ groupRamps (setF s Reg.CPW_STATE_RAIL Rail.ramping 224) 255 = true := by decide
theorem wit_ramp : let s := { st [(Reg.CPW_STATE_RAIL, Rail.ramping, 255)] with lampTime := 64000 }
    rail s 255 = Rail.ramping ∧ (getChase s 255).rampAt + 64000 ≤ s.lampTime := by decide
theorem wit_waited : let s := { State.reset with lampTime := 50000000, chases := [(255, { Chase.reset with waitSince := some 0 })] }
    50 ≤ waited s 255 ∧ waited { s with lampTime := 49999999 } 255 < 50 := by decide
theorem wit_retry : let s := st [(Reg.PAGE_BEACON_STATE, Beacon.occulting, 511), (Reg.CPW_STATE_RAIL, Rail.tripped, 255)]
    chaseBeacon s 255 = Beacon.occulting ∧ onF s Reg.CPW_STATE_PARKED 255 = false ∧ chaseClaimed s 255 = false ∧ rail s 255 = Rail.tripped ∧
    onF (setF s Reg.CPW_STATE_PARKED 1 255) Reg.CPW_STATE_PARKED 255 = true ∧
    (∀ t, (getChase s 255).railFaultAt = some t → t + 1000000000 ≤ s.lampTime) ∧ railOn railed 255 = true := by
  refine ⟨by decide, by decide, by decide, by decide, by decide, fun t h => ?_, by decide⟩
  exact absurd (h.symm.trans (by decide : _ = none)) (by simp)
theorem wit_railFaultAt : (1000000000 : Nat) ≤ ({ State.reset with lampTime := 1000000000 } : State).lampTime ∧
    ({ Chase.reset with railFaultAt := some 0 } : Chase).railFaultAt = some 0 := by decide
theorem wit_bus : getF (st [(Reg.PWR_BUS_OK, 2 ^ 40 - 1, 0)]) Reg.PWR_BUS_OK 0 / 2 ^ (39 : Fin 40).val % 2 = 1 ∧
    4 ≤ busWorking (setF State.reset Reg.PWR_BUS_OK (2 ^ 39 - 1) 0) 7 := by decide
theorem wit_transit : (getChase State.reset 255).transitOk = true ∧ (getChase State.reset 255).pllOk = true := by decide
def banked (b : BankState) (c : Nat) : State := { railed with chases := [(255, { Chase.reset with clk := c, banks := [(35, b)] })] }
theorem wit_banks : bankUsed railed 255 35 = false ∧ kget? (getChase railed 255).banks 35 = none ∧ railOn railed 255 = true ∧
    ({ railed with lampTime := 999999999 } : State).lampTime < (getChase railed 255).vacatedAt + 1000000000 ∧
    (getChase railed 255).vacatedAt + 1000000000 ≤ ({ railed with lampTime := 1000000000 } : State).lampTime := by decide
theorem wit_banks_move : kget? (getChase (banked (.closing 0) 64) 255).banks 35 = some (.closing 0) ∧ 0 + 64 ≤ (getChase (banked (.closing 0) 64) 255).clk ∧
    (getChase (banked (.closing 0) 63) 255).clk < 0 + 64 ∧ kget? (getChase (banked .gated 0) 255).banks 35 = some .gated ∧
    kget? (getChase (banked (.opening 0) 256) 255).banks 35 = some (.opening 0) ∧ 0 + 256 ≤ (getChase (banked (.opening 0) 256) 255).clk := by decide
theorem wit_retention : answers (st [lit 4]) 4 = true ∧ retentionOk (st [lit 4]) = true ∧ retentionOk (stream1 str0) = false ∧
    getF (stream1 str0) Reg.PWR_RETAIN_STAT_STATE 0 = 0 ∧ getF (st [(Reg.PWR_RETAIN_STAT_STATE, 2, 0)]) Reg.PWR_RETAIN_STAT_STATE 0 = 2 ∧
    onF (st [(Reg.PWR_RETAIN_STAT_STATE, 4, 0), (Reg.CLT_STAT_IN_SPEC, 1, 0)]) Reg.CLT_STAT_IN_SPEC 0 = true ∧
    (0, { str0 with state := 0 }) ∈ (stream1 { str0 with state := 0 }).serve.streams ∧
    getF (st [(Reg.PWR_RETAIN_STAT_STATE, 3, 0)]) Reg.PWR_RETAIN_STAT_STATE 0 = 3 ∧ State.reset.power.wave < 15 := by decide

/-! #### Thermal -/

theorem wit_pair_agree : (255 : Nat) < 256 ∧ (getPair State.reset 255).st = .agree ∧ ((64 : Int) - 0).natAbs ≤ 64 ∧ max (1679 : Int) 1615 < 1680 ∧
    ((1679 : Int) - 1615).natAbs ≤ 64 := by decide
theorem wit_pair_moves : let p := { Pair.reset with far := 20 }
    20 ≤ p.far ∧ ({ p with far := 19, apart := 200 } : Pair).far < 20 ∧ 200 ≤ ({ p with far := 19, apart := 200 } : Pair).apart ∧ p.st = .agree := by decide
theorem wit_trip : let s := setPair State.reset 255 { Pair.reset with used := 1680, hot := 1 }
    1680 ≤ (getPair s 255).used ∧ 1 ≤ (getPair s 255).hot := by decide
theorem wit_tray : onF State.reset Reg.MGT_BUS_STAT_TRAY_ISOLATED 0 = false ∧ (⟨none, some 0, some 0⟩ : TrayReading).supply = none ∧
    onF (st [(Reg.MGT_BUS_STAT_TRAY_ISOLATED, 1, 0)]) Reg.MGT_BUS_STAT_TRAY_ISOLATED 0 = true ∧
    onF (st [(Reg.CLT_STAT_STOPPED, 1, 0)]) Reg.CLT_STAT_STOPPED 0 = true ∧
    State.reset.thermal.stoppedAt + 2000000000 ≤ ({ State.reset with lampTime := 2000000000 } : State).lampTime ∧
    State.reset.lampTime < State.reset.thermal.stoppedAt + 2000000000 ∧ State.reset.power.shut = false ∧ onF State.reset Reg.CLT_STAT_STOPPED 0 = false := by decide
theorem wit_f_mod : State.reset.thermal.capDrop ≤ 1 ∧ 600 ≤ getF (st [(Reg.THM_F_MOD, 600, 0)]) Reg.THM_F_MOD 0 ∧
    getF (st [(Reg.THM_F_MOD, 1400, 0)]) Reg.THM_F_MOD 0 ≤ 1400 ∧ getF State.reset Reg.PWR_CAP 0 < 40000 ∧
    97 * getF State.reset Reg.PWR_CAP 0 ≤ 100 * 36000 := by decide
theorem wit_chase_thermal : (1440 : Int) < 1520 ∧ (1520 : Int) ≤ 1520 ∧ (1440 : Int) < 1441 ∧ (1441 : Int) < 1520 ∧ (1440 : Int) ≤ 1440 := by decide
theorem wit_cycle : hottestOf (setPair State.reset 255 { Pair.reset with used := 100 }) (fun i => decide (i < 256)) = some (255, 100) ∧
    ({ State.reset.thermal with extreme := some 319 } : Thermal).extreme = some 319 ∧ State.reset.thermal.rising = true ∧ ((0 : Int) - 319).natAbs < 320 := by decide

/-! #### Reset, clocks, kindling, recovery -/

theorem wit_power_on : State.reset.power.reversedLatch = false ∧ ({ State.reset.power with reversedLatch := true } : Power).reversedLatch = true := by decide
theorem wit_perst : State.reset.pins.perst.getD (3 : PortId) true = true ∧
    ({ State.reset.pins with perst := [true, true, true, false] } : Pins).perst.getD (3 : PortId) true = false := by decide
theorem wit_mod_reset : answers (st [lit 2]) 2 = true ∧ pageLocked (st [lit 2, (Reg.DBG_OPEN, 1, 0)]) 2 = false ∧ onF (st [lit 2]) Reg.RST_BLK_CTL_BUSY 0 = false := by decide
def stepped (l : List (Nat × Nat)) (now : Nat) : State :=
  { State.reset with lampTime := now, release := { State.reset.release with stepAt := l } }
theorem wit_release_step : stepReady State.reset 1 0 = true ∧ stepReady State.reset 10 15 = false ∧
    stepReady (setF (stepped [(1, 0)] 10240) Reg.RST_STAGE_STEP 1 0) 2 0 = true ∧
    stepReady (setF (stepped [(1, 0)] 0) Reg.RST_STAGE_STEP 1 0) 2 0 = false ∧ (255 : Nat) < pllCount 5 ∧
    ((5, 255) ∉ State.reset.release.counted) ∧ ((5, 255) ∉ State.reset.release.pllFailed) := by decide
theorem wit_no_lock : stepPast (stepped [(5, 0)] 10000000) 5 10000000 = true ∧ stepPast (stepped [(4, 0)] 10000000) 4 10000000 = true ∧
    stepPast (stepped [(5, 0)] 9999999) 5 10000000 = false ∧ (0 : Nat) < pllCount 0 := by decide
theorem wit_step_timeout : getF (st [(Reg.RST_STAGE_STEP, 2, 0)]) Reg.RST_STAGE_STEP 0 + 1 = 3 ∧ State.reset.release.stopped = false ∧
    getF (st [(Reg.RST_STAGE_STEP, 3, 0)]) Reg.RST_STAGE_STEP 0 + 1 = 4 ∧ stepPast (stepped [(2, 0)] 50010240) (3 - 1) 50010240 = true ∧
    stepPast (stepped [(3, 0)] 50010240) (4 - 1) 50010240 = true := by decide
theorem wit_forced : (0 : Nat) < stepSize (5 % 16) ∧ (5 % 16, 0) ∉ State.reset.release.released ∧ ∃ x ∈ stepPlls (5 % 16) 0, x ∉ State.reset.release.counted := by decide
theorem wit_monitor : clockFailed ⟨0, 0, true, 1010, 1000, false⟩ = false ∧ clockFailed ⟨0, 0, true, 1011, 1000, false⟩ = true ∧
    (0, 0) ∈ ({ State.reset.release with counted := [(0, 0)] } : Release).counted := by decide
theorem wit_refclk : ({ State.reset.pins with perst := [true, true, true, false] } : Pins).perst.getD (3 : PortId) true = false ∧
    5 ≤ getF (st [(Reg.RST_STAGE_STEP, 5, 0)]) Reg.RST_STAGE_STEP 0 := by decide
theorem wit_refs : onF State.reset Reg.CLK_REF_STAT_LAMP_INTERNAL 0 = false ∧ onF State.reset Reg.CLK_REF_STAT_FREF_SEL 0 = false ∧ State.reset.syncs = [] := by decide
theorem wit_block_reset : 0xB5000001 / 2 ^ 24 % 256 = 0xB5 ∧ 0xB5000001 % 2 = 1 ∧ resettable (identOf 0x20 255) = true ∧ resettable (identOf 0x03 0) = false ∧
    ¬ (identOf 0x20 255 / 65536 = 0x23 ∧ groupDown State.reset (identOf 0x20 255 % 65536) = true) ∧ inReset State.reset (identOf 0x20 255) = true ∧
    inReset (st [lit 511]) (identOf 0x20 255) = false := by decide
theorem wit_quiesced : let b : BlkReset := ⟨identOf 0x20 255, 4, 0⟩
    let s := { State.reset with blkReset := some b }
    s.blkReset = some b ∧ State.reset.blkReset = none ∧ s.lampTime < b.since + 100000 ∧
    b.since + 100000 ≤ ({ s with lampTime := 100000 } : State).lampTime := by decide
/-- A deadlock of chase 255 recorded at time 0, with a flit still there at its limit of 1 s. -/
def locked (now : Nat) : State := { st [lit 511] with
  lampTime := now, fabric := [⟨⟨1023, 1023⟩, 0, flit0, false, 0, none⟩]
  faults := { State.reset.faults with log := [⟨chaseItem Err.FAB_DEADLOCK 255 [0], false, 0, 0⟩] } }
theorem wit_lockup : deadlockStands (locked 1000000000) 255 = true ∧ deadlockStands (locked 999999999) 255 = false ∧
    deadlockStands State.reset 0 = false ∧ onF (locked 1000000000) Reg.RST_BLK_CTL_BUSY 0 = false ∧
    chaseBeacon (locked 1000000000) 255 ≠ Beacon.dark := by decide
theorem wit_kindling : let s := stacked (grp (grp State.reset 2) 3)
    tierTrained s = true ∧ groupUp s 2 = true ∧ groupUp s 3 = true ∧ s.release.kindling = [] ∧ s.release.waves < 16 ∧ s.power.shut = false ∧
    waveReady { s with lampTime := 2000000000 } = true ∧ waveReady s = false ∧
    waveReady { s with lampTime := 10240, release := { s.release with waves := 1 } } = true ∧
    0 < widthOf s 255 ∧ widthOf { s with errata := ⟨[], [(255, 0)], [], []⟩ } 255 = 0 ∧
    255 ∈ ({ s.release with kindling := [255] } : Release).kindling ∧ fabricClear s [] [255] = true := by decide
theorem wit_decay : (errataAt State.reset (16383 : Fin 16384)).since + 86400000000000 ≤
      ({ State.reset with lampTime := 86400000000000 } : State).lampTime ∧
    State.reset.lampTime < (errataAt State.reset (16383 : Fin 16384)).since + 86400000000000 := by decide
/-- A fault item of core 0 with a stamp and an instruction. -/
def item0 (code : Nat) : FaultItem := (coreItem State.reset code c0 []).at_ 1 1
def faulty (code : Nat) : State := { State.reset with faults := { State.reset.faults with items := [item0 code] } }
theorem wit_event : (faulty Err.CORE_ADDR_RANGE).faults.items[0]? = some (item0 Err.CORE_ADDR_RANGE) ∧ firstOnly Err.CORE_ADDR_RANGE = true ∧
    isRepeat State.reset (item0 Err.CORE_ADDR_RANGE) = false ∧
    isRepeat (logFault State.reset (item0 Err.CORE_ADDR_RANGE)) (item0 Err.CORE_ADDR_RANGE) = true ∧
    (item0 Err.CORE_ADDR_RANGE).chase = some 0 ∧ startsRecovery (item0 Err.CORE_ADDR_RANGE) = true := by decide
theorem wit_event_poison : (item0 Err.STORE_UNCORRECTABLE).chase = some 0 ∧ startsRecovery (item0 Err.STORE_UNCORRECTABLE) = false ∧
    firstOnly Err.STORE_UNCORRECTABLE = false ∧ stillPoisoned State.reset (coreItem State.reset Err.STORE_UNCORRECTABLE c0 [64]) = false ∧
    stillPoisoned { State.reset with mem := { State.reset.mem with storePoison := [1] } }
      (coreItem State.reset Err.STORE_UNCORRECTABLE c0 [64]) = true := by decide
theorem wit_event_kept : startsRecovery (item0 Err.STORE_TWO_BYTE) = false ∧ Err.STORE_TWO_BYTE ≠ Err.STORE_UNCORRECTABLE ∧
    (blockItem Err.RST_LOCKUP 0 []).chase = none ∧ State.reset.faults.items.length ≤ 0 := by decide
theorem wit_recovery_starts : (255 : Nat) < 256 ∧ (∀ r ∈ State.reset.faults.recoveries, 255 ∉ r.chases) ∧ schedules railed 255 = true := by decide
def rec1 : Recovery := { Recovery.empty 0 with chases := [0] }
def recovering0 (r : Recovery) : State := { State.reset with faults := { State.reset.faults with recoveries := [r] } }
theorem wit_recovery : (recovering0 rec1).faults.recoveries[0]? = some rec1 ∧ rec1.phase = .halting ∧
    (∀ n ∈ rec1.chases, schedules (recovering0 rec1) n = false ∨ onF (recovering0 rec1) Reg.CHS_SCHED_CTL_HALTED n = true) ∧
    fabricClear (recovering0 rec1) rec1.formes rec1.chases = true ∧
    (∀ it ∈ rec1.items, retested it.code = false) ∧ ({ rec1 with phase := .retesting } : Recovery).phase = .retesting ∧ rec1.selfTest = [] ∧
    ({ rec1 with selfTest := [0] } : Recovery).selfTest ≠ [] ∧ ({ rec1 with phase := .reloading } : Recovery).phase = .reloading := by decide

/-! #### What loads do -/

/-- An image that fits into one live chase. -/
theorem wit_placed : (match impose (dropLoad run0 { ldBytes with image := img1.set 25 1 }) 0 (img1.set 25 1) with
    | .ok p => p.parts.length == 1 | .error _ => false) = true := by decide +kernel
def ldS : Load := { ldBytes with image := imgS }
def signed (s : State) : State := { s with keys := [(0, 0, 0)] }
def full (s : State) : State := { s with kv := { s.kv with t1 := [(0, stackBytes)] } }
def counted (s : State) (l : Load) : State := countRead (dropLoad s l) l (headBytes l.image)
theorem wit_load_run : ldKind ldS.cmd = 0x20 ∧ (headRefusal (counted served ldS) ldS).isSome = true ∧
    headRefusal (counted (signed served) ldS) ldS = none ∧ (counted (signed served) ldS).formes = [] ∧
    stackRoom (counted (signed served) ldS) (goldenSize imgS) = true ∧ stackRoom (counted (full (signed served)) ldS) (goldenSize imgS) = false ∧
    ldReplica ldRec = false := by
  refine ⟨by decide, by decide +kernel, imgS_head _ _ rfl rfl (by decide), by decide +kernel, by decide +kernel, by decide +kernel, by decide +kernel⟩
def residentS (s : State) (img : List Byte) : State := { signed s with formes := [(0, { forme0 with image := img, ident := identity img })] }
theorem wit_load_twin : (counted (residentS served imgS) ldS).formes.find? (fun f => f.2.ident == identity imgS && resident (counted (residentS served imgS) ldS) f.1)
    = some (0, { forme0 with image := imgS, ident := identity imgS }) := by decide +kernel
def heldS (s : State) (img : List Byte) : State := { signed s with formes := [(0, { forme0 with image := img })] }
def rpS : Load := { ldS with cmd := recW [(0, 0x21), (16, 16)] }
theorem wit_load_replace : ldKind rpS.cmd = 0x21 ∧ (headRefusal (counted served rpS) rpS).isSome = true ∧ headRefusal (counted (heldS served []) rpS) rpS = none ∧
    getForme (counted (heldS served imgS) rpS) (ldForme rpS.cmd) = some { forme0 with image := imgS } ∧
    shapeEqual imgS imgS = true ∧ shapeEqual [] imgS = false ∧
    stackRoom (counted (heldS served imgS) rpS) (replOf rpS { forme0 with image := imgS }).newBytes = true ∧
    stackRoom (counted (full (heldS served imgS)) rpS) (replOf rpS { forme0 with image := imgS }).newBytes = false := by
  refine ⟨by decide, by decide +kernel, imgS_head _ _ rfl rfl (by decide), by decide +kernel, by decide +kernel, by decide +kernel, by decide +kernel, by decide +kernel⟩

end Sys2Proof.Tests
end

section
/-! The logical columns of a row segment (R19) and the width of its chase (R23): the two translations between logical
and physical local columns are inverse to each other exactly on the columns below the width. -/

namespace Sys2Proof.Machine

/-- A row segment lists none of its columns twice. -/
theorem goodCols_nodup (s : State) (seg : Nat) : (goodCols s seg).Nodup :=
  List.nodup_range.filter _

/-- R19 inverted, on the columns that exist at the width of the segment's chase (R23). -/
theorem logicalLocal_eq_some_iff {s : State} {seg j p : Nat} :
    logicalLocal s seg p = some j ↔ physLocal s seg j = some p ∧ j < widthOf s (seg / 64) := by
  simp only [logicalLocal, physLocal, widthOf, Option.ite_none_right_eq_some, Option.some.injEq]
  constructor
  · rintro ⟨⟨hwidth, hlen⟩, rfl⟩
    exact ⟨List.getElem?_idxOf (List.idxOf_lt_length_iff.mp hlen), hwidth⟩
  · rintro ⟨hget, hwidth⟩
    obtain ⟨hlen, rfl⟩ := List.getElem?_eq_some_iff.mp hget
    rw [(goodCols_nodup s seg).idxOf_getElem j hlen]
    exact ⟨⟨hwidth, hlen⟩, rfl⟩

/-- Chase 0 from reset with a third retired position in its row segment 0, re-imposed at the width that R23 wants
(R21, R385). -/
def narrowed : State :=
  let s := writeRetired State.reset 0 [⟨0, false, true⟩, ⟨1, false, true⟩, ⟨2, false, true⟩]
  setWidth s 0 (widthWanted s 0)

/-- Three retired positions in one row segment leave the whole chase at width 63 (R23). -/
theorem widthOf_narrowed : widthOf narrowed 0 = 63 := by decide +kernel

/-- The next row segment of the chase has lost no core: its columns stand as at reset. -/
theorem physLocal_narrowed : physLocal narrowed 1 63 = some 63 := by decide

/-- Refutes O7: the last clause has the translations inverse to each other for every column below 64, but at a reduced
width W the columns from W on do not exist (R23). In `narrowed` (W = 63) row segment 1 still has 66 working cores, so
`physLocal` puts column 63 on physical column 63, while `logicalLocal` names no column there. -/
theorem not_columnsSkipRetiredCores : ¬ Obligations.ColumnsSkipRetiredCores := by
  unfold Obligations.ColumnsSkipRetiredCores
  intro h
  obtain ⟨_, _, _, inverse⟩ := h narrowed 1
  have named : logicalLocal narrowed 1 63 = some 63 := (inverse 63 63 (by decide)).mp physLocal_narrowed
  have below : 63 < widthOf narrowed 0 := (logicalLocal_eq_some_iff.mp named).2
  rw [widthOf_narrowed] at below
  exact lt_irrefl _ below

end Sys2Proof.Machine
end

section
/-! The exact sum of an element (R59, R61 to R66): truncation toward zero, the 176-bit wrap, and that two accumulators
whose operands differ only in their order stay alike through further terms, recomputes and the close. -/

namespace Sys2Proof.Machine

/-- The model's power of two is positive. -/
theorem pow2_pos (k : Int) : 0 < pow2 k := by
  unfold pow2
  split <;> positivity

/-- A number that is not negative is truncated to its floor (R61). -/
theorem truncInt_of_nonneg {q : Rat} (h : 0 ≤ q) : truncInt q = ⌊q⌋ := if_pos h

/-- A negative number is truncated as its magnitude is (R61). -/
theorem truncInt_of_neg {q : Rat} (h : q < 0) : truncInt q = -⌊-q⌋ := if_neg (not_le.mpr h)

/-- Truncation drops less than one unit of the magnitude and adds nothing to it (R61). -/
theorem abs_truncInt_le (q : Rat) : |(truncInt q : Rat)| ≤ |q| ∧ |q| < |(truncInt q : Rat)| + 1 := by
  have floor_abs : |(truncInt q : Rat)| = ((⌊|q|⌋ : Int) : Rat) := by
    have nonneg : (0 : Rat) ≤ ((⌊|q|⌋ : Int) : Rat) := Int.cast_nonneg (Int.floor_nonneg.mpr (abs_nonneg q))
    rcases le_or_gt 0 q with h | h
    · rw [abs_of_nonneg h] at nonneg ⊢
      rw [truncInt_of_nonneg h, abs_of_nonneg nonneg]
    · rw [abs_of_neg h] at nonneg ⊢
      rw [truncInt_of_neg h, Int.cast_neg, abs_neg, abs_of_nonneg nonneg]
  rw [floor_abs]
  exact ⟨Int.floor_le _, Int.lt_floor_add_one _⟩

/-- What is positive after truncation was positive before (R61). -/
theorem pos_of_truncInt_pos {q : Rat} (h : 0 < truncInt q) : 0 < q := by
  by_contra hq
  rcases (not_lt.mp hq).eq_or_lt with rfl | hneg
  · simp [truncInt_of_nonneg] at h
  · have : 0 ≤ ⌊-q⌋ := Int.floor_nonneg.mpr (by linarith)
    rw [truncInt_of_neg hneg] at h
    omega

/-- What is negative after truncation was negative before (R61). -/
theorem neg_of_truncInt_neg {q : Rat} (h : truncInt q < 0) : q < 0 := by
  by_contra hq
  rw [truncInt_of_nonneg (not_lt.mp hq)] at h
  exact absurd (Int.floor_nonneg.mpr (not_lt.mp hq)) (by omega)

/-- The 176-bit sum is the balanced remainder modulo 2^176 (R59). -/
theorem wrap176_eq_bmod (x : Int) : wrap176 x = Int.bmod x (2 ^ 176) := by
  have bounds : 0 ≤ x % 2 ^ 176 ∧ x % 2 ^ 176 < 2 ^ 176 := ⟨Int.emod_nonneg x (by decide), Int.emod_lt_of_pos x (by decide)⟩
  have reduced : (x % 2 ^ 176).toNat % 2 ^ 176 = (x % 2 ^ 176).toNat := Nat.mod_eq_of_lt (by omega)
  simp only [wrap176, signed, reduced, Int.bmod_def]
  split <;> split <;> omega

/-- A sum that the 176 bits hold is kept as it is (R59). -/
theorem wrap176_eq_self {x : Int} (lower : -2 ^ 175 ≤ x) (upper : x < 2 ^ 175) : wrap176 x = x := by
  rw [wrap176_eq_bmod]
  exact Int.bmod_eq_of_le (by omega) (by omega)

/-- Wrapping between two additions loses nothing of the wrapped sum. -/
@[simp] theorem wrap176_wrap176_add (x y : Int) : wrap176 (wrap176 x + y) = wrap176 (x + y) := by
  simp only [wrap176_eq_bmod, Int.bmod_add_bmod]

/-- Two accumulators of one element whose operands differ at most in their order: the same sum, anchor, flags and
count of recomputes. -/
structure SameSum (a b : Acc) : Prop where
  acc : a.acc = b.acc
  anchor : a.anchor = b.anchor
  termOvf : a.termOvf = b.termOvf
  trunc : a.trunc = b.trunc
  nan : a.nan = b.nan
  recomputes : a.recomputes = b.recomputes
  operands : a.operands.Perm b.operands

namespace SameSum

theorem refl (a : Acc) : SameSum a a := ⟨rfl, rfl, rfl, rfl, rfl, rfl, .refl _⟩

theorem trans {a b c : Acc} (hab : SameSum a b) (hbc : SameSum b c) : SameSum a c :=
  ⟨hab.acc.trans hbc.acc, hab.anchor.trans hbc.anchor, hab.termOvf.trans hbc.termOvf, hab.trunc.trans hbc.trunc,
    hab.nan.trans hbc.nan, hab.recomputes.trans hbc.recomputes, hab.operands.trans hbc.operands⟩

/-- One more term keeps them alike. -/
theorem addTerm {a b : Acc} (h : SameSum a b) (t : Rat) : SameSum (a.addTerm t) (b.addTerm t) := by
  constructor <;> simp [Acc.addTerm, h.acc, h.anchor, h.termOvf, h.trunc, h.nan, h.recomputes, h.operands]

/-- Two terms may change places: each is truncated at the anchor alone (R62). -/
theorem addTerm_comm (a : Acc) (x y : Rat) : SameSum ((a.addTerm x).addTerm y) ((a.addTerm y).addTerm x) where
  acc := by simp only [Acc.addTerm, wrap176_wrap176_add, add_right_comm]
  anchor := rfl
  termOvf := Bool.or_right_comm _ _ _
  trunc := Bool.or_right_comm _ _ _
  nan := rfl
  recomputes := rfl
  operands := .swap _ _ _

/-- The same terms in the same order keep them alike. -/
theorem foldl_addTerm {a b : Acc} (h : SameSum a b) (ts : List Rat) :
    SameSum (ts.foldl Acc.addTerm a) (ts.foldl Acc.addTerm b) := by
  induction ts generalizing a b with
  | nil => exact h
  | cons t ts ih => exact ih (h.addTerm t)

/-- The same terms in any order keep them alike (R62). -/
theorem foldl_addTerm_perm {ts us : List Rat} (perm : ts.Perm us) {a b : Acc} (h : SameSum a b) :
    SameSum (ts.foldl Acc.addTerm a) (us.foldl Acc.addTerm b) := by
  induction perm generalizing a b with
  | nil => exact h
  | cons t _ ih => exact ih (h.addTerm t)
  | swap x y ts => exact ((addTerm_comm a y x).trans ((h.addTerm x).addTerm y)).foldl_addTerm ts
  | trans _ _ ih₁ ih₂ => exact (ih₁ h).trans (ih₂ (refl b))

/-- Window overflow is seen on both or on neither (R64). -/
theorem overflows {a b : Acc} (h : SameSum a b) : a.overflows = b.overflows := by
  simp only [Acc.overflows, h.acc, h.termOvf]

/-- Formed again from all their terms at one anchor they are alike (R65). -/
theorem reform {a b : Acc} (h : SameSum a b) (anchor : Int) : SameSum (a.reform anchor) (b.reform anchor) := by
  have perm : a.operands.reverse.Perm b.operands.reverse :=
    (List.reverse_perm _).trans (h.operands.trans (List.reverse_perm _).symm)
  rw [Acc.reform, Acc.reform, ← List.foldl_reverse, ← List.foldl_reverse]
  exact foldl_addTerm_perm perm ⟨rfl, rfl, rfl, rfl, h.nan, h.recomputes, .refl _⟩

/-- The recomputes end in accumulators that are alike (R65). -/
theorem settle {a b : Acc} (h : SameSum a b) (n : Nat) : SameSum (a.settle n) (b.settle n) := by
  induction n generalizing a b with
  | zero => exact h
  | succ n ih =>
    rw [Acc.settle, Acc.settle, h.overflows]
    split
    · have again := h.reform (a.anchor + 32)
      rw [← h.anchor]
      exact ih { again with recomputes := congrArg (· + 1) h.recomputes }
    · exact h

/-- The closed elements are alike, and clamped both or neither (R66). -/
theorem closed {a b : Acc} (h : SameSum a b) : SameSum a.closed.1 b.closed.1 ∧ a.closed.2 = b.closed.2 := by
  have settled := h.settle (3 - a.recomputes)
  rw [Acc.closed, Acc.closed, ← h.recomputes]
  simp only [settled.overflows]
  split
  · exact ⟨{ settled with acc := by rw [settled.acc] }, rfl⟩
  · exact ⟨settled, rfl⟩

end SameSum

/-- After at least one term the sum is the whole sum of the truncated terms, wrapped once (R59, R62). -/
theorem foldl_addTerm_acc (a : Acc) (t : Rat) (ts : List Rat) :
    ((t :: ts).foldl Acc.addTerm a).acc = wrap176 (a.acc + ((t :: ts).map (termInt a.anchor)).sum) := by
  induction ts generalizing a t with
  | nil => simp [Acc.addTerm]
  | cons u ts ih =>
    rw [List.foldl_cons, ih]
    simp [Acc.addTerm, add_assoc]

/-- Settles O6: the accumulators of the two orders are alike throughout (`SameSum`). -/
theorem sumsFreeOfOrder : Obligations.SumsFreeOfOrder := by
  unfold Obligations.SumsFreeOfOrder
  refine ⟨fun anchor t => ?_, fun x => wrap176_eq_self, fun a ts us perm => ?_⟩
  · have unit_pos : 0 < pow2 (96 - anchor) := pow2_pos _
    obtain ⟨below, within⟩ := abs_truncInt_le (t * pow2 (96 - anchor))
    exact ⟨below, within, fun h => pos_of_mul_pos_left (pos_of_truncInt_pos h) unit_pos.le,
      fun h => neg_of_mul_neg_left (neg_of_truncInt_neg h) unit_pos.le⟩
  · have alike := SameSum.foldl_addTerm_perm perm (.refl a)
    obtain ⟨closedAlike, clampedAlike⟩ := alike.closed
    refine ⟨fun nonempty => ?_, alike.acc, alike.termOvf, alike.trunc, alike.overflows, closedAlike.acc,
      closedAlike.anchor, closedAlike.nan, clampedAlike⟩
    obtain ⟨t, rest, rfl⟩ := List.exists_cons_of_ne_nil nonempty
    exact foldl_addTerm_acc a t rest

end Sys2Proof.Machine
end

section
/-! The codes of numbers: the nearest N4 value and the nearest integer (R43, R44, R78), and the extent of F8 (R46). -/

namespace Sys2Proof.Machine

/-! ### N4 -/

/-- The N4 magnitudes rise with their codes (R43). -/
theorem n4Value_lt_n4Value : ∀ k < 8, ∀ j < k, n4Value j < n4Value k := by decide +kernel

theorem n4Value_le_n4Value {j k : Nat} (hk : k < 8) (h : j ≤ k) : n4Value j ≤ n4Value k := by
  rcases h.eq_or_lt with rfl | h
  · exact le_rfl
  · exact (n4Value_lt_n4Value k hk j h).le

/-- An N4 code is a magnitude code with a sign bit above it (R43). -/
theorem n4Value_eq_or_neg : ∀ c < 16, n4Value c = n4Value (c % 8) ∨ n4Value c = -n4Value (c % 8) := by decide +kernel

theorem n4Value_add_eight : ∀ k < 8, n4Value (k + 8) = -n4Value k := by decide +kernel

theorem n4MagCode_lt_eight (x : Rat) : n4MagCode x < 8 := by
  unfold n4MagCode
  split_ifs <;> omega

/-- A magnitude's code lies above `k` just where the magnitude has passed the midpoint of the values of `k` and `k + 1`,
which itself goes to the even one of the two (R78). -/
theorem lt_n4MagCode_iff {x : Rat} {k : Nat} (hk : k < 7) :
    k < n4MagCode x ↔ n4Value k + n4Value (k + 1) ≤ 2 * x ∧ (k % 2 = 0 → n4Value k + n4Value (k + 1) < 2 * x) := by
  unfold n4MagCode
  -- for each of the seven midpoints, the chain of comparisons stops below it or above it
  interval_cases k <;> norm_num [n4Value] <;> grind

/-- Of two values the lower one is at least as near where `x` has not passed their midpoint. -/
theorem abs_sub_le_abs_sub_lower_iff {a b x : Rat} (h : a < b) : |x - a| ≤ |x - b| ↔ 2 * x ≤ a + b := by
  rw [← sq_le_sq]
  constructor <;> intro _ <;> nlinarith

/-- Of two values the upper one is at least as near where `x` has reached their midpoint. -/
theorem abs_sub_le_abs_sub_upper_iff {a b x : Rat} (h : a < b) : |x - b| ≤ |x - a| ↔ a + b ≤ 2 * x := by
  rw [← sq_le_sq]
  constructor <;> intro _ <;> nlinarith

/-- No N4 magnitude is nearer than that of `n4MagCode`, and none is as near where that code is odd (R78). -/
theorem n4MagCode_nearest (x : Rat) {k : Nat} (hk : k < 8) :
    |x - n4Value (n4MagCode x)| ≤ |x - n4Value k| ∧
    (|x - n4Value k| = |x - n4Value (n4MagCode x)| → n4Value k ≠ n4Value (n4MagCode x) → n4MagCode x % 2 = 0) := by
  have code_lt := n4MagCode_lt_eight x
  have passed := fun j (hj : j < 7) => lt_n4MagCode_iff (x := x) hj
  generalize n4MagCode x = g at *
  rcases lt_trichotomy k g with below | rfl | above
  · obtain ⟨j, rfl⟩ : ∃ j, g = j + 1 := ⟨g - 1, by omega⟩
    obtain ⟨reached, beyond⟩ := (passed j (by omega)).mp (by omega)
    have step := n4Value_le_n4Value (j := k) (k := j) (by omega) (by omega)
    have apart := n4Value_lt_n4Value (j + 1) code_lt k below
    refine ⟨(abs_sub_le_abs_sub_upper_iff apart).mpr (by linarith), fun tie _ => ?_⟩
    have short := (abs_sub_le_abs_sub_lower_iff apart).mp tie.le
    by_contra odd
    linarith [beyond (by omega)]
  · exact ⟨le_rfl, fun _ differ => absurd rfl differ⟩
  · have stays := (passed g (by omega)).not.mp (lt_irrefl g)
    have step := n4Value_le_n4Value (j := g + 1) (k := k) hk above
    have apart := n4Value_lt_n4Value k hk g above
    have short : 2 * x ≤ n4Value g + n4Value (g + 1) := by
      by_contra long
      exact stays ⟨(not_le.mp long).le, fun _ => not_le.mp long⟩
    refine ⟨(abs_sub_le_abs_sub_lower_iff apart).mpr (by linarith), fun tie _ => ?_⟩
    have reached := (abs_sub_le_abs_sub_upper_iff apart).mp tie.le
    by_contra odd
    exact stays ⟨by linarith, fun even => absurd even odd⟩

/-- n4_nearest takes the magnitude's code and puts the sign of `y` above it, never on zero (R43, R78). -/
theorem n4Nearest_spec (y : Rat) :
    n4Nearest y < 16 ∧ n4Nearest y ≠ 8 ∧ n4Nearest y % 2 = n4MagCode |y| % 2 ∧
    n4Value (n4Nearest y) = if y < 0 then -n4Value (n4MagCode |y|) else n4Value (n4MagCode |y|) := by
  have code_lt := n4MagCode_lt_eight |y|
  simp only [n4Nearest]
  split_ifs with zero neg neg
  · simp [zero, n4Value]
  · simp [zero]
  · exact ⟨by omega, by omega, by omega, n4Value_add_eight _ code_lt⟩
  · exact ⟨by omega, by omega, rfl, rfl⟩

/-- The distance to the value that n4_nearest gives is the one between the magnitudes. -/
theorem abs_sub_n4Nearest (y : Rat) : |y - n4Value (n4Nearest y)| = |(|y| - n4Value (n4MagCode |y|))| := by
  obtain ⟨-, -, -, value⟩ := n4Nearest_spec y
  rw [value]
  split_ifs with neg
  · rw [abs_of_neg neg, ← abs_neg]; ring_nf
  · rw [abs_of_nonneg (not_lt.mp neg)]

/-- The magnitude of an N4 code's value is the value of its magnitude code (R43). -/
theorem abs_n4Value {c : Nat} (hc : c < 16) : |n4Value c| = n4Value (c % 8) := by
  have nonneg : 0 ≤ n4Value (c % 8) := n4Value_le_n4Value (j := 0) (by omega) (Nat.zero_le _)
  rcases n4Value_eq_or_neg c hc with h | h <;> simp [h, abs_of_nonneg nonneg]

/-- The value that n4_nearest gives has the magnitude that `n4MagCode` gives. -/
theorem abs_n4Value_n4Nearest (y : Rat) : |n4Value (n4Nearest y)| = n4Value (n4MagCode |y|) := by
  have nonneg : 0 ≤ n4Value (n4MagCode |y|) := n4Value_le_n4Value (j := 0) (n4MagCode_lt_eight _) (Nat.zero_le _)
  obtain ⟨-, -, -, value⟩ := n4Nearest_spec y
  rw [value]
  split_ifs <;> simp [abs_of_nonneg nonneg]

/-- No code's value is nearer than its magnitude is to the magnitude of `y`. -/
theorem abs_abs_sub_n4Value_le {c : Nat} (hc : c < 16) (y : Rat) : |(|y| - n4Value (c % 8))| ≤ |y - n4Value c| :=
  abs_n4Value hc ▸ abs_abs_sub_abs_le y (n4Value c)

/-- No code's value is nearer than that of n4_nearest (R78). -/
theorem n4Nearest_nearest (y : Rat) {c : Nat} (hc : c < 16) : |y - n4Value (n4Nearest y)| ≤ |y - n4Value c| :=
  calc |y - n4Value (n4Nearest y)| = |(|y| - n4Value (n4MagCode |y|))| := abs_sub_n4Nearest y
    _ ≤ |(|y| - n4Value (c % 8))| := (n4MagCode_nearest |y| (by omega)).1
    _ ≤ |y - n4Value c| := abs_abs_sub_n4Value_le hc y

/-- Every N4 magnitude but that of code 0x0 is positive (R43). -/
theorem n4Value_pos {k : Nat} (hk : k < 8) (pos : 0 < k) : 0 < n4Value k :=
  n4Value_lt_n4Value k hk 0 pos

/-- At a tie n4_nearest takes the value whose mantissa bit is 0 (R78). The two values in a tie have different
magnitudes, as only zero lies as near to a value as to its negative. -/
theorem n4Nearest_tie_even {y : Rat} {c : Nat} (hc : c < 16) (tie : |y - n4Value c| = |y - n4Value (n4Nearest y)|)
    (differ : n4Value c ≠ n4Value (n4Nearest y)) : n4Nearest y % 2 = 0 := by
  obtain ⟨-, -, parity, -⟩ := n4Nearest_spec y
  obtain ⟨nearest, tie_even⟩ := n4MagCode_nearest |y| (k := c % 8) (by omega)
  have code_lt := n4MagCode_lt_eight |y|
  rw [parity]
  by_contra odd
  have same_distance : |(|y| - n4Value (c % 8))| = |(|y| - n4Value (n4MagCode |y|))| :=
    le_antisymm ((abs_abs_sub_n4Value_le hc y).trans (tie.trans (abs_sub_n4Nearest y)).le) nearest
  have same_magnitude : n4Value (c % 8) = n4Value (n4MagCode |y|) := by
    by_contra other
    exact odd (tie_even same_distance other)
  have opposite : n4Value c = -n4Value (n4Nearest y) :=
    (abs_eq_abs.mp (by rw [abs_n4Value hc, same_magnitude, abs_n4Value_n4Nearest])).resolve_left differ
  have nonzero : n4Value (n4Nearest y) ≠ 0 := by
    rw [← abs_pos, abs_n4Value_n4Nearest]
    exact n4Value_pos code_lt (by omega)
  rw [opposite, sub_neg_eq_add] at tie
  rcases abs_eq_abs.mp tie with h | h
  · exact nonzero (by linarith)
  · have zero : y = 0 := by linarith
    rw [zero] at odd
    exact odd (by decide +kernel)

/-- A magnitude above 6 takes the largest code (R78). -/
theorem n4MagCode_eq_seven {x : Rat} (h : 6 < x) : n4MagCode x = 7 := by
  have above := (lt_n4MagCode_iff (x := x) (k := 6) (by omega)).mpr (by norm_num [n4Value]; constructor <;> linarith)
  have := n4MagCode_lt_eight x
  omega

/-- Above magnitude 6 n4_nearest gives 6 or −6 (R78). -/
theorem n4Nearest_saturates (y : Rat) :
    (6 < y → n4Value (n4Nearest y) = 6) ∧ (y < -6 → n4Value (n4Nearest y) = -6) := by
  obtain ⟨-, -, -, value⟩ := n4Nearest_spec y
  rw [value]
  constructor <;> intro h
  · rw [if_neg (by linarith), n4MagCode_eq_seven (lt_abs.mpr (.inl h))]
    rfl
  · rw [if_pos (by linarith), n4MagCode_eq_seven (lt_abs.mpr (.inr (by linarith)))]
    rfl

/-! ### I4 -/

/-- `z` is an integer nearest to `y`, and the even one of two (R75, R78). -/
def NearestEven (y : Rat) (z : Int) : Prop := |y - z| ≤ 1 / 2 ∧ (|y - z| = 1 / 2 → z % 2 = 0)

/-- A number that is not negative is the quotient of its fraction and a remainder below one. -/
theorem sub_quotient_eq {q : Rat} (nonneg : 0 ≤ q) :
    q - (q.num.natAbs / q.den : Nat) = (q.num.natAbs % q.den : Nat) / q.den := by
  have numerator : (q.num.natAbs : Rat) = q * q.den := by
    rw [Rat.mul_den_eq_num, ← Int.natAbs_of_nonneg (Rat.num_nonneg.mpr nonneg)]
    rfl
  have division : (q.den : Rat) * (q.num.natAbs / q.den : Nat) + (q.num.natAbs % q.den : Nat) = q.num.natAbs := by
    exact_mod_cast Nat.div_add_mod q.num.natAbs q.den
  rw [eq_div_iff (by exact_mod_cast q.den_nz), sub_mul]
  linarith

/-- The model's rounding of a magnitude compares what stands above the whole part with one half (R75). -/
theorem nearestNat_eq {q : Rat} (nonneg : 0 ≤ q) : ∃ n : Nat, 0 ≤ q - n ∧ q - n < 1 ∧
    nearestNat q = if q - n < 1 / 2 then n else if 1 / 2 < q - n then n + 1 else if n % 2 = 0 then n else n + 1 := by
  have den_pos : (0 : Rat) < q.den := by exact_mod_cast q.den_pos
  have below_half (r : Nat) : (r : Rat) / q.den < 1 / 2 ↔ 2 * r < q.den := by
    rw [div_lt_div_iff₀ den_pos two_pos, one_mul, mul_comm]
    exact_mod_cast Iff.rfl
  have above_half (r : Nat) : 1 / 2 < (r : Rat) / q.den ↔ q.den < 2 * r := by
    rw [div_lt_div_iff₀ two_pos den_pos, one_mul, mul_comm]
    exact_mod_cast Iff.rfl
  refine ⟨q.num.natAbs / q.den, ?_, ?_, ?_⟩ <;> rw [sub_quotient_eq nonneg]
  · positivity
  · rw [div_lt_one den_pos]
    exact_mod_cast Nat.mod_lt _ q.den_pos
  · simp only [below_half, above_half, nearestNat]

/-- The model's rounding of a magnitude is to the nearest integer, ties to even (R75). -/
theorem nearestEven_nearestNat {q : Rat} (nonneg : 0 ≤ q) : NearestEven q (nearestNat q) := by
  obtain ⟨n, fraction_nonneg, fraction_lt, value⟩ := nearestNat_eq nonneg
  have lower : |q - n| = q - n := abs_of_nonneg fraction_nonneg
  have upper : |q - (n + 1)| = n + 1 - q := by rw [abs_of_neg (by linarith), neg_sub]
  rw [NearestEven, value]
  split_ifs with below above even <;> push_cast <;> simp only [lower, upper]
  · exact ⟨below.le, fun tie => absurd tie below.ne⟩
  · exact ⟨by linarith, fun tie => absurd tie (by linarith)⟩
  · exact ⟨by linarith, fun _ => by omega⟩
  · exact ⟨by linarith, fun _ => by omega⟩

/-- i4_nearest before its code is formed: the magnitude rounded, with its sign. -/
def roundedInt (y : Rat) : Int := if y < 0 then -(nearestNat |y| : Int) else nearestNat |y|

theorem nearestEven_roundedInt (y : Rat) : NearestEven y (roundedInt y) := by
  obtain ⟨near, even⟩ := nearestEven_nearestNat (abs_nonneg y)
  unfold roundedInt
  split_ifs with neg
  · rw [abs_of_neg neg] at *
    have mirror : |y - ((-(nearestNat (-y) : Int) : Int) : Rat)| = |-y - ((nearestNat (-y) : Int) : Rat)| := by
      rw [← abs_neg]
      push_cast
      ring_nf
    rw [NearestEven, mirror]
    exact ⟨near, fun tie => by have := even tie; omega⟩
  · rw [abs_of_nonneg (not_lt.mp neg)] at *
    exact ⟨near, even⟩

/-- I4 codes are two's complement (R44). -/
theorem i4Value_twosComplement (c : Nat) : (c < 8 → i4Value c = c) ∧ (8 ≤ c → c < 16 → i4Value c = (c : Int) - 16) := by
  unfold i4Value
  constructor
  · intro h; rw [if_pos (by omega), Nat.mod_eq_of_lt (by omega)]
  · intro h h16; rw [if_neg (by omega), Nat.mod_eq_of_lt h16]

theorem i4Nearest_eq (y : Rat) : i4Nearest y =
    if y < 0 then (16 - min (nearestNat |y|) 8) % 16 else min (nearestNat |y|) 7 := rfl

theorem i4Nearest_lt (y : Rat) : i4Nearest y < 16 := by
  rw [i4Nearest_eq]
  split_ifs <;> omega

/-- i4_nearest clamps the rounded number to −8 to +7 (R78). -/
theorem i4Value_i4Nearest (y : Rat) : i4Value (i4Nearest y) = max (-8) (min 7 (roundedInt y)) := by
  simp only [i4Nearest_eq, roundedInt, i4Value]
  split_ifs <;> omega

/-- Every integer but a nearest one is at least half a unit away. -/
theorem NearestEven.half_le {y : Rat} {z n : Int} (h : NearestEven y z) (differ : n ≠ z) : 1 / 2 ≤ |y - n| := by
  have apart : (1 : Rat) ≤ |(z : Rat) - n| := by exact_mod_cast Int.one_le_abs (sub_ne_zero.mpr differ.symm)
  have triangle := abs_sub_le (z : Rat) y n
  rw [abs_sub_comm (z : Rat) y] at triangle
  linarith [h.1]

/-- A nearest integer, clamped to a range, is a nearest one of that range, and the even one at a tie. -/
theorem NearestEven.clamp {y : Rat} {z lo hi n : Int} (h : NearestEven y z) (hlo : lo ≤ n) (hhi : n ≤ hi) :
    |y - (max lo (min hi z) : Int)| ≤ |y - n| ∧
    (|y - n| = |y - (max lo (min hi z) : Int)| → n ≠ max lo (min hi z) → max lo (min hi z) % 2 = 0) := by
  obtain ⟨near, even⟩ := h
  obtain ⟨near_below, near_above⟩ := abs_le.mp near
  rcases lt_or_ge z lo with low | low
  · have clamped : max lo (min hi z) = lo := by omega
    have : (z : Rat) + 1 ≤ lo := by exact_mod_cast low
    have : (lo : Rat) ≤ n := by exact_mod_cast hlo
    rw [clamped, abs_of_neg (by linarith), abs_of_neg (by linarith)]
    exact ⟨by linarith, fun tie differ => absurd (by exact_mod_cast (by linarith : (n : Rat) = lo)) differ⟩
  rcases lt_or_ge hi z with high | high
  · have clamped : max lo (min hi z) = hi := by omega
    have : (hi : Rat) + 1 ≤ z := by exact_mod_cast high
    have : (n : Rat) ≤ hi := by exact_mod_cast hhi
    rw [clamped, abs_of_pos (by linarith), abs_of_pos (by linarith)]
    exact ⟨by linarith, fun tie differ => absurd (by exact_mod_cast (by linarith : (n : Rat) = hi)) differ⟩
  · rw [show max lo (min hi z) = z by omega]
    rcases eq_or_ne n z with rfl | differ
    · exact ⟨le_rfl, fun _ differ => absurd rfl differ⟩
    · have far := NearestEven.half_le ⟨near, even⟩ differ
      exact ⟨near.trans far, fun tie _ => even (le_antisymm near (tie ▸ far))⟩

/-! ### F8 -/

/-- The magnitude of a finite F8 code with exponent field `e` and mantissa field `m` (R46). -/
def f8Mag (e m : Nat) : Rat :=
  if e = 0 then (m : Rat) * pow2 FloatShape.f8.kmin else ((8 + m : Nat) : Rat) * pow2 (FloatShape.f8.kmin + (e : Int) - 1)

/-- An F8 code is a NaN where both its fields are full, and finite otherwise: F8 has no infinity (R46). -/
theorem decodeF8_eq (c : Nat) : decodeF8 c =
    if c / 8 % 16 = 15 ∧ c % 8 = 7 then .nan
    else .fin (decide (c / 128 % 2 = 1))
      (if decide (c / 128 % 2 = 1) then -f8Mag (c / 8 % 16) (c % 8) else f8Mag (c / 8 % 16) (c % 8)) := rfl

/-- The finite F8 magnitudes end at 448, and zero aside begin at 2^−9 (R46). -/
theorem f8Mag_bounds : ∀ e < 16, ∀ m < 8, ¬ (e = 15 ∧ m = 7) →
    0 ≤ f8Mag e m ∧ f8Mag e m ≤ 448 ∧ (f8Mag e m = 0 ∨ 1 / 512 ≤ f8Mag e m) := by decide +kernel

/-- The finite values of F8 (R46). -/
theorem decodeF8_fin_bounds {c : Nat} {b : Bool} {q : Rat} (h : decodeF8 c = .fin b q) :
    |q| ≤ 448 ∧ (q = 0 ∨ 1 / 512 ≤ |q|) := by
  rw [decodeF8_eq] at h
  split at h
  · cases h
  · next finite =>
    obtain ⟨nonneg, le, least⟩ := f8Mag_bounds (c / 8 % 16) (Nat.mod_lt _ (by decide)) (c % 8) (Nat.mod_lt _ (by decide)) finite
    obtain ⟨-, rfl⟩ := FVal.fin.inj h
    split_ifs
    · rw [abs_neg, abs_of_nonneg nonneg, neg_eq_zero]
      exact ⟨le, least⟩
    · rw [abs_of_nonneg nonneg]
      exact ⟨le, least⟩

/-- F8 has no infinity (R46). -/
theorem decodeF8_ne_inf (c : Nat) (b : Bool) : decodeF8 c ≠ .inf b := by
  rw [decodeF8_eq]
  split <;> exact FVal.noConfusion

/-- The NaN codes of F8 (R46). -/
theorem decodeF8_eq_nan_iff {c : Nat} (hc : c < 256) : decodeF8 c = .nan ↔ c = 0x7F ∨ c = 0xFF := by
  rw [decodeF8_eq, ite_eq_left_iff]
  constructor
  · intro h
    by_contra other
    exact FVal.noConfusion (h (by omega))
  · intro h full
    omega

/-- Settles O5, from the nearest magnitude of N4 (`n4MagCode_nearest`), the clamped nearest integer of I4
(`NearestEven.clamp`) and the extent of F8 (`f8Mag_bounds`). -/
theorem codesOfNumbers : Obligations.CodesOfNumbers := by
  unfold Obligations.CodesOfNumbers
  refine ⟨fun y => ?_, by decide +kernel, fun y => ⟨i4Nearest_lt y, ?_⟩, fun c => i4Value_twosComplement c,
    fun c hc => ⟨decodeF8_ne_inf c, decodeF8_eq_nan_iff hc, fun b q => decodeF8_fin_bounds⟩,
    by decide +kernel, by decide +kernel, by decide +kernel, by decide +kernel⟩
  · obtain ⟨code_lt, never_eight, -, -⟩ := n4Nearest_spec y
    obtain ⟨above, below⟩ := n4Nearest_saturates y
    exact ⟨code_lt, never_eight, fun c hc => n4Nearest_nearest y hc, fun c hc => n4Nearest_tie_even hc, above, below⟩
  · rw [i4Value_i4Nearest]
    exact ⟨fun n lo hi => ((nearestEven_roundedInt y).clamp lo hi).1, fun n lo hi => ((nearestEven_roundedInt y).clamp lo hi).2⟩

end Sys2Proof.Machine
end

section
/-! SAVE and RESTORE of four accumulators (R108): the row that SAVE writes reads back as the four records, without error
and without poison, and RESTORE finds the four accumulators, their operands among them, beside the row. -/

namespace Sys2Proof.Machine

/-! ### Records of 32 bytes -/

@[simp] theorem Acc.record_length (a : Acc) : a.record.length = 32 := by
  simp [Acc.record, leBytes_length]

/-- The parts of one length that a list is joined from stand at the multiples of this length. -/
theorem take_drop_flatMap {α β : Type} (f : α → List β) {n : Nat} (h : ∀ a, (f a).length = n) (l : List α) {i : Nat}
    (hi : i < l.length) : ((l.flatMap f).drop (n * i)).take n = f l[i] := by
  induction l generalizing i with
  | nil => simp at hi
  | cons a l ih =>
    rw [List.flatMap_cons]
    cases i with
    | zero => simp [← h a]
    | succ i =>
      rw [show n * (i + 1) = (f a).length + n * i by rw [h a]; ring, List.drop_length_add_append]
      exact ih (by simpa using hi)

/-- A read within a longer one gives a part of its bytes. -/
theorem memReadBytes_sub (m : Memory) (a : Nat) {i n k : Nat} (h : i + n ≤ k) :
    memReadBytes m (a + i) n = ((memReadBytes m a k).drop i).take n := by
  apply List.ext_getElem
  · simp [memReadBytes]; omega
  · intro j h1 h2
    simp [memReadBytes, Nat.add_assoc]

theorem storeRead_sub (s : State) (c : CoreRef) (a : Nat) {i n k : Nat} (h : i + n ≤ k) :
    storeRead s c (a + i) n = ((storeRead s c a k).drop i).take n := by
  unfold storeRead storeAddr
  rw [← Nat.add_assoc, memReadBytes_sub _ _ h]

/-! ### What a write of whole words leaves to be read: no error and no poison (R98, R105) -/

theorem mem_wordsOf {a n w : Nat} : w ∈ wordsOf a n ↔ a / 64 ≤ w ∧ w < (a + n + 63) / 64 := by
  simp only [wordsOf, List.mem_map, List.mem_range]
  constructor
  · rintro ⟨i, hi, rfl⟩; omega
  · intro h; exact ⟨w - a / 64, by omega, by omega⟩

/-- Whole words hold every word that a part of them touches. -/
theorem mem_wholeWords_of_within {a n b m w : Nat} (ha : a % 64 = 0) (hn : n % 64 = 0) (low : a ≤ b)
    (high : b + m ≤ a + n) (hw : w ∈ wordsOf b m) : w ∈ wholeWords a n := by
  rw [mem_wordsOf] at hw
  simp only [wholeWords, List.mem_filter, mem_wordsOf, Bool.and_eq_true, decide_eq_true_eq]
  omega

/-- A core's store begins at a word. -/
theorem storeAddr_mod_word (c : CoreRef) (a : Nat) : storeAddr c a % 64 = a % 64 := by
  unfold storeAddr coreBytes
  omega

theorem anyPoison_markWrite_fresh (l : List Nat) {a n b m : Nat} (h : ∀ w ∈ wordsOf b m, w ∈ wholeWords a n) :
    anyPoison (markWrite l a n false) b m = false := by
  rw [anyPoison, List.any_eq_false]
  intro w hw
  simp [markWrite, h w hw]

theorem kget?_eq_none {α : Type} {m : KMap α} {k : Nat} (h : ∀ e ∈ m, e.1 ≠ k) : kget? m k = none := by
  induction m with
  | nil => rfl
  | cons e m ih =>
    rw [kget?, if_neg (h e List.mem_cons_self), ih (fun x hx => h x (List.mem_cons_of_mem _ hx))]

section
variable {a b m : Nat} {bs : List Byte} (aligned : a % 64 = 0) (whole : bs.length % 64 = 0) (low : a ≤ b)
  (high : b + m ≤ a + bs.length)
include aligned whole low high

/-- Of local addresses as of places in the memory of the stores. -/
theorem mem_wholeWords_storeAddr (c : CoreRef) {w : Nat} (hw : w ∈ wordsOf (storeAddr c b) m) :
    w ∈ wholeWords (storeAddr c a) bs.length :=
  mem_wholeWords_of_within (by rw [storeAddr_mod_word, aligned]) whole (Nat.add_le_add_left low _)
    (by unfold storeAddr; omega) hw

theorem storePoisoned_storeWrite_fresh (s : State) (c : CoreRef) :
    storePoisoned (storeWrite s c a bs false) c b m = false :=
  anyPoison_markWrite_fresh _ (fun _ => mem_wholeWords_storeAddr aligned whole low high c)

theorem errsAt_storeWrite_fresh (s : State) (c : CoreRef) (p : Bool) :
    ∀ w ∈ wordsAt b m, errsAt (storeWrite s c a bs p) c w = [] := by
  intro w hw
  obtain ⟨v, hv, rfl⟩ := List.mem_map.1 hw
  have inside : storeAddr c (64 * v) / 64 ∈ wholeWords (storeAddr c a) bs.length := by
    apply mem_wholeWords_storeAddr aligned whole low high c
    rw [mem_wordsOf] at hv ⊢
    unfold storeAddr coreBytes
    omega
  rw [errsAt, kgetD, kget?_eq_none]
  · rfl
  · intro e he same
    simp only [storeWrite, List.mem_filter, same] at he
    simp [inside] at he

end

theorem rowAt_of_aligned {d : Nat} (h : d % 128 = 0) : rowAt d = d := by
  unfold rowAt
  omega

/-- A row written whole reads back, and nothing else changes. -/
theorem storeWrite_row (s : State) (c : CoreRef) {d : Nat} {bs : List Byte} (aligned : d % 128 = 0)
    (len : bs.length = 128) (p : Bool) :
    storeRead (storeWrite s c d bs p) c d 128 = bs ∧ StoreOnly s (storeWrite s c d bs p) c d 128 := by
  obtain ⟨t, answer, read, only⟩ := putRow_written s c (.store d) bs p (by omega) (by omega)
  obtain rfl : putRow s c (.store d) bs p = t := by injection answer
  obtain ⟨bytes, -⟩ := read (by simp)
  simp only [RowOnly, getRow, readRow, putRow, rowAt_of_aligned aligned, len] at bytes only
  rw [List.take_of_length_le (by simp [storeRead, memReadBytes])] at bytes
  exact ⟨bytes, only⟩

/-! ### A core that goes on, and accumulators that are set -/

theorem modCore_cores_agreeBut {m : KMap Core} {s : State} {c : CoreRef} (h : AgreeBut m s.cores [coreKey c])
    (f : Core → Core) : AgreeBut m (modCore s c f).cores [coreKey c] :=
  agreeBut_kset h _ (by simp)

@[simp] theorem passOp_accs (s : State) (c : CoreRef) : (getCore (passOp s c) c).accs = (getCore s c).accs := by
  simp [passOp, Core.goto]

@[simp] theorem passOp_saved (s : State) (c : CoreRef) : (getCore (passOp s c) c).saved = (getCore s c).saved := by
  simp [passOp, Core.goto]

@[simp] theorem getAcc_passOp (s : State) (c : CoreRef) (i : Nat) : getAcc (passOp s c) c i = getAcc s c i := by
  simp [getAcc]

@[simp] theorem storeRead_passOp (s : State) (c d : CoreRef) (a n : Nat) :
    storeRead (passOp s c) d a n = storeRead s d a n := rfl

@[simp] theorem storePoisoned_passOp (s : State) (c d : CoreRef) (a n : Nat) :
    storePoisoned (passOp s c) d a n = storePoisoned s d a n := rfl

@[simp] theorem canAccess_passOp (s : State) (c d : CoreRef) (a n : Nat) :
    CanAccess (passOp s c) d a n ↔ CanAccess s d a n := Iff.rfl

theorem getAcc_setAcc (s : State) (c : CoreRef) (i j : Nat) (a : Acc) :
    getAcc (setAcc s c i a) c j = if j = i then a else getAcc s c j := by
  unfold getAcc setAcc
  rw [getCore_modCore]
  split_ifs with same
  · rw [same, kgetD_kset_same]
  · exact kgetD_kset_ne _ _ _ same

/-- Accumulators set one after another, number `key j` to `value j`. -/
def setAccs (s : State) (c : CoreRef) (key : Nat → Nat) (value : Nat → Acc) (l : List Nat) : State :=
  l.foldl (fun t j => setAcc t c (key j) (value j)) s

section
variable (s : State) (c : CoreRef) (key : Nat → Nat) (value : Nat → Acc) (l : List Nat)

theorem setAccs_concat (j : Nat) :
    setAccs s c key value (l ++ [j]) = setAcc (setAccs s c key value l) c (key j) (value j) := List.foldl_concat ..

theorem setAccs_mem : (setAccs s c key value l).mem = s.mem := by
  induction l using List.reverseRecOn with
  | nil => rfl
  | append_singleton l j ih => rw [setAccs_concat, ← ih]; rfl

theorem setAccs_cores_agreeBut {m : KMap Core} (h : AgreeBut m s.cores [coreKey c]) :
    AgreeBut m (setAccs s c key value l).cores [coreKey c] := by
  induction l using List.reverseRecOn with
  | nil => exact h
  | append_singleton l j ih => rw [setAccs_concat]; exact modCore_cores_agreeBut ih _

theorem setAccs_accs_agreeBut {ks : List Nat} (inside : ∀ j ∈ l, key j ∈ ks) :
    AgreeBut (getCore s c).accs (getCore (setAccs s c key value l) c).accs ks := by
  induction l using List.reverseRecOn with
  | nil => exact agreeBut_refl _ _
  | append_singleton l j ih =>
    rw [setAccs_concat, setAcc, getCore_modCore]
    exact agreeBut_kset (ih (fun x hx => inside x (by simp [hx]))) _ (inside j (by simp))

theorem getAcc_setAccs {j : Nat} (hj : j ∈ l) (inj : ∀ x ∈ l, key j = key x → j = x) :
    getAcc (setAccs s c key value l) c (key j) = value j := by
  induction l using List.reverseRecOn with
  | nil => simp at hj
  | append_singleton l x ih =>
    rw [setAccs_concat, getAcc_setAcc]
    split_ifs with same
    · rw [inj x (by simp) same]
    · refine ih ?_ (fun y hy => inj y (by simp [hy]))
      rcases List.mem_append.1 hj with before | last
      · exact before
      · exact absurd (congrArg key (List.mem_singleton.1 last)) same

end

theorem setAccs_congr {s : State} {c : CoreRef} {key : Nat → Nat} {value value' : Nat → Acc} {l : List Nat}
    (h : ∀ j ∈ l, value j = value' j) : setAccs s c key value l = setAccs s c key value' l :=
  List.foldl_ext _ _ _ (fun _ j hj => congrArg _ (h j hj))

/-! ### The accumulators kept beside a saved row -/

/-- The four accumulators from number `i` on, in the order of their records in a row (R108). -/
def fourAccs (s : State) (c : CoreRef) (i : Nat) : List Acc := (List.range 4).map (fun j => getAcc s c ((i + j) % 64))

@[simp] theorem fourAccs_length (s : State) (c : CoreRef) (i : Nat) : (fourAccs s c i).length = 4 := by simp [fourAccs]

@[simp] theorem fourAccs_getElem (s : State) (c : CoreRef) (i : Nat) {j : Nat} (hj : j < (fourAccs s c i).length) :
    (fourAccs s c i)[j] = getAcc s c ((i + j) % 64) := by simp [fourAccs]

theorem fourAccs_records_length (s : State) (c : CoreRef) (i : Nat) :
    ((fourAccs s c i).flatMap Acc.record).length = 128 := by
  rw [flatMap_length_const _ _ Acc.record_length, fourAccs_length]

theorem fourAccs_unpoisoned {s : State} {c : CoreRef} {i : Nat}
    (clean : ∀ j < 4, (getAcc s c ((i + j) % 64)).poison = false) : (fourAccs s c i).any Acc.poison = false := by
  simpa [fourAccs] using clean

/-- The accumulators `xs` put before those already kept, each under its address. -/
def keepSaved (m xs : List (Nat × Acc)) : List (Nat × Acc) := xs.foldl (fun m x => x :: m.erase x) m

theorem find?_erase_of_not {α : Type} [BEq α] [LawfulBEq α] {q : α → Bool} {y : α} (h : q y = false) (l : List α) :
    (l.erase y).find? q = l.find? q := by
  induction l with
  | nil => rfl
  | cons a l ih =>
    by_cases same : a = y
    · subst same
      rw [List.erase_cons_head, List.find?_cons_of_neg (by simp [h])]
    · rw [List.erase_cons_tail (by simpa using same), List.find?_cons, List.find?_cons, ih]

/-- A search that fits one of the accumulators just put there, and no other of them, finds it before any older one. -/
theorem find?_keepSaved {q : Nat × Acc → Bool} {x : Nat × Acc} (fits : q x = true) (m : List (Nat × Acc))
    {xs : List (Nat × Acc)} (mem : x ∈ xs) (only : ∀ y ∈ xs, q y = true → y = x) :
    (keepSaved m xs).find? q = some x := by
  induction xs using List.reverseRecOn with
  | nil => simp at mem
  | append_singleton xs y ih =>
    rw [keepSaved, List.foldl_concat]
    cases hy : q y with
    | true => rw [List.find?_cons_of_pos hy, only y (by simp) hy]
    | false =>
      rw [List.find?_cons_of_neg (by simp [hy]), find?_erase_of_not hy]
      refine ih ?_ (fun z hz => only z (by simp [hz]))
      rcases List.mem_append.1 mem with older | last
      · exact older
      · rw [List.mem_singleton.1 last, hy] at fits
        cases fits

/-! ### SAVE -/

/-- The accumulators of a row with the addresses of their records. -/
def placed (a : Nat) (as : List Acc) : List (Nat × Acc) := as.zipIdx.map (fun x => (a + 32 * x.2, x.1))

theorem mem_placed {a : Nat} {as : List Acc} {x : Nat × Acc} :
    x ∈ placed a as ↔ ∃ i, ∃ h : i < as.length, x = (a + 32 * i, as[i]) := by
  simp only [placed, List.mem_map, Prod.exists, List.mem_zipIdx_iff_getElem?, List.getElem?_eq_some_iff]
  constructor
  · rintro ⟨_, i, ⟨h, found⟩, same⟩
    exact ⟨i, h, by rw [found, same]⟩
  · rintro ⟨i, h, rfl⟩
    exact ⟨_, i, ⟨h, rfl⟩, rfl⟩

/-- The core has gone on and keeps the four accumulators under the addresses of their records. -/
def saving (s : State) (c : CoreRef) (i d : Nat) : State :=
  modCore (passOp s c) c (fun k => { k with saved := keepSaved k.saved (placed d (fourAccs s c i)) })

/-- The state that SAVE leaves: the row at `d` holds the four records as well. -/
def afterSave (s : State) (c : CoreRef) (i d : Nat) : State :=
  storeWrite (saving s c i d) c d ((fourAccs s c i).flatMap Acc.record) ((fourAccs s c i).any Acc.poison)

theorem exec_save {o : OpAt} {acc : Fin 64} {d : Nat} {s : State} (ready : runs s o.core (opCode 1 5) = true)
    (access : CanAccess s o.core d 128) (aligned : d % 128 = 0) :
    exec (.save o acc d) s = .next (afterSave s o.core acc.val d) := by
  show execSave o acc d s = _
  rw [execSave, asOp_runs _ ready, rowAt_of_aligned aligned,
    onAccess_ok _ _ ((canAccess_passOp ..).2 access)]
  simp only [getAcc_passOp]
  rfl

section
variable (s : State) (c : CoreRef) (i : Nat) {d : Nat}

theorem afterSave_accs (d : Nat) : (getCore (afterSave s c i d) c).accs = (getCore s c).accs := by
  show (getCore (saving s c i d) c).accs = _
  simp [saving]

theorem afterSave_saved (d : Nat) : (getCore (afterSave s c i d) c).saved =
    keepSaved (getCore s c).saved (placed d (fourAccs s c i)) := by
  show (getCore (saving s c i d) c).saved = _
  simp [saving]

theorem afterSave_cores_agreeBut (d : Nat) : AgreeBut s.cores (afterSave s c i d).cores [coreKey c] := by
  show AgreeBut _ (saving s c i d).cores _
  exact modCore_cores_agreeBut (modCore_cores_agreeBut (agreeBut_refl _ _) _) _

/-- What a core may access depends neither on its store nor on where its program stands. -/
@[simp] theorem canAccess_afterSave (d a n : Nat) : CanAccess (afterSave s c i d) c a n ↔ CanAccess s c a n := by
  rfl

section
variable (aligned : d % 128 = 0)
include aligned

theorem storeRead_afterSave : storeRead (afterSave s c i d) c d 128 = (fourAccs s c i).flatMap Acc.record :=
  (storeWrite_row _ c aligned (fourAccs_records_length s c i) _).1

theorem storeOnly_afterSave :
    StoreOnly { s with cores := (afterSave s c i d).cores } (afterSave s c i d) c d 128 :=
  (storeWrite_row (saving s c i d) c aligned (fourAccs_records_length s c i) _).2

/-- The record of each saved accumulator stands at its place in the row. -/
theorem storeRead_record_afterSave {j : Nat} (hj : j < 4) :
    storeRead (afterSave s c i d) c (d + 32 * j) 32 = (getAcc s c ((i + j) % 64)).record := by
  rw [storeRead_sub _ _ _ (show 32 * j + 32 ≤ 128 by omega), storeRead_afterSave s c i aligned,
    take_drop_flatMap _ Acc.record_length _ (by simpa using hj), fourAccs_getElem]

theorem errsAt_afterSave : ∀ w ∈ wordsAt d 128, errsAt (afterSave s c i d) c w = [] :=
  errsAt_storeWrite_fresh (by omega) (by rw [fourAccs_records_length]) le_rfl (by rw [fourAccs_records_length]) _ _ _

theorem storePoisoned_afterSave (clean : ∀ j < 4, (getAcc s c ((i + j) % 64)).poison = false) {j : Nat} (hj : j < 4) :
    storePoisoned (afterSave s c i d) c (d + 32 * j) 32 = false := by
  rw [afterSave, fourAccs_unpoisoned clean]
  exact storePoisoned_storeWrite_fresh (by omega) (by rw [fourAccs_records_length]) (by omega)
    (by rw [fourAccs_records_length]; omega) _ _

end

/-- The accumulator kept under an address of the row just saved is the one that the record there was made of. -/
theorem find?_saved_afterSave (d : Nat) {j : Nat} (hj : j < 4) :
    (getCore (afterSave s c i d) c).saved.find?
      (fun x => x.1 == d + 32 * j && x.2.record == (getAcc s c ((i + j) % 64)).record) =
        some (d + 32 * j, getAcc s c ((i + j) % 64)) := by
  rw [afterSave_saved]
  refine find?_keepSaved (by simp) _ (mem_placed.2 ⟨j, by simpa using hj, by simp⟩) ?_
  intro y hy fits
  obtain ⟨k, hk, rfl⟩ := mem_placed.1 hy
  simp only [Bool.and_eq_true, beq_iff_eq] at fits
  obtain rfl : k = j := by omega
  simp

end

/-! ### RESTORE -/

/-- Where the core keeps an accumulator for a record's address, the record gives that one, with the poison of its
bytes. -/
theorem restored_of_find {s : State} {c : CoreRef} {a : Nat} {bs : List Byte} {x : Nat × Acc}
    (found : (getCore s c).saved.find? (fun x => x.1 == a && x.2.record == bs) = some x) (poison : Bool) :
    restored s c a bs poison = { x.2 with poison := poison } := by
  rw [restored, found]
  rfl

/-- The accumulator that record `j` of the row at `d` gives (R108). -/
def recordAt (s : State) (c : CoreRef) (d j : Nat) : Acc :=
  restored s c (d + 32 * j) (storeRead s c (d + 32 * j) 32) (storePoisoned s c (d + 32 * j) 32)

/-- RESTORE of a row without error sets four accumulators to what its records give. -/
theorem exec_restore {o : OpAt} {acc : Fin 64} {d : Nat} {s : State} (ready : runs s o.core (opCode 1 6) = true)
    (access : CanAccess s o.core d 128) (aligned : d % 128 = 0) (sound : ∀ w ∈ wordsAt d 128, errsAt s o.core w = []) :
    exec (.restore o acc d) s = .next (setAccs (passOp s o.core) o.core (fun j => (acc.val + j) % 64)
      (recordAt (passOp s o.core) o.core d) (List.range 4)) := by
  have quiet : meetRow (passOp s o.core) o.core d (some (o.stamp, o.instr)) = passOp s o.core :=
    meetRow_clean (passOp _ _) _ _ sound _
  show execRestore o acc d s = _
  rw [execRestore, asOp_runs _ ready, rowAt_of_aligned aligned,
    onAccess_ok _ _ ((canAccess_passOp ..).2 access)]
  simp only [quiet]
  rfl

/-- Each record of the row just saved gives the accumulator that it was made of, whole. -/
theorem recordAt_afterSave {s : State} {c : CoreRef} {i d j : Nat} (aligned : d % 128 = 0)
    (clean : ∀ j < 4, (getAcc s c ((i + j) % 64)).poison = false) (hj : j < 4) :
    recordAt (passOp (afterSave s c i d) c) c d j = getAcc s c ((i + j) % 64) := by
  have found := find?_saved_afterSave s c i d hj
  rw [← passOp_saved] at found
  rw [recordAt, storeRead_passOp, storeRead_record_afterSave s c i aligned hj, storePoisoned_passOp,
    storePoisoned_afterSave s c i aligned clean hj, restored_of_find found, ← clean j hj]

/-- RESTORE of the row just saved sets four accumulators to those saved. -/
theorem exec_restore_afterSave {s : State} {o : OpAt} {c : CoreRef} {acc : Fin 64} {i d : Nat} (same : o.core = c)
    (ready : runs (afterSave s c i d) c (opCode 1 6) = true) (access : CanAccess s c d 128)
    (aligned : d % 128 = 0) (clean : ∀ j < 4, (getAcc s c ((i + j) % 64)).poison = false) :
    exec (.restore o acc d) (afterSave s c i d) = .next (setAccs (passOp (afterSave s c i d) c) c
      (fun j => (acc.val + j) % 64) (fun j => getAcc s c ((i + j) % 64)) (List.range 4)) := by
  subst same
  rw [exec_restore ready ((canAccess_afterSave ..).2 access) aligned (errsAt_afterSave s o.core i aligned)]
  exact congrArg _ (setAccs_congr (fun j hj => recordAt_afterSave aligned clean (List.mem_range.1 hj)))

/-- Settles O14: the row just saved reads back as its four records, clean (`storeRead_record_afterSave`), and each
record finds the accumulator kept beside it (`find?_saved_afterSave`). -/
theorem saveThenRestore : Obligations.SaveThenRestore := by
  unfold Obligations.SaveThenRestore
  intro o o' acc acc' d s ready access aligned clean same
  let c := o.core
  let t := afterSave s c acc d
  refine ⟨t, exec_save ready access aligned, storeOnly_afterSave s c acc aligned, storeRead_afterSave s c acc aligned,
    afterSave_accs s c acc d, afterSave_cores_agreeBut s c acc d, fun again =>
    ⟨_, exec_restore_afterSave same again access aligned clean, fun j hj => ?_, ?_, setAccs_mem .., ?_⟩⟩
  · exact getAcc_setAccs _ c (fun j => (acc'.val + j) % 64) _ _ (List.mem_range.2 hj)
      (fun x hx meet => by have := List.mem_range.1 hx; omega)
  · rw [← afterSave_accs s c acc d, ← passOp_accs]
    exact setAccs_accs_agreeBut _ _ _ _ _ (fun j hj => List.mem_map_of_mem hj)
  · exact setAccs_cores_agreeBut _ _ _ _ _ (modCore_cores_agreeBut (afterSave_cores_agreeBut s c acc d) _)

end Sys2Proof.Machine
end

section
/-! Laws that the proofs below share: what a fold over the state leaves as it was, and the entries of maps. -/

namespace Sys2Proof.Machine

/-- A fold of steps that each leave `g` of the state as it was leaves it so. -/
theorem foldl_frame {α β σ : Type} (g : σ → β) {f : σ → α → σ} (h : ∀ s a, g (f s a) = g s) (l : List α) (s : σ) :
    g (l.foldl f s) = g s := by
  induction l generalizing s with
  | nil => rfl
  | cons a l ih => exact (ih _).trans (h s a)

theorem mem_of_kget? {α : Type} {m : KMap α} {k : Nat} {v : α} (h : kget? m k = some v) : (k, v) ∈ m := by
  induction m with
  | nil => simp [kget?] at h
  | cons e m ih =>
    obtain ⟨k', v'⟩ := e
    simp only [kget?] at h
    split_ifs at h with same
    · simp_all
    · exact List.mem_cons_of_mem _ (ih h)

theorem mem_kset_self {α : Type} (m : KMap α) (k : Nat) (v : α) : (k, v) ∈ kset m k v :=
  mem_of_kget? (kget?_kset_same m k v)

/-- What a fold of writes, each to its own address, leaves to be read elsewhere. -/
theorem foldl_read_of_apart {σ α β : Type} (read : σ → Nat → β) {f : σ → α → σ} {addr : α → Nat} {a : Nat}
    (elsewhere : ∀ s x, a ≠ addr x → read (f s x) a = read s a) {l : List α} (apart : ∀ x ∈ l, a ≠ addr x) (s : σ) :
    read (l.foldl f s) a = read s a := by
  induction l generalizing s with
  | nil => rfl
  | cons x l ih =>
    rw [List.foldl_cons, ih (fun y hy => apart y (List.mem_cons_of_mem _ hy)), elsewhere s x (apart x List.mem_cons_self)]

/-- What a fold of writes to addresses that differ leaves at the address of one of them. -/
theorem foldl_read_of_mem {σ α β : Type} (read : σ → Nat → β) {f : σ → α → σ} {addr : α → Nat} {l : List α} {x : α} {v : β}
    (elsewhere : ∀ s y, addr x ≠ addr y → read (f s y) (addr x) = read s (addr x)) (hx : x ∈ l)
    (inj : ∀ y ∈ l, addr y = addr x → y = x) (here : ∀ s, read (f s x) (addr x) = v) (s : σ) :
    read (l.foldl f s) (addr x) = v := by
  induction l generalizing s with
  | nil => cases hx
  | cons y l ih =>
    have inj' : ∀ z ∈ l, addr z = addr x → z = x := fun z hz => inj z (List.mem_cons_of_mem _ hz)
    by_cases later : x ∈ l
    · exact ih later inj' _
    · obtain rfl : x = y := (List.mem_cons.1 hx).resolve_right later
      rw [List.foldl_cons, foldl_read_of_apart read elsewhere (fun z hz same => later (inj' z hz same.symm ▸ hz)), here]

/-- Entries written one after the other at keys that differ each stand as written. -/
theorem kget?_foldl_kset {α β : Type} {key : α → Nat} {l : List α} {j : α} (hj : j ∈ l)
    (inj : ∀ x ∈ l, key x = key j → x = j) (value : α → β) (m : KMap β) :
    kget? (l.foldl (fun m i => kset m (key i) (value i)) m) (key j) = some (value j) :=
  foldl_read_of_mem (f := fun m i => kset m (key i) (value i)) kget? (fun m _ apart => kget?_kset_ne m _ apart) hj inj
    (fun m => kget?_kset_same m _ _) m

theorem agreeBut_foldl_kset {α β : Type} {m₀ m : KMap β} {ks : List Nat} {key : α → Nat} {l : List α} (value : α → β)
    (h : AgreeBut m₀ m ks) (inside : ∀ i ∈ l, key i ∈ ks) :
    AgreeBut m₀ (l.foldl (fun m i => kset m (key i) (value i)) m) ks := by
  induction l generalizing m with
  | nil => exact h
  | cons a l ih =>
    exact ih (agreeBut_kset h _ (inside a List.mem_cons_self)) fun i hi => inside i (List.mem_cons_of_mem _ hi)

/-! ### Writes of a core's store -/

/-- Only the bytes, errors and poison of the stores changed. -/
def StoreFrame (u t : State) : Prop :=
  t = { u with mem := { u.mem with store := t.mem.store, errs := t.mem.errs, storePoison := t.mem.storePoison } }

theorem StoreFrame.refl (u : State) : StoreFrame u u := rfl

theorem StoreFrame.storeWrite {u t : State} (h : StoreFrame u t) (c : CoreRef) (a : Nat) (bs : List Byte) (p : Bool) :
    StoreFrame u (storeWrite t c a bs p) := by
  unfold StoreFrame at h
  rw [h]
  rfl

theorem StoreFrame.foldl {α : Type} {u t : State} {f : State → α → State} (h : StoreFrame u t)
    (step : ∀ s x, StoreFrame u s → StoreFrame u (f s x)) (l : List α) : StoreFrame u (l.foldl f t) := by
  induction l generalizing t with
  | nil => exact h
  | cons x l ih => exact ih (step t x h)

theorem storeRead_storeWrite_same (s : State) (c : CoreRef) (a : Nat) (bs : List Byte) (p : Bool) :
    storeRead (storeWrite s c a bs p) c a bs.length = bs :=
  memReadBytes_memWriteBytes _ _ _

theorem memRead_storeWrite_out (s : State) (c : CoreRef) (a : Nat) (bs : List Byte) (p : Bool) {x : Nat}
    (h : x < storeAddr c a ∨ storeAddr c a + bs.length ≤ x) :
    memRead (storeWrite s c a bs p).mem.store x = memRead s.mem.store x :=
  memRead_memWriteBytes_out _ _ _ h

theorem memReadBytes_congr {m m' : Memory} {a n : Nat} (h : ∀ i < n, memRead m' (a + i) = memRead m (a + i)) :
    memReadBytes m' a n = memReadBytes m a n :=
  List.map_congr_left fun i hi => h i (List.mem_range.1 hi)

end Sys2Proof.Machine
end

section
/-! A step of the block and the state after reset: the front command (O1), the reset state (O2), the invariant along
every step (O3), and a lamp cycle in which a chase counts transit cycles although no core rail is up (O4). -/

namespace Sys2Proof.Machine

/-- Settles O1: a step on a queue that is not empty is its front command's `exec`. -/
theorem stepRunsFrontCommand : Obligations.StepRunsFrontCommand := by
  unfold Obligations.StepRunsFrontCommand
  exact fun _ _ _ => rfl

theorem inv_reset : Inv State.reset :=
  ⟨⟨nil_wf, nil_wf, nil_wf⟩, by simp [State.reset]⟩

/-- Settles O2: every map of the reset state is empty, so that each read answers its default. -/
theorem resetHoldsNothing : Obligations.ResetHoldsNothing := by
  unfold Obligations.ResetHoldsNothing
  exact ⟨inv_reset, fun _ => rfl, fun _ _ _ => rfl, fun _ => rfl, fun _ => rfl, fun _ => rfl, rfl, fun _ => rfl, fun _ => rfl,
    rfl, rfl⟩

/-- Settles O3: with a command waiting by `exec_kept`, on an empty queue by `tick_kept`. -/
theorem stepKeepsInvariant : Obligations.StepKeepsInvariant := by
  unfold Obligations.StepKeepsInvariant
  intro s t inv run
  unfold step at run
  split at run
  · next c rest _ =>
    have kept := exec_kept c (s := { s with pending := rest }) ⟨inv, rfl, rfl⟩
    rw [run] at kept
    exact kept.1
  · obtain rfl := Host.Outcome.next.inj run
    exact (tick_kept s ⟨inv, rfl, rfl⟩).1

/-! ### Transit cycles while no core rail is up (R31) -/

/-- Every register reads its reset value, nothing is in the fabric, at the rim or waiting as a fault item, and chase 0
has counted at least `m` cycles. -/
structure IdleFrom (m : Nat) (s : State) : Prop where
  regs : s.regs = []
  fabric : s.fabric = []
  items : s.faults.items = []
  rim : s.rim = []
  clk : m ≤ (getChase s 0).clk

theorem sendEvents_of_no_items {s : State} (items : s.faults.items = []) (n : Nat) : sendEvents s n = s := by
  have same : ({ s.faults with items := [] } : Faults) = s.faults := by rw [← items]
  rw [sendEvents, items]
  exact congrArg (fun x => { s with faults := x }) same

theorem settleQueues_of_no_flits {s : State} (fabric : s.fabric = []) (n : Nat) : settleQueues s n = takeCredits s n := by
  rw [settleQueues, fabric]; rfl

theorem getChase_takeCredits (s : State) (n m : Nat) : getChase (takeCredits s n) m = getChase s m := rfl

theorem transitCycle_of_idle {m : Nat} {s : State} (idle : IdleFrom m s) (n : Nat) :
    IdleFrom (if n = 0 then m + 1 else m) (transitCycle s n) := by
  obtain ⟨regs, fabric, items, rim, clk⟩ := idle
  rw [transitCycle, sendEvents_of_no_items (by exact items), settleQueues_of_no_flits (by exact fabric)]
  refine ⟨regs, fabric, items, rim, ?_⟩
  rw [getChase_takeCredits]
  split_ifs with h
  · subst h
    rw [modChase, getChase_setChase]
    exact Nat.succ_le_succ clk
  · rw [modChase, getChase_setChase_ne _ _ (Ne.symm h)]
    exact clk

theorem transitCycles_of_idle (k : Nat) {m : Nat} {s : State} (idle : IdleFrom m s) (n : Nat) :
    IdleFrom (if n = 0 then m + k else m) (transitCycles k s n) := by
  induction k generalizing m s with
  | zero => simpa [transitCycles] using idle
  | succ k ih =>
    have h := ih (transitCycle_of_idle idle n)
    split_ifs at h ⊢
    · rwa [Nat.add_right_comm, Nat.add_assoc] at h
    · exact h

theorem rail_of_regs_nil {s : State} (regs : s.regs = []) (n : Nat) : rail s n = Rail.off := by
  simp only [rail, getF, regs]; rfl

theorem chaseTicks_of_idle {m : Nat} {s : State} (idle : IdleFrom m s) (n : Nat) : IdleFrom m (chaseTicks s n) := by
  have off : railOn s n = false := by simp [railOn, rail_of_regs_nil idle.regs, Rail.off, Rail.on]
  simp only [chaseTicks, off, Bool.false_and, Bool.false_eq_true, if_false]
  split_ifs
  · have h := transitCycles_of_idle 24 idle n
    split_ifs at h
    · exact { h with clk := Nat.le_trans (Nat.le_add_right _ _) h.clk }
    · exact h
  · exact idle

theorem chaseTicks_counts {s : State} (idle : IdleFrom 0 s) (up : transitUp s 0 = true) : IdleFrom 24 (chaseTicks s 0) := by
  have off : railOn s 0 = false := by simp [railOn, rail_of_regs_nil idle.regs, Rail.off, Rail.on]
  simp only [chaseTicks, off, up, Bool.false_and, Bool.false_eq_true, if_false, if_true]
  exact transitCycles_of_idle 24 idle 0

theorem foldl_chaseTicks_of_idle (l : List Nat) {m : Nat} {s : State} (idle : IdleFrom m s) :
    IdleFrom m (l.foldl chaseTicks s) := by
  induction l generalizing s with
  | nil => exact idle
  | cons n l ih => exact ih (chaseTicks_of_idle idle n)

theorem strikeFiles_chases (s : State) : ∃ k, strikeFiles s = { s with cores := k } := by
  unfold strikeFiles
  generalize Config.parityUpsets s.lampTime = l
  induction l generalizing s with
  | nil => exact ⟨s.cores, rfl⟩
  | cons u l ih => exact ih (modCore s (coreOfKey u.1) _)

theorem rimDrain_of_idle {m : Nat} {s : State} (idle : IdleFrom m s) : rimDrain s = s := by
  rw [rimDrain, idle.rim]; rfl

theorem rampsEnd_of_idle {m : Nat} {s : State} (idle : IdleFrom m s) : rampsEnd s = s := by
  unfold rampsEnd
  rw [List.filter_eq_nil_iff.2]
  · rfl
  · simp [rail_of_regs_nil idle.regs, Rail.off, Rail.ramping]

theorem rebuildsGo_of_idle {m : Nat} {s : State} (idle : IdleFrom m s) : rebuildsGo s = s := by
  have none_rebuilding : (List.range 32).filter (fun n => stkState s n == 4) = [] := by
    simp only [stkState, getF, idle.regs]; decide
  rw [rebuildsGo, none_rebuilding]; rfl

theorem setSynced_false_chases (s : State) : (setSynced s false).chases = s.chases := by
  rw [setSynced, if_neg Bool.false_ne_true]
  dsimp only
  rw [foldl_frame State.chases]
  · rfl
  · exact fun _ _ => rfl

theorem lapseSync_chases (s : State) : (lapseSync s).chases = s.chases := by
  unfold lapseSync
  split_ifs
  · exact setSynced_false_chases s
  · rfl

theorem setBus_chases (s : State) (bus : Nat) (b : Bool) : (setBus s bus b).chases = s.chases := by
  unfold setBus; split_ifs <;> rfl

theorem busesReturn_chases (s : State) : (busesReturn s).chases = s.chases := by
  rw [busesReturn, foldl_frame State.chases]
  exact fun s x => setBus_chases s x.1 true

/-- The reset state with the transit of chase 0 released (step 8 of R472), all rails OFF. -/
def transitReleased : State := { State.reset with release := { State.reset.release with released := [(8, 0)] } }

theorem tick_transitReleased_clk : 24 ≤ (getChase (tick transitReleased) 0).clk := by
  obtain ⟨k, hk⟩ := strikeFiles_chases (strike (advanceLamp transitReleased))
  have idle : IdleFrom 0 (strikeFiles (strike (advanceLamp transitReleased))) := by
    rw [hk]; exact ⟨rfl, rfl, rfl, rfl, Nat.zero_le _⟩
  have up : transitUp (strikeFiles (strike (advanceLamp transitReleased))) 0 = true := by rw [hk]; rfl
  have ticked : IdleFrom 24 ((List.range 256).foldl chaseTicks (strikeFiles (strike (advanceLamp transitReleased)))) := by
    rw [List.range_succ_eq_map, List.foldl_cons]
    exact foldl_chaseTicks_of_idle _ (chaseTicks_counts idle up)
  unfold tick
  rw [rimDrain_of_idle ticked, rampsEnd_of_idle ticked, rebuildsGo_of_idle ticked]
  show 24 ≤ (kgetD (busesReturn (lapseSync _)).chases 0 Chase.reset).clk
  rw [busesReturn_chases, lapseSync_chases]
  exact ticked.clk

/-- Refutes O4: with every core rail OFF the transit logic of a released chase still runs (R31), so that a lamp cycle
moves its clock: after it chase 0 of `transitReleased` has counted 24 cycles. -/
theorem not_queueAndKeysUntouched : ¬ Obligations.QueueAndKeysUntouched := by
  unfold Obligations.QueueAndKeysUntouched
  rintro ⟨-, lampCycle⟩
  obtain ⟨t, run, -, -, -, -, frame⟩ := lampCycle transitReleased rfl rfl
  obtain rfl : tick transitReleased = t := Host.Outcome.next.inj run
  have dark : ∀ n, railOn transitReleased n = false ∧ rail transitReleased n ≠ Rail.ramping := fun n => by
    rw [railOn, rail_of_regs_nil rfl n]; decide
  obtain ⟨-, -, -, -, chases⟩ := frame dark
  have clk := tick_transitReleased_clk
  rw [getChase, chases] at clk
  exact absurd clk (by decide)

end Sys2Proof.Machine
end

section
/-! The vector unit's lane operations (R117 to R119): each writes one destination row, lane by lane, from its source
rows as their reads leave them (O8), the integer functions (O9) and the comparisons (O10). -/

namespace Sys2Proof.Machine

variable {s : State} {o : VOp} {op : Nat}

theorem vecBin_written (fmt : o.fmt ≠ .int32) (f : FVal → FVal → FVal) (ready : Ready s o.core op [o.a, o.b, o.dst]) :
    let u := atWork s (vopAt o) [o.a, o.b]
    RowWritten u (.next (vecBin s o op f)) o.core o.dst (laneRow o.fmt (List.zipWith
      (fun x y => (vshape o.fmt).encode (f ((vshape o.fmt).decodeIeee x) ((vshape o.fmt).decodeIeee y)))
      (rowLanes u o o.a) (rowLanes u o o.b))) (rowsPoisoned u o [o.a, o.b]) := by
  rw [vecBin, if_neg fmt]
  refine vecLanes_written s o op [o.a, o.b] _ ready fun ls len lanes => ?_
  obtain ⟨x, y, rfl⟩ := List.length_eq_two.1 len
  simp [lanes x (by simp), lanes y (by simp)]

theorem vecInt_written (fmt : o.fmt = .int32) (f : Nat → Nat → Nat) (ready : Ready s o.core op [o.a, o.b, o.dst]) :
    let u := atWork s (vopAt o) [o.a, o.b]
    RowWritten u (.next (vecInt s o op f)) o.core o.dst (laneRow .int32 (List.zipWith f (rowLanes u o o.a) (rowLanes u o o.b)))
      (rowsPoisoned u o [o.a, o.b]) := by
  intro u
  rw [vecInt, if_pos fmt, ← fmt]
  refine vecLanes_written s o op [o.a, o.b] (fun ls => List.zipWith f (ls.getD 0 []) (ls.getD 1 [])) ready fun ls len lanes => ?_
  obtain ⟨x, y, rfl⟩ := List.length_eq_two.1 len
  simp [lanes x (by simp), lanes y (by simp)]

/-- A function of each lane of one source row. -/
theorem vecLanes_map_written (f : Nat → Nat) (ready : Ready s o.core op [o.a, o.dst]) :
    let u := atWork s (vopAt o) [o.a]
    RowWritten u (.next (vecLanes s o op [o.a] (fun ls => (ls.headD []).map f))) o.core o.dst
      (laneRow o.fmt ((rowLanes u o o.a).map f)) (rowsPoisoned u o [o.a]) := by
  refine vecLanes_written s o op [o.a] _ ready fun ls len lanes => ?_
  obtain ⟨x, rfl⟩ := List.length_eq_one_iff.1 len
  simp [lanes x (by simp)]

theorem vecUn_written (fmt : o.fmt ≠ .int32) (f : FVal → FVal) (ready : Ready s o.core op [o.a, o.dst]) :
    let u := atWork s (vopAt o) [o.a]
    RowWritten u (.next (vecUn s o op f)) o.core o.dst (laneRow o.fmt ((rowLanes u o o.a).map
      (fun x => (vshape o.fmt).encode (f ((vshape o.fmt).decodeIeee x))))) (rowsPoisoned u o [o.a]) := by
  rw [vecUn, if_neg fmt]
  exact vecLanes_map_written _ ready

theorem vecF32_written (fmt : o.fmt = .f32) (f : Nat → Nat) (ready : Ready s o.core op [o.a, o.dst]) :
    let u := atWork s (vopAt o) [o.a]
    RowWritten u (.next (vecF32 s o op f)) o.core o.dst (laneRow .f32 ((rowLanes u o o.a).map f)) (rowsPoisoned u o [o.a]) := by
  intro u
  rw [vecF32, if_pos fmt, ← fmt]
  exact vecLanes_map_written f ready

/-- A function of the lanes of three source rows. -/
theorem vecLanes_zip3_written (f : Nat × Nat → Nat → Nat) (ready : Ready s o.core op [o.a, o.b, o.c, o.dst]) :
    let u := atWork s (vopAt o) [o.a, o.b, o.c]
    RowWritten u (.next (vecLanes s o op [o.a, o.b, o.c] (fun ls =>
        List.zipWith f ((ls.getD 0 []).zip (ls.getD 1 [])) (ls.getD 2 [])))) o.core o.dst
      (laneRow o.fmt (List.zipWith f (List.zip (rowLanes u o o.a) (rowLanes u o o.b)) (rowLanes u o o.c)))
      (rowsPoisoned u o [o.a, o.b, o.c]) := by
  refine vecLanes_written s o op [o.a, o.b, o.c] _ ready fun ls len lanes => ?_
  obtain ⟨x, y, z, rfl⟩ := List.length_eq_three.1 len
  simp [lanes x (by simp), lanes y (by simp), lanes z (by simp)]

/-! ### Floating lanes (R117 to R119) -/

theorem floatLanes_written (fmt : o.fmt ≠ .int32) :
    let dec := (vshape o.fmt).decodeIeee
    let enc := (vshape o.fmt).encode
    (∀ p ∈ [(Instr.add o, 0x001, FVal.add), (.subtract o, 0x002, FVal.sub), (.multiply o, 0x003, FVal.mul),
        (.min o, 0x005, FVal.min), (.max o, 0x006, FVal.max)],
      Ready s o.core (opCode 2 p.2.1) [o.a, o.b, o.dst] →
      let u := atWork s (vopAt o) [o.a, o.b]
      RowWritten u (exec p.1 s) o.core o.dst (laneRow o.fmt (List.zipWith (fun x y => enc (p.2.2 (dec x) (dec y)))
        (rowLanes u o o.a) (rowLanes u o o.b))) (rowsPoisoned u o [o.a, o.b])) ∧
    (∀ p ∈ [(Instr.abs o, 0x007, FVal.abs), (.negate o, 0x008, FVal.neg)],
      Ready s o.core (opCode 2 p.2.1) [o.a, o.dst] →
      let u := atWork s (vopAt o) [o.a]
      RowWritten u (exec p.1 s) o.core o.dst (laneRow o.fmt ((rowLanes u o o.a).map (fun x => enc (p.2.2 (dec x)))))
        (rowsPoisoned u o [o.a])) := by
  refine ⟨fun p hp ready => ?_, fun p hp ready => ?_⟩ <;> simp only [List.mem_cons, List.not_mem_nil, or_false] at hp
  · rcases hp with rfl | rfl | rfl | rfl | rfl <;> exact vecBin_written fmt _ ready
  · rcases hp with rfl | rfl <;> exact vecUn_written fmt _ ready

theorem fusedMultiplyAdd_written (fmt : o.fmt ≠ .int32) (ready : Ready s o.core (opCode 2 0x004) [o.a, o.b, o.c, o.dst]) :
    let dec := (vshape o.fmt).decodeIeee
    let u := atWork s (vopAt o) [o.a, o.b, o.c]
    RowWritten u (exec (.fusedMultiplyAdd o) s) o.core o.dst
      (laneRow o.fmt (List.zipWith (fun xy z => (vshape o.fmt).encode ((dec xy.1).fma (dec xy.2) (dec z)))
        (List.zip (rowLanes u o o.a) (rowLanes u o o.b)) (rowLanes u o o.c)))
      (rowsPoisoned u o [o.a, o.b, o.c]) := by
  intro dec u
  show RowWritten u (.next (if o.fmt = .int32 then s else _)) _ _ _ _
  rw [if_neg fmt]
  exact vecLanes_zip3_written _ ready

theorem passOp_moves (c : CoreRef) (s : State) :
    ∃ ls n, passOp s c = setCore s c { getCore s c with loops := ls, op := n } := ⟨_, _, rfl⟩

theorem passOp_parity (c : CoreRef) (s : State) : (getCore (passOp s c) c).parity = (getCore s c).parity := by
  rw [passOp, getCore_modCore]; rfl

theorem rowClean_passOp (c : CoreRef) (s : State) (r : VRow) : RowClean (passOp s c) c r ↔ RowClean s c r := by
  cases r <;> simp only [RowClean, passOp_parity]
  rfl

/-- Settles O8: every operation is `vecLanes` with its function, whose row `vecLanes_written` gives. -/
theorem vectorFloatLanes : Obligations.VectorFloatLanes := by
  unfold Obligations.VectorFloatLanes
  refine ⟨fun o s fmt => ?_, fun o s fmt => ?_, fun o rows s clean => ?_, passOp_moves⟩
  · obtain ⟨two, one⟩ := floatLanes_written (s := s) fmt
    exact ⟨two, one, fusedMultiplyAdd_written fmt⟩
  · intro u p hp ready
    simp only [List.mem_cons, List.not_mem_nil, or_false] at hp
    rcases hp with rfl | rfl | rfl | rfl | rfl | rfl | rfl | rfl | rfl | rfl <;> exact vecF32_written fmt _ ready
  · exact meetRows_clean _ _ _ _ fun r hr => (rowClean_passOp o.core s r).2 (clean r hr)

/-! ### Integer lanes (R117) -/

theorem integerLanes_written (fmt : o.fmt = .int32) :
    let u := atWork s (vopAt o) [o.a, o.b]
    (∀ p ∈ [(Instr.integerAdd o, 0x038, fun x y => (x + y) % 2 ^ 32), (.and o, 0x03A, fun x y => x &&& y),
        (.or o, 0x03B, fun x y => x ||| y), (.xor o, 0x03C, fun x y => x ^^^ y)],
      Ready s o.core (opCode 2 p.2.1) [o.a, o.b, o.dst] →
      RowWritten u (exec p.1 s) o.core o.dst (laneRow .int32 (List.zipWith p.2.2 (rowLanes u o o.a) (rowLanes u o o.b)))
        (rowsPoisoned u o [o.a, o.b])) ∧
    (Ready s o.core (opCode 2 0x039) [o.a, o.b, o.dst] → ∀ kind, RowWritten u (exec (.shift o kind) s) o.core o.dst
      (laneRow .int32 (List.zipWith (shiftLane kind) (rowLanes u o o.a) (rowLanes u o o.b))) (rowsPoisoned u o [o.a, o.b])) := by
  refine ⟨fun p hp ready => ?_, fun ready kind => vecInt_written fmt _ ready⟩
  simp only [List.mem_cons, List.not_mem_nil, or_false] at hp
  rcases hp with rfl | rfl | rfl | rfl <;> exact vecInt_written fmt _ ready

theorem shiftLane_arith_of_lt {x n : Nat} (hn : n < 32) (hx : x < 2 ^ 31) : shiftLane .arith x n = x / 2 ^ n := by
  have msb : (BitVec.ofNat 32 x).msb = false := by
    rw [BitVec.msb_eq_false_iff_two_mul_lt, BitVec.toNat_ofNat]; omega
  rw [shiftLane, if_neg (by omega)]
  show ((BitVec.ofNat 32 x).sshiftRight n).toNat = _
  rw [BitVec.sshiftRight_eq_of_msb_false msb, BitVec.toNat_ushiftRight, Nat.shiftRight_eq_div_pow, BitVec.toNat_ofNat,
    Nat.mod_eq_of_lt (by omega)]

theorem shiftLane_arith_of_le {x n : Nat} (hn : n < 32) (low : 2 ^ 31 ≤ x) (high : x < 2 ^ 32) :
    shiftLane .arith x n = 2 ^ 32 - 1 - (2 ^ 32 - 1 - x) / 2 ^ n := by
  have msb : (BitVec.ofNat 32 x).msb = true := by
    rw [BitVec.msb_eq_true_iff_two_mul_ge, BitVec.toNat_ofNat]; omega
  rw [shiftLane, if_neg (by omega)]
  show ((BitVec.ofNat 32 x).sshiftRight n).toNat = _
  rw [BitVec.sshiftRight_eq_of_msb_true msb, BitVec.toNat_not, BitVec.toNat_ushiftRight, Nat.shiftRight_eq_div_pow,
    BitVec.toNat_not, BitVec.toNat_ofNat, Nat.mod_eq_of_lt high]

theorem shiftLane_spec (x n : Nat) (hn : n < 32) :
    shiftLane .left x n = x * 2 ^ n % 2 ^ 32 ∧ shiftLane .right x n = x / 2 ^ n ∧
      (x < 2 ^ 31 → shiftLane .arith x n = x / 2 ^ n) ∧
      (2 ^ 31 ≤ x → x < 2 ^ 32 → shiftLane .arith x n = 2 ^ 32 - 1 - (2 ^ 32 - 1 - x) / 2 ^ n) :=
  ⟨if_neg (by omega), if_neg (by omega), shiftLane_arith_of_lt hn, shiftLane_arith_of_le hn⟩

/-- `v` is the largest entry of `l`, and `i` the lowest index at which it stands. -/
def FirstMax (l : List Nat) (i v : Nat) : Prop :=
  l[i]? = some v ∧ (∀ w ∈ l, w ≤ v) ∧ ∀ j, j < i → ∀ w, l[j]? = some w → w < v

theorem FirstMax.append_larger {l : List Nat} {i m x : Nat} (h : FirstMax l i m) (hx : m < x) :
    FirstMax (l ++ [x]) l.length x := by
  obtain ⟨-, top, -⟩ := h
  refine ⟨by simp, fun w hw => ?_, fun j hj w hw => ?_⟩
  · rcases List.mem_append.1 hw with hw | hw
    · exact (top w hw).trans hx.le
    · exact (List.mem_singleton.1 hw).le
  · rw [List.getElem?_append_left hj] at hw
    exact (top w (List.mem_of_getElem? hw)).trans_lt hx

theorem FirstMax.append_smaller {l : List Nat} {i m x : Nat} (h : FirstMax l i m) (hx : x ≤ m) : FirstMax (l ++ [x]) i m := by
  obtain ⟨here, top, first⟩ := h
  obtain ⟨inside, -⟩ := List.getElem?_eq_some_iff.1 here
  refine ⟨by rwa [List.getElem?_append_left inside], fun w hw => ?_, fun j hj w hw => ?_⟩
  · rcases List.mem_append.1 hw with hw | hw
    · exact top w hw
    · exact (List.mem_singleton.1 hw).trans_le hx
  · rw [List.getElem?_append_left (hj.trans inside)] at hw
    exact first j hj w hw

theorem signed32_of_lt {x : Nat} (hx : x < 2 ^ 31) : signed 32 x = x := by
  rw [signed, Nat.mod_eq_of_lt (hx.trans (by decide)), if_pos hx]

theorem laneLt_int32 {x y : Nat} (hx : x < 2 ^ 31) (hy : y < 2 ^ 31) : laneLt .int32 x y = decide (x < y) := by
  simp [laneLt, signed32_of_lt hx, signed32_of_lt hy]

theorem laneMax_int32 {x y : Nat} (hx : x < 2 ^ 31) (hy : y < 2 ^ 31) : laneMax .int32 x y = if x < y then y else x := by
  simp [laneMax, laneNan, laneLt_int32 hx hy]

/-- The scan for the largest lane, and the running maxima beside it, from the largest lane `m` of those before. -/
theorem argmaxAux_firstMax {xs pre : List Nat} {m best : Nat} (h : FirstMax pre best m) (small : ∀ v ∈ pre ++ xs, v < 2 ^ 31) :
    ∃ v, FirstMax (pre ++ xs) (argmaxAux .int32 m best pre.length xs) v ∧ (m :: runMax .int32 m xs).getLast? = some v := by
  induction xs generalizing pre m best with
  | nil => exact ⟨m, by simpa [argmaxAux] using h, rfl⟩
  | cons x xs ih =>
    have hm : m < 2 ^ 31 := small m (List.mem_append_left _ (List.mem_of_getElem? h.1))
    have hx : x < 2 ^ 31 := small x (by simp)
    have rest : ∀ v ∈ (pre ++ [x]) ++ xs, v < 2 ^ 31 := by simpa using small
    simp only [argmaxAux, runMax, laneLt_int32 hm hx, laneMax_int32 hm hx, decide_eq_true_eq, List.getLast?_cons_cons]
    by_cases larger : m < x
    · simpa [larger] using ih (h.append_larger larger) rest
    · simpa [larger] using ih (h.append_smaller (not_lt.1 larger)) rest

theorem argmaxOf_int32 (x : Nat) (xs : List Nat) (small : ∀ v ∈ x :: xs, v < 2 ^ 31) :
    ∃ v, FirstMax (x :: xs) (argmaxOf .int32 (x :: xs)) v ∧ (runMax .int32 x (x :: xs)).getLast? = some v := by
  have hx : x < 2 ^ 31 := small x List.mem_cons_self
  have alone : FirstMax [x] 0 x := ⟨rfl, by simp, fun j hj => absurd hj (Nat.not_lt_zero j)⟩
  obtain ⟨v, first, last⟩ := argmaxAux_firstMax (xs := xs) alone small
  refine ⟨v, ?_, ?_⟩
  · have free : (x :: xs).any (laneNan .int32) = false := by simp [laneNan]
    rw [argmaxOf, free]
    exact first
  · rwa [runMax, laneMax_int32 hx hx, if_neg (lt_irrefl x)]

/-- Settles O9: the integer operations are `vecLanes` (`vecInt_written`), and the scan keeps the first largest lane of
those it has seen (`argmaxAux_firstMax`). -/
theorem vectorIntegerLanes : Obligations.VectorIntegerLanes := by
  unfold Obligations.VectorIntegerLanes
  refine ⟨fun o s fmt => integerLanes_written fmt, shiftLane_spec, fun x xs small => ?_, fun o s => ⟨fun fmt c hc => ?_,
    fun fmt c hc => ?_, fun fmt c hc => ?_⟩⟩
  · obtain ⟨v, ⟨here, top, before⟩, last⟩ := argmaxOf_int32 x xs small
    exact ⟨v, here, top, before, last⟩
  all_goals simp only [List.mem_cons, List.not_mem_nil, or_false] at hc
  · rcases hc with rfl | rfl | rfl | rfl | rfl | rfl | rfl | rfl <;> exact congrArg _ (if_pos fmt)
  · rcases hc with rfl | rfl | rfl | rfl | rfl | rfl | rfl | rfl | rfl | rfl <;> exact congrArg _ (if_neg fmt)
  · rcases hc with rfl | rfl | rfl | rfl | rfl <;> exact congrArg _ (if_neg fmt)

/-! ### Comparisons, selection and conversion (R117, R119) -/

theorem compare_written (kind : CmpKind) (ready : Ready s o.core (opCode 2 0x030) [o.a, o.b, o.dst]) :
    let u := atWork s (vopAt o) [o.a, o.b]
    RowWritten u (exec (.compare o kind) s) o.core o.dst
      (laneRow o.fmt (List.zipWith (fun x y => maskLane o.fmt (match kind with
        | .lt => laneLt o.fmt x y
        | .le => laneLt o.fmt x y || laneEq o.fmt x y
        | .eq => laneEq o.fmt x y)) (rowLanes u o o.a) (rowLanes u o o.b))) (rowsPoisoned u o [o.a, o.b]) := by
  refine vecLanes_written s o (opCode 2 0x030) [o.a, o.b] _ ready fun ls len lanes => ?_
  obtain ⟨x, y, rfl⟩ := List.length_eq_two.1 len
  simp [lanes x (by simp), lanes y (by simp)]

theorem selectLane_maskLane (f : VFmt) (x y : Nat) :
    selectLane f x y (maskLane f true) = canonLane f x ∧
      selectLane f x y (maskLane f false) = canonLane f (if maskLane f false = maskLane f true then x else y) := by
  refine ⟨if_pos rfl, ?_⟩
  by_cases same : maskLane f false = maskLane f true <;> simp [selectLane, same]

theorem canonLane_spec (f : VFmt) (x : Nat) :
    (laneNan f x = false → canonLane f x = x) ∧ (laneNan f x = true → canonLane f x = (vshape f).canonicalNan) :=
  ⟨fun h => by rw [canonLane, h]; rfl, fun h => by rw [canonLane, h]; rfl⟩

theorem runMax_length (f : VFmt) (m : Nat) (xs : List Nat) : (runMax f m xs).length = xs.length := by
  induction xs generalizing m with
  | nil => rfl
  | cons x xs ih => simp [runMax, ih]

theorem runningMax_written (ready : Ready s o.core (opCode 2 0x032) [o.a, o.dst]) :
    let u := atWork s (vopAt o) [o.a]
    RowWritten u (exec (.runningMax o) s) o.core o.dst
      (laneRow o.fmt (runMax o.fmt ((rowLanes u o o.a).headD 0) (rowLanes u o o.a))) (rowsPoisoned u o [o.a]) := by
  intro u
  have h := vecLanes_written s o (opCode 2 0x032) [o.a] (fun ls => match ls.headD [] with
    | [] => []
    | x :: xs => runMax o.fmt x (x :: xs)) ready fun ls len lanes => by
      obtain ⟨x, rfl⟩ := List.length_eq_one_iff.1 len
      have := lanes x (by simp)
      cases x with
      | nil => exact this
      | cons y ys => exact (runMax_length ..).trans this
  have same : ∀ l : List Nat, (match l with
      | [] => []
      | x :: xs => runMax o.fmt x (x :: xs)) = runMax o.fmt (l.headD 0) l := by rintro (_ | ⟨x, xs⟩) <;> rfl
  rw [← same]
  exact h

/-- One source row, and bytes of its own in the destination. -/
theorem withRows_putRow_written (g : Row → List Byte) (len : ∀ r, 0 < (g r).length ∧ (g r).length ≤ 128)
    (ready : Ready s o.core op [o.a, o.dst]) :
    let u := atWork s (vopAt o) [o.a]
    RowWritten u (.next (withRows s (vopAt o) op [o.a] [o.dst] (fun s =>
        putRow s o.core o.dst (g (getRow s o.core o.a)) (getRow s o.core o.a).poison))) o.core o.dst
      (g (getRow u o.core o.a)) (rowsPoisoned u o [o.a]) := by
  intro u
  rw [withRows_ready (o := vopAt o) (srcs := [o.a]) (dsts := [o.dst]) _ ready]
  have poison : rowsPoisoned u o [o.a] = (getRow u o.core o.a).poison := by simp [rowsPoisoned]
  rw [poison]
  exact putRow_written u o.core o.dst _ _ (len _).1 (len _).2

theorem argmax_written (ready : Ready s o.core (opCode 2 0x033) [o.a, o.dst]) :
    let u := atWork s (vopAt o) [o.a]
    RowWritten u (exec (.argmax o) s) o.core o.dst (leBytes 4 (argmaxOf o.fmt (rowLanes u o o.a))) (rowsPoisoned u o [o.a]) :=
  withRows_putRow_written (fun r => leBytes 4 (argmaxOf o.fmt (lanesOf o.fmt r.bytes)))
    (fun _ => by simp [leBytes_length]) ready

theorem convert_written {src dst : Fmt} (given : convertible src dst = true)
    (ready : Ready s o.core (opCode 2 0x028) [o.a, o.dst]) :
    let u := atWork s (vopAt o) [o.a]
    RowWritten u (exec (.convert o src dst) s) o.core o.dst
      ((List.range (128 / Nat.max (fmtBytes src) (fmtBytes dst))).flatMap
        (fun i => leBytes (fmtBytes dst) (roundOut dst (elemAt src (getRow u o.core o.a).bytes i))))
      (rowsPoisoned u o [o.a]) := by
  intro u
  show RowWritten u (.next (if convertible src dst then _ else s)) _ _ _ _
  rw [if_pos given]
  refine withRows_putRow_written (fun r => (List.range (128 / Nat.max (fmtBytes src) (fmtBytes dst))).flatMap
    (fun i => leBytes (fmtBytes dst) (roundOut dst (elemAt src r.bytes i)))) (fun r => ?_) ready
  rw [flatMap_length_const _ (fmtBytes dst) (fun _ => leBytes_length _ _), List.length_range]
  cases src <;> cases dst <;> simp [fmtBytes]

/-- Settles O10: COMPARE, SELECT and RUNNING_MAX are lane by lane (`vecLanes_written`), ARGMAX and CONVERT write bytes
formed of one row (`withRows_putRow_written`). -/
theorem vectorComparisons : Obligations.VectorComparisons := by
  unfold Obligations.VectorComparisons
  intro o s
  refine ⟨fun ready kind => compare_written kind ready, fun ready => vecLanes_zip3_written _ ready, selectLane_maskLane o.fmt,
    canonLane_spec o.fmt, ⟨runningMax_written, argmax_written, fun src dst given ready => convert_written given ready⟩,
    fun src dst given => ?_⟩
  show Host.Outcome.next (if convertible src dst then _ else s) = _
  rw [given]
  rfl

end Sys2Proof.Machine
end

section
/-! QUANTISE and OUTLIER_TEST (R77, R78, R84 to R87): the block that QUANTISE writes, the token's set of outliers in rising
order of site and element, and the end of detection (O11). -/

namespace Sys2Proof.Machine

/-! ### QUANTISE -/

/-- What QUANTISE has noted when it writes its block: NUM_NAN and the layer's count where an element is not finite. -/
def quantiseNoted (u : State) (o : QuantOp) (xs : List FVal) : State :=
  if (quantiseBlock o.i4 xs).nan then
    countNum (raise u { coreItem u Err.NUM_NAN o.core [o.blockIndex] with stamp := some o.stamp.toNat })
      (chaseOf o.core) o.layer (fun x => { x with nans := bump x.nans (xs.countP (· == .nan)) })
  else u

theorem writeBlock_of_access {s : State} {c : CoreRef} {p : BlockPlace} (q : QBlock) (poison : Bool) (who : Who)
    (codes : CanAccess s c p.codes 16) (scale : CanAccess s c p.scale (1 + p.pad)) :
    writeBlock s c p q poison who = storeWrite (storeWrite s c p.codes (packNibbles q.codes) poison) c p.scale
      (leBytes 1 q.scale ++ List.replicate p.pad 0) poison := by
  rw [writeBlock, onAccess_ok _ _ codes, onAccess_ok _ _ scale]

theorem exec_quantise {o : QuantOp} {s : State} {p : BlockPlace} (block : blockOk o.fmt o.block = true)
    (ready : Ready s o.core (opCode 2 0x029) ([o.src] ++ if o.kv.isSome then [] else [.store o.dst, .store o.scaleDst])) :
    let u := atWork s ⟨o.core, o.stamp, o.instr⟩ [o.src]
    let r := getRow u o.core o.src
    let xs := blockVals o.fmt r.bytes o.block.val
    let q := quantiseBlock o.i4 xs
    let v := quantiseNoted u o xs
    blockPlace v o.core o.stamp o.dst o.scaleDst o.kv = some p → CanAccess v o.core p.codes 16 →
    CanAccess v o.core p.scale (1 + p.pad) →
    exec (.quantise o) s = .next (storeWrite (storeWrite v o.core p.codes (packNibbles q.codes) r.poison) o.core p.scale
      (leBytes 1 q.scale ++ List.replicate p.pad 0) r.poison) := by
  intro u r xs q v place codes scale
  show Host.Outcome.next (if blockOk o.fmt o.block then withRows s ⟨o.core, o.stamp, o.instr⟩ _ _ _ _ else s) = _
  rw [if_pos block, withRows_ready (o := ⟨o.core, o.stamp, o.instr⟩) _ ready]
  show Host.Outcome.next (match blockPlace v o.core o.stamp o.dst o.scaleDst o.kv with
    | some p => writeBlock v o.core p q r.poison (some (o.stamp, o.instr))
    | none => v) = _
  rw [place]
  exact congrArg _ (writeBlock_of_access q r.poison _ codes scale)

/-! ### The set of a token's outliers, in rising order of site and element (R86) -/

/-- The order of the outliers of a set (R86). -/
def OutlierBefore (x y : Outlier) : Prop := x.site < y.site ∨ (x.site = y.site ∧ x.elem < y.elem)

/-- Two outliers that do not stand at one site and element. -/
def OutlierApart (x y : Outlier) : Prop := x.site = y.site → x.elem ≠ y.elem

theorem self_mem_insertOutlier (x : Outlier) (l : List Outlier) : x ∈ insertOutlier x l := by
  induction l with
  | nil => simp [insertOutlier]
  | cons y ys ih => simp only [insertOutlier]; split_ifs <;> simp [ih]

theorem of_mem_insertOutlier {x z : Outlier} {l : List Outlier} (h : z ∈ insertOutlier x l) : z = x ∨ z ∈ l := by
  induction l with
  | nil => simpa [insertOutlier] using h
  | cons y ys ih =>
    simp only [insertOutlier] at h
    split_ifs at h
    · simpa using h
    · exact (List.mem_cons.1 h).imp_right (List.mem_cons_of_mem _)
    · rcases List.mem_cons.1 h with rfl | h
      · simp
      · exact (ih h).imp_right (List.mem_cons_of_mem _)

theorem mem_insertOutlier_of_mem {x z : Outlier} {l : List Outlier} (h : z ∈ l) (apart : OutlierApart x z) :
    z ∈ insertOutlier x l := by
  induction l with
  | nil => cases h
  | cons y ys ih =>
    simp only [insertOutlier]
    split_ifs with before same
    · exact List.mem_cons_of_mem _ h
    · rcases List.mem_cons.1 h with rfl | h
      · exact absurd same.2 (apart same.1)
      · exact List.mem_cons_of_mem _ h
    · rcases List.mem_cons.1 h with rfl | h
      · exact List.mem_cons_self
      · exact List.mem_cons_of_mem _ (ih h)

theorem insertOutlier_sorted {x : Outlier} {l : List Outlier} (sorted : l.Pairwise OutlierBefore) :
    (insertOutlier x l).Pairwise OutlierBefore := by
  induction l with
  | nil => simp [insertOutlier]
  | cons y ys ih =>
    obtain ⟨first, rest⟩ := List.pairwise_cons.1 sorted
    simp only [insertOutlier]
    split_ifs with before same
    · refine List.pairwise_cons.2 ⟨fun z hz => ?_, sorted⟩
      rcases List.mem_cons.1 hz with rfl | hz
      · exact before
      · have := first z hz
        simp only [OutlierBefore] at this ⊢; omega
    · refine List.pairwise_cons.2 ⟨fun z hz => ?_, rest⟩
      have := first z hz
      simp only [OutlierBefore] at this ⊢; omega
    · refine List.pairwise_cons.2 ⟨fun z hz => ?_, ih rest⟩
      rcases of_mem_insertOutlier hz with rfl | hz
      · simp only [OutlierBefore]; omega
      · exact first z hz

/-- The set with outliers `xs` put in, one after the other. -/
def insertOutliers (old xs : List Outlier) : List Outlier := xs.foldl (fun l x => insertOutlier x l) old

theorem of_mem_insertOutliers {z : Outlier} {old xs : List Outlier} (h : z ∈ insertOutliers old xs) : z ∈ xs ∨ z ∈ old := by
  induction xs generalizing old with
  | nil => exact .inr h
  | cons x xs ih =>
    rcases ih h with h | h
    · exact .inl (List.mem_cons_of_mem _ h)
    · rcases of_mem_insertOutlier h with rfl | h
      · exact .inl List.mem_cons_self
      · exact .inr h

theorem mem_insertOutliers_of_old {z : Outlier} {old xs : List Outlier} (h : z ∈ old) (apart : ∀ x ∈ xs, OutlierApart x z) :
    z ∈ insertOutliers old xs := by
  induction xs generalizing old with
  | nil => exact h
  | cons x xs ih =>
    exact ih (mem_insertOutlier_of_mem h (apart x List.mem_cons_self)) fun y hy => apart y (List.mem_cons_of_mem _ hy)

theorem mem_insertOutliers_of_new {z : Outlier} {old xs : List Outlier} (apart : xs.Pairwise fun x y => OutlierApart y x)
    (h : z ∈ xs) : z ∈ insertOutliers old xs := by
  induction xs generalizing old with
  | nil => cases h
  | cons x xs ih =>
    obtain ⟨first, rest⟩ := List.pairwise_cons.1 apart
    rcases List.mem_cons.1 h with rfl | h
    · exact mem_insertOutliers_of_old (old := insertOutlier z old) (self_mem_insertOutlier _ _) first
    · exact ih rest h

theorem insertOutliers_sorted {old xs : List Outlier} (sorted : old.Pairwise OutlierBefore) :
    (insertOutliers old xs).Pairwise OutlierBefore := by
  induction xs generalizing old with
  | nil => exact sorted
  | cons x xs ih => exact ih (insertOutlier_sorted sorted)

/-- What stands in the set of a token and layer when a detection goes on: a set whose detection has ended begins anew. -/
def openOutliers (s : State) (req pos layer : Nat) : List Outlier :=
  match outliersAt s req pos layer with
  | some x => if x.ended then [] else x.items
  | none => []

theorem outliersAt_addOutliers (s : State) (req pos layer : Nat) (xs : List Outlier) :
    outliersAt (addOutliers s req pos layer xs) req pos layer =
      some ⟨req, pos, layer, insertOutliers (openOutliers s req pos layer) xs, false⟩ := by
  unfold outliersAt addOutliers
  rw [List.find?_append, List.find?_eq_none.2 fun x hx =>
    Bool.eq_false_iff.1 (by simpa only [Bool.not_eq_true'] using (List.mem_filter.1 hx).2)]
  simp only [Option.none_or, List.find?_cons, beq_self_eq_true, Bool.and_self]
  rfl

/-- No element of a block is listed twice among its outliers. -/
theorem outliersOf_apart (t : Nat) (xs : List FVal) : (outliersOf t xs).Pairwise (fun p q => p.1 ≠ q.1) := by
  unfold outliersOf
  split_ifs
  · exact .nil
  · rw [List.pairwise_map]
    refine List.Pairwise.filter _ ?_
    have := List.nodup_range' (s := 0) (n := (xs.map FVal.rat).length)
    rw [← List.zipIdx_map_snd] at this
    exact List.pairwise_map.1 this

/-! ### OUTLIER_TEST -/

/-- The outliers of a block as OUTLIER_TEST takes them into the set. -/
def testOutliers (o : OutlierOp) (poison : Bool) (out : List (Nat × Rat)) : List Outlier :=
  out.map (fun p => ⟨o.site, o.first + p.1, FloatShape.b16.roundIeee false p.2, poison⟩)

theorem testOutliers_apart (o : OutlierOp) (poison : Bool) (t : Nat) (xs : List FVal) :
    (testOutliers o poison (outliersOf t xs)).Pairwise fun x y => OutlierApart y x := by
  refine List.pairwise_map.2 ((outliersOf_apart t xs).imp fun {p q} apart _ same => apart ?_)
  exact (Nat.add_left_cancel same).symm

/-- What OUTLIER_TEST does in the state `u` in which it works, before the end of detection. -/
def outlierTested (u : State) (o : OutlierOp) (layer : Nat) (site : Site) : State :=
  let r := getRow u o.core o.src
  let out := outliersOf site.threshold (blockVals o.fmt r.bytes o.block.val)
  let v := addOutliers u (stampReq o.stamp) (stampPos o.stamp) layer (testOutliers o r.poison out)
  if out = [] ∧ o.dst = o.src then v else putRow v o.core o.dst (laneRow o.fmt ((lanesOf o.fmt r.bytes).mapIdx
    (fun i x => if out.any (fun p => 32 * o.block.val + p.1 == i) then 0 else x))) r.poison

theorem exec_outlierTest {o : OutlierOp} {layer : Nat} {site : Site} {s : State} (block : blockOk o.fmt o.block = true)
    (writable : writableRow o.dst = true) (at_ : siteOf s o.core o.site = some (layer, site))
    (ready : Ready s o.core (opCode 2 0x040) [o.src, o.dst]) :
    exec (.outlierTest o) s =
      let t := outlierTested (atWork s ⟨o.core, o.stamp, o.instr⟩ [o.src]) o layer site
      .next (if o.last then endDetection t o (stampReq o.stamp) (stampPos o.stamp) layer else t) := by
  show Host.Outcome.next (match blockOk o.fmt o.block && writableRow o.dst, siteOf s o.core o.site with
    | true, some (layer, site) => withRows s ⟨o.core, o.stamp, o.instr⟩ _ _ _ _
    | _, _ => s) = _
  rw [block, writable, at_]
  exact congrArg _ (withRows_ready (o := ⟨o.core, o.stamp, o.instr⟩) (srcs := [o.src]) (dsts := [o.dst]) _ ready)

theorem putRow_outliers (s : State) (c : CoreRef) (d : VRow) (bs : List Byte) (p : Bool) :
    (putRow s c d bs p).outliers = s.outliers := by
  cases d <;> rfl

/-- A written row changes the cores and the stores alone. -/
theorem putRow_frame (s : State) (c : CoreRef) (d : VRow) (bs : List Byte) (p : Bool) :
    let t := putRow s c d bs p
    t = { s with cores := t.cores, mem := { s.mem with
      store := t.mem.store, errs := t.mem.errs, storePoison := t.mem.storePoison } } := by
  cases d <;> rfl

theorem outlierTested_outliers (u : State) (o : OutlierOp) (layer : Nat) (site : Site) :
    let r := getRow u o.core o.src
    outliersAt (outlierTested u o layer site) (stampReq o.stamp) (stampPos o.stamp) layer =
      some ⟨stampReq o.stamp, stampPos o.stamp, layer, insertOutliers (openOutliers u (stampReq o.stamp) (stampPos o.stamp) layer)
        (testOutliers o r.poison (outliersOf site.threshold (blockVals o.fmt r.bytes o.block.val))), false⟩ := by
  intro r
  rw [← outliersAt_addOutliers]
  simp only [outlierTested]
  split_ifs
  · rfl
  · unfold outliersAt
    rw [putRow_outliers]

theorem outlierTested_frame (u : State) (o : OutlierOp) (layer : Nat) (site : Site) :
    let t := outlierTested u o layer site
    t = { u with outliers := t.outliers, cores := t.cores, mem := { u.mem with
      store := t.mem.store, errs := t.mem.errs, storePoison := t.mem.storePoison } } := by
  intro t
  simp only [t, outlierTested]
  split_ifs
  · rfl
  · rw [putRow_frame]
    rfl

/-- A row that OUTLIER_TEST writes: its lanes with zeros in the outliers' places. -/
theorem outlierTested_row {u : State} {o : OutlierOp} (layer : Nat) {site : Site} (writable : writableRow o.dst = true) :
    let r := getRow u o.core o.src
    let out := outliersOf site.threshold (blockVals o.fmt r.bytes o.block.val)
    out ≠ [] ∨ o.dst ≠ o.src → (getRow (outlierTested u o layer site) o.core o.dst).bytes.take 128 =
      laneRow o.fmt ((lanesOf o.fmt r.bytes).mapIdx
        (fun i x => if out.any (fun p => 32 * o.block.val + p.1 == i) then 0 else x)) := by
  intro r out written
  have len : (laneRow o.fmt ((lanesOf o.fmt r.bytes).mapIdx
      (fun i x => if out.any (fun p => 32 * o.block.val + p.1 == i) then 0 else x))).length = 128 := by
    rw [laneRow_length, List.length_mapIdx, lanesOf_length]
    cases o.fmt <;> rfl
  rw [outlierTested, if_neg (by tauto)]
  obtain ⟨t, same, row, -⟩ := putRow_written (addOutliers u (stampReq o.stamp) (stampPos o.stamp) layer
    (testOutliers o r.poison out)) o.core o.dst _ r.poison (by rw [len]; decide) len.le
  obtain rfl := Host.Outcome.next.inj same
  rw [len] at row
  refine (row fun i h => ?_).1
  rw [h] at writable
  cases writable

/-! ### The end of detection (R86, R87) -/

theorem reqSlip_mem (s : State) (c : CoreRef) (source len : Nat) : (reqSlip s c source len).mem = s.mem := by
  simp [reqSlip, reqSlipAt, noteSlip]

theorem reqSlip_outliers (s : State) (c : CoreRef) (source len : Nat) : (reqSlip s c source len).outliers = s.outliers := by
  simp [reqSlip, reqSlipAt, noteSlip, setChase]

/-- The state with the set's detection ended. -/
def detectionEnded (s : State) (x : OutlierSet) : State :=
  { s with outliers := s.outliers.map (fun y => if y = x then { y with ended := true } else y) }

theorem endDetection_eq {s : State} {o : OutlierOp} {req pos layer : Nat} {x : OutlierSet} {f : Nat × Forme × Placed}
    (set : outliersAt s req pos layer = some x) (part : partOfCore s o.core = some f) :
    endDetection s o req pos layer = if x.extra = 0 then detectionEnded s x else
      countNum ((passCores f.2.1 layer).foldl (fun s y => reqSlip s y.1 Src.outlierPass (y.2 * x.extra)) (detectionEnded s x))
        (chaseOf o.core) layer (fun y => { y with passes := bump y.passes x.extra, tokens := bump y.tokens 1 }) := by
  unfold endDetection
  rw [set, part]
  rfl

theorem countNum_mem (s : State) (n layer : Nat) (f : NumCnt → NumCnt) : (countNum s n layer f).mem = s.mem := rfl
theorem countNum_outliers (s : State) (n layer : Nat) (f : NumCnt → NumCnt) :
    (countNum s n layer f).outliers = s.outliers := rfl

/-- A layer's count that was raised stands in its chase. -/
theorem countNum_counts (s : State) (n layer : Nat) (f : NumCnt → NumCnt) :
    ∃ v, (layer, f v) ∈ (getChase (countNum s n layer f) n).counts := by
  refine ⟨kgetD (getChase s n).counts layer ⟨0, 0, 0, 0, 0⟩, ?_⟩
  rw [countNum, modChase, getChase_setChase]
  exact mem_kset_self _ _ _

theorem endDetection_spec {s : State} {o : OutlierOp} {req pos layer : Nat} {x : OutlierSet} {f : Nat × Forme × Placed}
    (set : outliersAt s req pos layer = some x) (part : partOfCore s o.core = some f) :
    let u := detectionEnded s x
    (x.items.length ≤ 64 → endDetection s o req pos layer = u) ∧
    (64 < x.items.length → let t := endDetection s o req pos layer
      ((getChase t (chaseOf o.core)).counts.any (fun y => y.1 == layer && decide (1 ≤ y.2.passes))) = true ∧ t.mem = s.mem ∧
        t.outliers = u.outliers) := by
  have extra : x.extra = (x.items.length - 64 + 63) / 64 := rfl
  rw [endDetection_eq set part]
  refine ⟨fun few => if_pos (by omega), fun many => ?_⟩
  rw [if_neg (by omega)]
  refine ⟨?_, ?_, ?_⟩
  · obtain ⟨v, counted⟩ := countNum_counts ((passCores f.2.1 layer).foldl
      (fun s y => reqSlip s y.1 Src.outlierPass (y.2 * x.extra)) (detectionEnded s x)) (chaseOf o.core) layer
      (fun y => { y with passes := bump y.passes x.extra, tokens := bump y.tokens 1 })
    refine List.any_eq_true.2 ⟨_, counted, ?_⟩
    have : 1 ≤ bump v.passes x.extra := by rw [bump, extra]; omega
    simpa using this
  · rw [countNum_mem, foldl_frame State.mem]
    · rfl
    · exact fun s y => reqSlip_mem s y.1 _ _
  · rw [countNum_outliers, foldl_frame State.outliers]
    exact fun s y => reqSlip_outliers s y.1 _ _

/-- Settles O11: QUANTISE by `exec_quantise`; the set of OUTLIER_TEST by `outliersAt_addOutliers` and the laws of
`insertOutliers`, its row by `outlierTested_row`; the end of detection by `endDetection_spec`. -/
theorem quantiseAndOutlierTest : Obligations.QuantiseAndOutlierTest := by
  unfold Obligations.QuantiseAndOutlierTest
  refine ⟨fun o s p block ready => exec_quantise block ready, fun o layer site s block writable at_ ready notLast => ?_,
    fun o req pos layer x f s set part => endDetection_spec set part⟩
  intro u r out xs old lt
  have run := exec_outlierTest block writable at_ ready
  simp only [notLast, Bool.false_eq_true, if_false] at run
  refine ⟨⟨_, run, ⟨_, outlierTested_outliers u o layer site, rfl, fun x hx => ?_, fun x hx apart => ?_, fun x hx => ?_,
    fun sorted => insertOutliers_sorted sorted⟩, fun none_ same => ?_, outlierTested_row layer writable,
    outlierTested_frame u o layer site⟩, fun t ht => ?_⟩
  · exact mem_insertOutliers_of_new (testOutliers_apart ..) hx
  · exact mem_insertOutliers_of_old hx apart
  · exact of_mem_insertOutliers hx
  · simp only [outlierTested]
    rw [if_pos ⟨none_, same⟩]
    rfl
  · obtain rfl := Host.Outcome.next.inj (run.symm.trans ht)
    exact exec_outlierTest (o := { o with last := true }) block writable at_ ready

end Sys2Proof.Machine
end

section
/-! The press (R55 to R58, R86, R107 to R115): FEED with the row that `feedRow` gives, LATCH, FILE_LOAD and
OUTLIER_GATHER (O12). -/

namespace Sys2Proof.Machine

/-! ### FEED -/

/-- The operation with its rows read dense where the tile is a private expert's (R270). -/
def densePrivate (o : FeedOp) (s : State) : FeedOp := { o with sparse := o.sparse && !privateTile s o.core (rowAt o.tile) }

theorem exec_feed_of_coldWaits {o : FeedOp} {s : State} (waits : coldWaits s o.core (rowAt o.tile) o.stamp = true) :
    exec (.feed o) s = .next s := by
  show execFeed o s = _
  simp only [execFeed, waits, Bool.not_true, Bool.and_false, Bool.false_eq_true, if_false]

theorem exec_feed_of_none {o : FeedOp} {s s1 : State} (ready : runs s o.core (opCode 1 1) = true)
    (accepted : pairAccepted o.held o.fed = true) (waits : coldWaits s o.core (rowAt o.tile) o.stamp = false)
    (row : feedRow (passOp s o.core) (densePrivate o s) = (s1, none)) : exec (.feed o) s = .next s1 := by
  show execFeed o s = _
  simp only [densePrivate] at row
  simp only [execFeed, accepted, waits, Bool.not_false, Bool.and_self, if_true, asOp_runs _ ready, row]

theorem exec_feed_of_row {o : FeedOp} {s s1 : State} {l : Latch} (ready : runs s o.core (opCode 1 1) = true)
    (accepted : pairAccepted o.held o.fed = true) (waits : coldWaits s o.core (rowAt o.tile) o.stamp = false) :
    let p := densePrivate o s
    feedRow (passOp s o.core) p = (s1, some l) →
    let xs := fedElems o.fed p.sparse l.row.bytes l.meta_
    let n := (xs.length + heldPerRow o.held - 1) / heldPerRow o.held
    let s2 := meetFile s1 o.core 1 ((List.range n).flatMap (fun j => [(o.file + j) % 32, 32 + (o.file + j) % 32]))
    let ys := heldElems (getCore s2 o.core) o.held o.file n
    let hs := if meetsTile s2 o.core (rowAt o.tile) o.expert o.stamp then ys.1.take xs.length
      else List.replicate xs.length .skip
    let t := meetTerms o.fed o.held xs hs
    let a := ((getAcc s2 o.core o.acc.val).begin_ (feedA0 s2 p) o.element).addTerms t
    exec (.feed o) s = .next (modCore s2 o.core (fun k => { k with
      accs := kset k.accs o.acc.val { a with poison := a.poison || l.row.poison || ys.2 }
      cntPress := bump k.cntPress (pressCycles o.held o.fed xs hs)
      cntZeroSkip := bump k.cntZeroSkip t.skips })) := by
  intro p row
  show execFeed o s = _
  simp only [p, densePrivate] at row
  simp only [execFeed, accepted, waits, Bool.not_false, Bool.and_self, if_true, asOp_runs _ ready, row, setAcc, modCore_modCore]
  rfl

/-! ### The row that FEED meets -/

theorem tileRead_of_access {s : State} {c : CoreRef} {fmt : Fmt} {sparse : Bool} {tile d : Nat} (stamp : Word64) (instr : Nat)
    (row : CanAccess s c (tileRow fmt sparse tile d) 128)
    (meta_ : CanAccess s c (tileMeta fmt sparse tile d) (metaBytes fmt sparse)) :
    let a := tileRow fmt sparse tile d
    let b := tileMeta fmt sparse tile d
    let n := metaBytes fmt sparse
    let u := meetWide (meetRow s c a (some (stamp, instr))) c b n (some (stamp, instr))
    tileRead s c fmt sparse tile d stamp instr =
      (u, some (⟨storeRead u c a 128, storePoisoned u c a 128 || storePoisoned u c b n⟩, storeRead u c b n)) := by
  simp only [CanAccess] at row meta_
  simp only [tileRead, row, meta_]
  rfl

theorem feedRow_of_access {s : State} {o : FeedOp} (unlatched : o.latched = false)
    (row : CanAccess s o.core (tileRow o.fed o.sparse o.tile o.dataRow) 128)
    (meta_ : CanAccess s o.core (tileMeta o.fed o.sparse o.tile o.dataRow) (metaBytes o.fed o.sparse)) :
    let a := tileRow o.fed o.sparse o.tile o.dataRow
    let b := tileMeta o.fed o.sparse o.tile o.dataRow
    let n := metaBytes o.fed o.sparse
    let u := meetWide (meetRow s o.core a (some (o.stamp, o.instr))) o.core b n (some (o.stamp, o.instr))
    let l : Latch := ⟨⟨storeRead u o.core a 128, storePoisoned u o.core a 128 || storePoisoned u o.core b n⟩,
      storeRead u o.core b n, 0, false⟩
    feedRow s o = (modCore u o.core (fun k => { k with latch := some l }), some l) := by
  simp only [feedRow, unlatched, Bool.false_eq_true, if_false, tileRead_of_access o.stamp o.instr row meta_]

theorem feedRow_of_latched {s : State} {o : FeedOp} {l : Latch} (latched : o.latched = true)
    (held : (getCore s o.core).latch = some l) :
    feedRow s o = if 0 < l.left then (modCore s o.core (fun k => { k with latch := some { l with left := l.left - 1 } }), some l)
      else (s, none) := by
  simp only [feedRow, latched, if_true, held]

theorem feedRow_of_rowFault {s : State} {o : FeedOp} {code : Nat} (unlatched : o.latched = false)
    (fault : accessFault s o.core (tileRow o.fed o.sparse o.tile o.dataRow) 128 = some code) :
    feedRow s o = (raise s ((accessItem s o.core code (tileRow o.fed o.sparse o.tile o.dataRow)).at_ o.stamp o.instr), none) := by
  simp only [feedRow, unlatched, Bool.false_eq_true, if_false, tileRead, fault]

theorem feedRow_of_metaFault {s : State} {o : FeedOp} {code : Nat} (unlatched : o.latched = false)
    (row : CanAccess s o.core (tileRow o.fed o.sparse o.tile o.dataRow) 128)
    (fault : accessFault s o.core (tileMeta o.fed o.sparse o.tile o.dataRow) (metaBytes o.fed o.sparse) = some code) :
    feedRow s o = (raise s ((accessItem s o.core code (tileMeta o.fed o.sparse o.tile o.dataRow)).at_ o.stamp o.instr), none) := by
  simp only [CanAccess] at row
  simp only [feedRow, unlatched, Bool.false_eq_true, if_false, tileRead, row, fault]

/-! ### LATCH and FILE_LOAD -/

theorem exec_latch {c : CoreRef} {s : State} (n : Nat) (ready : runs s c (opCode 1 2) = true) :
    exec (.latch c n) s = .next (modCore (passOp s c) c (fun k => { k with
      latch := k.latch.map (fun l => if l.kept then l else { l with left := min n 16 - 1, kept := true }) })) :=
  congrArg _ (asOp_runs _ ready)

/-- The core with eight parts of 16 bytes of a row in eight side entries from `row` up. -/
def sideLoaded (k : Core) (row : Fin 32) (r : Row) : Core :=
  { k with side := (List.range 8).foldl (fun m i =>
      kset m ((row.val + i) % 32) ⟨slice r.bytes (16 * i) 16, r.poison⟩) k.side }.fresh 1
    ((List.range 8).map (fun i => 32 + (row.val + i) % 32))

theorem exec_fileLoad {o : OpAt} {a : Nat} {s : State} (side : Bool) (row : Fin 32) (ready : runs s o.core (opCode 1 3) = true)
    (access : CanAccess s o.core (rowAt a) 128) :
    let c := o.core
    let u := meetRow (passOp s c) c (rowAt a) (some (o.stamp, o.instr))
    exec (.fileLoad o a side row) s = .next (if side then modCore u c (fun k => sideLoaded k row (readRow u c (rowAt a)))
      else modCore u c (fun k => { k with file := kset k.file row.val (readRow u c (rowAt a)) }.fresh 1 [row.val])) := by
  show execFileLoad o a side row s = _
  have access' : CanAccess (passOp s o.core) o.core (rowAt a) 128 := access
  simp only [execFileLoad, asOp_runs _ ready, onAccess_ok _ _ access']
  rfl

theorem sideLoaded_side (k : Core) (row : Fin 32) (r : Row) :
    (∀ i < 8, kget? (sideLoaded k row r).side ((row.val + i) % 32) = some ⟨slice r.bytes (16 * i) 16, r.poison⟩) ∧
      AgreeBut k.side (sideLoaded k row r).side ((List.range 8).map (fun i => (row.val + i) % 32)) := by
  refine ⟨fun i hi => ?_, agreeBut_foldl_kset (key := fun i => (row.val + i) % 32) _ (agreeBut_refl _ _) fun i hi =>
    List.mem_map_of_mem hi⟩
  refine kget?_foldl_kset (key := fun i => (row.val + i) % 32) (List.mem_range.2 hi) (fun x hx same => ?_)
    (fun i => (⟨slice r.bytes (16 * i) 16, r.poison⟩ : Row)) _
  have := List.mem_range.1 hx
  omega

theorem sideLoaded_eq (k : Core) (row : Fin 32) (r : Row) :
    sideLoaded k row r = { k with side := (sideLoaded k row r).side }.fresh 1
      ((List.range 8).map (fun i => 32 + (row.val + i) % 32)) := rfl

theorem exec_fileLoad_side {o : OpAt} {a : Nat} {row : Fin 32} {s : State} (ready : runs s o.core (opCode 1 3) = true)
    (access : CanAccess s o.core (rowAt a) 128) :
    let c := o.core
    let u := meetRow (passOp s c) c (rowAt a) (some (o.stamp, o.instr))
    Gives (.fileLoad o a true row) s fun t =>
      (∀ i < 8, kget? (getCore t c).side ((row.val + i) % 32) =
        some ⟨slice (storeRead u c (rowAt a) 128) (16 * i) 16, storePoisoned u c (rowAt a) 128⟩) ∧
      AgreeBut (getCore u c).side (getCore t c).side ((List.range 8).map (fun i => (row.val + i) % 32)) ∧
      t = setCore u c ({ getCore u c with side := (getCore t c).side }.fresh 1
        ((List.range 8).map (fun i => 32 + (row.val + i) % 32))) := by
  intro c u
  have run : exec (.fileLoad o a true row) s = .next (modCore u c (fun k => sideLoaded k row (readRow u c (rowAt a)))) :=
    exec_fileLoad true row ready access
  refine ⟨_, run, ?_⟩
  simp only [getCore_modCore]
  obtain ⟨parts, others⟩ := sideLoaded_side (getCore u c) row (readRow u c (rowAt a))
  exact ⟨parts, others, congrArg (setCore u c) (sideLoaded_eq ..)⟩

/-! ### OUTLIER_GATHER -/

section gather
variable {o : GatherOp} {s u : State} {row : Row} {meta_ : List Byte}
  (ready : (if o.pass = 0 then runs s o.core (opCode 1 7) else deferring s o.core) = true)
  (accepted : gatherable o.fed = true)
  (read : tileRead (if o.pass = 0 then passOp s o.core else s) o.core o.fed o.sparse o.tile o.dataRow o.stamp o.instr =
    (u, some (row, meta_)))
include ready accepted read

theorem exec_outlierGather_of_none (nothing : hitsOf u o (fedElems o.fed o.sparse row.bytes meta_).length = []) :
    exec (.outlierGather o) s = .next u := by
  show execOutlierGather o s = _
  simp only [execOutlierGather, ready, accepted, Bool.and_self, if_true, read, nothing]

theorem exec_outlierGather_of_hits :
    let xs := fedElems o.fed o.sparse row.bytes meta_
    let hit := hitsOf u o xs.length
    let pairs := hit.map (fun x => (elemOf (b16 x.val), xs.getD (x.elem - o.first) .skip))
    let t := (pairs.map (fun p => productTerm p.1 p.2)).foldl Terms.append ⟨[], false, 0, 0⟩
    let a := ((getAcc u o.core o.acc.val).begin_ (startA0 u o.core o.tensor o.element o.anchor) o.element).addTerms
      { t with positions := 0 }
    hit ≠ [] → exec (.outlierGather o) s = .next (modCore u o.core (fun k => { k with
      accs := kset k.accs o.acc.val { a with poison := a.poison || row.poison || hit.any Outlier.poison }
      gather := pairs.filterMap (fun p => match p.2 with | .val q => some q | _ => none)
      cntPress := bump k.cntPress ((hit.length + 31) / 32) })) := by
  intro xs hit pairs t a some_
  show execOutlierGather o s = _
  simp only [execOutlierGather, ready, accepted, Bool.and_self, if_true, read, setAcc, modCore_modCore]
  exact congrArg _ (if_neg some_)

end gather

theorem mem_hitsOf {o : GatherOp} {x : OutlierSet} {s : State} (n : Nat)
    (set : outliersAt s (stampReq o.stamp) (stampPos o.stamp) (stampLayer o.stamp) = some x) (y : Outlier) :
    y ∈ hitsOf s o n ↔ y ∈ (x.items.drop (64 * o.pass)).take 64 ∧ y.site = o.site ∧ o.first ≤ y.elem ∧ y.elem < o.first + n := by
  simp only [hitsOf, set, List.mem_filter, Bool.and_eq_true, beq_iff_eq, decide_eq_true_eq]
  rfl

/-- Settles O12: each operation's equation by the row it meets (`feedRow`, `tileRead`). -/
theorem pressFeeds : Obligations.PressFeeds := by
  unfold Obligations.PressFeeds
  refine ⟨fun o s s1 ready accepted => ?_, fun o s => ?_, fun c n s ready => exec_latch n ready, fun o a row s ready access => ?_,
    fun o s u row meta_ ready accepted read => ?_, fun o x n s set => mem_hitsOf n set⟩
  · exact ⟨exec_feed_of_coldWaits, exec_feed_of_none ready accepted, fun l waits => exec_feed_of_row ready accepted waits⟩
  · exact ⟨feedRow_of_access, fun l => feedRow_of_latched, fun code => feedRow_of_rowFault, fun code => feedRow_of_metaFault⟩
  · exact ⟨exec_fileLoad false row ready access, exec_fileLoad_side ready access⟩
  · exact ⟨exec_outlierGather_of_none ready accepted read, exec_outlierGather_of_hits ready accepted read⟩

end Sys2Proof.Machine
end

section
/-! The close of an exact sum (R64 to R77, R190): contributor, owner and unsplit element (O13); long partials and
RE_ANCHOR at their cores (R68 to R72, O15). -/

namespace Sys2Proof.Machine

/-! ### The figures of an element's reduction record (R190) -/

theorem boundClose_of_none {s : State} {o : CloseOp} (none_ : recordOf s o.core o.tensor (getAcc s o.core o.acc.val).element = none) :
    boundClose s o = o := by
  rw [boundClose, none_]

theorem boundClose_of_record {s : State} {o : CloseOp} {f : Forme} {d : Placed} {r : Redn}
    (record : recordOf s o.core o.tensor (getAcc s o.core o.acc.val).element = some (f, d, r)) :
    boundClose s o = { o with split := r.flags % 2 == 1, owner := ownerOf (f, d, r) o.core, terms := r.terms, layer := d.layer
                              recomputeLen := r.recomputeLen } := by
  rw [boundClose, record]

theorem boundClose_core (s : State) (o : CloseOp) : (boundClose s o).core = o.core := by
  unfold boundClose; split <;> rfl

theorem recordOf_passOp (s : State) (c d : CoreRef) (tensor element : Nat) :
    recordOf (passOp s c) d tensor element = recordOf s d tensor element := rfl

theorem boundClose_passOp (s : State) (o : CloseOp) : boundClose (passOp s o.core) o = boundClose s o := by
  unfold boundClose
  rw [getAcc_passOp, recordOf_passOp]

/-! ### CLOSE -/

theorem exec_close_sum {o : CloseOp} {s : State} (ready : runs s o.core (opCode 1 4) = true) (role : o.role = .sum) :
    exec (.close o) s = .next (closeSum (if closeWaits s (boundClose s o) then s else passOp s o.core) (boundClose s o)) := by
  show execClose o s = _
  simp only [execClose, ready, role, if_true, true_and, boundClose_passOp]
  split_ifs <;> rfl

/-- Where a sum's close does not wait, its core goes on. -/
theorem exec_close_sum_passes {o : CloseOp} {s : State} (ready : runs s o.core (opCode 1 4) = true) (role : o.role = .sum)
    (goesOn : closeWaits s (boundClose s o) = false) :
    exec (.close o) s = .next (closeSum (passOp s o.core) (boundClose s o)) := by
  rw [exec_close_sum ready role, goesOn]
  rfl

theorem exec_close_sum_waits {o : CloseOp} {s : State} (ready : runs s o.core (opCode 1 4) = true) (role : o.role = .sum)
    (waits : closeWaits s (boundClose s o) = true) : exec (.close o) s = .next (closeSum s (boundClose s o)) := by
  rw [exec_close_sum ready role, waits]
  rfl

theorem closeWaits_of_not_closable {s : State} {b : CloseOp} (out : closable b.out = false) : closeWaits s b = false := by
  simp [closeWaits, out]

theorem closeWaits_of_not_owner {s : State} {b : CloseOp} (h : b.split = false ∨ b.owner ≠ b.core) : closeWaits s b = false := by
  rcases h with h | h <;> simp [closeWaits, h]

theorem closeSum_of_not_closable {s : State} {b : CloseOp} (out : closable b.out = false) : closeSum s b = s := by
  simp [closeSum, out]

theorem closeSum_unsplit {s : State} {b : CloseOp} (out : closable b.out = true) (unsplit : b.split = false) :
    closeSum s b = writeClosed (settleAccs s b (closeAccs b)).1 b (settleAccs s b (closeAccs b)).2 := by
  simp [closeSum, out, unsplit]

theorem closeAccs_one {b : CloseOp} (one : b.out ≠ .n4 ∧ b.out ≠ .i4) : closeAccs b = [b.acc.val] := by
  simp [closeAccs, one]

theorem closeSum_contributor {s : State} {b : CloseOp} (out : closable b.out = true) (one : b.out ≠ .n4 ∧ b.out ≠ .i4)
    (split_ : b.split = true) (other : b.owner ≠ b.core) :
    let a := getAcc s b.core b.acc.val
    closeSum s b = clearAcc (retain (sendPartial s b.core b.owner a b.stamp) b.core b.stamp b.tensor a) b.core b.acc.val := by
  simp [closeSum, out, split_, other, closeAccs_one one]

theorem closeSum_owner {s : State} {b : CloseOp} (out : closable b.out = true) (split_ : b.split = true) (own : b.owner = b.core) :
    closeSum s b = closeOwner s b := by
  simp [closeSum, out, split_, own]

/-- A partial of some accumulator of the close is still to come (R69). -/
def partialsDue (s : State) (b : CloseOp) : Bool :=
  (closeAccs b).any (fun i => let a := getAcc s b.core i
    decide (a.partials < expected s b.core b.tensor a.element b.contributors))

theorem closeOwner_of_due {s : State} {b : CloseOp} (due : partialsDue s b = true) : closeOwner s b = s := by
  unfold partialsDue at due
  rw [closeOwner, if_pos due]

theorem closeWaits_of_due {s : State} {b : CloseOp} (out : closable b.out = true) (split_ : b.split = true)
    (own : b.owner = b.core) (due : partialsDue s b = true) : closeWaits s b = true := by
  unfold partialsDue at due
  simp only [closeWaits, split_, own, out, due, Bool.true_or, decide_true, Bool.and_self]

section owner
variable {s : State} {b : CloseOp} (one : b.out ≠ .n4 ∧ b.out ≠ .i4)
  (all : expected s b.core b.tensor (getAcc s b.core b.acc.val).element b.contributors ≤ (getAcc s b.core b.acc.val).partials)
include one all

theorem closeWaits_one (out : closable b.out = true) (split_ : b.split = true) (own : b.owner = b.core) :
    closeWaits s b = ((getAcc s b.core b.acc.val).terms == b.terms && ((getAcc s b.core b.acc.val).overflows
      && decide ((getAcc s b.core b.acc.val).recomputes < 3))) := by
  simp [closeWaits, closeAccs_one one, out, split_, own, Nat.not_lt.2 all]

theorem closeOwner_mismatch (differ : (getAcc s b.core b.acc.val).terms ≠ b.terms) :
    closeOwner s b = mismatch s b.core b.stamp (getAcc s b.core b.acc.val).element b.terms (getAcc s b.core b.acc.val).terms := by
  simp [closeOwner, closeAccs_one one, Nat.not_lt.2 all, differ]

theorem closeOwner_reAnchor (same : (getAcc s b.core b.acc.val).terms = b.terms)
    (ovf : (getAcc s b.core b.acc.val).overflows = true) (left : (getAcc s b.core b.acc.val).recomputes < 3) :
    closeOwner s b = ownerReAnchor s b.core b.contributors b.stamp b.layer b.recomputeLen b.acc.val (getAcc s b.core b.acc.val) := by
  simp [closeOwner, closeAccs_one one, Nat.not_lt.2 all, same, ovf, left]

theorem closeOwner_settles (same : (getAcc s b.core b.acc.val).terms = b.terms)
    (fits : (getAcc s b.core b.acc.val).overflows = false ∨ 3 ≤ (getAcc s b.core b.acc.val).recomputes) :
    closeOwner s b = writeClosed (settleAccs s b [b.acc.val]).1 b (settleAccs s b [b.acc.val]).2 := by
  have settled : ((getAcc s b.core b.acc.val).overflows && decide ((getAcc s b.core b.acc.val).recomputes < 3)) = false := by
    rcases fits with h | h
    · simp [h]
    · simp [Nat.not_lt.2 h]
  simp [closeOwner, closeAccs_one one, Nat.not_lt.2 all, same, settled]

end owner

/-! ### An unsplit element that settles -/

/-- The state in which an unsplit element's value is written: its recomputes have slipped and are counted, its
accumulator is clear. -/
def settledState (p : State) (b : CloseOp) (a : Acc) : State :=
  let r := a.closed.1
  let n := r.recomputes - a.recomputes
  clearAcc (countNum (recomputeSlips p b.core b.recomputeLen n) (chaseOf b.core) b.layer (fun x => { x with
    recomputes := bump x.recomputes n
    exhausted := bump x.exhausted 0
    nans := bump x.nans (if r.nan then 1 else 0) })) b.core b.acc.val

theorem settleAccs_unsplit {p : State} {b : CloseOp} (unsplit : b.split = false)
    (settles : (getAcc p b.core b.acc.val).closed.2 = false) :
    settleAccs p b [b.acc.val] = (settledState p b (getAcc p b.core b.acc.val), [(getAcc p b.core b.acc.val).closed.1]) := by
  simp [settleAccs, settleAcc, unsplit, settles, settledState]

theorem writeClosed_one {u : State} {b : CloseOp} {r : Acc} (one : b.out ≠ .n4 ∧ b.out ≠ .i4)
    (access : CanAccess u b.core (b.dst / fmtBytes b.out * fmtBytes b.out) (fmtBytes b.out)) :
    writeClosed u b [r] = storeWrite u b.core (b.dst / fmtBytes b.out * fmtBytes b.out)
      (leBytes (fmtBytes b.out) (roundOut b.out (r.scaled b.scales[0]?))) r.poison := by
  simp [writeClosed, one, onAccess_ok _ _ access]

/-! ### The roles of a CLOSE, as `exec` answers them -/

section exec
variable {o : CloseOp} {s : State} (ready : runs s o.core (opCode 1 4) = true) (role : o.role = .sum)
include ready role

/-- The owner of one split element that holds every partial (R69, R70). -/
theorem exec_close_owner :
    let b := boundClose s o
    let p := passOp s o.core
    let a := getAcc s b.core b.acc.val
    closable b.out = true → b.out ≠ .n4 ∧ b.out ≠ .i4 → b.split = true → b.owner = b.core →
    expected s b.core b.tensor a.element b.contributors ≤ a.partials →
      (a.terms ≠ b.terms → exec (.close o) s = .next (mismatch p b.core b.stamp a.element b.terms a.terms)) ∧
      (a.terms = b.terms → a.overflows = true → a.recomputes < 3 →
        exec (.close o) s = .next (ownerReAnchor s b.core b.contributors b.stamp b.layer b.recomputeLen b.acc.val a)) ∧
      (a.terms = b.terms → a.overflows = false ∨ 3 ≤ a.recomputes →
        exec (.close o) s = .next (writeClosed (settleAccs p b [b.acc.val]).1 b (settleAccs p b [b.acc.val]).2)) := by
  intro b p a out one split_ own all
  have same : getAcc p b.core b.acc.val = a := by
    have core : b.core = o.core := boundClose_core s o
    simp only [a, p, core, getAcc_passOp]
  have allP : expected p b.core b.tensor (getAcc p b.core b.acc.val).element b.contributors ≤
      (getAcc p b.core b.acc.val).partials := by rw [same]; exact all
  have when := closeWaits_one one all out split_ own
  refine ⟨fun differ => ?_, fun terms ovf left => ?_, fun terms fits => ?_⟩
  · rw [exec_close_sum_passes ready role (by rw [when, beq_false_of_ne differ]; rfl), closeSum_owner out split_ own,
      closeOwner_mismatch one allP (by rwa [same]), same]
  · rw [exec_close_sum_waits ready role (when.trans (by rw [terms, ovf, decide_eq_true left, beq_self_eq_true]; rfl)),
      closeSum_owner out split_ own, closeOwner_reAnchor one all terms ovf left]
  · have goesOn : (a.overflows && decide (a.recomputes < 3)) = false := by
      rcases fits with h | h
      · rw [h, Bool.false_and]
      · rw [decide_eq_false (Nat.not_lt.2 h), Bool.and_false]
    rw [exec_close_sum_passes ready role (when.trans (by rw [goesOn, Bool.and_false])), closeSum_owner out split_ own,
      closeOwner_settles one allP (by rwa [same]) (by rwa [same])]

theorem exec_close_unsplit (out : closable (boundClose s o).out = true) (unsplit : (boundClose s o).split = false) :
    exec (.close o) s = .next (writeClosed (settleAccs (passOp s o.core) (boundClose s o) (closeAccs (boundClose s o))).1
      (boundClose s o) (settleAccs (passOp s o.core) (boundClose s o) (closeAccs (boundClose s o))).2) := by
  rw [exec_close_sum_passes ready role (closeWaits_of_not_owner (.inl unsplit)), closeSum_unsplit out unsplit]

end exec

/-- Settles O13: `exec_close_sum` says when the core goes on, and the lemmas of `closeSum` and `closeOwner` what each role
then does. -/
theorem closeReduction : Obligations.CloseReduction := by
  unfold Obligations.CloseReduction
  intro o s ready role b p a one
  have same : getAcc p b.core b.acc.val = a := by
    have core : b.core = o.core := boundClose_core s o
    simp only [a, p, core, getAcc_passOp]
  have passes := exec_close_sum_passes ready role
  refine ⟨boundClose_of_none, fun f d r record => ?_, fun out => ?_, fun out => ⟨fun one split_ other => ?_,
    fun split_ own due => ?_, fun one split_ own all => exec_close_owner ready role out one split_ own all,
    exec_close_unsplit ready role out, fun one unsplit settles => ?_⟩⟩
  · simp only [b, boundClose_of_record record, beq_iff_eq, and_self]
  · rw [passes (closeWaits_of_not_closable out), closeSum_of_not_closable out]
  · rw [passes (closeWaits_of_not_owner (.inr other)), closeSum_contributor out one split_ other, same]
  · obtain ⟨i, hi, few⟩ := due
    have due : partialsDue s b = true := List.any_eq_true.2 ⟨i, hi, decide_eq_true few⟩
    rw [exec_close_sum_waits ready role (closeWaits_of_due out split_ own due), closeSum_owner out split_ own,
      closeOwner_of_due due]
  · intro d r n u access
    rw [exec_close_unsplit ready role out unsplit, closeAccs_one one, settleAccs_unsplit unsplit (by rwa [same]), same]
    exact congrArg _ (writeClosed_one one access)

/-! ### Long partials at the owner (R68 to R70) -/

theorem exec_longPartial_one {o : PartialOp} {i : Fin 64} {s : State} (records : leAt o.flit.payload 64 1 = 1)
    (accs : o.accs = [i]) :
    let u := takeIn s o.core (· == o.flit)
    let r := Acc.ofRecord (slice o.flit.payload 0 32) []
    let p := boundPartial u o r.element
    let a := (getAcc u p.core i.val).begin_ p.anchor r.element
    let b : Acc := { a with
      acc := wrap176 (a.acc + r.acc), termOvf := a.termOvf || r.termOvf, trunc := a.trunc || r.trunc, nan := a.nan || r.nan
      poison := a.poison || p.flit.poison, terms := a.terms + r.terms, partials := a.partials + 1
      partTerms := a.partTerms + r.terms }
    exec (.longPartial o) s = .next (if r.anchor ≠ a.anchor then mismatch u p.core p.flit.stamp r.element p.terms r.terms
      else testOwner (setAcc u p.core i.val b) p i.val b) := by
  intro u r p a b
  show execLongPartial o s = _
  rw [execLongPartial, records]
  show Host.Outcome.next (addPartial u o 0) = _
  rw [addPartial, accs]
  rfl

theorem testOwner_of_due {s : State} {o : PartialOp} {i : Nat} {a : Acc}
    (due : a.partials < expected s o.core o.tensor a.element o.contributors) : testOwner s o i a = s := by
  rw [testOwner, if_pos due]

theorem testOwner_of_all {s : State} {o : PartialOp} {i : Nat} {a : Acc}
    (all : expected s o.core o.tensor a.element o.contributors ≤ a.partials) :
    let w := meetCore s o.core Src.gateWait (· == ownerWait i)
    (a.terms < o.terms → testOwner s o i a = w) ∧
    (o.terms < a.terms → testOwner s o i a = mismatch w o.core o.flit.stamp a.element o.terms a.terms) ∧
    (a.terms = o.terms → a.overflows = false ∨ 3 ≤ a.recomputes → testOwner s o i a = w) ∧
    (a.terms = o.terms → a.overflows = true → a.recomputes < 3 →
      testOwner s o i a = ownerReAnchor w o.core o.contributors o.flit.stamp o.layer o.recomputeLen i a) := by
  rw [testOwner, if_neg (Nat.not_lt.2 all)]
  refine ⟨fun few => if_pos few, fun many => ?_, fun same fits => ?_, fun same ovf left => ?_⟩
  · rw [if_neg (Nat.not_lt.2 many.le), if_pos many.ne']
  · rw [if_neg same.not_lt, if_neg (not_not.2 same), if_neg]
    rcases fits with h | h
    · simp [h]
    · simp [Nat.not_lt.2 h]
  · rw [if_neg same.not_lt, if_neg (not_not.2 same), if_pos ⟨ovf, left⟩]

/-! ### RE_ANCHOR at a contributor (R70, R72) -/

theorem exec_reAnchor (o : ReAnchorOp) (s : State) :
    let p := boundReAnchor s o
    let u := takeIn s p.core (fun f => flitKind f == Kind.reAnchor && f.stamp == p.stamp)
    (retainedAt u p.core p.stamp p.tensor p.element = none → exec (.reAnchor o) s = .next u) ∧
    (∀ x, retainedAt u p.core p.stamp p.tensor p.element = some x →
      let b : Acc := { x.acc.reform p.anchor with recomputes := x.acc.recomputes + 1 }
      exec (.reAnchor o) s = .next (sendPartial (reqSlip (modCore u p.core (fun k => { k with
        retained := k.retained.map (fun y => if y = x then { y with acc := b } else y) })) p.core Src.windowRecompute
          (p.recomputeLen + 8)) p.core p.owner b p.stamp)) := by
  refine ⟨fun none_ => ?_, fun x found => ?_⟩
  all_goals show execReAnchor o s = _
  · simp only [execReAnchor, none_]
  · simp only [execReAnchor, found]

/-- Settles O15: one record takes `addPartial`'s branch by its anchor, and `testOwner`'s by the partials that are due. -/
theorem longPartials : Obligations.LongPartials := by
  unfold Obligations.LongPartials
  refine ⟨fun o i s records accs => ?_, exec_reAnchor⟩
  intro u r p a b v w due
  have run := exec_longPartial_one (s := s) records accs
  refine ⟨fun differ => run.trans (congrArg _ (if_pos differ)), fun same few => ?_, fun same all => ?_⟩
  · exact run.trans (congrArg _ ((if_neg (not_not.2 same)).trans (testOwner_of_due few)))
  · have test : exec (.longPartial o) s = .next (testOwner v p i.val b) :=
      run.trans (congrArg _ (if_neg (not_not.2 same)))
    rw [test]
    obtain ⟨few, many, fits, ovf⟩ := testOwner_of_all (s := v) (o := p) (i := i.val) (a := b) all
    exact ⟨fun h => congrArg _ (few h), fun h => congrArg _ (many h), fun h h' => congrArg _ (fits h h'),
      fun h h' h'' => congrArg _ (ovf h h' h'')⟩

end Sys2Proof.Machine
end

section
/-! The lens (R79 to R82) and the position rotator (R120 to R122): the bytes that LENS_ROTATE and POSITION_ROTATE write
(O16). -/

namespace Sys2Proof.Machine

/-! ### LENS_ROTATE -/

/-- One static outlier channel of the site, taken out as F8 where it is in the group. -/
def takeStatic (o : LensOp) (g : Nat) (bs : List Byte) (poison : Bool) (s : State) (x : (Nat × Nat) × Nat) : State :=
  if decide (o.first ≤ x.1.1 ∧ x.1.1 < o.first + g) then
    storeWrite s o.core (o.outlierDst + x.2) (leBytes 1 (staticF8 (lensIn o.fmt bs (x.1.1 - o.first)) x.1.2)) poison
  else s

/-- The bytes of the group rotated with the forme's signs, its static outlier channels taken as zero. -/
def lensBytes (o : LensOp) (image : List Byte) (layer : Nat) (site : Site) (bs : List Byte) : List Byte :=
  (lensGroup site.log2g ((List.range (2 ^ site.log2g)).map (fun i => lensSign (imgLensSeed image) (o.first + i) layer o.site))
    ((List.range (2 ^ site.log2g)).map (fun i => if site.channels.any (fun ch => ch.1 == o.first + i) then FVal.fin false 0
      else toF32 (lensIn o.fmt bs i)))).flatMap (fun x => leBytes 4 (FloatShape.f32.encode x))

/-- What LENS_ROTATE does in the state `u` in which its operand is read. -/
def lensRotated (u : State) (o : LensOp) (image : List Byte) (layer : Nat) (site : Site) : State :=
  let g := 2 ^ site.log2g
  let n := g * laneBytes o.fmt
  let src := o.src / n * n
  let bs := storeRead u o.core src n
  let p := storePoisoned u o.core src n
  storeWrite (site.channels.zipIdx.foldl (takeStatic o g bs p) u) o.core (o.dst / (4 * g) * (4 * g))
    (lensBytes o image layer site bs) p

theorem exec_lensRotate {o : LensOp} {fi layer : Nat} {f : Forme} {part : Placed} {site : Site} {s : State}
    (ready : runs s o.core (opCode 3 1) = true) (fmt : o.fmt ≠ .int32) (here : partOfCore s o.core = some (fi, f, part))
    (at_ : siteOf s o.core o.site = some (layer, site)) :
    let g := 2 ^ site.log2g
    let n := g * laneBytes o.fmt
    let src := o.src / n * n
    CanAccess s o.core src n → CanAccess s o.core (o.dst / (4 * g) * (4 * g)) (4 * g) →
    CanAccess s o.core o.outlierDst site.channels.length →
    exec (.lensRotate o) s = .next (lensRotated (meetWide (passOp s o.core) o.core src n (some (o.stamp, o.instr))) o f.image
      layer site) := by
  intro g n src read write outliers
  show execLensRotate o s = _
  have fmt' : (o.fmt == .int32) = false := beq_false_of_ne fmt
  have read : CanAccess (passOp s o.core) o.core src n := read
  have write : CanAccess (passOp s o.core) o.core (o.dst / (4 * g) * (4 * g)) (4 * g) := write
  have outliers : CanAccess (passOp s o.core) o.core o.outlierDst site.channels.length := outliers
  simp only [execLensRotate, fmt', here, at_, asOp_runs _ ready, Bool.false_eq_true, if_false]
  exact congrArg _ ((onAccess_ok _ _ read).trans ((onAccess_ok _ _ write).trans (onAccess_ok _ _ outliers)))

theorem lensStage_length (xs : List FVal) (k : Nat) : (lensStage xs k).length = xs.length := List.length_mapIdx

theorem lensGroup_length (m : Nat) (signs : List Bool) (xs : List FVal) :
    (lensGroup m signs xs).length = min signs.length xs.length := by
  simp only [lensGroup, List.length_map]
  rw [foldl_frame List.length, List.length_zipWith]
  exact lensStage_length

theorem lensBytes_length (o : LensOp) (image : List Byte) (layer : Nat) (site : Site) (bs : List Byte) :
    (lensBytes o image layer site bs).length = 4 * 2 ^ site.log2g := by
  rw [lensBytes, flatMap_length_const _ 4 (fun _ => leBytes_length _ _), lensGroup_length]
  simp

/-- A static outlier channel is written to one address alone. -/
theorem memRead_takeStatic_ne (o : LensOp) (g : Nat) (bs : List Byte) (p : Bool) (s : State) (x : (Nat × Nat) × Nat) {a : Nat}
    (h : a ≠ storeAddr o.core o.outlierDst + x.2) :
    memRead (takeStatic o g bs p s x).mem.store a = memRead s.mem.store a := by
  unfold takeStatic
  split_ifs
  · apply memRead_storeWrite_out
    simp only [leBytes_length, storeAddr] at h ⊢
    omega
  · rfl

theorem memRead_storeWrite_byte (s : State) (c : CoreRef) (a v : Nat) (p : Bool) :
    memRead (storeWrite s c a (leBytes 1 v) p).mem.store (storeAddr c a) = BitVec.ofNat 8 v := by
  simp only [storeWrite, leBytes, memWriteBytes, memRead_memWrite_same]

theorem memRead_takeStatic_same {o : LensOp} {g : Nat} (bs : List Byte) (p : Bool) (s : State) {x : (Nat × Nat) × Nat}
    (inside : o.first ≤ x.1.1 ∧ x.1.1 < o.first + g) :
    memRead (takeStatic o g bs p s x).mem.store (storeAddr o.core o.outlierDst + x.2) =
      BitVec.ofNat 8 (staticF8 (lensIn o.fmt bs (x.1.1 - o.first)) x.1.2) := by
  have place : storeAddr o.core o.outlierDst + x.2 = storeAddr o.core (o.outlierDst + x.2) := Nat.add_assoc ..
  rw [takeStatic, if_pos (decide_eq_true inside), place]
  exact memRead_storeWrite_byte ..

theorem lensRotated_frame (u : State) (o : LensOp) (image : List Byte) (layer : Nat) (site : Site) :
    StoreFrame u (lensRotated u o image layer site) :=
  (StoreFrame.foldl (StoreFrame.refl u) (fun s x h => by
    unfold takeStatic
    split_ifs
    · exact h.storeWrite ..
    · exact h) _).storeWrite ..

theorem lensRotated_read (u : State) (o : LensOp) (image : List Byte) (layer : Nat) (site : Site) :
    let g := 2 ^ site.log2g
    let n := g * laneBytes o.fmt
    storeRead (lensRotated u o image layer site) o.core (o.dst / (4 * g) * (4 * g)) (4 * g) =
      lensBytes o image layer site (storeRead u o.core (o.src / n * n) n) := by
  intro g n
  have := storeRead_storeWrite_same (site.channels.zipIdx.foldl (takeStatic o g (storeRead u o.core (o.src / n * n) n)
    (storePoisoned u o.core (o.src / n * n) n)) u) o.core (o.dst / (4 * g) * (4 * g))
    (lensBytes o image layer site (storeRead u o.core (o.src / n * n) n)) (storePoisoned u o.core (o.src / n * n) n)
  rwa [lensBytes_length] at this

theorem lensRotated_out (u : State) (o : LensOp) (image : List Byte) (layer : Nat) (site : Site) {x : Nat} :
    let dst := o.dst / (4 * 2 ^ site.log2g) * (4 * 2 ^ site.log2g)
    x < storeAddr o.core dst ∨ storeAddr o.core dst + 4 * 2 ^ site.log2g ≤ x →
    x < storeAddr o.core o.outlierDst ∨ storeAddr o.core o.outlierDst + site.channels.length ≤ x →
    memRead (lensRotated u o image layer site).mem.store x = memRead u.mem.store x := by
  intro dst group channels
  rw [lensRotated, memRead_storeWrite_out _ _ _ _ _ (by rwa [lensBytes_length])]
  refine foldl_read_of_apart (fun s => memRead s.mem.store) (addr := fun y => storeAddr o.core o.outlierDst + y.2)
    (fun s y apart => memRead_takeStatic_ne o _ _ _ s y apart) (fun y hy same => ?_) u
  have := List.snd_lt_of_mem_zipIdx hy
  omega

theorem lensRotated_outlier (u : State) (o : LensOp) (image : List Byte) (layer : Nat) (site : Site) {j : Nat} {ch : Nat × Nat}
    (channel : site.channels[j]? = some ch) :
    let g := 2 ^ site.log2g
    let n := g * laneBytes o.fmt
    let dst := o.dst / (4 * g) * (4 * g)
    o.first ≤ ch.1 → ch.1 < o.first + g → o.outlierDst + j < dst ∨ dst + 4 * g ≤ o.outlierDst + j →
    storeRead (lensRotated u o image layer site) o.core (o.outlierDst + j) 1 =
      leBytes 1 (staticF8 (lensIn o.fmt (storeRead u o.core (o.src / n * n) n) (ch.1 - o.first)) ch.2) := by
  intro g n dst low high apart
  have byte : memRead (lensRotated u o image layer site).mem.store (storeAddr o.core o.outlierDst + j) =
      BitVec.ofNat 8 (staticF8 (lensIn o.fmt (storeRead u o.core (o.src / n * n) n) (ch.1 - o.first)) ch.2) := by
    have elsewhere : storeAddr o.core o.outlierDst + j < storeAddr o.core dst ∨
        storeAddr o.core dst + 4 * g ≤ storeAddr o.core o.outlierDst + j := by
      simp only [storeAddr]
      clear_value dst g
      omega
    rw [lensRotated, memRead_storeWrite_out _ _ _ _ _ (by rwa [lensBytes_length])]
    refine foldl_read_of_mem (fun s => memRead s.mem.store) (f := takeStatic o g (storeRead u o.core (o.src / n * n) n)
      (storePoisoned u o.core (o.src / n * n) n)) (addr := fun y => storeAddr o.core o.outlierDst + y.2) (x := (ch, j))
      (fun s y apart => memRead_takeStatic_ne o _ _ _ s y apart) (List.mem_zipIdx_iff_getElem?.2 channel) (fun y hy same => ?_)
      (fun s => memRead_takeStatic_same _ _ s ⟨low, high⟩) u
    have hy := List.mem_zipIdx_iff_getElem?.1 hy
    rw [Nat.add_left_cancel same, channel] at hy
    exact Prod.ext (Option.some.inj hy).symm (Nat.add_left_cancel same)
  show [memRead _ (coreKey o.core * coreBytes + (o.outlierDst + j) + 0)] = _
  rw [Nat.add_zero, ← Nat.add_assoc]
  exact congrArg (fun b => [b]) byte

/-! ### POSITION_ROTATE -/

theorem getCore_passOp_lag (s : State) (c : CoreRef) : (getCore (passOp s c) c).lag = (getCore s c).lag := by
  rw [passOp, getCore_modCore]; rfl

theorem coreItem_passOp (s : State) (code : Nat) (c : CoreRef) (xs : List Nat) :
    coreItem (passOp s c) code c xs = coreItem s code c xs := by
  simp only [coreItem, getCore_passOp_lag]
  rfl

theorem exec_positionRotate_outside {o : RotateOp} {fi : Nat} {f : Forme} {part : Placed} {s : State}
    (ready : runs s o.core (opCode 4 1) = true) (here : partOfCore s o.core = some (fi, f, part)) :
    let p : Int := (stampPos o.stamp : Int) + part.posOffset
    p < 0 ∨ 2 ^ 24 ≤ p → exec (.positionRotate o) s =
      .next (raise (passOp s o.core) ((coreItem s Err.CORE_POS_RANGE o.core [o.src]).at_ o.stamp o.instr)) := by
  intro p outside
  show execPositionRotate o s = _
  simp only [execPositionRotate, here, asOp_runs _ ready, coreItem_passOp]
  rw [if_pos outside]
  rfl

theorem exec_positionRotate_inside {o : RotateOp} {fi : Nat} {f : Forme} {part : Placed} {s : State}
    (ready : runs s o.core (opCode 4 1) = true) (here : partOfCore s o.core = some (fi, f, part)) :
    let p : Int := (stampPos o.stamp : Int) + part.posOffset
    let v := if o.bf16 then VFmt.b16 else VFmt.f32
    let n := o.width * laneBytes v
    0 ≤ p → p < 2 ^ 24 → CanAccess s o.core (rowAt o.src) n → CanAccess s o.core (rowAt o.dst) n →
      let u := meetWide (passOp s o.core) o.core (rowAt o.src) n (some (o.stamp, o.instr))
      exec (.positionRotate o) s = .next (storeWrite u o.core (rowAt o.dst)
        (laneRow v (rotateHead (vshape v).encode o.halves p.toNat ((List.range (o.width / 2)).map (freqAt f.image o.table))
          ((List.range o.width).map (lensIn v (storeRead u o.core (rowAt o.src) n))))) (storePoisoned u o.core (rowAt o.src) n)) := by
  intro p v n low high read write u
  show execPositionRotate o s = _
  have read : CanAccess (passOp s o.core) o.core (rowAt o.src) n := read
  have write : CanAccess (passOp s o.core) o.core (rowAt o.dst) n := write
  simp only [execPositionRotate, here, asOp_runs _ ready]
  rw [if_neg (show ¬ (p < 0 ∨ 2 ^ 24 ≤ p) by omega)]
  exact congrArg _ ((onAccess_ok _ _ read).trans (onAccess_ok _ _ write))

/-- Settles O16: LENS_ROTATE is `lensRotated`, whose reads and frame are the lemmas above; POSITION_ROTATE splits by the
position. -/
theorem rotations : Obligations.Rotations := by
  unfold Obligations.Rotations
  refine ⟨fun o fi layer f part site s ready fmt here at_ => ?_, fun o fi f part s ready here =>
    ⟨exec_positionRotate_outside ready here, exec_positionRotate_inside ready here⟩⟩
  intro g n src dst read write outliers u bs
  exact ⟨_, exec_lensRotate ready fmt here at_ read write outliers, lensRotated_read u o f.image layer site,
    fun j ch channel low high apart => lensRotated_outlier u o f.image layer site channel low high apart,
    lensRotated_frame u o f.image layer site, fun x => lensRotated_out u o f.image layer site⟩

end Sys2Proof.Machine
end

section
/-! Descriptors (R123 to R138): what sending a flit leaves as it was, and the window of the pump (O18). -/

namespace Sys2Proof.Machine

/-! ### What sending a flit leaves as it was -/

@[simp] theorem getCore_raise (s : State) (it : FaultItem) (c : CoreRef) : getCore (raise s it) c = getCore s c := rfl

@[simp] theorem getCore_clearErrs (s : State) (c d : CoreRef) (a : Nat) : getCore (clearErrs s c a) d = getCore s d := rfl

theorem descs_meetWord (s : State) (c : CoreRef) (a : Nat) : (getCore (meetWord s c a) c).descs = (getCore s c).descs := by
  unfold meetWord
  split
  · rfl
  · simp
  · simp
  · simp [poisonWord]
    rfl

theorem descs_meetNarrow (s : State) (c : CoreRef) (a n : Nat) :
    (getCore (meetNarrow s c a n) c).descs = (getCore s c).descs :=
  foldl_frame (fun s => (getCore s c).descs) (fun s w => descs_meetWord s c w) _ s

theorem emitFlit_cores (s : State) (c : CoreRef) (f : Flit) : (emitFlit s c f).cores = s.cores := by
  unfold emitFlit
  split <;> rfl

theorem descs_emitPacket (s : State) (c : CoreRef) (f : Flit) :
    (getCore (emitPacket s c f) c).descs = (getCore s c).descs := by
  unfold emitPacket
  split_ifs
  · simp
  · rw [getCore, emitFlit_cores, getCore]

theorem descs_onAccess {s : State} {c : CoreRef} (a n : Nat) (who : Who) {f : State → State}
    (h : (getCore (f s) c).descs = (getCore s c).descs) : (getCore (onAccess s c a n who f) c).descs = (getCore s c).descs := by
  unfold onAccess
  split
  · rfl
  · exact h

theorem descs_sendFlit (s : State) (c : CoreRef) (d : Desc) (k : Nat) :
    (getCore (sendFlit s c d k) c).descs = (getCore s c).descs := by
  unfold sendFlit
  dsimp only
  split
  · split <;> exact descs_emitPacket ..
  · refine descs_onAccess _ _ _ ?_
    split <;> rw [descs_emitPacket, descs_meetNarrow]

theorem kget?_setDesc (s : State) (c : CoreRef) (i : Nat) (d : Desc) : kget? (getCore (setDesc s c i d) c).descs i = some d := by
  rw [setDesc, getCore_modCore]
  exact kget?_kset_same ..

/-! ### The pump -/

/-- The descriptor `e` is `d` with more flits sent, within its window (R128). -/
def SentWithin (d e : Desc) : Prop :=
  e.outstanding.length ≤ e.window ∧ d.next ≤ e.next ∧ e.seq = d.seq ∧ e.kind = d.kind ∧ e.window = d.window ∧
    ∃ l, e.outstanding = d.outstanding ++ l

theorem Desc.le_after (d : Desc) (k : Nat) : k ≤ d.after k := by
  unfold Desc.after Desc.rowOf rowBase
  split_ifs <;> omega

/-- The descriptor with one more flit sent. -/
def Desc.sendNext (d : Desc) : Desc := { d with next := d.after d.next, outstanding := d.outstanding ++ [d.next] }

theorem SentWithin.send {d e : Desc} (h : SentWithin d.sendNext e) : SentWithin d e := by
  obtain ⟨fits, later, seq, kind, window, l, sent⟩ := h
  exact ⟨fits, (d.le_after d.next).trans later, seq, kind, window, d.next :: l, by rw [sent, Desc.sendNext, List.append_assoc]; rfl⟩

theorem SentWithin.refl {d : Desc} (h : d.outstanding.length ≤ d.window) : SentWithin d d :=
  ⟨h, le_rfl, rfl, rfl, rfl, [], (List.append_nil _).symm⟩

theorem pump_sentWithin (n : Nat) (c : CoreRef) (i : Nat) (d : Desc) (s : State)
    (here : kget? (getCore s c).descs i = some d) (fits : d.outstanding.length ≤ d.window) :
    ∃ e, kget? (getCore (pump n s c i) c).descs i = some e ∧ SentWithin d e := by
  induction n generalizing s d with
  | zero => exact ⟨d, here, .refl fits⟩
  | succ n ih =>
    simp only [pump, here]
    split_ifs with more
    · have room : d.outstanding.length < d.window := (of_decide_eq_true (Bool.and_eq_true .. ▸ more).2).2
      have sent : kget? (getCore (sendFlit (setDesc s c i d.sendNext) c d d.next) c).descs i = some d.sendNext := by
        rw [descs_sendFlit]
        exact kget?_setDesc ..
      obtain ⟨e, at_, more⟩ := ih _ _ sent (by rw [Desc.sendNext, List.length_append]; exact room)
      exact ⟨e, at_, more.send⟩
    · exact ⟨d, here, .refl fits⟩

/-! ### ISSUE -/

theorem exec_issue_conflict {o : IssueOp} {s : State} (addr instr : Nat) (w : IssueUse)
    (ready : runs s o.core (opCode 0 8) = true) :
    exec (.issue o addr instr true w) s = .next (raise (passOp s o.core)
      ((coreItem (passOp s o.core) Err.CORE_BANK_CONFLICT o.core [(nextOp s o.core).elim addr (fun x => x.word.addrA)]).at_
        o.stamp instr)) := by
  show execIssue o addr instr true w s = _
  rw [execIssue, asOp_runs _ ready]
  rfl

/-- The descriptor that an ISSUE in state `u` reads. -/
def descRead (u : State) (c : CoreRef) (a : Nat) : Desc :=
  descOf (storeRead u c (a / 64 * 64) 64) (getCore u c).issued (getCore u c).arrived none

/-- What an ISSUE without a bank conflict does once its descriptor is read, in the state `u` after the read. -/
def issued (o : IssueOp) (a instr : Nat) (w : IssueUse) (u : State) : State :=
  let c := o.core
  let k := getCore u c
  let d := descRead u c a
  let it := fun code => (coreItem u code c [a]).at_ (BitVec.ofNat 64 d.stamp) instr
  match kfree k.descs 0 16 with
  | none => raise u (it Err.CORE_DESC_OVERFLOW)
  | some i =>
    if storePoisoned u c (a / 64 * 64) 64 then complDesc u c d .poison
    else if !d.valid then complDesc (raise u (it Err.CORE_BAD_DESCRIPTOR)) c d .badDescriptor
    else if d.length = 0 ∨ d.rows = 0 then complDesc u c d .zeroLength
    else
      let e := { d with bind := issueBind u c d w, sums := issueSums d w }
      pump 64 (issueFetch (setCore u c
        { k with issued := k.issued + 1, arrived := k.arrived + 1, descs := kset k.descs i e }) e w) c i

section

variable {o : IssueOp} {a i : Nat} {u : State} (instr : Nat) (w : IssueUse)

theorem issued_full (full : kfree (getCore u o.core).descs 0 16 = none) : issued o a instr w u =
    raise u ((coreItem u Err.CORE_DESC_OVERFLOW o.core [a]).at_ (BitVec.ofNat 64 (descRead u o.core a).stamp) instr) := by
  simp only [issued, full]

theorem issued_poison (free : kfree (getCore u o.core).descs 0 16 = some i)
    (poison : storePoisoned u o.core (a / 64 * 64) 64 = true) :
    issued o a instr w u = complDesc u o.core (descRead u o.core a) .poison := by
  simp only [issued, free, poison, if_true]

theorem issued_invalid (free : kfree (getCore u o.core).descs 0 16 = some i)
    (sound : storePoisoned u o.core (a / 64 * 64) 64 = false) (invalid : (descRead u o.core a).valid = false) :
    issued o a instr w u = complDesc (raise u ((coreItem u Err.CORE_BAD_DESCRIPTOR o.core [a]).at_
      (BitVec.ofNat 64 (descRead u o.core a).stamp) instr)) o.core (descRead u o.core a) .badDescriptor := by
  simp only [issued, free, sound, invalid, Bool.not_false, Bool.false_eq_true, if_true, if_false]

theorem issued_empty (free : kfree (getCore u o.core).descs 0 16 = some i)
    (sound : storePoisoned u o.core (a / 64 * 64) 64 = false) (valid : (descRead u o.core a).valid = true)
    (empty : (descRead u o.core a).length = 0 ∨ (descRead u o.core a).rows = 0) :
    issued o a instr w u = complDesc u o.core (descRead u o.core a) .zeroLength := by
  simp only [issued, free, sound, valid, empty, Bool.not_true, Bool.false_eq_true, if_true, if_false]

theorem issued_queued (free : kfree (getCore u o.core).descs 0 16 = some i)
    (sound : storePoisoned u o.core (a / 64 * 64) 64 = false) (valid : (descRead u o.core a).valid = true)
    (length : (descRead u o.core a).length ≠ 0) (rows : (descRead u o.core a).rows ≠ 0) :
    let k := getCore u o.core
    let d := descRead u o.core a
    let e := { d with bind := issueBind u o.core d w, sums := issueSums d w }
    issued o a instr w u = pump 64 (issueFetch (setCore u o.core
      { k with issued := k.issued + 1, arrived := k.arrived + 1, descs := kset k.descs i e }) e w) o.core i := by
  simp only [issued, free, sound, valid, length, rows, or_self, Bool.not_true, Bool.false_eq_true, if_false]

end

theorem exec_issue {o : IssueOp} {s : State} {addr : Nat} (instr : Nat) (w : IssueUse) :
    let c := o.core
    let a := (nextOp s c).elim addr (fun x => x.word.addrA)
    runs s c (opCode 0 8) = true → CanAccess s c (a / 64 * 64) 64 →
      exec (.issue o addr instr false w) s =
        .next (issued o a instr w (countWait (meetNarrow (passOp s c) c (a / 64 * 64) 64) c o.waited)) := by
  intro c a ready access
  show execIssue o addr instr false w s = _
  have access : CanAccess (passOp s c) c (a / 64 * 64) 64 := (canAccess_passOp ..).2 access
  rw [execIssue, asOp_runs _ ready]
  exact congrArg _ ((if_neg Bool.false_ne_true).trans (onAccess_ok _ _ access))

theorem Desc.valid_iff (d : Desc) : d.valid = true ↔ 1 ≤ d.kind ∧ d.kind ≤ 7 ∧ spaceOf d.src ≤ 3 ∧ spaceOf d.dst ≤ 3 ∧
    (d.tclass = 0 ∨ (d.tclass = 7 ∧ 4 ≤ d.kind)) := by
  simp [Desc.valid, and_assoc]

/-- Settles O18: ISSUE is `issued` after its read; the pump by induction on its fuel. -/
theorem issueDescriptor : Obligations.IssueDescriptor := by
  unfold Obligations.IssueDescriptor
  refine ⟨fun o addr instr w s ready => ?_, pump_sentWithin, Desc.valid_iff⟩
  intro c a
  refine ⟨exec_issue_conflict addr instr w ready, fun access => ?_⟩
  intro u k d it
  rw [exec_issue instr w ready access]
  exact ⟨fun full => congrArg _ (issued_full instr w full), fun i free => ⟨fun poison => congrArg _ (issued_poison instr w free poison),
    fun sound => ⟨fun invalid => congrArg _ (issued_invalid instr w free sound invalid),
      fun valid empty => congrArg _ (issued_empty instr w free sound valid empty),
      fun valid length rows => congrArg _ (issued_queued instr w free sound valid length rows)⟩⟩⟩

end Sys2Proof.Machine
end

section
/-! Completion of a descriptor (R124, R128 to R130) and its due time (R138) (O19). -/

namespace Sys2Proof.Machine

theorem exec_descriptorComplete_due {c : CoreRef} {i : Nat} {d : Desc} {s : State}
    (here : kget? (getCore s c).descs i = some d) (waited : Nat) (settled : d.settled = true)
    (first : firstOf (getCore s c) d = true) :
    let r := if d.kind = 1 then copyRows (portD 17 (countWait s c waited) c d.at_) c d d.rows else (s, d.status)
    exec (.descriptorComplete ⟨c, waited⟩ i) s = .next (pumpAll (complDesc (endSums (endBind (modCore r.1 c (fun k =>
      { k with descs := kdel k.descs i })) d) d) c d r.2) c) := by
  show execDescriptorComplete ⟨c, waited⟩ i s = _
  simp only [execDescriptorComplete, here, settled, first, Bool.and_self, if_true]

theorem exec_descriptorComplete_early {c : CoreRef} {i : Nat} {d : Desc} {s : State}
    (here : kget? (getCore s c).descs i = some d) (waited : Nat) (early : d.settled = false ∨ firstOf (getCore s c) d = false) :
    exec (.descriptorComplete ⟨c, waited⟩ i) s = .next s := by
  have not_ : (d.settled && firstOf (getCore s c) d) = false := by rcases early with h | h <;> simp [h]
  show execDescriptorComplete ⟨c, waited⟩ i s = _
  simp only [execDescriptorComplete, here, not_, Bool.false_eq_true, if_false]

theorem firstOf_iff (k : Core) (d : Desc) : firstOf k d = true ↔
    d.stream = false ∨ ∀ x ∈ k.descs, x.2.stream = true → x.2.prefetcher = d.prefetcher → d.seq ≤ x.2.seq := by
  rw [firstOf, List.all_eq_true]
  cases d.stream
  · simp
  · simp only [Bool.true_and, Bool.not_eq_true', Bool.and_eq_false_imp, beq_iff_eq, decide_eq_false_iff_not, Nat.not_lt,
      Bool.true_eq_false, false_or, Bool.and_eq_true, and_imp]

theorem exec_streamDue {c : CoreRef} {i : Nat} {d : Desc} {s : State} (here : kget? (getCore s c).descs i = some d) :
    exec (.streamDue c i) s = .next (raiseDue s c d) := by
  show execStreamDue c i s = _
  simp only [execStreamDue, here]

theorem raiseDue_open {s : State} {c : CoreRef} {d : Desc} (due : d.due ≠ 0)
    (over_ : reached (getChase s (chaseOf c)).time 0 d.due = true)
    (none_ : ∀ x ∈ (getChase s (chaseOf c)).slips, ¬ (x.source = Src.streamDue ∧ x.core = some c ∧ x.what = d.seq)) :
    raiseDue s c d = openSlip s (chaseOf c) Src.streamDue (some c) d.seq := by
  rw [raiseDue, if_neg]
  simp only [due, over_, List.any_eq_true, Bool.and_eq_true, beq_iff_eq, false_or, Bool.not_true, Bool.false_eq_true]
  rintro ⟨x, hx, ⟨source, core⟩, what⟩
  exact none_ x hx ⟨source, core, what⟩

theorem raiseDue_before {s : State} {c : CoreRef} {d : Desc}
    (before : d.due = 0 ∨ reached (getChase s (chaseOf c)).time 0 d.due = false) : raiseDue s c d = s := by
  refine if_pos ?_
  rcases before with h | h
  · exact .inl h
  · exact .inr (.inl (by rw [h]; rfl))

/-! ### Completing -/

@[simp] theorem getCore_meetSlips (s : State) (n : Nat) (p : Slip → Bool) (c : CoreRef) :
    getCore (meetSlips s n p) c = getCore s c := rfl

@[simp] theorem getCore_meetCore (s : State) (c d : CoreRef) (source : Nat) (ok : Nat → Bool) :
    getCore (meetCore s c source ok) d = getCore s d := rfl

@[simp] theorem meetCore_mem (s : State) (c : CoreRef) (source : Nat) (ok : Nat → Bool) : (meetCore s c source ok).mem = s.mem :=
  rfl

/-- Fences leave their core but for the list of them. -/
theorem getCore_settleFences (s : State) (c : CoreRef) : ∃ fs, getCore (settleFences s c) c = { getCore s c with fences := fs } :=
  ⟨_, by rw [settleFences, getCore_meetCore, getCore_setCore]⟩

theorem settleFences_mem (s : State) (c : CoreRef) : (settleFences s c).mem = s.mem := rfl

theorem complDesc_finished (s : State) (c : CoreRef) (d : Desc) (st : DescStatus) :
    (getCore (complDesc s c d st) c).finished = (getCore s c).finished ++ [(d.tag, st)] := by
  obtain ⟨fs, core⟩ := getCore_settleFences
    (meetCore (if d.event then setEvent (modCore s c (fun k => { k with finished := k.finished ++ [(d.tag, st)] })) c d.eventId
      else modCore s c (fun k => { k with finished := k.finished ++ [(d.tag, st)] })) c Src.streamDue (· == d.seq)) c
  rw [complDesc, core, getCore_meetCore]
  split_ifs <;> simp [setEvent]

theorem complDesc_event (s : State) (c : CoreRef) (d : Desc) (st : DescStatus) (event : d.event = true) :
    d.eventId % 64 ∈ (getCore (complDesc s c d st) c).flags ∧
      (getCore (complDesc s c d st) c).waiting ≠ some (d.eventId % 64) := by
  simp only [complDesc, event, if_true]
  obtain ⟨fs, core⟩ := getCore_settleFences
    (meetCore (setEvent (modCore s c (fun k => { k with finished := k.finished ++ [(d.tag, st)] })) c d.eventId)
      c Src.streamDue (· == d.seq)) c
  rw [core, getCore_meetCore, setEvent, getCore_modCore]
  refine ⟨(mem_addOnce ..).2 (.inr rfl), ?_⟩
  dsimp only
  split_ifs with waits
  · exact nofun
  · exact waits

theorem complDesc_mem (s : State) (c : CoreRef) (d : Desc) (st : DescStatus) : (complDesc s c d st).mem = s.mem := by
  unfold complDesc
  dsimp only
  rw [settleFences_mem, meetCore_mem]
  split_ifs <;> rfl

/-- Settles O19, one clause of the completion and of the due time after another. -/
theorem descriptorCompletion : Obligations.DescriptorCompletion := by
  unfold Obligations.DescriptorCompletion
  exact fun c i d s here => ⟨fun waited settled first => exec_descriptorComplete_due here waited settled first,
    fun waited early => exec_descriptorComplete_early here waited early, firstOf_iff _ d,
    fun due over_ none_ => (exec_streamDue here).trans (congrArg _ (raiseDue_open due over_ none_)),
    fun before => (exec_streamDue here).trans (congrArg _ (raiseDue_before before)),
    fun st => ⟨complDesc_finished s c d st, complDesc_event s c d st, complDesc_mem s c d st⟩⟩

end Sys2Proof.Machine
end

section
/-! Reading a word meets its errors (R102 to R105, R376): what that changes in the store and what it leaves as it was. -/

namespace Sys2Proof.Machine

/-- The errors of a word of the stores by the word's number. -/
def wordErrs (s : State) (w : Nat) : List (Nat × Nat) := kgetD s.mem.errs w []

theorem errsAt_eq_wordErrs (s : State) (c : CoreRef) (a : Nat) : errsAt s c a = wordErrs s (storeAddr c a / 64) := rfl

theorem kget?_kdel {α : Type} (m : KMap α) (k j : Nat) : kget? (kdel m k) j = if j = k then none else kget? m j := by
  split_ifs with h
  · rw [h, kget?_kdel_same]
  · rw [kget?_kdel_ne _ h]

theorem wordErrs_clearErrs (s : State) (c : CoreRef) (a w : Nat) :
    wordErrs (clearErrs s c a) w = if w = storeAddr c a / 64 then [] else wordErrs s w := by
  simp only [wordErrs, clearErrs, kgetD, kget?_kdel]
  split_ifs <;> rfl

/-! ### One word -/

theorem meetWord_clean {s : State} {c : CoreRef} {a : Nat} (h : errsAt s c a = []) : meetWord s c a = s := by
  rw [meetWord, h]
  rfl

theorem meetWord_one {s : State} {c : CoreRef} {a : Nat} (h : (errsAt s c a).length = 1) :
    meetWord s c a = clearErrs (modCore s c (fun k => { k with cntCorrOne := bump k.cntCorrOne 1 })) c a := by
  obtain ⟨e, he⟩ := List.length_eq_one_iff.1 h
  rw [meetWord, he]
  rfl

theorem meetWord_two {s : State} {c : CoreRef} {a : Nat} (h : (errsAt s c a).length = 2) :
    meetWord s c a = raise (clearErrs (modCore s c (fun k => { k with cntCorrTwo := bump k.cntCorrTwo 1 })) c a)
      (coreItem s Err.STORE_TWO_BYTE c [a]) := by
  obtain ⟨e, f, he⟩ := List.length_eq_two.1 h
  rw [meetWord, he]
  rfl

theorem meetWord_many {s : State} {c : CoreRef} {a : Nat} (h : 3 ≤ (errsAt s c a).length) :
    meetWord s c a = poisonWord (clearErrs (spoil s c a) c a) c a := by
  unfold meetWord
  split
  case h_4 => rfl
  all_goals omega

/-- The number of a word's errors, as reading it tells them apart. -/
theorem errsAt_cases (s : State) (c : CoreRef) (a : Nat) :
    errsAt s c a = [] ∨ (errsAt s c a).length = 1 ∨ (errsAt s c a).length = 2 ∨ 3 ≤ (errsAt s c a).length := by
  rcases h : errsAt s c a with _ | ⟨e, _ | ⟨f, _ | ⟨g, l⟩⟩⟩ <;> simp

theorem wordErrs_meetWord (s : State) (c : CoreRef) (a w : Nat) :
    wordErrs (meetWord s c a) w = if w = storeAddr c a / 64 then [] else wordErrs s w := by
  rcases errsAt_cases s c a with h | h | h | h
  · rw [meetWord_clean h]
    split_ifs with same
    · rw [same, ← errsAt_eq_wordErrs, h]
    · rfl
  · rw [meetWord_one h]
    exact wordErrs_clearErrs ..
  · rw [meetWord_two h]
    exact wordErrs_clearErrs (modCore s c _) c a w
  · rw [meetWord_many h]
    exact wordErrs_clearErrs (spoil s c a) c a w

theorem memRead_spoilBytes_out (m : Memory) (w : Nat) (es : KMap Nat) {x : Nat} (h : x / 64 ≠ w) :
    memRead (spoilBytes m w es) x = memRead m x := by
  refine foldl_frame (fun m => memRead m x) (fun m e => ?_) es m
  split_ifs with inside
  · exact memRead_memWrite_ne _ _ (by omega)
  · rfl

theorem memRead_meetWord {s : State} {c : CoreRef} {a x : Nat} (h : x / 64 ≠ storeAddr c a / 64 ∨ wordErrs s (x / 64) = []) :
    memRead (meetWord s c a).mem.store x = memRead s.mem.store x := by
  by_cases same : x / 64 = storeAddr c a / 64
  · have clean : wordErrs s (x / 64) = [] := h.resolve_left (not_not_intro same)
    rw [meetWord_clean (by rw [errsAt_eq_wordErrs, ← same, clean])]
  · rcases errsAt_cases s c a with e | e | e | e
    · rw [meetWord_clean e]
    · rw [meetWord_one e]
      rfl
    · rw [meetWord_two e]
      rfl
    · rw [meetWord_many e]
      exact memRead_spoilBytes_out _ _ _ same

/-- Beside the counts of a core's store errors, its fault items and its store, nothing changed. -/
structure Met (s t : State) (c : CoreRef) : Prop where
  core : getCore t c = { getCore s c with
    cntCorrOne := (getCore t c).cntCorrOne, cntCorrTwo := (getCore t c).cntCorrTwo, cntPoison := (getCore t c).cntPoison }
  rest : t = { s with
    cores := t.cores
    faults := t.faults
    mem := { s.mem with store := t.mem.store, errs := t.mem.errs, storePoison := t.mem.storePoison } }

theorem Met.refl (s : State) (c : CoreRef) : Met s s c := ⟨rfl, rfl⟩

theorem Met.trans {s t u : State} {c : CoreRef} (h : Met s t c) (h' : Met t u c) : Met s u c := by
  obtain ⟨core, rest⟩ := h
  obtain ⟨core', rest'⟩ := h'
  constructor
  · rw [core', core]
  · rw [rest', rest]

theorem Met.chases {s t : State} {c : CoreRef} (h : Met s t c) : t.chases = s.chases := by rw [h.rest]

theorem Met.regs {s t : State} {c : CoreRef} (h : Met s t c) : t.regs = s.regs := by rw [h.rest]

theorem Met.descs {s t : State} {c : CoreRef} (h : Met s t c) : (getCore t c).descs = (getCore s c).descs := by rw [h.core]

theorem Met.wbuf {s t : State} {c : CoreRef} (h : Met s t c) : (getCore t c).wbuf = (getCore s c).wbuf := by rw [h.core]

theorem Met.canAccess {s t : State} {c : CoreRef} (h : Met s t c) (d : CoreRef) (a n : Nat) :
    CanAccess t d a n ↔ CanAccess s d a n := by
  rw [h.rest]
  rfl

theorem met_meetWord (s : State) (c : CoreRef) (a : Nat) : Met s (meetWord s c a) c := by
  rcases errsAt_cases s c a with e | e | e | e
  · rw [meetWord_clean e]
    exact .refl s c
  · rw [meetWord_one e]
    exact ⟨by simp, rfl⟩
  · rw [meetWord_two e]
    exact ⟨by simp, rfl⟩
  · rw [meetWord_many e]
    exact ⟨by rw [poisonWord, getCore_raise, getCore_modCore]; rfl, rfl⟩

/-! ### Several words -/

/-- The words at the addresses `as` are read one after the other. -/
def meetWords (s : State) (c : CoreRef) (as : List Nat) : State := as.foldl (fun s a => meetWord s c a) s

theorem meetWords_clean {s : State} {c : CoreRef} {as : List Nat} (h : ∀ a ∈ as, errsAt s c a = []) : meetWords s c as = s := by
  induction as with
  | nil => rfl
  | cons a as ih =>
    rw [meetWords, List.foldl_cons, meetWord_clean (h a List.mem_cons_self)]
    exact ih fun b hb => h b (List.mem_cons_of_mem _ hb)

theorem met_meetWords (s : State) (c : CoreRef) (as : List Nat) : Met s (meetWords s c as) c := by
  induction as generalizing s with
  | nil => exact .refl s c
  | cons a as ih => exact (met_meetWord s c a).trans (ih _)

theorem wordErrs_meetWords (s : State) (c : CoreRef) (as : List Nat) (w : Nat) :
    wordErrs (meetWords s c as) w = if ∃ a ∈ as, w = storeAddr c a / 64 then [] else wordErrs s w := by
  induction as generalizing s with
  | nil => simp [meetWords]
  | cons a as ih =>
    rw [meetWords, List.foldl_cons, ← meetWords, ih, wordErrs_meetWord]
    by_cases here : w = storeAddr c a / 64 <;> simp [here]

theorem memRead_meetWords {s : State} {c : CoreRef} {as : List Nat} {x : Nat}
    (h : (∀ a ∈ as, x / 64 ≠ storeAddr c a / 64) ∨ wordErrs s (x / 64) = []) :
    memRead (meetWords s c as).mem.store x = memRead s.mem.store x := by
  induction as generalizing s with
  | nil => rfl
  | cons a as ih =>
    rw [meetWords, List.foldl_cons, ← meetWords]
    rcases h with apart | clean
    · rw [ih (.inl fun b hb => apart b (List.mem_cons_of_mem _ hb)), memRead_meetWord (.inl (apart a List.mem_cons_self))]
    · rw [ih (.inr ?_), memRead_meetWord (.inr clean)]
      rw [wordErrs_meetWord, clean, ite_self]

/-- The words of a local range are those of its place in the stores. -/
theorem storeAddr_word_mem {c : CoreRef} {a n w : Nat} : w ∈ wordsAt a n → storeAddr c w / 64 ∈ wordsOf (storeAddr c a) n := by
  intro h
  obtain ⟨v, hv, rfl⟩ := List.mem_map.1 h
  rw [mem_wordsOf] at hv ⊢
  unfold storeAddr coreBytes
  omega

theorem memRead_meetNarrow_out (s : State) (c : CoreRef) (a n : Nat) {x : Nat} (h : x / 64 ∉ wordsOf (storeAddr c a) n) :
    memRead (meetNarrow s c a n).mem.store x = memRead s.mem.store x :=
  memRead_meetWords (.inl fun _ hw same => h (same ▸ storeAddr_word_mem hw))

/-! ### Narrow writes -/

/-- The words that a write covers in part. -/
def partWords (a n : Nat) : List Nat :=
  ((wordsOf a n).filter (fun w => !(wholeWords a n).contains w)).map (64 * ·)

theorem narrowWrite_eq (s : State) (c : CoreRef) (a : Nat) (bs : List Byte) (p : Bool) :
    narrowWrite s c a bs p = storeWrite (meetWords s c (partWords a bs.length)) c a bs p := by
  rw [narrowWrite, meetWords, partWords, List.foldl_map]

theorem storeRead_narrowWrite_same (s : State) (c : CoreRef) (a : Nat) (bs : List Byte) (p : Bool) :
    storeRead (narrowWrite s c a bs p) c a bs.length = bs := by
  rw [narrowWrite_eq]
  exact storeRead_storeWrite_same ..

theorem storePoisoned_narrowWrite (s : State) (c : CoreRef) (a : Nat) {bs : List Byte} (some_ : 0 < bs.length) :
    storePoisoned (narrowWrite s c a bs true) c a bs.length = true := by
  rw [narrowWrite_eq]
  exact anyPoison_markWrite _ some_ le_rfl

theorem partWords_sub {a n w : Nat} (h : w ∈ partWords a n) : w ∈ wordsAt a n := by
  obtain ⟨v, hv, rfl⟩ := List.mem_map.1 h
  exact List.mem_map_of_mem (List.mem_of_mem_filter hv)

/-- A narrow write leaves a byte outside it as it was, where the byte's word has no error or is not touched. -/
theorem memRead_narrowWrite_out (s : State) (c : CoreRef) (a : Nat) (bs : List Byte) (p : Bool) {x : Nat}
    (out : x < storeAddr c a ∨ storeAddr c a + bs.length ≤ x)
    (h : x / 64 ∉ wordsOf (storeAddr c a) bs.length ∨ wordErrs s (x / 64) = []) :
    memRead (narrowWrite s c a bs p).mem.store x = memRead s.mem.store x := by
  rw [narrowWrite_eq, memRead_storeWrite_out _ _ _ _ _ out]
  exact memRead_meetWords (h.imp_left fun away w hw same => away (same ▸ storeAddr_word_mem (partWords_sub hw)))

theorem kget?_filter_key {α : Type} (m : KMap α) (p : Nat → Bool) (k : Nat) :
    kget? (m.filter (fun e => p e.1)) k = if p k then kget? m k else none := by
  induction m with
  | nil => simp [kget?]
  | cons e m ih =>
    obtain ⟨j, v⟩ := e
    rw [List.filter_cons]
    by_cases keep : p j = true
    · rw [if_pos keep, kget?, kget?, ih]
      split_ifs <;> simp_all
    · rw [if_neg keep, kget?, ih]
      split_ifs <;> simp_all

theorem wordErrs_storeWrite (s : State) (c : CoreRef) (a : Nat) (bs : List Byte) (p : Bool) (w : Nat) :
    wordErrs (storeWrite s c a bs p) w = if w ∈ wholeWords (storeAddr c a) bs.length then [] else wordErrs s w := by
  have := kget?_filter_key s.mem.errs (fun k => !(wholeWords (storeAddr c a) bs.length).contains k) w
  simp only [wordErrs, storeWrite, kgetD, this]
  split_ifs <;> simp_all

/-- Whatever a narrow write touches has no error after it. -/
theorem wordErrs_narrowWrite (s : State) (c : CoreRef) (a : Nat) (bs : List Byte) (p : Bool) {w : Nat}
    (h : w ∈ wordsOf (storeAddr c a) bs.length) : wordErrs (narrowWrite s c a bs p) w = [] := by
  rw [narrowWrite_eq, wordErrs_storeWrite]
  split_ifs with whole
  · rfl
  · rw [wordErrs_meetWords, if_pos]
    simp only [wholeWords, List.mem_filter, h, true_and, Bool.and_eq_true, decide_eq_true_eq] at whole
    rw [mem_wordsOf] at h
    unfold storeAddr coreBytes at whole h
    refine ⟨64 * (w - coreKey c * 0x1400), List.mem_map_of_mem (List.mem_filter.2 ⟨mem_wordsOf.2 (by omega), ?_⟩), ?_⟩
    · simp only [Bool.not_eq_true', List.contains_eq_mem, wholeWords, List.mem_filter, mem_wordsOf, decide_eq_false_iff_not,
        Bool.and_eq_true, decide_eq_true_eq]
      omega
    · unfold storeAddr coreBytes
      omega

theorem met_storeWrite (s : State) (c d : CoreRef) (a : Nat) (bs : List Byte) (p : Bool) : Met s (storeWrite s d a bs p) c :=
  ⟨rfl, rfl⟩

theorem met_narrowWrite (s : State) (c : CoreRef) (a : Nat) (bs : List Byte) (p : Bool) : Met s (narrowWrite s c a bs p) c := by
  rw [narrowWrite_eq]
  exact (met_meetWords ..).trans (met_storeWrite ..)

end Sys2Proof.Machine
end

section
/-! READ_DATA, WRITE_ACK, NACK and STACK_WRITE_ACK (R125 to R135, R511) at the core that asked (O20). -/

namespace Sys2Proof.Machine

/-! ### What port D and the queues before the core leave of its descriptors -/

theorem descs_storeOne (s : State) (c : CoreRef) : (getCore (storeOne s c) c).descs = (getCore s c).descs := by
  unfold storeOne
  split
  · dsimp only
    rw [sendTo, descs_emitPacket, (met_narrowWrite ..).descs, getCore_modCore]
  · rfl

theorem descs_portD (n : Nat) (s : State) (c : CoreRef) (at_ : Nat) :
    (getCore (portD n s c at_) c).descs = (getCore s c).descs := by
  induction n generalizing s with
  | zero => rfl
  | succ n ih =>
    rw [portD]
    split_ifs
    · rw [ih, descs_storeOne]
    · rfl

theorem descs_countWait (s : State) (c : CoreRef) (n : Nat) : (getCore (countWait s c n) c).descs = (getCore s c).descs := by
  rw [countWait, getCore_modCore]

theorem descs_takeIn (s : State) (c : CoreRef) (p : Flit → Bool) : (getCore (takeIn s c p) c).descs = (getCore s c).descs := by
  rw [takeIn, getCore_modCore]

theorem descs_takeAnswer (s : State) (c : CoreRef) (i kind : Nat) :
    (getCore (takeAnswer s c i kind) c).descs = (getCore s c).descs := by
  unfold takeAnswer
  split
  · exact descs_takeIn ..
  · rfl

/-- Taking an answer from the queue before a core changes the cores alone. -/
theorem takeAnswer_rest (s : State) (c : CoreRef) (i kind : Nat) :
    takeAnswer s c i kind = { s with cores := (takeAnswer s c i kind).cores } := by
  unfold takeAnswer
  split <;> rfl

theorem countAnswer_rest (s : State) (c : CoreRef) (i kind waited : Nat) :
    countWait (takeAnswer s c i kind) c waited =
      { s with cores := (countWait (takeAnswer s c i kind) c waited).cores } := by
  rw [countWait, modCore, setCore, takeAnswer_rest]

/-! ### The answers -/

section

variable {c : CoreRef} {i k waited : Nat} {d : Desc} {s : State} (here : kget? (getCore s c).descs i = some d)
  (outstanding : k ∈ d.outstanding)

include here in
theorem desc_after_port (p : Flit → Bool) (at_ : Nat) :
    kget? (getCore (countWait (portD 17 (takeIn s c p) c at_) c waited) c).descs i = some d := by
  rw [descs_countWait, descs_portD, descs_takeIn, here]

include here in
theorem desc_after_answer (kind : Nat) : kget? (getCore (countWait (takeAnswer s c i kind) c waited) c).descs i = some d := by
  rw [descs_countWait, descs_takeAnswer, here]

/-- READ_DATA of an outstanding flit of a read, in the state after its turn at port D. -/
def readAnswered (s1 : State) (c : CoreRef) (i k : Nat) (d : Desc) (f : Flit) : State :=
  let n := d.lenOf k
  let st := if d.slugFlits then 0 else leAt f.payload 64 1
  if st = 2 then refuseFlit s1 c i k d .targetOff
  else if st = 3 ∨ answerable s1 d k = false then refuseFlit s1 c i k d .badAddress
  else
    let u := if d.kind = 4 then meetStack s1 (d.srcOf k) n else s1
    let p := f.poison || st == 1 || (d.kind == 4 && stackPoisoned u (d.srcOf k) n)
    let v := landBytes u c d (d.rowOf k) (d.offOf k) (answerBytes u d k f) p
    answered (if d.kind = 6 then addF v Reg.HST_RD_BYTES n 0 else v) c i k
      (if p then { d with status := d.status.worse .poison } else d)

include here outstanding in
theorem exec_readData (f : Flit) (kind : d.kind = 2 ∨ d.kind = 4 ∨ d.kind = 6) :
    exec (.readData ⟨c, waited⟩ i k f) s = .next (readAnswered
      (countWait (portD 17 (takeIn s c (· == f)) c (arrivalOf s c (· == f))) c waited) c i k d f) := by
  have read : (d.outstanding.contains k && (d.kind == 2 || d.kind == 4 || d.kind == 6)) = true := by
    simpa [outstanding, or_assoc] using kind
  show execReadData ⟨c, waited⟩ i k f s = _
  simp only [execReadData, desc_after_port here, read, if_true]
  rfl

theorem readAnswered_off {s1 : State} {f : Flit} (off : (if d.slugFlits then 0 else leAt f.payload 64 1) = 2) :
    readAnswered s1 c i k d f = refuseFlit s1 c i k d .targetOff := if_pos off

theorem readAnswered_bad {s1 : State} {f : Flit} (bad : (if d.slugFlits then 0 else leAt f.payload 64 1) = 3 ∨
    ((if d.slugFlits then 0 else leAt f.payload 64 1) ≠ 2 ∧ answerable s1 d k = false)) :
    readAnswered s1 c i k d f = refuseFlit s1 c i k d .badAddress := by
  refine (if_neg ?_).trans (if_pos (bad.imp_right And.right))
  rcases bad with three | ⟨not_two, -⟩
  · omega
  · exact not_two

theorem readAnswered_lands {s1 : State} {f : Flit} (on : (if d.slugFlits then 0 else leAt f.payload 64 1) ≠ 2)
    (good : (if d.slugFlits then 0 else leAt f.payload 64 1) ≠ 3) (can : answerable s1 d k = true) :
    let n := d.lenOf k
    let st := if d.slugFlits then 0 else leAt f.payload 64 1
    let u := if d.kind = 4 then meetStack s1 (d.srcOf k) n else s1
    let p := f.poison || st == 1 || (d.kind == 4 && stackPoisoned u (d.srcOf k) n)
    let v := landBytes u c d (d.rowOf k) (d.offOf k) (answerBytes u d k f) p
    readAnswered s1 c i k d f = answered (if d.kind = 6 then addF v Reg.HST_RD_BYTES n 0 else v) c i k
      (if p then { d with status := d.status.worse .poison } else d) :=
  (if_neg on).trans (if_neg (by simp [good, can]))

include here outstanding in
theorem exec_writeAck_core (kind : d.kind = 3) : exec (.writeAck ⟨c, waited⟩ i k) s =
    .next (answered (countWait (takeAnswer s c i Kind.writeAck) c waited) c i k d) := by
  show execWriteAck ⟨c, waited⟩ i k s = _
  simp [execWriteAck, desc_after_answer here, outstanding, kind]

/-- The forme window does not depend on the queues before the cores. -/
theorem formeHost_countAnswer (s : State) (c : CoreRef) (i kind waited off n : Nat) (wr : Bool) :
    formeHost (countWait (takeAnswer s c i kind) c waited) off n wr = formeHost s off n wr := by
  rw [countAnswer_rest]
  rfl

theorem storeRead_countAnswer (s : State) (c : CoreRef) (i kind waited a n : Nat) :
    storeRead (countWait (takeAnswer s c i kind) c waited) c a n = storeRead s c a n := by
  rw [countAnswer_rest]
  rfl

theorem storePoisoned_countAnswer (s : State) (c : CoreRef) (i kind waited a n : Nat) :
    storePoisoned (countWait (takeAnswer s c i kind) c waited) c a n = storePoisoned s c a n := by
  rw [countAnswer_rest]
  rfl

include here outstanding in
theorem exec_writeAck_host {a : Nat} (kind : d.kind = 7) (window : formeHost s (d.dstOf k) (d.lenOf k) true = some a) :
    exec (.writeAck ⟨c, waited⟩ i k) s = .next (answered (hostWrite (countWait (takeAnswer s c i Kind.writeAck) c waited) a
      (storeRead s c (beatAt (d.srcOf k)) (d.lenOf k))) c i k d) := by
  show execWriteAck ⟨c, waited⟩ i k s = _
  simp [execWriteAck, desc_after_answer here, outstanding, kind, formeHost_countAnswer, window, storeRead_countAnswer]

include here outstanding in
theorem exec_writeAck_beyond (kind : d.kind = 7) (window : formeHost s (d.dstOf k) (d.lenOf k) true = none) :
    exec (.writeAck ⟨c, waited⟩ i k) s =
      .next (refuseFlit (countWait (takeAnswer s c i Kind.writeAck) c waited) c i k d .badAddress) := by
  show execWriteAck ⟨c, waited⟩ i k s = _
  simp [execWriteAck, desc_after_answer here, outstanding, kind, formeHost_countAnswer, window]

include here outstanding in
theorem exec_nack (bad : Bool) : exec (.nack ⟨c, waited⟩ i k bad) s =
    .next (refuseFlit (countWait (takeAnswer s c i Kind.nack) c waited) c i k d (if bad then .badAddress else .targetOff)) := by
  show execNack ⟨c, waited⟩ i k bad s = _
  simp [execNack, desc_after_answer here, outstanding]

include here outstanding in
theorem exec_stackWriteAck (kind : d.kind = 5) :
    let u := countWait (takeAnswer s c i Kind.writeAck) c waited
    exec (.stackWriteAck ⟨c, i, k, waited⟩) s = .next (if stackBytes < d.dstOf k + d.lenOf k then refuseFlit u c i k d .badAddress
      else answered (stackWrite u (d.dstOf k) (storeRead s c (beatAt (d.srcOf k)) (d.lenOf k))
        (storePoisoned s c (beatAt (d.srcOf k)) (d.lenOf k))) c i k d) := by
  intro u
  show execStackWriteAck ⟨c, i, k, waited⟩ s = _
  simp only [execStackWriteAck, desc_after_answer here, landStack, storeRead_countAnswer, storePoisoned_countAnswer]
  exact congrArg _ (if_pos (by simp [outstanding, kind]))

end

/-! ### Where the bytes of an answer land -/

theorem landBytes_row {c : CoreRef} {d : Desc} {r o : Nat} {bs : List Byte} {s : State} (p : Bool) (plain : d.slug = false)
    (access : CanAccess s c (beatAt (d.dstRow r + o)) bs.length) :
    landBytes s c d r o bs p = narrowWrite s c (beatAt (d.dstRow r + o)) bs p := by
  rw [landBytes, if_neg (Bool.eq_false_iff.1 plain)]
  exact onAccess_ok _ _ access

theorem slugRuns_slug (j : Nat) : slugRuns 69 (68 * j) 68 = [(68 * j, 4), (68 * j + 4, 64)] := by
  simp [slugRuns, Nat.add_mod]

theorem slugAt_scales (d : Desc) (r j : Nat) : d.slugAt r (68 * j) = d.dstScale + 4 * (r * (d.rowLen / 68) + j) := by
  simp [Desc.slugAt]

theorem slugAt_codes (d : Desc) (r j : Nat) : d.slugAt r (68 * j + 4) = d.dstRow r + 64 * j := by
  simp [Desc.slugAt, Nat.add_mod, show (68 * j + 4) / 68 = j by omega]

theorem landBytes_slug {c : CoreRef} {d : Desc} {r j : Nat} {bs : List Byte} {s : State} (p : Bool) (slug : d.slug = true)
    (length : bs.length = 68) :
    let q := d.dstScale + 4 * (r * (d.rowLen / 68) + j)
    let a := d.dstRow r + 64 * j
    CanAccess s c q 4 → CanAccess s c a 64 →
      landBytes s c d r (68 * j) bs p = narrowWrite (narrowWrite s c q (bs.take 4) p) c a (bs.drop 4) p := by
  intro q a scales codes
  have codes' : CanAccess (narrowWrite s c q (bs.take 4) p) c a 64 := ((met_narrowWrite ..).canAccess ..).2 codes
  have first : slice bs 0 4 = bs.take 4 := by simp [slice, length]
  have second : slice bs 4 64 = bs.drop 4 := by
    have : ((bs.drop 4).take 64) = bs.drop 4 := List.take_of_length_le (by simp [length])
    simp [slice, this, length]
  rw [landBytes, if_pos slug, length, slugRuns_slug, List.foldl_cons, List.foldl_cons, List.foldl_nil, slugAt_scales, slugAt_codes,
    Nat.sub_self, Nat.add_sub_cancel_left, first, second, onAccess_ok _ _ scales, onAccess_ok _ _ codes']

/-- The scales of a slug stand as written: its codes touch no byte of theirs, and no word of theirs has an error left. -/
theorem storeRead_scales {c : CoreRef} {q a : Nat} {xs ys : List Byte} (s : State) (p : Bool)
    (apart : q + xs.length ≤ a ∨ a + ys.length ≤ q) :
    storeRead (narrowWrite (narrowWrite s c q xs p) c a ys p) c q xs.length = xs := by
  refine Eq.trans (memReadBytes_congr fun i hi => ?_) (storeRead_narrowWrite_same s c q xs p)
  have touched : (storeAddr c q + i) / 64 ∈ wordsOf (storeAddr c q) xs.length := by
    rw [mem_wordsOf]
    omega
  refine memRead_narrowWrite_out _ _ _ _ _ ?_ (.inr (wordErrs_narrowWrite _ _ _ _ _ touched))
  unfold storeAddr
  omega

/-- Settles O20: READ_DATA is `readAnswered`; the other answers and the landing by the lemmas above. -/
theorem flitAnswers : Obligations.FlitAnswers := by
  unfold Obligations.FlitAnswers
  refine ⟨fun c i k waited d s here out => ⟨fun f kind => ?_, exec_writeAck_core here out,
    fun kind => ⟨fun a => exec_writeAck_host here out kind, exec_writeAck_beyond here out kind⟩, exec_nack here out⟩,
    fun c d r o bs p s => ⟨fun plain access some_ => ?_, fun j slug at_ length => ?_⟩, fun c i k waited d s here kind out => ?_⟩
  · rw [exec_readData here out f kind]
    exact ⟨fun on good can => congrArg _ (readAnswered_lands on good can), fun off => congrArg _ (readAnswered_off off),
      fun bad => congrArg _ (readAnswered_bad bad)⟩
  · rw [landBytes_row p plain access]
    refine ⟨storeRead_narrowWrite_same .., fun poison => ?_⟩
    subst poison
    exact storePoisoned_narrowWrite s c _ some_
  · intro q a scales codes apart
    subst at_
    have four : (bs.take 4).length = 4 := by simp [length]
    have rest : (bs.drop 4).length = 64 := by simp [length]
    rw [landBytes_slug p slug length scales codes]
    have low := storeRead_scales (c := c) (q := q) (a := a) (xs := bs.take 4) (ys := bs.drop 4) s p (by rwa [four, rest])
    have high := storeRead_narrowWrite_same (narrowWrite s c q (bs.take 4) p) c a (bs.drop 4) p
    rw [four] at low
    rw [rest] at high
    exact ⟨low, high⟩
  · rw [exec_stackWriteAck here out kind]
    exact ⟨fun fits => congrArg _ (if_neg (Nat.not_lt.2 fits)), fun beyond => congrArg _ (if_pos beyond)⟩

end Sys2Proof.Machine
end

section
/-! Remote reads and writes at their target (R97, R131 to R136), and that a write which arrives lands (O21). -/

namespace Sys2Proof.Machine

/-- The order in which a target refuses (R135): rail off, then a bad address, then a gated bank. -/
theorem refusals {α : Type} (on bad shut : Bool) (off range x : α) :
    let r := if !on then off else if bad then range else if shut then off else x
    (on = true → bad = false → shut = false → r = x) ∧ (on = false ∨ (bad = false ∧ shut = true) → r = off) ∧
      (on = true → bad = true → r = range) := by
  cases on <;> cases bad <;> cases shut <;> simp

/-! ### Remote reads and writes at their target -/

section

variable {c src : CoreRef} {s : State} (exists_ : coreExists s c = true)

theorem coreExists_takeIn (s : State) (c d : CoreRef) (p : Flit → Bool) : coreExists (takeIn s c p) d = coreExists s d := rfl

include exists_ in
theorem exec_readReq (addr len : Nat) (st : Word64) (waited : Nat) :
    let mine := fun (f : Flit) => flitKind f == Kind.readReq && f.stamp == st
    let s1 := takeIn s c mine
    let a := beatAt addr
    let n := (len + 15) / 16 * 16
    let t := meetNarrow (countWait (portD 17 s1 c (arrivalOf s c mine)) c waited) c a n
    exec (.readReq c addr len src st waited) s = .next (
      if !railOn s (chaseOf c) then refuseRemote s1 c src st addr false
      else if badBeats a (n / 16) then refuseRemote s1 c src st addr true
      else if bankShut s c a then refuseRemote s1 c src st addr false
      else sendTo t c src Kind.readData 4 st.toNat
        (slice (storeRead t c a n) 0 64 ++ [if storePoisoned t c a n then 1 else 0]) (storePoisoned t c a n)) := by
  intro mine s1 a n t
  show execReadReq c addr len src st waited s = _
  refine congrArg _ (if_neg ?_)
  simp [coreExists_takeIn, exists_]

/-- A WRITE flit of `beats` beats for address `a`, taken from the queue before its core. -/
def writeArrives (s1 : State) (c : CoreRef) (f : Flit) (src : CoreRef) (d a beats : Nat) : State :=
  if (getCore s1 c).wbuf.length < 16 then
    modCore s1 c (fun k => { k with
      wbuf := k.wbuf ++ [⟨a, slice f.payload 4 (16 * beats), countedWrite s1 src d f.stamp, f.poison, src, f.stamp.toNat,
        k.arrived⟩]
      arrived := k.arrived + 1 })
  else holdIn s1 c f

include exists_ in
theorem exec_write (f : Flit) (d : Nat) :
    let s1 := takeIn s c (· == f)
    let w := leAt f.payload 0 4
    let a := beatAt (w % 2 ^ 19)
    let beats := w / 2 ^ 19 % 8
    exec (.write c f src d) s = .next (
      if !railOn s (chaseOf c) then refuseRemote s1 c src f.stamp a false
      else if badBeats a beats then refuseRemote s1 c src f.stamp a true
      else if bankShut s c a then refuseRemote s1 c src f.stamp a false
      else if beats = 0 then sendTo s1 c src Kind.writeAck 4 f.stamp.toNat (freeBytes 0x107 [] 68) false
      else writeArrives s1 c f src d a beats) := by
  intro s1 w a beats
  show execWrite c f src d s = _
  refine congrArg _ (if_neg ?_)
  simp [coreExists_takeIn, exists_]

end

theorem wbuf_takeIn (s : State) (c : CoreRef) (p : Flit → Bool) : (getCore (takeIn s c p) c).wbuf = (getCore s c).wbuf := by
  rw [takeIn, getCore_modCore]

theorem writeArrives_room {s1 : State} {c : CoreRef} {f : Flit} {src : CoreRef} {d a beats : Nat}
    (room : (getCore s1 c).wbuf.length < 16) : writeArrives s1 c f src d a beats = modCore s1 c (fun k => { k with
      wbuf := k.wbuf ++ [⟨a, slice f.payload 4 (16 * beats), countedWrite s1 src d f.stamp, f.poison, src, f.stamp.toNat,
        k.arrived⟩]
      arrived := k.arrived + 1 }) := if_pos room

theorem writeArrives_full {s1 : State} {c : CoreRef} {f : Flit} {src : CoreRef} {d a beats : Nat}
    (full : 16 ≤ (getCore s1 c).wbuf.length) : writeArrives s1 c f src d a beats = holdIn s1 c f := if_neg (Nat.not_lt.2 full)

/-! ### The write buffer empties through port D -/

theorem wbuf_countWait (s : State) (c : CoreRef) (n : Nat) : (getCore (countWait s c n) c).wbuf = (getCore s c).wbuf := by
  rw [countWait, getCore_modCore]

theorem nextWrite_countWait (s : State) (c : CoreRef) (n : Nat) : nextWrite (countWait s c n) c = nextWrite s c := by
  simp only [nextWrite, wbuf_countWait]
  rfl

theorem exec_remoteWriteStored_waits {s : State} {c : CoreRef} {w : WBuf} (waited : Nat) (next_ : nextWrite s c = some w)
    (few : (getCore s c).wbuf.length < 12) (older : olderWaits s c w.at_ = true) :
    exec (.remoteWriteStored ⟨c, waited⟩) s = .next s := by
  show execRemoteWriteStored ⟨c, waited⟩ s = _
  simp [execRemoteWriteStored, next_, few, older]

theorem exec_remoteWriteStored {s : State} {c : CoreRef} {w : WBuf} (waited : Nat) (next_ : nextWrite s c = some w)
    (turn : 12 ≤ (getCore s c).wbuf.length ∨ olderWaits s c w.at_ = false) :
    let v := modCore (countWait s c waited) c (fun k => { k with wbuf := k.wbuf.erase w })
    exec (.remoteWriteStored ⟨c, waited⟩) s =
      .next (sendTo (narrowWrite v c w.addr w.data w.poison) c w.src Kind.writeAck 4 w.stamp (freeBytes 0x107 [] 68) false) := by
  intro v
  have goes : ((decide ((getCore s c).wbuf.length < 12)) && olderWaits s c w.at_) = false := by
    rcases turn with many | none_
    · simp [Nat.not_lt.2 many]
    · simp [none_]
  show execRemoteWriteStored ⟨c, waited⟩ s = _
  simp only [execRemoteWriteStored, next_, goes, storeOne, nextWrite_countWait]
  rfl

theorem getCore_emitPacket (s : State) (c : CoreRef) (f : Flit) :
    ∃ l, getCore (emitPacket s c f) c = { getCore s c with txWait := l } := by
  unfold emitPacket
  split_ifs
  · exact ⟨_, getCore_modCore ..⟩
  · exact ⟨_, by rw [getCore, emitFlit_cores, ← getCore]⟩

theorem emitPacket_mem (s : State) (c : CoreRef) (f : Flit) : (emitPacket s c f).mem = s.mem := by
  unfold emitPacket emitFlit
  split_ifs
  · rfl
  · split <;> rfl

theorem sendTo_mem (s : State) (c d : CoreRef) (kind tclass stamp : Nat) (payload : List Byte) (p : Bool) :
    (sendTo s c d kind tclass stamp payload p).mem = s.mem := emitPacket_mem ..

theorem wbuf_sendTo (s : State) (c d : CoreRef) (kind tclass stamp : Nat) (payload : List Byte) (p : Bool) :
    (getCore (sendTo s c d kind tclass stamp payload p) c).wbuf = (getCore s c).wbuf := by
  obtain ⟨l, core⟩ := getCore_emitPacket s c ⟨BitVec.ofNat 64 stamp, routeWord d.lcol.val d.row.val tclass kind,
    slice payload 0 68, 0, p⟩
  rw [sendTo, core]

/-! ### A write lands -/

/-- Each word that a local range touches in the stores is one of the core's. -/
theorem exists_wordsAt {c : CoreRef} {a n w : Nat} (h : w ∈ wordsOf (storeAddr c a) n) :
    ∃ v ∈ wordsAt a n, storeAddr c v / 64 = w := by
  rw [mem_wordsOf] at h
  unfold storeAddr coreBytes at h ⊢
  exact ⟨64 * (w - coreKey c * 0x1400), List.mem_map_of_mem (mem_wordsOf.2 (by omega)), by omega⟩

theorem bytesBut_narrowWrite {s : State} {c : CoreRef} {a : Nat} {bs : List Byte} (p : Bool)
    (clean : ∀ w ∈ wordsAt a bs.length, errsAt s c w = []) :
    BytesBut s.mem.store (narrowWrite s c a bs p).mem.store (storeAddr c a) bs.length := by
  intro x out
  refine memRead_narrowWrite_out s c a bs p out ?_
  by_cases touched : x / 64 ∈ wordsOf (storeAddr c a) bs.length
  · obtain ⟨v, hv, same⟩ := exists_wordsAt touched
    exact .inr (same ▸ clean v hv)
  · exact .inl touched

/-- Storing an entry of the write buffer, and acknowledging it, changes the store only where the entry says. -/
theorem stored_lands (v : State) (c d : CoreRef) (w : WBuf) (kind tclass stamp : Nat) (payload : List Byte) (p : Bool) :
    let u := sendTo (narrowWrite v c w.addr w.data w.poison) c d kind tclass stamp payload p
    storeRead u c w.addr w.data.length = w.data ∧
      (∀ x, x / 64 ∉ wordsOf (storeAddr c w.addr) w.data.length → memRead u.mem.store x = memRead v.mem.store x) ∧
      ((∀ x ∈ wordsAt w.addr w.data.length, errsAt v c x = []) →
        BytesBut v.mem.store u.mem.store (storeAddr c w.addr) w.data.length) ∧
      (getCore u c).wbuf = (getCore v c).wbuf ∧ u.mem.stack = v.mem.stack ∧ u.mem.host = v.mem.host := by
  intro u
  have mem : u.mem = (narrowWrite v c w.addr w.data w.poison).mem := sendTo_mem ..
  have met := met_narrowWrite v c w.addr w.data w.poison
  refine ⟨?_, fun x away => ?_, fun clean => ?_, ?_, ?_, ?_⟩
  · rw [storeRead, mem]
    exact storeRead_narrowWrite_same ..
  · rw [mem]
    by_cases out : x < storeAddr c w.addr ∨ storeAddr c w.addr + w.data.length ≤ x
    · exact memRead_narrowWrite_out _ _ _ _ _ out (.inl away)
    · rw [mem_wordsOf] at away
      omega
  · rw [mem]
    exact bytesBut_narrowWrite _ clean
  · rw [wbuf_sendTo, met.wbuf]
  · rw [mem, met.rest]
  · rw [mem, met.rest]

/-- What a write that has just arrived at an empty write buffer leaves when it is stored. -/
theorem write_lands {t : State} {c : CoreRef} {w : WBuf} (waited : Nat) (only : (getCore t c).wbuf = [w])
    (turn : olderWaits t c w.at_ = false) :
    ∃ u, exec (.remoteWriteStored ⟨c, waited⟩) t = .next u ∧ storeRead u c w.addr w.data.length = w.data ∧
      (∀ x, x / 64 ∉ wordsOf (storeAddr c w.addr) w.data.length → memRead u.mem.store x = memRead t.mem.store x) ∧
      ((∀ v ∈ wordsAt w.addr w.data.length, errsAt t c v = []) →
        BytesBut t.mem.store u.mem.store (storeAddr c w.addr) w.data.length) ∧
      (getCore u c).wbuf = [] ∧ u.mem.stack = t.mem.stack ∧ u.mem.host = t.mem.host := by
  have next_ : nextWrite t c = some w := by
    rw [nextWrite, only]
    simp only [List.find?_cons, List.find?_nil, List.head?_cons]
    split <;> rfl
  obtain ⟨data, out, bytes, wbuf, stack, host⟩ := stored_lands
    (modCore (countWait t c waited) c (fun k => { k with wbuf := k.wbuf.erase w })) c w.src w Kind.writeAck 4 w.stamp
    (freeBytes 0x107 [] 68) false
  refine ⟨_, exec_remoteWriteStored waited next_ (.inr turn), data, out, bytes, wbuf.trans ?_, stack, host⟩
  rw [getCore_modCore]
  simp [wbuf_countWait, only]

/-- The core with `w` behind the other entries of its write buffer. -/
def withWrite (s : State) (c : CoreRef) (w : WBuf) : State :=
  setCore s c { getCore s c with wbuf := (getCore s c).wbuf ++ [w], arrived := (getCore s c).arrived + 1 }

theorem wbuf_withWrite {s : State} {c : CoreRef} {w : WBuf} (empty : (getCore s c).wbuf = []) :
    (getCore (withWrite s c w) c).wbuf = [w] := by
  rw [withWrite, getCore_setCore, empty]
  rfl

theorem olderWaits_withWrite {s : State} {c : CoreRef} {p : Flit → Bool} {w : WBuf} {at_ : Nat}
    (none_ : olderWaits s c at_ = false) : olderWaits (withWrite (takeIn s c p) c w) c at_ = false := by
  simp only [olderWaits, withWrite, takeIn, getCore_setCore, getCore_modCore, Bool.or_eq_false_iff, List.any_eq_false] at none_ ⊢
  exact ⟨fun x hx => none_.1 x (List.mem_of_mem_eraseP hx), none_.2⟩

/-- Settles O21: a read, a write and a store from the write buffer by their equations; the landing by `write_lands`. -/
theorem remoteAccesses : Obligations.RemoteAccesses := by
  unfold Obligations.RemoteAccesses
  refine ⟨fun c src s exists_ => ⟨fun addr len st waited => ?_, fun f d => ?_, fun w waited next_ =>
    ⟨exec_remoteWriteStored_waits waited next_, exec_remoteWriteStored waited next_⟩⟩,
    fun c src f d waited s exists_ on empty none_ => ?_⟩
  · intro mine s1 a n
    rw [exec_readReq exists_]
    obtain ⟨reads, off, range⟩ := refusals (railOn s (chaseOf c)) (badBeats a (n / 16)) (bankShut s c a)
      (refuseRemote s1 c src st addr false) (refuseRemote s1 c src st addr true) _
    exact ⟨fun on good open_ => congrArg _ (reads on good open_), fun h => congrArg _ (off h), fun on bad => congrArg _ (range on bad)⟩
  · intro s1 w a beats
    rw [exec_write exists_]
    obtain ⟨writes, off, range⟩ := refusals (railOn s (chaseOf c)) (badBeats a beats) (bankShut s c a)
      (refuseRemote s1 c src f.stamp a false) (refuseRemote s1 c src f.stamp a true) _
    have wbuf : (getCore s1 c).wbuf = (getCore s c).wbuf := wbuf_takeIn ..
    refine ⟨fun on good open_ some_ => ⟨fun room => ?_, fun full => ?_⟩, fun on good open_ none_ => ?_,
      fun on bad => congrArg _ (range on bad), fun h => congrArg _ (off h)⟩
    · refine congrArg _ ((writes on good open_).trans ((if_neg some_).trans ?_))
      rw [writeArrives_room (by rwa [wbuf])]
    · exact congrArg _ ((writes on good open_).trans ((if_neg some_).trans (writeArrives_full (by rwa [wbuf]))))
    · exact congrArg _ ((writes on (none_ ▸ good) open_).trans (if_pos none_))
  · intro a n good open_ some_
    have beats : n / 16 = leAt f.payload 0 4 / 2 ^ 19 % 8 := Nat.mul_div_cancel_left _ (by decide)
    have empty1 : (getCore (takeIn s c (· == f)) c).wbuf = [] := by rw [wbuf_takeIn, empty]
    have arrives : exec (.write c f src d) s = .next (writeArrives (takeIn s c (· == f)) c f src d a (n / 16)) := by
      rw [exec_write exists_, ← beats]
      exact congrArg _ (((refusals _ _ _ _ _ _).1 on good open_).trans (if_neg (by omega)))
    rw [arrives, writeArrives_room (by rw [empty1]; decide)]
    obtain ⟨u, stored, landed⟩ := write_lands (w := ⟨a, slice f.payload 4 (16 * (n / 16)),
      countedWrite (takeIn s c (· == f)) src d f.stamp, f.poison, src, f.stamp.toNat, (getCore s c).arrived⟩) waited
      (wbuf_withWrite empty1) (olderWaits_withWrite none_)
    have data : 16 * (n / 16) = n := by omega
    rw [slice_length, data] at landed
    have arrived : (getCore (takeIn s c (· == f)) c).arrived = (getCore s c).arrived := by rw [takeIn, getCore_modCore]
    rw [← arrived] at stored
    exact ⟨_, u, rfl, rfl, stored, landed⟩

end Sys2Proof.Machine
end

section
/-! The send operations (R142 to R160), FAB_DEADLOCK and CONTROL (O22). -/

namespace Sys2Proof.Machine

/-! ### The route word of a packet's class -/

section

variable {route cls : Nat} (word : route < 2 ^ 32) (class_ : cls < 8)

include word class_ in
theorem toNat_classRoute : (BitVec.ofNat 32 (classRoute route cls)).toNat = classRoute route cls := by
  rw [BitVec.toNat_ofNat, Nat.mod_eq_of_lt]
  unfold classRoute
  omega

include class_ in
/-- Only the class of a route word is replaced. -/
theorem classRoute_fields : classRoute route cls / 2 ^ 25 % 16 = route / 2 ^ 25 % 16 ∧ classRoute route cls / 2 ^ 21 % 8 = cls ∧
    classRoute route cls % 2 ^ 11 = route % 2 ^ 11 ∧ classRoute route cls / 2 ^ 11 % 2 ^ 10 = route / 2 ^ 11 % 2 ^ 10 ∧
      classRoute route cls / 2 ^ 24 % 2 = route / 2 ^ 24 % 2 := by
  unfold classRoute
  omega

end

theorem Kind.cls_lt (k : Nat) : Kind.cls k < 8 := by
  unfold Kind.cls
  split_ifs <;> decide

theorem sendClass_lt (f : Flit) : sendClass f < 8 := by
  unfold sendClass
  split_ifs
  · decide
  · exact Kind.cls_lt _

/-- The flit as it is sent: with its class in the route word and its number in the packet. -/
def sentAs (f : Flit) (i : Nat) : Flit := { f with route := BitVec.ofNat 32 (classRoute f.route.toNat (sendClass f)), index := i }

theorem sentAs_rest (f : Flit) (i : Nat) : (sentAs f i).stamp = f.stamp ∧ (sentAs f i).payload = f.payload ∧
    (sentAs f i).index = i ∧ (sentAs f i).poison = f.poison := by
  cases f
  exact ⟨rfl, rfl, rfl, rfl⟩

theorem toNat_sentAs_route (f : Flit) (i : Nat) : (sentAs f i).route.toNat = classRoute f.route.toNat (sendClass f) :=
  toNat_classRoute f.route.isLt (sendClass_lt f)

theorem sentAs_fields (f : Flit) (i : Nat) : flitKind (sentAs f i) = flitKind f ∧ flitClass (sentAs f i) = sendClass f ∧
    flitDcol (sentAs f i) = flitDcol f ∧ flitDrow (sentAs f i) = flitDrow f ∧ flitEop (sentAs f i) = flitEop f := by
  obtain ⟨kind, class_, dcol, drow, eop⟩ := classRoute_fields (route := f.route.toNat) (sendClass_lt f)
  refine ⟨?_, ?_, ?_, ?_, ?_⟩
  · rw [flitKind, toNat_sentAs_route, kind, flitKind]
  · rw [flitClass, toNat_sentAs_route, class_]
  · rw [flitDcol, toNat_sentAs_route, dcol, flitDcol]
  · rw [flitDrow, toNat_sentAs_route, drow, flitDrow]
  · rw [flitEop, flitEop, toNat_sentAs_route, Nat.testBit_eq_decide_div_mod_eq, eop, Nat.testBit_eq_decide_div_mod_eq]

/-! ### Flits enter the router of their core -/

/-- The flit where it stands once it has entered router `r` from the core. -/
def entered (s : State) (r : RouterRef) (f : Flit) : FlitAt :=
  ⟨r, 6, f, decide (4 ≤ heldAt s r 6 (flitClass f) false) || decide (0 < heldAt s r 6 (flitClass f) true),
    (getChase s (chaseOfRouter r)).clk, none⟩

/-- The state with one more flit in the fabric. -/
def putFlit (s : State) (x : FlitAt) : State := { s with fabric := s.fabric ++ [x] }

theorem getCore_putFlit (s : State) (x : FlitAt) (c : CoreRef) : getCore (putFlit s x) c = getCore s c := rfl

theorem mem_putFlit (s : State) (x : FlitAt) : x ∈ (putFlit s x).fabric := List.mem_append_right _ (List.mem_singleton.2 rfl)

/-- The core with `l` for its open packets. -/
def Core.opening (k : Core) (l : List TxOpen) : Core := { k with txOpen := l }

theorem emitFlit_eq {s : State} {c : CoreRef} {p : Nat} (at_ : physCol s c = some p) (f : Flit) :
    emitFlit s c f = putFlit s (entered s ⟨c.row, Fin.ofNat 1056 p⟩ f) := by
  rw [emitFlit, at_]
  rfl

theorem emitFlit_passOp {s : State} {c : CoreRef} {p : Nat} (at_ : physCol s c = some p) (g : Core → Core) (f : Flit) :
    emitFlit (modCore (passOp s c) c g) c f =
      putFlit (modCore (passOp s c) c g) (entered (modCore (passOp s c) c g) ⟨c.row, Fin.ofNat 1056 p⟩ f) :=
  emitFlit_eq (s := modCore (passOp s c) c g) at_ f

theorem emitFlit_fabric (s : State) (c : CoreRef) (f : Flit) : ∃ l, (emitFlit s c f).fabric = s.fabric ++ l := by
  unfold emitFlit
  split
  · exact ⟨_, rfl⟩
  · exact ⟨[], (List.append_nil _).symm⟩

theorem mem_flushWaiting {s : State} {x : FlitAt} (c : CoreRef) (cls : Nat) (h : x ∈ s.fabric) :
    x ∈ (flushWaiting s c cls).fabric := by
  unfold flushWaiting
  generalize (getCore s c).txWait.filter (fun f => flitClass f == cls) = l
  have h : x ∈ (modCore s c (fun k => { k with txWait := k.txWait.filter (fun f => flitClass f != cls) })).fabric := h
  revert h
  generalize modCore s c (fun k => { k with txWait := k.txWait.filter (fun f => flitClass f != cls) }) = t
  intro h
  induction l generalizing t with
  | nil => exact h
  | cons f l ih =>
    obtain ⟨sent, grown⟩ := emitFlit_fabric t c f
    exact ih _ (grown ▸ List.mem_append_left _ h)

/-! ### SEND_STATIC -/

theorem getCore_passOp (s : State) (c : CoreRef) : getCore (passOp s c) c = (getCore s c).goto ((getCore s c).op + 1) :=
  getCore_modCore ..

/-- The core once its send slot `i` is written. -/
def withSlot (k : Core) (i : Nat) (f : Flit) : Core := { k with sendFile := kset k.sendFile i f }.fresh 5 [i]

theorem exec_sendStatic {c : CoreRef} {s : State} (i : Fin 128) (st : Word64) (bs : List Byte) (p : Bool)
    (ready : runs s c (opCode 5 1) = true) : exec (.sendStatic c i st bs p) s =
      .next (modCore (passOp s c) c (fun k => withSlot k i.val ⟨st, 0, bs, 0, p⟩)) := by
  show execSendStatic c i st bs p s = _
  rw [execSendStatic, asOp_runs _ ready]
  rfl

theorem parity_withSlot (k : Core) (i : Nat) (f : Flit) : (5, i) ∉ (withSlot k i f).parity := by
  simp [withSlot, Core.fresh]

theorem sendStatic_gives (c : CoreRef) (i : Fin 128) (st : Word64) (bs : List Byte) (p : Bool) (s : State)
    (ready : runs s c (opCode 5 1) = true) : Gives (.sendStatic c i st bs p) s fun t =>
      kget? (getCore t c).sendFile i.val = some ⟨st, 0, bs, 0, p⟩ ∧ (5, i.val) ∉ (getCore t c).parity ∧
      t = { s with cores := t.cores } ∧ AgreeBut s.cores t.cores [coreKey c] ∧
      AgreeBut (getCore s c).sendFile (getCore t c).sendFile [i.val] ∧
      (getCore t c).recvFile = (getCore s c).recvFile ∧ (getCore t c).accs = (getCore s c).accs ∧
      (getCore t c).file = (getCore s c).file ∧ (getCore t c).gates = (getCore s c).gates ∧
      (getCore t c).descs = (getCore s c).descs := by
  refine ⟨_, exec_sendStatic i st bs p ready, ?_⟩
  beta_reduce
  rw [getCore_modCore, getCore_passOp]
  exact ⟨kget?_kset_same .., parity_withSlot _ _ _, rfl,
    modCore_cores_agreeBut (modCore_cores_agreeBut (agreeBut_refl _ _) _) _, agreeBut_kset (agreeBut_refl _ _) _ (by simp),
    rfl, rfl, rfl, rfl, rfl⟩

/-! ### SEND_DYNAMIC -/

theorem exec_sendDynamic_flit {c : CoreRef} {s : State} (f : Flit) (instr : Nat) (ready : runs s c (opCode 5 2) = true) :
    exec (.sendDynamic c ⟨f, .flit, instr⟩) s = .next (sendPacket (passOp s c) c f) := by
  show execSendDynamic c ⟨f, .flit, instr⟩ s = _
  rw [execSendDynamic, asOp_runs _ ready]

theorem txOpen_passOp (s : State) (c : CoreRef) : (getCore (passOp s c) c).txOpen = (getCore s c).txOpen := by
  rw [getCore_passOp]
  rfl

theorem txWait_passOp (s : State) (c : CoreRef) : (getCore (passOp s c) c).txWait = (getCore s c).txWait := by
  rw [getCore_passOp]
  rfl

/-- The first flit of a packet whose class no packet of the core holds. -/
theorem sendPacket_first {s : State} {c : CoreRef} {f : Flit} (none_ : ∀ t ∈ (getCore s c).txOpen, t.cls ≠ sendClass f) :
    sendPacket s c f = emitFlit (modCore s c (fun k => k.opening (k.txOpen ++ (if flitEop f then [] else
      [⟨sendClass f, headRoute (classRoute f.route.toNat (sendClass f)), f.stamp.toNat, 1⟩])))) c (sentAs f 0) := by
  have free : (getCore s c).txOpen.find? (fun t => t.cls == sendClass f) = none :=
    List.find?_eq_none.2 fun t ht same => none_ t ht (beq_iff_eq.1 same)
  simp only [sendPacket, free]
  rfl

section

variable {s : State} {c : CoreRef} {f : Flit} {y : TxOpen}
  (held : (getCore s c).txOpen.find? (fun t => t.cls == sendClass f) = some y)

include held in
theorem sendPacket_next (route : y.route = headRoute (classRoute f.route.toNat (sendClass f))) (stamp : y.stamp = f.stamp.toNat) :
    let u := emitFlit (modCore s c (fun k => k.opening (k.txOpen.filter (fun x => x.cls != sendClass f)
      ++ (if flitEop f then [] else [{ y with next := y.next + 1 }])))) c (sentAs f y.next)
    sendPacket s c f = if flitEop f then flushWaiting u c (sendClass f) else u := by
  intro u
  simp only [sendPacket, held]
  exact if_pos ⟨route, stamp⟩

include held in
theorem sendPacket_other (other : y.route ≠ headRoute (classRoute f.route.toNat (sendClass f)) ∨ y.stamp ≠ f.stamp.toNat) :
    sendPacket s c f = if flitEop f then emitPacket s c (sentAs f 0) else s := by
  simp only [sendPacket, held]
  exact if_neg fun h => other.elim (· h.1) (· h.2)

include held in
/-- A one-flit packet of a held class waits. -/
theorem emitPacket_waits (i : Nat) :
    emitPacket s c (sentAs f i) = modCore s c (fun k => { k with txWait := k.txWait ++ [sentAs f i] }) := by
  obtain ⟨-, class_, -⟩ := sentAs_fields f i
  have same : (y.cls == sendClass f) = true := List.find?_some (p := fun t : TxOpen => t.cls == sendClass f) held
  exact if_pos (List.any_eq_true.2 ⟨y, List.mem_of_find?_eq_some held, by rw [class_, same]⟩)

end

theorem sendDynamic_begins (c : CoreRef) (f : Flit) (p instr : Nat) (s : State) (ready : runs s c (opCode 5 2) = true)
    (at_ : physCol s c = some p) (none_ : ∀ t ∈ (getCore s c).txOpen, t.cls ≠ sendClass f) :
    let r : RouterRef := ⟨c.row, Fin.ofNat 1056 p⟩
    Gives (.sendDynamic c ⟨f, .flit, instr⟩) s fun t => ∃ x : FlitAt, t.fabric = s.fabric ++ [x] ∧ x.router = r ∧ x.input = 6 ∧
      x.flit.payload = f.payload ∧ x.flit.stamp = f.stamp ∧ x.flit.poison = f.poison ∧ x.flit.index = 0 ∧
      flitKind x.flit = flitKind f ∧ flitClass x.flit = sendClass f ∧ flitDcol x.flit = flitDcol f ∧
      flitDrow x.flit = flitDrow f ∧ flitEop x.flit = flitEop f ∧
      (heldAt s r 6 (sendClass f) false < 4 → heldAt s r 6 (sendClass f) true = 0 → x.queued = false) ∧
      t = { s with fabric := t.fabric, cores := t.cores } ∧
      (flitEop f = true → getCore t c = getCore (passOp s c) c) ∧
      (flitEop f = false → ∃ y ∈ (getCore t c).txOpen, y.cls = sendClass f ∧ y.next = 1) := by
  intro r
  obtain ⟨kind, class_, dcol, drow, eop⟩ := sentAs_fields f 0
  obtain ⟨stamp, payload, index, poison⟩ := sentAs_rest f 0
  have sent := sendPacket_first (s := passOp s c) (c := c) (f := f) (by rwa [txOpen_passOp])
  rw [emitFlit_passOp at_] at sent
  refine ⟨_, (exec_sendDynamic_flit f instr ready).trans (congrArg _ sent), _, rfl, rfl, rfl, payload, stamp, poison, index, kind, class_,
    dcol, drow, eop, fun few none_ => ?_, rfl, fun one => ?_, fun more => ?_⟩
  · rw [entered, class_]
    exact Bool.or_eq_false_iff.2 ⟨decide_eq_false (Nat.not_le.2 few), decide_eq_false (none_ ▸ Nat.lt_irrefl 0)⟩
  · rw [getCore_putFlit, getCore_modCore, if_pos one, List.append_nil, Core.opening]
  · rw [getCore_putFlit, getCore_modCore, if_neg (Bool.eq_false_iff.1 more)]
    exact ⟨_, List.mem_append_right _ (List.mem_singleton.2 rfl), rfl, rfl⟩

theorem sendDynamic_continues (c : CoreRef) (f : Flit) (y : TxOpen) (instr : Nat) (s : State)
    (ready : runs s c (opCode 5 2) = true) (held : (getCore s c).txOpen.find? (fun t => t.cls == sendClass f) = some y)
    (route : y.route = headRoute (classRoute f.route.toNat (sendClass f))) (stamp : y.stamp = f.stamp.toNat)
    (at_ : (physCol s c).isSome = true) :
    Gives (.sendDynamic c ⟨f, .flit, instr⟩) s fun t => ∃ x : FlitAt, x ∈ t.fabric ∧ x.flit.index = y.next ∧
      x.flit.payload = f.payload ∧ (flitEop f = false → t.fabric = s.fabric ++ [x]) := by
  obtain ⟨p, at_⟩ := Option.isSome_iff_exists.1 at_
  have sent := sendPacket_next (s := passOp s c) (by rwa [txOpen_passOp]) route stamp
  dsimp only at sent
  rw [emitFlit_passOp at_] at sent
  obtain ⟨-, payload, index, -⟩ := sentAs_rest f y.next
  refine ⟨_, (exec_sendDynamic_flit f instr ready).trans (congrArg _ sent), entered (modCore (passOp s c) c fun k => k.opening
    (k.txOpen.filter (fun x => x.cls != sendClass f) ++ (if flitEop f then [] else [{ y with next := y.next + 1 }])))
    ⟨c.row, Fin.ofNat 1056 p⟩ (sentAs f y.next), ?_, index, payload, fun more => ?_⟩
  · split_ifs
    · exact mem_flushWaiting _ _ (mem_putFlit ..)
    · exact mem_putFlit ..
  · rw [if_neg (Bool.eq_false_iff.1 more)]
    rfl

theorem sendDynamic_waits (c : CoreRef) (f : Flit) (y : TxOpen) (instr : Nat) (s : State)
    (ready : runs s c (opCode 5 2) = true) (held : (getCore s c).txOpen.find? (fun t => t.cls == sendClass f) = some y)
    (other : y.route ≠ headRoute (classRoute f.route.toNat (sendClass f)) ∨ y.stamp ≠ f.stamp.toNat) :
    (flitEop f = false → exec (.sendDynamic c ⟨f, .flit, instr⟩) s = .next (passOp s c)) ∧
      (flitEop f = true → Gives (.sendDynamic c ⟨f, .flit, instr⟩) s fun t => ∃ g : Flit, t.fabric = s.fabric ∧
        (getCore t c).txWait = (getCore s c).txWait ++ [g] ∧ g.payload = f.payload ∧ g.stamp = f.stamp ∧ g.index = 0) := by
  have held' : (getCore (passOp s c) c).txOpen.find? (fun t => t.cls == sendClass f) = some y := by rwa [txOpen_passOp]
  obtain ⟨stamp, payload, index, -⟩ := sentAs_rest f 0
  have sent := sendPacket_other held' other
  refine ⟨fun more => ?_, fun one => ?_⟩
  · rw [exec_sendDynamic_flit f instr ready, sent, if_neg (Bool.eq_false_iff.1 more)]
  · rw [if_pos one, emitPacket_waits held' 0] at sent
    refine ⟨_, (exec_sendDynamic_flit f instr ready).trans (congrArg _ sent), sentAs f 0, rfl, ?_, payload, stamp, index⟩
    rw [getCore_modCore, txWait_passOp]

theorem exec_sendDynamic_slug (c : CoreRef) (f : Flit) (x : SlugSrc) (instr : Nat) (s : State)
    (ready : runs s c (opCode 5 2) = true) (codes : CanAccess s c x.codes 64) (scales : CanAccess s c x.scales 4) :
    let u := meetNarrow (meetNarrow (passOp s c) c x.codes 64) c x.scales 4
    exec (.sendDynamic c ⟨f, .slug x, instr⟩) s = .next (sendPacket u c { f with
      payload := slugBytes u c x
      poison := f.poison || storePoisoned u c x.codes 64 || storePoisoned u c x.scales 4 }) := by
  intro u
  show execSendDynamic c ⟨f, .slug x, instr⟩ s = _
  have codes : CanAccess (passOp s c) c x.codes 64 := (canAccess_passOp ..).2 codes
  have scales : CanAccess (passOp s c) c x.scales 4 := (canAccess_passOp ..).2 scales
  rw [execSendDynamic, asOp_runs _ ready]
  exact congrArg _ ((onAccess_ok _ _ codes).trans (onAccess_ok _ _ scales))

/-! ### FAB_DEADLOCK and CONTROL -/

theorem fabDeadlock_cases (r : RouterRef) (k : Fin 8) (i : Fin 7) (st : Word64) (s : State) :
    let n := chaseOfRouter r
    (∀ x, headAt s r i.val k.val = some x → x.flit.stamp = st →
      (x.since + getF s Reg.CHS_DEADLOCK_LIMIT n ≤ (getChase s n).clk →
        exec (.fabDeadlock r k i st) s = .next (raise (addF s Reg.FAB_DEADLOCKS 1 0)
          { routerItem Err.FAB_DEADLOCK r [k.val, i.val] with stamp := some st.toNat })) ∧
      ((getChase s n).clk < x.since + getF s Reg.CHS_DEADLOCK_LIMIT n → exec (.fabDeadlock r k i st) s = .next s)) ∧
    (headAt s r i.val k.val = none → exec (.fabDeadlock r k i st) s = .next s) := by
  intro n
  show (∀ x, _ → _ → (_ → execFabDeadlock r k i st s = _) ∧ (_ → execFabDeadlock r k i st s = _)) ∧
    (_ → execFabDeadlock r k i st s = _)
  refine ⟨fun x head same => ⟨fun long => ?_, fun short => ?_⟩, fun none_ => ?_⟩
  · simp only [execFabDeadlock, head]
    exact congrArg _ (if_pos ⟨same, long⟩)
  · simp only [execFabDeadlock, head]
    exact congrArg _ (if_neg fun h => Nat.not_le.2 short h.2)
  · simp only [execFabDeadlock, none_]

/-- The fabric without a keeper's packet that stands at router `r`. -/
def withoutControl (s : State) (r : RouterRef) (p : List Byte) : State :=
  { s with fabric := s.fabric.filter (fun x => !(x.router == r && (flitKind x.flit == 0xA && x.flit.payload == p))) }

theorem exec_control_core {s : State} {r : RouterRef} {c : CoreRef} (p : List Byte) (core : coreAtRouter s r = some c) :
    exec (.control r p) s = .next (takeIn (withoutControl s r p) c (fun f => flitKind f == 0xA && f.payload == p)) := by
  have core : coreAtRouter (withoutControl s r p) r = some c := core
  show execControl r p s = _
  rw [withoutControl] at core
  simp only [execControl, core]
  rfl

theorem exec_control_none {s : State} {r : RouterRef} (p : List Byte) (none_ : coreAtRouter s r = none) :
    exec (.control r p) s = .next (withoutControl s r p) := by
  have none_ : coreAtRouter (withoutControl s r p) r = none := none_
  show execControl r p s = _
  rw [withoutControl] at none_
  simp only [execControl, none_]
  rfl

theorem mem_withoutControl {s : State} {r : RouterRef} {p : List Byte} {x : FlitAt} (h : x ∈ s.fabric) :
    x ∈ (withoutControl s r p).fabric ↔ ¬ (x.router = r ∧ flitKind x.flit = 0xA ∧ x.flit.payload = p) := by
  simp [withoutControl, List.mem_filter, h, imp_iff_not_or]

theorem control_gives (r : RouterRef) (p : List Byte) (s : State) :
    Gives (.control r p) s fun t => t = { s with fabric := t.fabric, cores := t.cores } ∧
      (∀ x ∈ s.fabric, x ∈ t.fabric ↔ ¬ (x.router = r ∧ flitKind x.flit = 0xA ∧ x.flit.payload = p)) ∧
      (∀ c, coreAtRouter s r = some c → AgreeBut s.cores t.cores [coreKey c] ∧
        (getCore t c).inbox = (getCore s c).inbox.eraseP (fun x => flitKind x.flit == 0xA && x.flit.payload == p)) ∧
      (coreAtRouter s r = none → t.cores = s.cores) := by
  rcases at_ : coreAtRouter s r with _ | c
  · exact ⟨_, exec_control_none p at_, rfl, fun x hx => mem_withoutControl hx, nofun, fun _ => rfl⟩
  · refine ⟨_, exec_control_core p at_, rfl, fun x hx => mem_withoutControl hx, fun d same => ?_, nofun⟩
    obtain rfl := Option.some.inj same
    refine ⟨modCore_cores_agreeBut (agreeBut_refl _ _) _, ?_⟩
    rw [takeIn, getCore_modCore]
    rfl

/-- Settles O22, one operation after another. -/
theorem sendOperations : Obligations.SendOperations := by
  unfold Obligations.SendOperations
  exact ⟨sendStatic_gives, sendDynamic_begins, fun c f y instr s ready held =>
    ⟨sendDynamic_continues c f y instr s ready held, sendDynamic_waits c f y instr s ready held⟩,
    exec_sendDynamic_slug, fabDeadlock_cases, control_gives⟩

end Sys2Proof.Machine
end

section
/-! The reorder gate (R10, R159 to R164): arming, landing, parking, duplicates and checks (O23). -/

namespace Sys2Proof.Machine

/-! ### Port D leaves the gate as it was -/

/-- The core `k'` is `k` after turns of its port D: its write buffer, waiting flits and error counts may differ. -/
def AfterPort (k k' : Core) : Prop := k' = { k with
  wbuf := k'.wbuf, txWait := k'.txWait, cntCorrOne := k'.cntCorrOne, cntCorrTwo := k'.cntCorrTwo, cntPoison := k'.cntPoison }

theorem AfterPort.trans {k l m : Core} (h : AfterPort k l) (h' : AfterPort l m) : AfterPort k m := by
  unfold AfterPort at *
  rw [h', h]

theorem afterPort_storeOne (s : State) (c : CoreRef) : AfterPort (getCore s c) (getCore (storeOne s c) c) := by
  unfold storeOne
  split
  · rename_i w _
    dsimp only
    obtain ⟨l, core⟩ := getCore_emitPacket (narrowWrite (modCore s c (fun k => { k with wbuf := k.wbuf.erase w })) c w.addr w.data
      w.poison) c ⟨BitVec.ofNat 64 w.stamp, routeWord w.src.lcol.val w.src.row.val 4 Kind.writeAck,
        slice (freeBytes 0x107 [] 68) 0 68, 0, false⟩
    rw [sendTo, core, (met_narrowWrite _ c w.addr w.data w.poison).core, getCore_modCore]
    rfl
  · rfl

theorem afterPort_portD (n : Nat) (s : State) (c : CoreRef) (at_ : Nat) :
    AfterPort (getCore s c) (getCore (portD n s c at_) c) := by
  induction n generalizing s with
  | zero => rfl
  | succ n ih =>
    rw [portD]
    split_ifs
    · exact (afterPort_storeOne s c).trans (ih _)
    · rfl

/-- The gate and the park buffer of a core are as they were when a flit has its turn at port D. -/
theorem gate_after_port (s : State) (c : CoreRef) (p : Flit → Bool) (at_ waited : Nat) :
    (getCore (countWait (portD 17 (takeIn s c p) c at_) c waited) c).gates = (getCore s c).gates ∧
      (getCore (countWait (portD 17 (takeIn s c p) c at_) c waited) c).park = (getCore s c).park := by
  have port := afterPort_portD 17 (takeIn s c p) c at_
  rw [countWait, getCore_modCore]
  dsimp only
  rw [port, takeIn, getCore_modCore]
  exact ⟨rfl, rfl⟩

theorem portD_of_empty {s : State} {c : CoreRef} (n at_ : Nat) (empty : (getCore s c).wbuf = []) : portD n s c at_ = s := by
  cases n with
  | zero => rfl
  | succ n =>
    rw [portD, if_neg]
    simp [empty]

/-! ### ARM -/

theorem getGate_setGate (s : State) (c : CoreRef) (i : Nat) (g : Gate) : getGate (setGate s c i g) c i = g := by
  rw [getGate, setGate, getCore_modCore]
  exact kgetD_kset_same ..

theorem gates_setGate_agree {m : KMap Gate} {s : State} {c : CoreRef} (h : AgreeBut m (getCore s c).gates []) (i : Nat) (g : Gate) :
    AgreeBut m (getCore (setGate s c i g) c).gates [i] := by
  rw [setGate, getCore_modCore]
  exact agreeBut_kset (fun k _ => h k (List.not_mem_nil)) g (List.mem_singleton.2 rfl)

theorem armedGate_eq (a : ArmOp) : armedGate a = ⟨if a.flits = 0 ∨ a.partHi < a.partLo then .complete else .armed, a.req, a.pos,
    a.layer, a.partLo, a.partHi, a.flits, a.base, a.stride, List.replicate (a.partHi + 1 - a.partLo) 0⟩ := by
  have full : (List.replicate (a.partHi + 1 - a.partLo) 0).all (fun n => decide (a.flits ≤ n)) = true ↔
      a.flits = 0 ∨ a.partHi < a.partLo := by
    simp only [List.all_eq_true, List.mem_replicate, decide_eq_true_eq]
    constructor
    · intro h
      by_cases none_ : a.partHi < a.partLo
      · exact .inr none_
      · exact .inl (Nat.le_zero.1 (h 0 ⟨by omega, rfl⟩))
    · rintro (h | h) n ⟨some_, rfl⟩ <;> omega
  unfold armedGate Gate.full
  by_cases none_ : a.flits = 0 ∨ a.partHi < a.partLo
  · rw [if_pos none_]
    exact if_pos (full.2 none_)
  · rw [if_neg none_]
    exact if_neg fun h => none_ (full.1 h)

theorem landParked_of_empty {s : State} {c : CoreRef} (empty : (getCore s c).park = []) : landParked s c =
    modCore s c (fun k => { k with park := [] }) := by
  rw [landParked, empty]
  rfl

theorem gates_goto (s : State) (c : CoreRef) : (getCore (passOp s c) c).gates = (getCore s c).gates := by
  rw [getCore_passOp]
  rfl

theorem park_goto (s : State) (c : CoreRef) : (getCore (passOp s c) c).park = (getCore s c).park := by
  rw [getCore_passOp]
  rfl

theorem arm_arms (a : ArmOp) (s : State) (ready : runs s a.core (opCode 0 3) = true) (arms : a.free = false)
    (empty : (getCore s a.core).park = []) :
    Gives (.arm a) s fun t =>
      getGate t a.core a.entry.val = ⟨if a.flits = 0 ∨ a.partHi < a.partLo then .complete else .armed, a.req, a.pos,
        a.layer, a.partLo, a.partHi, a.flits, a.base, a.stride, List.replicate (a.partHi + 1 - a.partLo) 0⟩ ∧
      AgreeBut (getCore s a.core).gates (getCore t a.core).gates [a.entry.val] ∧
      t = setCore s a.core { getCore (countWait (passOp s a.core) a.core a.waited) a.core with
        gates := (getCore t a.core).gates } := by
  set c := a.core with core
  set i := a.entry.val
  have park : (getCore (setGate (countWait (passOp s c) c a.waited) c i (armedGate a)) c).park = [] := by
    rw [setGate, getCore_modCore, countWait, getCore_modCore]
    exact (park_goto s c).trans empty
  have armed : exec (.arm a) s = .next (modCore (setGate (countWait (passOp s c) c a.waited) c i (armedGate a)) c
      (fun k => { k with park := [] })) := by
    show execArm a s = _
    rw [execArm, asOp_runs _ ready, arms, ← landParked_of_empty park]
    rfl
  refine ⟨_, armed, ?_⟩
  beta_reduce
  rw [getGate, getCore_modCore]
  have kept : (getCore (countWait (passOp s c) c a.waited) c).gates = (getCore s c).gates := by
    rw [countWait, getCore_modCore]
    exact gates_goto s c
  refine ⟨(getGate_setGate ..).trans (armedGate_eq a), gates_setGate_agree (fun k _ => by rw [kept]) _ _, ?_⟩
  have noPark : (getCore (countWait (passOp s c) c a.waited) c).park = [] := by
    rw [countWait, getCore_modCore]
    exact (park_goto s c).trans empty
  rw [setGate, modCore_modCore, modCore, getCore_modCore, ← noPark, countWait, modCore, passOp, modCore]
  simp only [setCore_setCore, getCore_setCore]

theorem arm_frees (a : ArmOp) (s : State) (ready : runs s a.core (opCode 0 3) = true) (frees : a.free = true) :
    Gives (.arm a) s fun t => getGate t a.core a.entry.val = Gate.reset ∧
      AgreeBut (getCore s a.core).gates (getCore t a.core).gates [a.entry.val] ∧
      t = setCore s a.core { getCore (passOp s a.core) a.core with gates := (getCore t a.core).gates } := by
  have freed : exec (.arm a) s = .next (setGate (passOp s a.core) a.core a.entry.val Gate.reset) := by
    show execArm a s = _
    rw [execArm, asOp_runs _ ready, frees]
    rfl
  refine ⟨_, freed, getGate_setGate .., gates_setGate_agree (fun k _ => by rw [gates_goto]) _ _, ?_⟩
  rw [setGate, modCore, passOp, modCore]
  simp only [setCore_setCore, getCore_setCore]

/-! ### GATE_FLIT -/

theorem gateTake_match {s : State} {c : CoreRef} {f : Flit} {i : Nat} {g : Gate}
    (match_ : gateFor (getCore s c) f.stamp = some (i, g)) : gateTake s c f = landFlit s c i g f := by
  simp only [gateTake, match_]

theorem gateTake_parks {s : State} {c : CoreRef} {f : Flit} (none_ : gateFor (getCore s c) f.stamp = none)
    (room : (getCore s c).park.length < 16) :
    gateTake s c f = setF (setCore s c { getCore s c with
      park := (getCore s c).park ++ [⟨f, (getChase s (chaseOf c)).clk⟩] }) Reg.CHS_PARK_MAX
      (max (getF (setCore s c { getCore s c with park := (getCore s c).park ++ [⟨f, (getChase s (chaseOf c)).clk⟩] })
        Reg.CHS_PARK_MAX (chaseOf c)) ((getCore s c).park.length + 1)) (chaseOf c) := by
  simp only [gateTake, none_]
  exact if_pos room

theorem gateTake_full {s : State} {c : CoreRef} {f : Flit} (none_ : gateFor (getCore s c) f.stamp = none)
    (full : 16 ≤ (getCore s c).park.length) : gateTake s c f = holdIn s c f := by
  simp only [gateTake, none_]
  exact if_neg (Nat.not_lt.2 full)

theorem gateFor_congr {k l : Core} (h : k.gates = l.gates) (st : Word64) : gateFor k st = gateFor l st := by
  rw [gateFor, h, gateFor]

theorem exec_gateFlit {c : CoreRef} {f : Flit} {s : State} (waited : Nat) (kind : gateKind (flitKind f) = true)
    (exists_ : coreExists s c = true) : exec (.gateFlit ⟨c, waited⟩ f) s =
      .next (gateTake (countWait (portD 17 (takeIn s c (· == f)) c (arrivalOf s c (· == f))) c waited) c f) := by
  show execGateFlit ⟨c, waited⟩ f s = _
  simp only [execGateFlit, kind, exists_, Bool.and_self, if_true]

theorem gateFlit_cases (c : CoreRef) (f : Flit) (waited : Nat) (s : State) (kind : gateKind (flitKind f) = true)
    (exists_ : coreExists s c = true) :
    let s1 := countWait (portD 17 (takeIn s c (· == f)) c (arrivalOf s c (· == f))) c waited
    (∀ i g, gateFor (getCore s c) f.stamp = some (i, g) → exec (.gateFlit ⟨c, waited⟩ f) s = .next (landFlit s1 c i g f)) ∧
    (gateFor (getCore s c) f.stamp = none → (getCore s c).park.length < 16 → (getCore s c).wbuf = [] →
      Gives (.gateFlit ⟨c, waited⟩ f) s fun t =>
        (getCore t c).park = (getCore s c).park ++ [⟨f, (getChase s (chaseOf c)).clk⟩] ∧ t.mem = s.mem ∧
        (getCore t c).gates = (getCore s c).gates ∧
        RegsOnly { s with cores := t.cores } t [Reg.CHS_PARK_MAX.key (chaseOf c) 0]) ∧
    (gateFor (getCore s c) f.stamp = none → 16 ≤ (getCore s c).park.length →
      exec (.gateFlit ⟨c, waited⟩ f) s = .next (holdIn s1 c f)) := by
  intro s1
  obtain ⟨gates, park⟩ := gate_after_port s c (· == f) (arrivalOf s c (· == f)) waited
  have run := exec_gateFlit waited kind exists_
  refine ⟨fun i g match_ => ?_, fun none_ room empty => ?_, fun none_ full => ?_⟩
  · rw [run, gateTake_match (by rwa [gateFor_congr gates])]
  · rw [gateTake_parks (by rwa [gateFor_congr gates]) (by rwa [park])] at run
    have idle : portD 17 (takeIn s c (· == f)) c (arrivalOf s c (· == f)) = takeIn s c (· == f) :=
      portD_of_empty _ _ (by rw [wbuf_takeIn, empty])
    rw [idle] at run gates park
    refine ⟨_, run, ?_, rfl, ?_, setF_regsOnly (regsOnly_refl _ _) _ _ _ _ (List.mem_singleton.2 rfl)⟩
    · show (getCore (setCore _ c _) c).park = _
      rw [getCore_setCore, park]
      rfl
    · show (getCore (setCore _ c _) c).gates = _
      rw [getCore_setCore, gates]
  · rw [run, gateTake_full (by rwa [gateFor_congr gates]) (by rwa [park])]

/-! ### A flit lands -/

section

variable {c : CoreRef} {i : Nat} {g : Gate} {f : Flit} {s : State}

/-- The entry with one more flit of part `part`. -/
def Gate.landing (g : Gate) (part : Nat) : Gate :=
  let g' := { g with landed := g.landed.modify part (· + 1), st := .filling }
  if g'.full then { g' with st := .complete } else g'

theorem Gate.landing_landed (g : Gate) (part : Nat) : (g.landing part).landed = g.landed.modify part (· + 1) := by
  unfold landing
  dsimp only
  split_ifs <;> rfl

theorem Gate.landing_complete (g : Gate) (part : Nat) :
    (g.landing part).st = .complete ↔ ∀ n ∈ g.landed.modify part (· + 1), g.flits ≤ n := by
  have full : (⟨.filling, g.req, g.pos, g.layer, g.partLo, g.partHi, g.flits, g.base, g.stride,
      g.landed.modify part (· + 1)⟩ : Gate).full = true ↔ ∀ n ∈ g.landed.modify part (· + 1), g.flits ≤ n := by
    simp only [Gate.full, List.all_eq_true, decide_eq_true_eq]
  rw [← full]
  unfold landing
  dsimp only
  split_ifs with h
  · exact iff_of_true rfl h
  · exact iff_of_false nofun h

theorem landFlit_lands :
    let part := stampPart f.stamp - g.partLo
    let a := g.base + part * g.stride + 68 * f.index
    g.open_ = true → f.index < g.flits → g.landed.getD part 0 < g.flits → CanAccess s c a 68 → landFlit s c i g f =
      (let u := setGate (narrowWrite s c a f.payload f.poison) c i (g.landing part)
      if (g.landing part).st = .complete then meetCore u c Src.gateWait (· == i) else u) := by
  intro part a takes index room access
  refine (if_pos takes).trans ((if_neg ?_).trans (onAccess_ok _ _ access))
  exact not_or.2 ⟨Nat.not_le.2 index, Nat.not_le.2 room⟩

theorem landFlit_overfill (takes : g.open_ = true)
    (beyond : g.flits ≤ f.index ∨ g.flits ≤ g.landed.getD (stampPart f.stamp - g.partLo) 0) : landFlit s c i g f =
      raise s { coreItem s Err.FAB_GATE_OVERFILL c [i] with stamp := some f.stamp.toNat } :=
  (if_pos takes).trans (if_pos beyond)

theorem landFlit_duplicate (closed : g.open_ = false) : landFlit s c i g f = addF s Reg.CHS_GATE_DUP 1 (chaseOf c) :=
  if_neg (Bool.eq_false_iff.1 closed)

/-- A slip that a met condition names has an end, unless it timed out. -/
theorem stop_of_meetCore {s : State} {c : CoreRef} {source : Nat} {i : Nat} {x : Slip}
    (h : x ∈ (getChase (meetCore s c source (· == i)) (chaseOf c)).slips) (source_ : x.source = source) (core : x.core = some c)
    (what : x.what = i) (timedOut : x.timedOut = false) : x.stop.isSome = true := by
  rw [meetCore, meetSlips, modChase, getChase_setChase] at h
  obtain ⟨y, -, rfl⟩ := List.mem_map.1 h
  by_cases met : (y.unmet && !y.timedOut && (y.source == source && y.core == some c && y.what == i)) = true
  · rw [if_pos met]
    rfl
  · rw [if_neg met] at source_ core what timedOut ⊢
    rw [source_, core, what, timedOut] at met
    simpa [Slip.unmet, ← Option.isSome_iff_ne_none] using met

theorem landFlit_cases (c : CoreRef) (i : Nat) (g : Gate) (f : Flit) (s : State) (takes : g.open_ = true) :
    let part := stampPart f.stamp - g.partLo
    let a := g.base + part * g.stride + 68 * f.index
    let t := landFlit s c i g f
    (f.index < g.flits → g.landed.getD part 0 < g.flits → CanAccess s c a 68 → f.payload.length = 68 →
      storeRead t c a 68 = f.payload ∧
      (∀ x, x / 64 ∉ wordsOf (storeAddr c a) 68 → memRead t.mem.store x = memRead s.mem.store x) ∧
      (getGate t c i).landed = g.landed.modify part (· + 1) ∧
      ((getGate t c i).st = .complete ↔ ∀ n ∈ g.landed.modify part (· + 1), g.flits ≤ n) ∧
      ((getGate t c i).st = .complete → ∀ x ∈ (getChase t (chaseOf c)).slips, x.source = Src.gateWait → x.core = some c →
        x.what = i → x.timedOut = false → x.stop.isSome = true)) ∧
    (g.flits ≤ f.index ∨ g.flits ≤ g.landed.getD part 0 →
      t = raise s { coreItem s Err.FAB_GATE_OVERFILL c [i] with stamp := some f.stamp.toNat }) := by
  intro part a t
  refine ⟨fun index room access length => ?_, fun beyond => landFlit_overfill takes beyond⟩
  let u := setGate (narrowWrite s c a f.payload f.poison) c i (g.landing part)
  have landed : t = if (g.landing part).st = .complete then meetCore u c Src.gateWait (· == i) else u :=
    landFlit_lands takes index room access
  have gate : getGate t c i = g.landing part := by
    rw [landed]
    split_ifs <;> exact getGate_setGate ..
  have mem : t.mem = (narrowWrite s c a f.payload f.poison).mem := by
    rw [landed]
    split_ifs <;> rfl
  rw [gate]
  refine ⟨?_, fun x away => ?_, g.landing_landed part, g.landing_complete part, fun complete x hx => ?_⟩
  · rw [storeRead, mem, ← length]
    exact storeRead_narrowWrite_same ..
  · rw [mem]
    rw [← length] at away
    refine memRead_narrowWrite_out _ _ _ _ _ ?_ (.inl away)
    rw [mem_wordsOf] at away
    omega
  · rw [landed, if_pos complete] at hx
    exact stop_of_meetCore hx

end

/-! ### PARK_STALE and CHECK -/

theorem exec_parkStale_cases (c : CoreRef) (i : Nat) (p : Parked) (s : State) (here : (getCore s c).park[i]? = some p) :
    (p.since + 2 ^ 16 ≤ (getChase s (chaseOf c)).clk → exec (.parkStale c i) s =
      .next (addF (modCore s c (fun k => { k with park := k.park.eraseIdx i })) Reg.CHS_GATE_STALE 1 (chaseOf c))) ∧
    ((getChase s (chaseOf c)).clk < p.since + 2 ^ 16 → exec (.parkStale c i) s = .next s) := by
  have run : exec (.parkStale c i) s = .next (if p.since + 2 ^ 16 ≤ (getChase s (chaseOf c)).clk then
      addF (modCore s c (fun k => { k with park := k.park.eraseIdx i })) Reg.CHS_GATE_STALE 1 (chaseOf c) else s) := by
    show execParkStale c i s = _
    simp only [execParkStale, here]
  exact ⟨fun old => run.trans (congrArg _ (if_pos old)), fun young => run.trans (congrArg _ (if_neg (Nat.not_le.2 young)))⟩

/-- CHECK opens a slip for entry `i` unless it is complete. -/
def checkEntry (c : CoreRef) (s : State) (i : Fin 32) : State :=
  if (getGate s c i.val).st = .complete then s else openSlip s (chaseOf c) Src.gateWait (some c) i.val

theorem openSlip_cores (s : State) (n source : Nat) (c : CoreRef) (what : Nat) :
    (openSlip s n source (some c) what).cores = s.cores := by
  simp [openSlip, noteSlip]

theorem openSlip_faults (s : State) (n source : Nat) (c : CoreRef) (what : Nat) :
    (openSlip s n source (some c) what).faults = s.faults := by
  simp [openSlip, noteSlip]

theorem openSlip_mem (s : State) (n source : Nat) (c : CoreRef) (what : Nat) :
    (openSlip s n source (some c) what).mem = s.mem := by
  simp [openSlip, noteSlip]

theorem getChase_openSlip (s : State) (n source : Nat) (c : CoreRef) (what : Nat) :
    getChase (openSlip s n source (some c) what) n = { getChase s n with
      slips := (getChase s n).slips ++ [⟨source, some c, (getChase s n).clk + 32, none, what, false⟩] } := by
  have chases : (openSlip s n source (some c) what).chases = (setChase s n { getChase s n with
      slips := (getChase s n).slips ++ [⟨source, some c, (getChase s n).clk + 32, none, what, false⟩] }).chases := by
    simp [openSlip, noteSlip]
  rw [getChase, chases, ← getChase, getChase_setChase]

theorem checkEntry_rest (c : CoreRef) (s : State) (i : Fin 32) : (checkEntry c s i).cores = s.cores ∧
    (checkEntry c s i).mem = s.mem ∧ (checkEntry c s i).faults = s.faults := by
  unfold checkEntry
  split_ifs
  · exact ⟨rfl, rfl, rfl⟩
  · exact ⟨openSlip_cores .., openSlip_mem .., openSlip_faults ..⟩

/-- The slips that CHECK opens. -/
theorem slips_checkEntries (c : CoreRef) (es : List (Fin 32)) (s : State) :
    (getChase (es.foldl (checkEntry c) s) (chaseOf c)).slips = (getChase s (chaseOf c)).slips ++
      (es.filter (fun i => (getGate s c i.val).st != .complete)).map (fun i =>
        ⟨Src.gateWait, some c, (getChase s (chaseOf c)).clk + 32, none, i.val, false⟩) := by
  induction es generalizing s with
  | nil => exact (List.append_nil _).symm
  | cons i es ih =>
    have gates : ∀ j, getGate (checkEntry c s i) c j = getGate s c j := fun j => by
      rw [getGate, getCore, (checkEntry_rest c s i).1]
      rfl
    rw [List.foldl_cons, ih, List.filter_cons]
    simp only [gates]
    unfold checkEntry
    by_cases done : (getGate s c i.val).st = .complete
    · rw [if_pos done, if_neg (by simp [done])]
    · rw [if_neg done, if_pos (by simpa using done), getChase_openSlip, List.append_assoc]
      rfl

theorem check_gives (c : CoreRef) (es : List (Fin 32)) (s : State) (ready : runs s c (opCode 0 4) = true) :
    let clk := (getChase s (chaseOf c)).clk
    Gives (.check c es) s fun t =>
      (getCore t c).uses = (getCore s c).uses ++ es.map (fun i =>
        (i.val, ((getChase s (chaseOf c)).time + 2 ^ 48 - (getCore s c).lag + 32) % 2 ^ 48)) ∧
      (getChase t (chaseOf c)).slips = (getChase s (chaseOf c)).slips ++
        (es.filter (fun i => (getGate s c i.val).st != .complete)).map (fun i =>
          ⟨Src.gateWait, some c, clk + 32, none, i.val, false⟩) ∧
      t.mem = s.mem ∧ t.faults = s.faults := by
  intro clk
  let u := modCore (passOp s c) c (fun k => { k with uses := k.uses ++ es.map (fun i => (i.val, useCycle (passOp s c) c)) })
  have run : exec (.check c es) s = .next (es.foldl (checkEntry c) u) := by
    show execCheck c es s = _
    rw [execCheck, asOp_runs _ ready]
    rfl
  have gates : ∀ j, getGate u c j = getGate s c j := fun j => by
    rw [getGate, show getCore u c = _ from getCore_modCore .., getGate, ← gates_goto s c]
  refine ⟨_, run, ?_, ?_, ?_, ?_⟩
  · rw [getCore, foldl_frame State.cores (fun s i => (checkEntry_rest c s i).1), ← getCore, show getCore u c = _ from getCore_modCore ..,
      useCycle, getCore_passOp_lag, getCore_passOp]
    rfl
  · rw [slips_checkEntries]
    simp only [gates]
    rfl
  · exact foldl_frame State.mem (fun s i => (checkEntry_rest c s i).2.1) _ _
  · exact foldl_frame State.faults (fun s i => (checkEntry_rest c s i).2.2) _ _

/-- Settles O23, one command of the gate after another. -/
theorem reorderGate : Obligations.ReorderGate := by
  unfold Obligations.ReorderGate
  exact ⟨fun a s ready => ⟨arm_arms a s ready, arm_frees a s ready⟩, gateFlit_cases, landFlit_cases,
    fun c i g f s closed => landFlit_duplicate closed, exec_parkStale_cases, check_gives⟩

end Sys2Proof.Machine
end

section
/-! SCRUB of a word by the number of its bad bytes, and the reads that meet errors (R97, R102 to R106, R376, R380) (O24). -/

namespace Sys2Proof.Machine

section

variable {c : CoreRef} {addr waited : Nat} {s : State}

theorem exec_scrub (on : railOn s (chaseOf c) = true) (exists_ : coreExists s c = true) (empty : (getCore s c).wbuf = [])
    (none_ : olderWaits s c (getCore s c).arrived = false) (access : CanAccess s c (addr / 64 * 64) 64) :
    exec (.scrub c addr waited) s = .next (scrubWord (countWait s c waited) c (addr / 64 * 64)) := by
  have access : accessFault s c (addr / 64 * 64) 64 = none := access
  show execScrub c addr waited s = _
  simp only [execScrub, on, exists_, empty, none_, access, List.isEmpty_nil, Option.isNone_none, Bool.not_false, Bool.and_self,
    if_true]

theorem exec_scrub_idle (h : railOn s (chaseOf c) = false ∨ (getCore s c).wbuf ≠ [] ∨
    olderWaits s c (getCore s c).arrived = true ∨ ¬ CanAccess s c (addr / 64 * 64) 64) :
    exec (.scrub c addr waited) s = .next s := by
  have not_ : ¬ (railOn s (chaseOf c) && coreExists s c && (getCore s c).wbuf.isEmpty && !olderWaits s c (getCore s c).arrived
      && (accessFault s c (addr / 64 * 64) 64).isNone) = true := by
    simp only [Bool.and_eq_true, Bool.not_eq_true', List.isEmpty_iff, Option.isNone_iff_eq_none]
    rintro ⟨⟨⟨⟨on, -⟩, empty⟩, none_⟩, access⟩
    rcases h with h | h | h | h
    · simp [on] at h
    · exact h empty
    · simp [none_] at h
    · exact h access
  show execScrub c addr waited s = _
  exact congrArg _ (if_neg not_)

end

/-! ### The word -/

theorem coreItem_countWait (s : State) (code : Nat) (c : CoreRef) (n : Nat) (xs : List Nat) :
    coreItem (countWait s c n) code c xs = coreItem s code c xs := by
  have lag : (getCore (countWait s c n) c).lag = (getCore s c).lag := by rw [countWait, getCore_modCore]
  simp only [coreItem, lag]
  rfl

theorem wordsOf_aligned {a : Nat} (h : a % 64 = 0) : wordsOf a 64 = [a / 64] := by
  have one : (a + 64 + 63) / 64 - a / 64 = 1 := by omega
  rw [wordsOf, one]
  rfl

theorem scrubWord_few {u : State} {c : CoreRef} {a : Nat} (few : (errsAt u c a).length < 3) : scrubWord u c a = meetWord u c a := by
  have not_ : decide (3 ≤ (errsAt u c a).length) = false := decide_eq_false (Nat.not_le.2 few)
  rw [scrubWord, not_, Bool.false_and]
  rfl

theorem scrubWord_many {u : State} {c : CoreRef} {a : Nat} (many : 3 ≤ (errsAt u c a).length) : scrubWord u c a =
    if sourced u c a then storeWrite (poisonWord (clearErrs (spoil u c a) c a) c a) c a (storeRead u c a 64) false
    else poisonWord (clearErrs (spoil u c a) c a) c a := by
  rw [scrubWord, meetWord_many many, decide_eq_true many, Bool.true_and]

theorem getCore_clearErrs_modCore (s : State) (c : CoreRef) (a : Nat) (g : Core → Core) :
    getCore (clearErrs (modCore s c g) c a) c = g (getCore s c) := getCore_modCore ..

theorem errsAt_meetWord_same (s : State) (c : CoreRef) (a : Nat) : errsAt (meetWord s c a) c a = [] := by
  rw [errsAt_eq_wordErrs, wordErrs_meetWord, if_pos rfl]

section

variable {u : State} {c : CoreRef} {a : Nat} (aligned : a % 64 = 0)

include aligned in
theorem storeAddr_aligned : storeAddr c a % 64 = 0 := (storeAddr_mod_word c a).trans aligned

include aligned in
theorem storePoisoned_poisonWord (u : State) : storePoisoned (poisonWord u c a) c a 64 = true := by
  rw [storePoisoned, anyPoison, wordsOf_aligned (storeAddr_aligned aligned), List.any_cons, List.any_nil, Bool.or_false]
  exact List.contains_iff_mem.2 ((mem_addOnce ..).2 (.inr rfl))

include aligned in
theorem bytesBut_poisoned (u : State) :
    BytesBut u.mem.store (poisonWord (clearErrs (spoil u c a) c a) c a).mem.store (storeAddr c a) 64 := by
  intro x out
  refine memRead_spoilBytes_out _ _ _ ?_
  have := storeAddr_aligned (c := c) aligned
  omega

include aligned in
theorem storeWrite_word {v : State} {bs : List Byte} (length : bs.length = 64) :
    storePoisoned (storeWrite v c a bs false) c a 64 = false ∧ errsAt (storeWrite v c a bs false) c a = [] := by
  have whole : storeAddr c a / 64 ∈ wholeWords (storeAddr c a) bs.length := by
    have := storeAddr_aligned (c := c) aligned
    simp only [wholeWords, List.mem_filter, mem_wordsOf, Bool.and_eq_true, decide_eq_true_eq, length]
    omega
  refine ⟨storePoisoned_storeWrite_fresh aligned (by rw [length]) le_rfl (by rw [length]) v c, ?_⟩
  rw [errsAt_eq_wordErrs, wordErrs_storeWrite, if_pos whole]

include aligned in
theorem scrubWord_spoiled (many : 3 ≤ (errsAt u c a).length) :
    errsAt (scrubWord u c a) c a = [] ∧ (getCore (scrubWord u c a) c).cntPoison = bump (getCore u c).cntPoison 1 ∧
      (∃ it, (scrubWord u c a).faults = { u.faults with items := u.faults.items ++ [it] } ∧ it.code = Err.STORE_UNCORRECTABLE ∧
        it.row = some c.row.val ∧ it.lcol = some c.lcol.val ∧ it.x0 = some a) ∧
      storePoisoned (scrubWord u c a) c a 64 = !(sourced u c a) ∧
      (sourced u c a = true → storeRead (scrubWord u c a) c a 64 = storeRead u c a 64) ∧
      BytesBut u.mem.store (scrubWord u c a).mem.store (storeAddr c a) 64 := by
  have length : (storeRead u c a 64).length = 64 := by simp [storeRead, memReadBytes]
  have core : (getCore (poisonWord (clearErrs (spoil u c a) c a) c a) c).cntPoison = bump (getCore u c).cntPoison 1 := by
    rw [poisonWord, getCore_raise, getCore_modCore]
    rfl
  have item : ∃ it, (poisonWord (clearErrs (spoil u c a) c a) c a).faults = { u.faults with items := u.faults.items ++ [it] } ∧
      it.code = Err.STORE_UNCORRECTABLE ∧ it.row = some c.row.val ∧ it.lcol = some c.lcol.val ∧ it.x0 = some a :=
    ⟨_, rfl, rfl, rfl, rfl, rfl⟩
  rw [scrubWord_many many]
  by_cases source : sourced u c a = true
  · obtain ⟨fresh, clean⟩ := storeWrite_word (c := c) aligned (v := poisonWord (clearErrs (spoil u c a) c a) c a) length
    rw [if_pos source, source]
    refine ⟨clean, core, item, fresh, fun _ => ?_, fun x out => ?_⟩
    · have same := storeRead_storeWrite_same (poisonWord (clearErrs (spoil u c a) c a) c a) c a (storeRead u c a 64) false
      rwa [length] at same
    · rw [memRead_storeWrite_out _ _ _ _ _ (by rwa [length])]
      exact bytesBut_poisoned aligned u x out
  · rw [if_neg source, Bool.eq_false_iff.2 source]
    refine ⟨?_, core, item, storePoisoned_poisonWord aligned _, nofun, bytesBut_poisoned aligned u⟩
    rw [← meetWord_many many]
    exact errsAt_meetWord_same ..

end

/-! ### Reads -/

theorem meetNarrow_clean {s : State} {c : CoreRef} {a n : Nat} (h : ∀ w ∈ wordsAt a n, errsAt s c w = []) :
    meetNarrow s c a n = s := meetWords_clean h

theorem holdFor_none (s : State) (c : CoreRef) (who : Who) : holdFor s c 0 who = s := by
  unfold holdFor
  exact if_pos rfl

theorem holdFor_slip {s : State} {c : CoreRef} {n : Nat} (who : Who) (some_ : n ≠ 0)
    (lag : (getCore s c).lag + (getCore s c).holdLeft (getChase s (chaseOf c)).clk ≤ 40) : holdFor s c n who = holdSlip s c n := by
  unfold holdFor
  exact (if_neg some_).trans (if_neg (Nat.not_lt.2 lag))

theorem meetRow_unslowed {s : State} {c : CoreRef} {a : Nat} (who : Who)
    (h : ∀ w ∈ wordsAt a 128, (errsAt s c w).length ≠ 2) : meetRow s c a who = meetNarrow s c a 128 := by
  have none_ : slowCycles s c a 128 = 0 := by
    rw [slowCycles, List.countP_eq_zero.2 fun w hw => by simpa using h w hw]
  rw [meetRow, none_, holdFor_none]

theorem meetRow_slips {s : State} {c : CoreRef} {a : Nat} (who : Who)
    (one : (wordsAt a 128).countP (fun w => (errsAt s c w).length == 2) = 1) :
    let u := meetNarrow s c a 128
    (getCore u c).lag + (getCore u c).holdLeft (getChase u (chaseOf c)).clk ≤ 40 → meetRow s c a who = holdSlip u c 12 := by
  intro u lag
  have slow : slowCycles s c a 128 = 12 := by rw [slowCycles, one]
  rw [meetRow, slow, holdFor_slip who (by decide) lag]

/-- Settles O24: SCRUB is `scrubWord`, taken apart by the number of the word's errors. -/
theorem scrubOutcomes : Obligations.ScrubOutcomes := by
  unfold Obligations.ScrubOutcomes
  refine ⟨fun c addr waited s on exists_ empty none_ access => ?_, fun c addr waited s h => exec_scrub_idle h,
    fun c a n who s => ⟨meetNarrow_clean, meetRow_unslowed who, fun x => memRead_meetNarrow_out s c a n, meetRow_slips who⟩⟩
  intro a w
  have run : exec (.scrub c addr waited) s = .next (scrubWord w c a) := exec_scrub on exists_ empty none_ access
  have errs : errsAt s c a = errsAt w c a := rfl
  have core : getCore w c = { getCore s c with cntNarrowWait := bump (getCore s c).cntNarrowWait waited } := getCore_modCore ..
  rw [errs]
  refine ⟨fun none_ => ?_, fun one => ⟨_, run, ?_⟩, fun two => ⟨_, run, ?_⟩, fun many => ⟨_, run, ?_⟩⟩
  · rw [run, scrubWord_few (by rw [none_]; decide), meetWord_clean none_]
  · rw [scrubWord_few (by omega)]
    refine ⟨errsAt_meetWord_same .., ?_⟩
    rw [meetWord_one one, getCore_clearErrs_modCore, core]
    exact ⟨rfl, rfl, rfl, rfl⟩
  · rw [scrubWord_few (by omega)]
    refine ⟨errsAt_meetWord_same .., ?_⟩
    rw [meetWord_two two, getCore_raise, getCore_clearErrs_modCore, core, ← coreItem_countWait s _ c waited]
    exact ⟨rfl, rfl, rfl, rfl⟩
  · obtain ⟨clean, count, item, marks, bytes, rest⟩ := scrubWord_spoiled (c := c) (Nat.mul_mod_left _ _) many
    exact ⟨clean, count.trans (by rw [core]), item, marks, bytes, rest⟩

end Sys2Proof.Machine
end

section
/-! FLIT_HOP (R22, R32, R148 to R157, R376): packets, arbitration, delivery and parity (O25). -/

namespace Sys2Proof.Machine

/-! ### The flit at the head of an input's class -/

section

variable {s : State} {r : RouterRef} {i : Fin 7} {x : FlitAt} {cls : Nat}

theorem of_headAt {i : Nat} (h : headAt s r i cls = some x) :
    x ∈ s.fabric ∧ x.router = r ∧ x.input = i ∧ flitClass x.flit = cls := by
  have p := List.find?_some h
  simp only [Bool.and_eq_true, beq_iff_eq] at p
  exact ⟨List.mem_of_find?_eq_some h, p.1.1.1, p.1.1.2, p.2⟩

/-- A flit that stands at the router does not arrive once more. -/
theorem arrive_of_headAt (h : headAt s r i.val cls = some x) : arrive s r i.val x.flit = s := by
  obtain ⟨here, router, input, -⟩ := of_headAt h
  refine if_pos (List.any_eq_true.2 ⟨x, here, ?_⟩)
  simp [router, input]

/-- The head flit with bad byte lanes. -/
def badLaned (x : FlitAt) (lanes : List Nat) : FlitAt :=
  { x with flit := { x.flit with poison := x.flit.poison || decide (lanes ≠ []) } }

/-- The state once the byte lanes of the head flit are checked. -/
def lanesMet (s : State) (r : RouterRef) (i : Nat) (x : FlitAt) (lanes : List Nat) : State :=
  if lanes = [] then s else
    raise (addF { s with fabric := s.fabric.map (fun z => if z = x then badLaned x lanes else z) } Reg.FAB_PARITY_EVENTS 1 0)
      { routerItem Err.FAB_PARITY r [i, lanes.foldl min 79] with stamp := some x.flit.stamp.toNat }

theorem badLaned_nil (x : FlitAt) : badLaned x [] = x := by
  simp [badLaned]

theorem badLaned_some (x : FlitAt) {lanes : List Nat} (some_ : lanes ≠ []) :
    badLaned x lanes = { x with flit := { x.flit with poison := true } } := by
  simp [badLaned, some_]

theorem exec_flitHop (up : transitUp s (chaseOfRouter r) = true) (head : headAt s r i.val (flitClass x.flit) = some x) {o : Nat}
    (out : outOf s r x = some o) (lanes : List Nat) : exec (.flitHop r i x.flit lanes) s =
      .next (if o = Out.drop ∨ winner s r o = some (flitClass x.flit, i.val) then
        passFlit (lanesMet s r i.val x lanes) r (badLaned x lanes) o else s) := by
  show execFlitHop r i x.flit lanes s = _
  simp only [execFlitHop, up, arrive_of_headAt head, head, out, true_and, lanesMet, badLaned]
  rfl

end

/-! ### Leaving an input -/

theorem settleInput_packets (s : State) (r : RouterRef) (input cls : Nat) :
    (settleInput s r input cls).packets = s.packets := by
  unfold settleInput
  split
  · dsimp only
    split_ifs
    · rfl
    · unfold returnCredit
      split <;> rfl
    · rfl
  · rfl

theorem refreshHead_packets (s : State) (r : RouterRef) (input cls : Nat) : (refreshHead s r input cls).packets = s.packets := by
  unfold refreshHead
  split <;> rfl

theorem leaveInput_packets (s : State) (r : RouterRef) (x : FlitAt) (o : Nat) : (leaveInput s r x o).packets =
    (let rest := s.packets.filter (fun p => !(p.router == r && p.input == x.input && p.cls == flitClass x.flit))
    if flitEop x.flit then rest else rest ++ [⟨r, x.input, flitClass x.flit, o⟩]) := by
  rw [leaveInput, settleInput_packets, refreshHead_packets]

/-- A packet holds its output until its last flit (R154). -/
theorem packetAt_leaveInput (s : State) (r : RouterRef) (x : FlitAt) (o : Nat) :
    packetAt (leaveInput s r x o) r x.input (flitClass x.flit) =
      if flitEop x.flit then none else some ⟨r, x.input, flitClass x.flit, o⟩ := by
  have none_ : (s.packets.filter (fun p => !(p.router == r && p.input == x.input && p.cls == flitClass x.flit))).find?
      (fun p => p.router == r && p.input == x.input && p.cls == flitClass x.flit) = none := by
    refine List.find?_eq_none.2 fun p hp => ?_
    simpa only [Bool.not_eq_true', Bool.not_eq_true] using (List.mem_filter.1 hp).2
  rw [packetAt, leaveInput_packets]
  dsimp only
  split_ifs
  · exact none_
  · rw [List.find?_append, none_]
    simp

/-! ### Passing an output -/

theorem passFlit_move {s : State} {r : RouterRef} {x : FlitAt} {o : Nat} {m : Move} (move : moveOf o = some m) :
    passFlit s r x o = enterFabric (leaveInput s r x o) (routerAt r m) m.input x.flit
      (decide (chaseOfRouter (routerAt r m) ≠ chaseOfRouter r)) (goalOf (leaveInput s r x o) r x) := by
  simp only [passFlit, move]

theorem passFlit_drop (s : State) (r : RouterRef) (x : FlitAt) : passFlit s r x Out.drop =
    if (packetAt s r x.input (flitClass x.flit)).isNone then badRoute (leaveInput s r x Out.drop) r x.flit
    else leaveInput s r x Out.drop := rfl

theorem mem_passFlit (s : State) (r : RouterRef) (x : FlitAt) {o : Nat} {m : Move} (move : moveOf o = some m) :
    ∃ y ∈ (passFlit s r x o).fabric, y.flit = x.flit ∧ y.router = routerAt r m ∧ y.input = m.input := by
  rw [passFlit_move move]
  exact ⟨_, List.mem_append_right _ (List.mem_singleton.2 rfl), rfl, rfl, rfl⟩

/-! ### Arbitration (R157) -/

theorem idxOf_le_of_find? {α : Type} [DecidableEq α] {l : List α} {p : α → Bool} {a b : α} (h : l.find? p = some a)
    (hb : p b = true) : l.idxOf a ≤ l.idxOf b := by
  induction l with
  | nil => cases h
  | cons x l ih =>
    rw [List.find?_cons] at h
    split at h
    · rw [Option.some.inj h, List.idxOf_cons_self]
      exact Nat.zero_le _
    next not_ =>
      have hx : ∀ y, p y = true → x ≠ y := by
        rintro y hy rfl
        simp [hy] at not_
      rw [List.idxOf_cons_ne _ (hx a (List.find?_some h)), List.idxOf_cons_ne _ (hx b hb)]
      exact Nat.succ_le_succ (ih h)

theorem idxOf_le_of_findSome? {α β : Type} [DecidableEq α] {l : List α} {g : α → Option (α × β)} {v : α × β} {b : α}
    (named : ∀ c w, g c = some w → w.1 = c) (h : l.findSome? g = some v) (hb : (g b).isSome = true) :
    l.idxOf v.1 ≤ l.idxOf b := by
  induction l with
  | nil => cases h
  | cons x l ih =>
    rw [List.findSome?_cons] at h
    split at h
    next w hw =>
      rw [← Option.some.inj h, named x w hw, List.idxOf_cons_self]
      exact Nat.zero_le _
    next none_ =>
      have hx : ∀ y, (g y).isSome = true → x ≠ y := by
        rintro y hy rfl
        simp [none_] at hy
      obtain ⟨c, -, hc⟩ := List.exists_of_findSome?_eq_some h
      have first : (g v.1).isSome = true := by rw [named c v hc, hc]; rfl
      rw [List.idxOf_cons_ne _ (hx _ first), List.idxOf_cons_ne _ (hx b hb)]
      exact Nat.succ_le_succ (ih h)

theorem mem_inputOrder (s : State) (r : RouterRef) (o cls : Nat) {j : Nat} (h : j < 7) : j ∈ inputOrder s r o cls := by
  refine List.mem_map.2 ⟨(j + 6 * (kgetD s.turns (turnKey r o cls) 6 + 1)) % 7, List.mem_range.2 (Nat.mod_lt _ (by decide)), ?_⟩
  omega

theorem winner_first (r : RouterRef) (o cls i : Nat) (s : State) (h : winner s r o = some (cls, i)) : linkFree s r o = true ∧
    wants s r o cls i = true ∧
    ∀ cls' j, cls' < 8 → j < 7 → wants s r o cls' j = true →
      classOrder.idxOf cls ≤ classOrder.idxOf cls' ∧
      (cls' = cls → (inputOrder s r o cls).idxOf i ≤ (inputOrder s r o cls).idxOf j) := by
  unfold winner at h
  split_ifs at h with free
  have named : ∀ c w, ((inputOrder s r o c).find? (wants s r o c)).map (fun i => (c, i)) = some w → w.1 = c := by
    intro c w hw
    obtain ⟨j, -, rfl⟩ := Option.map_eq_some_iff.1 hw
    rfl
  obtain ⟨c, -, hc⟩ := List.exists_of_findSome?_eq_some h
  obtain ⟨j, found, same⟩ := Option.map_eq_some_iff.1 hc
  obtain ⟨rfl, rfl⟩ := Prod.mk.inj same
  refine ⟨free, List.find?_some found, fun cls' k _ hk want => ⟨?_, fun eq => ?_⟩⟩
  · refine idxOf_le_of_findSome? named h ?_
    rw [Option.isSome_map]
    exact List.find?_isSome.2 ⟨k, mem_inputOrder s r o cls' hk, want⟩
  · subst eq
    exact idxOf_le_of_find? found want

theorem outFree_iff (s : State) (r : RouterRef) (i cls o : Nat) :
    outFree s r i cls o = true ↔ ∀ p ∈ s.packets, p.router = r → p.cls = cls → p.out = o → p.input = i := by
  rw [outFree, List.all_eq_true]
  refine forall₂_congr fun p _ => ?_
  simp only [Bool.not_eq_true', Bool.and_eq_false_imp, Bool.and_eq_true, beq_iff_eq, bne_eq_false_iff_eq, and_imp]

theorem wants_iff (r : RouterRef) (o cls i : Nat) (s : State) : wants s r o cls i = true ↔ ∃ x, headAt s r i cls = some x ∧
    outOf s r x = some o ∧ roomFor s r x.flit o = true ∧
      ∀ p ∈ s.packets, p.router = r → p.cls = cls → p.out = o → p.input = i := by
  rw [wants, Option.any_eq_true]
  refine exists_congr fun x => and_congr_right fun _ => ?_
  rw [Bool.and_eq_true, Bool.and_eq_true, beq_iff_eq, outFree_iff]
  tauto

theorem linkFree_move (r : RouterRef) (o : Nat) (m : Move) (s : State) (move : moveOf o = some m) (free : linkFree s r o = true) :
    staticHas s r m = false ∧ kget? s.taken (turnKey r o 0) ≠ some (getChase s (chaseOfRouter r)).clk := by
  rw [linkFree, move, Option.all_some, Bool.and_eq_true, Bool.not_eq_true', bne_iff_ne] at free
  exact free

theorem deliverFlit_cases (r : RouterRef) (f : Flit) (s : State) : let t := deliverFlit s r f
    (flitDcol f < 0x400 → ∀ c, coreAtRouter s r = some c → t = { s with cores := t.cores } ∧
      AgreeBut s.cores t.cores [coreKey c] ∧
      (getCore t c).inbox = (getCore s c).inbox ++ [⟨(getCore s c).arrived, f⟩]) ∧
    (0x400 ≤ flitDcol f → t = { s with rim := s.rim ++ [⟨r, f⟩] }) := by
  intro t
  refine ⟨fun core c at_ => ?_, fun rim => if_neg (Nat.not_lt.2 rim)⟩
  have delivered : t = modCore s c (fun k => { k with inbox := k.inbox ++ [⟨k.arrived, f⟩], arrived := k.arrived + 1 }) := by
    refine (if_pos core).trans ?_
    rw [at_]
  rw [delivered]
  refine ⟨rfl, modCore_cores_agreeBut (agreeBut_refl _ _) _, ?_⟩
  rw [getCore_modCore]

/-- Settles O25: FLIT_HOP by the head flit's output; arbitration by `winner_first` and `wants_iff`. -/
theorem fabricHop : Obligations.FabricHop := by
  unfold Obligations.FabricHop
  refine ⟨fun r i f lanes s down => ?_, fun r i x s up head => ?_, winner_first, wants_iff, linkFree_move, deliverFlit_cases⟩
  · show execFlitHop r i f lanes s = _
    rw [execFlitHop, down]
    rfl
  · intro f cls
    obtain ⟨-, -, input, -⟩ := of_headAt head
    have plain : ∀ o, outOf s r x = some o → o = Out.drop ∨ winner s r o = some (cls, i.val) →
        exec (.flitHop r i f []) s = .next (passFlit s r x o) := fun o out goes => by
      rw [exec_flitHop up head out, if_pos goes, badLaned_nil]
      rfl
    refine ⟨fun none_ bad => ?_, fun p held drop => ?_, fun o out kept => ⟨fun wins => ⟨plain o out (.inr wins),
      fun m => mem_passFlit s r x, fun lanes some_ => ?_⟩, fun loses lanes => ?_⟩, fun o => ?_⟩
    · have none_ : packetAt s r x.input (flitClass x.flit) = none := by rwa [input]
      have out : outOf s r x = some Out.drop := by
        simp only [outOf, none_, headOut]
        rcases bad with bad | bad
        · exact if_pos bad
        · rw [bad]
          exact ite_self _
      rw [plain _ out (.inl rfl), passFlit_drop, none_]
      rfl
    · have held : packetAt s r x.input (flitClass x.flit) = some p := by rwa [input]
      have out : outOf s r x = some Out.drop := by
        simp only [outOf, held, drop]
      rw [plain _ out (.inl rfl), passFlit_drop, held]
      rfl
    · rw [exec_flitHop up head out, if_pos (.inr wins), lanesMet, if_neg some_, badLaned_some x some_]
    · rw [exec_flitHop up head out, if_neg]
      rintro (drop | wins)
      · exact kept drop
      · exact loses wins
    · intro t
      rw [← input]
      exact packetAt_leaveInput s r x o

end Sys2Proof.Machine
end

section
/-! The routes of the fabric (R22, R26, R27, R32, R149, R152, R153) (O26). -/

namespace Sys2Proof.Machine

/-! ### Destinations -/

theorem destOf_core (s : State) (row col : Int) (goal : Option (Int × Int)) {f : Flit} (core : flitDcol f < 0x400) :
    let c : CoreRef := ⟨Fin.ofNat 1024 (flitDrow f), Fin.ofNat 1024 (flitDcol f)⟩
    destOf s row col goal f = if flitDcol f % 64 < runWidth s (chaseOf c) then some (.core c) else none := if_pos core

theorem destOf_reserved (s : State) (row col : Int) (goal : Option (Int × Int)) {f : Flit}
    (reserved : (0x434 ≤ flitDcol f ∧ flitDcol f < 0x438) ∨ 0x43C ≤ flitDcol f) : destOf s row col goal f = none := by
  refine (if_neg ?_).trans (if_neg ?_) <;> omega

/-! ### The fixed route -/

theorem fixedOpen_succ (s : State) (d : Dest) (n : Nat) (row col : Int) (input : Nat) :
    fixedOpen s d (n + 1) row col input = true ↔ (row = d.row ∧ col = d.colIn s row) ∨
      ∃ m, fixedMove s row col input d = some m ∧ fixedOpen s d n (row + m.dr) (col + m.dc) m.input = true := by
  simp only [fixedOpen, Bool.or_eq_true, Bool.and_eq_true, decide_eq_true_eq, Option.any_eq_true]

theorem moveOk_of_fixedMove {s : State} {row col : Int} {input : Nat} {d : Dest} {m : Move}
    (h : fixedMove s row col input d = some m) : moveOk s row col m = true := by
  unfold fixedMove at h
  exact List.find?_some h

section

variable {s : State} {row col : Int} {input : Nat} {d : Dest}

/-- The row leg comes first: on the destination's row, or before the column leg has begun. -/
theorem fixedMove_row {m : Move} {l : List Move} (leg : row = d.row ∨ onColumn row col input = false)
    (rows : rowMoves col (d.colIn s row) = m :: l) (ok : moveOk s row col m = true) :
    fixedMove s row col input d = some m := by
  have cond : row = d.row ∨ (rowMoves col (d.colIn s row) ≠ [] ∧ (!onColumn row col input) = true) :=
    leg.imp_right fun h => ⟨by rw [rows]; exact List.cons_ne_nil _ _, by rw [h]; rfl⟩
  have : fixedMove s row col input d = (rowMoves col (d.colIn s row)).find? (moveOk s row col) := by
    unfold fixedMove
    exact congrArg _ (if_pos cond)
  rw [this, rows, List.find?_cons, ok]

theorem fixedMove_column (leg : d.colIn s row = col ∨ onColumn row col input = true) (other : row ≠ d.row) :
    fixedMove s row col input d = (colMoves row d.row).find? (moveOk s row col) := by
  have cond : ¬ (row = d.row ∨ (rowMoves col (d.colIn s row) ≠ [] ∧ (!onColumn row col input) = true)) := by
    rintro (same | ⟨rows, not_⟩)
    · exact other same
    · rcases leg with here | on
      · refine rows ?_
        simp [rowMoves, here]
      · simp [on] at not_
  unfold fixedMove
  exact congrArg _ (if_neg cond)

theorem nextMove_open (open_ : fixedOpen s d 4096 row col input = true) :
    nextMove s row col input d = fixedMove s row col input d := if_pos open_

theorem nextMove_shut (shut : fixedOpen s d 4096 row col input = false) : nextMove s row col input d =
    if routerOk s d.row (d.colIn s d.row) then
      detourMove s row col cellCount [(d.row, d.colIn s d.row)] [(d.row, d.colIn s d.row)] else none :=
  if_neg (Bool.eq_false_iff.1 shut)

/-- Along the column the one move there is, which is open where the whole route is. -/
theorem nextMove_column {m : Move} (open_ : fixedOpen s d 4096 row col input = true)
    (leg : d.colIn s row = col ∨ onColumn row col input = true) (other : row ≠ d.row) (cols : colMoves row d.row = [m]) :
    nextMove s row col input d = some m := by
  rw [nextMove_open open_]
  have found := fixedMove_column (input := input) leg other
  obtain ⟨same, -⟩ | ⟨m', first, -⟩ := (fixedOpen_succ s d 4095 row col input).1 open_
  · exact absurd same other
  · rw [first]
    rw [cols, first] at found
    exact congrArg some (List.mem_singleton.1 (List.mem_of_find?_eq_some found.symm))

theorem rowMoves_skipEast {col tc : Int} (h : col + 2 ≤ tc) : rowMoves col tc = [Move.skipEast, Move.east] := if_pos h

theorem rowMoves_skipWest {col tc : Int} (h : tc + 2 ≤ col) : rowMoves col tc = [Move.skipWest, Move.west] :=
  (if_neg (by omega)).trans (if_pos h)

theorem rowMoves_east {col tc : Int} (h : tc = col + 1) : rowMoves col tc = [Move.east] :=
  (if_neg (by omega)).trans ((if_neg (by omega)).trans (if_pos (by omega)))

theorem rowMoves_west {col tc : Int} (h : col = tc + 1) : rowMoves col tc = [Move.west] :=
  (if_neg (by omega)).trans ((if_neg (by omega)).trans ((if_neg (by omega)).trans (if_pos (by omega))))

end

/-! ### Ways around (log entry 25) -/

/-- A way around leads to a cell of the front over a link that exists, or on from a front of working routers. -/
theorem detourMove_ok {s : State} {row col : Int} (n : Nat) {front seen : List (Int × Int)} {m : Move}
    (working : ∀ x ∈ front, routerOk s x.1 x.2 = true) (h : detourMove s row col n front seen = some m) :
    m.linked col = true ∧ routerOk s (row + m.dr) (col + m.dc) = true := by
  induction n generalizing front seen with
  | zero => cases h
  | succ n ih =>
    rw [detourMove] at h
    split at h
    next found =>
      obtain rfl := Option.some.inj h
      have ok := List.find?_some found
      rw [Bool.and_eq_true, List.contains_iff_mem] at ok
      exact ⟨ok.1, working _ ok.2⟩
    next =>
      dsimp only at h
      split_ifs at h
      refine ih (fun x hx => ?_) h
      obtain ⟨y, -, hy⟩ := List.mem_flatMap.1 (List.mem_eraseDups.1 (List.mem_of_mem_filter hx))
      obtain ⟨k, hk, rfl⟩ := List.mem_map.1 hy
      have ok := (List.mem_filter.1 hk).2
      rw [moveOk, Bool.and_eq_true] at ok
      exact ok.2

theorem cellCount_succ : cellCount = 1081343 + 1 := rfl

/-- A router next to the goal sends the packet there. -/
theorem detourMove_next {s : State} {row col : Int} (n : Nat) {goal : Int × Int} {seen : List (Int × Int)}
    (near : ∃ m ∈ detourMoves, m.linked col = true ∧ (row + m.dr, col + m.dc) = goal) :
    ∃ m, detourMove s row col (n + 1) [goal] seen = some m ∧ (row + m.dr, col + m.dc) = goal := by
  obtain ⟨k, listed, linked, at_⟩ := near
  have some_ : (detourMoves.find? (fun m => m.linked col && [goal].contains (row + m.dr, col + m.dc))).isSome = true :=
    List.find?_isSome.2 ⟨k, listed, by simp [linked, at_]⟩
  obtain ⟨m, found⟩ := Option.isSome_iff_exists.1 some_
  have ok := List.find?_some found
  rw [Bool.and_eq_true, List.contains_iff_mem, List.mem_singleton] at ok
  exact ⟨m, by rw [detourMove, found], ok.2⟩

theorem nextMove_ok {s : State} {row col : Int} {input : Nat} {d : Dest} {m : Move} (h : nextMove s row col input d = some m) :
    m.linked col = true ∧ routerOk s (row + m.dr) (col + m.dc) = true := by
  by_cases open_ : fixedOpen s d 4096 row col input = true
  · rw [nextMove_open open_] at h
    have ok := moveOk_of_fixedMove h
    rwa [moveOk, Bool.and_eq_true] at ok
  · rw [nextMove_shut (Bool.eq_false_iff.2 open_)] at h
    split_ifs at h with goal
    exact detourMove_ok _ (fun x hx => by rwa [List.mem_singleton.1 hx]) h

theorem routerOk_iff (s : State) (row col : Int) : routerOk s row col = true ↔
    (0 ≤ row ∧ row < 1024 ∧ 0 ≤ col ∧ col < 1056) ∧ transitUp s (cellChase row col) = true ∧
      routerFailed s (cellChase row col) (row.toNat % 64) (col.toNat % 66) = false := by
  simp only [routerOk, inArray, Bool.and_eq_true, decide_eq_true_eq, Bool.not_eq_true', and_assoc]

/-- Settles O26: every move by `nextMove_ok`; the open route by its legs, the shut one by the search. -/
theorem fabricRoutes : Obligations.FabricRoutes := by
  unfold Obligations.FabricRoutes
  refine ⟨fun s row col goal f => ⟨destOf_core s row col goal, destOf_reserved s row col goal⟩,
    fun s row col input d m h => ?_, fun s row col input d open_ => ⟨fun leg => ?_, fun leg => ⟨fun south => ?_, fun north => ?_⟩⟩,
    fun s row col input d shut => ⟨fun bad => ?_, fun good near => ?_⟩, fixedOpen_succ⟩
  · obtain ⟨linked, ok⟩ := nextMove_ok h
    obtain ⟨⟨row0, row1, col0, col1⟩, up, sound⟩ := (routerOk_iff s _ _).1 ok
    exact ⟨row0, row1, col0, col1, up, linked, sound⟩
  · rw [nextMove_open open_]
    exact ⟨fun far => fixedMove_row leg (rowMoves_skipEast far), fun far => fixedMove_row leg (rowMoves_skipWest far),
      fun near => fixedMove_row leg (rowMoves_east near), fun near => fixedMove_row leg (rowMoves_west near)⟩
  · exact nextMove_column open_ leg (by omega) (if_pos south)
  · exact nextMove_column open_ leg (by omega) ((if_neg (by omega)).trans (if_pos north))
  · rw [nextMove_shut shut]
    exact if_neg (Bool.eq_false_iff.1 bad)
  · obtain ⟨m, found, at_⟩ := detourMove_next (s := s) 1081343 (seen := [(d.row, d.colIn s d.row)]) near
    exact ⟨m, (nextMove_shut shut).trans ((if_pos good).trans (cellCount_succ ▸ found)), at_⟩

end Sys2Proof.Machine
end

section
/-! Register fields at one index, and what the slip controller's notes leave as they were. -/

namespace Sys2Proof.Machine

/-! ### Fields at one index -/

theorem Fld.key_inst (f : Fld) (i k : Nat) : f.key i k = f.key 0 k + i := by
  rw [Fld.key, Fld.key, Nat.add_zero]

/-- Fields with different places have different keys at every index. -/
theorem Fld.key_ne {f g : Fld} {k l : Nat} (h : f.key 0 k ≠ g.key 0 l) (i : Nat) : f.key i k ≠ g.key i l := by
  rw [f.key_inst, g.key_inst]
  omega

theorem getF_setF_other (s : State) {f g : Fld} (v i : Nat) {k l : Nat} (h : g.key 0 l ≠ f.key 0 k) :
    getF (setF s f v i k) g i l = getF s g i l :=
  getF_setF_ne s v (Fld.key_ne h i)

theorem getF_addF_other (s : State) {f g : Fld} (n i : Nat) {k l : Nat} (h : g.key 0 l ≠ f.key 0 k) :
    getF (addF s f n i k) g i l = getF s g i l := getF_setF_other s _ i h

/-- A counter rises, up to its field's largest value. -/
theorem getF_addF_same (s : State) (f : Fld) (n i k : Nat) :
    getF (addF s f n i k) f i k = min (getF s f i k + n) (2 ^ f.width - 1) := by
  have := Nat.two_pow_pos f.width
  rw [addF, getF_setF_same, Nat.mod_eq_of_lt (by omega)]

theorem getF_congr {s t : State} (h : t.regs = s.regs) (f : Fld) (i k : Nat) : getF t f i k = getF s f i k := by
  rw [getF, h, getF]

theorem onF_setF_same (s : State) (f : Fld) (v i k : Nat) : onF (setF s f v i k) f i k = (v % 2 ^ f.width != 0) := by
  rw [onF, getF_setF_same]

/-- A page that answers takes the write. -/
theorem regWrite_answers {s : State} {p : Nat} (h : answers s p = true) (f : State → State) : regWrite s p f = f s := if_pos h

/-- A page that does not answer refuses the write and counts it (R474, R536). -/
theorem regWrite_refused {s : State} {p : Nat} (h : answers s p = false) (f : State → State) : regWrite s p f =
    addF (setPageErr s p Reg.PAGE_ERR_WR_REFUSED 1) Reg.RST_WR_REFUSED 1 0 := if_neg (Bool.eq_false_iff.1 h)

/-! ### Slip requests -/

theorem noteSlip_cores (s : State) (n source : Nat) (who : Option CoreRef) : (noteSlip s n source who).cores = s.cores := by
  cases who <;> simp [noteSlip, nextFree]

theorem noteSlip_mem (s : State) (n source : Nat) (who : Option CoreRef) : (noteSlip s n source who).mem = s.mem := by
  cases who <;> simp [noteSlip, nextFree]

theorem noteSlip_chases (s : State) (n source : Nat) (who : Option CoreRef) : (noteSlip s n source who).chases = s.chases := by
  cases who <;> simp [noteSlip, nextFree]

/-- The fields that a slip request leaves as they were. -/
theorem getF_noteSlip (s : State) (n source : Nat) (who : Option CoreRef) {f : Fld} {l : Nat}
    (events : f.key 0 l ≠ Reg.CHS_SLIP_EVENTS.key 0 0) (count : f.key 0 l ≠ Reg.CHS_SLIP_SRC_CNT.key 0 source)
    (last : f.key 0 l ≠ Reg.CHS_SLIP_LAST_SOURCE.key 0 0) (lrow : f.key 0 l ≠ Reg.CHS_SLIP_LAST_LROW.key 0 0)
    (lcol : f.key 0 l ≠ Reg.CHS_SLIP_LAST_LCOL.key 0 0) : getF (noteSlip s n source who) f n l = getF s f n l := by
  have noted : getF (setF (addF (addF s Reg.CHS_SLIP_EVENTS 1 n) Reg.CHS_SLIP_SRC_CNT 1 n source) Reg.CHS_SLIP_LAST_SOURCE source n)
      f n l = getF s f n l := by
    rw [getF_setF_other _ _ _ last, getF_addF_other _ _ _ count, getF_addF_other _ _ _ events]
  cases who <;> exact (getF_setF_other _ _ _ lcol).trans ((getF_setF_other _ _ _ lrow).trans noted)

theorem getF_noteSlip_source (s : State) (n source : Nat) (who : Option CoreRef) :
    getF (noteSlip s n source who) Reg.CHS_SLIP_LAST_SOURCE n = source % 8 := by
  have noted := getF_setF_same (addF (addF s Reg.CHS_SLIP_EVENTS 1 n) Reg.CHS_SLIP_SRC_CNT 1 n source) Reg.CHS_SLIP_LAST_SOURCE
    source n 0
  cases who <;> exact (getF_setF_other _ _ _ (by decide)).trans ((getF_setF_other _ _ _ (by decide)).trans noted)

theorem getF_openSlip (s : State) (n source : Nat) (who : Option CoreRef) (what : Nat) {f : Fld} {l : Nat}
    (events : f.key 0 l ≠ Reg.CHS_SLIP_EVENTS.key 0 0) (count : f.key 0 l ≠ Reg.CHS_SLIP_SRC_CNT.key 0 source)
    (last : f.key 0 l ≠ Reg.CHS_SLIP_LAST_SOURCE.key 0 0) (lrow : f.key 0 l ≠ Reg.CHS_SLIP_LAST_LROW.key 0 0)
    (lcol : f.key 0 l ≠ Reg.CHS_SLIP_LAST_LCOL.key 0 0) : getF (openSlip s n source who what) f n l = getF s f n l :=
  (getF_noteSlip _ n source who events count last lrow lcol).trans (getF_congr (setChase_regs ..) f n l)

@[simp] theorem getChase_raise (s : State) (it : FaultItem) (n : Nat) : getChase (raise s it) n = getChase s n := rfl

theorem openSlip_slips (s : State) (n source : Nat) (who : Option CoreRef) (what : Nat) :
    (getChase (openSlip s n source who what) n).slips =
      (getChase s n).slips ++ [⟨source, who, (getChase s n).clk + 32, none, what, false⟩] := by
  rw [openSlip, getChase, noteSlip_chases, ← getChase, getChase_setChase]

end Sys2Proof.Machine
end

section
/-! Keeper halts of a chase, slip time-outs, SNAP and CLEAR (R136, R137, R165 to R174) (O27). -/

namespace Sys2Proof.Machine

/-! ### KEEPER_HALT, HALT_END and CHASE_HALTED -/

section

variable {n : ChaseId} {s : State}

theorem exec_keeperHalt (up : answers s (256 + n.val) = true) : exec (.keeperHalt n) s = .next (haltChase s n.val) :=
  congrArg _ (regWrite_answers up _)

theorem exec_haltEnd (up : answers s (256 + n.val) = true) : exec (.haltEnd n) s = .next (endHalt s n.val) :=
  congrArg _ (regWrite_answers up _)

theorem haltChase_requested (h : onF s Reg.CHS_SCHED_CTL_HALT_REQ n.val = true) : haltChase s n.val = s := if_pos h

theorem haltChase_free (h : onF s Reg.CHS_SCHED_CTL_HALT_REQ n.val = false) : haltChase s n.val =
    openSlip (setF s Reg.CHS_SCHED_CTL_HALT_REQ 1 n.val) n.val Src.keeperHalt none 0 := if_neg (Bool.eq_false_iff.1 h)

theorem keeperHalt_gives (up : answers s (256 + n.val) = true) (free : onF s Reg.CHS_SCHED_CTL_HALT_REQ n.val = false) :
    Gives (.keeperHalt n) s fun t => onF t Reg.CHS_SCHED_CTL_HALT_REQ n.val = true ∧
      (getChase t n.val).slips = (getChase s n.val).slips ++ [⟨6, none, (getChase s n.val).clk + 32, none, 0, false⟩] ∧
      getF t Reg.CHS_SLIP_LAST_SOURCE n.val = 6 ∧ t.mem = s.mem ∧ t.cores = s.cores := by
  refine ⟨_, (exec_keeperHalt up).trans (congrArg _ (haltChase_free free)), ?_, openSlip_slips .., getF_noteSlip_source ..,
    noteSlip_mem .., noteSlip_cores ..⟩
  have requested := onF_setF_same s Reg.CHS_SCHED_CTL_HALT_REQ 1 n.val 0
  have kept := getF_openSlip (setF s Reg.CHS_SCHED_CTL_HALT_REQ 1 n.val) n.val Src.keeperHalt none 0
    (f := Reg.CHS_SCHED_CTL_HALT_REQ) (l := 0) (by decide) (by decide) (by decide) (by decide) (by decide)
  rw [onF, kept]
  exact requested

theorem haltEnd_gives (up : answers s (256 + n.val) = true) :
    Gives (.haltEnd n) s fun t => onF t Reg.CHS_SCHED_CTL_HALT_REQ n.val = false ∧
      (getChase t n.val).slips = (getChase s n.val).slips.map (fun x => if x.stop = none ∧ x.timedOut = false ∧ x.source = 6
        then { x with stop := some ((getChase s n.val).clk + 32) } else x) ∧ t.mem = s.mem ∧ t.cores = s.cores := by
  refine ⟨_, exec_haltEnd up, onF_setF_same s Reg.CHS_SCHED_CTL_HALT_REQ 0 n.val 0, ?_, rfl, rfl⟩
  rw [endHalt, meetSlips, modChase, getChase_setChase]
  refine List.map_congr_left fun x _ => ?_
  refine if_congr ?_ rfl rfl
  simp only [Slip.unmet, Bool.and_eq_true, Option.isNone_iff_eq_none, Bool.not_eq_true', beq_iff_eq, and_assoc]
  rfl

theorem halted_iff (ch : Chase) : ch.halted = true ↔ ∃ x ∈ ch.slips, x.source = 6 ∧ x.stop = none ∧ x.start ≤ ch.clk := by
  simp only [Chase.halted, List.any_eq_true, Bool.and_eq_true, beq_iff_eq, Slip.unmet, Option.isNone_iff_eq_none, Slip.covers,
    decide_eq_true_eq, and_assoc]
  refine exists_congr fun x => and_congr_right fun _ => and_congr_right fun _ => and_congr_right fun open_ => ?_
  rw [open_]
  exact and_iff_left rfl

theorem exec_chaseHalted (halted : ∃ x ∈ (getChase s n.val).slips, x.source = 6 ∧ x.stop = none ∧ x.start ≤ (getChase s n.val).clk)
    (settled : lagMax s n.val = 0) : exec (.chaseHalted n) s = .next (setF s Reg.CHS_SCHED_CTL_HALTED 1 n.val) := by
  refine congrArg _ (if_pos ?_)
  rw [(halted_iff _).2 halted, settled]
  rfl

theorem exec_chaseHalted_not (h : (∀ x ∈ (getChase s n.val).slips, x.source = 6 → x.stop = none →
    (getChase s n.val).clk < x.start) ∨ lagMax s n.val ≠ 0) : exec (.chaseHalted n) s = .next s := by
  refine congrArg _ (if_neg ?_)
  rw [Bool.and_eq_true, halted_iff, beq_iff_eq]
  rintro ⟨⟨x, hx, source, open_, started⟩, settled⟩
  rcases h with h | h
  · exact absurd started (Nat.not_le.2 (h x hx source open_))
  · exact h settled

/-! ### SLIP_TIMEOUT -/

theorem slipTimeout_gives (i : Nat) (x : Slip) (c : CoreRef) (here : (getChase s n.val).slips[i]? = some x)
    (open_ : x.stop = none) (source : x.source ≠ 6) (first : x.timedOut = false) (core : x.core = some c)
    (long : x.start + getF s Reg.CHS_SLIP_LIMIT n.val ≤ (getChase s n.val).clk) :
    Gives (.slipTimeout n i) s fun t =>
      (getChase t n.val).slips = (getChase s n.val).slips.set i { x with timedOut := true } ∧ t.regs = s.regs ∧
      ∃ it, t.faults = { s.faults with items := s.faults.items ++ [it] } ∧ it.code = Err.SCHED_SLIP_TIMEOUT ∧
        it.x0 = some x.source ∧ it.x1 = some (c.row.val % 64 + 64 * (c.lcol.val % 64)) := by
  have cond : (x.unmet && x.source != Src.keeperHalt && !x.timedOut
      && decide (x.start + getF s Reg.CHS_SLIP_LIMIT n.val ≤ (getChase s n.val).clk)) = true := by
    simp [Slip.unmet, open_, first, long, Src.keeperHalt, source]
  have run : exec (.slipTimeout n i) s = .next (raise (modChase s n.val (fun ch => { ch with
      slips := ch.slips.set i { x with timedOut := true } }))
      (coreItem s Err.SCHED_SLIP_TIMEOUT c [x.source, c.row.val % 64 + 64 * (c.lcol.val % 64)])) := by
    show execSlipTimeout n i s = _
    simp only [execSlipTimeout, here, cond, if_true, core]
    rfl
  refine ⟨_, run, ?_, rfl, _, rfl, rfl, rfl, rfl⟩
  rw [getChase_raise, modChase, getChase_setChase]

theorem exec_slipTimeout_early (i : Nat) (x : Slip) (here : (getChase s n.val).slips[i]? = some x)
    (early : (getChase s n.val).clk < x.start + getF s Reg.CHS_SLIP_LIMIT n.val) : exec (.slipTimeout n i) s = .next s := by
  have cond : decide (x.start + getF s Reg.CHS_SLIP_LIMIT n.val ≤ (getChase s n.val).clk) = false :=
    decide_eq_false (Nat.not_le.2 early)
  show execSlipTimeout n i s = _
  simp only [execSlipTimeout, here, cond, Bool.and_false, Bool.false_eq_true, if_false]

/-- A met condition does not end a slip that timed out (R173). -/
theorem meetSlips_timedOut (p : Slip → Bool) (i : Nat) (x : Slip) (here : (getChase s n.val).slips[i]? = some x)
    (over_ : x.timedOut = true) : (getChase (meetSlips s n.val p) n.val).slips[i]? = some x := by
  rw [meetSlips, modChase, getChase_setChase, List.getElem?_map, here, Option.map_some, over_]
  simp

end

/-! ### SNAP and CLEAR -/

/-- The fields of a list written in turn, each with the value `v` gives. -/
def setFs {α : Type} (s : State) (l : List (Fld × α)) (v : Fld × α → Nat) (n : Nat) : State :=
  l.foldl (fun t x => setF t x.1 (v x) n) s

theorem setFs_regsOnly {α : Type} {s t : State} {ks : List Nat} {l : List (Fld × α)} (v : Fld × α → Nat) (n : Nat)
    (h : RegsOnly s t ks) (inside : ∀ x ∈ l, x.1.key n 0 ∈ ks) : RegsOnly s (setFs t l v n) ks := by
  induction l generalizing t with
  | nil => exact h
  | cons x l ih =>
    exact ih (setF_regsOnly h _ _ _ _ (inside x List.mem_cons_self)) fun y hy => inside y (List.mem_cons_of_mem _ hy)

theorem getF_setFs {α : Type} (s : State) {l : List (Fld × α)} {v : Fld × α → Nat} {n : Nat} {x : Fld × α} (hx : x ∈ l)
    (inj : ∀ y ∈ l, y.1.key 0 0 = x.1.key 0 0 → y = x) : getF (setFs s l v n) x.1 n = v x % 2 ^ x.1.width := by
  have read := foldl_read_of_mem (fun t a => kgetD t.regs a x.1.reset) (f := fun t (y : Fld × α) => setF t y.1 (v y) n)
    (addr := fun y => y.1.key n 0) (l := l) (x := x) (v := v x % 2 ^ x.1.width)
    (fun t y apart => getF_setF_ne t (v y) apart) hx
    (fun y hy same => inj y hy (by rw [y.1.key_inst n, x.1.key_inst n] at same; omega))
    (fun t => getF_setF_same t x.1 (v x) n 0) s
  exact read

theorem coreCounters_inj : ∀ x ∈ coreCounters, ∀ y ∈ coreCounters, y.1.key 0 0 = x.1.key 0 0 → y = x :=
  fun _ hx _ hy same => List.inj_on_of_nodup_map (f := fun z : Fld × (Core → Nat) => z.1.key 0 0) (by decide) hy hx same

/-- What SNAP latches for a counter. -/
def snapped (s : State) (n : Nat) (x : Fld × (Core → Nat)) : Nat :=
  if onF s Reg.CHS_CORE_CNT_SEL_MODE n then ((selectedCore s n).map x.2).getD 0
  else ((chaseCores s n).map (fun k => x.2 (kgetD s.cores k Core.reset))).sum

theorem exec_snap {n : ChaseId} {s : State} (up : answers s (256 + n.val) = true) :
    exec (.snap n) s = .next (setFs s coreCounters (snapped s n.val) n.val) := congrArg _ (regWrite_answers up _)

theorem snap_gives {n : ChaseId} {s : State} (up : answers s (256 + n.val) = true) :
    Gives (.snap n) s fun t =>
      RegsOnly s t (coreCounters.map (fun x => x.1.key n.val 0)) ∧
      (onF s Reg.CHS_CORE_CNT_SEL_MODE n.val = false → ∀ x ∈ coreCounters,
        getF t x.1 n.val = ((chaseCores s n.val).map (fun k => x.2 (kgetD s.cores k Core.reset))).sum % 2 ^ x.1.width) ∧
      (∀ k, onF s Reg.CHS_CORE_CNT_SEL_MODE n.val = true → selectedCore s n.val = some k → ∀ x ∈ coreCounters,
        getF t x.1 n.val = x.2 k % 2 ^ x.1.width) := by
  refine ⟨_, exec_snap up, setFs_regsOnly _ _ (regsOnly_refl _ _) fun x hx => List.mem_map_of_mem hx, fun total x hx => ?_,
    fun k one selected x hx => ?_⟩
  · rw [getF_setFs s hx (coreCounters_inj x hx), snapped, total]
    rfl
  · rw [getF_setFs s hx (coreCounters_inj x hx), snapped, one, selected]
    rfl

theorem clear_gives {n : ChaseId} {s : State} (up : answers s (256 + n.val) = true) :
    Gives (.clear n) s fun t => t = { s with cores := t.cores } ∧
      ∀ k c, (k, c) ∈ s.cores → (k, if 16 * (k / 65536) + k % 1024 / 64 = n.val then c.uncount else c) ∈ t.cores := by
  refine ⟨modCores s n.val Core.uncount, congrArg _ (regWrite_answers up _), rfl, fun k c listed => ?_⟩
  refine List.mem_map.2 ⟨(k, c), listed, ?_⟩
  split_ifs <;> rfl

/-- Settles O27, one command after another. -/
theorem keeperHalts : Obligations.KeeperHalts := by
  unfold Obligations.KeeperHalts
  refine ⟨fun n s => ⟨keeperHalt_gives, fun up asked => (exec_keeperHalt up).trans (congrArg _ (haltChase_requested asked)),
    haltEnd_gives, fun c hc down => ?_, exec_chaseHalted, exec_chaseHalted_not, slipTimeout_gives, exec_slipTimeout_early,
    meetSlips_timedOut⟩, fun n s up => ⟨snap_gives up, clear_gives up⟩⟩
  simp only [List.mem_cons, List.not_mem_nil, or_false] at hc
  rcases hc with rfl | rfl | rfl | rfl <;> exact congrArg _ (regWrite_refused down _)

end Sys2Proof.Machine
end

section
/-! Commands of the submission rings are fetched in turn (R291, R294), and a GENERATE that passes its checks is queued (R300,
R306) (O28). -/

namespace Sys2Proof.Machine

/-! ### Fetching -/

theorem withRecord_ok {name : String} {kinds : Nat → Bool} {rec : List Byte} (s : State) (length : rec.length = 64)
    (kind : kinds (kindOf rec) = true) : withRecord name kinds rec s = .next s := if_pos ⟨length, kind⟩

section

variable {s : State} {q : Nat}

theorem fetchWith_takes (f : State → State) (h : Fetchable s q) : fetchWith s q f = lapseTombstones (f (fetched s q)) := by
  unfold fetchWith
  exact (if_pos h.1).trans (if_neg h.2)

theorem fetchWith_blocked (f : State → State) (turn : canFetch s q = true) (full : rqFree s q = 0) :
    fetchWith s q f = blockHead s q := by
  unfold fetchWith
  exact (if_pos turn).trans (if_pos full)

theorem fetchWith_idle (f : State → State) (other : canFetch s q = false) : fetchWith s q f = s :=
  if_neg (Bool.eq_false_iff.1 other)

/-- A command that is fetched with `apply`: taken with room, blocked without, and untouched out of its turn. -/
theorem fetch_cases {c : Instr} {apply : State → State} (run : exec c s = .next (fetchWith s q apply)) :
    (Fetchable s q → exec c s = .next (lapseTombstones (apply (fetched s q)))) ∧
      (canFetch s q = true → rqFree s q = 0 → exec c s = .next (blockHead s q)) ∧
      (canFetch s q = false → exec c s = .next s) :=
  ⟨fun h => run.trans (congrArg _ (fetchWith_takes _ h)), fun turn full => run.trans (congrArg _ (fetchWith_blocked _ turn full)),
    fun other => run.trans (congrArg _ (fetchWith_idle _ other))⟩

end

theorem ringCommand_cases (q : QueueId) (rec : List Byte) (s : State) (length : rec.length = 64) :
    ∀ p ∈ [(kindOf rec == 0x02, Instr.cancel q rec, cancelApply (fetched s q.val) q.val rec),
        (kindOf rec == 0x03, .release q rec, releaseApply (fetched s q.val) q.val rec),
        (kindOf rec == 0x10, .mooringSet q rec, mooringSetApply (fetched s q.val) q.val rec),
        (kindOf rec == 0x11, .mooringClear q rec, mooringClearApply (fetched s q.val) q.val rec),
        (!knownKinds.contains (kindOf rec), .badKind q rec, complete (fetched s q.val) q.val rec Sts.BAD_KIND 5)],
      p.1 = true →
      (Fetchable s q.val → exec p.2.1 s = .next (lapseTombstones p.2.2)) ∧
      (canFetch s q.val = true → rqFree s q.val = 0 → exec p.2.1 s = .next (blockHead s q.val)) ∧
      (canFetch s q.val = false → exec p.2.1 s = .next s) := by
  intro p hp kind
  simp only [List.mem_cons, List.not_mem_nil, or_false] at hp
  rcases hp with rfl | rfl | rfl | rfl | rfl
  · exact fetch_cases (apply := fun s => cancelApply s q.val rec) (withRecord_ok (name := "CANCEL") (kinds := (· == 0x02)) _ length kind)
  · exact fetch_cases (apply := fun s => releaseApply s q.val rec) (withRecord_ok (name := "RELEASE") (kinds := (· == 0x03)) _ length kind)
  · exact fetch_cases (apply := fun s => mooringSetApply s q.val rec) (withRecord_ok (name := "MOORING_SET") (kinds := (· == 0x10)) _ length kind)
  · exact fetch_cases (apply := fun s => mooringClearApply s q.val rec) (withRecord_ok (name := "MOORING_CLEAR") (kinds := (· == 0x11)) _ length kind)
  · exact fetch_cases (apply := fun s => complete s q.val rec Sts.BAD_KIND 5) (withRecord_ok (name := "BAD_KIND") (kinds := (fun k => !knownKinds.contains k)) _ length kind)

theorem exec_generate {q : QueueId} {rec : List Byte} {h : HostData} {e : Nat} {s : State} (length : rec.length = 64)
    (kind : kindOf rec = 0x01) (free : kfree s.serve.streams 0 16384 = some e) (can : Fetchable s q.val) :
    exec (.generate q rec h) s = .next (lapseTombstones (genApply (fetched s q.val) q.val rec h e)) := by
  show execGenerate q rec h s = _
  rw [execGenerate, withRecord_ok _ length (by rw [kind]; rfl), free]
  exact congrArg _ (fetchWith_takes _ can)

theorem exec_generate_full {q : QueueId} {rec : List Byte} {h : HostData} {s : State} (length : rec.length = 64)
    (kind : kindOf rec = 0x01) (full : kfree s.serve.streams 0 16384 = none) (turn : canFetch s q.val = true) :
    exec (.generate q rec h) s = .next (blockHead s q.val) := by
  show execGenerate q rec h s = _
  rw [execGenerate, withRecord_ok _ length (by rw [kind]; rfl), full]
  exact congrArg _ (if_pos turn)

/-! ### A GENERATE becomes QUEUED -/

theorem kfree_spec {α : Type} {m : KMap α} {i n k : Nat} (h : kfree m i n = some k) :
    i ≤ k ∧ k < i + n ∧ kget? m k = none := by
  induction n generalizing i with
  | zero => cases h
  | succ n ih =>
    rw [kfree] at h
    split_ifs at h with free
    · obtain rfl := Option.some.inj h
      exact ⟨le_rfl, by omega, Option.isNone_iff_eq_none.1 free⟩
    · obtain ⟨low, high, none_⟩ := ih h
      exact ⟨by omega, by omega, none_⟩

theorem lapseTombstones_of_none {s : State} (none_ : s.serve.tombstones = []) : lapseTombstones s = s := by
  simp only [lapseTombstones, none_, List.filter_nil, List.foldl_nil]
  rw [← none_]

theorem getQ_setQ (s : State) (q : Nat) (x : Queue) : getQ (setQ s q x) q = x := kgetD_kset_same ..

theorem getQ_congr {s t : State} (h : t.serve.queues = s.serve.queues) (q : Nat) : getQ t q = getQ s q := by
  rw [getQ, h, getQ]

theorem fetched_sqHead (s : State) (q : Nat) : (getQ (fetched s q) q).sqHead = ((getQ s q).sqHead + 1) % sqSize s q := by
  show (getQ (popHead s q) q).sqHead = _
  rw [popHead, getQ_setQ]

/-- A GENERATE that names a conversation, once that is claimed. -/
def withClaim (s : State) (q : Nat) (rec : List Byte) (e : Nat) : State :=
  let s := if genConv rec != 0 && genHold rec && !(findConv s (tenantOf rec) (genConv rec)).isSome then
    { s with serve := { s.serve with convs := s.serve.convs ++ [newConv q rec] } } else s
  if genConv rec = 0 then s else modConv s (tenantOf rec) (genConv rec) (fun k => { k with claimed := some e })

/-- Claiming a conversation changes the list of conversations alone. -/
theorem withClaim_rest (s : State) (q : Nat) (rec : List Byte) (e : Nat) :
    withClaim s q rec e = { s with serve := { s.serve with convs := (withClaim s q rec e).serve.convs } } := by
  unfold withClaim
  dsimp only
  split_ifs <;> rfl

theorem enqueue_eq (s : State) (q : Nat) (rec : List Byte) (h : HostData) (e : Nat) : enqueue s q rec h e =
    (let t := setSt (withClaim s q rec e) e (newStream (withClaim s q rec e) q rec h
      (genConv rec != 0 && genHold rec && !(findConv s (tenantOf rec) (genConv rec)).isSome))
    { t with serve := { t.serve with order := t.serve.order + 1 } }) := rfl

/-- The conversation that a request claimed names its entry. -/
theorem claimed_of_findConv {s : State} {t c e : Nat} {k : Conv}
    (h : findConv (modConv s t c (fun k => { k with claimed := some e })) t c = some k) : k.claimed = some e := by
  have named := List.find?_some h
  obtain ⟨y, -, rfl⟩ := List.mem_map.1 (List.mem_of_find?_eq_some h)
  simp only [Bool.and_eq_true, beq_iff_eq] at named
  by_cases own : y.tenant = t ∧ y.handle = c
  · rw [if_pos own]
  · rw [if_neg own] at named
    exact absurd named own

theorem withClaim_claimed {s : State} {q e : Nat} {rec : List Byte} {k : Conv} (named : genConv rec ≠ 0)
    (h : findConv (withClaim s q rec e) (tenantOf rec) (genConv rec) = some k) : k.claimed = some e := by
  unfold withClaim at h
  dsimp only at h
  rw [if_neg named] at h
  exact claimed_of_findConv h

theorem genApply_queued {s : State} {q e : Nat} {rec : List Byte} {h : HostData} (none_ : s.serve.tombstones = [])
    (ok : genCheck s rec h = none) : genApply s q rec h e = enqueue s q rec h e := by
  unfold genApply
  rw [none_, ok]
  rfl

section

variable (s : State) (q e : Nat) (rec : List Byte) (h : HostData)

theorem enqueue_tombstones : (enqueue s q rec h e).serve.tombstones = s.serve.tombstones := by
  rw [enqueue_eq, withClaim_rest]
  rfl

theorem enqueue_order : (enqueue s q rec h e).serve.order = s.serve.order + 1 := by
  rw [enqueue_eq, withClaim_rest]
  rfl

theorem enqueue_queues : (enqueue s q rec h e).serve.queues = s.serve.queues := by
  rw [enqueue_eq, withClaim_rest]
  rfl

theorem enqueue_rest : enqueue s q rec h e = { s with serve := (enqueue s q rec h e).serve } := by
  rw [enqueue_eq, withClaim_rest]
  rfl

theorem enqueue_streams : (enqueue s q rec h e).serve.streams = kset s.serve.streams e (newStream (withClaim s q rec e) q rec h
    (genConv rec != 0 && genHold rec && !(findConv s (tenantOf rec) (genConv rec)).isSome)) := by
  rw [enqueue_eq]
  show kset (withClaim s q rec e).serve.streams e _ = _
  rw [withClaim_rest]

theorem getSt_enqueue : ∃ x, getSt (enqueue s q rec h e) e = some x ∧ x.state = 0 ∧ x.cmd = rec ∧ x.queue = q ∧
    x.order = s.serve.order ∧ x.req = none ∧ x.tokens = h.prompt.take (genPromptLen rec) := by
  refine ⟨newStream (withClaim s q rec e) q rec h (genConv rec != 0 && genHold rec &&
    !(findConv s (tenantOf rec) (genConv rec)).isSome), ?_, rfl, rfl, rfl, ?_, rfl, rfl⟩
  · rw [getSt, enqueue_streams, kget?_kset_same]
  · show (withClaim s q rec e).serve.order = _
    rw [withClaim_rest]

theorem enqueue_convs : (enqueue s q rec h e).serve.convs = (withClaim s q rec e).serve.convs := rfl

end

theorem findConv_congr {s t : State} (h : t.serve.convs = s.serve.convs) (tenant handle : Nat) :
    findConv t tenant handle = findConv s tenant handle := by
  rw [findConv, h, findConv]

theorem generate_queues (q : QueueId) (rec : List Byte) (h : HostData) (e : Nat) (s : State) (length : rec.length = 64)
    (kind : kindOf rec = 0x01) (free : kfree s.serve.streams 0 16384 = some e) (can : Fetchable s q.val)
    (none_ : s.serve.tombstones = []) (ok : genCheck (fetched s q.val) rec h = none) :
    e < 16384 ∧ kget? s.serve.streams e = none ∧ Gives (.generate q rec h) s fun t =>
      (∃ x, getSt t e = some x ∧ x.state = 0 ∧ x.cmd = rec ∧ x.queue = q.val ∧ x.order = s.serve.order ∧ x.req = none ∧
        x.tokens = h.prompt.take (genPromptLen rec)) ∧
      AgreeBut s.serve.streams t.serve.streams [e] ∧ t.serve.order = s.serve.order + 1 ∧
      t = { s with serve := t.serve } ∧
      (getQ t q.val).sqHead = ((getQ s q.val).sqHead + 1) % sqSize s q.val ∧
      (∀ c, genConv rec ≠ 0 → findConv t (tenantOf rec) (genConv rec) = some c → c.claimed = some e) := by
  obtain ⟨-, below, absent⟩ := kfree_spec free
  have quiet : (fetched s q.val).serve.tombstones = [] := by
    show s.serve.tombstones.map (ageTombstone q.val) = []
    rw [none_, List.map_nil]
  have run := exec_generate (h := h) length kind free can
  rw [genApply_queued quiet ok, lapseTombstones_of_none (by rw [enqueue_tombstones, quiet])] at run
  refine ⟨by omega, absent, _, run, getSt_enqueue .., ?_, enqueue_order .., enqueue_rest .., ?_, fun c named found => ?_⟩
  · rw [enqueue_streams]
    exact agreeBut_kset (agreeBut_refl _ _) _ (List.mem_singleton.2 rfl)
  · exact (congrArg Queue.sqHead (getQ_congr (enqueue_queues ..) _)).trans (fetched_sqHead s q.val)
  · rw [findConv_congr (enqueue_convs ..)] at found
    exact withClaim_claimed named found

/-- Settles O28: the ring's commands by `fetch_cases`; a GENERATE that passes its checks by `generate_queues`. -/
theorem ringCommandsFetched : Obligations.RingCommandsFetched := by
  unfold Obligations.RingCommandsFetched
  exact ⟨fun q rec s length => ⟨ringCommand_cases q rec s length, fun h e kind free can => exec_generate length kind free can,
    fun h kind full turn => exec_generate_full length kind full turn⟩, generate_queues⟩

end Sys2Proof.Machine
end

section
/-! Records in host rings (R293, R294, R330, R495, R558): responses at the tail or owed, fault and telemetry records at
theirs (O29). -/

namespace Sys2Proof.Machine

/-! ### Queues -/

theorem getQ_setQ_ne (s : State) {p q : Nat} (x : Queue) (h : p ≠ q) : getQ (setQ s q x) p = getQ s p :=
  kgetD_kset_ne _ _ _ h

/-- What the interrupt coalescing of a queue leaves as it was. -/
structure Coalesced (s t : State) (q : Nat) : Prop where
  queue : getQ t q = { getQ s q with since := (getQ t q).since, sinceAt := (getQ t q).sinceAt }
  others : ∀ p, p ≠ q → getQ t p = getQ s p
  rest : t = { s with serve := { s.serve with queues := t.serve.queues }, io := t.io }

theorem getQ_msix (s : State) (v p : Nat) : getQ (msix s v) p = getQ s p := rfl

theorem coalesced_coalesce (s : State) (q : Nat) : Coalesced s (coalesce s q) q := by
  unfold coalesce
  dsimp only
  split_ifs
  · refine ⟨?_, fun p other => ?_, rfl⟩
    · simp only [raiseQueue, modQ, getQ_setQ]
      rw [getQ_msix, getQ_setQ]
    · simp only [raiseQueue, modQ]
      rw [getQ_setQ_ne _ _ other, getQ_msix, getQ_setQ_ne _ _ other]
  · exact ⟨by rw [getQ_setQ], fun p other => getQ_setQ_ne _ _ other, rfl⟩

/-- The record's bytes in a ring's lap. -/
def respBytes (r : Resp) (phase : Bool) : List Byte := r.bytes.take 31 ++ [if phase then 1 else 0]

theorem respBytes_length {r : Resp} (phase : Bool) (h : 31 ≤ r.bytes.length) : (respBytes r phase).length = 32 := by
  simp [respBytes, h]

theorem writeResp_eq (s : State) (q : Nat) {r : Resp} (frees : r.frees = none) : writeResp s q r =
    coalesce (setQ (hostWrite s (getF s Reg.SRV_RQ_BASE q + 32 * (getQ s q).rqTail) (respBytes r (getQ s q).phase)) q
      { getQ s q with
        rqTail := ((getQ s q).rqTail + 1) % rqSize s q
        used := (getQ s q).used + 1
        phase := if (getQ s q).rqTail + 1 = rqSize s q then !(getQ s q).phase else (getQ s q).phase }) q := by
  unfold writeResp
  rw [frees]
  rfl

/-! ### CANCELs that a record answers (R330) -/

/-- CANCELs that still wait for a terminal record, or for their own completion. -/
def cancelsLeft (s : State) : Nat := s.serve.answered.length + (s.serve.streams.map (fun e => e.2.cancels.length)).sum

theorem sum_kdel {α : Type} (m : KMap α) (k : Nat) (f : Nat × α → Nat) (c : α → Nat) (h : ∀ e, f e = c e.2) :
    ((kget? m k).map c).getD 0 + ((kdel m k).map f).sum ≤ (m.map f).sum := by
  induction m with
  | nil => simp [kget?, kdel]
  | cons e m ih =>
    obtain ⟨j, v⟩ := e
    simp only [kget?, kdel]
    split_ifs with same
    · simp only [Option.map_some, Option.getD_some, List.map_cons, List.sum_cons, h (j, v)]
      omega
    · simp only [List.map_cons, List.sum_cons]
      omega

theorem cancelsLeft_freeEntry (s : State) (e : Nat) : cancelsLeft (freeEntry s e) ≤ cancelsLeft s := by
  have moved := sum_kdel s.serve.streams e (fun e => e.2.cancels.length) (fun x => x.cancels.length) fun _ => rfl
  have length : (((kget? s.serve.streams e).map (·.cancels)).getD []).length =
      ((kget? s.serve.streams e).map (fun x => x.cancels.length)).getD 0 := by
    cases kget? s.serve.streams e <;> rfl
  simp only [cancelsLeft, freeEntry, List.length_append, length]
  omega

theorem cancelsLeft_congr {s t : State} (answered : t.serve.answered = s.serve.answered)
    (streams : t.serve.streams = s.serve.streams) : cancelsLeft t = cancelsLeft s := by
  rw [cancelsLeft, answered, streams, cancelsLeft]

theorem cancelsLeft_coalesce (s : State) (q : Nat) : cancelsLeft (coalesce s q) = cancelsLeft s := by
  have rest := (coalesced_coalesce s q).rest
  exact cancelsLeft_congr (by rw [rest]) (by rw [rest])

theorem cancelsLeft_writeResp (s : State) (q : Nat) (r : Resp) : cancelsLeft (writeResp s q r) ≤ cancelsLeft s := by
  unfold writeResp
  dsimp only
  split
  · exact (cancelsLeft_freeEntry ..).trans (cancelsLeft_coalesce ..).le
  · exact (cancelsLeft_coalesce ..).le

theorem cancelsLeft_drainOwed (s : State) (q : Nat) (rs : List Resp) : cancelsLeft (drainOwed s q rs) ≤ cancelsLeft s := by
  induction rs generalizing s with
  | nil => exact le_rfl
  | cons r rs ih =>
    rw [drainOwed]
    split_ifs
    · exact (ih _).trans (cancelsLeft_writeResp ..)
    · exact le_rfl

theorem cancelsLeft_respondOne (s : State) (q : Nat) (r : Resp) : cancelsLeft (respondOne s q r) ≤ cancelsLeft s := by
  unfold respondOne
  split_ifs
  · split
    · exact cancelsLeft_freeEntry ..
    · exact le_rfl
  · exact cancelsLeft_drainOwed ..

theorem payCancels_answered (n : Nat) (s : State) (h : cancelsLeft s ≤ n) : (payCancels n s).serve.answered = [] := by
  induction n generalizing s with
  | zero =>
    rw [payCancels]
    unfold cancelsLeft at h
    exact List.eq_nil_of_length_eq_zero (by omega)
  | succ n ih =>
    rw [payCancels]
    split
    next none_ => exact none_
    next c r some_ =>
      refine ih _ ((cancelsLeft_respondOne _ _ _).trans ?_)
      have one : cancelsLeft { s with serve := { s.serve with answered := r } } + 1 = cancelsLeft s := by
        simp only [cancelsLeft, some_, List.length_cons]
        omega
      omega

theorem payAll_answered (s : State) : (payAll s).serve.answered = [] := payCancels_answered _ s le_rfl

theorem payAll_of_none {s : State} (none_ : s.serve.answered = []) : payAll s = s := by
  unfold payAll
  generalize s.serve.answered.length + (s.serve.streams.map (fun e => e.2.cancels.length)).sum = n
  cases n with
  | zero => rfl
  | succ n => rw [payCancels, none_]

/-! ### A response at the tail, or owed -/

/-- The state once a record stands at the tail of an open ring. -/
def ringWritten (s : State) (q : Nat) (r : Resp) : State :=
  modQ (writeResp s q r) q (fun x => { x with owed := [] })

theorem respond_written {s : State} {q : Nat} {r : Resp} (open_ : RingOpen s q) (none_ : s.serve.answered = [])
    (frees : r.frees = none) : respond s q r = ringWritten s q r := by
  obtain ⟨own, owed, room, up⟩ := open_
  have one : respondOne s q r = ringWritten s q r := by
    rw [respondOne, if_neg own, owed, List.nil_append, drainOwed, if_pos ⟨room, up⟩, drainOwed]
    rfl
  have answered : (ringWritten s q r).serve.answered = [] := by
    show (writeResp s q r).serve.answered = []
    rw [writeResp_eq s q frees, (coalesced_coalesce _ q).rest]
    exact none_
  rw [respond, one, payAll_of_none answered]

theorem hostWrite_host (s : State) (a : Nat) (bs : List Byte) :
    (hostWrite s a bs).mem = { s.mem with host := memWriteBytes s.mem.host a bs } := rfl

theorem response_written (q : Nat) (r : Resp) (s : State) (open_ : RingOpen s q) (none_ : s.serve.answered = [])
    (frees : r.frees = none) (long : 31 ≤ r.bytes.length) :
    let t := respond s q r
    let a := getF s Reg.SRV_RQ_BASE q + 32 * (getQ s q).rqTail
    memReadBytes t.mem.host a 32 = r.bytes.take 31 ++ [if (getQ s q).phase then 1 else 0] ∧
    BytesBut s.mem.host t.mem.host a 32 ∧ t.mem.store = s.mem.store ∧ t.mem.stack = s.mem.stack ∧
    (getQ t q).rqTail = ((getQ s q).rqTail + 1) % rqSize s q ∧ (getQ t q).used = (getQ s q).used + 1 ∧
    (getQ t q).phase = (if (getQ s q).rqTail + 1 = rqSize s q then !(getQ s q).phase else (getQ s q).phase) ∧
    (getQ t q).owed = [] ∧ (getQ t q).sqHead = (getQ s q).sqHead ∧ t.serve.streams = s.serve.streams ∧
    (∀ p, p ≠ q → getQ t p = getQ s p) := by
  intro t a
  let u := setQ (hostWrite s a (respBytes r (getQ s q).phase)) q { getQ s q with
    rqTail := ((getQ s q).rqTail + 1) % rqSize s q
    used := (getQ s q).used + 1
    phase := if (getQ s q).rqTail + 1 = rqSize s q then !(getQ s q).phase else (getQ s q).phase }
  have written : t = modQ (coalesce u q) q (fun x => { x with owed := [] }) := by
    show respond s q r = _
    rw [respond_written open_ none_ frees, ringWritten, writeResp_eq s q frees]
  have coalesced : Coalesced u (coalesce u q) q := coalesced_coalesce u q
  have mem : t.mem = { s.mem with host := memWriteBytes s.mem.host a (respBytes r (getQ s q).phase) } := by
    rw [written]
    show (coalesce u q).mem = _
    rw [coalesced.rest]
    rfl
  have queue : getQ t q = { getQ u q with
      since := (getQ (coalesce u q) q).since, sinceAt := (getQ (coalesce u q) q).sinceAt, owed := [] } := by
    rw [written, modQ, getQ_setQ, coalesced.queue]
  have length := respBytes_length (getQ s q).phase long
  rw [mem, queue, show getQ u q = _ from getQ_setQ ..]
  refine ⟨?_, fun x out => ?_, rfl, rfl, rfl, rfl, rfl, rfl, rfl, ?_, fun p other => ?_⟩
  · have read := memReadBytes_memWriteBytes s.mem.host a (respBytes r (getQ s q).phase)
    rwa [length] at read
  · exact memRead_memWriteBytes_out _ _ _ (by rwa [length])
  · rw [written]
    show (coalesce u q).serve.streams = _
    rw [coalesced.rest]
    rfl
  · rw [written, modQ, getQ_setQ_ne _ _ other, coalesced.others p other]
    exact getQ_setQ_ne _ _ other

theorem response_owed (q : Nat) (r : Resp) (s : State) (own : q ∉ s.partner.handed) (none_ : s.serve.answered = [])
    (full : (getQ s q).used = rqSize s q ∨ hostUp s = false) :
    let t := respond s q r
    (getQ t q).owed = (getQ s q).owed ++ [r] ∧ t.mem = s.mem ∧ t.serve.streams = s.serve.streams ∧
    (getQ t q).rqTail = (getQ s q).rqTail ∧ (getQ t q).used = (getQ s q).used := by
  intro t
  have shut : ¬ ((getQ s q).used < rqSize s q ∧ hostUp s = true) := by
    rintro ⟨room, up⟩
    rcases full with full | down
    · omega
    · simp [up] at down
  have owes : ∀ rs : List Resp, rs ≠ [] → drainOwed s q rs = modQ s q (fun x => { x with owed := rs }) := by
    intro rs some_
    cases rs with
    | nil => exact absurd rfl some_
    | cons r rs => rw [drainOwed, if_neg shut]
  have owed : t = modQ s q (fun x => { x with owed := (getQ s q).owed ++ [r] }) := by
    show respond s q r = _
    rw [respond, respondOne, if_neg own, owes _ (by simp)]
    exact payAll_of_none none_
  rw [owed]
  simp only [modQ, getQ_setQ]
  exact ⟨trivial, rfl, rfl, trivial, trivial⟩

/-! ### Fault and telemetry rings (R558) -/

theorem getF_hostWrite {s : State} {a : Nat} {bs : List Byte} {f : Fld} (h : f.key 0 0 ≠ Reg.HST_WR_BYTES.key 0 0) :
    getF (hostWrite s a bs) f 0 = getF s f 0 :=
  getF_addF_other { s with mem := { s.mem with host := memWriteBytes s.mem.host a bs } } bs.length 0 h

/-- The ring with its oldest record lost where it is full. -/
def ringRoomed (s : State) (r : Ring) : State :=
  if (getF s r.tail 0 + 1) % ringSlots s r = getF s r.head 0 then
    addF (setF s r.head ((getF s r.head 0 + 1) % ringSlots s r) 0) r.lost 1 0
  else s

theorem ringPut_eq (s : State) (r : Ring) (bs : List Byte) : ringPut s r bs =
    setF (hostWrite (ringRoomed s r) (getF (ringRoomed s r) r.base 0 + r.size * getF s r.tail 0) bs) r.tail
      ((getF s r.tail 0 + 1) % ringSlots s r) 0 := rfl

/-- The fields of a ring lie apart, and apart from the count of written bytes. -/
structure RingApart (r : Ring) : Prop where
  head_tail : r.head.key 0 0 ≠ r.tail.key 0 0
  lost_tail : r.lost.key 0 0 ≠ r.tail.key 0 0
  head_lost : r.head.key 0 0 ≠ r.lost.key 0 0
  base_head : r.base.key 0 0 ≠ r.head.key 0 0
  base_lost : r.base.key 0 0 ≠ r.lost.key 0 0
  head_bytes : r.head.key 0 0 ≠ Reg.HST_WR_BYTES.key 0 0
  lost_bytes : r.lost.key 0 0 ≠ Reg.HST_WR_BYTES.key 0 0

theorem ringApart_host {r : Ring} (h : r = errRing ∨ r = telRing) : RingApart r := by
  rcases h with rfl | rfl
  · exact ⟨by decide, by decide, by decide, by decide, by decide, by decide, by decide⟩
  · exact ⟨by decide, by decide, by decide, by decide, by decide, by decide, by decide⟩

section

variable {s : State} {r : Ring} (apart : RingApart r)

include apart in
theorem ringRoomed_base : getF (ringRoomed s r) r.base 0 = getF s r.base 0 := by
  unfold ringRoomed
  split_ifs
  · rw [getF_addF_other _ _ _ apart.base_lost, getF_setF_other _ _ _ apart.base_head]
  · rfl

include apart in
theorem ringPut_head (bs : List Byte) : getF (ringPut s r bs) r.head 0 = getF (ringRoomed s r) r.head 0 := by
  rw [ringPut_eq, getF_setF_other _ _ _ apart.head_tail, getF_hostWrite apart.head_bytes]

include apart in
theorem ringPut_lost (bs : List Byte) : getF (ringPut s r bs) r.lost 0 = getF (ringRoomed s r) r.lost 0 := by
  rw [ringPut_eq, getF_setF_other _ _ _ apart.lost_tail, getF_hostWrite apart.lost_bytes]

theorem ringRoomed_room (room : (getF s r.tail 0 + 1) % ringSlots s r ≠ getF s r.head 0) : ringRoomed s r = s := if_neg room

theorem ringRoomed_full (full : (getF s r.tail 0 + 1) % ringSlots s r = getF s r.head 0) : ringRoomed s r =
    addF (setF s r.head ((getF s r.head 0 + 1) % ringSlots s r) 0) r.lost 1 0 := if_pos full

theorem ringRoomed_rest (s : State) (r : Ring) : ringRoomed s r = { s with regs := (ringRoomed s r).regs } := by
  unfold ringRoomed
  split_ifs <;> rfl

theorem ringPut_mem (s : State) (r : Ring) (bs : List Byte) : (ringPut s r bs).mem = { s.mem with
    host := memWriteBytes s.mem.host (getF (ringRoomed s r) r.base 0 + r.size * getF s r.tail 0) bs } := by
  have mem : (ringRoomed s r).mem = s.mem := by rw [ringRoomed_rest]
  rw [ringPut_eq, setF_mem, hostWrite_host, mem]

end

theorem ringPut_cases (s : State) (r : Ring) (bs : List Byte) (host : r = errRing ∨ r = telRing) (length : bs.length = r.size) :
    let n := ringSlots s r
    let tl := getF s r.tail 0
    let t := ringPut s r bs
    memReadBytes t.mem.host (getF s r.base 0 + r.size * tl) r.size = bs ∧
    BytesBut s.mem.host t.mem.host (getF s r.base 0 + r.size * tl) r.size ∧
    getF t r.tail 0 = (tl + 1) % n % 2 ^ r.tail.width ∧
    ((tl + 1) % n ≠ getF s r.head 0 → getF t r.head 0 = getF s r.head 0 ∧ getF t r.lost 0 = getF s r.lost 0) ∧
    ((tl + 1) % n = getF s r.head 0 → getF t r.head 0 = (getF s r.head 0 + 1) % n % 2 ^ r.head.width ∧
      getF t r.lost 0 = min (getF s r.lost 0 + 1) (2 ^ r.lost.width - 1)) ∧
    t.mem.store = s.mem.store ∧ t.mem.stack = s.mem.stack ∧ t.faults = s.faults ∧ t.serve = s.serve := by
  intro n tl t
  have apart := ringApart_host host
  have mem : t.mem = { s.mem with host := memWriteBytes s.mem.host (getF s r.base 0 + r.size * tl) bs } := by
    rw [← ringRoomed_base apart]
    exact ringPut_mem s r bs
  have rest : ∀ {β : Type} (g : State → β) (_ : ∀ u a bs f v, g (setF (hostWrite u a bs) f v 0) = g u)
      (_ : ∀ u m, g { u with regs := m } = g u), g t = g s := by
    intro β g written regs
    show g (ringPut s r bs) = _
    rw [ringPut_eq, written, ringRoomed_rest, regs]
  rw [mem]
  refine ⟨?_, fun x out => memRead_memWriteBytes_out _ _ _ (by rwa [length]), getF_setF_same .., fun room => ?_, fun full => ?_, rfl, rfl,
    rest State.faults (fun _ _ _ _ _ => rfl) fun _ _ => rfl, rest State.serve (fun _ _ _ _ _ => rfl) fun _ _ => rfl⟩
  · rw [← length]
    exact memReadBytes_memWriteBytes ..
  · exact ⟨by rw [ringPut_head apart, ringRoomed_room room], by rw [ringPut_lost apart, ringRoomed_room room]⟩
  · refine ⟨?_, ?_⟩
    · rw [ringPut_head apart, ringRoomed_full full, getF_addF_other _ _ _ apart.head_lost, getF_setF_same]
    · rw [ringPut_lost apart, ringRoomed_full full, getF_addF_same, getF_setF_other _ _ _ apart.head_lost.symm]

/-- Settles O29: a response by `response_written` and `response_owed`, its CANCELs by the measure `cancelsLeft`, a record in
a host ring by `ringPut_cases`. -/
theorem responseRecords : Obligations.ResponseRecords := by
  unfold Obligations.ResponseRecords
  exact ⟨⟨response_written, response_owed, fun q r s => payAll_answered _⟩, ringPut_cases⟩

end Sys2Proof.Machine
end

section
/-! CANCEL, RELEASE, MOORING_SET and MOORING_CLEAR (R301, R312 to R315, R327 to R332, R340) (O30). -/

namespace Sys2Proof.Machine

/-! ### The request that a CANCEL names (R301) -/

/-- The one of two requests that was fetched earlier. -/
def earlier (b : Option (Nat × Stream)) (e : Nat × Stream) : Option (Nat × Stream) :=
  match b with
  | none => some e
  | some y => if e.2.order < y.2.order then some e else some y

theorem earlier_spec (b : Option (Nat × Stream)) (e : Nat × Stream) : ∃ x, earlier b e = some x ∧ (x = e ∨ b = some x) ∧
    x.2.order ≤ e.2.order ∧ ∀ y, b = some y → x.2.order ≤ y.2.order := by
  cases b with
  | none => exact ⟨e, rfl, .inl rfl, le_rfl, fun _ hy => absurd hy (Option.some_ne_none _).symm⟩
  | some y =>
    unfold earlier
    dsimp only
    split_ifs with h
    · refine ⟨e, rfl, .inl rfl, le_rfl, fun z hz => ?_⟩
      rw [← Option.some.inj hz]
      exact h.le
    · refine ⟨y, rfl, .inr rfl, Nat.not_lt.1 h, fun z hz => ?_⟩
      rw [← Option.some.inj hz]

theorem foldl_earlier (l : List (Nat × Stream)) (b : Option (Nat × Stream)) {x : Nat × Stream}
    (h : l.foldl earlier b = some x) : (b = some x ∨ x ∈ l) ∧ (∀ y ∈ l, x.2.order ≤ y.2.order) ∧
      ∀ y, b = some y → x.2.order ≤ y.2.order := by
  induction l generalizing b with
  | nil => exact ⟨.inl h, fun _ hy => absurd hy List.not_mem_nil, fun y hy => by rw [Option.some.inj (h.symm.trans hy)]⟩
  | cons e l ih =>
    obtain ⟨z, first, from_, le_e, le_b⟩ := earlier_spec b e
    rw [List.foldl_cons, first] at h
    obtain ⟨mem, le_l, le_z⟩ := ih _ h
    have le_z := le_z z rfl
    refine ⟨?_, fun y hy => ?_, fun y hy => le_z.trans (le_b y hy)⟩
    · rcases mem with same | listed
      · obtain rfl := Option.some.inj same
        exact from_.symm.imp_right fun same => by rw [same]; exact List.mem_cons_self
      · exact .inr (List.mem_cons_of_mem _ listed)
    · rcases List.mem_cons.1 hy with rfl | hy
      · exact le_z.trans le_e
      · exact le_l y hy

theorem cancelTarget_spec {s : State} {q cid e : Nat} {x : Stream} (h : cancelTarget s q cid = some (e, x)) :
    (e, x) ∈ s.serve.streams ∧ x.queue = q ∧ cidOf x.cmd = cid ∧ x.ended = false ∧
      ∀ y ∈ s.serve.streams, y.2.queue = x.queue → cidOf y.2.cmd = cidOf x.cmd → y.2.ended = false → x.order ≤ y.2.order := by
  obtain ⟨mem, first, -⟩ := foldl_earlier _ none h
  obtain ⟨listed, own⟩ := List.mem_filter.1 (mem.resolve_left nofun)
  simp only [Bool.and_eq_true, beq_iff_eq, Bool.not_eq_true'] at own
  obtain ⟨⟨queue, cid_⟩, ended⟩ := own
  refine ⟨listed, queue, cid_, ended, fun y hy queue' cid' ended' => first y (List.mem_filter.2 ⟨hy, ?_⟩)⟩
  simp [queue', cid', ended', queue, cid_]

/-! ### CANCEL and RELEASE -/

theorem cancelApply_target {s : State} {q e : Nat} {rec : List Byte} {x : Stream}
    (h : cancelTarget s (leAt rec 8 2) (leAt rec 10 2) = some (e, x)) :
    let s' := adjSt s e (fun x => { x with cancels := x.cancels ++ [(q, cidOf rec)] })
    cancelApply s q rec = if x.state ≤ 1 ∨ (x.step = none ∧ x.holdRecovery = false ∧ x.replayTo ≤ x.vlen)
      then cancelStream s' e else s' := by
  simp only [cancelApply, h]

/-- The tombstone that a CANCEL without a target leaves (R329). -/
def cancelTombstone (s : State) (q : Nat) (rec : List Byte) : Tombstone :=
  let tq := leAt rec 8 2
  { target := tq, cid := leAt rec 10 2, tail := (getQ s tq).sqTail
    ahead := if tq < 1024 then ((getQ s tq).sqTail + sqSize s tq - (getQ s tq).sqHead) % sqSize s tq else 0
    from_ := q, fromCid := cidOf rec }

def withTombstone (s : State) (b : Tombstone) : State :=
  { s with serve := { s.serve with tombstones := s.serve.tombstones ++ [b] } }

theorem cancelApply_none {s : State} {q : Nat} {rec : List Byte} (h : cancelTarget s (leAt rec 8 2) (leAt rec 10 2) = none) :
    cancelApply s q rec = withTombstone s (cancelTombstone s q rec) := by
  simp only [cancelApply, h]
  rfl

theorem cancelApply_waits {s : State} {q : Nat} {rec : List Byte} (h : cancelTarget s (leAt rec 8 2) (leAt rec 10 2) = none) :
    ∃ b : Tombstone, (cancelApply s q rec).serve.tombstones = s.serve.tombstones ++ [b] ∧ b.target = leAt rec 8 2 ∧
      b.cid = leAt rec 10 2 ∧ b.from_ = q ∧ b.fromCid = cidOf rec ∧
      cancelApply s q rec = { s with serve := { s.serve with tombstones := (cancelApply s q rec).serve.tombstones } } := by
  rw [cancelApply_none h]
  exact ⟨cancelTombstone s q rec, rfl, rfl, rfl, rfl, rfl, rfl⟩

theorem releaseApply_known {s : State} {q : Nat} {rec : List Byte} {k : Conv}
    (h : findConv s (tenantOf rec) (genConv rec) = some k) :
    releaseApply s q rec = if k.claimed.isSome then complete s q rec Sts.CONV_BUSY 5
      else complete (freeConv s (tenantOf rec) (genConv rec)) q rec Sts.OK 5 := by
  simp only [releaseApply, h]

theorem releaseApply_unknown {s : State} {q : Nat} {rec : List Byte} (h : findConv s (tenantOf rec) (genConv rec) = none) :
    releaseApply s q rec = complete s q rec Sts.NOT_FOUND 5 := by
  simp only [releaseApply, h]

/-! ### Moorings -/

theorem mooringSetApply_off {s : State} {q : Nat} {rec : List Byte} (off : onF s Reg.SRV_Q_CTL_ADMIN q = false) :
    mooringSetApply s q rec = complete s q rec Sts.NOT_ADMIN 5 := by
  rw [mooringSetApply, off]
  rfl

theorem mooringClearApply_off {s : State} {q : Nat} {rec : List Byte} (off : onF s Reg.SRV_Q_CTL_ADMIN q = false) :
    mooringClearApply s q rec = complete s q rec Sts.NOT_ADMIN 5 := by
  rw [mooringClearApply, off]
  rfl

section

variable {s : State} {q : Nat} {rec : List Byte} (admin : onF s Reg.SRV_Q_CTL_ADMIN q = true)

include admin in
theorem mooringSetApply_some {st : Nat} {x : Mooring} (check : mooringCheck s rec = (st, some x)) :
    mooringSetApply s q rec = complete (setMooring s (leAt rec 4 2) x) q rec st 5 := by
  simp only [mooringSetApply, admin, check, if_true]

include admin in
theorem mooringSetApply_none {st : Nat} (check : mooringCheck s rec = (st, none)) :
    mooringSetApply s q rec = complete s q rec st 5 := by
  simp only [mooringSetApply, admin, check, if_true]

include admin in
theorem mooringClearApply_known {x : Mooring} (here : kget? s.serve.moorings (leAt rec 4 2) = some x)
    (tenant : x.tenant = tenantOf rec) (set_ : x.cleared = false) :
    mooringClearApply s q rec = complete (sweepMoorings { s with serve := { s.serve with
      moorings := kset s.serve.moorings (leAt rec 4 2) { x with cleared := true }
      streams := s.serve.streams.map (fun e =>
        (e.1, if e.2.mooring == leAt rec 4 2 && e.2.state == 0 then { e.2 with unmoored := true } else e.2)) } })
      q rec Sts.OK 5 := by
  simp only [mooringClearApply, admin, here, tenant, set_, and_self, if_true]

include admin in
theorem mooringClearApply_unknown
    (other : ∀ x, kget? s.serve.moorings (leAt rec 4 2) = some x → x.tenant ≠ tenantOf rec ∨ x.cleared = true) :
    mooringClearApply s q rec = complete s q rec Sts.MOORING_UNKNOWN 5 := by
  simp only [mooringClearApply, admin, if_true]
  split
  next x here =>
    refine if_neg ?_
    rintro ⟨tenant, set_⟩
    exact (other x here).elim (· tenant) (by simp [set_])
  next => rfl

end

/-- The mooring that a MOORING_SET makes once its record, forme and number pass. -/
def newMooring (s : State) (rec : List Byte) (f : Forme) : Mooring :=
  { tenant := tenantOf rec, forme := leAt rec 20 1, streams := leAt rec 8 4, rate := leAt rec 12 4, itl := leAt rec 16 4
    period := periodOf s f (leAt rec 12 4) (leAt rec 16 4), unmet := false, cleared := false }

/-- What a MOORING_SET that passes has passed (R312 to R314). -/
theorem of_mooringCheck {s : State} {rec : List Byte} {st : Nat} {x : Mooring} (h : mooringCheck s rec = (st, some x)) :
    ∃ f, getForme s (leAt rec 20 1) = some f ∧ st = Sts.OK ∧ x = newMooring s rec f ∧ 1 ≤ x.period ∧ leAt rec 8 4 ≠ 0 ∧
      leAt rec 20 1 ≤ 15 ∧ resident s (leAt rec 20 1) = true ∧
      ((kget? s.serve.moorings (leAt rec 4 2)).any (fun o => o.tenant != tenantOf rec || o.cleared ||
        (o.forme != leAt rec 20 1 && mooringBusy s (leAt rec 4 2) (tenantOf rec)))) = false ∧
      reserved s (leAt rec 20 1) (leAt rec 4 2) + (x.streams : Rat) / (x.period : Rat) ≤
        (slotsP f : Rat) * (getF s Reg.SRV_MOOR_LIMIT 0 : Rat) / 256 := by
  unfold mooringCheck at h
  dsimp only at h
  split at h
  · cases h
  next record =>
    split at h
    · cases h
    next some_ =>
      split at h
      · cases h
      next f here =>
        split at h
        · cases h
        next res =>
          split at h
          · cases h
          next number =>
            split at h
            · cases h
            next period =>
              split at h
              · cases h
              next fits =>
                obtain ⟨rfl, rfl⟩ := Prod.mk.inj h |>.imp Eq.symm fun e => (Option.some.inj e).symm
                refine ⟨f, here, rfl, rfl, Nat.one_le_iff_ne_zero.2 period, some_, by omega, by simpa using res,
                  Bool.eq_false_iff.2 number, not_lt.1 fits⟩

theorem refused_ne_ok {st code : Nat} (other : code ≠ Sts.OK) (h : (code, (none : Option Mooring)) = (st, none)) :
    st ≠ Sts.OK := (Prod.mk.inj h).1 ▸ other

theorem mooringCheck_none_ne_ok {s : State} {rec : List Byte} {st : Nat} (h : mooringCheck s rec = (st, none)) :
    st ≠ Sts.OK := by
  unfold mooringCheck at h
  dsimp only at h
  split at h
  · exact refused_ne_ok (by decide) h
  · split at h
    · exact refused_ne_ok (by decide) h
    · split at h
      · exact refused_ne_ok (by decide) h
      · split at h
        · exact refused_ne_ok (by decide) h
        · split at h
          · exact refused_ne_ok (by decide) h
          · split at h
            · exact refused_ne_ok (by decide) h
            · split at h
              · exact refused_ne_ok (by decide) h
              · exact absurd (Prod.mk.inj h).2 nofun

/-- A number whose cleared mooring still stands is not free (log entry 105). -/
theorem mooringCheck_cleared {s : State} {rec : List Byte} {x : Mooring}
    (here : kget? s.serve.moorings (leAt rec 4 2) = some x) (cleared : x.cleared = true) : (mooringCheck s rec).2 = none := by
  rcases check : mooringCheck s rec with ⟨st, _ | y⟩
  · rfl
  · obtain ⟨f, -, -, -, -, -, -, -, free, -⟩ := of_mooringCheck check
    simp [here, cleared] at free

/-- Settles O30: CANCEL by its target, RELEASE by its conversation, the moorings by `of_mooringCheck`. -/
theorem cancelReleaseMooring : Obligations.CancelReleaseMooring := by
  unfold Obligations.CancelReleaseMooring
  refine ⟨fun q rec s => ⟨fun e x => cancelApply_target, cancelApply_waits, fun k => releaseApply_known, releaseApply_unknown,
    fun e x => cancelTarget_spec⟩, fun q rec s => ⟨fun off => ⟨mooringSetApply_off off, mooringClearApply_off off⟩,
      fun st x admin check => ?_, fun st admin check => ⟨mooringSetApply_none admin check, mooringCheck_none_ne_ok check⟩,
      fun x admin => mooringClearApply_known admin, fun x => mooringCheck_cleared, mooringClearApply_unknown⟩⟩
  obtain ⟨f, here, rfl, rfl, period, some_, low, res, -, fits⟩ := of_mooringCheck check
  refine ⟨mooringSetApply_some admin check, rfl, rfl, rfl, rfl, rfl, rfl, period, some_, low, res, fun g other => ?_⟩
  obtain rfl := Option.some.inj (here.symm.trans other)
  exact fits

end Sys2Proof.Machine
end

section
/-! Doorbells of a queue, and its coalescing time (R289, R290, R293 to R295) (O31). -/

namespace Sys2Proof.Machine

section

variable {q : QueueId} {v : Nat} {s : State}

theorem exec_sqTail (word : v < 65536) (up : answers s (1024 + q.val) = true) : exec (.sqTail q v) s = .next (
    if sqSize s q.val ≤ v then setF s Reg.DBL_STAT_BAD_TAIL 1 q.val
    else setQ s q.val (if (getQ s q.val).sqTail = v then getQ s q.val
      else { getQ s q.val with sqTail := v, bells := (getQ s q.val).bells ++ [(v, s.lampTime)] })) := by
  show execSqTail q v s = _
  rw [execSqTail, regWrite_answers up, Nat.mod_eq_of_lt word]
  rfl

theorem exec_rqHead (word : v < 65536) (up : answers s (1024 + q.val) = true) : exec (.rqHead q v) s = .next (
    if rqSize s q.val ≤ v then setF s Reg.DBL_STAT_BAD_HEAD 1 q.val else freeRecords s q.val v) := by
  show execRqHead q v s = _
  rw [execRqHead, regWrite_answers up, Nat.mod_eq_of_lt word]

theorem exec_interruptCoalesceTime {t0 : Nat} (since : (getQ s q.val).sinceAt = some t0) :
    exec (.interruptCoalesceTime q) s = .next (
      if t0 + 1000 * getF s Reg.SRV_Q_COALESCE_TIME q.val ≤ s.lampTime then raiseQueue s q.val else s) := by
  show execInterruptCoalesceTime q s = _
  simp only [execInterruptCoalesceTime, since, Option.any_some, decide_eq_true_eq]

theorem interruptCoalesceTime_gives {t0 : Nat} (since : (getQ s q.val).sinceAt = some t0)
    (over_ : t0 + 1000 * getF s Reg.SRV_Q_COALESCE_TIME q.val ≤ s.lampTime) :
    Gives (.interruptCoalesceTime q) s fun t =>
      t.io.msix = s.io.msix ++ [getF s Reg.SRV_Q_CTL_VECTOR q.val] ∧ (getQ t q.val).sinceAt = none ∧ (getQ t q.val).since = 0 ∧
      t.mem = s.mem ∧ t.regs = s.regs := by
  refine ⟨_, (exec_interruptCoalesceTime since).trans (congrArg _ (if_pos over_)), rfl, ?_, ?_, rfl, rfl⟩
  · rw [raiseQueue, modQ, getQ_setQ]
  · rw [raiseQueue, modQ, getQ_setQ]

end

/-- Settles O31: each doorbell by the place of its value, the coalescing time by the clock. -/
theorem queueDoorbells : Obligations.QueueDoorbells := by
  unfold Obligations.QueueDoorbells
  intro q v s word up
  refine ⟨fun beyond => ?_, fun within moved => ?_, fun beyond => ?_, fun within => ?_, fun t0 since early => ?_,
    fun t0 => interruptCoalesceTime_gives⟩
  · rw [exec_sqTail word up, if_pos beyond]
  · rw [exec_sqTail word up, if_neg (Nat.not_le.2 within), if_neg (Ne.symm moved)]
  · rw [exec_rqHead word up, if_pos beyond]
  · intro d freed
    rw [exec_rqHead word up, if_neg (Nat.not_le.2 within)]
    exact ⟨fun held => congrArg _ (if_pos held), fun more => congrArg _ (if_neg (Nat.not_le.2 more))⟩
  · rw [exec_interruptCoalesceTime since, if_neg (Nat.not_le.2 early)]

end Sys2Proof.Machine
end

section
/-! Admission of a queued request (R306, R310, R319): what can befall its entry while records go out (O32). -/

namespace Sys2Proof.Machine

/-- A best-effort request of one token on queue 0, QUEUED under a GENERATE record of zeros. -/
def oneTokenStream : Stream :=
  { cmd := List.replicate 64 0, ext := [], mask := [], queue := 0, order := 0, state := 0, resume := 0, holdRing := false
    holdBarrier := false, holdRecovery := false, req := none, vlen := 0, tlen := 0, tokens := [0], start := 0, known := 0
    delivered := 0, replayTo := 0, step := none, guesses := [], depth := 0, proofSteps := 0, accepts := [], reaches := []
    slot := 0, period := 1, turn := 0, ident := [], gen := 0, variant := none, overlays := [], crossed := false
    everCrossed := false, prefixHit := 0, cancels := [], lastTime := none, lastCount := 0, lastLogprobs := [], rqNext := 0
    lastRecs := [], created := false, lostState := false, minuteFault := false }

def bareForme : Forme :=
  { image := [], ident := [], layouts := [], parts := [], gen := 0, vocab := 0, tNs := 0, cyclesD := 0, cycleNs := 0
    fixedAt := 0, timed := 0, minT := 0, waves := 0, lastWave := none, wave := [], repl := none, replWait := []
    unload := none, keepHost := none, quarantined := [], rewrite := [], lastAudit := [] }

/-- Host port 0 is up, the request stands at entry 0, ring 1 owes a record that frees entry 0 although it has room, and
a CANCEL of ring 1 is still to be answered. -/
def cancelToAnswer : State :=
  { setF State.reset Reg.HST_PORT_STAT_UP 1 0 with
    serve := { State.reset.serve with
      streams := [(0, oneTokenStream)]
      queues := [(1, { Queue.reset 1 with owed := [⟨List.replicate 32 0, some 0⟩] })]
      answered := [(1, 0)] } }

theorem ringOpen_cancelToAnswer : RingOpen cancelToAnswer 0 :=
  ⟨List.not_mem_nil, rfl, by decide, by decide⟩

theorem getSt_admitRequest_cancelToAnswer : getSt (admitRequest cancelToAnswer 0 oneTokenStream bareForme) 0 = none := by
  decide +kernel

/-- Refutes O32: the INTERIM record of an admission is followed by the records that answer lapsed CANCELs (R330), and
where their ring owes the terminal record of the admitted request's own entry, that record goes out and frees the
entry. -/
theorem not_admissionOutcomes : ¬ Obligations.AdmissionOutcomes := by
  intro h
  obtain ⟨y, stands, -⟩ := (h.2 0 oneTokenStream bareForme cancelToAnswer rfl (by decide) ringOpen_cancelToAnswer).1
  rw [getSt_admitRequest_cancelToAnswer] at stands
  exact absurd stands (Option.some_ne_none _).symm

end Sys2Proof.Machine

end

section
/-! Waves of a forme and the positions of a step (R218, R285, R286, R366, R372, R390, R392, R435; O33). -/

namespace Sys2Proof.Machine

/-! ### What moves of galleys between tiers leave as it was -/

/-- The state but its registers, memories, stacks and galleys. -/
def offTiers (s : State) : State :=
  { s with regs := [], mem := State.reset.mem, stks := [], kv := State.reset.kv }

theorem offTiers_meetStackWord (s : State) (w : Nat) (es : KMap Nat) : offTiers (meetStackWord s w es) = offTiers s := by
  unfold meetStackWord
  dsimp only
  split_ifs <;> rfl

theorem offTiers_stackToStore (s : State) (a b n : Nat) : offTiers (stackToStore s a b n) = offTiers s :=
  foldl_frame offTiers (f := fun s (e : Nat × KMap Nat) => meetStackWord s e.1 e.2)
    (fun s e => offTiers_meetStackWord s e.1 e.2) _ s

theorem offTiers_fillT0 (s : State) (g : Nat) (st : GalleyState) : offTiers (fillT0 s g st) = offTiers s := by
  unfold fillT0
  split
  · dsimp only
    split
    · next a b _ _ => exact offTiers_stackToStore s b a _
    · rfl
  · rfl

theorem offTiers_takeT0 (s : State) (g : Nat) : offTiers (takeT0 s g) = offTiers s := by
  unfold takeT0 takeT0In
  repeat' split
  all_goals rfl

theorem offTiers_copyToT0 (s : State) (g : Nat) (st : GalleyState) : offTiers (copyToT0 s g st) = offTiers s := by
  unfold copyToT0
  dsimp only
  split_ifs
  · exact (offTiers_fillT0 ..).trans (offTiers_takeT0 s g)
  · exact offTiers_takeT0 s g

theorem offTiers_placeStick (s : State) (g : Nat) : offTiers (placeStick s g) = offTiers s := by
  have placed : offTiers (match getG s g with
      | some x => if x.t0.isNone then copyToT0 s g .composing else s
      | none => s) = offTiers s := by
    split
    · split_ifs
      · exact offTiers_copyToT0 ..
      · rfl
    · rfl
  unfold placeStick
  dsimp only
  split
  · split
    · exact placed
    · exact placed
  · exact placed

theorem offTiers_placeSticks (s : State) (e : Nat) : offTiers (placeSticks s e) = offTiers s :=
  foldl_frame offTiers offTiers_placeStick _ s

theorem offTiers_placeWindow (s : State) (e : Nat) (x : Stream) : offTiers (placeWindow s e x) = offTiers s :=
  foldl_frame offTiers (fun s g => offTiers_copyToT0 s g _) _ s

/-! ### Launching a wave -/

/-- The formes and the lamp time. -/
def formesNow (s : State) : KMap Forme × Nat := (s.formes, s.lampTime)

theorem formesNow_of_offTiers {s t : State} (h : offTiers t = offTiers s) : formesNow t = formesNow s :=
  congrArg (fun u => (u.formes, u.lampTime)) h

theorem formesNow_launchFirst (f : Forme) (turn : Stream → Nat) (l : List Nat) (s : State) :
    formesNow (launchFirst s f turn l).1 = formesNow s := by
  induction l generalizing s with
  | nil => rfl
  | cons e l ih =>
    rw [launchFirst]
    split
    · split_ifs
      · rfl
      · exact ih _
    · exact ih s

theorem formesNow_slotLaunch (s : State) (fi : Nat) (f : Forme) (c p n : Nat) :
    formesNow (slotLaunch s fi f c p n).1 = formesNow s := by
  unfold slotLaunch
  dsimp only
  split_ifs
  · exact formesNow_launchFirst ..
  · exact (formesNow_launchFirst ..).trans (formesNow_launchFirst ..)

/-- The part of a wave in slot `i`. -/
def waveStep (fi : Nat) (f : Forme) (a : State × List WaveSlot) (i : Nat) : State × List WaveSlot :=
  ((slotLaunch a.1 fi f (f.waves / f.cyclesD) (f.waves % f.cyclesD * imgB f.image + i) (f.waves * 16 + i)).1,
    a.2 ++ [waveSlot (slotLaunch a.1 fi f (f.waves / f.cyclesD) (f.waves % f.cyclesD * imgB f.image + i) (f.waves * 16 + i)).1 f
      (slotLaunch a.1 fi f (f.waves / f.cyclesD) (f.waves % f.cyclesD * imgB f.image + i) (f.waves * 16 + i)).2])

theorem foldl_waveStep (fi : Nat) (f : Forme) (l : List Nat) (a : State × List WaveSlot) :
    formesNow (l.foldl (waveStep fi f) a).1 = formesNow a.1 ∧
      (l.foldl (waveStep fi f) a).2.length = a.2.length + l.length := by
  induction l generalizing a with
  | nil => exact ⟨rfl, rfl⟩
  | cons i l ih =>
    obtain ⟨same, long⟩ := ih (waveStep fi f a i)
    refine ⟨same.trans (formesNow_slotLaunch ..), ?_⟩
    rw [List.foldl_cons, long, waveStep, List.length_append, List.length_cons, List.length_cons]
    simp only [List.length_nil]
    omega

theorem getForme_adjForme (s : State) (fi : Nat) (g : Forme → Forme) :
    getForme (adjForme s fi g) fi = (getForme s fi).map g := by
  unfold getForme adjForme kadj
  split
  next f some_ => rw [some_, Option.map_some]; exact kget?_kset_same ..
  next none_ => rw [none_]; rfl

/-- The state of a forme's streams as their sticks and windows stand ready for a wave. -/
def placedFor (s : State) (fi : Nat) : State :=
  (s.serve.streams.filter (fun e => e.2.live && e.2.forme == fi)).foldl (fun s e =>
    placeWindow (placeSticks s e.1) e.1 e.2) s

theorem formesNow_placedFor (s : State) (fi : Nat) : formesNow (placedFor s fi) = formesNow s :=
  foldl_frame formesNow (f := fun s (e : Nat × Stream) => placeWindow (placeSticks s e.1) e.1 e.2)
    (fun s e => formesNow_of_offTiers ((offTiers_placeWindow ..).trans (offTiers_placeSticks s e.1))) _ s

theorem getForme_waveOf {s : State} {fi : Nat} {f : Forme} (h : getForme s fi = some f) :
    ∃ g, getForme (waveOf s fi f) fi = some g ∧ g.waves = f.waves + 1 ∧ g.image = f.image ∧ g.parts = f.parts ∧
      g.lastWave = some s.lampTime ∧ g.wave.length = imgB f.image := by
  obtain ⟨same, long⟩ := foldl_waveStep fi f (List.range (imgB f.image)) (placedFor s fi, [])
  have now := same.trans (formesNow_placedFor s fi)
  have formes := congrArg Prod.fst now
  have time := congrArg Prod.snd now
  let a := (List.range (imgB f.image)).foldl (waveStep fi f) (placedFor s fi, [])
  refine ⟨{ f with waves := f.waves + 1, lastWave := some a.1.lampTime, wave := a.2 }, ?_, rfl, rfl, rfl,
    congrArg some time, long.trans (by simp)⟩
  have kept : getForme a.1 fi = some f := (congrArg (kget? · fi) formes).trans h
  exact (getForme_adjForme ..).trans (congrArg (Option.map _) kept)

theorem rewriteNow_clean {s : State} {fi : Nat} {f : Forme} (h : getForme s fi = some f) (clean : f.rewrite = []) :
    rewriteNow s fi = s := by
  rw [rewriteNow, h]
  exact if_pos (.inl clean)

theorem rewriteNow_inFlight {s : State} {fi : Nat}
    (h : ∃ e ∈ s.serve.streams, e.2.forme = fi ∧ e.2.step.isSome = true) : rewriteNow s fi = s := by
  unfold rewriteNow
  split
  · refine if_pos (.inr (List.any_eq_true.2 ?_))
    obtain ⟨e, mem, forme, step⟩ := h
    exact ⟨e, mem, by simp [forme, step]⟩
  · rfl

theorem execWaveLaunch_eq {s : State} {fi : FormeId} {f : Forme} (h : getForme s fi.val = some f)
    (rest : rewriteNow s fi.val = s) : exec (.waveLaunch fi) s =
      .next (if groupUp s 0 ∧ awake s ∧ resident s fi.val ∧ !atBarrier s fi.val ∧ !recovering s fi.val ∧ 0 < f.cyclesD
          ∧ waveDue s f then waveOf s fi.val f else s) := by
  show execWaveLaunch fi s = _
  rw [execWaveLaunch, h]
  dsimp only
  rw [rest]

theorem waveDue_iff (s : State) (f : Forme) :
    waveDue s f = true ↔ ∀ t, f.lastWave = some t → (t : Rat) + beatNs s f ≤ (s.lampTime : Rat) := by
  unfold waveDue
  cases f.lastWave <;> simp

/-! ### The positions of a step -/

theorem nextCount_before {s : State} {f : Forme} {x : Stream} (lanes : 1 ≤ imgL f.image)
    (before : x.vlen < x.replayTo ∨ x.vlen < x.known) :
    1 ≤ (nextCount s f x).1 ∧ (nextCount s f x).1 ≤ imgL f.image ∧ (nextCount s f x).2 = 0 ∧
      (x.vlen + (nextCount s f x).1 - 1) / 256 = x.vlen / 256 ∧
      x.vlen + (nextCount s f x).1 ≤ max x.replayTo x.known := by
  have bounds : ∀ stop : Nat, x.vlen < stop → stop ≤ max x.replayTo x.known →
      1 ≤ min (imgL f.image) (min (256 - x.vlen % 256) (stop - x.vlen)) ∧
      min (imgL f.image) (min (256 - x.vlen % 256) (stop - x.vlen)) ≤ imgL f.image ∧ (0 : Nat) = 0 ∧
      (x.vlen + min (imgL f.image) (min (256 - x.vlen % 256) (stop - x.vlen)) - 1) / 256 = x.vlen / 256 ∧
      x.vlen + min (imgL f.image) (min (256 - x.vlen % 256) (stop - x.vlen)) ≤ max x.replayTo x.known := by
    intro stop less most
    generalize imgL f.image = l at *
    generalize max x.replayTo x.known = m at *
    omega
  unfold nextCount
  dsimp only
  by_cases replay : x.vlen < x.replayTo
  · rw [if_pos replay]
    exact bounds _ replay (le_max_left ..)
  · rw [if_neg replay, if_pos (before.resolve_left replay)]
    exact bounds _ (before.resolve_left replay) (le_max_right ..)

theorem nextCount_after {s : State} {f : Forme} {x : Stream} (replayed : x.replayTo ≤ x.vlen) (read : x.known ≤ x.vlen) :
    nextCount s f x = (1 + proofCount s x, proofCount s x) := by
  unfold nextCount
  dsimp only
  rw [if_neg (by omega), if_neg (by omega)]

/-- Settles O33. A forme without layers to write again, or with a step in flight, launches its wave or nothing; the
positions of a step are bounded in each of its three kinds. -/
theorem waveLaunches : Obligations.WaveLaunches := by
  refine ⟨fun fi f s held => ⟨?_, ?_, ?_, waveDue_iff s f⟩, fun s f x lanes => ⟨nextCount_before lanes, ?_⟩⟩
  · intro clean up awake res free calm beat due
    refine ⟨?_, getForme_waveOf held⟩
    rw [execWaveLaunch_eq held (rewriteNow_clean held clean), if_pos (by simp [*])]
  · intro clean stop
    rw [execWaveLaunch_eq held (rewriteNow_clean held clean), if_neg]
    rintro ⟨-, awake, -, free, calm, -, due⟩
    rcases stop with h | h | h | h <;> simp_all
  · intro _ barrier flight
    rw [execWaveLaunch_eq held (rewriteNow_inFlight flight), if_neg]
    rintro ⟨-, -, -, free, -⟩
    simp [barrier] at free
  · intro replayed read
    rw [nextCount_after replayed read]
    exact ⟨rfl, rfl⟩

end Sys2Proof.Machine

end

section
/-! The end of a step and the tokens it delivers (R240, R311, R324, R326, R378, R390 to R393; O34). -/

namespace Sys2Proof.Machine

/-! ### The tokens of a step that are delivered (R311) -/

theorem cutTokens_cons_stop {stops : List Nat} {maxNew d p t : Nat} {ts : List Nat}
    (h : t ∈ stops ∨ d + 1 = maxNew ∨ p = 2 ^ 24 - 1) : cutTokens stops maxNew d p (t :: ts) = 1 := by
  rw [cutTokens, if_pos h]

theorem cutTokens_cons_go {stops : List Nat} {maxNew d p t : Nat} {ts : List Nat}
    (h : ¬ (t ∈ stops ∨ d + 1 = maxNew ∨ p = 2 ^ 24 - 1)) :
    cutTokens stops maxNew d p (t :: ts) = 1 + cutTokens stops maxNew (d + 1) (p + 1) ts := by
  rw [cutTokens, if_neg h]

theorem cutTokens_le (stops : List Nat) (maxNew d p : Nat) (ts : List Nat) :
    cutTokens stops maxNew d p ts ≤ ts.length := by
  induction ts generalizing d p with
  | nil => exact Nat.le_refl 0
  | cons t ts ih =>
    rw [cutTokens]
    have := ih (d + 1) (p + 1)
    split_ifs <;> rw [List.length_cons] <;> omega

theorem cutTokens_pos (stops : List Nat) (maxNew d p : Nat) {ts : List Nat} (some_ : ts ≠ []) :
    1 ≤ cutTokens stops maxNew d p ts := by
  cases ts with
  | nil => exact absurd rfl some_
  | cons t ts => rw [cutTokens]; split_ifs <;> omega

/-- No token before the last delivered one ends the generation. -/
theorem not_ends_of_lt_cutTokens {stops : List Nat} {maxNew d p i t : Nat} {ts : List Nat}
    (before : i + 1 < cutTokens stops maxNew d p ts) (at_ : ts[i]? = some t) :
    t ∉ stops ∧ d + i + 1 ≠ maxNew ∧ p + i ≠ 2 ^ 24 - 1 := by
  induction ts generalizing d p i with
  | nil => exact absurd at_ (by simp)
  | cons u ts ih =>
    by_cases ends : u ∈ stops ∨ d + 1 = maxNew ∨ p = 2 ^ 24 - 1
    · rw [cutTokens_cons_stop ends] at before
      omega
    · rw [cutTokens_cons_go ends] at before
      cases i with
      | zero =>
        obtain rfl : u = t := Option.some.inj at_
        exact ⟨fun h => ends (.inl h), fun h => ends (.inr (.inl h)), fun h => ends (.inr (.inr h))⟩
      | succ i =>
        obtain ⟨stop, count, place⟩ := ih (d := d + 1) (p := p + 1) (i := i) (by omega) at_
        exact ⟨stop, by omega, by omega⟩

/-- Where some token is not delivered, the last delivered one ends the generation. -/
theorem ends_of_cutTokens_lt {stops : List Nat} {maxNew d p : Nat} {ts : List Nat}
    (short : cutTokens stops maxNew d p ts < ts.length) :
    ∃ t, ts[cutTokens stops maxNew d p ts - 1]? = some t ∧ (t ∈ stops ∨ d + cutTokens stops maxNew d p ts = maxNew ∨
      p + cutTokens stops maxNew d p ts - 1 = 2 ^ 24 - 1) := by
  induction ts generalizing d p with
  | nil => exact absurd short (Nat.not_lt_zero _)
  | cons u ts ih =>
    by_cases ends : u ∈ stops ∨ d + 1 = maxNew ∨ p = 2 ^ 24 - 1
    · rw [cutTokens_cons_stop ends]
      exact ⟨u, rfl, ends⟩
    · rw [cutTokens_cons_go ends] at short ⊢
      rw [List.length_cons] at short
      obtain ⟨t, at_, how⟩ := ih (d := d + 1) (p := p + 1) (by omega)
      have one : 1 ≤ cutTokens stops maxNew (d + 1) (p + 1) ts := by
        refine cutTokens_pos _ _ _ _ fun empty => ?_
        rw [empty] at at_
        exact absurd at_ (by simp)
      generalize cutTokens stops maxNew (d + 1) (p + 1) ts = n at *
      obtain ⟨m, rfl⟩ : ∃ m, n = m + 1 := ⟨n - 1, by omega⟩
      refine ⟨t, ?_, how.imp_right (Or.imp (by omega) (by omega))⟩
      rwa [show 1 + (m + 1) - 1 = (m + 1 - 1) + 1 by omega, List.getElem?_cons_succ]

/-! ### The end of a step -/

section
variable {e : EntryId} {x : Stream} {st : Step} {f : Forme} {lanes heads : List LaneOut} {s : State}
variable (stands : getSt s e.val = some x) (flight : x.step = some st) (held : getForme s x.forme = some f)
include stands flight held

theorem execToken_poisoned : exec (.token e lanes heads true) s =
    .next (recoverForme (setSt (endPass (takeTokens s x) e.val x) e.val { x with step := none, tlen := x.vlen }) x.forme) := by
  show execToken e lanes heads true s = _
  unfold execToken
  simp only [stands, flight, held, if_true]

theorem execToken_sound : exec (.token e lanes heads false) s =
    .next (rewriteNow (checkRecoveries 64
      (let s := timeStep (endPass (takeTokens s x) e.val x) x.forme st.launched
       let g := heads.map (headGuess f.vocab)
       if x.vlen < x.replayTo then endReplay s e.val x f st lanes g
       else if x.vlen < x.known then endPrefill s e.val x f st lanes g
       else endDecode s e.val x f st lanes g)) x.forme) := by
  show execToken e lanes heads false s = _
  unfold execToken
  simp only [stands, flight, held, Bool.false_eq_true, if_false]
  rfl

end

theorem takeTokens_fabric {s : State} {x : Stream} {y : FlitAt} (h : y ∈ (takeTokens s x).fabric)
    (token : flitKind y.flit = Kind.token) : some (stampReq y.flit.stamp) ≠ x.req := by
  have kept := (List.mem_filter.1 h).2
  intro mine
  simp [token, mine] at kept

theorem mem_picks_endPass {s : State} {e : Nat} {x : Stream} {p : Pick} :
    p ∈ (endPass s e x).kv.picks ↔ p ∈ s.kv.picks ∧ p.stream ≠ e := by
  refine List.mem_filter.trans (and_congr_right fun _ => ?_)
  simp

/-- Settles O34. By how far the stream has come, and by induction on the step's samples. -/
theorem tokenEndsStep : Obligations.TokenEndsStep := by
  refine ⟨fun e x st f lanes heads s stands flight held => ?_, fun stops maxNew d p ts => ?_⟩
  · refine ⟨execToken_poisoned stands flight held, fun replay => ?_, fun replayed read => ?_, fun replayed read => ?_,
      fun y hy => takeTokens_fabric hy, fun p hp => (mem_picks_endPass.1 hp).2,
      fun p hp other => mem_picks_endPass.2 ⟨hp, other⟩⟩
    all_goals rw [execToken_sound stands flight held]; dsimp only
    · rw [if_pos replay]
    · rw [if_neg (by omega), if_pos read]
    · rw [if_neg (by omega), if_neg (by omega)]
  · exact ⟨cutTokens_le .., cutTokens_pos _ _ _ _, fun i t => not_ends_of_lt_cutTokens, ends_of_cutTokens_lt⟩

end Sys2Proof.Machine

end

section
/-! Moves of listed ranges between memories (R239), and the galley events that are built on them (R222, R223, R239,
R241 to R245, R250; O35). -/

namespace Sys2Proof.Machine

/-! ### Moves of a range -/

theorem memRead_memZero_in (m : Memory) {a n x : Nat} (h : a ≤ x ∧ x < a + n) : memRead (memZero m a n) x = 0 := by
  have read := kget?_filter_key m (fun k => decide (k < a) || decide (a + n ≤ k)) x
  rw [if_neg (by simp; omega)] at read
  unfold memRead kgetD memZero
  rw [read]
  rfl

theorem memRead_memZero_out (m : Memory) {a n x : Nat} (h : x < a ∨ a + n ≤ x) : memRead (memZero m a n) x = memRead m x := by
  have read := kget?_filter_key m (fun k => decide (k < a) || decide (a + n ≤ k)) x
  rw [if_pos (by simp; omega)] at read
  unfold memRead kgetD memZero
  rw [read]

theorem eq_of_mem_sorted {α : Type} {m : KMap α} (sorted : KMap.sorted m) {c d : Nat × α} (hc : c ∈ m) (hd : d ∈ m)
    (same : c.1 = d.1) : c = d := by
  induction m with
  | nil => cases hc
  | cons e m ih =>
    obtain ⟨first, rest⟩ := List.pairwise_cons.1 sorted
    rcases List.mem_cons.1 hc with c_first | c_later <;> rcases List.mem_cons.1 hd with d_first | d_later
    · rw [c_first, d_first]
    · exact absurd (c_first ▸ same) (first d d_later).ne
    · exact absurd (d_first ▸ same.symm) (first c c_later).ne
    · exact ih rest c_later d_later

/-- What a move takes from its source. -/
theorem mem_memMove_source {src : Memory} {a n : Nat} {c : Host.Cell} :
    c ∈ src.filter (fun c => a ≤ c.1 && c.1 < a + n) ↔ c ∈ src ∧ a ≤ c.1 ∧ c.1 < a + n := by
  simp [List.mem_filter]

theorem kget?_of_mem {α : Type} {m : KMap α} {c : Nat × α} (mem : c ∈ m) : kget? m c.1 ≠ none := by
  induction m with
  | nil => cases mem
  | cons e m ih =>
    rw [kget?]
    split_ifs with here
    · exact Option.some_ne_none _
    · exact ih ((List.mem_cons.1 mem).resolve_left fun same => here (same ▸ rfl))

theorem memRead_memMove_in {src : Memory} (sorted : KMap.sorted src) (dst : Memory) (a b : Nat) {n i : Nat} (h : i < n) :
    memRead (memMove src dst a b n) (b + i) = memRead src (a + i) := by
  cases held : kget? src (a + i) with
  | some v =>
    have taken := mem_memMove_source.2 ⟨mem_of_kget? held, Nat.le_add_right a i, Nat.add_lt_add_left h a⟩
    have moved := kget?_foldl_kset (key := fun c : Host.Cell => b + (c.1 - a)) taken (fun c hc same => by
      obtain ⟨mem, low, -⟩ := mem_memMove_source.1 hc
      exact eq_of_mem_sorted sorted mem (mem_of_kget? held) (by dsimp only at same ⊢; omega)) Prod.snd (memZero dst b n)
    dsimp only at moved
    rw [show a + i - a = i by omega] at moved
    unfold memRead kgetD memMove
    rw [moved, held]
  | none =>
    have missed : kget? (memMove src dst a b n) (b + i) = kget? (memZero dst b n) (b + i) :=
      foldl_read_of_apart (f := fun d (c : Host.Cell) => kset d (b + (c.1 - a)) c.2) kget?
        (fun d c apart => kget?_kset_ne d _ apart) (fun c hc same => by
          obtain ⟨mem, low, -⟩ := mem_memMove_source.1 hc
          have at_ : c.1 = a + i := by omega
          exact kget?_of_mem mem (at_ ▸ held)) _
    have zero := memRead_memZero_in dst (a := b) (n := n) (x := b + i) (by omega)
    unfold memRead kgetD at zero ⊢
    rw [missed, zero, held]
    rfl

theorem memRead_memMove_out (src dst : Memory) (a : Nat) {b n x : Nat} (h : x < b ∨ b + n ≤ x) :
    memRead (memMove src dst a b n) x = memRead dst x := by
  have missed : kget? (memMove src dst a b n) x = kget? (memZero dst b n) x :=
    foldl_read_of_apart (f := fun d (c : Host.Cell) => kset d (b + (c.1 - a)) c.2) kget?
      (fun d c apart => kget?_kset_ne d _ apart) (fun c hc same => by
        obtain ⟨mem, low, high⟩ := mem_memMove_source.1 hc
        omega) _
  exact (congrArg (fun v => v.getD 0) missed).trans (memRead_memZero_out dst h)

theorem meetStack_clean {s : State} {a n : Nat} (clean : errsIn s.mem.stackErrs a n = []) : meetStack s a n = s := by
  rw [meetStack, clean]
  rfl

/-! ### Galleys -/

theorem getG_setG (s : State) (g : Nat) (x : Galley) : getG (setG s g x) g = some x := kget?_kset_same ..

theorem getG_setG_ne (s : State) {g h : Nat} (x : Galley) (other : h ≠ g) : getG (setG s g x) h = getG s h :=
  kget?_kset_ne _ _ other

theorem agreeBut_setG (s : State) (g : Nat) (x : Galley) : AgreeBut s.kv.galleys (setG s g x).kv.galleys [g] :=
  fun _ out => kget?_kset_ne _ _ (by simpa using out)

/-- A galley that a state change gives its T0 region at most. -/
theorem takeT0_taken {s : State} {g a : Nat} {x : Galley} {f : Forme} (held : getG s g = some x)
    (forme : kget? s.formes x.forme = some f)
    (region : x.t0 = some a ∨ (x.t0 = none ∧ freeRegion s f x.layer x.bytes = some a)) :
    getG (takeT0 s g) g = some { x with t0 := some a } ∧
      AgreeBut s.kv.galleys (takeT0 s g).kv.galleys [g] ∧
      takeT0 s g = { s with kv := { s.kv with galleys := (takeT0 s g).kv.galleys } } := by
  unfold takeT0 takeT0In
  simp only [held, forme, Option.bind_some]
  rcases region with at_ | ⟨none_, free⟩
  · rw [at_]
    exact ⟨by rw [held, ← at_], fun _ _ => rfl, rfl⟩
  · unfold freeRegion at free
    rw [none_, free]
    exact ⟨getG_setG .., agreeBut_setG s g _, rfl⟩

theorem fillT0_region {s : State} {g a b : Nat} {x : Galley} (st : GalleyState) (held : getG s g = some x)
    (region : x.t0 = some a) (copy : x.t1 = some b) :
    fillT0 s g st = setG (stackToStore s b a x.bytes) g { x with st := st } := by
  unfold fillT0
  simp only [held, region, copy]

theorem stackToStore_clean {s : State} {a b n : Nat} (clean : errsIn s.mem.stackErrs a n = []) :
    stackToStore s a b n = { s with mem := { s.mem with
      store := memMove s.mem.stack s.mem.store a b n
      errs := s.mem.errs.filter (fun e => !(wholeWords b n).contains e.1)
      storePoison := moveMarks s.mem.stackPoison s.mem.storePoison a b n } } := by
  rw [stackToStore, meetStack_clean clean]

theorem copyToT0_copies {s : State} {g a b : Nat} {x : Galley} {f : Forme} (st : GalleyState) (inv : Inv s)
    (held : getG s g = some x) (copy : x.t1 = some b) (forme : kget? s.formes x.forme = some f)
    (region : x.t0 = some a ∨ (x.t0 = none ∧ freeRegion s f x.layer x.bytes = some a))
    (clean : errsIn s.mem.stackErrs b x.bytes = []) :
    let t := copyToT0 s g st
    (∀ i < x.bytes, memRead t.mem.store (a + i) = memRead s.mem.stack (b + i)) ∧
    BytesBut s.mem.store t.mem.store a x.bytes ∧ getG t g = some { x with t0 := some a, st := st } ∧
    AgreeBut s.kv.galleys t.kv.galleys [g] ∧ t.mem.stack = s.mem.stack ∧ t.mem.host = s.mem.host ∧
    t = { s with mem := t.mem, kv := { s.kv with galleys := t.kv.galleys } } := by
  intro t
  obtain ⟨taken, others, rest⟩ := takeT0_taken held forme region
  have filled : t = setG (stackToStore (takeT0 s g) b a x.bytes) g { x with t0 := some a, st := st } := by
    show copyToT0 s g st = _
    rw [copyToT0, taken]
    exact fillT0_region st taken rfl copy
  rw [filled]
  generalize takeT0 s g = u at *
  generalize u.kv.galleys = gs at *
  subst rest
  rw [stackToStore_clean (s := { s with kv := { s.kv with galleys := gs } }) clean]
  refine ⟨fun i less => memRead_memMove_in inv.1.2.1.1 _ _ _ less, fun y out => memRead_memMove_out _ _ _ out,
    getG_setG .., fun k out => ?_, rfl, rfl, rfl⟩
  exact (kget?_kset_ne _ _ (by simpa using out)).trans (others k out)

/-! ### Copies to T2 -/

theorem countT2_mem (s : State) : (countT2 s).mem = s.mem := by
  unfold countT2
  exact setF_mem ..

theorem getG_countT2 (s : State) (g : Nat) : getG (countT2 s) g = getG s g := by
  unfold countT2
  exact congrArg (fun k : Kv => kget? k.galleys g) (setF_kv ..)

/-- The state once galley `g`, with its T1 copy at `a`, stands at `b` in T2. -/
def t2Sent (s : State) (g a b : Nat) (x : Galley) : State :=
  modKv (setG (addF { s with mem := { s.mem with host := memMove s.mem.stack s.mem.host a b x.span } }
    Reg.HST_WR_BYTES x.span 0) g { x with t2 := some b }) (fun k => { k with t2 := addExtent k.t2 b x.span })

theorem t2Sent_mem (s : State) (g a b : Nat) (x : Galley) :
    (t2Sent s g a b x).mem = { s.mem with host := memMove s.mem.stack s.mem.host a b x.span } := rfl

theorem getG_t2Sent (s : State) (g a b : Nat) (x : Galley) : getG (t2Sent s g a b x) g = some { x with t2 := some b } :=
  getG_setG ..

theorem sendT2_copies {s : State} {p g a : Nat} {x : Galley} (inv : Inv s) (held : getG s g = some x)
    (copy : x.t1 = some a) (none_ : x.t2 = none) (clean : errsIn s.mem.stackErrs a x.span = [])
    (sound : stackPoisoned s a x.span = false)
    (room : firstFit x.span (getF s Reg.HST_T2_BASE p) s.kv.t2 + x.span ≤
      getF s Reg.HST_T2_BASE p + getF s Reg.HST_T2_SIZE p) :
    let b := firstFit x.span (getF s Reg.HST_T2_BASE p) s.kv.t2
    let t := sendT2 s p g
    getG t g = some { x with t2 := some b } ∧ (∀ i < x.span, memRead t.mem.host (b + i) = memRead s.mem.stack (a + i)) ∧
    BytesBut s.mem.host t.mem.host b x.span ∧ t.mem.store = s.mem.store ∧ t.mem.stack = s.mem.stack := by
  intro b t
  have sent : t = countT2 (t2Sent s g a b x) := by
    show sendT2 s p g = _
    rw [sendT2, held]
    dsimp only
    split
    next c at_ _ =>
      obtain rfl : a = c := Option.some.inj (copy.symm.trans at_)
      rw [meetStack_clean clean, sound, if_neg Bool.false_ne_true, if_pos room]
      rfl
    next other => exact absurd none_ (other a copy)
  rw [sent, getG_countT2, countT2_mem, t2Sent_mem]
  exact ⟨getG_t2Sent .., fun i less => memRead_memMove_in inv.1.2.1.1 _ _ _ less,
    fun y out => memRead_memMove_out _ _ _ out, rfl, rfl⟩

theorem t2CopyAck_frees {s : State} {g a b : Nat} {x : Galley} (held : getG s g = some x)
    (away : x.st = .paused ∨ x.st = .spilled) (copy : x.t1 = some a) (far : x.t2 = some b) (idle : usersOf s x = []) :
    Gives (.t2CopyAck g) s fun t => getG t g = some { x with t1 := none, st := .host } ∧
      (∀ i < x.span, memRead t.mem.stack (a + i) = 0) ∧ BytesBut s.mem.stack t.mem.stack a x.span ∧
      t.mem.host = s.mem.host ∧ t.mem.store = s.mem.store ∧ AgreeBut s.kv.galleys t.kv.galleys [g] := by
  refine ⟨setG (freeT1 s a x.span) g { x with t1 := none, st := .host }, ?_, getG_setG .., ?_, ?_, rfl, rfl,
    agreeBut_setG s g _⟩
  · show execT2CopyAck g s = _
    rw [execT2CopyAck, held]
    dsimp only
    rw [copy, far]
    dsimp only
    rw [if_pos ⟨away, by rw [idle]; rfl⟩]
  · exact fun i less => memRead_memZero_in _ (by omega)
  · exact fun y out => memRead_memZero_out _ out

/-! ### An acknowledged galley -/

/-- What acknowledging one galley leaves of a conversation's other galleys: what the tree of prefixes notes with them. -/
def TreeNotes (s t : State) : Prop :=
  t.serve.streams = s.serve.streams ∧ ∀ g x tn h, getG s g = some x → x.owner = .conv tn h →
    ∃ y : Galley, getG t g = some y ∧ y = { x with pub := y.pub, tree := y.tree, late := y.late }

theorem TreeNotes.refl (s : State) : TreeNotes s s := ⟨rfl, fun _ x _ _ held _ => ⟨x, held, rfl⟩⟩

theorem TreeNotes.trans {s t u : State} (h : TreeNotes s t) (k : TreeNotes t u) : TreeNotes s u := by
  refine ⟨k.1.trans h.1, fun g x tn hd held owner => ?_⟩
  obtain ⟨y, stands, same⟩ := h.2 g x tn hd held owner
  obtain ⟨z, stays, same'⟩ := k.2 g y tn hd stands (same ▸ owner)
  exact ⟨z, stays, by rw [same', same]⟩

theorem TreeNotes.foldl {α : Type} {f : State → α → State} (h : ∀ s a, TreeNotes s (f s a)) (l : List α) (s : State) :
    TreeNotes s (l.foldl f s) := by
  induction l generalizing s with
  | nil => exact .refl s
  | cons a l ih => exact (h s a).trans (ih _)

/-- A change of the state outside its streams and galleys. -/
theorem TreeNotes.of_eq {s t : State} (streams : t.serve.streams = s.serve.streams)
    (galleys : t.kv.galleys = s.kv.galleys) : TreeNotes s t :=
  ⟨streams, fun g x _ _ held _ => ⟨x, (congrArg (kget? · g) galleys).trans held, rfl⟩⟩

theorem treeNotes_setG {s : State} {g : Nat} {x : Galley} (held : getG s g = some x) (pub : Bool) (tree : Nat)
    (late : List PrefixNode) : TreeNotes s (setG s g { x with pub := pub, tree := tree, late := late }) := by
  refine ⟨rfl, fun h y _ _ stands _ => ?_⟩
  by_cases same : h = g
  · subst same
    obtain rfl : x = y := Option.some.inj (held.symm.trans stands)
    exact ⟨_, getG_setG .., rfl⟩
  · exact ⟨y, (getG_setG_ne s _ same).trans stands, rfl⟩

theorem kadj_of_some {α : Type} {m : KMap α} {k : Nat} {v : α} (h : kget? m k = some v) (f : α → α) :
    kadj m k f = kset m k (f v) := by
  rw [kadj, h]

theorem kadj_of_none {α : Type} {m : KMap α} {k : Nat} (h : kget? m k = none) (f : α → α) : kadj m k f = m := by
  rw [kadj, h]

theorem treeNotes_adjG (s : State) (g : Nat) {f : Galley → Galley}
    (h : ∀ x, f x = { x with pub := (f x).pub, tree := (f x).tree, late := (f x).late }) : TreeNotes s (adjG s g f) := by
  cases held : getG s g with
  | some x =>
    have set_ : adjG s g f = setG s g (f x) := congrArg (fun m => modKv s (fun k => { k with galleys := m }))
      (kadj_of_some held f)
    rw [set_, h x]
    exact treeNotes_setG held ..
  | none => exact .of_eq rfl (kadj_of_none held f)

/-- The streams and the galleys stand as they were. -/
def SameGalleys (s t : State) : Prop := t.serve.streams = s.serve.streams ∧ t.kv.galleys = s.kv.galleys

theorem SameGalleys.trans {s t u : State} (h : SameGalleys s t) (k : SameGalleys t u) : SameGalleys s u :=
  ⟨k.1.trans h.1, k.2.trans h.2⟩

theorem sameGalleys_countT2 (s : State) : SameGalleys s (countT2 s) := by
  unfold countT2
  exact ⟨congrArg Serve.streams (setF_serve ..), congrArg Kv.galleys (setF_kv ..)⟩

theorem sameGalleys_freeT2 (s : State) (a n : Nat) : SameGalleys s (freeT2 s a n) := by
  unfold freeT2
  split_ifs
  · exact sameGalleys_countT2 (modKv { s with mem := { s.mem with host := memZero s.mem.host a n } }
      (fun k => { k with t2 := kdel k.t2 a }))
  · exact ⟨rfl, rfl⟩

/-- What freeing a galley leaves: the streams and the other galleys. -/
theorem freeGalley_leaves (s : State) (g : Nat) : (freeGalley s g).serve.streams = s.serve.streams ∧
    ∀ h, h ≠ g → getG (freeGalley s g) h = getG s h := by
  unfold freeGalley
  split
  next => exact ⟨rfl, fun _ _ => rfl⟩
  next x _ =>
    let u := match x.t0 with
      | some a => scrubT0 s a x.bytes
      | none => s
    have first : SameGalleys s u := by
      show SameGalleys s (match x.t0 with | some a => scrubT0 s a x.bytes | none => s)
      split <;> exact ⟨rfl, rfl⟩
    let v := match x.t1 with
      | some a => freeT1 u a x.span
      | none => u
    have second : SameGalleys u v := by
      show SameGalleys u (match x.t1 with | some a => freeT1 u a x.span | none => u)
      split <;> exact ⟨rfl, rfl⟩
    let w := match x.t2 with
      | some a => freeT2 v a x.span
      | none => v
    have third : SameGalleys v w := by
      show SameGalleys v (match x.t2 with | some a => freeT2 v a x.span | none => v)
      split
      · exact sameGalleys_freeT2 ..
      · exact ⟨rfl, rfl⟩
    obtain ⟨streams, galleys⟩ := (first.trans second).trans third
    exact ⟨streams, fun h other => (kget?_kdel_ne _ other).trans (congrArg (kget? · h) galleys)⟩

theorem treeNotes_releaseGalley (s : State) (g : Nat) : TreeNotes s (releaseGalley s g) := by
  unfold releaseGalley
  split
  next x held =>
    split_ifs with tree
    · obtain ⟨streams, others⟩ := freeGalley_leaves s g
      refine ⟨streams, fun h y tn hd stands owner => ?_⟩
      have other : h ≠ g := by
        rintro rfl
        obtain rfl : x = y := Option.some.inj (held.symm.trans stands)
        rw [tree.1] at owner
        cases owner
      exact ⟨y, (others h other).trans stands, rfl⟩
    · exact .refl s
  next => exact .refl s

theorem treeNotes_markPublic (s : State) (g : Nat) (pub : Bool) : TreeNotes s (markPublic s g pub) := by
  unfold markPublic
  split
  next x held =>
    have marked := treeNotes_setG held (x.pub || pub) x.tree x.late
    dsimp only
    split
    · split_ifs
      · exact marked
      · exact marked.trans (.of_eq rfl rfl)
    · exact marked
  next => exact .refl s

theorem treeNotes_insertNode (s : State) (n : PrefixNode) : TreeNotes s (insertNode s n) := by
  unfold insertNode
  split_ifs
  · exact .refl s
  · split
    · exact .refl s
    · refine TreeNotes.trans (.of_eq rfl rfl) (TreeNotes.foldl (fun s g => ?_) _ _)
      exact (treeNotes_adjG s g fun _ => rfl).trans (treeNotes_markPublic ..)

theorem treeNotes_dropNode (s : State) (n : PrefixNode) : TreeNotes s (dropNode s n) := by
  unfold dropNode
  refine TreeNotes.trans (.of_eq rfl rfl) (TreeNotes.foldl (fun s g => ?_) _ _)
  exact (treeNotes_adjG s g fun _ => rfl).trans (treeNotes_releaseGalley ..)

theorem treeNotes_countHeld (s : State) : TreeNotes s (countHeld s) := by
  unfold countHeld
  exact .of_eq (congrArg Serve.streams (setF_serve ..)) (congrArg Kv.galleys (setF_kv ..))

theorem treeNotes_evict (n : Nat) (s : State) : TreeNotes s (evict s n) := by
  induction n generalizing s with
  | zero => exact treeNotes_countHeld s
  | succ n ih =>
    rw [evict]
    split_ifs
    · split
      · exact (treeNotes_dropNode ..).trans (ih _)
      · exact treeNotes_countHeld s
    · exact treeNotes_countHeld s

theorem treeNotes_insertLate (s : State) (x : Galley) : TreeNotes s (insertLate s x) := by
  unfold insertLate
  dsimp only
  split_ifs
  · have cleared := TreeNotes.foldl (f := fun s g => adjG s g (fun y => { y with late := [] }))
      (fun s g => treeNotes_adjG s g fun _ => rfl) ((x.late.head?.map (·.galleys)).getD []) s
    refine (cleared.trans (TreeNotes.foldl treeNotes_insertNode x.late _)).trans ?_
    exact (treeNotes_evict _ _).trans (TreeNotes.foldl treeNotes_releaseGalley _ _)
  · exact .refl s

/-! ### Galleys that no stream needs in T0 (R242) -/

theorem dropT0_eq {s : State} {g : Nat} {x : Galley} (held : getG s g = some x) (st : GalleyState) :
    ∃ u : State, u.serve = s.serve ∧ u.kv = s.kv ∧ dropT0 s g st = setG u g { x with t0 := none, st := st } := by
  unfold dropT0
  rw [held]
  dsimp only
  split
  next a _ => exact ⟨scrubT0 s a x.bytes, rfl, rfl, rfl⟩
  next => exact ⟨s, rfl, rfl, rfl⟩

theorem dropT0_leaves (s : State) (g : Nat) (st : GalleyState) :
    (dropT0 s g st).serve.streams = s.serve.streams ∧ ∀ h, h ≠ g → getG (dropT0 s g st) h = getG s h := by
  cases held : getG s g with
  | some x =>
    obtain ⟨u, serve, kv, dropped⟩ := dropT0_eq held st
    rw [dropped]
    exact ⟨congrArg Serve.streams serve, fun h other => (getG_setG_ne u _ other).trans
      (congrArg (fun k : Kv => kget? k.galleys h) kv)⟩
  | none =>
    rw [dropT0, held]
    exact ⟨rfl, fun _ _ => rfl⟩

theorem restGalley_leaves (s : State) (g : Nat) : (restGalley s g).serve.streams = s.serve.streams ∧
    ∀ h, h ≠ g → getG (restGalley s g) h = getG s h := by
  unfold restGalley
  split
  next x held =>
    dsimp only
    split_ifs
    · exact dropT0_leaves ..
    · exact ⟨rfl, fun h other => getG_setG_ne s _ other⟩
    · exact ⟨rfl, fun _ _ => rfl⟩
  next => exact ⟨rfl, fun _ _ => rfl⟩

/-- A resident galley of a conversation that no stream uses. -/
def IdleResident (s : State) (g : Nat) (x : Galley) : Prop :=
  getG s g = some x ∧ x.st = .resident ∧ (∃ tn h, x.owner = .conv tn h) ∧ usersOf s x = []

theorem restGalley_idle {s : State} {g : Nat} {x : Galley} (h : IdleResident s g x) :
    getG (restGalley s g) g = some { x with t0 := none, st := .paused } := by
  obtain ⟨held, res, ⟨tn, hd, owner⟩, users⟩ := h
  obtain ⟨u, -, -, dropped⟩ := dropT0_eq held .paused
  have rests : restGalley s g = dropT0 s g .paused := by
    unfold restGalley
    simp [held, res, users, owner]
  rw [rests, dropped]
  exact getG_setG ..

theorem restGalley_paused {s : State} {g : Nat} {x : Galley} (held : getG s g = some x) (paused : x.st = .paused) :
    restGalley s g = s := by
  unfold restGalley
  rw [held]
  simp [paused]

theorem foldl_restGalley_paused {g : Nat} {x : Galley} (paused : x.st = .paused) (l : List Nat) {s : State}
    (held : getG s g = some x) : getG (l.foldl restGalley s) g = some x := by
  induction l generalizing s with
  | nil => exact held
  | cons h l ih =>
    refine ih ?_
    by_cases same : h = g
    · subst same
      rw [restGalley_paused held paused]
      exact held
    · exact ((restGalley_leaves s h).2 g (Ne.symm same)).trans held

theorem foldl_restGalley_idle {g : Nat} {x : Galley} {l : List Nat} (mem : g ∈ l) {s : State} (h : IdleResident s g x) :
    getG (l.foldl restGalley s) g = some { x with t0 := none, st := .paused } := by
  induction l generalizing s with
  | nil => cases mem
  | cons k l ih =>
    by_cases same : k = g
    · subst same
      exact foldl_restGalley_paused rfl l (restGalley_idle h)
    · obtain ⟨streams, others⟩ := restGalley_leaves s k
      obtain ⟨held, res, owner, users⟩ := h
      refine ih ((List.mem_cons.1 mem).resolve_left (Ne.symm same)) ⟨(others g (Ne.symm same)).trans held, res, owner, ?_⟩
      unfold usersOf at users ⊢
      rw [streams, users]

theorem restGalleys_idle {s : State} {g : Nat} {x : Galley} (h : IdleResident s g x) :
    getG (restGalleys s) g = some { x with t0 := none, st := .paused } := by
  refine foldl_restGalley_idle (List.mem_map.2 ⟨(g, x), List.mem_filter.2 ⟨mem_of_kget? h.1, ?_⟩, rfl⟩) h
  simp [h.2.1]

theorem galleyAck_paused {s : State} {g a tn h : Nat} {x : Galley} (region : x.t0 = some a)
    (sound : anyPoison s.mem.storePoison a x.bytes = false) (owner : x.owner = .conv tn h) (idle : usersOf s x = [])
    (alone : onF s Reg.ERR_PARTNER_CTL_MIRROR_KV 0 = false) :
    ∃ y, getG (galleyAck s g x) g = some y ∧ y.st = .paused ∧ y.t0 = none ∧ y.req = none ∧ y.t1 = x.t1 := by
  let u := setG s g { x with st := .resident, req := none }
  have acked : galleyAck s g x = restGalleys (releaseGalley (insertLate u x) g) := by
    have off : onF u Reg.ERR_PARTNER_CTL_MIRROR_KV 0 = false := alone
    unfold galleyAck
    rw [if_neg (by rw [region, Option.any_some, sound]; exact Bool.false_ne_true)]
    refine congrArg (fun v => restGalleys (releaseGalley (insertLate v x) g)) (if_neg ?_)
    rw [off, Bool.false_and]
    exact Bool.false_ne_true
  obtain ⟨streams, notes⟩ := (treeNotes_insertLate u x).trans (treeNotes_releaseGalley (insertLate u x) g)
  obtain ⟨y, held, same⟩ := notes g _ tn h (getG_setG ..) owner
  have users : usersOf (releaseGalley (insertLate u x) g) y = usersOf s x := by
    unfold usersOf
    rw [streams, same]
    rfl
  refine ⟨{ y with t0 := none, st := .paused }, ?_, rfl, rfl, by rw [same], by rw [same]⟩
  rw [acked]
  exact restGalleys_idle ⟨held, by rw [same], ⟨tn, h, by rw [same]; exact owner⟩, users.trans idle⟩

theorem exec_galleyResident {s : State} {g : Nat} {x : Galley} (held : getG s g = some x) (pending : x.st = .pending)
    (copy : x.t1 ≠ none) : exec (.galleyResident g) s = .next (galleyAck s g x) := by
  show execGalleyResident g s = _
  rw [execGalleyResident, held]
  exact congrArg _ (if_pos ⟨pending, Option.isSome_iff_ne_none.2 copy⟩)

theorem exec_galleyToT2 {s : State} {tn h p : Nat} {c : Conv} (conv : findConv s tn h = some c) (port : t2Port s = some p) :
    exec (.galleyToT2 tn h) s = .next
      (if c.held = false ∧ c.paused ∧ groupUp s 1 ∧ c.pausedAt + 60000000000 ≤ s.lampTime then
        (galleysWhere s (fun g => g.idleFor s tn h)).foldl (fun s g => sendT2 s p g) s
      else s) := by
  show execGalleyToT2 tn h s = _
  rw [execGalleyToT2, conv, port]

/-- Settles O35. The acknowledged galley follows the notes of the tree of prefixes; the copies are moves of a range whose
words are sound. -/
theorem galleyEvents : Obligations.GalleyEvents := by
  refine ⟨⟨fun g x s held pending copy => ⟨exec_galleyResident held pending copy, ?_, ?_⟩, fun g x s held => ⟨?_, ?_⟩,
    fun tn h p c s conv free paused up port => ⟨?_, ?_⟩, fun g a b x s held away copy far idle =>
      t2CopyAck_frees held away copy far idle⟩, fun p g a x s inv held copy none_ clean sound room =>
      sendT2_copies inv held copy none_ clean sound room, fun g a b x f st s inv held copy forme region clean =>
      copyToT0_copies st inv held copy forme region clean⟩
  · rintro ⟨a, region, spoiled⟩
    rw [exec_galleyResident held pending copy, galleyAck, if_pos (by rw [region]; exact spoiled)]
  · intro a tn h region sound owner idle alone
    exact ⟨_, exec_galleyResident held pending copy, galleyAck_paused region sound owner idle alone⟩
  · intro fetching
    show execGalleyFetchDone g s = _
    rw [execGalleyFetchDone, held]
    exact congrArg _ (if_pos fetching)
  · intro other
    show execGalleyFetchDone g s = _
    rw [execGalleyFetchDone, held]
    exact congrArg _ (if_neg other)
  · intro minute
    rw [exec_galleyToT2 conv port, if_pos ⟨free, paused, up, minute⟩]
  · intro early
    rw [exec_galleyToT2 conv port, if_neg (fun h => absurd h.2.2.2 (by omega))]

end Sys2Proof.Machine

end

section
/-! Participants, merges, ranking and the binding of cold experts (R229 to R231, R235, R237, R258, R261, R265). -/

namespace Sys2Proof.Machine

/-! ### Participants (R229, R235) -/

theorem pairwise_range_map (c n : Nat) : ((List.range n).map (c + ·)).Pairwise (· < ·) :=
  List.pairwise_map.2 (List.pairwise_lt_range.imp fun h => Nat.add_lt_add_left h c)

theorem participants_spec (a : Attn) (dense : Bool) (gc : Nat) {picks : List Nat}
    (h : a.dense dense = true ∨ a.candidates gc ≤ a.topk ∨
      (picks.length = a.topk ∧ picks.Pairwise (· < ·) ∧ ∀ i ∈ picks, i < a.candidates gc)) :
    (a.participants dense gc picks).length = a.count dense gc ∧ (a.participants dense gc picks).Pairwise (· < ·) ∧
      ∀ i ∈ a.participants dense gc picks, i < gc := by
  unfold Attn.participants Attn.count
  by_cases all : a.dense dense = true
  · rw [if_pos all, if_pos all]
    exact ⟨List.length_range, List.pairwise_lt_range, fun i hi => List.mem_range.1 hi⟩
  · rw [if_neg all, if_neg all]
    have most : a.candidates gc ≤ gc := Nat.sub_le ..
    have window : gc - a.candidates gc = min gc (a.window / 256) := by unfold Attn.candidates; omega
    let head := if a.candidates gc ≤ a.topk then List.range (a.candidates gc) else picks
    have head_spec : head.length = min (a.candidates gc) a.topk ∧ head.Pairwise (· < ·) ∧ ∀ i ∈ head, i < a.candidates gc := by
      by_cases few : a.candidates gc ≤ a.topk
      · simp only [head, if_pos few]
        exact ⟨by rw [List.length_range]; omega, List.pairwise_lt_range, fun i hi => List.mem_range.1 hi⟩
      · obtain ⟨length, sorted, below⟩ := (h.resolve_left all).resolve_left few
        simp only [head, if_neg few]
        exact ⟨by omega, sorted, below⟩
    obtain ⟨length, sorted, below⟩ := head_spec
    refine ⟨?_, List.pairwise_append.2 ⟨sorted, pairwise_range_map _ _, fun i hi j hj => ?_⟩, fun i hi => ?_⟩
    · show (head ++ _).length = _
      rw [List.length_append, length, List.length_map, List.length_range, window]
      omega
    · obtain ⟨k, -, rfl⟩ := List.mem_map.1 hj
      exact (below i hi).trans_le (Nat.le_add_right ..)
    · rcases List.mem_append.1 hi with hi | hi
      · exact (below i hi).trans_le most
      · obtain ⟨k, hk, rfl⟩ := List.mem_map.1 hi
        have := List.mem_range.1 hk
        omega

/-! ### Merging two states (R231) -/

theorem mergeLeaf_empty_left (n : Nat) (x : Leaf) : mergeLeaf (Leaf.empty n) x = x := if_pos rfl

theorem mergeLeaf_empty_right (n : Nat) {x : Leaf} (some_ : x.m ≠ negInf) : mergeLeaf x (Leaf.empty n) = x := by
  unfold mergeLeaf
  rw [if_neg some_, if_pos (show (Leaf.empty n).m = negInf from rfl)]

theorem mergeLeaf_both {x y : Leaf} (hx : x.m ≠ negInf) (hy : y.m ≠ negInf) :
    (mergeLeaf x y).m = max2F32 x.m y.m ∧ (mergeLeaf x y).o.length = min x.o.length y.o.length := by
  unfold mergeLeaf
  rw [if_neg hx, if_neg hy]
  exact ⟨rfl, List.length_zipWith⟩

/-! ### Ranking (R237, R258) -/

theorem fval_le_total {x y : FVal} (hx : x ≠ .nan) (hy : y ≠ .nan) : x.le y = true ∨ y.le x = true := by
  cases x <;> cases y <;> simp_all [FVal.le]
  · grind
  · exact le_total ..

theorem fval_le_trans {x y z : FVal} (h : x.le y = true) (k : y.le z = true) : x.le z = true := by
  cases x <;> cases y <;> cases z <;> simp_all [FVal.le]
  · grind
  · exact le_trans h k

/-- One F32 value ranks before another, or with it and at a lower index (neither a NaN). -/
theorem rankBefore_iff {a b : Nat × Nat} (ha : isNanF32 a.2 = false) (hb : isNanF32 b.2 = false) :
    rankBefore a b = true ↔ (f32 a.2).le (f32 b.2) = false ∨ ((f32 b.2).le (f32 a.2) = true ∧ a.1 ≤ b.1) := by
  have total := fval_le_total (of_decide_eq_false ha) (of_decide_eq_false hb)
  unfold rankBefore gtF32
  cases h : (f32 a.2).le (f32 b.2) <;> cases k : (f32 b.2).le (f32 a.2) <;> simp_all

theorem rankHigh_total (a b : Nat × Nat) : (rankHigh a b || rankHigh b a) = true := by
  unfold rankHigh
  cases ha : isNanF32 a.2 <;> cases hb : isNanF32 b.2
  · have ab := rankBefore_iff ha hb
    have ba := rankBefore_iff hb ha
    grind
  · simp
  · simp
  · simp [Nat.le_total]

theorem rankHigh_trans (a b c : Nat × Nat) (h : rankHigh a b = true) (k : rankHigh b c = true) : rankHigh a c = true := by
  unfold rankHigh at *
  cases ha : isNanF32 a.2 <;> cases hb : isNanF32 b.2 <;> cases hc : isNanF32 c.2 <;> simp only [ha, hb, hc] at h k ⊢ <;>
    simp at h k ⊢
  · rw [rankBefore_iff ha hb] at h
    rw [rankBefore_iff hb hc] at k
    rw [rankBefore_iff ha hc]
    have abc := @fval_le_trans (f32 a.2) (f32 c.2) (f32 b.2)
    have bca := @fval_le_trans (f32 c.2) (f32 b.2) (f32 a.2)
    have cb := fval_le_total (of_decide_eq_false hb) (of_decide_eq_false hc)
    have ab := fval_le_total (of_decide_eq_false ha) (of_decide_eq_false hb)
    have bac := @fval_le_trans (f32 b.2) (f32 a.2) (f32 c.2)
    grind
  · omega

theorem topRanked_length (k : Nat) (l : List (Nat × Nat)) : (topRanked k l).length = min k l.length := by
  unfold topRanked
  rw [List.length_mergeSort, List.length_map, List.length_take, List.length_mergeSort]

theorem topRanked_sorted (k : Nat) (l : List (Nat × Nat)) : (topRanked k l).Pairwise (· ≤ ·) := by
  unfold topRanked
  refine (List.pairwise_mergeSort (fun a b c h k => ?_) (fun a b => ?_) _).imp fun h => of_decide_eq_true h
  · exact decide_eq_true ((of_decide_eq_true h).trans (of_decide_eq_true k))
  · simp [Nat.le_total]

theorem mem_topRanked {k : Nat} {l : List (Nat × Nat)} {i : Nat} :
    i ∈ topRanked k l ↔ i ∈ ((l.mergeSort rankHigh).take k).map (·.1) := List.mem_mergeSort

theorem mem_of_topRanked {k : Nat} {l : List (Nat × Nat)} {i : Nat} (h : i ∈ topRanked k l) : i ∈ l.map (·.1) := by
  obtain ⟨p, hp, rfl⟩ := List.mem_map.1 (mem_topRanked.1 h)
  exact List.mem_map_of_mem (List.mem_mergeSort.1 (List.mem_of_mem_take hp))

theorem topRanked_first {k : Nat} {l : List (Nat × Nat)} (apart : (l.map (·.1)).Nodup) {p q : Nat × Nat} (hp : p ∈ l)
    (hq : q ∈ l) (taken : p.1 ∈ topRanked k l) (left : q.1 ∉ topRanked k l) : rankHigh p q = true := by
  have sorted := List.pairwise_mergeSort (le := rankHigh) rankHigh_trans rankHigh_total l
  rw [← List.take_append_drop k (l.mergeSort rankHigh)] at sorted
  obtain ⟨p', hp', same⟩ := List.mem_map.1 (mem_topRanked.1 taken)
  obtain rfl : p' = p := List.inj_on_of_nodup_map apart (List.mem_mergeSort.1 (List.mem_of_mem_take hp')) hp same
  have hq' : q ∈ (l.mergeSort rankHigh).drop k := by
    have here : q ∈ (l.mergeSort rankHigh).take k ++ (l.mergeSort rankHigh).drop k := by
      rw [List.take_append_drop]
      exact List.mem_mergeSort.2 hq
    exact (List.mem_append.1 here).resolve_left fun h => left (mem_topRanked.2 (List.mem_map_of_mem h))
  exact (List.pairwise_append.1 sorted).2.2 p' hp' q hq'

/-! ### The slot that a cold expert is bound to (R261, R265) -/

theorem guarded_of_empty {y : ColdLayer} {c : ColdSlot} (h : c.st = .empty) : y.guarded c = false := by
  simp [ColdLayer.guarded, h]

theorem evictFirst_trans (x : Experts) (y : ColdLayer) (a b c : Nat × ColdSlot) (h : evictFirst x y a b = true)
    (k : evictFirst x y b c = true) : evictFirst x y a c = true := by
  unfold evictFirst at *
  simp only [decide_eq_true_eq] at *
  grind

theorem evictFirst_total (x : Experts) (y : ColdLayer) (a b : Nat × ColdSlot) :
    (evictFirst x y a b || evictFirst x y b a) = true := by
  unfold evictFirst
  simp only [Bool.or_eq_true, decide_eq_true_eq]
  grind

/-- The slots with their indices. -/
def ColdLayer.numbered (y : ColdLayer) : List (Nat × ColdSlot) := y.slots.mapIdx (fun i c => (i, c))

theorem mem_numbered {y : ColdLayer} {p : Nat × ColdSlot} : p ∈ y.numbered ↔ y.slots[p.1]? = some p.2 := by
  obtain ⟨i, c⟩ := p
  unfold ColdLayer.numbered
  rw [List.mem_mapIdx]
  constructor
  · rintro ⟨j, hj, same⟩
    cases same
    exact List.getElem?_eq_getElem hj
  · intro h
    obtain ⟨hj, at_⟩ := List.getElem?_eq_some_iff.1 h
    exact ⟨i, hj, congrArg (Prod.mk i) at_⟩

/-- The LOADED slots that nothing guards, the one that goes first in front. -/
def evictOrder (x : Experts) (y : ColdLayer) : List (Nat × ColdSlot) :=
  (y.numbered.filter (fun c => c.2.st == .loaded && !y.guarded c.2)).mergeSort (evictFirst x y)

theorem mem_evictOrder {x : Experts} {y : ColdLayer} {p : Nat × ColdSlot} :
    p ∈ evictOrder x y ↔ y.slots[p.1]? = some p.2 ∧ p.2.st = .loaded ∧ y.guarded p.2 = false := by
  unfold evictOrder
  rw [List.mem_mergeSort, List.mem_filter, mem_numbered]
  simp

theorem evictOrder_sorted (x : Experts) (y : ColdLayer) : (evictOrder x y).Pairwise (fun p q => evictFirst x y p q = true) :=
  List.pairwise_mergeSort (evictFirst_trans x y) (evictFirst_total x y) _

theorem slotToBind_eq (x : Experts) (y : ColdLayer) : slotToBind x y =
    (((y.numbered.find? (fun c => c.2.st == .empty)).map (·.1))
      <|> (((evictOrder x y).find? (fun c => !y.predicted.contains c.2.expert)).map (·.1))
      <|> ((evictOrder x y).head?.map (·.1))) := rfl

/-- An EMPTY slot is taken first. -/
theorem slotToBind_empty {x : Experts} {y : ColdLayer} (h : ∃ c ∈ y.slots, c.st = .empty) :
    ∃ i c, slotToBind x y = some i ∧ y.slots[i]? = some c ∧ c.st = .empty := by
  obtain ⟨c, mem, empty⟩ := h
  obtain ⟨j, hj, at_⟩ := List.mem_iff_getElem.1 mem
  cases found : y.numbered.find? (fun c => c.2.st == .empty) with
  | some p =>
    refine ⟨p.1, p.2, ?_, mem_numbered.1 (List.mem_of_find?_eq_some found), by simpa using List.find?_some found⟩
    rw [slotToBind_eq, found]
    rfl
  | none =>
    have missed := List.find?_eq_none.1 found (j, c) (mem_numbered.2 (List.getElem?_eq_some_iff.2 ⟨hj, at_⟩))
    simp [empty] at missed

theorem find?_empty_none {y : ColdLayer} (h : ∀ c ∈ y.slots, c.st ≠ .empty) :
    y.numbered.find? (fun c => c.2.st == .empty) = none :=
  List.find?_eq_none.2 fun p hp => by simpa using h p.2 (List.mem_of_getElem? (mem_numbered.1 hp))

/-- Without an EMPTY slot, one of an expert outside the predicted set goes first. -/
theorem slotToBind_unpredicted {x : Experts} {y : ColdLayer} (full : ∀ c ∈ y.slots, c.st ≠ .empty)
    (h : ∃ c ∈ y.slots, c.st = .loaded ∧ y.guarded c = false ∧ c.expert ∉ y.predicted) :
    ∃ i c, slotToBind x y = some i ∧ y.slots[i]? = some c ∧ c.st = .loaded ∧ c.expert ∉ y.predicted ∧
      ∀ j d, y.slots[j]? = some d → d.st = .loaded → y.guarded d = false → d.expert ∉ y.predicted →
        evictFirst x y (i, c) (j, d) = true := by
  obtain ⟨c, mem, loaded, free, other⟩ := h
  obtain ⟨j, hj, at_⟩ := List.mem_iff_getElem.1 mem
  cases found : (evictOrder x y).find? (fun c => !y.predicted.contains c.2.expert) with
  | some p =>
    obtain ⟨fits, before, after, split_, earlier⟩ := List.find?_eq_some_iff_append.1 found
    obtain ⟨here, st, -⟩ := mem_evictOrder.1 (List.mem_of_find?_eq_some found)
    refine ⟨p.1, p.2, ?_, here, st, by simpa using fits, fun k d hk dst dfree dother => ?_⟩
    · rw [slotToBind_eq, find?_empty_none full, found]
      rfl
    · have listed : (k, d) ∈ before ++ p :: after := split_ ▸ mem_evictOrder.2 ⟨hk, dst, dfree⟩
      rcases List.mem_append.1 listed with inside | inside
      · have := earlier _ inside
        simp [dother] at this
      · rcases List.mem_cons.1 inside with same | later
        · rw [← same]
          have := evictFirst_total x y (k, d) (k, d)
          simpa using this
        · have sorted := evictOrder_sorted x y
          rw [split_] at sorted
          exact (List.pairwise_cons.1 (List.pairwise_append.1 sorted).2.1).1 (k, d) later
  | none =>
    have missed := List.find?_eq_none.1 found (j, c) (mem_evictOrder.2 ⟨List.getElem?_eq_some_iff.2 ⟨hj, at_⟩, loaded, free⟩)
    simp [other] at missed

theorem slotToBind_unguarded {x : Experts} {y : ColdLayer} {i : Nat} (h : slotToBind x y = some i) :
    ∃ c, y.slots[i]? = some c ∧ y.guarded c = false := by
  rw [slotToBind_eq] at h
  cases empty : y.numbered.find? (fun c => c.2.st == .empty) with
  | some p =>
    rw [empty] at h
    obtain rfl : p.1 = i := Option.some.inj h
    exact ⟨p.2, mem_numbered.1 (List.mem_of_find?_eq_some empty),
      guarded_of_empty (by simpa using List.find?_some empty)⟩
  | none =>
    have loaded : ∀ p ∈ evictOrder x y, p.1 = i → ∃ c, y.slots[i]? = some c ∧ y.guarded c = false := by
      rintro p hp rfl
      obtain ⟨here, -, free⟩ := mem_evictOrder.1 hp
      exact ⟨p.2, here, free⟩
    cases other : (evictOrder x y).find? (fun c => !y.predicted.contains c.2.expert) with
    | some p =>
      rw [empty, other] at h
      exact loaded p (List.mem_of_find?_eq_some other) (Option.some.inj h)
    | none =>
      rw [empty, other] at h
      obtain ⟨p, hp, same⟩ := Option.map_eq_some_iff.1 h
      exact loaded p (List.mem_of_head? hp) same

theorem slotToBind_none_iff (x : Experts) (y : ColdLayer) :
    slotToBind x y = none ↔ ∀ c ∈ y.slots, c.st = .streaming ∨ (c.st = .loaded ∧ y.guarded c = true) := by
  constructor
  · intro none_ c mem
    cases st : c.st with
    | empty =>
      obtain ⟨i, -, some_, -⟩ := slotToBind_empty (x := x) ⟨c, mem, st⟩
      exact absurd (none_.symm.trans some_) (Option.some_ne_none _).symm
    | streaming => exact .inl rfl
    | loaded =>
      refine .inr ⟨rfl, ?_⟩
      by_contra free
      obtain ⟨j, hj, at_⟩ := List.mem_iff_getElem.1 mem
      have listed := mem_evictOrder (x := x) |>.2
        (show y.slots[(j, c).1]? = some (j, c).2 ∧ (j, c).2.st = .loaded ∧ y.guarded (j, c).2 = false from
          ⟨List.getElem?_eq_some_iff.2 ⟨hj, at_⟩, st, Bool.eq_false_iff.2 free⟩)
      rw [slotToBind_eq] at none_
      simp only [Option.orElse_eq_orElse, Option.orElse_eq_or, Option.or_eq_none_iff, Option.map_eq_none_iff,
        List.head?_eq_none_iff] at none_
      rw [none_.2.2] at listed
      cases listed
  · intro full
    cases found : slotToBind x y with
    | none => rfl
    | some i =>
      obtain ⟨c, at_, free⟩ := slotToBind_unguarded found
      rcases full c (List.mem_of_getElem? at_) with st | ⟨-, held⟩
      · simp [ColdLayer.guarded, st] at free
      · simp [held] at free

theorem bindExpert_binds {x : Experts} {y z : ColdLayer} {e : Nat} {miss : Bool} (h : bindExpert x y e miss = some z) :
    y.bound e = false ∧ z.bound e = true ∧
      ∀ (j : Nat) (c : ColdSlot), y.slots[j]? = some c → y.guarded c = true → z.slots[j]? = some c := by
  unfold bindExpert at h
  split_ifs at h with bound
  obtain ⟨i, found, rfl⟩ := Option.map_eq_some_iff.1 h
  obtain ⟨d, at_, free⟩ := slotToBind_unguarded found
  have inside : i < y.slots.length := (List.getElem?_eq_some_iff.1 at_).1
  refine ⟨Bool.eq_false_iff.2 bound, List.any_eq_true.2 ⟨⟨.streaming, e, 0, miss⟩, ?_, by simp⟩, fun j c hj held => ?_⟩
  · exact List.mem_set inside _
  · have other : i ≠ j := by
      rintro rfl
      obtain rfl : d = c := Option.some.inj (at_.symm.trans hj)
      simp [held] at free
    exact (List.getElem?_set_ne other).trans hj

end Sys2Proof.Machine

end

section
/-! Attention and experts: what the operations that use them leave as it was, and their outcomes (R229 to R237, R240,
R257 to R268; O36). -/

namespace Sys2Proof.Machine

/-! ### What works on cores leaves as it was -/

/-- The state but what core operations and the fabric work on: its cores, chases, registers, stores, fault items and
packets. -/
def offCores (s : State) : State :=
  { s with
    regs := [], free := 0, cores := [], chases := [], fabric := [], packets := [], turns := [], credits := [], taken := []
    rim := [], mem := { s.mem with store := [], errs := [], storePoison := [] }
    faults := { s.faults with items := [] } }

theorem offCores_setF (s : State) (f : Fld) (v i k : Nat) : offCores (setF s f v i k) = offCores s := rfl

theorem offCores_addF (s : State) (f : Fld) (n i k : Nat) : offCores (addF s f n i k) = offCores s := offCores_setF ..

theorem offCores_modCore (s : State) (c : CoreRef) (g : Core → Core) : offCores (modCore s c g) = offCores s := rfl

theorem offCores_setChase (s : State) (n : Nat) (c : Chase) : offCores (setChase s n c) = offCores s := rfl

theorem offCores_raise (s : State) (it : FaultItem) : offCores (raise s it) = offCores s := rfl

theorem offCores_storeWrite (s : State) (c : CoreRef) (a : Nat) (bs : List Byte) (p : Bool) :
    offCores (storeWrite s c a bs p) = offCores s := rfl

theorem offCores_noteSlip (s : State) (n source : Nat) (c : CoreRef) : offCores (noteSlip s n source (some c)) = offCores s := by
  unfold noteSlip
  simp only [offCores_setF, offCores_addF]

theorem offCores_reqSlipAt (s : State) (c : CoreRef) (source len start : Nat) :
    offCores (reqSlipAt s c source len start) = offCores s := by
  unfold reqSlipAt
  dsimp only
  rw [offCores_noteSlip, offCores_modCore, offCores_setChase]

theorem offCores_holdFor (s : State) (c : CoreRef) (n : Nat) (who : Who) : offCores (holdFor s c n who) = offCores s := by
  unfold holdFor
  dsimp only
  split_ifs
  · rfl
  · exact offCores_raise ..
  · unfold holdSlip
    dsimp only
    rw [offCores_reqSlipAt, offCores_modCore]

theorem offCores_poisonWord (s : State) (c : CoreRef) (a : Nat) : offCores (poisonWord s c a) = offCores s := by
  unfold poisonWord
  dsimp only
  rw [offCores_raise, offCores_modCore]
  rfl

theorem offCores_meetWord (s : State) (c : CoreRef) (a : Nat) : offCores (meetWord s c a) = offCores s := by
  have cleared : ∀ t : State, offCores (clearErrs t c a) = offCores t := fun _ => rfl
  have spoiled : offCores (spoil s c a) = offCores s := rfl
  unfold meetWord
  split
  · rfl
  · rw [cleared, offCores_modCore]
  · rw [offCores_raise, cleared, offCores_modCore]
  · rw [offCores_poisonWord, cleared, spoiled]

theorem offCores_meetNarrow (s : State) (c : CoreRef) (a n : Nat) : offCores (meetNarrow s c a n) = offCores s :=
  foldl_frame offCores (f := fun s w => meetWord s c w) (fun s w => offCores_meetWord s c w) _ s

theorem offCores_meetWide (s : State) (c : CoreRef) (a n : Nat) (who : Who) : offCores (meetWide s c a n who) = offCores s :=
  foldl_frame offCores (f := fun s r => meetRow s c r who)
    (fun s r => (offCores_holdFor ..).trans (offCores_meetNarrow s c r 128)) _ s

theorem offCores_recomputeSlips (c : CoreRef) (len n : Nat) (s : State) : offCores (recomputeSlips s c len n) = offCores s := by
  induction n generalizing s with
  | zero => rfl
  | succ n ih =>
    rw [recomputeSlips]
    split_ifs
    · exact offCores_reqSlipAt ..
    · rw [offCores_modCore]
      exact offCores_reqSlipAt ..

theorem offCores_countSums (s : State) (c : CoreRef) (layer len : Nat) (who : Who) (l : List (Acc × Bool)) :
    offCores (countSums s c layer (some len) who l) = offCores s := by
  have counted : ∀ s : State, ∀ f : NumCnt → NumCnt, offCores (countNum s (chaseOf c) layer f) = offCores s := fun _ _ => rfl
  unfold countSums
  dsimp only
  split_ifs
  · rw [offCores_raise, counted]
    exact offCores_recomputeSlips ..
  · rw [counted]
    exact offCores_recomputeSlips ..

theorem offCores_onAccess {s : State} (c : CoreRef) (a n : Nat) (who : Who) {f : State → State}
    (h : offCores (f s) = offCores s) : offCores (onAccess s c a n who f) = offCores s := by
  unfold onAccess
  split
  · exact offCores_raise ..
  · exact h

theorem offCores_writeVals (s : State) (c : CoreRef) (out : Fmt) (dst scaleDst : Nat) (xs : List FVal) (p : Bool) (who : Who) :
    offCores (writeVals s c out dst scaleDst xs p who) = offCores s := by
  unfold writeVals
  split_ifs
  · refine foldl_frame offCores (fun s b => ?_) _ s
    unfold writeBlock
    refine offCores_onAccess _ _ _ _ (offCores_onAccess _ _ _ _ ?_)
    rw [offCores_storeWrite, offCores_storeWrite]
  · exact offCores_onAccess _ _ _ _ (offCores_storeWrite ..)

theorem offCores_emitFlit (s : State) (c : CoreRef) (f : Flit) : offCores (emitFlit s c f) = offCores s := by
  unfold emitFlit
  split <;> rfl

theorem offCores_flushWaiting (s : State) (c : CoreRef) (cls : Nat) : offCores (flushWaiting s c cls) = offCores s := by
  unfold flushWaiting
  rw [foldl_frame offCores fun s f => offCores_emitFlit s c f]
  exact offCores_modCore ..

theorem offCores_sendPacket (s : State) (c : CoreRef) (f : Flit) : offCores (sendPacket s c f) = offCores s := by
  unfold sendPacket emitPacket
  dsimp only
  split
  · split_ifs
    · rw [offCores_flushWaiting, offCores_emitFlit, offCores_modCore]
    · rw [offCores_emitFlit, offCores_modCore]
    · exact offCores_modCore ..
    · exact offCores_emitFlit ..
    · rfl
  · rw [offCores_emitFlit, offCores_modCore]

theorem offCores_sendMerged (s : State) (c : CoreRef) (f : Flit) (m : Merged) : offCores (sendMerged s c f m) = offCores s := by
  unfold sendMerged
  dsimp only
  rw [offCores_sendPacket]
  split_ifs
  · exact offCores_raise ..
  · rfl

/-- What two states that differ on cores only hold alike. -/
theorem same_of_offCores {s t : State} (h : offCores t = offCores s) :
    t.kv = s.kv ∧ t.serve = s.serve ∧ t.cold = s.cold ∧ t.mem.stack = s.mem.stack := by
  have kv : (offCores t).kv = (offCores s).kv := by rw [h]
  have serve : (offCores t).serve = (offCores s).serve := by rw [h]
  have cold : (offCores t).cold = (offCores s).cold := by rw [h]
  have stack : (offCores t).mem.stack = (offCores s).mem.stack := by rw [h]
  exact ⟨kv, serve, cold, stack⟩

/-! ### Elements read in place -/

theorem withPacked_ok {s : State} {c : CoreRef} {q : PackedSrc} {n : Nat} {who : Who}
    (codes : CanAccess s c q.codes (elemBytes q.fmt n)) (scales : CanAccess s c q.scales (scaleBytes q.fmt n))
    (f : State → List Elem → Bool → State) : ∃ t xs p, offCores t = offCores s ∧ withPacked s c q n who f = f t xs p := by
  unfold withPacked
  dsimp only
  rw [onAccess_ok _ _ codes, onAccess_ok _ _ scales]
  exact ⟨_, _, _, (offCores_meetWide ..).trans (offCores_meetWide ..), rfl⟩

/-! ### Cold slots once experts are bound -/

/-- Binding experts leaves everything of a layer but its slots, and the guarded slots. -/
structure BindsOnly (y z : ColdLayer) : Prop where
  rest : z = { y with slots := z.slots }
  guarded : ∀ (j : Nat) (c : ColdSlot), y.slots[j]? = some c → y.guarded c = true → z.slots[j]? = some c

theorem BindsOnly.forme {y z : ColdLayer} (h : BindsOnly y z) : z.forme = y.forme := by rw [h.rest]

theorem BindsOnly.layer {y z : ColdLayer} (h : BindsOnly y z) : z.layer = y.layer := by rw [h.rest]

theorem BindsOnly.refl (y : ColdLayer) : BindsOnly y y := ⟨rfl, fun _ _ h _ => h⟩

theorem BindsOnly.trans {x y z : ColdLayer} (h : BindsOnly x y) (k : BindsOnly y z) : BindsOnly x z := by
  refine ⟨by rw [k.rest, h.rest], fun j c at_ held => k.guarded j c (h.guarded j c at_ held) ?_⟩
  rw [h.rest]
  exact held

theorem bindsOnly_bindExpert {x : Experts} {y z : ColdLayer} {e : Nat} {miss : Bool} (h : bindExpert x y e miss = some z) :
    BindsOnly y z := by
  refine ⟨?_, (bindExpert_binds h).2.2⟩
  unfold bindExpert at h
  split_ifs at h
  obtain ⟨i, -, rfl⟩ := Option.map_eq_some_iff.1 h
  rfl

theorem bindsOnly_bindExperts (x : Experts) (miss : Bool) (es : List Nat) (y : ColdLayer) :
    BindsOnly y (bindExperts x miss y es).1 := by
  induction es generalizing y with
  | nil => exact .refl y
  | cons e es ih =>
    rw [bindExperts]
    split
    next z bound => exact (bindsOnly_bindExpert bound).trans (ih z)
    next => exact ih y

theorem find?_map_of_found {α : Type} {p : α → Bool} {g : α → α} {l : List α} {x : α} (found : l.find? p = some x)
    (keeps : ∀ a, p (g a) = p a) : (l.map g).find? p = some (g x) := by
  rw [List.find?_map, show p ∘ g = p from funext keeps, found]
  rfl

/-- A layer's cold slots once they are changed. -/
theorem coldAt_modCold {s : State} {fi layer : Nat} {y : ColdLayer} (found : coldAt s fi layer = some y) (g : ColdLayer → ColdLayer)
    (keeps : ∀ c, c.forme = fi ∧ c.layer = layer → (g c).forme = fi ∧ (g c).layer = layer) :
    coldAt (modCold s fi layer g) fi layer = some (g y) := by
  have here : y.forme = fi ∧ y.layer = layer := by simpa using List.find?_some found
  have at_ := find?_map_of_found (g := fun c : ColdLayer => if c.forme = fi ∧ c.layer = layer then g c else c) found
    fun c => by
      by_cases same : c.forme = fi ∧ c.layer = layer
      · have kept := keeps c same
        rw [if_pos same, kept.1, kept.2, same.1, same.2]
      · simp only [if_neg same]
  rw [if_pos here] at at_
  exact at_

/-- A layer's cold slots after a change and its count, both for a state whose cold slots stand as they were. -/
theorem coldAt_counted {s t : State} {fi layer : Nat} {y z : ColdLayer} (cold : t.cold = s.cold)
    (found : coldAt s fi layer = some y) (forme : z.forme = y.forme) (at_ : z.layer = y.layer) (g : ExpertCount → ExpertCount) :
    coldAt (countExperts (modCold t fi layer (fun _ => z)) layer g) fi layer = some z := by
  have here : y.forme = fi ∧ y.layer = layer := by simpa using List.find?_some found
  have found' : coldAt t fi layer = some y := by
    unfold coldAt at found ⊢
    rw [cold]
    exact found
  exact coldAt_modCold found' _ fun _ _ => ⟨forme.trans here.1, at_.trans here.2⟩

theorem guarded_of_streaming {y : ColdLayer} {c : ColdSlot} (h : c.st = .streaming) : y.guarded c = true := by
  simp [ColdLayer.guarded, h]

/-- The layer's cold slots once a token's selection is noted, before its misses are bound. -/
def selectedInto (x : Experts) (y : ColdLayer) (req pos : Nat) (sel : List Nat) : ColdLayer :=
  { y.pass x sel with
    selected := y.selected.filter (fun k => !(k.req == req && k.pos == pos)) ++ [⟨req, pos, sel, 0, false⟩] }

theorem coldAt_routed {s t : State} {fi layer : Nat} {y : ColdLayer} (cold : t.cold = s.cold)
    (found : coldAt s fi layer = some y) (x : Experts) (req pos : Nat) (sel : List Nat) :
    ∃ z, coldAt (routed t fi layer x y req pos sel) fi layer = some z ∧ BindsOnly (selectedInto x y req pos sel) z := by
  have binds := bindsOnly_bindExperts x true ((sel.filter (fun e => x.cold.getD e false)).filter (fun e => !y.bound e))
    (selectedInto x y req pos sel)
  exact ⟨_, coldAt_counted cold found binds.forme binds.layer _, binds⟩

theorem coldAt_predicted {s t : State} {fi layer : Nat} {y : ColdLayer} (cold : t.cold = s.cold)
    (found : coldAt s fi layer = some y) (x : Experts) (es : List Nat) :
    ∃ z, coldAt (predicted t fi layer x y es) fi layer = some z ∧ BindsOnly { y with predicted := es, predicting := [] } z := by
  have binds := bindsOnly_bindExperts x false (bindOrder x { y with predicted := es, predicting := [] } es)
    { y with predicted := es, predicting := [] }
  exact ⟨_, coldAt_counted cold found binds.forme binds.layer _, binds⟩

/-! ### CLOSE in its other roles -/

section
variable {o : CloseOp} {s : State} (ready : runs s o.core (opCode 1 4) = true)
include ready

theorem exec_close_ordered {x : PartsSrc} (role : o.role = .ordered x) (can : closable o.out = true) : exec (.close o) s =
    .next (closeOrdered (passOp s o.core) o.core o.out o.dst o.scaleDst x (some (o.stamp, o.instr))) := by
  show execClose o s = _
  simp [execClose, ready, role, can]

theorem exec_close_merge {x : MergeSrc} (role : o.role = .merge x) (can : closable o.out = true) : exec (.close o) s =
    .next (closeMerge (passOp s o.core) o.core o.out o.dst o.scaleDst o.stamp x (some (o.stamp, o.instr))) := by
  show execClose o s = _
  simp [execClose, ready, role, can]

theorem exec_close_combine {x : CombineSrc} (role : o.role = .combine x) (can : closable o.out = true) :
    exec (.close o) s = .next
      (closeCombine (passOp s o.core) o.core o.out o.dst o.scaleDst o.stamp x o.recomputeLen (some (o.stamp, o.instr))) := by
  show execClose o s = _
  simp [execClose, ready, role, can]

theorem exec_close_scores {q : PackedSrc} {g : Nat} {anchor : Int} (role : o.role = .scores q g anchor) :
    exec (.close o) s =
      .next (closeScores (passOp s o.core) o.core o.stamp q g anchor o.recomputeLen (some (o.stamp, o.instr))) := by
  show execClose o s = _
  simp [execClose, ready, role]

theorem exec_close_router {q : PackedSrc} {anchor : Int} (role : o.role = .router q anchor) : exec (.close o) s =
    .next (closeRouter (passOp s o.core) o.core o.dst o.stamp q anchor o.recomputeLen (some (o.stamp, o.instr))) := by
  show execClose o s = _
  simp [execClose, ready, role]

theorem exec_close_predict {q : PackedSrc} {anchor : Int} {last : Bool} (role : o.role = .predict q anchor last) :
    exec (.close o) s =
      .next (closePredict (passOp s o.core) o.core o.stamp q anchor last o.recomputeLen (some (o.stamp, o.instr))) := by
  show execClose o s = _
  simp [execClose, ready, role]

end

section
variable {s : State} {c : CoreRef} {q : PackedSrc} {stamp : Word64} {anchor : Int} {len : Nat} {who : Who} {e : Nat} {y : Stream}
variable (stands : streamOfReq s (stampReq stamp) = some (e, y))
include stands

theorem closeScores_picks {g : Nat} {a : Attn} (attn : attnFor s y (stampLayer stamp) = some a)
    (codes : CanAccess s c q.codes (elemBytes q.fmt 96)) (scales : CanAccess s c q.scales (scaleBytes q.fmt 96)) :
    let t := closeScores s c stamp q g anchor len who
    t.kv.galleys = s.kv.galleys ∧ t.serve = s.serve ∧ t.mem.stack = s.mem.stack ∧
      ∃ p ∈ t.kv.picks, p.stream = e ∧ p.layer = stampLayer stamp ∧ p.group = g ∧ p.pos = stampPos stamp ∧
        p.galleys.length ≤ a.topk ∧ ∀ i ∈ p.galleys, i < a.candidates (stampPos stamp / 256) := by
  intro t
  unfold t closeScores
  rw [stands]
  dsimp only
  rw [attn]
  dsimp only
  obtain ⟨u, xs, p, same, read⟩ := withPacked_ok (who := who) codes scales (fun s q _ =>
    let here := (candidatesOf s e a stamp g).map (fun g => (g.2.index, summaryFor s e g.1 g.2))
    let s := countSums s c (stampLayer stamp) (some len) who (here.map (fun x => scoreSum anchor q x.2))
    let top := topRanked a.topk (here.map (fun x => (x.1, scoreOf anchor q x.2)))
    let keep := fun (p : Pick) => !(p.stream == e && p.layer == stampLayer stamp && p.group == g && p.pos == stampPos stamp)
    modKv s (fun k => { k with picks := k.picks.filter keep ++ [⟨e, stampLayer stamp, g, stampPos stamp, top⟩] }))
  rw [read]
  dsimp only
  let sums := ((candidatesOf u e a stamp g).map (fun g => (g.2.index, summaryFor u e g.1 g.2))).map (fun x => scoreSum anchor xs x.2)
  obtain ⟨kv, serve, -, stack⟩ := same_of_offCores ((offCores_countSums u c (stampLayer stamp) len who sums).trans same)
  have galleys : (countSums u c (stampLayer stamp) (some len) who sums).kv.galleys = s.kv.galleys := by rw [kv]
  refine ⟨galleys, serve, stack, _, List.mem_append_right _ List.mem_cons_self, rfl, rfl, rfl, rfl, ?_,
    fun i hi => ?_⟩
  · rw [topRanked_length]
    exact Nat.min_le_left ..
  · obtain ⟨x, hx, rfl⟩ := List.mem_map.1 (mem_of_topRanked hi)
    obtain ⟨z, hz, rfl⟩ := List.mem_map.1 hx
    obtain ⟨g', hg', rfl⟩ := List.mem_map.1 hz
    have fits := (List.mem_filter.1 hg').2
    simp only [Bool.and_eq_true, decide_eq_true_eq] at fits
    exact fits.2

theorem closeRouter_routes {f : Forme} {cl : ColdLayer} {x : Experts} {dst : Nat} (forme : getForme s y.forme = some f)
    (found : coldAt s y.forme (stampLayer stamp) = some cl) (experts : expertsAt f.image (stampLayer stamp) = some x)
    (codes : CanAccess s c q.codes (elemBytes q.fmt
      ((((declAt f.image (stampLayer stamp)).tensors.find? (fun t => t.idx == x.routerTensor)).map Tensor.cols).getD 0)))
    (scales : CanAccess s c q.scales (scaleBytes q.fmt
      ((((declAt f.image (stampLayer stamp)).tensors.find? (fun t => t.idx == x.routerTensor)).map Tensor.cols).getD 0))) :
    let t := closeRouter s c dst stamp q anchor len who
    t.kv = s.kv ∧ t.serve = s.serve ∧ ∃ z, coldAt t y.forme (stampLayer stamp) = some z ∧
      z.passed = cl.passed + 1 ∧ (∃ k ∈ z.selected, k.req = stampReq stamp ∧ k.pos = stampPos stamp ∧
        k.experts.length ≤ x.topk ∧ k.ends = 0) ∧
      ∀ (i : Nat) (d : ColdSlot), cl.slots[i]? = some d → d.st = .streaming → z.slots[i]? = some d := by
  intro t
  have routes : ∃ v ls, offCores v = offCores s ∧
      t = routed v y.forme (stampLayer stamp) x cl (stampReq stamp) (stampPos stamp) (selectExperts x ls) := by
    unfold t closeRouter
    rw [stands]
    dsimp only
    rw [forme, found]
    dsimp only
    rw [experts]
    dsimp only
    obtain ⟨u, xs, p, same, read⟩ := withPacked_ok (who := who) codes scales (fun s' xs p =>
      let sums := (routerRows s' y f x (stampLayer stamp)).map (logitSum q.fmt anchor xs)
      let ls := sums.map logitOf
      let sel := selectExperts x ls
      let ws := gateWeights x.gateFn (sel.map (fun e => ls.getD e 0))
      routed (writeVals (countSums s' c (stampLayer stamp) (some len) who sums) c .b16 dst 0 (ws.map b16) p who) y.forme
        (stampLayer stamp) x cl (stampReq stamp) (stampPos stamp) sel)
    exact ⟨_, _, ((offCores_writeVals ..).trans (offCores_countSums ..)).trans same, read⟩
  obtain ⟨v, ls, off, routes⟩ := routes
  obtain ⟨kv, serve, cold, -⟩ := same_of_offCores off
  obtain ⟨z, at_, binds⟩ := coldAt_routed cold found x (stampReq stamp) (stampPos stamp) (selectExperts x ls)
  rw [routes]
  refine ⟨kv, serve, z, at_, by rw [binds.rest]; rfl,
    ⟨⟨stampReq stamp, stampPos stamp, selectExperts x ls, 0, false⟩, ?_, rfl, rfl, ?_, rfl⟩,
    fun i d here st => binds.guarded i d here (guarded_of_streaming st)⟩
  · rw [binds.rest]
    exact List.mem_append_right _ List.mem_cons_self
  · exact (topRanked_length ..).trans_le (Nat.min_le_left ..)

theorem closePredict_joins {f : Forme} {cl : ColdLayer} {x : Experts} {last : Bool} (forme : getForme s y.forme = some f)
    (found : coldAt s y.forme (stampLayer stamp + 2) = some cl) (experts : expertsAt f.image (stampLayer stamp + 2) = some x)
    (pass : x.predFrom = stampLayer stamp) (tensor : x.predTensor ≠ 0xFFFF)
    (codes : CanAccess s c q.codes (elemBytes q.fmt
      ((((declAt f.image (stampLayer stamp)).tensors.find? (fun t => t.idx == x.predTensor)).map Tensor.cols).getD 0)))
    (scales : CanAccess s c q.scales (scaleBytes q.fmt
      ((((declAt f.image (stampLayer stamp)).tensors.find? (fun t => t.idx == x.predTensor)).map Tensor.cols).getD 0))) :
    let t := closePredict s c stamp q anchor last len who
    t.kv = s.kv ∧ t.serve = s.serve ∧ ∃ z, coldAt t y.forme (stampLayer stamp + 2) = some z ∧
      (last = false → z.slots = cl.slots ∧ ∀ e ∈ cl.predicting, e ∈ z.predicting) ∧
      (last = true → z.predicting = [] ∧ (∀ e ∈ cl.predicting, e ∈ z.predicted) ∧
        ∀ (i : Nat) (d : ColdSlot), cl.slots[i]? = some d → cl.guarded d = true → z.slots[i]? = some d) := by
  intro t
  unfold t closePredict
  rw [stands]
  dsimp only
  rw [forme, found]
  dsimp only
  rw [experts]
  dsimp only
  rw [if_neg fun h => h.elim (fun other => other pass) tensor]
  obtain ⟨u, xs, p, same, read⟩ := withPacked_ok (who := who) codes scales (fun s xs _ =>
    let cold := (List.range x.routed).filter (fun e => x.cold.getD e false)
    let sums := cold.map (fun e =>
      logitSum q.fmt anchor xs (Config.tensorRow f.image (stampLayer stamp) x.predTensor e))
    let top := topRanked x.predK (cold.zip (sums.map logitOf))
    let set := (cl.predicting ++ top).dedup
    let s := countSums s c (stampLayer stamp) (some len) who sums
    if last then predicted s y.forme (stampLayer stamp + 2) x cl set
    else modCold s y.forme (stampLayer stamp + 2) (fun z => { z with predicting := set }))
  rw [read]
  dsimp only
  generalize (List.range x.routed).filter (fun e => x.cold.getD e false) = cold
  generalize cold.map (fun e => logitSum q.fmt anchor xs (Config.tensorRow f.image (stampLayer stamp) x.predTensor e)) = sums
  let set_ := (cl.predicting ++ topRanked x.predK (cold.zip (sums.map logitOf))).dedup
  have joined : ∀ e ∈ cl.predicting, e ∈ set_ := fun e he => List.mem_dedup.2 (List.mem_append_left _ he)
  obtain ⟨kv, serve, stays, -⟩ := same_of_offCores ((offCores_countSums u c (stampLayer stamp) len who sums).trans same)
  cases last with
  | true =>
    obtain ⟨z, at_, binds⟩ := coldAt_predicted stays found x set_
    refine ⟨kv, serve, z, at_, fun h => Bool.noConfusion h, fun _ => ⟨by rw [binds.rest], fun e he => ?_, fun i d here held =>
      binds.guarded i d here held⟩⟩
    rw [binds.rest]
    exact joined e he
  | false =>
    have found' : coldAt (countSums u c (stampLayer stamp) (some len) who sums) y.forme (stampLayer stamp + 2) = some cl := by
      unfold coldAt at found ⊢
      rw [stays]
      exact found
    exact ⟨kv, serve, _, coldAt_modCold found' _ fun _ h => h, fun _ => ⟨rfl, joined⟩, fun h => Bool.noConfusion h⟩

end

/-! ### SEND_DYNAMIC of a leaf or a group result -/

theorem withLanded_ok {s : State} {c : CoreRef} {as : List Nat} (who : Who) (f : State → State)
    (h : ∀ a ∈ as, CanAccess s c a (landedLen s c a)) :
    withLanded s c as who f = f (as.foldl (fun s a => meetWide s c a (landedLen s c a) who) s) := by
  unfold withLanded
  rw [List.findSome?_eq_none_iff.2 fun a ha => by rw [show accessFault s c a (landedLen s c a) = none from h a ha]; rfl]

theorem exec_sendGroup {c : CoreRef} {f : Flit} {instr : Nat} {s : State} (ready : runs s c (opCode 5 2) = true) (x : GroupSrc)
    (h : ∀ a ∈ groupSlots s f.stamp x, CanAccess s c a (landedLen s c a)) :
    let u := (groupSlots (passOp s c) f.stamp x).foldl (fun s a => meetWide s c a (landedLen s c a) (some (f.stamp, instr)))
      (passOp s c)
    exec (.sendDynamic c ⟨f, .group x, instr⟩) s = .next (sendMerged u c f (groupPacket u c f.stamp x)) := by
  have landed : ∀ a, landedLen (passOp s c) c a = landedLen s c a := fun a => by
    unfold landedLen
    rw [storeRead_passOp]
  show execSendDynamic c ⟨f, .group x, instr⟩ s = _
  rw [execSendDynamic, asOp, if_pos ready]
  refine congrArg _ (withLanded_ok _ _ fun a ha => ?_)
  rw [landed]
  exact (canAccess_passOp ..).2 (h a ha)

theorem exec_sendLeaf {c : CoreRef} {f : Flit} {instr : Nat} {s : State} (ready : runs s c (opCode 5 2) = true) (x : LeafSrc) :
    exec (.sendDynamic c ⟨f, .leaf x, instr⟩) s = .next (sendLeaf (passOp s c) c f x (some (f.stamp, instr))) := by
  show execSendDynamic c ⟨f, .leaf x, instr⟩ s = _
  rw [execSendDynamic, asOp, if_pos ready]

theorem leafSpan_passOp (s : State) (c d : CoreRef) (stamp : Word64) (x : LeafSrc) :
    leafSpan (passOp s d) c stamp x = leafSpan s c stamp x := rfl

theorem sendLeaf_leaves {s : State} {c : CoreRef} {f : Flit} {x : LeafSrc} {r : LeafSpan} {who : Who}
    (span : leafSpan s c f.stamp x = some r) (codes : CanAccess s c x.query.codes (leafCodes x))
    (scales : CanAccess s c x.query.scales (leafScales x)) (entries : CanAccess s c r.base r.bytes) :
    let t := sendLeaf s c f x who
    t.kv.galleys = s.kv.galleys ∧ t.serve = s.serve ∧
      (t.kv.leafs = s.kv.leafs ∨ (x.last = true ∧ t.kv.leafs = addOnce s.kv.leafs x.galley)) := by
  intro t
  unfold t sendLeaf
  rw [span]
  dsimp only
  rw [onAccess_ok _ _ codes, onAccess_ok _ _ scales, onAccess_ok _ _ entries]
  let i := nextIndex s c (Kind.cls Kind.reducePartial)
  let u := if i = 0 then formLeaf s c f.stamp x r who else s
  have formed : offCores u = offCores s := by
    unfold u
    split_ifs
    · unfold formLeaf
      dsimp only
      rw [offCores_countSums, offCores_meetWide, offCores_meetWide, offCores_meetWide]
    · rfl
  obtain ⟨kv, serve, -, -⟩ := same_of_offCores formed
  let m := leafPacket u c x r
  show (sendMerged (if x.last ∧ m.bytes.length ≤ 68 * (i + 1) then leafDone u x else u) c f m).kv.galleys = _ ∧
    (sendMerged (if x.last ∧ m.bytes.length ≤ 68 * (i + 1) then leafDone u x else u) c f m).serve = _ ∧
    ((sendMerged (if x.last ∧ m.bytes.length ≤ 68 * (i + 1) then leafDone u x else u) c f m).kv.leafs = _ ∨ _ ∧
      (sendMerged (if x.last ∧ m.bytes.length ≤ 68 * (i + 1) then leafDone u x else u) c f m).kv.leafs = _)
  obtain ⟨kv', serve', -, -⟩ := same_of_offCores
    (offCores_sendMerged (if x.last ∧ m.bytes.length ≤ 68 * (i + 1) then leafDone u x else u) c f m)
  rw [kv', serve']
  split_ifs with done
  · have galleys : u.kv.galleys = s.kv.galleys := by rw [kv]
    refine ⟨galleys, serve, .inr ⟨done.1, ?_⟩⟩
    rw [← kv]
    rfl
  · exact ⟨congrArg Kv.galleys kv, serve, .inl (congrArg Kv.leafs kv)⟩

/-- Settles O36. The ranking and the binding order are total orders; the operations work on cores and on the layer's
selection alone. -/
theorem attentionAndExperts : Obligations.AttentionAndExperts := by
  refine ⟨fun a dense gc picks h => participants_spec a dense gc h,
    fun n x y => ⟨mergeLeaf_empty_left n x, mergeLeaf_empty_right n, mergeLeaf_both⟩,
    fun k l apart => ⟨topRanked_length k l, topRanked_sorted k l, fun i hi => mem_of_topRanked hi,
      fun p hp q hq taken left => topRanked_first apart hp hq taken left⟩,
    fun x y => ⟨fun i h => slotToBind_unguarded h, slotToBind_empty, slotToBind_unpredicted, slotToBind_none_iff x y,
      fun e miss z h => bindExpert_binds h⟩,
    fun o s ready => ⟨fun x role can => exec_close_ordered ready role can, fun x role can => exec_close_merge ready role can,
      fun x role can => exec_close_combine ready role can, fun e y stands => ⟨?_, ?_, ?_⟩⟩,
    fun c f instr s ready => ⟨fun x h => exec_sendGroup ready x h, fun x r span codes scales entries => ?_, fun x none_ => ?_⟩⟩
  · intro q g anchor a role attn codes scales
    exact ⟨_, exec_close_scores ready role, closeScores_picks (s := passOp s o.core) stands attn
      ((canAccess_passOp ..).2 codes) ((canAccess_passOp ..).2 scales)⟩
  · intro q anchor f cl x role forme found experts cols codes scales
    exact ⟨_, exec_close_router ready role, closeRouter_routes (s := passOp s o.core) stands forme found experts
      ((canAccess_passOp ..).2 codes) ((canAccess_passOp ..).2 scales)⟩
  · intro q anchor last f cl x role forme found experts pass tensor cols codes scales
    exact ⟨_, exec_close_predict ready role, closePredict_joins (s := passOp s o.core) stands forme found experts pass tensor
      ((canAccess_passOp ..).2 codes) ((canAccess_passOp ..).2 scales)⟩
  · exact ⟨_, exec_sendLeaf ready x, sendLeaf_leaves (s := passOp s c) span ((canAccess_passOp ..).2 codes)
      ((canAccess_passOp ..).2 scales) ((canAccess_passOp ..).2 entries)⟩
  · rw [exec_sendLeaf ready x, sendLeaf, leafSpan_passOp, none_]

end Sys2Proof.Machine

end

section
/-! Expiry of conversations and of their tombstones (R339, R541; O37). -/

namespace Sys2Proof.Machine

/-! ### Galleys and the tree of prefixes do not touch the serving state -/

theorem serve_countT2 (s : State) : (countT2 s).serve = s.serve := by
  unfold countT2
  exact setF_serve ..

theorem serve_freeT2 (s : State) (a n : Nat) : (freeT2 s a n).serve = s.serve := by
  unfold freeT2
  split_ifs
  · exact serve_countT2 _
  · rfl

theorem serve_freeGalley (s : State) (g : Nat) : (freeGalley s g).serve = s.serve := by
  unfold freeGalley
  split
  · rfl
  next x _ =>
    let u := match x.t0 with
      | some a => scrubT0 s a x.bytes
      | none => s
    have first : u.serve = s.serve := by
      show (match x.t0 with | some a => scrubT0 s a x.bytes | none => s).serve = _
      split <;> rfl
    let v := match x.t1 with
      | some a => freeT1 u a x.span
      | none => u
    have second : v.serve = u.serve := by
      show (match x.t1 with | some a => freeT1 u a x.span | none => u).serve = _
      split <;> rfl
    have third : (match x.t2 with | some a => freeT2 v a x.span | none => v).serve = v.serve := by
      split
      · exact serve_freeT2 ..
      · rfl
    exact third.trans (second.trans first)

theorem serve_releaseGalley (s : State) (g : Nat) : (releaseGalley s g).serve = s.serve := by
  unfold releaseGalley
  split
  · split_ifs
    · exact serve_freeGalley ..
    · rfl
  · rfl

theorem serve_freeOwned (s : State) (o : Owner) : (freeOwned s o).serve = s.serve := by
  unfold freeOwned
  refine foldl_frame State.serve (fun s g => ?_) _ s
  split
  · split_ifs
    · exact serve_freeGalley ..
    · rfl
  · rfl

theorem serve_dropHolder (s : State) (h : Nat) : (dropHolder s h).serve = s.serve :=
  foldl_frame State.serve (f := fun s g =>
    releaseGalley (adjG s g (fun x => { x with holders := x.holders.erase h })) g) (fun _ _ => serve_releaseGalley ..) _ s

theorem serve_dropNode (s : State) (n : PrefixNode) : (dropNode s n).serve = s.serve :=
  foldl_frame State.serve (f := fun s g => releaseGalley (adjG s g (fun x => { x with tree := x.tree - 1 })) g)
    (fun _ _ => serve_releaseGalley ..) _ _

theorem serve_evict (n : Nat) (s : State) : (evict s n).serve = s.serve := by
  have counted : ∀ s, (countHeld s).serve = s.serve := fun s => by
    unfold countHeld
    exact setF_serve ..
  induction n generalizing s with
  | zero => exact counted s
  | succ n ih =>
    rw [evict]
    split_ifs
    · split
      · exact (ih _).trans (serve_dropNode ..)
      · exact counted s
    · exact counted s

/-! ### A response leaves the conversations as they were -/

/-- The conversations, the queue of expired handles and the tombstones. -/
def convBooks (s : State) : List Conv × List Nat × List (Nat × Nat × Nat) :=
  (s.serve.convs, s.serve.convFifo, s.serve.convTombs)

theorem convBooks_coalesce (s : State) (q : Nat) : convBooks (coalesce s q) = convBooks s := by
  rw [(coalesced_coalesce s q).rest]
  rfl

theorem convBooks_writeResp (s : State) (q : Nat) (r : Resp) : convBooks (writeResp s q r) = convBooks s := by
  unfold writeResp
  dsimp only
  split
  · exact convBooks_coalesce ..
  · exact convBooks_coalesce ..

theorem convBooks_drainOwed (q : Nat) (rs : List Resp) (s : State) : convBooks (drainOwed s q rs) = convBooks s := by
  induction rs generalizing s with
  | nil => rfl
  | cons r rs ih =>
    rw [drainOwed]
    split_ifs
    · exact (ih _).trans (convBooks_writeResp ..)
    · rfl

theorem convBooks_respondOne (s : State) (q : Nat) (r : Resp) : convBooks (respondOne s q r) = convBooks s := by
  unfold respondOne
  split_ifs
  · split <;> rfl
  · exact convBooks_drainOwed ..

theorem convBooks_payCancels (n : Nat) (s : State) : convBooks (payCancels n s) = convBooks s := by
  induction n generalizing s with
  | zero => rfl
  | succ n ih =>
    rw [payCancels]
    split
    · rfl
    · exact (ih _).trans (convBooks_respondOne ..)

theorem convBooks_respond (s : State) (q : Nat) (r : Resp) : convBooks (respond s q r) = convBooks s :=
  (convBooks_payCancels _ _).trans (convBooks_respondOne ..)

/-! ### Expiry -/

theorem convBooks_freeConv (s : State) (tenant handle : Nat) : convBooks (freeConv s tenant handle) =
    (s.serve.convs.filter (fun c => !(c.tenant == tenant && c.handle == handle)), s.serve.convFifo, s.serve.convTombs) := by
  have kept : (dropHolder (freeOwned s (.conv tenant handle)) (convHolder tenant handle)).serve = s.serve :=
    (serve_dropHolder ..).trans (serve_freeOwned ..)
  unfold freeConv
  dsimp only
  generalize dropHolder (freeOwned s (.conv tenant handle)) (convHolder tenant handle) = u at kept ⊢
  have evicted : (evictAll (dropConv u tenant handle)).serve = (dropConv u tenant handle).serve := serve_evict _ _
  have dropped : (dropConv u tenant handle).serve = { s.serve with
      convs := s.serve.convs.filter (fun c => !(c.tenant == tenant && c.handle == handle)) } := by
    unfold dropConv
    rw [kept]
  unfold convBooks
  rw [evicted, dropped]

theorem expireConv_unclaimed {s : State} {c : Conv} (free : c.claimed = none) : convBooks (expireConv s c) =
    (s.serve.convs.filter (fun d => !(d.tenant == c.tenant && d.handle == c.handle)), s.serve.convFifo ++ [c.handle],
      s.serve.convTombs ++ [(c.tenant, c.handle, s.lampTime)]) := by
  unfold expireConv
  rw [free]
  exact (convBooks_respond ..).trans (convBooks_freeConv ..)

theorem findConv_filtered {s : State} {l : List Conv} {tn h : Nat}
    (dropped : s.serve.convs = l.filter (fun d => !(d.tenant == tn && d.handle == h))) : findConv s tn h = none := by
  unfold findConv
  rw [dropped]
  refine List.find?_eq_none.2 fun d hd => ?_
  have kept := (List.mem_filter.1 hd).2
  rw [Bool.not_eq_true'] at kept
  exact Bool.eq_false_iff.1 kept

theorem names_of_findConv {s : State} {tn h : Nat} {c : Conv} (found : findConv s tn h = some c) : c.tenant = tn ∧ c.handle = h := by
  simpa using List.find?_some found

theorem exec_convExpiry {s : State} {tn h : Nat} {c : Conv} (found : findConv s tn h = some c) :
    exec (.convExpiry tn h) s = .next (if ttlOver s c ∧ groupUp s 1 then tryExpire s c else s) := by
  show execConvExpiry tn h s = _
  rw [execConvExpiry, found]

/-- Settles O37. A record in a ring leaves the conversations and their tombstones as they were. -/
theorem conversationExpiry : Obligations.ConversationExpiry := by
  refine ⟨fun tn h c s found free paused up over_ => ?_, fun tn h c s found stays => ?_, fun tn h s => ?_⟩
  · obtain ⟨rfl, rfl⟩ := names_of_findConv found
    have runs_ : exec (.convExpiry c.tenant c.handle) s = .next (tryExpire s c) := by
      rw [exec_convExpiry found, if_pos ⟨by simp [ttlOver, free, paused, over_], up⟩]
    refine ⟨fun room => ⟨by rw [runs_, tryExpire, if_pos room], fun unclaimed => ?_⟩, fun full => ?_⟩
    · have books := expireConv_unclaimed (s := s) unclaimed
      generalize expireConv s c = t at books
      obtain ⟨convs, rest⟩ := Prod.mk.inj books
      obtain ⟨fifo, tombs⟩ := Prod.mk.inj rest
      exact ⟨fifo, tombs, findConv_filtered convs⟩
    · rw [runs_, tryExpire, if_neg (by omega)]
  · rw [exec_convExpiry found, if_neg]
    rintro ⟨over_, -⟩
    simp only [ttlOver, Bool.and_eq_true, Bool.not_eq_true', decide_eq_true_eq] at over_
    obtain ⟨⟨free, paused⟩, late⟩ := over_
    rcases stays with h | h | h
    · simp [free] at h
    · simp [paused] at h
    · omega
  · refine ⟨_, rfl, rfl, fun x hx => ?_⟩
    refine List.mem_filter.trans ⟨fun h => ?_, fun h => ⟨hx, ?_⟩⟩
    · rintro ⟨same, same', late⟩
      have := h.2
      simp [same, same', late] at this
    · by_contra out
      simp only [Bool.not_eq_true', Bool.not_eq_false, Bool.and_eq_true, beq_iff_eq, decide_eq_true_eq] at out
      exact h ⟨out.1.1, out.1.2, out.2⟩

end Sys2Proof.Machine

end

section
/-! Load commands at their fetch (R348 to R362): a mooring whose forme's number is no forme's (O38). -/

namespace Sys2Proof.Machine

/-- UNLOAD_FORME of forme 0. -/
def unloadRecord : List Byte := 0x22 :: List.replicate 63 0

/-- Forme 0 is RESIDENT with one request QUEUED, UNLOAD_FORME waits in ring 0, and a cleared mooring without streams names
a forme so high that its report would stand in the word of forme 0's state. -/
def wideMooring : State :=
  { [(Reg.HST_PORT_STAT_UP, 1), (Reg.SRV_Q_CTL_ADMIN, 1), (Reg.SRV_Q_CTL_ENABLE, 1), (Reg.KPR_STATE, 2),
      (Reg.LOAD_F_STATE, 2)].foldl (fun s x => setF s x.1 x.2 0) State.reset with
    formes := [(0, bareForme)]
    serve := { State.reset.serve with
      streams := [(0, oneTokenStream)]
      queues := [(0, { Queue.reset 0 with sqTail := 1 })]
      moorings := [(5, ⟨0, Reg.LOAD_F_STATE.key 0 0 - Reg.SRV_F_SLOTS.key 0 0, 0, 0, 0, 0, false, true⟩)] } }

/-- The state of forme 0 in the next state, where there is one. -/
def formeStateAfter : Host.Outcome State Fault Refusal → Option Nat
  | .next t => some (getF t Reg.LOAD_F_STATE 0)
  | _ => none

theorem formeStateAfter_unload : formeStateAfter (exec (.unloadForme 0 unloadRecord) wideMooring) = some 0 := by
  decide +kernel

theorem loadCommon_wideMooring : loadCommon (fetched wideMooring 0) 0 0x22 unloadRecord = none := by decide +kernel

/-- Refutes O38: with a request QUEUED on it, the unloaded forme's index need not read UNLOADING. The request's end drops
the moorings that are cleared and reports their formes; no clause bounds a mooring's forme, and the report of one far
enough out of range falls on the state of forme 0. -/
theorem not_loadCommands : ¬ Obligations.LoadCommands := by
  intro h
  obtain ⟨t, run, unloading, -⟩ := h.2.1 0 unloadRecord bareForme wideMooring (by decide) (by decide) ⟨by decide, by decide⟩
    loadCommon_wideMooring (by decide)
  have after := formeStateAfter_unload
  rw [run] at after
  exact absurd (unloading.symm.trans (Option.some.inj after)) (by decide)

end Sys2Proof.Machine

end

section
/-! What loads, replacements and slots do once their checks pass (R265, R272, R275 to R277, R352, R356, R363, R364, R367,
R370; O39). -/

namespace Sys2Proof.Machine

/-! ### Fields of different instances -/

theorem apart_of_scaled {a b i j n : Nat} (h : a * n + 0 ≠ b * n + 0) (hi : i < n) (hj : j < n) :
    a * n + i ≠ b * n + j := by
  intro same
  have divided := congrArg (· / n) same
  have pos : 0 < n := by omega
  simp only [Nat.add_comm (_ * n), Nat.add_mul_div_right _ _ pos, Nat.div_eq_of_lt hi, Nat.div_eq_of_lt hj] at divided
  exact h (by simp_all)

/-- Fields at different places differ in all their instances. -/
theorem Fld.key_ne_of_lt {f g : Fld} {k l i j : Nat} (h : f.key 0 k ≠ g.key 0 l) (hi : i < 131072) (hj : j < 131072) :
    f.key i k ≠ g.key j l := apart_of_scaled (n := 131072) h hi hj

theorem getF_setF_apart (s : State) {f g : Fld} (v : Nat) {i j k l : Nat} (h : g.key 0 l ≠ f.key 0 k) (hi : i < 131072)
    (hj : j < 131072) : getF (setF s f v i k) g j l = getF s g j l :=
  getF_setF_ne s v (Fld.key_ne_of_lt h hj hi)

/-! ### What a response leaves as it was -/

/-- The state but what responses work on: the rings, the streams, host memory, the registers and the vectors. -/
def offAnswer (s : State) : State :=
  { s with
    regs := [], io := ⟨[], [], [], [], [], [], []⟩, mem := { s.mem with host := [] }
    serve := { s.serve with queues := [], streams := [], answered := [] } }

/-- A response changes rings, streams and host memory alone, and of the registers the count of bytes written. -/
structure Responded (s t : State) : Prop where
  rest : offAnswer t = offAnswer s
  fields : ∀ f i k, f.key i k ≠ Reg.HST_WR_BYTES.key 0 0 → getF t f i k = getF s f i k

theorem Responded.refl (s : State) : Responded s s := ⟨rfl, fun _ _ _ _ => rfl⟩

theorem Responded.trans {s t u : State} (h : Responded s t) (k : Responded t u) : Responded s u :=
  ⟨k.rest.trans h.rest, fun f i l apart => (k.fields f i l apart).trans (h.fields f i l apart)⟩

theorem responded_coalesce (s : State) (q : Nat) : Responded s (coalesce s q) := by
  have rest := (coalesced_coalesce s q).rest
  exact ⟨by rw [rest]; rfl, fun f i k _ => by rw [rest]; rfl⟩

theorem responded_hostWrite (s : State) (a : Nat) (bs : List Byte) : Responded s (hostWrite s a bs) :=
  ⟨rfl, fun _ _ _ apart => getF_setF_ne _ _ apart⟩

theorem responded_setQ (s : State) (q : Nat) (x : Queue) : Responded s (setQ s q x) := ⟨rfl, fun _ _ _ _ => rfl⟩

theorem responded_freeEntry (s : State) (e : Nat) : Responded s (freeEntry s e) := ⟨rfl, fun _ _ _ _ => rfl⟩

theorem responded_writeResp (s : State) (q : Nat) (r : Resp) : Responded s (writeResp s q r) := by
  unfold writeResp
  dsimp only
  have base := (responded_hostWrite s (getF s Reg.SRV_RQ_BASE q + 32 * (getQ s q).rqTail)
    (r.bytes.take 31 ++ [if (getQ s q).phase then 1 else 0]))
  split
  · exact ((base.trans (responded_setQ _ q _)).trans (responded_coalesce ..)).trans (responded_freeEntry ..)
  · exact (base.trans (responded_setQ _ q _)).trans (responded_coalesce ..)

theorem responded_drainOwed (q : Nat) (rs : List Resp) (s : State) : Responded s (drainOwed s q rs) := by
  induction rs generalizing s with
  | nil => exact responded_setQ ..
  | cons r rs ih =>
    rw [drainOwed]
    split_ifs
    · exact (responded_writeResp ..).trans (ih _)
    · exact responded_setQ ..

theorem responded_respondOne (s : State) (q : Nat) (r : Resp) : Responded s (respondOne s q r) := by
  unfold respondOne
  split_ifs
  · split
    · exact responded_freeEntry ..
    · exact .refl s
  · exact responded_drainOwed ..

theorem responded_payCancels (n : Nat) (s : State) : Responded s (payCancels n s) := by
  induction n generalizing s with
  | zero => exact .refl s
  | succ n ih =>
    rw [payCancels]
    split
    · exact .refl s
    next c r _ =>
      have dropped : Responded s { s with serve := { s.serve with answered := r } } := ⟨rfl, fun _ _ _ _ => rfl⟩
      exact (dropped.trans (responded_respondOne ..)).trans (ih _)

theorem responded_respond (s : State) (q : Nat) (r : Resp) : Responded s (respond s q r) :=
  (responded_respondOne s q r).trans (responded_payCancels _ _)

theorem Responded.loads {s t : State} (h : Responded s t) : t.loads = s.loads := by
  have same : (offAnswer t).loads = (offAnswer s).loads := by rw [h.rest]
  exact same

theorem Responded.formes {s t : State} (h : Responded s t) : t.formes = s.formes := by
  have same : (offAnswer t).formes = (offAnswer s).formes := by rw [h.rest]
  exact same

/-! ### Records of load commands -/

theorem formes_loadRecord (s : State) (q cid tenant fi status layers kind : Nat) :
    (loadRecord s q cid tenant fi status layers kind).formes = s.formes ∧
      (loadRecord s q cid tenant fi status layers kind).loads = s.loads := by
  unfold loadRecord
  dsimp only
  have same := responded_respond (if kind = 0x02 then setF s Reg.LOAD_STAT_LAST_STATUS status 0 else s) q
    ⟨complBytes status 0 0xFF cid fi layers
      (if kind = 0x02 then setF s Reg.LOAD_STAT_LAST_STATUS status 0 else s).lampTime 0 tenant kind, none⟩
  rw [same.formes, same.loads]
  split_ifs <;> exact ⟨rfl, rfl⟩

/-- The fields that a load command's record leaves as they were. -/
theorem getF_loadRecord (s : State) (q cid tenant fi status layers kind : Nat) {f : Fld} {i k : Nat} (small : i < 131072)
    (last : f.key 0 k ≠ Reg.LOAD_STAT_LAST_STATUS.key 0 0) (bytes : f.key 0 k ≠ Reg.HST_WR_BYTES.key 0 0) :
    getF (loadRecord s q cid tenant fi status layers kind) f i k = getF s f i k := by
  unfold loadRecord
  refine ((responded_respond ..).fields f i k (Fld.key_ne_of_lt bytes small (by omega))).trans ?_
  split_ifs
  · exact getF_setF_apart _ _ last (by omega) small
  · rfl

theorem getF_loadRecord_status (s : State) (q cid tenant fi status layers : Nat) :
    getF (loadRecord s q cid tenant fi status layers 0x02) Reg.LOAD_STAT_LAST_STATUS 0 = status % 2 ^ 16 := by
  unfold loadRecord
  refine ((responded_respond ..).fields _ _ _ (by decide)).trans ?_
  rw [if_pos rfl]
  exact getF_setF_same ..

theorem getF_loadStat (s : State) (fi phase : Nat) {f : Fld} {i k : Nat} (small : i < 131072)
    (busy : f.key 0 k ≠ Reg.LOAD_STAT_BUSY.key 0 0) (ph : f.key 0 k ≠ Reg.LOAD_STAT_PHASE.key 0 0)
    (forme : f.key 0 k ≠ Reg.LOAD_STAT_FORME.key 0 0) : getF (loadStat s fi phase) f i k = getF s f i k := by
  unfold loadStat flagF
  rw [getF_setF_apart _ _ forme (by omega) small, getF_setF_apart _ _ ph (by omega) small,
    getF_setF_apart _ _ busy (by omega) small]

theorem getF_setFState {s : State} {fi st : Nat} (index : fi < 16) (code : st < 8) :
    getF (setFState s fi st) Reg.LOAD_F_STATE fi = st := by
  unfold setFState
  rw [getF_setF_apart _ _ (by decide) (by omega) (by omega), getF_setF_same]
  exact Nat.mod_eq_of_lt code

/-! ### What placing a forme keeps of the formes -/

/-- A forme but its figures, and but the start times of its parts. -/
def Forme.core (f : Forme) : Forme :=
  { f with
    tNs := 0, cyclesD := 0, cycleNs := 0, timed := 0, minT := 0, fixedAt := 0
    parts := f.parts.map (fun p => { p with start := 0 }) }

/-- The formes stand as they were, but for their figures and start times, and so do the loads. -/
structure SameCores (s t : State) : Prop where
  formes : ∀ k, (getForme t k).map Forme.core = (getForme s k).map Forme.core
  loads : t.loads = s.loads

theorem SameCores.of_eq {s t : State} (formes : t.formes = s.formes) (loads : t.loads = s.loads) : SameCores s t :=
  ⟨fun k => congrArg (fun m => (kget? m k).map Forme.core) formes, loads⟩

theorem SameCores.refl (s : State) : SameCores s s := .of_eq rfl rfl

theorem SameCores.trans {s t u : State} (h : SameCores s t) (k : SameCores t u) : SameCores s u :=
  ⟨fun n => (k.formes n).trans (h.formes n), k.loads.trans h.loads⟩

theorem SameCores.foldl {α : Type} {f : State → α → State} (h : ∀ s a, SameCores s (f s a)) (l : List α) (s : State) :
    SameCores s (l.foldl f s) := by
  induction l generalizing s with
  | nil => exact .refl s
  | cons a l ih => exact (h s a).trans (ih _)

theorem kget?_mapVal {α : Type} (m : KMap α) (g : α → α) (k : Nat) :
    kget? (m.map (fun e => (e.1, g e.2))) k = (kget? m k).map g := by
  induction m with
  | nil => rfl
  | cons e m ih =>
    rw [List.map_cons, kget?, kget?]
    split_ifs
    · rfl
    · exact ih

/-- A forme whose parts in a chase start anew. -/
def Forme.restarted (n : Nat) (p : Placed → Bool) (t : Placed → Nat) (f : Forme) : Forme :=
  { f with parts := f.parts.map (fun x => if x.chase = n ∧ p x then { x with start := t x } else x) }

theorem core_restarted (n : Nat) (p : Placed → Bool) (t : Placed → Nat) (f : Forme) :
    (f.restarted n p t).core = f.core := by
  simp only [Forme.core, Forme.restarted, List.map_map, Forme.mk.injEq, true_and, and_true]
  refine List.map_congr_left fun x _ => ?_
  simp only [Function.comp_apply]
  split_ifs <;> rfl

theorem sameCores_startAt (s : State) (n : Nat) (p : Placed → Bool) (t : Placed → Nat) : SameCores s (startAt s n p t) := by
  refine ⟨fun k => ?_, rfl⟩
  have mapped : getForme (startAt s n p t) k = (getForme s k).map (Forme.restarted n p t) :=
    kget?_mapVal s.formes (Forme.restarted n p t) k
  rw [mapped, Option.map_map]
  exact congrArg (fun φ => (getForme s k).map φ) (funext (core_restarted n p t))

theorem sameCores_adjForme (s : State) (fi : Nat) {g : Forme → Forme} (h : ∀ f, (g f).core = f.core) :
    SameCores s (adjForme s fi g) := by
  refine ⟨fun k => ?_, rfl⟩
  by_cases same : k = fi
  · subst same
    rw [getForme_adjForme, Option.map_map]
    exact congrArg (fun φ => (getForme s k).map φ) (funext h)
  · have other : getForme (adjForme s fi g) k = getForme s k := by
      unfold getForme adjForme kadj
      split
      · exact kget?_kset_ne _ _ same
      · rfl
    rw [other]

theorem sameCores_setF (s : State) (f : Fld) (v i k : Nat) : SameCores s (setF s f v i k) := .of_eq rfl rfl

theorem sameCores_modChase (s : State) (n : Nat) (g : Chase → Chase) : SameCores s (modChase s n g) := .of_eq rfl rfl

theorem sameCores_reportForme (s : State) (fi : Nat) : SameCores s (reportForme s fi) := by
  unfold reportForme
  split
  · exact (((((((sameCores_setF ..).trans (sameCores_setF ..)).trans (sameCores_setF ..)).trans (sameCores_setF ..)).trans
      (sameCores_setF ..)).trans (sameCores_setF ..)).trans (sameCores_setF ..))
  · exact SameCores.foldl (fun s r => sameCores_setF s r 0 fi 0) _ s

/-- One stream's slot chosen again. -/
def rebindOne (fi : Nat) (f : Forme) (x : State × List Binding) (e : Nat × Stream) : State × List Binding :=
  if e.2.live && e.2.forme == fi && e.2.mooring != 0 then
    ({ x.1 with serve := { x.1.serve with streams := kset x.1.serve.streams e.1 (e.2.bindTo x.2 f) } },
      x.2 ++ [(e.2.bindTo x.2 f).binding])
  else x

theorem sameCores_rebindForme (s : State) (fi : Nat) (f : Forme) : SameCores s (rebindForme s fi f) := by
  have kept : ∀ (l : KMap Stream) (x : State × List Binding), SameCores x.1 (l.foldl (rebindOne fi f) x).1 := by
    intro l
    induction l with
    | nil => exact fun x => .refl _
    | cons e l ih =>
      refine fun x => SameCores.trans ?_ (ih _)
      unfold rebindOne
      split_ifs
      · exact .of_eq rfl rfl
      · exact .refl _
  exact kept s.serve.streams (s, [])

theorem sameCores_repriceForme (s : State) (fi : Nat) : SameCores s (repriceForme s fi) := by
  unfold repriceForme
  split
  next f _ =>
    dsimp only
    refine SameCores.trans (SameCores.trans ?_ (sameCores_rebindForme _ fi f)) (sameCores_reportForme _ fi)
    exact .of_eq rfl rfl
  · exact sameCores_reportForme s fi

theorem sameCores_refixForme (s : State) (fi : Nat) : SameCores s (refixForme s fi) := by
  unfold refixForme
  refine SameCores.trans ?_ (sameCores_repriceForme _ fi)
  exact sameCores_adjForme s fi fun _ => rfl

theorem sameCores_setClock (s : State) (n f : Nat) : SameCores s (setClock s n f) :=
  (sameCores_setF ..).trans (sameCores_setF ..)

theorem sameCores_updateLimit (s : State) (n : Nat) : SameCores s (updateLimit s n) := by
  unfold updateLimit
  dsimp only
  split_ifs
  · exact .refl s
  · exact ((sameCores_setF ..).trans (sameCores_setClock ..)).trans (SameCores.foldl sameCores_refixForme _ _)
  · exact (sameCores_setF ..).trans (SameCores.foldl sameCores_refixForme _ _)

theorem sameCores_emitFlit (s : State) (c : CoreRef) (f : Flit) : SameCores s (emitFlit s c f) := by
  unfold emitFlit
  split <;> exact .of_eq rfl rfl

theorem sameCores_loseUnits (s : State) (n : Nat) : SameCores s (loseUnits s n) := by
  unfold loseUnits
  refine SameCores.trans (SameCores.foldl (f := fun s (x : Nat × Core) => nackBuffered s (coreOfKey x.1) x.2)
    (fun s x => ?_) (s.cores.filter (fun x => keyChase x.1 == n)) s) (.of_eq rfl rfl)
  exact SameCores.foldl (fun s f => sameCores_emitFlit s _ f) _ s

theorem sameCores_claimRail (s : State) (n : Nat) : SameCores s (claimRail s n) := by
  unfold claimRail
  split_ifs
  · exact .refl s
  · refine (sameCores_loseUnits s n).trans ?_
    unfold railUp setRail
    exact (((sameCores_setF ..).trans (sameCores_setF ..)).trans (sameCores_updateLimit ..)).trans (sameCores_setClock ..)

theorem sameCores_startChases (s : State) (ps : List Placed) : SameCores s (startChases s ps) := by
  refine SameCores.foldl (fun s n => ?_) _ s
  dsimp only
  refine SameCores.trans ?_ (sameCores_modChase _ n _)
  exact (sameCores_startAt ..).trans (sameCores_claimRail ..)

theorem sameCores_openBank (s : State) (n b : Nat) : SameCores s (openBank s n b) := by
  unfold openBank
  split_ifs
  · exact .of_eq rfl rfl
  · exact .refl s

theorem sameCores_openPlaced (s : State) (img : List Byte) (ps : List Placed) : SameCores s (openPlaced s img ps) := by
  unfold openPlaced
  refine SameCores.foldl (fun s p => ?_) _ s
  dsimp only
  exact SameCores.foldl (fun s b => sameCores_openBank s p.chase b) _ s

theorem sameCores_storeWrite (s : State) (c : CoreRef) (a : Nat) (bs : List Byte) (p : Bool) :
    SameCores s (storeWrite s c a bs p) := .of_eq rfl rfl

theorem sameCores_fillRegions (l : List (CoreRef × Alloc)) (bs : List Byte) (s : State) : SameCores s (fillRegions s l bs) := by
  induction l generalizing s bs with
  | nil => exact .refl s
  | cons x l ih =>
    obtain ⟨c, a⟩ := x
    rw [fillRegions]
    exact (sameCores_storeWrite ..).trans (ih _ _)

theorem sameCores_fillParts (s : State) (img : List Byte) (ps : List Placed) : SameCores s (fillParts s img ps) :=
  SameCores.foldl (fun s _ => sameCores_fillRegions _ _ s) _ s

theorem sameCores_writeTiles (s : State) (f : Forme) (layer idx : Nat) (bs : List Byte) :
    SameCores s (writeTiles s f layer idx bs) := by
  unfold writeTiles
  exact SameCores.foldl (fun s x => sameCores_storeWrite ..) _ s

theorem sameCores_bindCold (s : State) (fi : Nat) (f : Forme) : SameCores s (bindCold s fi f) := by
  refine SameCores.foldl (fun s l => ?_) _ s
  split
  · dsimp only
    refine SameCores.trans ?_ (SameCores.foldl (fun s iy => ?_) _ _)
    · exact .of_eq rfl rfl
    · split_ifs
      · exact sameCores_writeTiles ..
      · exact .refl s
  · exact .refl s

/-! ### The state word of a forme -/

theorem getF_reportForme_state (s : State) (fi : Nat) :
    getF (reportForme s fi) Reg.LOAD_F_STATE fi = getF s Reg.LOAD_F_STATE fi := by
  unfold reportForme
  split
  · rw [getF_setF_other _ _ _ (by decide), getF_setF_other _ _ _ (by decide), getF_setF_other _ _ _ (by decide),
      getF_setF_other _ _ _ (by decide), getF_setF_other _ _ _ (by decide), getF_setF_other _ _ _ (by decide),
      getF_setF_other _ _ _ (by decide)]
  · simp only [List.foldl_cons, List.foldl_nil]
    rw [getF_setF_other _ _ _ (by decide), getF_setF_other _ _ _ (by decide), getF_setF_other _ _ _ (by decide),
      getF_setF_other _ _ _ (by decide), getF_setF_other _ _ _ (by decide), getF_setF_other _ _ _ (by decide),
      getF_setF_other _ _ _ (by decide)]

theorem regs_rebindForme (s : State) (fi : Nat) (f : Forme) : (rebindForme s fi f).regs = s.regs := by
  have kept : ∀ (l : KMap Stream) (x : State × List Binding), (l.foldl (rebindOne fi f) x).1.regs = x.1.regs := by
    intro l
    induction l with
    | nil => exact fun _ => rfl
    | cons e l ih =>
      refine fun x => (ih _).trans ?_
      unfold rebindOne
      split_ifs <;> rfl
  exact kept s.serve.streams (s, [])

theorem getF_refixForme_state (s : State) (fi : Nat) :
    getF (refixForme s fi) Reg.LOAD_F_STATE fi = getF s Reg.LOAD_F_STATE fi := by
  unfold refixForme repriceForme
  split
  · dsimp only
    refine (getF_reportForme_state _ fi).trans ?_
    exact getF_congr (regs_rebindForme ..) _ _ _
  · exact getF_reportForme_state _ fi

/-! ### Placing a forme -/

/-- A forme just placed. -/
def freshForme (img ident : List Byte) (p : Placement) (keepHost : Option (Nat × Nat)) (now : Nat) : Forme :=
  { image := img, ident := ident, layouts := p.layouts, parts := p.parts, gen := 1, vocab := Config.vocabulary img
    tNs := 0, cyclesD := 0, cycleNs := 0, fixedAt := now, timed := 0, minT := 0, waves := 0, lastWave := none, wave := []
    repl := none, replWait := [], unload := none, keepHost := keepHost
    quarantined := [], rewrite := [], lastAudit := (List.range (imgLayers img)).map (fun l => (l, now)) }

theorem sameCores_installForme (s : State) (fi : Nat) (img ident : List Byte) (p : Placement) (keepHost : Option (Nat × Nat)) :
    SameCores (setForme s fi (freshForme img ident p keepHost s.lampTime)) (installForme s fi img ident p keepHost) := by
  unfold installForme
  dsimp only
  refine SameCores.trans ?_ (sameCores_refixForme _ fi)
  unfold setFState
  refine SameCores.trans (SameCores.trans (SameCores.trans ?_ (sameCores_setF ..)) (sameCores_setF ..)) (sameCores_setF ..)
  refine SameCores.trans ?_ (sameCores_startChases _ p.parts)
  refine SameCores.trans ?_ (sameCores_bindCold _ fi _)
  refine SameCores.trans ?_ (sameCores_fillParts _ img p.parts)
  exact sameCores_openPlaced _ img p.parts

theorem getF_installForme_state (s : State) {fi : Nat} (index : fi < 16) (img ident : List Byte) (p : Placement)
    (keepHost : Option (Nat × Nat)) : getF (installForme s fi img ident p keepHost) Reg.LOAD_F_STATE fi = 2 := by
  unfold installForme
  exact (getF_refixForme_state _ fi).trans (getF_setFState index (by omega))

theorem getF_loadProgress (s : State) (total done bytes : Nat) {f : Fld} {i k : Nat} (small : i < 131072)
    (ht : f.key 0 k ≠ Reg.LOAD_PROGRESS_LAYERS_TOTAL.key 0 0) (hd : f.key 0 k ≠ Reg.LOAD_PROGRESS_LAYERS_DONE.key 0 0)
    (hb : f.key 0 k ≠ Reg.LOAD_BYTES.key 0 0) : getF (loadProgress s total done bytes) f i k = getF s f i k := by
  unfold loadProgress
  rw [getF_setF_apart _ _ hb (by omega) small, getF_setF_apart _ _ hd (by omega) small, getF_setF_apart _ _ ht (by omega) small]

theorem sameCores_loadStat (s : State) (fi phase : Nat) : SameCores s (loadStat s fi phase) := by
  unfold loadStat flagF
  exact ((sameCores_setF ..).trans (sameCores_setF ..)).trans (sameCores_setF ..)

theorem sameCores_loadProgress (s : State) (total done bytes : Nat) : SameCores s (loadProgress s total done bytes) := by
  unfold loadProgress
  exact ((sameCores_setF ..).trans (sameCores_setF ..)).trans (sameCores_setF ..)

theorem sameCores_finishLoad (s : State) (l : Load) (status layers : Nat) : SameCores s (finishLoad s l status layers) := by
  obtain ⟨formes, loads⟩ := formes_loadRecord s l.queue (cidOf l.cmd) (tenantOf l.cmd) (ldForme l.cmd) status layers 0x02
  exact .of_eq formes loads

/-- The state but its registers. -/
def offRegs (s : State) : State := { s with regs := [] }

theorem offRegs_setF (s : State) (f : Fld) (v i k : Nat) : offRegs (setF s f v i k) = offRegs s := rfl

theorem offRegs_loadStat (s : State) (fi phase : Nat) : offRegs (loadStat s fi phase) = offRegs s := by
  unfold loadStat flagF
  rw [offRegs_setF, offRegs_setF, offRegs_setF]

theorem offRegs_setFState (s : State) (fi st : Nat) : offRegs (setFState s fi st) = offRegs s := by
  unfold setFState
  rw [offRegs_setF, offRegs_setF]

theorem same_of_offRegs {s t : State} (h : offRegs t = offRegs s) :
    t.formes = s.formes ∧ t.loads = s.loads ∧ t.mem = s.mem ∧ t.serve = s.serve := by
  have formes : (offRegs t).formes = (offRegs s).formes := by rw [h]
  have loads : (offRegs t).loads = (offRegs s).loads := by rw [h]
  have mem : (offRegs t).mem = (offRegs s).mem := by rw [h]
  have serve : (offRegs t).serve = (offRegs s).serve := by rw [h]
  exact ⟨formes, loads, mem, serve⟩

theorem placeForme_placed {l : Load} {s : State} {p : Placement} (index : ldForme l.cmd < 16)
    (placed : impose (dropLoad s l) (ldForme l.cmd) l.image = .ok p) :
    let fi := ldForme l.cmd
    let t := placeForme s l
    getF t Reg.LOAD_F_STATE fi = 2 ∧ getF t Reg.LOAD_STAT_LAST_STATUS 0 = Sts.OK ∧ t.loads = (dropLoad s l).loads ∧
    ∃ f, getForme t fi = some f ∧ f.image = l.image ∧ f.ident = identity l.image ∧ f.gen = 1 ∧ f.layouts = p.layouts ∧
      f.parts.map (fun x => { x with start := 0 }) = p.parts.map (fun x => { x with start := 0 }) ∧ f.repl = none := by
  intro fi t
  let u := dropLoad s l
  let v := installForme u fi l.image (identity l.image) p (ldHost l.cmd)
  let n := imgLayers l.image
  have steps : t = finishLoad (loadStat (loadProgress v n n l.image.length) fi 0) l Sts.OK n := by
    unfold t placeForme
    dsimp only
    rw [placed]
  have cores : SameCores (setForme u fi (freshForme l.image (identity l.image) p (ldHost l.cmd) u.lampTime)) t := by
    rw [steps]
    exact (((sameCores_installForme ..).trans (sameCores_loadProgress ..)).trans (sameCores_loadStat ..)).trans
      (sameCores_finishLoad ..)
  refine ⟨?_, ?_, cores.loads, ?_⟩
  · rw [steps, finishLoad, getF_loadRecord _ _ _ _ _ _ _ _ (by omega) (by decide) (by decide),
      getF_loadStat _ _ _ (by omega) (by decide) (by decide) (by decide),
      getF_loadProgress _ _ _ _ (by omega) (by decide) (by decide) (by decide)]
    exact getF_installForme_state u index ..
  · rw [steps, finishLoad, getF_loadRecord_status]
    rfl
  · have at_ := cores.formes fi
    rw [show getForme (setForme u fi _) fi = some _ from kget?_kset_same .., Option.map_some] at at_
    obtain ⟨f, held, core⟩ := Option.map_eq_some_iff.1 at_
    obtain ⟨image, ident, layouts, parts, gen, -, -, -, -, -, -, -, -, -, -, repl, -⟩ := Forme.mk.inj core
    exact ⟨f, held, image, ident, gen, layouts, parts, repl⟩

theorem placeForme_refused {l : Load} {s : State} {r : Refuse} (refused : impose (dropLoad s l) (ldForme l.cmd) l.image = .error r)
    (final : (r.check ≠ 21 ∧ r.check ≠ 22) ∨ onF s Reg.RST_STAGE_KINDLE_DONE 0 = true) : placeForme s l =
      refuseLoad (loadStat (setFState (dropLoad s l) (ldForme l.cmd) 0) (ldForme l.cmd) 0) l r := by
  unfold placeForme
  dsimp only
  rw [refused]
  refine if_neg ?_
  rintro ⟨room, kindling⟩
  rw [Bool.not_eq_true'] at kindling
  have kindles : onF s Reg.RST_STAGE_KINDLE_DONE 0 = false := kindling
  rcases final with ⟨a, b⟩ | done
  · exact room.elim a b
  · simp [kindles] at done

theorem placeForme_waits {l : Load} {s : State} {r : Refuse} (index : ldForme l.cmd < 16)
    (refused : impose (dropLoad s l) (ldForme l.cmd) l.image = .error r) (room : r.check = 21 ∨ r.check = 22)
    (kindles : onF s Reg.RST_STAGE_KINDLE_DONE 0 = false) :
    (placeForme s l).loads = (dropLoad s l).loads ++ [{ l with capacity := true }] ∧
      getF (placeForme s l) Reg.LOAD_F_STATE (ldForme l.cmd) = 1 ∧ (placeForme s l).formes = s.formes := by
  have waits_ : placeForme s l = loadStat (setFState { dropLoad s l with
      loads := (dropLoad s l).loads ++ [{ l with capacity := true }] } (ldForme l.cmd) 1) (ldForme l.cmd) 6 := by
    unfold placeForme
    dsimp only
    rw [refused]
    refine if_pos ⟨room, ?_⟩
    rw [show onF (dropLoad s l) Reg.RST_STAGE_KINDLE_DONE 0 = false from kindles]
    rfl
  rw [waits_]
  obtain ⟨formes, loads, -⟩ := same_of_offRegs ((offRegs_loadStat _ (ldForme l.cmd) 6).trans (offRegs_setFState
    { dropLoad s l with loads := (dropLoad s l).loads ++ [{ l with capacity := true }] } (ldForme l.cmd) 1))
  refine ⟨loads, ?_, formes⟩
  rw [getF_loadStat _ _ _ (by omega) (by decide) (by decide) (by decide)]
  exact getF_setFState index (by omega)

/-! ### REPLACE -/

theorem getForme_setForme (s : State) (fi : Nat) (f : Forme) : getForme (setForme s fi f) fi = some f := kget?_kset_same ..

theorem settleFState_eq {s : State} {fi : Nat} {f : Forme} (held : getForme s fi = some f) : settleFState s fi =
    setFState s fi (if f.quarantined ≠ [] then 4 else if f.repl.isSome then 3 else 2) := by
  unfold settleFState
  rw [held]

theorem replaceStart_first {l : Load} {s : State} {f : Forme} (index : ldForme l.cmd < 16)
    (held : getForme s (ldForme l.cmd) = some f) (none_ : f.repl = none) :
    let fi := ldForme l.cmd
    let t := replaceStart s l
    getForme t fi = some { f with repl := some (replOf l f) } ∧
      getF t Reg.LOAD_F_STATE fi = (if f.quarantined = [] then 3 else 4) ∧ AgreeBut s.formes t.formes [fi] ∧
      t.mem = s.mem ∧ t.serve = s.serve := by
  intro fi t
  have starts : t = loadStat (settleFState (setForme s fi { f with repl := some (replOf l f) }) fi) fi 1 := by
    unfold t replaceStart
    dsimp only
    rw [held]
    dsimp only
    rw [none_]
  rw [starts, settleFState_eq (getForme_setForme s fi _)]
  let u := setForme s fi { f with repl := some (replOf l f) }
  obtain ⟨formes, -, mem, serve⟩ := same_of_offRegs ((offRegs_loadStat (setFState u fi _) fi 1).trans (offRegs_setFState u fi
    (if f.quarantined ≠ [] then 4 else if (some (replOf l f)).isSome then 3 else 2)))
  refine ⟨(congrArg (kget? · fi) formes).trans (getForme_setForme s fi _), ?_, fun k out => ?_, mem, serve⟩
  on_goal 2 => exact (congrArg (kget? · k) formes).trans (kget?_kset_ne _ _ (by simpa using out))
  rw [getF_loadStat _ _ _ (by omega) (by decide) (by decide) (by decide)]
  have code : (if f.quarantined ≠ [] then 4 else if (some (replOf l f)).isSome then 3 else 2) =
      (if f.quarantined = [] then 3 else 4 : Nat) := by
    by_cases clean : f.quarantined = [] <;> simp [clean]
  dsimp only
  rw [code]
  exact getF_setFState index (by split_ifs <;> omega)

theorem replaceStart_waits {l : Load} {s : State} {f : Forme} {old : Repl} (held : getForme s (ldForme l.cmd) = some f)
    (running : f.repl = some old) (busy : old.swapping = true ∨ (old.staged = true ∧ old.policy = 1)) :
    replaceStart s l = setForme s (ldForme l.cmd) { f with replWait := f.replWait ++ [replOf l f] } := by
  unfold replaceStart
  dsimp only
  rw [held]
  dsimp only
  rw [running]
  refine if_pos ?_
  rcases busy with h | ⟨h, k⟩
  · simp [h]
  · simp [h, k]

theorem replaceStart_takes {l : Load} {s : State} {f : Forme} {old : Repl} (held : getForme s (ldForme l.cmd) = some f)
    (running : f.repl = some old) (still : old.swapping = false) (early : old.staged = false) :
    ∃ g, getForme (replaceStart s l) (ldForme l.cmd) = some g ∧
      g = { f with repl := some (if old.ident = (replOf l f).ident then { replOf l f with staged := false } else replOf l f) } := by
  refine ⟨_, ?_, rfl⟩
  unfold replaceStart
  dsimp only
  rw [held]
  dsimp only
  rw [running]
  dsimp only
  rw [still, early, if_neg (by simp)]
  by_cases same : old.ident = (replOf l f).ident
  · rw [if_pos same, if_pos same, if_neg Bool.false_ne_true]
    exact getForme_setForme ..
  · rw [if_neg same, if_neg same]
    obtain ⟨formes, -⟩ := same_of_offRegs (offRegs_loadStat (setForme (loadRecord s old.queue old.cid 0 (ldForme l.cmd)
      Sts.CANCELLED 0 0x02) (ldForme l.cmd) { f with repl := some (replOf l f) }) (ldForme l.cmd) 1)
    exact (congrArg (kget? · (ldForme l.cmd)) formes).trans (getForme_setForme ..)

/-! ### Slots -/

/-- The state but its stores and registers. -/
def offStore (s : State) : State := { s with regs := [], mem := State.reset.mem }

theorem offStore_storeWrite (s : State) (c : CoreRef) (a : Nat) (bs : List Byte) (p : Bool) :
    offStore (storeWrite s c a bs p) = offStore s := rfl

theorem offStore_fillRegions (l : List (CoreRef × Alloc)) (bs : List Byte) (s : State) :
    offStore (fillRegions s l bs) = offStore s := by
  induction l generalizing s bs with
  | nil => rfl
  | cons x l ih =>
    obtain ⟨c, a⟩ := x
    rw [fillRegions]
    exact (ih _ _).trans (offStore_storeWrite ..)

theorem offStore_writeTiles (s : State) (f : Forme) (layer idx : Nat) (bs : List Byte) :
    offStore (writeTiles s f layer idx bs) = offStore s := by
  unfold writeTiles
  exact foldl_frame offStore (fun s x => offStore_storeWrite ..) _ s

theorem offStore_fillSlot (s : State) (x : Slot) (zero : Bool) : offStore (fillSlot s x zero) = offStore s := by
  unfold fillSlot
  split
  · refine foldl_frame offStore (fun s lb => ?_) _ s
    dsimp only
    refine foldl_frame offStore (fun s ip => ?_) _ s
    split_ifs
    · exact offStore_fillRegions ..
    · exact offStore_fillRegions ..
    · exact offStore_writeTiles ..
    · exact offStore_fillRegions ..
  · rfl

theorem offStore_loadStat (s : State) (fi phase : Nat) : offStore (loadStat s fi phase) = offStore s :=
  congrArg (fun u : State => { u with mem := State.reset.mem }) (offRegs_loadStat s fi phase)

theorem kfree_none {α : Type} {m : KMap α} {i n : Nat} (h : kfree m i n = none) (j : Nat) (low : i ≤ j) (high : j < i + n) :
    kget? m j ≠ none := by
  induction n generalizing i with
  | zero => omega
  | succ n ih =>
    rw [kfree] at h
    split_ifs at h with free
    rcases Nat.eq_or_lt_of_le low with rfl | later
    · exact fun none_ => free (by rw [none_]; rfl)
    · exact ih h later (by omega)

theorem exists_kfree {α : Type} (m : KMap α) : ∃ k, kfree m 0 (m.length + 1) = some k := by
  refine Option.ne_none_iff_exists'.1 fun none_ => ?_
  have inside : List.range (m.length + 1) ⊆ m.map (·.1) := fun j hj => by
    obtain ⟨v, held⟩ := Option.ne_none_iff_exists'.1 (kfree_none none_ j (Nat.zero_le j)
      (by have := List.mem_range.1 hj; omega))
    exact List.mem_map_of_mem (f := Prod.fst) (mem_of_kget? held)
  have fits := (List.subperm_of_subset List.nodup_range inside).length_le
  rw [List.length_range, List.length_map] at fits
  omega

/-- What a load becomes in a slot. -/
def loadedSlot (l : Load) (variant : Bool) (need : List (Nat × Nat)) : Slot :=
  { st := .loading, isVariant := variant, forme := ldForme l.cmd, tenant := tenantOf l.cmd
    number := if variant then 0 else ldOverlay l.cmd, version := imgVersion l.image, pub := ldPublic l.cmd
    need := need, image := l.image, pins := 0, queue := l.queue, cid := cidOf l.cmd }

theorem takeSlot_taken (l : Load) (variant : Bool) (need : List (Nat × Nat)) (s : State) :
    ∃ k, kget? s.slots k = none ∧ (takeSlot s l variant need).slots = kset s.slots k (loadedSlot l variant need) ∧
      (takeSlot s l variant need).formes = s.formes ∧ (takeSlot s l variant need).loads = s.loads ∧
      (takeSlot s l variant need).serve = s.serve := by
  obtain ⟨k, free⟩ := exists_kfree s.slots
  let u : State := { s with slots := kset s.slots k (loadedSlot l variant need) }
  have same : offStore (takeSlot s l variant need) = offStore u := by
    unfold takeSlot
    dsimp only
    rw [free, offStore_loadStat, offStore_fillSlot]
    rfl
  generalize takeSlot s l variant need = t at same ⊢
  have slots : (offStore t).slots = (offStore u).slots := by rw [same]
  have formes : (offStore t).formes = (offStore u).formes := by rw [same]
  have loads : (offStore t).loads = (offStore u).loads := by rw [same]
  have serve : (offStore t).serve = (offStore u).serve := by rw [same]
  exact ⟨k, (kfree_spec free).2.2, slots, formes, loads, serve⟩

/-! ### A load as it runs -/

theorem loadRun_forme {l : Load} (s : State) (kind : ldKind l.cmd = 0x20) : loadRun s l = syncGolden (formeLoad s l) := by
  rw [loadRun, if_pos kind]

theorem loadRun_replace {l : Load} (s : State) (kind : ldKind l.cmd = 0x21) :
    loadRun s l = syncGolden (replaceLoad s l) := by
  rw [loadRun, if_neg (by rw [kind]; decide), if_pos kind]

section
variable {l : Load} {s u : State} (read : u = countRead (dropLoad s l) l (headBytes l.image))
include read

theorem formeLoad_refused {g : State → State} (refused : headRefusal u l = some g) : formeLoad s l = g (freeIndex u l) := by
  subst read
  unfold formeLoad
  dsimp only
  rw [refused]

theorem replaceLoad_refused {g : State → State} (refused : headRefusal u l = some g) : replaceLoad s l = g u := by
  subst read
  unfold replaceLoad
  dsimp only
  rw [refused]

theorem slotLoad_refused {r : Refuse} (refused : checksEarly u.keys l.image = some r) : slotLoad s l = refuseLoad u l r := by
  subst read
  unfold slotLoad
  dsimp only
  rw [refused]

variable (sound : headRefusal u l = none)
include sound

theorem formeLoad_twin {j : Nat} {f : Forme}
    (twin : u.formes.find? (fun f => f.2.ident == identity l.image && resident u f.1) = some (j, f))
    (single : ldReplica l.cmd = false) : formeLoad s l =
      loadRecord (freeIndex u l) l.queue (cidOf l.cmd) 0 j Sts.ALREADY_RESIDENT 0 0x02 := by
  subst read
  unfold formeLoad
  dsimp only
  rw [sound]
  dsimp only
  rw [twin, single]

theorem replaceLoad_checked {f : Forme} (held : getForme u (ldForme l.cmd) = some f) :
    replaceLoad s l = if !shapeEqual f.image l.image then finishLoad u l Sts.LOAD_SHAPE 0
      else if !stackRoom u (replOf l f).newBytes then finishLoad u l Sts.STACK_FULL 0
      else replaceStart (countRead u l ((replOf l f).readBytes - headBytes l.image)) l := by
  subst read
  unfold replaceLoad
  dsimp only
  rw [sound, held]

variable (alone : u.formes.find? (fun f => f.2.ident == identity l.image && resident u f.1) = none)
include alone

theorem formeLoad_full (full : stackRoom u (goldenSize l.image) = false) :
    formeLoad s l = finishLoad (freeIndex u l) l Sts.STACK_FULL 0 := by
  subst read
  unfold formeLoad
  dsimp only
  rw [sound]
  dsimp only
  rw [alone]
  dsimp only
  rw [full]
  exact if_pos rfl

theorem formeLoad_checked (room : stackRoom u (goldenSize l.image) = true) :
    formeLoad s l = ((checksStream l.image).or (checksForme l.image)).elim
      (placeForme (if l.fromLink then countRead u l (l.image.length - headBytes l.image)
        else forwardImage (countRead u l (l.image.length - headBytes l.image)) l) l)
      (fun r => refuseLoad (freeIndex (countRead u l (l.image.length - headBytes l.image)) l) l r) := by
  have either : (checksStream l.image <|> checksForme l.image) = (checksStream l.image).or (checksForme l.image) := by
    cases checksStream l.image <;> rfl
  subst read
  unfold formeLoad
  dsimp only
  rw [sound]
  dsimp only
  rw [alone]
  dsimp only
  rw [room, Bool.not_true, if_neg Bool.false_ne_true, either]
  generalize (checksStream l.image).or (checksForme l.image) = refusal
  cases refusal <;> rfl

end

/-- Settles O39. Placing a forme keeps it but for its figures and start times; every refusal is a branch of the checks. -/
theorem loadEffects : Obligations.LoadEffects := by
  refine ⟨fun l s index => ⟨fun p placed => placeForme_placed index placed, fun r refused =>
      ⟨fun final => placeForme_refused refused final, fun room kindles => placeForme_waits index refused room kindles⟩⟩,
    fun l f s index held => ⟨fun none_ => replaceStart_first index held none_,
      fun old running busy => replaceStart_waits held running busy,
      fun old running still early => replaceStart_takes held running still early⟩,
    fun l variant need s => ?_, fun l s => ⟨fun kind => ⟨fun g refused => ?_, fun sound => ⟨fun j f twin single => ?_,
      fun alone => ⟨fun full => ?_, fun room => ?_⟩⟩⟩, fun kind => ⟨fun g refused => ?_, fun sound f held => ⟨fun shape => ?_,
        fun shape full => ?_, fun shape room => ?_⟩⟩, fun forme replace r refused => ?_⟩⟩
  · obtain ⟨k, free, slots, formes, loads, serve⟩ := takeSlot_taken l variant need s
    refine ⟨k, loadedSlot l variant need, free, ?_, fun j out => ?_, rfl, rfl, rfl, rfl, rfl, rfl, rfl, rfl, rfl, formes,
      loads, serve⟩
    · rw [slots]
      exact kget?_kset_same ..
    · rw [slots]
      exact kget?_kset_ne _ _ (by simpa using out)
  · rw [loadRun_forme s kind, formeLoad_refused rfl refused]
  · rw [loadRun_forme s kind, formeLoad_twin rfl sound twin single]
  · rw [loadRun_forme s kind, formeLoad_full rfl sound alone full]
  · rw [loadRun_forme s kind, formeLoad_checked rfl sound alone room]
    generalize (checksStream l.image).or (checksForme l.image) = refusal
    cases refusal <;> rfl
  · rw [loadRun_replace s kind, replaceLoad_refused rfl refused]
  · rw [loadRun_replace s kind, replaceLoad_checked rfl sound held, shape, if_pos (by rfl)]
  · rw [loadRun_replace s kind, replaceLoad_checked rfl sound held, shape, full, if_neg (by simp), if_pos (by rfl)]
  · rw [loadRun_replace s kind, replaceLoad_checked rfl sound held, shape, room, if_neg (by simp), if_neg (by simp)]
  · rw [loadRun, if_neg forme, if_neg replace, slotLoad_refused rfl refused]

end Sys2Proof.Machine

end

section
/-! The steps of a replacement, and its end (R363 to R370; O40). -/

namespace Sys2Proof.Machine

section
variable {fi : FormeId} {f : Forme} {r : Repl} {s : State} (held : getForme s fi.val = some f) (running : f.repl = some r)
include held running

theorem exec_loadStaged (early : r.staged = false) : exec (.loadStaged fi) s = .next
    (((checksStream r.image).or (checksForme r.image)).elim (stagedReplace s fi.val r) fun b =>
      nextReplace (loadRecord (logFault s (locItem b.code b.loc)) r.queue r.cid 0 fi.val b.status 0 0x02) fi.val) := by
  show execLoadStaged fi s = _
  unfold execLoadStaged
  rw [held]
  dsimp only
  rw [running]
  dsimp only
  rw [early, if_neg Bool.false_ne_true]
  generalize checksStream r.image = first_
  generalize checksForme r.image = second
  cases first_ with
  | some b => simp only [Option.some_or, Option.elim_some]
  | none => cases second <;> simp only [Option.none_or, Option.elim_some, Option.elim_none]

theorem exec_swapBegin : exec (.swapBegin fi) s = .next
    (if r.staged ∧ !r.swapping ∧ swapReady s fi.val r ∧ !recovering s fi.val then
      if r.changed = [] then
        finishSwap (setForme s fi.val { f with repl := some { r with swapping := true } }) fi.val
          { f with repl := some { r with swapping := true } } { r with swapping := true }
      else loadStat (loadProgress (setForme s fi.val { f with repl := some { r with swapping := true } })
        r.changed.length 0 r.image.length) fi.val 5
    else s) := by
  show execSwapBegin fi s = _
  unfold execSwapBegin
  rw [held]
  dsimp only
  rw [running]

theorem exec_swapLayerWritten (ok : Bool) {l : Nat} (next_ : r.changed[r.written]? = some l) (swaps : r.swapping = true)
    (calm : recovering s fi.val = false) : exec (.swapLayerWritten fi ok) s = .next
    (if ok then
      let r' := { r with written := r.written + 1 }
      let f' := { f with repl := some r' }
      let s' := loadProgress (setForme (writeLayer s fi.val l f r.image) fi.val f') r.changed.length (r.written + 1)
        r.image.length
      if r.written + 1 = r.changed.length then finishSwap s' fi.val f' r' else s'
    else rollBack s fi.val f r) := by
  show execSwapLayerWritten fi ok s = _
  unfold execSwapLayerWritten
  rw [held]
  dsimp only
  rw [running]
  dsimp only
  rw [next_]
  dsimp only
  rw [swaps, calm, if_neg (by simp)]

theorem exec_swapLayerWritten_recovering (ok : Bool) (busy : recovering s fi.val = true) :
    exec (.swapLayerWritten fi ok) s = .next s := by
  show execSwapLayerWritten fi ok s = _
  unfold execSwapLayerWritten
  rw [held]
  dsimp only
  rw [running]
  dsimp only
  split
  · rw [busy, Bool.or_true, if_pos rfl]
  · rfl

end

/-! ### The end of a swap -/

/-- The state but the golden copies and the stack tier. -/
def offGolden (s : State) : State :=
  { s with golden := [], mem := { s.mem with stack := [], stackErrs := [], stackPoison := [] } }

theorem offGolden_addGolden (s : State) (w : GoldenWant) : offGolden (addGolden s w) = offGolden s := by
  unfold addGolden
  split_ifs
  · rfl
  · refine foldl_frame offGolden (fun s x => ?_) _ s
    unfold addPiece
    split <;> rfl

theorem offGolden_syncGolden (s : State) : offGolden (syncGolden s) = offGolden s := by
  unfold syncGolden
  dsimp only
  rw [foldl_frame offGolden offGolden_addGolden, foldl_frame offGolden]
  · rfl
  · exact fun _ _ => rfl

theorem same_of_offGolden {s t : State} (h : offGolden t = offGolden s) :
    t.formes = s.formes ∧ t.regs = s.regs ∧ t.mem.store = s.mem.store := by
  have formes : (offGolden t).formes = (offGolden s).formes := by rw [h]
  have regs : (offGolden t).regs = (offGolden s).regs := by rw [h]
  have store : (offGolden t).mem.store = (offGolden s).mem.store := by rw [h]
  exact ⟨formes, regs, store⟩

theorem liftBarrier_leaves (s : State) (fi : Nat) : (liftBarrier s fi).formes = s.formes ∧ (liftBarrier s fi).regs = s.regs ∧
    (liftBarrier s fi).mem = s.mem := by
  unfold liftBarrier
  split_ifs <;> exact ⟨rfl, rfl, rfl⟩

theorem offRegs_reportForme (s : State) (fi : Nat) : offRegs (reportForme s fi) = offRegs s := by
  unfold reportForme
  split
  · simp only [offRegs_setF]
  · exact foldl_frame offRegs (fun s f => offRegs_setF s f 0 fi 0) _ s

theorem offRegs_loadProgress (s : State) (total done bytes : Nat) : offRegs (loadProgress s total done bytes) = offRegs s := by
  unfold loadProgress
  rw [offRegs_setF, offRegs_setF, offRegs_setF]

/-- A load command's record leaves the formes and the stores as they were. -/
theorem loadRecord_leaves (s : State) (q cid tenant fi status layers kind : Nat) :
    (loadRecord s q cid tenant fi status layers kind).formes = s.formes ∧
      (loadRecord s q cid tenant fi status layers kind).mem.store = s.mem.store := by
  refine ⟨(formes_loadRecord ..).1, ?_⟩
  unfold loadRecord
  dsimp only
  have rest := (responded_respond (if kind = 0x02 then setF s Reg.LOAD_STAT_LAST_STATUS status 0 else s) q
    ⟨complBytes status 0 0xFF cid fi layers
      (if kind = 0x02 then setF s Reg.LOAD_STAT_LAST_STATUS status 0 else s).lampTime 0 tenant kind, none⟩).rest
  generalize respond _ _ _ = t at rest ⊢
  have store : (offAnswer t).mem.store = (offAnswer (if kind = 0x02 then setF s Reg.LOAD_STAT_LAST_STATUS status 0 else s)).mem.store := by
    rw [rest]
  refine Eq.trans store ?_
  split_ifs <;> rfl

/-- The forme once its replacement is current. -/
def swappedForme (f : Forme) (r : Repl) : Forme :=
  { f with image := r.image, ident := r.ident, gen := f.gen + 1, vocab := Config.vocabulary r.image, keepHost := r.keepHost }

/-- The state at the end of a swap, as the next replacement is looked for. -/
def swapReported (s : State) (fi : Nat) (f : Forme) (r : Repl) : State :=
  let s := addF (setForme s fi (swappedForme f r)) Reg.LOAD_F_GEN 1 fi
  let s := mapForme s fi (fun x =>
    if x.ident = r.ident then x
    else { x with ident := r.ident, gen := f.gen + 1, crossed := true, everCrossed := true })
  let s := reportForme s fi
  let n := r.changed.length
  loadRecord (loadProgress s n n r.image.length) r.queue r.cid 0 fi Sts.OK n 0x02

theorem swapReported_leaves (s : State) (fi : Nat) (f : Forme) (r : Repl) :
    (swapReported s fi f r).formes = kset s.formes fi (swappedForme f r) ∧
      (swapReported s fi f r).mem.store = s.mem.store := by
  unfold swapReported
  dsimp only
  let u := mapForme (addF (setForme s fi (swappedForme f r)) Reg.LOAD_F_GEN 1 fi) fi (fun x =>
    if x.ident = r.ident then x
    else { x with ident := r.ident, gen := f.gen + 1, crossed := true, everCrossed := true })
  obtain ⟨formes, store⟩ := loadRecord_leaves (loadProgress (reportForme u fi) r.changed.length r.changed.length r.image.length)
    r.queue r.cid 0 fi Sts.OK r.changed.length 0x02
  obtain ⟨formes', -, mem', -⟩ := same_of_offRegs ((offRegs_loadProgress (reportForme u fi) r.changed.length r.changed.length
    r.image.length).trans (offRegs_reportForme u fi))
  exact ⟨formes.trans formes', store.trans (by rw [mem']; rfl)⟩

theorem finishSwap_eq (s : State) (fi : Nat) (f : Forme) (r : Repl) :
    finishSwap s fi f r = liftBarrier (nextReplace (swapReported s fi f r) fi) fi := rfl

theorem nextReplace_last {s : State} {fi : Nat} {f : Forme} (held : getForme s fi = some f) (none_ : f.replWait = []) :
    nextReplace s fi = syncGolden (loadStat (settleFState (setForme s fi { f with repl := none }) fi) fi 0) := by
  unfold nextReplace
  rw [held]
  dsimp only
  rw [none_]

theorem finishSwap_current {fi : Nat} {f : Forme} {r : Repl} {s : State} (index : fi < 16) (none_ : f.replWait = []) :
    let t := finishSwap s fi f r
    ∃ g, getForme t fi = some g ∧ g.image = r.image ∧ g.ident = r.ident ∧ g.gen = f.gen + 1 ∧ g.parts = f.parts ∧
      g.repl = none ∧ getF t Reg.LOAD_F_STATE fi = (if f.quarantined = [] then 2 else 4) ∧ g.keepHost = r.keepHost ∧
      t.mem.store = s.mem.store := by
  intro t
  let g : Forme := { swappedForme f r with repl := none }
  let u := swapReported s fi f r
  let v := setForme u fi g
  obtain ⟨formes, store⟩ := swapReported_leaves s fi f r
  have held : getForme u fi = some (swappedForme f r) := (congrArg (kget? · fi) formes).trans (kget?_kset_same ..)
  let code := if g.quarantined ≠ [] then 4 else if g.repl.isSome then 3 else 2
  have ends : t = liftBarrier (syncGolden (loadStat (setFState v fi code) fi 0)) fi := by
    unfold t
    rw [finishSwap_eq, nextReplace_last held none_, settleFState_eq (getForme_setForme u fi g)]
  obtain ⟨formes₁, regs₁, mem₁⟩ := liftBarrier_leaves (syncGolden (loadStat (setFState v fi code) fi 0)) fi
  obtain ⟨formes₂, regs₂, store₂⟩ := same_of_offGolden (offGolden_syncGolden (loadStat (setFState v fi code) fi 0))
  obtain ⟨formes₃, -, mem₃, -⟩ := same_of_offRegs ((offRegs_loadStat (setFState v fi code) fi 0).trans (offRegs_setFState v fi code))
  rw [ends]
  refine ⟨g, ?_, rfl, rfl, rfl, rfl, rfl, ?_, rfl, ?_⟩
  · exact (congrArg (kget? · fi) (formes₁.trans (formes₂.trans formes₃))).trans (getForme_setForme u fi g)
  · rw [getF_congr (regs₁.trans regs₂), getF_loadStat _ _ _ (by omega) (by decide) (by decide) (by decide)]
    have which : code = if f.quarantined = [] then 2 else 4 := by
      by_cases clean : f.quarantined = [] <;> simp [code, g, swappedForme, clean]
    rw [which]
    exact getF_setFState index (by split_ifs <;> omega)
  · rw [mem₁, store₂, mem₃]
    exact store

/-- Settles O40. The steps are the branches of their commands; the end of a swap writes registers, the ring and the stack
tier, never a store. -/
theorem replacementSteps : Obligations.ReplacementSteps := by
  refine ⟨fun fi f r s held running => ⟨fun early => ?_, fun staged still ready calm => ⟨fun none_ => ?_, fun some_ => ?_⟩,
    fun l swaps calm next_ => ⟨?_, ?_⟩, fun busy => ⟨?_, fun ok => exec_swapLayerWritten_recovering held running ok busy⟩⟩,
    fun fi f r s index _ none_ => finishSwap_current index none_⟩
  · have staged := exec_loadStaged held running early
    generalize (checksStream r.image).or (checksForme r.image) = refusal at staged ⊢
    cases refusal with
    | none => rw [Option.elim_none] at staged; exact staged
    | some b => rw [Option.elim_some] at staged; exact staged
  · rw [exec_swapBegin held running, if_pos (by simp [staged, still, ready, calm]), if_pos none_]
  · rw [exec_swapBegin held running, if_pos (by simp [staged, still, ready, calm]), if_neg some_]
  · rw [exec_swapLayerWritten held running true next_ swaps calm, if_pos rfl]
  · rw [exec_swapLayerWritten held running false next_ swaps calm, if_neg Bool.false_ne_true]
  · rw [exec_swapBegin held running, if_neg (by simp [busy])]

end Sys2Proof.Machine

end

section
/-! Audit sweeps, and the life of variant and overlay slots (R275 to R278, R282, R371 to R374; O41). -/

namespace Sys2Proof.Machine

/-! ### Arbitration of a layer -/

section
variable {a : AuditFinding} {f : Forme} {s : State} (held : getForme s a.forme.val = some f)
include held

theorem arbitrate_clean (golden : a.goldenOk = true) (parity : a.parityOk = true)
    (same : waferDiffers s a.forme.val a.layer f = false) : arbitrate s a = s := by
  unfold arbitrate
  dsimp only
  rw [held]
  simp only [golden, parity, same, Bool.and_self, Bool.not_true, Bool.false_eq_true, if_true, if_false]

/-- A layer on the wafer that differs from a sound golden copy: counted, recorded, and written again at a barrier. -/
def mendLayer (u : State) (a : AuditFinding) (f : Forme) : State :=
  rewriteNow (raiseBarrier (adjForme (loadFault (addF u Reg.LOAD_DIVERGED 1 0) Err.LOAD_T0_DIVERGED
    [a.layer, kgetD f.lastAudit a.layer 0 % 2 ^ 32, kgetD f.lastAudit a.layer 0 / 2 ^ 32]) a.forme.val
      (fun f => { f with rewrite := addOnce f.rewrite a.layer })) a.forme.val) a.forme.val

theorem arbitrate_diverged (golden : a.goldenOk = true) (parity : a.parityOk = true)
    (differs : waferDiffers s a.forme.val a.layer f = true) : arbitrate s a = mendLayer s a f := by
  unfold arbitrate mendLayer
  dsimp only
  rw [held]
  simp only [golden, parity, differs, Bool.and_self, Bool.not_true, Bool.false_eq_true, if_true, if_false]

/-- A golden copy written again from the source that matches, counted and recorded. -/
def restoreLayer (s : State) (a : AuditFinding) (f : Forme) : State :=
  loadFault (addF (restoreGolden s f a.layer) Reg.LOAD_ARBITRATIONS 1 0) Err.LOAD_COPY_ARBITRATED [a.layer]

theorem arbitrate_both (disagree : a.goldenOk ≠ a.parityOk) (differs : waferDiffers s a.forme.val a.layer f = true) :
    arbitrate s a = mendLayer (restoreLayer s a f) a f := by
  unfold arbitrate mendLayer restoreLayer
  dsimp only
  rw [held]
  cases golden : a.goldenOk <;> cases parity : a.parityOk
  · exact absurd (golden.trans parity.symm) disagree
  · simp only [differs, Bool.false_and, Bool.or_true, Bool.true_or, Bool.not_true, Bool.and_false,
      Bool.false_eq_true, if_true, if_false]
  · simp only [differs, Bool.and_false, Bool.true_or, Bool.not_true, Bool.false_and,
      Bool.false_eq_true, if_true, if_false]
  · exact absurd (golden.trans parity.symm) disagree

theorem arbitrate_golden (bad : a.goldenOk = false ∨ a.parityOk = false)
    (same : waferDiffers s a.forme.val a.layer f = false) : arbitrate s a = restoreLayer s a f := by
  have not_both : (a.goldenOk && a.parityOk) = false := by rcases bad with h | h <;> simp [h]
  unfold arbitrate restoreLayer
  dsimp only
  rw [held]
  simp only [not_both, same, Bool.not_false, Bool.or_true, Bool.false_eq_true, if_true, if_false, ite_self]

theorem arbitrate_lost (golden : a.goldenOk = false) (parity : a.parityOk = false)
    (differs : waferDiffers s a.forme.val a.layer f = true) : arbitrate s a = quarantine s a.forme.val a f := by
  unfold arbitrate
  dsimp only
  rw [held]
  simp only [golden, parity, differs, Bool.and_self, Bool.or_self, Bool.not_true, Bool.not_false, Bool.false_eq_true, if_true,
    if_false]

end

/-! ### The sweep -/

theorem regionsDiffer_congr {s t : State} (mem : t.mem = s.mem) (l : List (CoreRef × Alloc)) (bs : List Byte) :
    regionsDiffer t l bs = regionsDiffer s l bs := by
  induction l generalizing bs with
  | nil => rfl
  | cons x l ih =>
    obtain ⟨c, a⟩ := x
    rw [regionsDiffer, regionsDiffer, ih, storePoisoned, storePoisoned, storeRead, storeRead, mem]

theorem tilesDiffer_congr {s t : State} (mem : t.mem = s.mem) {f g : Forme} (image : g.image = f.image) (parts : g.parts = f.parts)
    (layer idx : Nat) (bs : List Byte) : tilesDiffer t g layer idx bs = tilesDiffer s f layer idx bs := by
  have regions : slotRegions g layer 0x07 idx = slotRegions f layer 0x07 idx := by
    unfold slotRegions
    rw [image, parts]
  unfold tilesDiffer storePoisoned storeRead
  rw [regions, mem]

/-- Whether a layer differs from its golden copy depends on the store, the cold slots, the image and the parts alone. -/
theorem waferDiffers_congr {s t : State} (mem : t.mem = s.mem) (cold : t.cold = s.cold) {f g : Forme}
    (image : g.image = f.image) (parts : g.parts = f.parts) (fi layer : Nat) :
    waferDiffers t fi layer g = waferDiffers s fi layer f := by
  unfold waferDiffers
  rw [cold, image, parts]
  simp only [regionsDiffer_congr mem, tilesDiffer_congr mem image parts]

theorem kget?_mapKey {α : Type} (m : KMap α) (g : Nat → α → α) (k : Nat) :
    kget? (m.map (fun e => (e.1, g e.1 e.2))) k = (kget? m k).map (g k) := by
  induction m with
  | nil => rfl
  | cons e m ih =>
    rw [List.map_cons, kget?, kget?]
    split_ifs with here
    · subst here
      rfl
    · exact ih

/-- What a sweep finds of every layer of every forme. -/
def findingsOf (s : State) (found : List AuditFinding) : List AuditFinding :=
  s.formes.flatMap (fun f => (List.range (imgLayers f.2.image)).map (fun l =>
    (found.find? (fun a => a.forme.val == f.1 && a.layer == l)).getD (cleanFinding (Fin.ofNat 16 f.1) l)))

/-- A layer's copies agree, as far as a sweep's findings go. -/
def sweptClean (s : State) (found : List AuditFinding) (fi l : Nat) : Bool :=
  (findingsOf s found).all (fun a => a.forme.val != fi || a.layer != l
    || (a.goldenOk && !(getForme s fi).any (fun f => waferDiffers s fi l f)))

/-- A forme with the times of its sound layers noted. -/
def Forme.swept (clean : Nat → Bool) (now : Nat) (f : Forme) : Forme :=
  { f with lastAudit := f.lastAudit.map (fun x => (x.1, if clean x.1 then now else x.2)) }

/-- The state once a sweep has noted the layers that agree. -/
def sweptState (s : State) (found : List AuditFinding) : State :=
  { s with formes := s.formes.map (fun f => (f.1, f.2.swept (sweptClean s found f.1) s.lampTime)) }

theorem sweptState_mem (s : State) (found : List AuditFinding) : (sweptState s found).mem = s.mem := rfl

theorem sweptState_cold (s : State) (found : List AuditFinding) : (sweptState s found).cold = s.cold := rfl

theorem Forme.swept_image (clean : Nat → Bool) (now : Nat) (f : Forme) : (f.swept clean now).image = f.image := rfl

theorem Forme.swept_parts (clean : Nat → Bool) (now : Nat) (f : Forme) : (f.swept clean now).parts = f.parts := rfl

theorem exec_auditSweep {s : State} (found : List AuditFinding) (enabled : onF s Reg.LOAD_CTL_AUDIT_EN 0 = true)
    (up : groupUp s 1 = true) (due : s.lastSweep + 1000000000 * getF s Reg.LOAD_AUDIT_PERIOD 0 ≤ s.lampTime) :
    exec (.auditSweep found) s = .next (addF { (findingsOf s found).foldl arbitrate (sweptState s found) with
      lastSweep := s.lampTime } Reg.LOAD_AUDIT_SWEEPS 1 0) := by
  show execAuditSweep found s = _
  unfold execAuditSweep
  rw [if_pos ⟨enabled, up, due⟩]
  rfl

theorem exec_auditSweep_early {s : State} (found : List AuditFinding)
    (early : s.lampTime < s.lastSweep + 1000000000 * getF s Reg.LOAD_AUDIT_PERIOD 0) : exec (.auditSweep found) s = .next s := by
  show execAuditSweep found s = _
  unfold execAuditSweep
  rw [if_neg (fun h => absurd h.2.2 (Nat.not_le_of_lt early))]

theorem mem_findingsOf {s : State} {found : List AuditFinding} {a : AuditFinding} (h : a ∈ findingsOf s found) :
    a ∈ found ∨ (a.goldenOk = true ∧ a.parityOk = true) := by
  obtain ⟨f, -, hl⟩ := List.mem_flatMap.1 h
  obtain ⟨l, -, rfl⟩ := List.mem_map.1 hl
  cases hit : found.find? (fun a => a.forme.val == f.1 && a.layer == l) with
  | some b => exact .inl (List.mem_of_find?_eq_some hit)
  | none => exact .inr ⟨rfl, rfl⟩

theorem findingsOf_covers {s : State} (found : List AuditFinding) {f : Nat × Forme} (mem : f ∈ s.formes) (index : f.1 < 16)
    {l : Nat} (layer : l < imgLayers f.2.image) : ∃ a ∈ findingsOf s found, a.forme.val = f.1 ∧ a.layer = l := by
  refine ⟨_, List.mem_flatMap.2 ⟨f, mem, List.mem_map_of_mem (List.mem_range.2 layer)⟩, ?_⟩
  cases hit : found.find? (fun a => a.forme.val == f.1 && a.layer == l) with
  | some b =>
    have same := List.find?_some hit
    simpa using same
  | none => exact ⟨Nat.mod_eq_of_lt index, rfl⟩

theorem sweptState_keeps (s : State) (found : List AuditFinding) :
    (sweptState s found).formes.map (fun f => (f.1, { f.2 with lastAudit := [] })) =
      s.formes.map (fun f => (f.1, { f.2 with lastAudit := [] })) := by
  unfold sweptState
  rw [List.map_map]
  rfl

section
variable {s : State} (sound : ∀ fi f l, getForme s fi = some f → waferDiffers s fi l f = false)
include sound

theorem sweptClean_sound (fi l : Nat) : sweptClean s [] fi l = true := by
  refine List.all_eq_true.2 fun a ha => ?_
  have good : a.goldenOk = true := ((mem_findingsOf ha).resolve_left List.not_mem_nil).1
  have same : (getForme s fi).any (fun f => waferDiffers s fi l f) = false := by
    cases held : getForme s fi with
    | none => rfl
    | some f => exact sound fi f l held
  rw [good, same]
  simp

theorem arbitrate_sweptState {a : AuditFinding} (ha : a ∈ findingsOf s []) :
    arbitrate (sweptState s []) a = sweptState s [] := by
  obtain ⟨golden, parity⟩ := (mem_findingsOf ha).resolve_left List.not_mem_nil
  cases held : getForme (sweptState s []) a.forme.val with
  | none =>
    unfold arbitrate
    dsimp only
    rw [held]
  | some g =>
    refine arbitrate_clean held golden parity ?_
    have noted : getForme (sweptState s []) a.forme.val = (getForme s a.forme.val).map
        (Forme.swept (sweptClean s [] a.forme.val) s.lampTime) :=
      kget?_mapKey s.formes (fun k => Forme.swept (sweptClean s [] k) s.lampTime) _
    rw [noted] at held
    obtain ⟨f, stands, rfl⟩ := Option.map_eq_some_iff.1 held
    exact (waferDiffers_congr (s := s) (t := sweptState s []) (f := f) (sweptState_mem ..) (sweptState_cold ..)
      (Forme.swept_image ..) (Forme.swept_parts ..) _ _).trans (sound _ _ _ stands)

theorem foldl_arbitrate_sound {l : List AuditFinding} (h : ∀ a ∈ l, a ∈ findingsOf s []) :
    l.foldl arbitrate (sweptState s []) = sweptState s [] := by
  induction l with
  | nil => rfl
  | cons a l ih =>
    rw [List.foldl_cons, arbitrate_sweptState sound (h a List.mem_cons_self)]
    exact ih fun b hb => h b (List.mem_cons_of_mem _ hb)

end

theorem regsOnly_addF (s : State) (f : Fld) (n i k : Nat) : RegsOnly s (addF s f n i k) [f.key i k] :=
  ⟨rfl, agreeBut_putF (fun _ _ => rfl) f _ i k List.mem_cons_self⟩

/-! ### Slots -/

theorem Responded.slots {s t : State} (h : Responded s t) : t.slots = s.slots ∧ t.mem.store = s.mem.store := by
  have slots : (offAnswer t).slots = (offAnswer s).slots := by rw [h.rest]
  have store : (offAnswer t).mem.store = (offAnswer s).mem.store := by rw [h.rest]
  exact ⟨slots, store⟩

theorem loadRecord_slots (s : State) (q cid tenant fi status layers kind : Nat) :
    (loadRecord s q cid tenant fi status layers kind).slots = s.slots ∧
      (loadRecord s q cid tenant fi status layers kind).mem.store = s.mem.store := by
  obtain ⟨slots, store⟩ := (responded_respond (if kind = 0x02 then setF s Reg.LOAD_STAT_LAST_STATUS status 0 else s) q
    ⟨complBytes status 0 0xFF cid fi layers
      (if kind = 0x02 then setF s Reg.LOAD_STAT_LAST_STATUS status 0 else s).lampTime 0 tenant kind, none⟩).slots
  unfold loadRecord
  dsimp only
  rw [slots, store]
  split_ifs <;> exact ⟨rfl, rfl⟩

/-- The state but what a fault record works on in the lamp domain. -/
def offLog (s : State) : State :=
  { s with
    regs := [], faults := ⟨[], [], [], [], [], [], none⟩, io := ⟨[], [], [], [], [], [], []⟩, mem := { s.mem with host := [] }
    mgmt := ⟨[], [], false, [], [], 0⟩, pins := ⟨false, false, true, true, 0, none, [], false⟩ }

theorem offLog_setF (s : State) (f : Fld) (v i k : Nat) : offLog (setF s f v i k) = offLog s := rfl

theorem offLog_addF (s : State) (f : Fld) (n i k : Nat) : offLog (addF s f n i k) = offLog s := offLog_setF ..

theorem offLog_pushLog (s : State) (r : FaultRec) : offLog (pushLog s r) = offLog s := by
  unfold pushLog
  dsimp only
  rw [offLog_addF]
  rfl

theorem offLog_setPageErr (s : State) (p : Nat) (f : Fld) (v : Nat) : offLog (setPageErr s p f v) = offLog s := by
  have refreshed : ∀ s : State, offLog (refreshIrq s p) = offLog s := fun s => by
    unfold refreshIrq
    dsimp only
    split_ifs <;> rfl
  unfold setPageErr
  dsimp only
  rw [refreshed]
  split_ifs
  · exact offLog_setF ..
  · unfold pageEvent
    rw [offLog_setF, offLog_setF, offLog_setF]

theorem offLog_ringPut (s : State) (r : Ring) (bs : List Byte) : offLog (ringPut s r bs) = offLog s := by
  have room : offLog (ringRoomed s r) = offLog s := by
    rw [ringRoomed_rest]
    rfl
  rw [ringPut_eq, offLog_setF]
  unfold hostWrite
  rw [offLog_addF]
  exact room

theorem offLog_ringFault (s : State) (r : FaultRec) : offLog (ringFault s r) = offLog s := by
  have signalled : ∀ (s : State) (v : Nat), offLog (msix s v) = offLog s := fun _ _ => rfl
  unfold ringFault
  split_ifs
  · rw [signalled, offLog_ringPut]
  · rfl

theorem offLog_modFault (s : State) (code : Nat) : offLog (modFault s code) = offLog s := by
  unfold modFault
  split_ifs
  · rw [offLog_setF]
    rfl
  · rfl

theorem offLog_pldmEvent (s : State) (r : FaultRec) : offLog (pldmEvent s r) = offLog s := by
  unfold pldmEvent
  dsimp only
  split_ifs
  · rfl
  · have pinned : ∀ s : State, offLog { s with pins := { s.pins with alertN := false } } = offLog s := fun _ => rfl
    have managed : ∀ (s : State) (m : Mgmt), offLog { s with mgmt := m } = offLog s := fun _ _ => rfl
    rw [pinned, offLog_setF, managed]
  · rfl

theorem offLog_logFault (s : State) (it : FaultItem) : offLog (logFault s it) = offLog s := by
  have noted : ∀ (s : State) (log : Faults), offLog { s with faults := log } = offLog s := fun _ _ => rfl
  unfold logFault
  dsimp only
  split_ifs
  · rw [offLog_addF, offLog_addF]
  · rw [offLog_pldmEvent, offLog_modFault, offLog_ringFault]
    split
    · rw [offLog_setPageErr, noted, offLog_pushLog, offLog_setF, offLog_addF]
    · rw [noted, offLog_pushLog, offLog_setF, offLog_addF]

theorem logFault_slots (s : State) (it : FaultItem) :
    (logFault s it).slots = s.slots ∧ (logFault s it).mem.store = s.mem.store := by
  have same := offLog_logFault s it
  generalize logFault s it = t at same ⊢
  have slots : (offLog t).slots = (offLog s).slots := by rw [same]
  have store : (offLog t).mem.store = (offLog s).mem.store := by rw [same]
  exact ⟨slots, store⟩

theorem loadStat_slots (s : State) (fi st : Nat) :
    (loadStat s fi st).slots = s.slots ∧ (loadStat s fi st).mem.store = s.mem.store := by
  have regs := offRegs_loadStat s fi st
  generalize loadStat s fi st = t at regs ⊢
  have slots : (offRegs t).slots = (offRegs s).slots := by rw [regs]
  have store : (offRegs t).mem.store = (offRegs s).mem.store := by rw [regs]
  exact ⟨slots, store⟩

theorem nextFree_slots (s : State) : (nextFree s).2.slots = s.slots := rfl

theorem nextFree_mem (s : State) : (nextFree s).2.mem = s.mem := rfl

/-- The load of slot `x` completes with the status of an image that does not match its digest. -/
def refuseImage (s : State) (x : Slot) : State :=
  let v := nextFree s
  let r : Refuse := ⟨5, { Loc.none_ with sec := (globalSec x.image 1).map Sec.idx, layer := some (v.1 % 256) }⟩
  loadStat (loadRecord (logFault v.2 (locItem r.code r.loc)) x.queue x.cid x.tenant x.forme r.status 0 0x02) x.forme 0

theorem refuseImage_slots (s : State) (x : Slot) :
    (refuseImage s x).slots = s.slots ∧ (refuseImage s x).mem.store = s.mem.store := by
  unfold refuseImage
  dsimp only
  rw [(loadStat_slots ..).1, (loadStat_slots ..).2, (loadRecord_slots ..).1, (loadRecord_slots ..).2, (logFault_slots ..).1,
    (logFault_slots ..).2, nextFree_slots, nextFree_mem]
  exact ⟨rfl, rfl⟩

section
variable {k : Nat} {x : Slot} {s : State} (stands : kget? s.slots k = some x)

theorem activateSlot_slots (k : Nat) (x : Slot) (s : State) : (activateSlot s k x).slots =
    kset (s.slots.map (fun y => (y.1, if y.2.st == .active && sameTarget x.forme x.tenant x.number x.isVariant y.2
      then retireSlot y.2 else y.2))) k { x with st := .active } :=
  (loadRecord_slots ..).1

theorem activateSlot_other {j : Nat} {y : Slot} (other : j ≠ k) (held : kget? s.slots j = some y) :
    kget? (activateSlot s k x).slots j =
      some (if y.st = .active ∧ sameTarget x.forme x.tenant x.number x.isVariant y = true then retireSlot y else y) := by
  rw [activateSlot_slots, kget?_kset_ne _ _ other]
  have mapped := kget?_mapVal s.slots (fun y => if y.st == .active && sameTarget x.forme x.tenant x.number x.isVariant y
    then retireSlot y else y) j
  rw [held] at mapped
  refine mapped.trans (congrArg some ?_)
  beta_reduce
  by_cases retires : y.st = .active ∧ sameTarget x.forme x.tenant x.number x.isVariant y = true
  · rw [if_pos retires, if_pos (by simp [retires])]
  · rw [if_neg retires, if_neg (by simpa using retires)]

include stands

theorem exec_slotDigest_good (loading : x.st = .loading) :
    exec (.slotDigestCheck k true) s = .next (loadStat (activateSlot s k x) x.forme 0) := by
  show execSlotDigestCheck k true s = _
  unfold execSlotDigestCheck
  rw [stands]
  dsimp only
  rw [loading, if_neg (by simp), if_pos rfl]

theorem exec_slotDigest_bad (loading : x.st = .loading) : Gives (.slotDigestCheck k false) s fun t =>
    kget? t.slots k = some { x with st := .scrubbing } ∧ AgreeBut s.slots t.slots [k] ∧ t.mem.store = s.mem.store := by
  have runs_ : exec (.slotDigestCheck k false) s =
      .next (refuseImage { s with slots := kset s.slots k { x with st := .scrubbing } } x) := by
    show execSlotDigestCheck k false s = _
    unfold execSlotDigestCheck refuseImage
    rw [stands]
    dsimp only
    rw [loading, if_neg (by simp), if_neg Bool.false_ne_true]
  obtain ⟨slots, store⟩ := refuseImage_slots { s with slots := kset s.slots k { x with st := .scrubbing } } x
  refine ⟨_, runs_, ?_, fun j out => ?_, store⟩
  · rw [slots]
    exact kget?_kset_same ..
  · rw [slots]
    exact kget?_kset_ne _ _ (by simpa using out)

theorem exec_slotScrubDone (scrubbing : x.st = .scrubbing) : exec (.slotScrubDone k) s =
    .next (retrySlots { fillSlot s x true with slots := kdel (fillSlot s x true).slots k }) := by
  show execSlotScrubDone k s = _
  unfold execSlotScrubDone
  rw [stands]
  exact congrArg _ (if_pos scrubbing)

end

/-- Settles O41. A layer is arbitrated by what its reads returned; a sound sweep arbitrates nothing. -/
theorem auditsAndSlots : Obligations.AuditsAndSlots := by
  refine ⟨fun s enabled up => ⟨fun due found => ?_, fun due sound => ?_, fun early found => exec_auditSweep_early found early⟩,
    fun a f s held => ⟨fun golden parity same => arbitrate_clean held golden parity same,
      fun golden parity differs => arbitrate_diverged held golden parity differs,
      fun disagree differs => arbitrate_both held disagree differs, fun bad same => arbitrate_golden held bad same,
      fun golden parity differs => arbitrate_lost held golden parity differs⟩,
    fun k x s stands => ⟨fun loading => ⟨exec_slotDigest_good stands loading, ?_, fun j y other held => activateSlot_other other held,
      exec_slotDigest_bad stands loading⟩, fun scrubbing => exec_slotScrubDone stands scrubbing⟩⟩
  · exact ⟨_, exec_auditSweep found enabled up due, findingsOf s found, sweptState s found, rfl, rfl, sweptState_keeps s found,
      fun a ha => mem_findingsOf ha, fun f mem index l layer => findingsOf_covers found mem index layer⟩
  · refine ⟨_, exec_auditSweep [] enabled up due, ?_⟩
    beta_reduce
    rw [foldl_arbitrate_sound sound fun _ h => h]
    have formes : (sweptState s []).formes =
        s.formes.map (fun f => (f.1, { f.2 with lastAudit := f.2.lastAudit.map (fun x => (x.1, s.lampTime)) })) := by
      unfold sweptState
      refine List.map_congr_left fun f _ => ?_
      simp only [Forme.swept, sweptClean_sound sound, if_true]
    exact ⟨formes, regsOnly_addF _ Reg.LOAD_AUDIT_SWEEPS 1 0 0⟩
  · rw [activateSlot_slots]
    exact kget?_kset_same ..

end Sys2Proof.Machine

end

section
/-! Images over links (R357 to R359, R508; O42). -/

namespace Sys2Proof.Machine

/-! ### Asks, offers and takes -/

section
variable {s : State} (served : onF s Reg.LOAD_CTL_SERVE_LINK 0 = true) (k : LinkId)
include served

theorem exec_loadAsk_held {e img : List Byte}
    (held : goldenImage (modLink s k.val (fun x => { x with asks := addOnce x.asks e })) (fun i => i.take 32 == e) = some img) :
    exec (.loadAsk k e) s = .next (linkSend (modLink s k.val (fun x => { x with asks := addOnce x.asks e })) k.val
      (linkMsg 0x11 0 (identity img))) := by
  have still : onF (modLink s k.val (fun x => { x with asks := addOnce x.asks e })) Reg.LOAD_CTL_SERVE_LINK 0 = true := served
  show execLoadAsk k e s = _
  unfold execLoadAsk
  dsimp only
  rw [held]
  dsimp only
  rw [still, if_pos rfl]

theorem exec_loadTake_held {i img : List Byte} (n : Nat) (held : goldenImage s (fun j => j == i) = some img) :
    exec (.loadTake k i n) s = .next (sendMsgs s k.val (headMsgs img ++
      ((List.range (imgLayers img)).filter (fun l => n ≤ l)).flatMap (layerMsgs img) ++ globalMsgs img)) := by
  show execLoadTake k i n s = _
  unfold execLoadTake
  rw [held]
  dsimp only
  rw [served, if_pos rfl]

end

theorem exec_loadAsk_unheld {s : State} (k : LinkId) {e : List Byte}
    (unheld : goldenImage (modLink s k.val (fun x => { x with asks := addOnce x.asks e })) (fun i => i.take 32 == e) = none) :
    exec (.loadAsk k e) s = .next (modLink s k.val (fun x => { x with asks := addOnce x.asks e })) := by
  show execLoadAsk k e s = _
  unfold execLoadAsk
  dsimp only
  rw [unheld]

section
variable {k : LinkId} {i : List Byte} {l : Load} {s : State}
  (waits : s.loads.find? (fun l => l.fromLink && ldExpect l.cmd == i.take 32) = some l)
include waits

theorem exec_loadOffer_taken
    (takes : l.source = none ∨ (l.image = [] ∧ ∀ j, l.source = some j → k.val < j)) :
    exec (.loadOffer k i) s = .next (swapLoad (takeOffer s { l with offers := addOnce l.offers (k.val, i) }).1 l
      (takeOffer s { l with offers := addOnce l.offers (k.val, i) }).2) := by
  have takes' : l.source = none ∨ (l.source.all (fun j => decide (k.val < j)) = true ∧ l.image = []) := by
    refine takes.imp_right fun ⟨empty, lower⟩ => ⟨?_, empty⟩
    cases source : l.source with
    | none => rfl
    | some j => exact decide_eq_true (lower j source)
  show execLoadOffer k i s = _
  unfold execLoadOffer
  rw [waits]
  dsimp only
  rw [if_pos takes']

theorem exec_loadOffer_noted {j : Nat} (source : l.source = some j) (stays : j ≤ k.val ∨ l.image ≠ []) :
    exec (.loadOffer k i) s = .next (swapLoad s l { l with offers := addOnce l.offers (k.val, i) }) := by
  have stays' : ¬ (l.source = none ∨ (l.source.all (fun j => decide (k.val < j)) = true ∧ l.image = [])) := by
    rw [source]
    rintro (h | ⟨lower, empty⟩)
    · cases h
    · exact stays.elim (fun h => absurd (of_decide_eq_true lower) (Nat.not_lt.2 h)) (fun h => h empty)
  show execLoadOffer k i s = _
  unfold execLoadOffer
  rw [waits]
  dsimp only
  rw [if_neg stays']

end

/-! ### Data and ends of layers -/

theorem swapLoad_self (s : State) (l : Load) : swapLoad s l l = s := by
  unfold swapLoad
  have same : s.loads.map (fun x => if x = l then l else x) = s.loads :=
    (List.map_congr_left fun x _ => by split_ifs with h <;> [exact h.symm; rfl]).trans (List.map_id _)
  rw [same]

theorem mem_swapLoad {s : State} {l : Load} (m : Load) (mem : l ∈ s.loads) : m ∈ (swapLoad s l m).loads :=
  List.mem_map.2 ⟨l, mem, if_pos rfl⟩

theorem withHead_ok {s : State} {l : Load} (f : State → Load → State) (ok : l.headOk = true) : withHead s l f = f s l := by
  unfold withHead
  rw [ok, if_pos rfl]

theorem withHead_refused {s : State} {l : Load} (f : State → Load → State) (head : l.headOk = false) {g : State → State}
    (refused : headRefusal s l = some g) : withHead s l f = g (freeIndex (dropLoad s l) l) := by
  unfold withHead
  rw [head, if_neg Bool.false_ne_true, refused]

theorem withHead_full {s : State} {l : Load} (f : State → Load → State) (head : l.headOk = false)
    (sound : headRefusal s l = none) (full : stackRoom (dropLoad s l) (goldenSize l.image) = false) :
    withHead s l f = finishLoad (freeIndex (dropLoad s l) l) l Sts.STACK_FULL 0 := by
  unfold withHead
  rw [head, if_neg Bool.false_ne_true, sound]
  dsimp only
  rw [full]
  exact if_pos rfl

/-- The data of a message stand in the image where it says. -/
theorem slice_layBytes (img : List Byte) (off : Nat) (bs : List Byte) : slice (layBytes img off bs) off bs.length = bs := by
  unfold layBytes slice
  dsimp only
  have start : (List.take off (img ++ List.replicate (off + bs.length - img.length) 0)).length = off := by
    rw [List.length_take, List.length_append, List.length_replicate]
    omega
  rw [List.append_assoc, List.drop_append_of_le_length start.ge, List.drop_of_length_le start.le, List.nil_append,
    List.take_append_of_le_length le_rfl, List.take_length, Nat.sub_self, List.replicate_zero, List.append_nil]

/-- A load with a message's data laid into its image, counted. -/
def layData (off : Nat) (bs : List Byte) (s : State) (l : Load) : State :=
  addF (swapLoad s l { l with image := layBytes l.image off bs }) Reg.LOAD_BYTES bs.length 0

theorem regsOnly_layData (off : Nat) (bs : List Byte) (s : State) (l : Load) :
    RegsOnly { s with loads := (layData off bs s l).loads } (layData off bs s l) [Reg.LOAD_BYTES.key 0 0] :=
  ⟨rfl, agreeBut_putF (fun _ _ => rfl) Reg.LOAD_BYTES _ 0 0 List.mem_cons_self⟩

section
variable {k : LinkId} {l : Load} {s : State} (from_ : s.loads.find? (fun l => l.fromLink && l.source == some k.val) = some l)
include from_

theorem exec_loadData {bs : List Byte} (off : Nat) (short : bs.length ≤ 68) : exec (.loadData k off bs) s =
    .next (if pastHead l.image off then withHead s l (layData off bs) else layData off bs s l) := by
  have found : loadFrom s k.val = some l := by
    unfold loadFrom
    rw [from_]
    rfl
  have source : l.source = some k.val := by
    have h := List.find?_some from_
    simp only [Bool.and_eq_true, beq_iff_eq] at h
    exact h.2
  show execLoadData k off bs s = _
  unfold execLoadData
  rw [if_pos short, found]
  dsimp only
  rw [← source]
  change Host.Outcome.next (if pastHead l.image off then withHead (swapLoad s l l) l (layData off bs)
    else layData off bs (swapLoad s l l) l) = _
  rw [swapLoad_self]

theorem exec_loadData_laid {bs : List Byte} (off : Nat) (short : bs.length ≤ 68)
    (taken : l.headOk = true ∨ pastHead l.image off = false) : Gives (.loadData k off bs) s fun t =>
      { l with image := layBytes l.image off bs } ∈ t.loads ∧ slice (layBytes l.image off bs) off bs.length = bs ∧
      RegsOnly { s with loads := t.loads } t [Reg.LOAD_BYTES.key 0 0] := by
  have laid : (if pastHead l.image off then withHead s l (layData off bs) else layData off bs s l) = layData off bs s l := by
    split_ifs with past
    · exact withHead_ok _ (taken.resolve_right (by simp [past]))
    · rfl
  refine ⟨_, (exec_loadData from_ off short).trans (congrArg _ laid), ?_, slice_layBytes .., regsOnly_layData ..⟩
  exact mem_swapLoad _ (List.mem_of_find?_eq_some from_)

theorem exec_loadEnd_run {n : Nat} (head : l.headOk = true) (last : imgLayers l.image ≤ n) :
    exec (.loadEnd k n) s = .next (loadRun s l) := by
  show execLoadEnd k n s = _
  unfold execLoadEnd
  rw [from_]
  dsimp only
  rw [withHead_ok _ head, if_pos last]

theorem exec_loadEnd_layer {n : Nat} (head : l.headOk = true) (layer : n < imgLayers l.image) : exec (.loadEnd k n) s =
    .next (if sha384 (layerBytes l.image n) = layerDigest l.image n then
      (forwardPorts (swapLoad s l { l with layersOk := n + 1 }) l.cmd (identity l.image)).foldl (fun s j =>
        sendMsgs s j ((if n = 0 then headMsgs l.image else []) ++ layerMsgs l.image n)) (swapLoad s l { l with layersOk := n + 1 })
    else nextSource s l k.val) := by
  show execLoadEnd k n s = _
  unfold execLoadEnd
  rw [from_]
  dsimp only
  rw [withHead_ok _ head, if_neg (Nat.not_le.2 layer)]

end

/-! ### No source -/

/-- A load that ends without a source. -/
def sourceless (s : State) (l : Load) (i : Nat) : State :=
  loadStat (finishLoad (if ldKind l.cmd = 0x20 then setFState (dropLoad s l) i 0 else dropLoad s l) l Sts.LINK_SOURCE 0) i 0

theorem loads_sourceless (s : State) (l : Load) (i : Nat) : (sourceless s l i).loads = (dropLoad s l).loads := by
  unfold sourceless
  rw [(sameCores_loadStat ..).loads, (sameCores_finishLoad ..).loads]
  split_ifs <;> rfl

theorem state_sourceless (s : State) {l : Load} {i : Nat} (index : i < 16) (kind : ldKind l.cmd = 0x20) :
    getF (sourceless s l i) Reg.LOAD_F_STATE i = 0 := by
  unfold sourceless finishLoad
  rw [getF_loadStat _ _ _ (by omega) (by decide) (by decide) (by decide),
    getF_loadRecord _ _ _ _ _ _ _ _ (by omega) (by decide) (by decide), if_pos kind]
  exact getF_setFState index (by omega)

theorem status_sourceless (s : State) (l : Load) (i : Nat) :
    getF (sourceless s l i) Reg.LOAD_STAT_LAST_STATUS 0 = Sts.LINK_SOURCE := by
  unfold sourceless finishLoad
  rw [getF_loadStat _ _ _ (by omega) (by decide) (by decide) (by decide)]
  exact getF_loadRecord_status ..

theorem exec_linkSource {i : FormeId} {l : Load} {s : State}
    (late : s.loads.find? (fun l => l.fromLink && l.offers.isEmpty && l.source.isNone && ldForme l.cmd == i.val
      && decide (l.since + 1000000000 * getF s Reg.LOAD_LINK_WAIT 0 ≤ s.lampTime)) = some l) :
    exec (.linkSource i) s = .next (sourceless s l i.val) := by
  show execLinkSource i s = _
  unfold execLinkSource
  rw [late]
  rfl

theorem exec_linkSource_waits {i : FormeId} {s : State} (waits : ∀ l ∈ s.loads, l.fromLink = true → ldForme l.cmd = i.val →
    l.offers ≠ [] ∨ l.source ≠ none ∨ s.lampTime < l.since + 1000000000 * getF s Reg.LOAD_LINK_WAIT 0) :
    exec (.linkSource i) s = .next s := by
  have none_late : s.loads.find? (fun l => l.fromLink && l.offers.isEmpty && l.source.isNone && ldForme l.cmd == i.val
      && decide (l.since + 1000000000 * getF s Reg.LOAD_LINK_WAIT 0 ≤ s.lampTime)) = none := by
    refine List.find?_eq_none.2 fun l mem late => ?_
    simp only [Bool.and_eq_true, beq_iff_eq, decide_eq_true_eq, List.isEmpty_iff, Option.isNone_iff_eq_none] at late
    obtain ⟨⟨⟨⟨link, offers⟩, source⟩, forme⟩, due⟩ := late
    rcases waits l mem link forme with h | h | h
    · exact h offers
    · exact h source
    · exact absurd due (Nat.not_le.2 h)
  show execLinkSource i s = _
  unfold execLinkSource
  rw [none_late]

/-- Settles O42. Each message meets the load that its port serves, whose head is checked before its layers count. -/
theorem linkImages : Obligations.LinkImages := by
  refine ⟨fun k e img s served => ⟨exec_loadAsk_held served k, exec_loadAsk_unheld k⟩,
    fun k i l s waits => ⟨exec_loadOffer_taken waits, fun j source stays => exec_loadOffer_noted waits source stays⟩,
    fun k i img n s served held => exec_loadTake_held served k n held,
    fun k l s from_ => ⟨fun off bs short taken => exec_loadData_laid from_ off short taken,
      fun off bs short head past => ⟨fun g refused => ?_, fun sound full => ?_⟩,
      fun n head last => exec_loadEnd_run from_ head last, fun n head layer => exec_loadEnd_layer from_ head layer⟩,
    fun i l s late => ⟨_, exec_linkSource late, loads_sourceless .., fun kind => state_sourceless s i.isLt kind,
      status_sourceless ..⟩, fun i s waits => exec_linkSource_waits waits⟩
  · rw [exec_loadData from_ off short, if_pos past, withHead_refused _ head refused]
  · rw [exec_loadData from_ off short, if_pos past, withHead_full _ head sound full]

end Sys2Proof.Machine

end

section
/-! The telemetry second, and NUMERIC and EXPERT records (R88, R89, R284, R318, R320, R545; O43). -/

namespace Sys2Proof.Machine

/-! ### The telemetry second -/

theorem telPut_wanted {s : State} {r : List Byte} (wanted : telWanted s r = true) : telPut s r = ringPut s telRing r :=
  if_pos wanted

theorem foldl_telPut_off {s : State} (off : onF s Reg.TEL_CTL_EN 0 = false) (rs : List (List Byte)) : rs.foldl telPut s = s := by
  induction rs with
  | nil => rfl
  | cons r rs ih =>
    have unwritten : telPut s r = s := if_neg (by rw [off, Bool.false_and]; exact Bool.false_ne_true)
    rw [List.foldl_cons, unwritten, ih]

theorem any_telWanted_off {s : State} (off : onF s Reg.TEL_CTL_EN 0 = false) (rs : List (List Byte)) :
    rs.any (telWanted s) = false := by
  refine List.any_eq_false.2 fun r _ wanted => ?_
  unfold telWanted at wanted
  rw [off, Bool.false_and] at wanted
  exact Bool.false_ne_true wanted

/-- The state with the breaches of the second noted with the pairs. -/
def breached (s : State) : State :=
  { s with tele := { s.tele with
    pairs := (atRisk s).foldl (fun l m => modPair l m.1 m.2.tenant (fun p => { p with breach := p.breach + 1 })) s.tele.pairs } }

/-- The state once a second's records are given up. -/
def secondOver (s : State) : State :=
  { s with tele := { s.tele with held := [], groupHeld := [], gaps := [], tokens := [], steps := [] } }

theorem breached_quiet {s : State} (quiet : s.serve.moorings = []) : breached s = s := by
  unfold breached atRisk
  rw [quiet]
  rfl

/-- The records of a second: the moorings' own and those held. -/
def secondRecords (s : State) : List (List Byte) :=
  (s.tele.tokens.filter (fun t => t.2 != 0)).map (fun t => mooringRecord s t.1)
    ++ (atRisk s).map (fun m => riskRecord s m.1 m.2) ++ s.tele.groupHeld ++ s.tele.held

/-- The ring's vector is raised, where something was written. -/
def secondSignalled (wrote : Bool) (s : State) : State := if wrote then msix s (getF s Reg.TEL_CTL_VECTOR 0) else s

section
variable {s : State} (up : groupUp s 0 = true)
include up

theorem exec_telemetrySecond : exec .telemetrySecond s = .next (secondOver (secondSignalled
    ((secondRecords s).any (telWanted s)) ((secondRecords s).foldl telPut (breached s)))) := by
  show execTelemetrySecond s = _
  unfold execTelemetrySecond
  rw [if_pos up]
  rfl

theorem exec_telemetrySecond_off (off : onF s Reg.TEL_CTL_EN 0 = false) :
    exec .telemetrySecond s = .next (secondOver (breached s)) := by
  have still : onF (breached s) Reg.TEL_CTL_EN 0 = false := off
  rw [exec_telemetrySecond up, any_telWanted_off off, foldl_telPut_off still]
  rfl

theorem exec_telemetrySecond_one {r : List Byte} (tokens : s.tele.tokens = []) (moorings : s.serve.moorings = [])
    (group : s.tele.groupHeld = []) (held : s.tele.held = [r]) (wanted : telWanted s r = true) :
    exec .telemetrySecond s = .next (secondOver (msix (ringPut s telRing r) (getF (ringPut s telRing r) Reg.TEL_CTL_VECTOR 0))) := by
  have only : secondRecords s = [r] := by
    unfold secondRecords atRisk
    rw [tokens, moorings, group, held]
    rfl
  rw [exec_telemetrySecond up, only, List.any_cons, wanted, Bool.true_or, List.foldl_cons, List.foldl_nil,
    breached_quiet moorings, telPut_wanted wanted]
  rfl

end

theorem vector_ringPut (s : State) (r : List Byte) :
    getF (ringPut s telRing r) Reg.TEL_CTL_VECTOR 0 = getF s Reg.TEL_CTL_VECTOR 0 := by
  have room : getF (ringRoomed s telRing) Reg.TEL_CTL_VECTOR 0 = getF s Reg.TEL_CTL_VECTOR 0 := by
    unfold ringRoomed addF
    split_ifs
    · rw [getF_setF_ne _ _ (by decide), getF_setF_ne _ _ (by decide)]
    · rfl
  rw [ringPut_eq, getF_setF_ne _ _ (by decide), getF_hostWrite (by decide), room]

theorem io_ringPut (s : State) (g : Ring) (r : List Byte) : (ringPut s g r).io = s.io := by
  have room : (ringRoomed s g).io = s.io := by
    unfold ringRoomed
    split_ifs <;> rfl
  rw [ringPut_eq]
  exact room

/-! ### NUMERIC and EXPERT records -/

theorem handRecords_up {s : State} (up : groupUp s 0 = true) (rs : List (List Byte)) :
    handRecords s rs = { s with tele := { s.tele with held := s.tele.held ++ rs } } := if_pos up

/-- The NUMERIC records of a state. -/
def numericRecords (s : State) : List (List Byte) :=
  ((List.range 256).filter (fun l => (numericOf s l).any (· != 0))).map
    (fun l => telRecord s.lampTime l 0x0004 ((numericOf s l).map sat32))

/-- The chases with their numeric counts begun anew. -/
def uncounted (s : State) : State := { s with chases := s.chases.map (fun c => (c.1, { c.2 with counts := [] })) }

theorem exec_numeric {s : State} (up : groupUp s 0 = true) (up₂ : groupUp s 2 = true) :
    exec .numeric s = .next { uncounted s with tele := { s.tele with held := s.tele.held ++ numericRecords s } } := by
  have still : groupUp (uncounted s) 0 = true := up
  show execNumeric s = _
  unfold execNumeric
  rw [if_pos up₂]
  exact congrArg _ (handRecords_up still (numericRecords s))

theorem uncounted_counts {s : State} : ∀ x ∈ (uncounted s).chases, x.2.counts = [] := by
  intro x mem
  obtain ⟨c, -, rfl⟩ := List.mem_map.1 mem
  rfl

theorem exec_expert {s : State} (up₁ : groupUp s 1 = true) (first : Nat) :
    exec (.expert first) s = .next (handRecords { s with tele := { s.tele with experts := [] } }
      (((s.tele.experts.filter (fun x => x.2.figures.any (· != 0))).filter (fun x => decide (first ≤ x.1)) ++
        (s.tele.experts.filter (fun x => x.2.figures.any (· != 0))).filter (fun x => decide (x.1 < first))).map
          (fun x => telRecord s.lampTime x.1 0x0005 (x.2.figures.map sat32)))) := by
  show execExpert first s = _
  unfold execExpert
  rw [if_pos up₁]

/-- Settles O43. The second writes what is wanted of the held records; the counts' records are handed to keeper group 0. -/
theorem telemetryRecords : Obligations.TelemetryRecords := by
  refine ⟨fun s up => ⟨fun off => ?_, fun r tokens moorings group held wanted => ?_⟩,
    fun s up => ⟨fun up₂ => ?_, fun up₁ first => ?_⟩⟩
  · exact ⟨_, exec_telemetrySecond_off up off, rfl, rfl, rfl, rfl, rfl, rfl, rfl, rfl, rfl, rfl⟩
  · refine ⟨_, exec_telemetrySecond_one up tokens moorings group held wanted, rfl, ?_, rfl, rfl⟩
    rw [vector_ringPut, ← io_ringPut s telRing r]
    rfl
  · exact ⟨_, exec_numeric up up₂, rfl, uncounted_counts, rfl, rfl, rfl⟩
  · exact ⟨_, exec_expert up₁ first, handRecords_up (s := { s with tele := { s.tele with experts := [] } }) up _⟩

end Sys2Proof.Machine

end

section
/-! Usage counts, intervals, reads by number and acknowledgements (R341, R547 to R551; O44). -/

namespace Sys2Proof.Machine

/-! ### The interval -/

theorem exec_usageCounts {s : State} (up : groupUp s 0 = true) : exec .usageCounts s =
    .next (setF { s with tele := { s.tele with
      pairs := [], open_ := s.tele.pairs.foldl (fun l p => modPair l p.mooring p.tenant (fun q => q.add p)) s.tele.open_ } }
      Reg.USE_OPEN_PAIRS (s.tele.pairs.foldl (fun l p => modPair l p.mooring p.tenant (fun q => q.add p)) s.tele.open_).length 0) := by
  show execUsageCounts s = _
  unfold execUsageCounts
  rw [if_pos up]

/-- The pairs of the open interval in the order of their records (R548). -/
def sortedPairs (s : State) : List UsagePair :=
  s.tele.open_.mergeSort (fun a b => decide (a.mooring < b.mooring ∨ (a.mooring = b.mooring ∧ a.tenant ≤ b.tenant)))

theorem length_sortedPairs (s : State) : (sortedPairs s).length = s.tele.open_.length := List.length_mergeSort ..

/-- The records of an interval that closes at `stop`. -/
def intervalRecords (s : State) (stop : Nat) : List UsageRec :=
  (sortedPairs s).mapIdx (fun i p => usageRecord s (getF s Reg.USE_OPEN_START 0) stop (s.tele.seq + 1 + i) p)

theorem length_intervalRecords (s : State) (stop : Nat) : (intervalRecords s stop).length = s.tele.open_.length := by
  rw [intervalRecords, List.length_mapIdx, length_sortedPairs]

theorem seq_intervalRecords {s : State} {stop i : Nat} {r : UsageRec} (record : (intervalRecords s stop)[i]? = some r) :
    r.seq = s.tele.seq + 1 + i := by
  rw [intervalRecords, List.getElem?_mapIdx] at record
  obtain ⟨p, -, rfl⟩ := Option.map_eq_some_iff.1 record
  rfl

theorem closeInterval_full {s : State} (stop : Nat) (full : 8192 < s.tele.store.length + s.tele.open_.length) :
    closeInterval s stop = setF s Reg.USE_STAT_EXTENDED 1 0 := if_pos ((length_sortedPairs s).symm ▸ full)

/-- The state with an interval's records stored and its fields noted. -/
def intervalClosed (s : State) (stop : Nat) : State :=
  setF (setF (setF { s with tele := { s.tele with
    store := s.tele.store ++ intervalRecords s stop
    seq := s.tele.seq + (intervalRecords s stop).length
    open_ := []
    openSynced := onF s Reg.LAMP_TIME_CTL_SYNCED 0 && !onF s Reg.CLK_REF_STAT_LAMP_INTERNAL 0
    nextLen := getF s Reg.USE_INTERVAL_S 0 } } Reg.USE_STAT_EXTENDED 0 0) Reg.USE_OPEN_START stop 0) Reg.USE_OPEN_PAIRS 0 0

theorem closeInterval_room {s : State} (stop : Nat) (room : s.tele.store.length + s.tele.open_.length ≤ 8192) :
    closeInterval s stop = usageRegs (if intervalRecords s stop = [] then intervalClosed s stop
      else addF (intervalClosed s stop) Reg.LAMP_NV_WRITES 1 0) :=
  if_neg (Nat.not_lt.2 ((length_sortedPairs s).symm ▸ room))

theorem tele_usageRegs (s : State) : (usageRegs s).tele = s.tele := rfl

theorem getF_usageRegs (s : State) {f : Fld} {k : Nat} (held : f.key 0 k ≠ Reg.USE_STAT_HELD.key 0 0)
    (oldest : f.key 0 k ≠ Reg.USE_SEQ_OLDEST.key 0 0) (newest : f.key 0 k ≠ Reg.USE_SEQ_NEWEST.key 0 0) :
    getF (usageRegs s) f 0 k = getF s f 0 k := by
  unfold usageRegs
  rw [getF_setF_ne _ _ newest, getF_setF_ne _ _ oldest, getF_setF_ne _ _ held]

theorem held_usageRegs (s : State) : getF (usageRegs s) Reg.USE_STAT_HELD 0 = s.tele.store.length % 2 ^ 14 := by
  unfold usageRegs
  rw [getF_setF_ne _ _ (by decide), getF_setF_ne _ _ (by decide), getF_setF_same]
  rfl

/-- What the write of the non-volatile store leaves of a closed interval. -/
theorem closeInterval_gives {s : State} (stop : Nat) (room : s.tele.store.length + s.tele.open_.length ≤ 8192) :
    (closeInterval s stop).tele = (intervalClosed s stop).tele ∧ (closeInterval s stop).mem = s.mem ∧
      getF (closeInterval s stop) Reg.USE_STAT_EXTENDED 0 = 0 ∧
      getF (closeInterval s stop) Reg.USE_OPEN_START 0 = stop % 2 ^ 64 := by
  rw [closeInterval_room stop room, tele_usageRegs, getF_usageRegs _ (by decide) (by decide) (by decide),
    getF_usageRegs _ (by decide) (by decide) (by decide)]
  have extended : getF (intervalClosed s stop) Reg.USE_STAT_EXTENDED 0 = 0 := by
    unfold intervalClosed
    rw [getF_setF_ne _ _ (by decide), getF_setF_ne _ _ (by decide), getF_setF_same]
    rfl
  have start : getF (intervalClosed s stop) Reg.USE_OPEN_START 0 = stop % 2 ^ 64 := by
    unfold intervalClosed
    rw [getF_setF_ne _ _ (by decide), getF_setF_same]
    rfl
  have mem : (intervalClosed s stop).mem = s.mem := rfl
  have store : ∀ u : State, (usageRegs u).mem = u.mem := fun _ => rfl
  generalize intervalClosed s stop = u at extended start mem ⊢
  have written : ∀ f : Fld, f.key 0 0 ≠ Reg.LAMP_NV_WRITES.key 0 0 → getF (addF u Reg.LAMP_NV_WRITES 1 0) f 0 = getF u f 0 :=
    fun f apart => getF_setF_ne _ _ apart
  rw [store]
  split_ifs
  · exact ⟨rfl, mem, extended, start⟩
  · exact ⟨rfl, mem, (written _ (by decide)).trans extended, (written _ (by decide)).trans start⟩

/-! ### Reads by number and acknowledgements -/

theorem Fld.key_word (f : Fld) (i k : Nat) : f.key i k = f.key i 0 + 16777216 * k := by
  unfold Fld.key
  omega

theorem offRegs_setRdData (s : State) (bs : List Byte) : offRegs (setRdData s bs) = offRegs s := by
  unfold setRdData
  induction List.range 408 generalizing s with
  | nil => rfl
  | cons k l ih => exact (ih _).trans (offRegs_setF ..)

theorem getF_setRdData (s : State) (bs : List Byte) {k : Nat} (word : k < 408) :
    getF (setRdData s bs) Reg.USE_RD_DATA 0 k = leAt bs (4 * k) 4 % 2 ^ 32 := by
  have member := List.mem_range.2 word
  unfold setRdData
  generalize List.range 408 = words at member ⊢
  exact foldl_read_of_mem (fun t a => kgetD t.regs a 0) (f := fun s k => setF s Reg.USE_RD_DATA (leAt bs (4 * k) 4) 0 k)
    (addr := fun k => Reg.USE_RD_DATA.key 0 k) (x := k) (fun t _ apart => getF_setF_ne t _ apart) member
    (fun j _ same => by
      have same : Reg.USE_RD_DATA.key 0 j = Reg.USE_RD_DATA.key 0 k := same
      rw [Fld.key_word _ _ j, Fld.key_word _ _ k] at same
      omega) (fun t => getF_setF_same t ..) s

/-- The fields below the record's words are as they were. -/
theorem getF_setRdData_below (s : State) (bs : List Byte) {f : Fld} (below : f.key 0 0 < Reg.USE_RD_DATA.key 0 0) :
    getF (setRdData s bs) f 0 = getF s f 0 := by
  unfold setRdData
  induction List.range 408 generalizing s with
  | nil => rfl
  | cons k l ih =>
    refine (ih _).trans (getF_setF_ne _ _ ?_)
    rw [Fld.key_word _ _ k]
    omega

/-- A record's number asked for, with whether there is such a record, and its bytes. -/
def recordShown (s : State) (v : Nat) (found : Bool) (bs : List Byte) : State :=
  setRdData (setF (setF (setF s Reg.USE_RD_SEQ v 0) Reg.USE_STAT_READY (if found then 1 else 0) 0) Reg.USE_STAT_ABSENT
    (if found then 0 else 1) 0) bs

theorem eq_of_offRegs {s t : State} (same : offRegs t = offRegs s) : t = { s with regs := t.regs } :=
  congrArg (fun u : State => { u with regs := t.regs }) same

theorem offRegs_recordShown (s : State) (v : Nat) (found : Bool) (bs : List Byte) :
    offRegs (recordShown s v found bs) = offRegs s := by
  unfold recordShown
  rw [offRegs_setRdData, offRegs_setF, offRegs_setF, offRegs_setF]

theorem recordShown_rest (s : State) (v : Nat) (found : Bool) (bs : List Byte) :
    recordShown s v found bs = { s with regs := (recordShown s v found bs).regs } :=
  eq_of_offRegs (offRegs_recordShown ..)

theorem recordShown_ready (s : State) (v : Nat) (found : Bool) (bs : List Byte) :
    onF (recordShown s v found bs) Reg.USE_STAT_READY 0 = found := by
  unfold recordShown
  rw [onF, getF_setRdData_below _ _ (by decide), getF_setF_ne _ _ (by decide), getF_setF_same]
  cases found <;> rfl

theorem recordShown_absent (s : State) (v : Nat) (found : Bool) (bs : List Byte) :
    onF (recordShown s v found bs) Reg.USE_STAT_ABSENT 0 = !found := by
  unfold recordShown
  rw [onF, getF_setRdData_below _ _ (by decide), getF_setF_same]
  cases found <;> rfl

theorem recordShown_gives (s : State) (v : Nat) (found : Bool) (bs : List Byte) :
    onF (recordShown s v found bs) Reg.USE_STAT_READY 0 = found ∧ onF (recordShown s v found bs) Reg.USE_STAT_ABSENT 0 = !found ∧
    (∀ k < 408, getF (recordShown s v found bs) Reg.USE_RD_DATA 0 k = leAt bs (4 * k) 4 % 2 ^ 32) ∧
    recordShown s v found bs = { s with regs := (recordShown s v found bs).regs } :=
  ⟨recordShown_ready .., recordShown_absent .., fun _ word => getF_setRdData _ _ word, recordShown_rest ..⟩

section
variable {s : State} (up : answers s 18 = true) (v : Nat)
include up

theorem exec_intervalS : exec (.intervalS v) s =
    .next (if 1 ≤ v ∧ v ≤ 3600 then setF s Reg.USE_INTERVAL_S v 0 else setF s Reg.USE_STAT_BAD_WRITE 1 0) :=
  congrArg _ (regWrite_answers up _)

theorem exec_ackSeq : exec (.ackSeq v) s =
    .next (usageRegs { s with tele := { s.tele with store := s.tele.store.filter (fun r => decide (v < r.seq)) } }) :=
  congrArg _ (regWrite_answers up _)

theorem exec_rdSeq_found {r : UsageRec} (found : s.tele.store.find? (fun r => r.seq == v) = some r) :
    exec (.rdSeq v) s = .next (recordShown s v true r.bytes) := by
  have found : (setF s Reg.USE_RD_SEQ v 0).tele.store.find? (fun r => r.seq == v) = some r := found
  show execRdSeq v s = _
  unfold execRdSeq
  rw [regWrite_answers up]
  dsimp only
  rw [found]
  rfl

theorem exec_rdSeq_absent (absent : s.tele.store.find? (fun r => r.seq == v) = none) :
    exec (.rdSeq v) s = .next (recordShown s v false []) := by
  have absent : (setF s Reg.USE_RD_SEQ v 0).tele.store.find? (fun r => r.seq == v) = none := absent
  show execRdSeq v s = _
  unfold execRdSeq
  rw [regWrite_answers up]
  dsimp only
  rw [absent]
  rfl

end

theorem leAt_nil (i n : Nat) : leAt [] i n = 0 := by
  have zeros : ∀ n, leNat (List.replicate n 0) = 0 := fun n => by
    induction n with
    | zero => rfl
    | succ n ih => exact (congrArg (fun v => 0 + 256 * v) ih)
  unfold leAt slice
  rw [List.drop_nil, List.take_nil]
  exact zeros _

/-- Settles O44. An interval closes with a record for each pair of its counts, while the store has room. -/
theorem usageEvidence : Obligations.UsageEvidence := by
  refine ⟨fun s up => ⟨_, exec_usageCounts up, rfl, rfl, rfl, rfl, agreeBut_putF (fun _ _ => rfl) _ _ 0 0 List.mem_cons_self⟩,
    fun s => ⟨fun early => ?_, fun due full => ?_, fun due room => ?_⟩,
    fun v s up => ⟨fun low high => ?_, fun out => ?_, ?_, fun r found => ?_, fun absent => ?_⟩⟩
  · exact congrArg _ (if_neg (Nat.not_lt.2 early))
  · exact congrArg _ ((if_pos due).trans (closeInterval_full _ full))
  · obtain ⟨tele, mem, extended, start⟩ := closeInterval_gives (lastBoundary s) room
    refine ⟨closeInterval s (lastBoundary s), congrArg _ (if_pos due), ⟨intervalRecords s (lastBoundary s), ?_,
      length_intervalRecords .., fun i r => seq_intervalRecords⟩, ?_, ?_, extended, start, ?_, mem⟩
    · rw [tele]
      rfl
    · rw [tele, ← length_intervalRecords s (lastBoundary s)]
      rfl
    · rw [tele]
      rfl
    · rw [tele]
      rfl
  · rw [exec_intervalS up, if_pos ⟨low, high⟩]
  · rw [exec_intervalS up, if_neg (by omega)]
  · refine ⟨_, exec_ackSeq up v, fun r => ?_, held_usageRegs _, rfl, rfl⟩
    rw [tele_usageRegs]
    simp
  · exact ⟨_, exec_rdSeq_found up v found, recordShown_gives ..⟩
  · obtain ⟨ready, absence, data, rest⟩ := recordShown_gives s v false []
    exact ⟨_, exec_rdSeq_absent up v absent, ready, absence, fun k word => (data k word).trans (by rw [leAt_nil, Nat.zero_mod]), rest⟩

end Sys2Proof.Machine

end

section
/-! A fault record in the lamp domain: counted, suppressed or logged (R381 to R384, R411, R489; O45). -/

namespace Sys2Proof.Machine

/-! ### What telling of a fault leaves as it was -/

/-- The fields, by their first instances, that are written when a logged record is told of. -/
def toldKeys : List Nat :=
  [Reg.PAGE_ERR_CLASS, Reg.PAGE_TIME_LO, Reg.PAGE_TIME_HI, Reg.ERR_RING_HEAD, Reg.ERR_RING_TAIL, Reg.ERR_RING_LOST,
    Reg.HST_WR_BYTES, Reg.SYS_MOD_FAULT, Reg.MGT_EVENTS_PENDING].map (fun f => f.key 0 0)

/-- The fault log and all fields but those of the telling stand as they were. -/
structure Told (s t : State) : Prop where
  faults : t.faults = s.faults
  fields : ∀ (f : Fld) (i k : Nat), i < 131072 → f.key 0 k ∉ toldKeys → getF t f i k = getF s f i k

theorem Told.refl (s : State) : Told s s := ⟨rfl, fun _ _ _ _ _ => rfl⟩

theorem Told.trans {s t u : State} (h : Told s t) (k : Told t u) : Told s u :=
  ⟨k.faults.trans h.faults, fun f i l small apart => (k.fields f i l small apart).trans (h.fields f i l small apart)⟩

theorem told_setF (s : State) {g : Fld} (v : Nat) {i : Nat} (telling : g.key 0 0 ∈ toldKeys) (small : i < 131072) :
    Told s (setF s g v i) :=
  ⟨rfl, fun _ _ _ index apart => getF_setF_apart s v (ne_of_mem_of_not_mem telling apart).symm small index⟩

theorem told_hostWrite (s : State) (a : Nat) (bs : List Byte) : Told s (hostWrite s a bs) :=
  have counts : Reg.HST_WR_BYTES.key 0 0 ∈ toldKeys := by decide
  ⟨rfl, fun _ _ _ index apart => getF_setF_apart _ _ (ne_of_mem_of_not_mem counts apart).symm (by omega) index⟩

theorem told_refreshIrq (s : State) (p : Nat) : Told s (refreshIrq s p) := by
  unfold refreshIrq
  dsimp only
  split_ifs
  · exact .refl s
  · exact ⟨rfl, fun _ _ _ _ _ => rfl⟩
  · exact ⟨rfl, fun _ _ _ _ _ => rfl⟩
  · exact ⟨rfl, fun _ _ _ _ _ => rfl⟩

theorem told_setPageErr (s : State) {p : Nat} (page : p < 4096) (v : Nat) : Told s (setPageErr s p Reg.PAGE_ERR_CLASS v) := by
  have noted : Told s (setF s Reg.PAGE_ERR_CLASS (getF s Reg.PAGE_ERR_CLASS p ||| v) p) := told_setF s _ (by decide) (by omega)
  have timed : ∀ s : State, Told s (pageEvent s p) := fun s =>
    (told_setF s _ (by decide) (by omega)).trans (told_setF _ _ (by decide) (by omega))
  unfold setPageErr
  dsimp only
  split_ifs
  · exact noted.trans (told_refreshIrq ..)
  · exact (noted.trans (timed _)).trans (told_refreshIrq ..)

theorem told_ringFault (s : State) (r : FaultRec) : Told s (ringFault s r) := by
  have signalled : ∀ (s : State) (v : Nat), Told s (msix s v) := fun _ _ => ⟨rfl, fun _ _ _ _ _ => rfl⟩
  have roomed : Told s (ringRoomed s errRing) := by
    unfold ringRoomed
    split_ifs
    · exact (told_setF s _ (by decide) (by omega)).trans (told_setF _ _ (by decide) (by omega))
    · exact .refl s
  unfold ringFault
  split_ifs
  · rw [ringPut_eq]
    exact ((roomed.trans (told_hostWrite ..)).trans (told_setF _ _ (by decide) (by omega))).trans (signalled ..)
  · exact .refl s

theorem told_modFault (s : State) (code : Nat) : Told s (modFault s code) := by
  have pulled : Told s { s with pins := { s.pins with modFaultN := false } } := ⟨rfl, fun _ _ _ _ _ => rfl⟩
  unfold modFault
  split_ifs
  · exact pulled.trans (told_setF _ _ (by decide) (by omega))
  · exact .refl s

theorem told_pldmEvent (s : State) (r : FaultRec) : Told s (pldmEvent s r) := by
  have sent : ∀ (s : State) (io : Io), Told s { s with io := io } := fun _ _ => ⟨rfl, fun _ _ _ _ _ => rfl⟩
  have queued : ∀ (s : State) (m : Mgmt), Told s { s with mgmt := m } := fun _ _ => ⟨rfl, fun _ _ _ _ _ => rfl⟩
  have pinned : ∀ (s : State) (p : Pins), Told s { s with pins := p } := fun _ _ => ⟨rfl, fun _ _ _ _ _ => rfl⟩
  unfold pldmEvent
  dsimp only
  split_ifs
  · exact sent ..
  · exact ((queued ..).trans (told_setF _ _ (by decide) (by omega))).trans (pinned ..)
  · exact .refl s

theorem pldmEvent_keeps (s : State) (r : FaultRec) :
    (pldmEvent s r).mem = s.mem ∧ (pldmEvent s r).pins.modFaultN = s.pins.modFaultN ∧
      getF (pldmEvent s r) Reg.SYS_MOD_FAULT 0 = getF s Reg.SYS_MOD_FAULT 0 := by
  unfold pldmEvent
  dsimp only
  split_ifs
  · exact ⟨rfl, rfl, rfl⟩
  · exact ⟨rfl, rfl, getF_setF_ne _ _ (by decide)⟩
  · exact ⟨rfl, rfl, rfl⟩

theorem refreshIrq_keeps (s : State) (p : Nat) : (refreshIrq s p).mem = s.mem ∧ (refreshIrq s p).pins = s.pins := by
  unfold refreshIrq
  dsimp only
  split_ifs <;> exact ⟨rfl, rfl⟩

theorem setF_keeps (s : State) (f : Fld) (v i k : Nat) : (setF s f v i k).mem = s.mem ∧ (setF s f v i k).pins = s.pins :=
  ⟨rfl, rfl⟩

theorem pageEvent_keeps (s : State) (p : Nat) : (pageEvent s p).mem = s.mem ∧ (pageEvent s p).pins = s.pins := ⟨rfl, rfl⟩

/-- A page's error bits, with the time of a new one. -/
def errorNoted (s : State) (p : Nat) (f : Fld) (v : Nat) : State :=
  if getF s f p ||| v = getF s f p then setF s f (getF s f p ||| v) p else pageEvent (setF s f (getF s f p ||| v) p) p

theorem setPageErr_eq (s : State) (p : Nat) (f : Fld) (v : Nat) : setPageErr s p f v = refreshIrq (errorNoted s p f v) p := rfl

theorem errorNoted_keeps (s : State) (p : Nat) (f : Fld) (v : Nat) :
    (errorNoted s p f v).mem = s.mem ∧ (errorNoted s p f v).pins = s.pins := by
  unfold errorNoted
  split_ifs
  · exact setF_keeps ..
  · rw [(pageEvent_keeps ..).1, (pageEvent_keeps ..).2]
    exact setF_keeps ..

theorem setPageErr_keeps (s : State) (p : Nat) (f : Fld) (v : Nat) :
    (setPageErr s p f v).mem = s.mem ∧ (setPageErr s p f v).pins = s.pins := by
  rw [setPageErr_eq, (refreshIrq_keeps ..).1, (refreshIrq_keeps ..).2]
  exact errorNoted_keeps ..

theorem pins_ringPut (s : State) (g : Ring) (bs : List Byte) : (ringPut s g bs).pins = s.pins := by
  have room : (ringRoomed s g).pins = s.pins := by
    unfold ringRoomed
    split_ifs <;> rfl
  rw [ringPut_eq]
  exact room

theorem pins_ringFault (s : State) (r : FaultRec) : (ringFault s r).pins = s.pins := by
  have signalled : ∀ (s : State) (v : Nat), (msix s v).pins = s.pins := fun _ _ => rfl
  unfold ringFault
  split_ifs
  · rw [signalled, pins_ringPut]
  · rfl

/-! ### The record in the log -/

/-- The record of a fault item in the log. -/
def logRecordOf (s : State) (it : FaultItem) : FaultRec := ⟨it, isRepeat s it, getF s Reg.ERR_SEQ 0 + 1, s.lampTime⟩

/-- The state with a fault item counted by its class. -/
def counted (s : State) (it : FaultItem) : State := addF s Reg.ERR_CLASS_CNT 1 0 (classOf it.code)

/-- The state with a fault item counted and its record at the head of the log. -/
def logged (s : State) (it : FaultItem) : State :=
  pushLog (setF (counted s it) Reg.ERR_SEQ (getF s Reg.ERR_SEQ 0 + 1) 0) (logRecordOf s it)

/-- The state with what suppresses and what marks a repetition of the item noted. -/
def remembered (s : State) (it : FaultItem) : State :=
  { s with faults := { s.faults with
    suppress := (it.code, faultSource it, lampSecond s)
      :: s.faults.suppress.filter (fun x => x.2.2 = lampSecond s)
    seen := match seenKey it with
      | some k => addOnce s.faults.seen k
      | none => s.faults.seen } }

/-- The page of the item's block with the item's class noted. -/
def pageNoted (s : State) (it : FaultItem) : State :=
  match it.block with
  | some b => setPageErr s (pageOfIdent b) Reg.PAGE_ERR_CLASS (2 ^ classOf it.code)
  | none => s

theorem classOf_lt (code : Nat) : classOf code < 5 := by
  unfold classOf
  split_ifs <;> decide

theorem class_apart {c : Nat} (h : c < 5) :
    Reg.ERR_CLASS_CNT.key 0 c ∉ toldKeys ∧ Reg.ERR_CLASS_CNT.key 0 c ≠ Reg.ERR_SEQ.key 0 0 ∧
      Reg.ERR_CLASS_CNT.key 0 c ≠ Reg.ERR_LOG_LOST.key 0 0 ∧ Reg.ERR_CLASS_CNT.key 0 c ≠ Reg.ERR_SUPPRESSED.key 0 0 ∧
      Reg.ERR_CLASS_CNT.key 0 c ≠ Reg.ERR_CTL_RING_EN.key 0 0 := by
  revert c
  decide

section
variable (s : State) (it : FaultItem)

theorem getF_counted_class :
    getF (counted s it) Reg.ERR_CLASS_CNT 0 (classOf it.code) = min (getF s Reg.ERR_CLASS_CNT 0 (classOf it.code) + 1) (2 ^ 32 - 1) :=
  getF_addF_same ..

theorem getF_counted {f : Fld} (apart : Reg.ERR_CLASS_CNT.key 0 (classOf it.code) ≠ f.key 0 0) :
    getF (counted s it) f 0 = getF s f 0 := getF_setF_ne _ _ apart.symm

theorem logFault_suppressed (again : suppressed s it = true) : logFault s it = addF (counted s it) Reg.ERR_SUPPRESSED 1 0 :=
  if_pos again

theorem logFault_logged (new : suppressed s it = false) : logFault s it =
    pldmEvent (modFault (ringFault (pageNoted (remembered (logged s it) it) it) (logRecordOf s it)) it.code) (logRecordOf s it) := by
  obtain ⟨-, seq, -⟩ := class_apart (classOf_lt it.code)
  have still : ¬ suppressed (addF s Reg.ERR_CLASS_CNT 1 0 (classOf it.code)) it = true := by
    rw [Bool.not_eq_true]
    exact new
  have number : getF (addF s Reg.ERR_CLASS_CNT 1 0 (classOf it.code)) Reg.ERR_SEQ 0 = getF s Reg.ERR_SEQ 0 := getF_counted s it seq
  unfold logFault
  dsimp only
  rw [if_neg still, number]
  rfl

theorem told_pageNoted (page : ∀ b, it.block = some b → pageOfIdent b < 4096) : Told s (pageNoted s it) := by
  unfold pageNoted
  split
  next b block => exact told_setPageErr s (page b block) _
  · exact .refl s

theorem pageNoted_keeps : (pageNoted s it).mem = s.mem ∧ (pageNoted s it).pins = s.pins := by
  unfold pageNoted
  split
  · exact setPageErr_keeps ..
  · exact ⟨rfl, rfl⟩

theorem getF_logged {f : Fld} {k : Nat} (seq : f.key 0 k ≠ Reg.ERR_SEQ.key 0 0) (lost : f.key 0 k ≠ Reg.ERR_LOG_LOST.key 0 0) :
    getF (logged s it) f 0 k = getF (counted s it) f 0 k := by
  unfold logged pushLog
  exact (getF_setF_ne _ _ lost).trans (getF_setF_ne _ _ seq)

theorem getF_logged_seq : getF (logged s it) Reg.ERR_SEQ 0 = (getF s Reg.ERR_SEQ 0 + 1) % 2 ^ 32 := by
  unfold logged pushLog
  exact (getF_setF_ne _ _ (by decide)).trans (getF_setF_same ..)

theorem getF_logged_lost (full : 64 ≤ s.faults.log.length) :
    getF (logged s it) Reg.ERR_LOG_LOST 0 = min (getF s Reg.ERR_LOG_LOST 0 + 1) (2 ^ 32 - 1) := by
  obtain ⟨-, -, lost, -⟩ := class_apart (classOf_lt it.code)
  have before : getF (setF (counted s it) Reg.ERR_SEQ (getF s Reg.ERR_SEQ 0 + 1) 0) Reg.ERR_LOG_LOST 0 = getF s Reg.ERR_LOG_LOST 0 :=
    (getF_setF_ne _ _ (by decide)).trans (getF_counted s it lost)
  have many : ¬ (setF (counted s it) Reg.ERR_SEQ (getF s Reg.ERR_SEQ 0 + 1) 0).faults.log.length < 64 := Nat.not_lt.2 full
  unfold logged pushLog
  dsimp only
  rw [if_neg many]
  refine (getF_addF_same ..).trans ?_
  rw [← before]
  rfl

theorem logged_keeps : (logged s it).mem = s.mem ∧ (logged s it).pins = s.pins := ⟨rfl, rfl⟩

end

section
variable {s : State} {it : FaultItem} (new : suppressed s it = false)
include new

theorem modFaultN_logFault :
    (classOf it.code = 4 → (logFault s it).pins.modFaultN = false ∧ getF (logFault s it) Reg.SYS_MOD_FAULT 0 = 1) ∧
      (classOf it.code ≠ 4 → (logFault s it).pins.modFaultN = s.pins.modFaultN) := by
  have base : (remembered (logged s it) it).pins = s.pins := (logged_keeps s it).2
  obtain ⟨-, pin, fault⟩ := pldmEvent_keeps (modFault (ringFault (pageNoted (remembered (logged s it) it) it) (logRecordOf s it)) it.code)
    (logRecordOf s it)
  rw [logFault_logged s it new, pin, fault]
  refine ⟨fun fatal => ?_, fun other => ?_⟩
  · unfold modFault
    rw [if_pos fatal]
    exact ⟨rfl, getF_setF_same ..⟩
  · unfold modFault
    rw [if_neg other, pins_ringFault, (pageNoted_keeps ..).2, base]

variable (page : ∀ b, it.block = some b → pageOfIdent b < 4096)
include page

/-- A logged record is told of; the log stands as the record left it. -/
theorem told_logFault : Told (remembered (logged s it) it) (logFault s it) := by
  rw [logFault_logged s it new]
  exact (((told_pageNoted _ it page).trans (told_ringFault ..)).trans (told_modFault ..)).trans (told_pldmEvent ..)

theorem getF_logFault {f : Fld} {k : Nat} (telling : f.key 0 k ∉ toldKeys) :
    getF (logFault s it) f 0 k = getF (logged s it) f 0 k := (told_logFault new page).fields f 0 k (by decide) telling

theorem mem_logFault (off : onF s Reg.ERR_CTL_RING_EN 0 = false) : (logFault s it).mem = s.mem := by
  obtain ⟨-, -, -, -, ring⟩ := class_apart (classOf_lt it.code)
  have still : onF (pageNoted (remembered (logged s it) it) it) Reg.ERR_CTL_RING_EN 0 = false := by
    have same : getF (pageNoted (remembered (logged s it) it) it) Reg.ERR_CTL_RING_EN 0 = getF s Reg.ERR_CTL_RING_EN 0 :=
      ((told_pageNoted _ it page).fields _ 0 0 (by decide) (by decide)).trans
        ((getF_logged s it (by decide) (by decide)).trans (getF_counted s it ring))
    rw [onF, same]
    exact off
  have quiet : ringFault (pageNoted (remembered (logged s it) it) it) (logRecordOf s it) = pageNoted (remembered (logged s it) it) it :=
    if_neg (Bool.eq_false_iff.1 still)
  have pulled : ∀ (s : State) (code : Nat), (modFault s code).mem = s.mem := fun s code => by
    unfold modFault
    split_ifs <;> rfl
  rw [logFault_logged s it new, (pldmEvent_keeps ..).1, pulled, quiet, (pageNoted_keeps ..).1]
  exact (logged_keeps s it).1

end

/-- The fields, by their first instances, that a fault record can write. -/
def faultKeys : List Nat :=
  toldKeys ++ [Reg.ERR_SUPPRESSED, Reg.ERR_SEQ, Reg.ERR_LOG_LOST].map (fun f => f.key 0 0) ++
    (List.range 5).map (fun c => Reg.ERR_CLASS_CNT.key 0 c)

/-- The fields that no fault record writes are as they were. -/
theorem getF_logFault_other (s : State) {it : FaultItem} (page : ∀ b, it.block = some b → pageOfIdent b < 4096) {f : Fld} {i k : Nat}
    (small : i < 131072) (apart : f.key 0 k ∉ faultKeys) : getF (logFault s it) f i k = getF s f i k := by
  unfold faultKeys at apart
  rw [List.mem_append, List.mem_append, not_or, not_or] at apart
  obtain ⟨⟨telling, single⟩, byClass⟩ := apart
  have out : ∀ g ∈ [Reg.ERR_SUPPRESSED, Reg.ERR_SEQ, Reg.ERR_LOG_LOST], f.key 0 k ≠ g.key 0 0 := fun g mem same =>
    single (List.mem_map.2 ⟨g, mem, same.symm⟩)
  have class_ : f.key 0 k ≠ Reg.ERR_CLASS_CNT.key 0 (classOf it.code) := fun same =>
    byClass (List.mem_map.2 ⟨_, List.mem_range.2 (classOf_lt it.code), same.symm⟩)
  have before : getF (counted s it) f i k = getF s f i k := getF_setF_apart _ _ class_ (by decide) small
  cases again : suppressed s it with
  | true =>
    rw [logFault_suppressed s it again]
    exact (getF_setF_apart _ _ (out _ (by simp)) (by decide) small).trans before
  | false =>
    rw [(told_logFault again page).fields f i k small telling]
    unfold remembered logged pushLog
    exact ((getF_setF_apart _ _ (out _ (by simp)) (by decide) small).trans
      (getF_setF_apart _ _ (out _ (by simp)) (by decide) small)).trans before

/-- The fields of a state that no fault record changes. -/
theorem logFault_rest (s : State) (it : FaultItem) :
    (logFault s it).mem.store = s.mem.store ∧ (logFault s it).mem.stack = s.mem.stack ∧ (logFault s it).serve = s.serve ∧
      (logFault s it).cores = s.cores ∧ (logFault s it).chases = s.chases := by
  have same := offLog_logFault s it
  generalize logFault s it = t at same ⊢
  have store : (offLog t).mem.store = (offLog s).mem.store := by rw [same]
  have stack : (offLog t).mem.stack = (offLog s).mem.stack := by rw [same]
  have serve : (offLog t).serve = (offLog s).serve := by rw [same]
  have cores : (offLog t).cores = (offLog s).cores := by rw [same]
  have chases : (offLog t).chases = (offLog s).chases := by rw [same]
  exact ⟨store, stack, serve, cores, chases⟩

theorem suppressed_regsOnly (s : State) (it : FaultItem) : RegsOnly s (addF (counted s it) Reg.ERR_SUPPRESSED 1 0)
    [Reg.ERR_CLASS_CNT.key 0 (classOf it.code), Reg.ERR_SUPPRESSED.key 0 0] :=
  setF_regsOnly (setF_regsOnly (regsOnly_refl _ _) _ _ _ _ List.mem_cons_self) _ _ _ _ (List.mem_cons_of_mem _ List.mem_cons_self)

/-- Settles O45. Past the count by class a record is either suppressed or logged and then told of. -/
theorem faultRecordLogged : Obligations.FaultRecordLogged := by
  intro it s page
  obtain ⟨telling, seq, lost, repeated, -⟩ := class_apart (classOf_lt it.code)
  obtain ⟨store, stack, serve, cores, chases⟩ := logFault_rest s it
  refine ⟨?_, store, stack, serve, cores, chases, fun again => ?_, fun new => ?_⟩
  · cases again : suppressed s it with
    | true =>
      rw [logFault_suppressed s it again]
      exact (getF_setF_ne _ _ repeated).trans (getF_counted_class s it)
    | false => rw [getF_logFault again page telling, getF_logged s it seq lost, getF_counted_class]
  · rw [logFault_suppressed s it again]
    refine ⟨suppressed_regsOnly s it, (getF_addF_same ..).trans ?_⟩
    rw [getF_counted s it repeated]
    rfl
  · obtain ⟨faults, -⟩ := told_logFault new page
    obtain ⟨fatal, other⟩ := modFaultN_logFault new
    refine ⟨?_, ?_, ?_, ?_, fun full => ?_, mem_logFault new page, fatal, other⟩
    · rw [faults]
      rfl
    · rw [getF_logFault new page (by decide), getF_logged_seq]
    · rw [faults]
      rfl
    · rw [faults]
      rfl
    · rw [getF_logFault new page (by decide), getF_logged_lost s it full]

end Sys2Proof.Machine

end

section
/-! Register reads that change state, bad accesses, no answer, the T2 directory (R6, R7, R179, R411, R529 to R531, R541, R542;
O46). -/

namespace Sys2Proof.Machine

/-! ### Error bits of a page -/

theorem regs_refreshIrq (s : State) (p : Nat) : (refreshIrq s p).regs = s.regs := by
  unfold refreshIrq
  dsimp only
  split_ifs <;> rfl

/-- The fields but the error bits and the time of a page are as they were. -/
theorem getF_setPageErr (s : State) {p : Nat} (page : p < 131072) {f g : Fld} (v : Nat) {i k : Nat} (small : i < 131072)
    (bits : g.key 0 k ≠ f.key 0 0) (low : g.key 0 k ≠ Reg.PAGE_TIME_LO.key 0 0) (high : g.key 0 k ≠ Reg.PAGE_TIME_HI.key 0 0) :
    getF (setPageErr s p f v) g i k = getF s g i k := by
  have noted : getF (errorNoted s p f v) g i k = getF s g i k := by
    unfold errorNoted pageEvent
    split_ifs
    · exact getF_setF_apart _ _ bits page small
    · rw [getF_setF_apart _ _ high page small, getF_setF_apart _ _ low page small, getF_setF_apart _ _ bits page small]
  rw [setPageErr_eq, getF_congr (regs_refreshIrq ..), noted]

/-- The error bit that is set reads as one. -/
theorem onF_setPageErr (s : State) (p : Nat) {f : Fld} (bit : f.width = 1) (low : f.key 0 0 ≠ Reg.PAGE_TIME_LO.key 0 0)
    (high : f.key 0 0 ≠ Reg.PAGE_TIME_HI.key 0 0) : onF (setPageErr s p f 1) f p = true := by
  have odd : ∀ v : Nat, (v ||| 1) % 2 = 1 := fun v => by
    have masked := Nat.or_mod_two_pow (a := v) (b := 1) (n := 1)
    rw [Nat.pow_one] at masked
    rw [masked]
    rcases Nat.mod_two_eq_zero_or_one v with h | h <;> rw [h] <;> rfl
  have noted : getF (errorNoted s p f 1) f p = 1 := by
    unfold errorNoted pageEvent
    split_ifs
    · rw [getF_setF_same, bit, Nat.pow_one, odd]
    · rw [getF_setF_other _ _ _ high, getF_setF_other _ _ _ low, getF_setF_same, bit, Nat.pow_one, odd]
  rw [onF, setPageErr_eq, getF_congr (regs_refreshIrq ..), noted]
  rfl

theorem serve_of_offLog {s t : State} (same : offLog t = offLog s) : t.serve = s.serve := by
  have serve : (offLog t).serve = (offLog s).serve := by rw [same]
  exact serve

theorem serve_setPageErr (s : State) (p : Nat) (f : Fld) (v : Nat) : (setPageErr s p f v).serve = s.serve :=
  serve_of_offLog (offLog_setPageErr s p f v)

/-! ### Words that a read clears -/

/-- A field has a word or half at an offset. -/
def Fld.coversAt (f : Fld) (off : Nat) : Bool :=
  f.acc != .wo && (if f.pair then f.off == off || f.off + 4 == off else decide (f.off ≤ off ∧ off < f.off + 4 * f.count))

theorem fieldPart_uncovered (s : State) (i : Nat) {off : Nat} {f : Fld} (h : f.coversAt off = false) : fieldPart s i off f = 0 := by
  unfold Fld.coversAt at h
  unfold fieldPart
  by_cases wo : f.acc = .wo
  · exact if_pos wo
  · rw [if_neg wo]
    have covered := (Bool.and_eq_false_iff.1 h).resolve_left (by simp [wo])
    cases pair : f.pair with
    | true =>
      rw [pair, if_pos rfl, Bool.or_eq_false_iff, beq_eq_false_iff_ne, beq_eq_false_iff_ne] at covered
      rw [if_pos rfl, if_neg covered.1, if_neg covered.2]
    | false =>
      rw [pair, if_neg Bool.false_ne_true] at covered
      rw [if_neg Bool.false_ne_true, if_neg (of_decide_eq_false covered)]

/-- A word is the sum of the parts of the fields that have a place in it. -/
theorem storedWord_eq (s : State) (ty n off : Nat) : storedWord s ty n off =
    (((fieldsOf ty).filter (fun f => f.coversAt off)).map (fieldPart s (bankInst s ty n off) off)).sum := by
  unfold storedWord
  induction fieldsOf ty with
  | nil => rfl
  | cons f l ih =>
    cases covers : f.coversAt off with
    | true => rw [List.filter_cons_of_pos (p := fun f : Fld => f.coversAt off) covers, List.map_cons, List.map_cons, List.sum_cons, List.sum_cons, ih]
    | false =>
      rw [List.filter_cons_of_neg (p := fun f : Fld => f.coversAt off) (by simp [covers]), List.map_cons, List.sum_cons, fieldPart_uncovered s _ covers, Nat.zero_add, ih]

theorem beacon_of_answers {s : State} {p : Nat} (up : answers s p = true) : beaconOf s p ≠ Beacon.dark := by
  intro dark
  unfold answers at up
  rw [dark] at up
  exact absurd up (by decide)

/-- The counter `f` has a word of its own in pages of type `ty`, which a read clears. -/
structure ClearedWord (ty : Nat) (f : Fld) : Prop where
  start : f.lo = 0
  scalar : f.pair = false
  readable : f.acc ≠ .wo
  one : 0 < f.count
  block : 0x040 ≤ f.off
  inside : f.off < 0x1000
  aligned : f.off % 4 = 0
  only : (fieldsOf ty).filter (fun g => g.coversAt f.off) = [f]
  cleared : (fieldsOf ty).filter (fun g => g.acc == .rc && g.off == f.off && !g.pair) = [f]

theorem clearedWord_slipLongest : ClearedWord 0x20 Reg.CHS_SLIP_LONGEST :=
  ⟨rfl, rfl, by decide, by decide, by decide, by decide, rfl, rfl, rfl⟩

theorem clearedWord_parkMax : ClearedWord 0x20 Reg.CHS_PARK_MAX :=
  ⟨rfl, rfl, by decide, by decide, by decide, by decide, rfl, rfl, rfl⟩

theorem clearedWord_ringLost : ClearedWord 0x08 Reg.ERR_RING_LOST :=
  ⟨rfl, rfl, by decide, by decide, by decide, by decide, rfl, rfl, rfl⟩

theorem clearedWord_suppressed : ClearedWord 0x08 Reg.ERR_SUPPRESSED :=
  ⟨rfl, rfl, by decide, by decide, by decide, by decide, rfl, rfl, rfl⟩

theorem clearedWord_logLost : ClearedWord 0x08 Reg.ERR_LOG_LOST :=
  ⟨rfl, rfl, by decide, by decide, by decide, by decide, rfl, rfl, rfl⟩

section
variable {s : State} {p ty n : Nat} {f : Fld} (up : answers s p = true) (page : pageType p = some (ty, n))
  (word : ClearedWord ty f) (bank : bankInst s ty n f.off = n) (stored : computedWord s ty n f.off = none)
include page word

theorem clearOnRead_clears : clearOnRead s p f.off = setF s f 0 n := by
  unfold clearOnRead
  rw [page]
  dsimp only
  rw [word.cleared]
  rfl

include up bank stored

/-- A word of one field reads as the field. -/
theorem wordAt_one : wordAt s p f.off = getF s f n := by
  unfold wordAt
  rw [page]
  dsimp only
  rw [if_neg (Nat.not_lt.2 word.block), if_neg (beacon_of_answers up), stored, Option.getD_none, storedWord_eq, word.only, bank,
    List.map_singleton, List.sum_singleton]
  have one := word.one
  unfold fieldPart
  rw [if_neg word.readable, word.scalar, if_neg Bool.false_ne_true, if_pos ⟨le_rfl, by omega⟩, Nat.sub_self, word.start,
    Nat.pow_zero, Nat.mul_one]

/-- A read of a counter returns its count and leaves it at zero (R6). -/
theorem readReg_clears (r : Requester) (debug : p < 0x1000) (plain : p * 0x1000 + f.off ≠ 0xB0A0)
    (low : pairLowAt p f.off = false) (high : pairLowAt p (f.off - 4) = false) :
    readReg s r (p * 0x1000 + f.off) = readResult (setF s f 0 n) r (getF s f n) := by
  have inside := word.inside
  have aligned := word.aligned
  have div : (p * 0x1000 + f.off) / 0x1000 = p := by omega
  have mod : (p * 0x1000 + f.off) % 0x1000 = f.off := by omega
  have known : ¬ (pageType p).isNone = true := by simp [page]
  have noHigh : ¬ pairHighAt p f.off = true := by simp [pairHighAt, high]
  unfold readReg readWord
  dsimp only
  rw [div, mod, if_neg (by omega), if_neg (by unfold debugBase; omega), if_neg known, if_neg (fun h => plain h.1), low,
    if_neg Bool.false_ne_true, if_neg noHigh, if_pos up, wordAt_one up page word bank stored, clearOnRead_clears page word]

end

theorem pageType_chase (n : ChaseId) : pageType (256 + n.val) = some (0x20, n.val) := by
  unfold pageType
  rw [if_neg (by omega), if_pos (by omega), Nat.add_sub_cancel_left]

theorem pairLowAt_of_page {p ty n off : Nat} (page : pageType p = some (ty, n)) (time : off ≠ 0x028)
    (single : (fieldsOf ty).any (fun f => f.pair && f.off == off) = false) : pairLowAt p off = false := by
  unfold pairLowAt
  rw [page, Option.any_some, single, Bool.or_false]
  exact beq_false_of_ne time

theorem exec_slipLongest {s : State} (r : Requester) {n : ChaseId} (up : answers s (256 + n.val) = true) :
    exec (.slipLongest r n) s =
      .next (readResult (setF s Reg.CHS_SLIP_LONGEST 0 n.val) r (getF s Reg.CHS_SLIP_LONGEST n.val)) := by
  have small := n.isLt
  have page := pageType_chase n
  exact congrArg _ (readReg_clears up page clearedWord_slipLongest rfl rfl r (by omega)
    (by rw [show Reg.CHS_SLIP_LONGEST.off = 0x060 from rfl]; omega)
    (pairLowAt_of_page page (by decide) rfl) (pairLowAt_of_page page (by decide) rfl))

theorem exec_parkMax {s : State} (r : Requester) {n : ChaseId} (up : answers s (256 + n.val) = true) :
    exec (.parkMax r n) s = .next (readResult (setF s Reg.CHS_PARK_MAX 0 n.val) r (getF s Reg.CHS_PARK_MAX n.val)) := by
  have small := n.isLt
  have page := pageType_chase n
  exact congrArg _ (readReg_clears up page clearedWord_parkMax rfl rfl r (by omega)
    (by rw [show Reg.CHS_PARK_MAX.off = 0x098 from rfl]; omega)
    (pairLowAt_of_page page (by decide) rfl) (pairLowAt_of_page page (by decide) rfl))

section
variable {s : State} (r : Requester) (up : answers s 7 = true)
include up

/-- A counter of the fault page that a read clears. -/
theorem readReg_fault {f : Fld} (word : ClearedWord 0x08 f) (stored : computedWord s 0x08 0 f.off = none)
    (low : pairLowAt 7 f.off = false) (high : pairLowAt 7 (f.off - 4) = false) :
    readReg s r (7 * 0x1000 + f.off) = readResult (setF s f 0 0) r (getF s f 0) := by
  have inside := word.inside
  exact readReg_clears up rfl word rfl stored r (by decide) (by omega) low high

theorem exec_ringLost : exec (.ringLost r) s = .next (readResult (setF s Reg.ERR_RING_LOST 0 0) r (getF s Reg.ERR_RING_LOST 0)) :=
  congrArg _ (readReg_fault r up clearedWord_ringLost rfl (by decide) (by decide))

theorem exec_suppressed : exec (.suppressed r) s =
    .next (readResult (setF s Reg.ERR_SUPPRESSED 0 0) r (getF s Reg.ERR_SUPPRESSED 0)) :=
  congrArg _ (readReg_fault r up clearedWord_suppressed rfl (by decide) (by decide))

theorem exec_logLost : exec (.logLost r) s = .next (readResult (setF s Reg.ERR_LOG_LOST 0 0) r (getF s Reg.ERR_LOG_LOST 0)) :=
  congrArg _ (readReg_fault r up clearedWord_logLost rfl (by decide) (by decide))

end

/-! ### Expired handles -/

/-- The high half of a pair is kept for the requester's next read. -/
def highLatched (s : State) (r : Requester) (addr high : Nat) : State :=
  { s with io := { s.io with pairLatch := kset s.io.pairLatch (latchKey r addr) high } }

theorem highLatched_read (s : State) (r : Requester) (addr high v : Nat) :
    kget? (readResult (highLatched s r addr high) r v).io.readData (reqNum r) = some v ∧
      kget? (readResult (highLatched s r addr high) r v).io.pairLatch (latchKey r addr) = some high ∧
      (readResult (highLatched s r addr high) r v).regs = s.regs ∧ (readResult (highLatched s r addr high) r v).mem = s.mem ∧
      (readResult (highLatched s r addr high) r v).serve = s.serve :=
  ⟨kget?_kset_same .., kget?_kset_same .., rfl, rfl, rfl⟩

section
variable {s : State} (r : Requester) (up : answers s 11 = true)
include up

theorem exec_convExpired : exec (.convExpired r) s =
    .next (readResult (highLatched (popExpired s).2 r 0xB0A0 ((popExpired s).1 / 2 ^ 32)) r ((popExpired s).1 % 2 ^ 32)) := by
  show execConvExpired r s = _
  unfold execConvExpired readReg readWord
  dsimp only
  rw [if_neg (by decide), if_neg (by decide), if_neg (by decide), if_pos ⟨rfl, up⟩]
  rfl

theorem convExpired_held {h : Nat} {rest : List Nat} (fifo : s.serve.convFifo = h :: rest) : Gives (.convExpired r) s fun t =>
    kget? t.io.readData (reqNum r) = some (h % 2 ^ 32) ∧ kget? t.io.pairLatch (latchKey r 0xB0A0) = some (h / 2 ^ 32) ∧
    (s.serve.convWait = [] → t.serve = { s.serve with convFifo := rest } ∧ t.regs = s.regs) := by
  have popped : popExpired s = (h, drainExpiries { s with serve := { s.serve with convFifo := rest } } s.serve.convWait) := by
    unfold popExpired
    rw [fifo]
  obtain ⟨data, latch, regs, -, serve⟩ := highLatched_read (popExpired s).2 r 0xB0A0 ((popExpired s).1 / 2 ^ 32)
    ((popExpired s).1 % 2 ^ 32)
  refine ⟨_, exec_convExpired r up, data.trans (by rw [popped]), latch.trans (by rw [popped]), fun waiting => ?_⟩
  rw [serve, regs, popped, waiting]
  dsimp only
  unfold drainExpiries
  refine ⟨?_, rfl⟩
  show { s.serve with convFifo := rest, convWait := [] } = _
  rw [← waiting]

theorem convExpired_none (fifo : s.serve.convFifo = []) : Gives (.convExpired r) s fun t =>
    kget? t.io.readData (reqNum r) = some 0 ∧ onF t Reg.PAGE_ERR_UNDERRUN 11 = true ∧ t.serve = s.serve := by
  have popped : popExpired s = (0, setPageErr s 11 Reg.PAGE_ERR_UNDERRUN 1) := by
    unfold popExpired
    rw [fifo]
  obtain ⟨data, -, regs, -, serve⟩ := highLatched_read (popExpired s).2 r 0xB0A0 ((popExpired s).1 / 2 ^ 32)
    ((popExpired s).1 % 2 ^ 32)
  refine ⟨_, exec_convExpired r up, data.trans (by rw [popped, Nat.zero_mod]), ?_, ?_⟩
  · rw [onF, getF_congr regs, popped]
    exact onF_setPageErr s 11 (f := Reg.PAGE_ERR_UNDERRUN) rfl (by decide) (by decide)
  · rw [serve, popped]
    exact serve_setPageErr ..

end

/-! ### Pairs -/

section
variable {s : State} (r : Requester) {addr : Nat} (debug : addr < debugBase) (known : (pageType (addr / 0x1000)).isSome = true)
  (pair : pairLowAt (addr / 0x1000) (addr % 0x1000) = true) (plain : addr ≠ 0xB0A0)
include debug known pair plain

theorem exec_pairLowRead (aligned : addr % 4 = 0) : exec (.pairLowRead r ⟨addr, false⟩) s =
    .next (readResult (highLatched s r addr (wordAt s (addr / 0x1000) (addr % 0x1000 + 4))) r
      (wordAt s (addr / 0x1000) (addr % 0x1000))) := by
  have low : addr < 0x1000000 := debug
  show execPairLowRead r ⟨addr, false⟩ s = _
  unfold execPairLowRead
  dsimp only
  rw [if_neg Bool.false_ne_true]
  unfold readReg readWord
  dsimp only
  rw [if_neg (by omega), if_neg (Nat.not_le.2 debug), if_neg (by simp [Option.isSome_iff_ne_none.1 known]),
    if_neg (fun h => plain h.1), if_pos pair]
  rfl

theorem exec_pairLowRead_wide (aligned : addr % 8 = 0) : exec (.pairLowRead r ⟨addr, true⟩) s = .next (readResult s r
    (wordAt s (addr / 0x1000) (addr % 0x1000) + 2 ^ 32 * wordAt s (addr / 0x1000) (addr % 0x1000 + 4))) := by
  have low : addr < 0x1000000 := debug
  have refused : ¬ ((pageType (addr / 0x1000)).isNone || !pairLowAt (addr / 0x1000) (addr % 0x1000)) = true := by
    simp [pair, Option.isSome_iff_ne_none.1 known]
  show execPairLowRead r ⟨addr, true⟩ s = _
  unfold execPairLowRead
  dsimp only
  rw [if_pos rfl]
  unfold readRegWide readWide
  dsimp only
  rw [if_neg (by omega), if_neg (Nat.not_le.2 debug), if_neg refused, if_neg (fun h => plain h.1)]

end

theorem exec_pairLowRead_bad {s : State} (r : Requester) {addr : Nat}
    (bad : addr % 8 ≠ 0 ∨ (addr < debugBase ∧ pairLowAt (addr / 0x1000) (addr % 0x1000) = false)) :
    exec (.pairLowRead r ⟨addr, true⟩) s = .next (readResult (flagBadAccess s addr) r 0) := by
  show execPairLowRead r ⟨addr, true⟩ s = _
  unfold execPairLowRead
  dsimp only
  rw [if_pos rfl]
  unfold readRegWide readWide
  dsimp only
  by_cases misaligned : addr % 8 ≠ 0 ∨ 0x4000000 ≤ addr
  · rw [if_pos misaligned]
  · obtain ⟨debug, pair⟩ := bad.resolve_left (fun h => misaligned (.inl h))
    rw [if_neg misaligned, if_neg (Nat.not_le.2 debug), if_pos (by rw [pair]; exact Bool.or_true _)]

/-! ### Bad accesses and no answer -/

theorem exec_badAccess_read (s : State) (r : Requester) (addr : Nat) :
    exec (.badAccess r addr true) s = .next (readResult (flagBadAccess s addr) r 0) := by
  show execBadAccess r addr true s = _
  unfold execBadAccess
  dsimp only
  rw [if_pos rfl]

theorem exec_badAccess_write (s : State) (r : Requester) (addr : Nat) :
    exec (.badAccess r addr false) s = .next (flagBadAccess s addr) := by
  show execBadAccess r addr false s = _
  unfold execBadAccess
  dsimp only
  rw [if_neg Bool.false_ne_true]

theorem pageType_none {p : Nat} (h : 2052 ≤ p) : pageType p = none := by
  unfold pageType
  rw [if_neg (by omega), if_neg (by omega), if_neg (by omega), if_neg (by omega), if_neg (by omega), if_neg (by omega),
    if_neg (by omega)]

theorem flagged_page (addr : Nat) : (if (pageType (addr / 0x1000)).isSome then addr / 0x1000 else 0) < 131072 := by
  split_ifs with known
  · by_contra far
    rw [pageType_none (by omega)] at known
    exact Bool.false_ne_true known
  · decide

theorem getF_flagBadAccess (s : State) (addr : Nat) :
    getF (flagBadAccess s addr) Reg.SYS_BAD_ACCESS_CNT 0 = min (getF s Reg.SYS_BAD_ACCESS_CNT 0 + 1) (2 ^ 32 - 1) ∧
    getF (flagBadAccess s addr) Reg.SYS_BAD_ACCESS_ADDR 0 = addr % 2 ^ Reg.SYS_BAD_ACCESS_ADDR.width := by
  have page := flagged_page addr
  unfold flagBadAccess
  dsimp only
  refine ⟨?_, ?_⟩
  · rw [getF_addF_same, getF_setF_ne _ _ (by decide),
      getF_setPageErr s page _ (by omega) (by decide) (by decide) (by decide)]
    rfl
  · rw [getF_addF_other _ _ _ (by decide), getF_setF_same]

section
variable {s : State} (r : Requester) {addr : Nat} (served : (pageType (addr / 0x1000)).any (fun t => !lampServed t.1) = true)
  (up : answers s (addr / 0x1000) = true) (block : 0x40 ≤ addr % 0x1000)
include served up block

theorem exec_noAnswer_read : exec (.noAnswer r addr true) s =
    .next (readResult (setPageErr s (addr / 0x1000) Reg.PAGE_ERR_NO_ANSWER 1) r 0xFFFFFFFF) := by
  show execNoAnswer r addr true s = _
  unfold execNoAnswer
  dsimp only
  rw [served, up, decide_eq_true block, Bool.and_self, Bool.and_self, if_pos rfl, if_pos rfl]

theorem exec_noAnswer_write : exec (.noAnswer r addr false) s =
    .next (setPageErr s (addr / 0x1000) Reg.PAGE_ERR_NO_ANSWER 1) := by
  show execNoAnswer r addr false s = _
  unfold execNoAnswer
  dsimp only
  rw [served, up, decide_eq_true block, Bool.and_self, Bool.and_self, if_pos rfl, if_neg Bool.false_ne_true]

end

/-- Settles O46. A read is answered by its address: a handle, a pair, a counter that it clears, or nothing there. -/
theorem registerReads : Obligations.RegisterReads := by
  refine ⟨fun r n s => ?_, fun r s up => ⟨fun h rest fifo => convExpired_held r up fifo, fun fifo => convExpired_none r up fifo⟩,
    fun r addr s debug aligned known plain pair => ⟨?_, fun wide => exec_pairLowRead_wide r debug known pair plain wide⟩,
    fun r addr s bad => exec_pairLowRead_bad r bad,
    fun r addr s => ⟨exec_badAccess_read s r addr, exec_badAccess_write s r addr, (getF_flagBadAccess s addr).1,
      (getF_flagBadAccess s addr).2⟩,
    fun r addr s served up block => ⟨exec_noAnswer_read r served up block, exec_noAnswer_write r served up block⟩,
    fun h i s port up cxl mem => ?_⟩
  · simp only [List.forall_mem_cons, List.not_mem_nil, false_imp_iff, implies_true, and_true]
    exact ⟨exec_slipLongest r, exec_parkMax r, exec_ringLost r, exec_suppressed r, exec_logLost r⟩
  · obtain ⟨data, latch, regs, mem, -⟩ := highLatched_read s r addr (wordAt s (addr / 0x1000) (addr % 0x1000 + 4))
      (wordAt s (addr / 0x1000) (addr % 0x1000))
    exact ⟨_, exec_pairLowRead r debug known pair plain aligned, data, latch, regs, mem⟩
  · show execT2DirectoryRead (.host h) i s = _
    unfold execT2DirectoryRead
    dsimp only
    rw [if_pos ⟨port, up, cxl, mem⟩]

end Sys2Proof.Machine

end

section
/-! Register writes by their access code, locks, refused writes, clamps (R6, R344, R451, R474, R521, R529, R537, R538, R541;
O47). -/

namespace Sys2Proof.Machine

theorem exec_registerWrite_management (addr : Nat) (wide : Bool) (v : Nat) (s : State) :
    exec (.registerWrite .management addr wide v) s = .next s := by
  show execRegisterWrite .management addr wide v s = _
  unfold execRegisterWrite
  rfl

/-- A 32-bit write of a word that is no half of a pair reaches its page. -/
theorem exec_registerWrite_word (h : PortId) {p off ty n v : Nat} (s : State) (debug : p * 0x1000 < debugBase)
    (page : pageType p = some (ty, n)) (aligned : off % 4 = 0) (block : 0x40 ≤ off) (inside : off < 0x1000)
    (low : pairLowAt p off = false) (high : pairHighAt p off = false) (word : v < 2 ^ 32) :
    exec (.registerWrite (.host h) (p * 0x1000 + off) false v) s = wordWrite s p off v := by
  have below : p * 0x1000 < 0x1000000 := debug
  have div : (p * 0x1000 + off) / 0x1000 = p := by omega
  have mod : (p * 0x1000 + off) % 0x1000 = off := by omega
  have known : ¬ (pageType p).isNone = true := by simp [page]
  have unpaired : ¬ (pairLowAt p off || pairHighAt p off) = true := by simp [low, high]
  have host : ¬ debugBase ≤ p * 0x1000 + off := by
    unfold debugBase
    omega
  show execRegisterWrite (.host h) (p * 0x1000 + off) false v s = _
  unfold execRegisterWrite hostRegWrite
  dsimp only
  rw [if_neg (by omega), if_neg (fun h => host h.2), if_neg host, div, mod, if_neg (fun h => h.elim (by omega) known),
    if_neg Bool.false_ne_true, if_neg (Nat.not_lt.2 block), if_neg unpaired, Nat.mod_eq_of_lt word]

/-- The pages without commands of their own take every word plainly. -/
theorem wordWrite_plain {p n ty : Nat} (off v : Nat) (s : State) (page : pageType p = some (ty, n))
    (plain : ty = 0x01 ∨ ty = 0x09 ∨ ty = 0x11 ∨ ty = 0x23) :
    wordWrite s p off v = .next (regWrite s p (fun s => plainWrite s ty n p off v)) := by
  unfold wordWrite
  rw [page]
  rcases plain with rfl | rfl | rfl | rfl <;> rfl

/-- A field takes a write by its access code. -/
theorem writeField_acc {f : Fld} (p i k v : Nat) (s : State) (scalar : f.pair = false) :
    let x := v / 2 ^ f.lo % 2 ^ f.width
    (f.acc = .rw → writeField s p i k v f = setF s f x i k) ∧
    (f.acc = .rwl → writeField s p i k v f = if pageLocked s p then s else setF s f x i k) ∧
    (f.acc = .w1c → writeField s p i k v f = setF s f (getF s f i k - (getF s f i k &&& x)) i k) ∧
    (f.acc = .w1s → writeField s p i k v f = setF s f (getF s f i k ||| x) i k) ∧
    (f.acc = .ro ∨ f.acc = .rc ∨ f.acc = .wo → writeField s p i k v f = s) := by
  unfold writeField
  rw [scalar]
  refine ⟨fun acc => ?_, fun acc => ?_, fun acc => ?_, fun acc => ?_, fun acc => ?_⟩
  · rw [acc]
    rfl
  · rw [acc]
    rfl
  · rw [acc]
    rfl
  · rw [acc]
    rfl
  · rcases acc with acc | acc | acc <;> rw [acc]

theorem exec_locked {p : Nat} (s : State) (known : (pageType p).isSome = true) :
    exec (.locked p) s = .next (setF s Reg.PAGE_LOCK_LOCKED 1 p) := by
  show execLocked p s = _
  unfold execLocked
  rw [if_pos known]

theorem pageLocked_setF (s : State) (p : Nat) : pageLocked (setF s Reg.PAGE_LOCK_LOCKED 1 p) p = true := by
  unfold pageLocked
  rw [onF_setF_same]
  rfl

theorem exec_target {s : State} (v : Nat) (up : answers s 5 = true) :
    exec (.target v) s = .next (setF s Reg.THM_TARGET (max 960 (min 1472 (v % 4096))) 0) := congrArg _ (regWrite_answers up _)

/-- Settles O47. A write reaches its word, whose fields take it by their access codes. -/
theorem registerWrites : Obligations.RegisterWrites := by
  refine ⟨exec_registerWrite_management,
    fun h p off ty n v s debug page aligned block inside low high word =>
      exec_registerWrite_word h s debug page aligned block inside low high word,
    fun p off n v ty s page plain => wordWrite_plain off v s page plain,
    fun f p i k v s scalar => writeField_acc p i k v s scalar, fun p f s down => regWrite_refused down f,
    fun p s known => ⟨_, exec_locked s known, pageLocked_setF s p, setF_regsOnly (regsOnly_refl _ _) _ _ _ _ List.mem_cons_self⟩,
    fun v s up => ⟨_, exec_target v up, ?_, setF_regsOnly (regsOnly_refl _ _) _ _ _ _ List.mem_cons_self⟩,
    fun v s up => congrArg _ (regWrite_answers up _)⟩
  rw [getF_setF_same]
  have clamped : max 960 (min 1472 (v % 4096)) ≤ 1472 := by omega
  exact Nat.mod_eq_of_lt (clamped.trans_lt (by decide))

end Sys2Proof.Machine

end

section
/-! Control words of rings, windows and queues (R289, R343, R411, R496, R545, R558; O48). -/

namespace Sys2Proof.Machine

/-! ### Windows -/

/-- The field lies at none of these fields' places. -/
abbrev Fld.apartFrom (g : Fld) (fs : List Fld) : Prop := ∀ f ∈ fs, g.key 0 0 ≠ f.key 0 0

/-- The fields of a window. -/
def windowFields : List Fld := [Reg.HST_WIN_BASE, Reg.HST_WIN_SIZE, Reg.HST_WIN_CTL_ENABLE, Reg.HST_WIN_CTL_WRITE]

theorem inWindows_congr {s t : State} (same : ∀ g ∈ windowFields, ∀ w < 64, getF t g w = getF s g w) (a len : Nat) (wr : Bool) :
    inWindows t a len wr = inWindows s a len wr := by
  have one : ∀ w < 64, inWindow t w a len wr = inWindow s w a len wr := fun w low => by
    unfold inWindow onF
    rw [same Reg.HST_WIN_BASE (by decide) w low, same Reg.HST_WIN_SIZE (by decide) w low,
      same Reg.HST_WIN_CTL_ENABLE (by decide) w low, same Reg.HST_WIN_CTL_WRITE (by decide) w low]
  unfold inWindows
  rw [Bool.eq_iff_iff, List.any_eq_true, List.any_eq_true]
  exact exists_congr fun w => and_congr_right fun mem => by rw [one w (List.mem_range.1 mem)]

theorem windowWrite_eq (s t : State) (w : Nat) : windowWrite s t w =
    if windowUsed s w = true ∧ windowLoses s t w = true then setF s Reg.HST_WIN_STAT_WIN_BUSY 1 0 else t := by
  unfold windowWrite
  simp only [Bool.and_eq_true]

section
variable {s : State} (up : answers s 10 = true) (v : Nat)
include up

theorem exec_winCtl (off : Nat) : exec (.winCtl off v) s = .next (
    if off = 0x54 then windowWrite s (setF s Reg.HST_WIN_BASE (v / 4096 * 4096) (getF s Reg.HST_WIN_SEL 0)) (getF s Reg.HST_WIN_SEL 0)
    else if off = 0x5C then
      windowWrite s (setF s Reg.HST_WIN_SIZE (v / 4096 * 4096) (getF s Reg.HST_WIN_SEL 0)) (getF s Reg.HST_WIN_SEL 0)
    else if off = 0x64 then
      windowWrite s (setF (setF (setF s Reg.HST_WIN_CTL_FORME (v / 4) (getF s Reg.HST_WIN_SEL 0)) Reg.HST_WIN_CTL_WRITE (v / 2)
        (getF s Reg.HST_WIN_SEL 0)) Reg.HST_WIN_CTL_ENABLE v (getF s Reg.HST_WIN_SEL 0)) (getF s Reg.HST_WIN_SEL 0)
    else s) := congrArg _ (regWrite_answers up _)

end

/-! ### Rings -/

theorem onF_off {s : State} {f : Fld} {i : Nat} (h : onF s f i = false) : getF s f i = 0 := by simpa [onF] using h

theorem onF_congr {s t : State} {f : Fld} {i : Nat} (h : getF t f i = getF s f i) : onF t f i = onF s f i := by rw [onF, h, onF]

/-- The fields of a ring and its control word lie apart, and apart from the windows. -/
structure CtlApart (r : Ring) (en vector : Fld) : Prop where
  one : en.width = 1
  five : r.log2.width = 5
  log2_vector : r.log2.key 0 0 ≠ vector.key 0 0
  log2_en : r.log2.key 0 0 ≠ en.key 0 0
  log2_head : r.log2.key 0 0 ≠ r.head.key 0 0
  log2_tail : r.log2.key 0 0 ≠ r.tail.key 0 0
  head_tail : r.head.key 0 0 ≠ r.tail.key 0 0
  head_en : r.head.key 0 0 ≠ en.key 0 0
  tail_en : r.tail.key 0 0 ≠ en.key 0 0
  base : r.base.apartFrom [vector, r.log2, r.head, r.tail]
  en_apart : en.apartFrom [vector, r.log2, r.head, r.tail]
  refused : Reg.HST_WIN_STAT_RING_REFUSED.apartFrom [r.log2, r.head, r.tail, en]
  windows : ∀ g ∈ windowFields, g.apartFrom [vector, r.log2, r.head, r.tail]

theorem ctlApart_err : CtlApart errRing Reg.ERR_CTL_RING_EN Reg.ERR_CTL_VECTOR := by
  constructor <;> decide +kernel

theorem ctlApart_tel : CtlApart telRing Reg.TEL_CTL_EN Reg.TEL_CTL_VECTOR := by
  constructor <;> decide +kernel

/-- The ring with a new vector and size, empty. -/
def ringSized (s : State) (r : Ring) (vector : Fld) (v lg : Nat) : State :=
  ringEmpty (setF (setF s vector v 0) r.log2 lg 0) r

theorem getF_ringSized (s : State) {r : Ring} {vector g : Fld} (v lg : Nat) (apart : g.apartFrom [vector, r.log2, r.head, r.tail])
    {i : Nat} (small : i < 131072) : getF (ringSized s r vector v lg) g i = getF s g i := by
  have zero : 0 < 131072 := by decide
  unfold ringSized ringEmpty
  rw [getF_setF_apart _ _ (apart r.tail (by simp)) zero small, getF_setF_apart _ _ (apart r.head (by simp)) zero small,
    getF_setF_apart _ _ (apart r.log2 (by simp)) zero small, getF_setF_apart _ _ (apart vector (by simp)) zero small]

section
variable {s : State} {r : Ring} {en vector : Fld} (apart : CtlApart r en vector) {v : Nat} (low : 6 ≤ v / 2 ^ 16 % 32)
  (high : v / 2 ^ 16 % 32 ≤ 16)
include apart

theorem ringSized_gives (v : Nat) {lg : Nat} (bound : lg < 32) : getF (ringSized s r vector v lg) r.log2 0 = lg ∧
    getF (ringSized s r vector v lg) r.head 0 = 0 ∧ getF (ringSized s r vector v lg) r.tail 0 = 0 := by
  unfold ringSized ringEmpty
  refine ⟨?_, ?_, ?_⟩
  · rw [getF_setF_ne _ _ apart.log2_tail, getF_setF_ne _ _ apart.log2_head, getF_setF_same, apart.five]
    exact Nat.mod_eq_of_lt bound
  · rw [getF_setF_ne _ _ apart.head_tail, getF_setF_same, Nat.zero_mod]
  · rw [getF_setF_same, Nat.zero_mod]

include low high

theorem ringCtl_off (off : v / 2 ^ 31 % 2 = 0) : onF (ringCtl s r en vector v) en 0 = false ∧ (ringCtl s r en vector v).mem = s.mem ∧
    (onF s en 0 = true → getF (ringCtl s r en vector v) r.log2 0 = getF s r.log2 0) := by
  unfold ringCtl
  dsimp only
  rw [if_neg (by omega), if_pos off]
  refine ⟨?_, ?_, fun was => ?_⟩
  · rw [onF_setF_same, Nat.zero_mod]
    rfl
  · split_ifs <;> rfl
  · rw [if_pos (.inl was), getF_setF_ne _ _ apart.log2_en, getF_setF_ne _ _ apart.log2_vector]

theorem ringCtl_on (on : v / 2 ^ 31 % 2 = 1) (was : onF s en 0 = false) (resized : v / 2 ^ 16 % 32 ≠ getF s r.log2 0) :
    ringCtl s r en vector v =
      if inWindows s (getF s r.base 0) (r.size * 2 ^ (v / 2 ^ 16 % 32)) true = true
        then setF (ringSized s r vector v (v / 2 ^ 16 % 32)) en 1 0
        else ringRefused (ringSized s r vector v (v / 2 ^ 16 % 32)) := by
  have size : getF (setF s vector v 0) r.log2 0 = getF s r.log2 0 := getF_setF_ne _ _ apart.log2_vector
  have grown : ¬ (onF s en 0 = true ∨ v / 2 ^ 16 % 32 = getF (setF s vector v 0) r.log2 0) := by
    rw [was, size]
    exact fun h => h.elim Bool.false_ne_true resized
  obtain ⟨slots, -, -⟩ := ringSized_gives (s := s) apart v (lg := v / 2 ^ 16 % 32) (by omega)
  have windows : ∀ a len, inWindows (ringSized s r vector v (v / 2 ^ 16 % 32)) a len true = inWindows s a len true := fun a len =>
    inWindows_congr (fun g mem w low => getF_ringSized s v _ (apart.windows g mem) (by omega)) a len true
  have base : getF (ringSized s r vector v (v / 2 ^ 16 % 32)) r.base 0 = getF s r.base 0 :=
    getF_ringSized s v _ apart.base (by decide)
  unfold ringCtl
  dsimp only
  rw [if_neg (by omega), if_neg (by omega), if_neg grown]
  change (if onF s en 0 = true ∨ inWindows (ringSized s r vector v _) (getF (ringSized s r vector v _) r.base 0)
    (r.size * 2 ^ getF (ringSized s r vector v _) r.log2 0) true = true then _ else _) = _
  rw [slots, base, windows, was]
  simp only [Bool.false_eq_true, false_or]
  rfl

theorem ringCtl_on_gives (on : v / 2 ^ 31 % 2 = 1) (was : onF s en 0 = false) (resized : v / 2 ^ 16 % 32 ≠ getF s r.log2 0) :
    let t := ringCtl s r en vector v
    getF t r.log2 0 = v / 2 ^ 16 % 32 ∧ getF t r.head 0 = 0 ∧ getF t r.tail 0 = 0 ∧
      (inWindows s (getF s r.base 0) (r.size * 2 ^ (v / 2 ^ 16 % 32)) true = true → onF t en 0 = true) ∧
      (inWindows s (getF s r.base 0) (r.size * 2 ^ (v / 2 ^ 16 % 32)) true = false → onF t en 0 = false ∧
        getF t Reg.HST_WIN_STAT_RING_REFUSED 0 = 1) := by
  obtain ⟨size, head, tail⟩ := ringSized_gives (s := s) apart v (lg := v / 2 ^ 16 % 32) (by omega)
  have still : getF (ringSized s r vector v (v / 2 ^ 16 % 32)) en 0 = 0 :=
    (getF_ringSized s v _ apart.en_apart (by decide)).trans (onF_off was)
  intro t
  have made : t = _ := ringCtl_on apart low high on was resized
  cases windowed : inWindows s (getF s r.base 0) (r.size * 2 ^ (v / 2 ^ 16 % 32)) true with
  | true =>
    rw [if_pos windowed] at made
    rw [made, getF_setF_ne _ _ apart.log2_en, getF_setF_ne _ _ apart.head_en, getF_setF_ne _ _ apart.tail_en]
    exact ⟨size, head, tail, fun _ => by rw [onF_setF_same, apart.one]; rfl, fun h => Bool.noConfusion h⟩
  | false =>
    rw [if_neg (Bool.eq_false_iff.1 windowed)] at made
    unfold ringRefused at made
    rw [made, getF_setF_ne _ _ (apart.refused r.log2 (by simp)).symm, getF_setF_ne _ _ (apart.refused r.head (by simp)).symm,
      getF_setF_ne _ _ (apart.refused r.tail (by simp)).symm]
    refine ⟨size, head, tail, fun h => Bool.noConfusion h, fun _ => ⟨?_, getF_setF_same ..⟩⟩
    rw [onF, getF_setF_ne _ _ (apart.refused en (by simp)).symm, still]
    rfl

end

theorem ringCtl_bad (s : State) (r : Ring) (en vector : Fld) {v : Nat} (bad : v / 2 ^ 16 % 32 < 6 ∨ 16 < v / 2 ^ 16 % 32) :
    ringCtl s r en vector v = s := if_pos bad

/-- What a write of the control word of an answering page's ring does. -/
theorem ringCtl_gives {s : State} {i : Instr} {r : Ring} {en vector : Fld} (apart : CtlApart r en vector) {v : Nat}
    (run : exec i s = .next (ringCtl s r en vector v)) :
    let lg := v / 2 ^ 16 % 32
    (lg < 6 ∨ 16 < lg → exec i s = .next s) ∧
    (6 ≤ lg → lg ≤ 16 → v / 2 ^ 31 % 2 = 0 → Gives i s fun t => onF t en 0 = false ∧ t.mem = s.mem ∧
      (onF s en 0 = true → getF t r.log2 0 = getF s r.log2 0)) ∧
    (6 ≤ lg → lg ≤ 16 → v / 2 ^ 31 % 2 = 1 → onF s en 0 = false → lg ≠ getF s r.log2 0 →
      Gives i s fun t => getF t r.log2 0 = lg ∧ getF t r.head 0 = 0 ∧ getF t r.tail 0 = 0 ∧
        (inWindows s (getF s r.base 0) (r.size * 2 ^ lg) true = true → onF t en 0 = true) ∧
        (inWindows s (getF s r.base 0) (r.size * 2 ^ lg) true = false → onF t en 0 = false ∧
          getF t Reg.HST_WIN_STAT_RING_REFUSED 0 = 1)) :=
  ⟨fun bad => run.trans (congrArg _ (ringCtl_bad s r en vector bad)),
    fun low high off => ⟨_, run, ringCtl_off apart low high off⟩,
    fun low high on was resized => ⟨_, run, ringCtl_on_gives apart low high on was resized⟩⟩

theorem exec_ringEn {s : State} (v : Nat) (up : answers s 7 = true) :
    exec (.ringEn v) s = .next (ringCtl s errRing Reg.ERR_CTL_RING_EN Reg.ERR_CTL_VECTOR v) := congrArg _ (regWrite_answers up _)

theorem exec_telEn {s : State} (v : Nat) (up : answers s 15 = true) :
    exec (.telEn v) s = .next (ringCtl s telRing Reg.TEL_CTL_EN Reg.TEL_CTL_VECTOR v) := congrArg _ (regWrite_answers up _)

theorem exec_ringHead {s : State} {v : Nat} (word : v < 65536) (up : answers s 7 = true) :
    exec (.ringHead v) s = .next (ringHeadWrite s errRing v) := by
  show execRingHead v s = _
  unfold execRingHead
  rw [regWrite_answers up, Nat.mod_eq_of_lt word]

theorem exec_head {s : State} {v : Nat} (word : v < 65536) (up : answers s 15 = true) :
    exec (.head v) s = .next (ringHeadWrite s telRing v) := by
  show execHead v s = _
  unfold execHead
  rw [regWrite_answers up, Nat.mod_eq_of_lt word]

/-! ### Queues -/

/-- The fields of a queue's control word but its enabling. -/
def queueFields : List Fld :=
  [Reg.SRV_Q_CTL_ADMIN, Reg.SRV_Q_CTL_PRIORITY, Reg.SRV_Q_CTL_VECTOR, Reg.SRV_Q_CTL_SQ_LOG2, Reg.SRV_Q_CTL_RQ_LOG2]

/-- A queue's control word without its sizes and enabling. -/
def queueMarks (s : State) (q v : Nat) : State :=
  setF (setF (setF s Reg.SRV_Q_CTL_ADMIN (v / 2 ^ 30) q) Reg.SRV_Q_CTL_PRIORITY (v / 2 ^ 28) q) Reg.SRV_Q_CTL_VECTOR v q

theorem queueCtl_eq (s : State) (q v : Nat) : queueCtl s q v = queueSize (queueSize (queueMarks s q v) Reg.SRV_Q_CTL_SQ_LOG2 q
    (v / 2 ^ 20 % 32) restartSq) Reg.SRV_Q_CTL_RQ_LOG2 q (v / 2 ^ 15 % 32) restartRq := rfl

theorem getF_queueMarks (s : State) {g : Fld} {q i : Nat} (v : Nat) (apart : g.apartFrom queueFields) (index : q < 1024)
    (small : i < 131072) : getF (queueMarks s q v) g i = getF s g i := by
  have low : q < 131072 := by omega
  unfold queueMarks
  rw [getF_setF_apart _ _ (apart _ (by simp [queueFields])) low small, getF_setF_apart _ _ (apart _ (by simp [queueFields])) low small,
    getF_setF_apart _ _ (apart _ (by simp [queueFields])) low small]

theorem queueMarks_gives (s : State) (q v : Nat) : getF (queueMarks s q v) Reg.SRV_Q_CTL_ADMIN q = v / 2 ^ 30 % 2 ∧
    getF (queueMarks s q v) Reg.SRV_Q_CTL_PRIORITY q = v / 2 ^ 28 % 4 ∧
    getF (queueMarks s q v) Reg.SRV_Q_CTL_ENABLE q = getF s Reg.SRV_Q_CTL_ENABLE q ∧
    getF (queueMarks s q v) Reg.SRV_Q_CTL_SQ_LOG2 q = getF s Reg.SRV_Q_CTL_SQ_LOG2 q ∧
    getF (queueMarks s q v) Reg.SRV_Q_CTL_RQ_LOG2 q = getF s Reg.SRV_Q_CTL_RQ_LOG2 q := by
  unfold queueMarks
  refine ⟨?_, ?_, ?_, ?_, ?_⟩
  · rw [getF_setF_other _ _ _ (by decide), getF_setF_other _ _ _ (by decide), getF_setF_same]
    rfl
  · rw [getF_setF_other _ _ _ (by decide), getF_setF_same]
    rfl
  · rw [getF_setF_other _ _ _ (by decide), getF_setF_other _ _ _ (by decide), getF_setF_other _ _ _ (by decide)]
  · rw [getF_setF_other _ _ _ (by decide), getF_setF_other _ _ _ (by decide), getF_setF_other _ _ _ (by decide)]
  · rw [getF_setF_other _ _ _ (by decide), getF_setF_other _ _ _ (by decide), getF_setF_other _ _ _ (by decide)]

section
variable {restart : State → Nat → State} (frame : ∀ s q, (restart s q).regs = s.regs) (s : State) {f : Fld} {q lg : Nat}
include frame

theorem getF_queueSize_ne {g : Fld} {i : Nat} (apart : g.key 0 0 ≠ f.key 0 0) (index : q < 1024) (small : i < 131072) :
    getF (queueSize s f q lg restart) g i = getF s g i := by
  unfold queueSize
  split_ifs
  · rfl
  · rw [getF_congr (frame ..), getF_setF_apart _ _ apart (by omega) small]

theorem getF_queueSize_same (off : onF s Reg.SRV_Q_CTL_ENABLE q = false) (low : 4 ≤ lg) (high : lg ≤ 16) (five : f.width = 5) :
    getF (queueSize s f q lg restart) f q = lg := by
  unfold queueSize
  split_ifs with kept
  · rcases kept with h | h | h | h
    · exact absurd h (Bool.eq_false_iff.1 off)
    · omega
    · omega
    · exact h.symm
  · rw [getF_congr (frame ..), getF_setF_same, five]
    exact Nat.mod_eq_of_lt (by omega)

end

theorem queueSize_enabled {s : State} {q : Nat} (on : onF s Reg.SRV_Q_CTL_ENABLE q = true) (f : Fld) (lg : Nat)
    (restart : State → Nat → State) : queueSize s f q lg restart = s := if_pos (.inl on)

theorem regs_restartSq (s : State) (q : Nat) : (restartSq s q).regs = s.regs := rfl

theorem regs_restartRq (s : State) (q : Nat) : (restartRq s q).regs = s.regs := rfl

section
variable {s : State} {q : Nat}

/-- An enabled queue keeps its sizes. -/
theorem queueCtl_enabled (on : onF s Reg.SRV_Q_CTL_ENABLE q = true) (v : Nat) : queueCtl s q v = queueMarks s q v := by
  obtain ⟨-, -, enable, -⟩ := queueMarks_gives s q v
  have still : onF (queueMarks s q v) Reg.SRV_Q_CTL_ENABLE q = true := (onF_congr enable).trans on
  rw [queueCtl_eq, queueSize_enabled still, queueSize_enabled still]

theorem getF_queueCtl {g : Fld} {i : Nat} (v : Nat) (apart : g.apartFrom queueFields) (index : q < 1024) (small : i < 131072) :
    getF (queueCtl s q v) g i = getF s g i := by
  rw [queueCtl_eq, getF_queueSize_ne regs_restartRq _ (apart _ (by simp [queueFields])) index small,
    getF_queueSize_ne regs_restartSq _ (apart _ (by simp [queueFields])) index small, getF_queueMarks s v apart index small]

theorem queueCtl_sized (index : q < 1024) (off : onF s Reg.SRV_Q_CTL_ENABLE q = false) {v : Nat} (sqLow : 4 ≤ v / 2 ^ 20 % 32)
    (sqHigh : v / 2 ^ 20 % 32 ≤ 16) (rqLow : 4 ≤ v / 2 ^ 15 % 32) (rqHigh : v / 2 ^ 15 % 32 ≤ 16) :
    getF (queueCtl s q v) Reg.SRV_Q_CTL_SQ_LOG2 q = v / 2 ^ 20 % 32 ∧ getF (queueCtl s q v) Reg.SRV_Q_CTL_RQ_LOG2 q = v / 2 ^ 15 % 32 ∧
      getF (queueCtl s q v) Reg.SRV_Q_CTL_ADMIN q = v / 2 ^ 30 % 2 := by
  obtain ⟨admin, -, enable, -⟩ := queueMarks_gives s q v
  have still : onF (queueMarks s q v) Reg.SRV_Q_CTL_ENABLE q = false := (onF_congr enable).trans off
  have still' : onF (queueSize (queueMarks s q v) Reg.SRV_Q_CTL_SQ_LOG2 q (v / 2 ^ 20 % 32) restartSq) Reg.SRV_Q_CTL_ENABLE q = false :=
    (onF_congr (getF_queueSize_ne regs_restartSq _ (by decide) index (by omega))).trans still
  rw [queueCtl_eq]
  refine ⟨?_, getF_queueSize_same regs_restartRq _ still' rqLow rqHigh rfl, ?_⟩
  · rw [getF_queueSize_ne regs_restartRq _ (by decide) index (by omega)]
    exact getF_queueSize_same regs_restartSq _ still sqLow sqHigh rfl
  · rw [getF_queueSize_ne regs_restartRq _ (by decide) index (by omega),
      getF_queueSize_ne regs_restartSq _ (by decide) index (by omega), admin]

end

section
variable {s : State} (up : answers s 11 = true) (v : Nat)
include up

theorem exec_queueEnable : exec (.queueEnable v) s = .next (
    if onF s Reg.SRV_Q_CTL_ENABLE (getF s Reg.SRV_Q_SEL 0) || ringsOk (queueCtl s (getF s Reg.SRV_Q_SEL 0) v) (getF s Reg.SRV_Q_SEL 0)
    then setF (queueCtl s (getF s Reg.SRV_Q_SEL 0) v) Reg.SRV_Q_CTL_ENABLE 1 (getF s Reg.SRV_Q_SEL 0)
    else ringRefused (queueCtl s (getF s Reg.SRV_Q_SEL 0) v)) := congrArg _ (regWrite_answers up _)

theorem exec_queueDisable : exec (.queueDisable v) s =
    .next (setF (queueCtl s (getF s Reg.SRV_Q_SEL 0) v) Reg.SRV_Q_CTL_ENABLE 0 (getF s Reg.SRV_Q_SEL 0)) :=
  congrArg _ (regWrite_answers up _)

theorem queueEnable_enabled (on : onF s Reg.SRV_Q_CTL_ENABLE (getF s Reg.SRV_Q_SEL 0) = true) :
    exec (.queueEnable v) s =
      .next (setF (queueMarks s (getF s Reg.SRV_Q_SEL 0) v) Reg.SRV_Q_CTL_ENABLE 1 (getF s Reg.SRV_Q_SEL 0)) := by
  rw [exec_queueEnable up, queueCtl_enabled on, on, Bool.true_or, if_pos rfl]

end

/-- The rings of a queue lie in windows as they would with its new sizes. -/
theorem ringsOk_queueCtl {s : State} {q : Nat} (index : q < 1024) (off : onF s Reg.SRV_Q_CTL_ENABLE q = false) {v : Nat}
    (sqLow : 4 ≤ v / 2 ^ 20 % 32) (sqHigh : v / 2 ^ 20 % 32 ≤ 16) (rqLow : 4 ≤ v / 2 ^ 15 % 32) (rqHigh : v / 2 ^ 15 % 32 ≤ 16) :
    ringsOk (queueCtl s q v) q = (inWindows s (getF s Reg.SRV_SQ_BASE q) (64 * 2 ^ (v / 2 ^ 20 % 32)) false &&
      inWindows s (getF s Reg.SRV_RQ_BASE q) (32 * 2 ^ (v / 2 ^ 15 % 32)) true) := by
  obtain ⟨sq, rq, -⟩ := queueCtl_sized index off sqLow sqHigh rqLow rqHigh
  have windows : ∀ g ∈ windowFields, g.apartFrom queueFields := by decide +kernel
  have same : ∀ g ∈ windowFields, ∀ w < 64, getF (queueCtl s q v) g w = getF s g w := fun g mem w low =>
    getF_queueCtl v (windows g mem) index (by omega)
  unfold ringsOk sqSize rqSize
  rw [sq, rq, getF_queueCtl v (by decide +kernel) index (by omega), getF_queueCtl v (by decide +kernel) index (by omega),
    inWindows_congr same, inWindows_congr same]

/-- Settles O48. Sizes change while disabled; enabling asks for the windows. -/
theorem ringAndQueueControls : Obligations.RingAndQueueControls := by
  refine ⟨?_, ?_, fun v s up => ?_, fun v s up index => ⟨fun on => ?_, fun off sqLow sqHigh rqLow rqHigh => ?_⟩⟩
  · simp only [List.forall_mem_cons, List.not_mem_nil, false_imp_iff, implies_true, and_true]
    exact ⟨fun v s up => ringCtl_gives ctlApart_err (exec_ringEn v up), fun v s up => ringCtl_gives ctlApart_tel (exec_telEn v up)⟩
  · simp only [List.forall_mem_cons, List.not_mem_nil, false_imp_iff, implies_true, and_true]
    exact ⟨fun v s word up => exec_ringHead word up, fun v s word up => exec_head word up⟩
  · simp only [List.forall_mem_cons, List.not_mem_nil, false_imp_iff, implies_true, and_true]
    refine ⟨?_, ?_, ?_⟩
    · rw [exec_winCtl up, if_pos rfl, windowWrite_eq]
    · rw [exec_winCtl up, if_neg (by decide), if_pos rfl, windowWrite_eq]
    · rw [exec_winCtl up, if_neg (by decide), if_neg (by decide), if_pos rfl, windowWrite_eq]
  · obtain ⟨-, priority, -, sq, rq⟩ := queueMarks_gives s (getF s Reg.SRV_Q_SEL 0) v
    refine ⟨⟨_, queueEnable_enabled up v on, ?_, ?_, ?_, ?_, rfl, rfl⟩, ⟨_, exec_queueDisable up v, ?_, ?_, ?_⟩⟩
    · rw [onF_setF_same]
      rfl
    · rw [getF_setF_other _ _ _ (by decide), sq]
    · rw [getF_setF_other _ _ _ (by decide), rq]
    · rw [getF_setF_other _ _ _ (by decide), priority]
    · rw [onF_setF_same]
      rfl
    · rw [queueCtl_enabled on]
      rfl
    · rw [queueCtl_enabled on]
      rfl
  · obtain ⟨sq, rq, admin⟩ := queueCtl_sized index off sqLow sqHigh rqLow rqHigh
    have lies := ringsOk_queueCtl index off sqLow sqHigh rqLow rqHigh
    have still : getF (queueCtl s (getF s Reg.SRV_Q_SEL 0) v) Reg.SRV_Q_CTL_ENABLE (getF s Reg.SRV_Q_SEL 0) = 0 :=
      (getF_queueCtl v (by decide +kernel) index (by omega)).trans (onF_off off)
    refine ⟨_, exec_queueEnable up v, ?_⟩
    rw [off, Bool.false_or, lies]
    split_ifs with windowed <;> beta_reduce
    · rw [getF_setF_other _ _ _ (by decide), getF_setF_other _ _ _ (by decide), getF_setF_other _ _ _ (by decide), onF_setF_same]
      exact ⟨sq, rq, admin, iff_of_true rfl ((Bool.and_eq_true ..).mp windowed), fun h => Bool.noConfusion h⟩
    · unfold ringRefused
      have refused : ∀ g : Fld, g.key 0 0 ≠ Reg.HST_WIN_STAT_RING_REFUSED.key 0 0 →
          getF (setF (queueCtl s (getF s Reg.SRV_Q_SEL 0) v) Reg.HST_WIN_STAT_RING_REFUSED 1 0) g (getF s Reg.SRV_Q_SEL 0) =
            getF (queueCtl s (getF s Reg.SRV_Q_SEL 0) v) g (getF s Reg.SRV_Q_SEL 0) := fun g apart =>
        getF_setF_apart _ _ apart (by omega) (by omega)
      rw [refused _ (by decide), refused _ (by decide), refused _ (by decide), onF, refused _ (by decide), still]
      exact ⟨sq, rq, admin, iff_of_false Bool.false_ne_true (fun h => windowed ((Bool.and_eq_true ..).mpr h)),
        fun _ => getF_setF_same ..⟩


end Sys2Proof.Machine

end

section
/-! What the steps of a link's training leave as it was (R500, R503 to R506; O49). -/

namespace Sys2Proof.Machine

/-! ### Fields that are not written -/

/-- All fields but those with these first keys stand as they were. -/
structure FieldsBut (ks : List Nat) (s t : State) : Prop where
  same : ∀ (f : Fld) (i k : Nat), i < 131072 → f.key 0 k ∉ ks → getF t f i k = getF s f i k

theorem FieldsBut.refl (ks : List Nat) (s : State) : FieldsBut ks s s := ⟨fun _ _ _ _ _ => rfl⟩

theorem FieldsBut.trans {ks : List Nat} {s t u : State} (h : FieldsBut ks s t) (k : FieldsBut ks t u) : FieldsBut ks s u :=
  ⟨fun f i l small apart => (k.same f i l small apart).trans (h.same f i l small apart)⟩

theorem FieldsBut.mono {ks ls : List Nat} {s t : State} (h : FieldsBut ks s t) (sub : ks ⊆ ls) : FieldsBut ls s t :=
  ⟨fun f i l small apart => h.same f i l small fun mem => apart (sub mem)⟩

theorem FieldsBut.of_regs {ks : List Nat} {s t : State} (h : t.regs = s.regs) : FieldsBut ks s t :=
  ⟨fun f i l _ _ => getF_congr h f i l⟩

theorem fieldsBut_setF {ks : List Nat} (s : State) {g : Fld} (v : Nat) {i l : Nat} (small : i < 131072) (mem : g.key 0 l ∈ ks) :
    FieldsBut ks s (setF s g v i l) :=
  ⟨fun _ _ _ index apart => getF_setF_apart s v (ne_of_mem_of_not_mem mem apart).symm small index⟩

theorem FieldsBut.foldl {α : Type} {ks : List Nat} {f : State → α → State} {l : List α} (h : ∀ s, ∀ a ∈ l, FieldsBut ks s (f s a))
    (s : State) : FieldsBut ks s (l.foldl f s) := by
  induction l generalizing s with
  | nil => exact .refl ks s
  | cons a l ih =>
    exact (h s a List.mem_cons_self).trans (ih (fun s b mem => h s b (List.mem_cons_of_mem _ mem)) _)

theorem fieldsBut_logFault (s : State) {it : FaultItem} (page : ∀ b, it.block = some b → pageOfIdent b < 4096) :
    FieldsBut faultKeys s (logFault s it) := ⟨fun _ _ _ small apart => getF_logFault_other s page small apart⟩

/-! ### Beacons -/

/-- The fields, by their first instances, that a page's beacon writes. -/
def beaconKeys : List Nat :=
  [Reg.PAGE_BEACON_STATE, Reg.PAGE_BEACON_CHANGED, Reg.PAGE_TIME_LO, Reg.PAGE_TIME_HI].map (fun f => f.key 0 0)

theorem fieldsBut_pageEvent {ks : List Nat} (s : State) {p : Nat} (page : p < 131072) (low : Reg.PAGE_TIME_LO.key 0 0 ∈ ks)
    (high : Reg.PAGE_TIME_HI.key 0 0 ∈ ks) : FieldsBut ks s (pageEvent s p) := by
  unfold pageEvent
  exact (fieldsBut_setF s _ page low).trans (fieldsBut_setF _ _ page high)

theorem fieldsBut_setBeacon (s : State) {p : Nat} (st : Nat) (page : p < 131072) : FieldsBut beaconKeys s (setBeacon s p st) := by
  have event : FieldsBut beaconKeys s (pageEvent (setF (setF s Reg.PAGE_BEACON_STATE st p) Reg.PAGE_BEACON_CHANGED 1 p) p) :=
    ((fieldsBut_setF s _ page (by decide)).trans (fieldsBut_setF _ _ page (by decide))).trans
      (fieldsBut_pageEvent _ page (by decide) (by decide))
  unfold setBeacon
  split_ifs
  · exact .refl _ s
  · exact event.trans (.of_regs (regs_refreshIrq ..))

/-- The state but its registers and its vectors. -/
def offPage (s : State) : State := { s with regs := [], io := ⟨[], [], [], [], [], [], []⟩ }

theorem offPage_setF (s : State) (f : Fld) (v i k : Nat) : offPage (setF s f v i k) = offPage s := rfl

theorem offPage_pageEvent (s : State) (p : Nat) : offPage (pageEvent s p) = offPage s := rfl

theorem offPage_refreshIrq (s : State) (p : Nat) : offPage (refreshIrq s p) = offPage s := by
  unfold refreshIrq
  dsimp only
  split_ifs <;> rfl

theorem offPage_setBeacon (s : State) (p st : Nat) : offPage (setBeacon s p st) = offPage s := by
  unfold setBeacon
  split_ifs
  · rfl
  · rw [offPage_refreshIrq, offPage_pageEvent, offPage_setF, offPage_setF]

/-! ### Links -/

theorem getLink_modLink (s : State) (k : Nat) (g : Link → Link) : getLink (modLink s k g) k = g (getLink s k) :=
  kgetD_kset_same ..

theorem regs_modLink (s : State) (k : Nat) (g : Link → Link) : (modLink s k g).regs = s.regs := rfl

/-- The fields, by their first instances, that a link's phase writes. -/
def phaseKeys : List Nat := Reg.LNK_STAT_PHASE.key 0 0 :: beaconKeys

theorem offPage_setPhase (s : State) (k ph : Nat) : offPage (setPhase s k ph) = offPage s := by
  unfold setPhase
  rw [offPage_setBeacon, offPage_setF]

theorem links_of_offPage {s t : State} (same : offPage t = offPage s) : t.links = s.links := by
  have links : (offPage t).links = (offPage s).links := by rw [same]
  exact links

theorem mem_of_offPage {s t : State} (same : offPage t = offPage s) : t.mem = s.mem := by
  have mem : (offPage t).mem = (offPage s).mem := by rw [same]
  exact mem

theorem getLink_congr {s t : State} (links : t.links = s.links) (k : Nat) : getLink t k = getLink s k := by
  rw [getLink, links, getLink]

theorem getLink_setPhase (s : State) (k ph j : Nat) : getLink (setPhase s k ph) j = getLink s j :=
  getLink_congr (links_of_offPage (offPage_setPhase s k ph)) j

theorem mem_setPhase (s : State) (k ph : Nat) : (setPhase s k ph).mem = s.mem := mem_of_offPage (offPage_setPhase s k ph)

section
variable (s : State) {k : Nat} (index : k < 16)
include index

theorem fieldsBut_setPhase (ph : Nat) : FieldsBut phaseKeys s (setPhase s k ph) := by
  have beacon : beaconKeys ⊆ phaseKeys := List.subset_cons_self ..
  unfold setPhase
  exact (fieldsBut_setF s _ (by omega) List.mem_cons_self).trans
    ((fieldsBut_setBeacon _ _ (by unfold linkPage; omega)).mono beacon)

theorem phase_setPhase {ph : Nat} (code : ph < 16) : phase (setPhase s k ph) k = ph := by
  unfold phase setPhase
  rw [(fieldsBut_setBeacon _ _ (by unfold linkPage; omega)).same Reg.LNK_STAT_PHASE k 0 (by omega) (by decide), getF_setF_same]
  exact Nat.mod_eq_of_lt code

theorem linkFault_page (code : Nat) (xs : List Nat) :
    ∀ b, (blockItem code (identOf 0x22 k) xs).block = some b → pageOfIdent b < 4096 := by
  rintro b hb
  obtain rfl : identOf 0x22 k = b := Option.some.inj hb
  have ty : (0x22 * 65536 + k) / 65536 = 0x22 := by omega
  have inst : (0x22 * 65536 + k) % 65536 = k := by omega
  unfold pageOfIdent identOf
  rw [ty, inst]
  show 768 + k < 4096
  omega

theorem fieldsBut_linkFault (code : Nat) (xs : List Nat) : FieldsBut faultKeys s (linkFault s k code xs) :=
  fieldsBut_logFault s (linkFault_page index code xs)

end

theorem links_of_offLog {s t : State} (same : offLog t = offLog s) : t.links = s.links := by
  have links : (offLog t).links = (offLog s).links := by rw [same]
  exact links

theorem lampTime_of_offLog {s t : State} (same : offLog t = offLog s) : t.lampTime = s.lampTime := by
  have time : (offLog t).lampTime = (offLog s).lampTime := by rw [same]
  exact time

theorem getLink_linkFault (s : State) (k code : Nat) (xs : List Nat) (j : Nat) : getLink (linkFault s k code xs) j = getLink s j :=
  getLink_congr (links_of_offLog (offLog_logFault ..)) j

/-- A link but its sequence number and replay buffer. -/
def Link.unsent (x : Link) : Link := { x with txSeq := 0, replay := [] }

theorem sendFrame_keeps (s : State) (k channel : Nat) (fs : List (List Byte)) :
    (sendFrame s k channel fs).regs = s.regs ∧ (getLink (sendFrame s k channel fs) k).unsent = (getLink s k).unsent := by
  have stored : ∀ x : Link, getLink (setLink s k x) k = x := fun x => kgetD_kset_same ..
  unfold sendFrame
  dsimp only
  split_ifs
  · exact ⟨rfl, (congrArg Link.unsent (stored _)).trans rfl⟩
  · exact ⟨rfl, (congrArg Link.unsent (stored _)).trans rfl⟩

theorem sendFlits_keeps (s : State) (k channel : Nat) (fs : List (List Byte)) :
    (sendFlits s k channel fs).regs = s.regs ∧ (getLink (sendFlits s k channel fs) k).unsent = (getLink s k).unsent := by
  unfold sendFlits
  induction List.range ((fs.length + 3) / 4) generalizing s with
  | nil => exact ⟨rfl, rfl⟩
  | cons i l ih =>
    obtain ⟨regs, link⟩ := sendFrame_keeps s k channel ((fs.drop (4 * i)).take 4)
    obtain ⟨regs', link'⟩ := ih (sendFrame s k channel ((fs.drop (4 * i)).take 4))
    exact ⟨regs'.trans regs, link'.trans link⟩

end Sys2Proof.Machine

end

section
/-! Training and negotiation of a link, spared lanes (R500, R503 to R506; O49). -/

namespace Sys2Proof.Machine

/-! ### DETECT, the look for a signal, EQUALISE -/

theorem getLink_setGood (s : State) (k : Nat) (l : List Nat) : getLink (setGood s k l) k = { getLink s k with good := l } :=
  getLink_modLink s k fun x => { x with good := l }

theorem mem_setGood (s : State) (k : Nat) (l : List Nat) : (setGood s k l).mem = s.mem := rfl

section
variable {k : LinkId} {s : State}

theorem detect_gives (detecting : phase s k = Phase.detect) (enabled : onF s Reg.LNK_CTL_ENABLE k = true) (lanes : Nat) :
    Gives (.detect k lanes) s fun t =>
      phase t k = (if maskLanes lanes = [] then Phase.down else Phase.identify) ∧ t.mem = s.mem ∧
      (maskLanes lanes ≠ [] → (getLink t k).good = maskLanes lanes) := by
  have run : exec (.detect k lanes) s = .next (if maskLanes lanes = [] then setPhase s k Phase.down
      else setPhase (setGood s k (maskLanes lanes)) k Phase.identify) := congrArg _ (if_pos ⟨detecting, enabled⟩)
  refine ⟨_, run, ?_⟩
  split_ifs with dark
  · exact ⟨phase_setPhase s k.isLt (by decide), mem_setPhase .., fun h => absurd dark h⟩
  · refine ⟨phase_setPhase _ k.isLt (by decide), (mem_setPhase ..).trans (mem_setGood ..), fun _ => ?_⟩
    rw [getLink_setPhase, getLink_setGood]

theorem exec_signalLook (down : phase s k = Phase.down) (enabled : onF s Reg.LNK_CTL_ENABLE k = true)
    (beacon : beaconOf s (linkPage k) = Beacon.occulting) (b : Bool) : exec (.signalLook k b) s =
      .next (if b = true ∧ (getLink s k).refused = false then setPhase s k Phase.detect else s) := by
  show execSignalLook k b s = _
  unfold execSignalLook
  simp only [down, enabled, beacon, true_and]

theorem exec_equalise (equalising : phase s k = Phase.equalise) (cs : List Nat) : exec (.equalise k cs) s =
    .next (setPhase (modLink s k (fun x => { x with trained := cs })) k Phase.lock) := congrArg _ (if_pos equalising)

end

/-! ### LOCK and SELECT -/

theorem linkWidth_le (n : Nat) : linkWidth n ≤ n ∧ linkWidth n ≤ 30 := by
  unfold linkWidth
  split_ifs <;> omega

/-- The lanes of a link by its good lanes: the logical ones first, of the rest the last two as spares. -/
def Link.selected (x : Link) (good : List Nat) : Link :=
  { x with
    good := good, logical := good.take (linkWidth good.length)
    spares := (good.drop (linkWidth good.length)).drop ((good.drop (linkWidth good.length)).length - 2) }

theorem getLink_selectLanes (s : State) (k : Nat) (good : List Nat) :
    getLink (selectLanes s k good) k = (getLink s k).selected good := by
  have regs : ∀ u : State, getLink (setF (setF u Reg.LNK_STAT_WIDTH (linkWidth good.length) k) Reg.LNK_LANE_ACTIVE
      (laneMask (good.take (linkWidth good.length))) k) k = getLink u k := fun _ => rfl
  unfold selectLanes
  dsimp only
  rw [regs, getLink_modLink, getLink_setGood]
  rfl

theorem width_selectLanes (s : State) {k : Nat} (good : List Nat) :
    getF (selectLanes s k good) Reg.LNK_STAT_WIDTH k = linkWidth good.length := by
  unfold selectLanes
  dsimp only
  rw [getF_setF_other _ _ _ (by decide), getF_setF_same]
  exact Nat.mod_eq_of_lt (Nat.lt_of_le_of_lt (linkWidth_le _).2 (by decide))

/-- The state with the link's messages sent that open the negotiation. -/
def negotiationOpened (s : State) (k : Nat) : State :=
  sendMsgs (modLink s k (fun x => { x with gotIdent := false, gotVersion := false })) k
    [openMsg (modLink s k (fun x => { x with gotIdent := false, gotVersion := false })) k 0x01,
      openMsg (modLink s k (fun x => { x with gotIdent := false, gotVersion := false })) k 0x02]

theorem negotiationOpened_keeps (s : State) (k : Nat) : (negotiationOpened s k).regs = s.regs ∧
    (getLink (negotiationOpened s k) k).good = (getLink s k).good ∧ (getLink (negotiationOpened s k) k).logical = (getLink s k).logical ∧
      (getLink (negotiationOpened s k) k).spares = (getLink s k).spares := by
  unfold negotiationOpened sendMsgs
  generalize opening : modLink s k (fun x => { x with gotIdent := false, gotVersion := false }) = u
  have link : getLink u k = { getLink s k with gotIdent := false, gotVersion := false } := by rw [← opening, getLink_modLink]
  have regs : u.regs = s.regs := by rw [← opening, regs_modLink]
  obtain ⟨regs', sent⟩ := sendFlits_keeps u k 1 ([openMsg u k 0x01, openMsg u k 0x02].flatMap msgFlits)
  rw [link] at sent
  have good := congrArg Link.good sent
  have logical := congrArg Link.logical sent
  have spares := congrArg Link.spares sent
  exact ⟨regs'.trans regs, good, logical, spares⟩

theorem lock_gives {k : LinkId} {s : State} (good : Nat) (locking : phase s k = Phase.lock ∨ phase s k = Phase.select) :
    let lanes := (maskLanes good).filter (getLink s k).good.contains
    let w := linkWidth lanes.length
    Gives (.lock k good) s fun t => phase t k = (if w = 0 then Phase.down else Phase.negotiate) ∧
      (getLink t k).good = lanes ∧ (getLink t k).logical = lanes.take w ∧ (getLink t k).spares.length ≤ 2 ∧
      getF t Reg.LNK_STAT_WIDTH k = w ∧ w ≤ lanes.length := by
  intro lanes w
  have run : exec (.lock k good) s = .next (if w = 0 then setPhase (selectLanes s k lanes) k Phase.down
      else setPhase (negotiationOpened (selectLanes s k lanes) k) k Phase.negotiate) := congrArg _ (if_pos locking)
  have link := getLink_selectLanes s k lanes
  have width := width_selectLanes s (k := k) lanes
  have few : ((getLink s k).selected lanes).spares.length ≤ 2 := by
    unfold Link.selected
    rw [List.length_drop]
    omega
  have kept : ∀ (u : State) (ph : Nat), getF (setPhase u k ph) Reg.LNK_STAT_WIDTH k = getF u Reg.LNK_STAT_WIDTH k := fun u ph =>
    (fieldsBut_setPhase u k.isLt ph).same _ _ _ (by omega) (by decide +kernel)
  refine ⟨_, run, ?_⟩
  split_ifs with narrow <;> beta_reduce
  · rw [getLink_setPhase, link, kept, width]
    exact ⟨phase_setPhase _ k.isLt (by decide), rfl, rfl, few, rfl, (linkWidth_le _).1⟩
  · obtain ⟨regs, good', logical, spares⟩ := negotiationOpened_keeps (selectLanes s k lanes) k
    rw [getLink_setPhase, good', logical, spares, link, kept, getF_congr regs, width]
    exact ⟨phase_setPhase _ k.isLt (by decide), rfl, rfl, few, rfl, (linkWidth_le _).1⟩

/-! ### IDENTIFY -/

/-- The fields, by their first instances, that IDENTIFY writes before it names the peer. -/
def identifyKeys : List Nat :=
  faultKeys ++ [Reg.LNK_LANE_GOOD, Reg.LNK_LANE_FLIP, Reg.LNK_CAGE_MAP, Reg.LNK_CAGE_MAP_ORDER_REV].map (fun f => f.key 0 0)

section
variable (s : State) {k : Nat} (index : k < 16)
include index

theorem fieldsBut_setGood (l : List Nat) : FieldsBut identifyKeys s (setGood s k l) := by
  have base : FieldsBut identifyKeys s (modLink s k (fun x => { x with good := l })) := .of_regs (regs_modLink ..)
  exact base.trans (fieldsBut_setF _ _ (by omega) (by decide +kernel))

theorem fieldsBut_fixLanes (lanes : List LaneIdent) : FieldsBut identifyKeys s (fixLanes s k lanes) := by
  have fault : faultKeys ⊆ identifyKeys := List.subset_append_left ..
  have small : k < 131072 := by omega
  have noted : ∀ a b c : Nat, FieldsBut identifyKeys s (setF (setF (setF s Reg.LNK_LANE_FLIP a k) Reg.LNK_CAGE_MAP b k)
      Reg.LNK_CAGE_MAP_ORDER_REV c k) := fun a b c =>
    ((fieldsBut_setF s _ small (by decide +kernel)).trans (fieldsBut_setF _ _ small (by decide +kernel))).trans
      (fieldsBut_setF _ _ small (by decide +kernel))
  unfold fixLanes
  dsimp only
  split_ifs
  · exact noted ..
  · exact (noted ..).trans ((fieldsBut_linkFault _ index ..).mono fault)

end

/-- The words of a serial number, by their first instances. -/
def serialKeys (f : Fld) : List Nat := (List.range 4).map (fun w => f.key 0 w)

theorem fieldsBut_setSerial (s : State) (f : Fld) {i : Nat} (v : Nat) (small : i < 131072) :
    FieldsBut (serialKeys f) s (setSerial s f i v) := by
  unfold serialKeys setSerial
  generalize List.range 4 = words
  refine FieldsBut.foldl (f := fun s w => setF s f (v / 2 ^ (32 * w)) i w) (l := words) (fun s w mem => ?_) s
  exact fieldsBut_setF s _ small (List.mem_map_of_mem mem)

theorem serialOf_setSerial (s : State) {i v : Nat} (bound : v < 2 ^ 128) :
    serialOf (setSerial s Reg.LNK_PEER_ID i v) Reg.LNK_PEER_ID i = v := by
  have word : ∀ w < 4, getF (setSerial s Reg.LNK_PEER_ID i v) Reg.LNK_PEER_ID i w = v / 2 ^ (32 * w) % 2 ^ 32 := by
    intro w low
    unfold setSerial
    exact foldl_read_of_mem (fun t a => kgetD t.regs a 0) (f := fun s w => setF s Reg.LNK_PEER_ID (v / 2 ^ (32 * w)) i w)
      (addr := fun w => Reg.LNK_PEER_ID.key i w) (x := w) (fun t _ apart => getF_setF_ne t _ apart) (List.mem_range.2 low)
      (fun j _ same => by
        have same : Reg.LNK_PEER_ID.key i j = Reg.LNK_PEER_ID.key i w := same
        rw [Fld.key_word _ _ j, Fld.key_word _ _ w] at same
        omega) (fun t => getF_setF_same t ..) s
  unfold serialOf
  rw [word 0 (by decide), word 1 (by decide), word 2 (by decide), word 3 (by decide)]
  norm_num
  omega

theorem serialOf_congr {ks : List Nat} {s t : State} (same : FieldsBut ks s t) {f : Fld} {i : Nat} (small : i < 131072)
    (apart : ∀ w < 4, f.key 0 w ∉ ks) : serialOf t f i = serialOf s f i := by
  unfold serialOf
  rw [same.same f i 0 small (apart 0 (by decide)), same.same f i 1 small (apart 1 (by decide)), same.same f i 2 small (apart 2 (by decide)),
    same.same f i 3 small (apart 3 (by decide))]

theorem peerWrong_congr {ks : List Nat} {s t : State} (same : FieldsBut ks s t) {k : Nat} (index : k < 16)
    (expect : ∀ w < 4, Reg.LNK_EXPECT_ID.key 0 w ∉ ks) (any : Reg.LNK_EXPECT_DIE_EXPECT_ANY.key 0 0 ∉ ks)
    (die : Reg.LNK_EXPECT_DIE.key 0 0 ∉ ks) (serial d : Nat) : peerWrong t k serial d = peerWrong s k serial d := by
  unfold peerWrong onF
  rw [serialOf_congr same (by omega) expect, same.same _ k 0 (by omega) any, same.same _ k 0 (by omega) die]

/-- The state in which IDENTIFY has set the lanes of the peer and reported those of others. -/
def lanesSet (s : State) (k : Nat) (lanes : List LaneIdent) (serial die : Nat) : State :=
  let mine := lanes.filter (fun l => l.serial == serial && l.die == die)
  let out := laneMask ((lanes.filter (fun l => !(l.serial == serial && l.die == die))).map (·.lane))
  let s := fixLanes (setGood s k ((mine.map (·.lane)).filter (getLink s k).good.contains)) k mine
  if out = 0 then s else linkFault s k Err.LNK_CAGE_MISMATCH [out]

/-- The state with the peer named. -/
def peerNamed (s : State) (k serial die : Nat) : State := setF (setSerial s Reg.LNK_PEER_ID k serial) Reg.LNK_PEER_DIE die k

/-- The last step of IDENTIFY: the peer is refused or equalised with. -/
def peerJudged (s : State) (k serial die : Nat) : State :=
  if peerWrong s k serial die then refuseLink (linkFault s k Err.LNK_PEER_MISMATCH [die, serial % 2 ^ 32]) k
  else if serial = moduleSerial s ∧ !onF s Reg.LNK_CTL_LOOPBACK k then refuseLink s k
  else setPhase (flagF s Reg.LNK_STAT_STORED (coeffsKnown (getLink s k) serial die) k) k Phase.equalise

theorem exec_identify {k : LinkId} {s : State} {lanes : List LaneIdent} {serial die : Nat} (identifying : phase s k = Phase.identify)
    (peer : mainPeer lanes = some (serial, die)) : exec (.identify k lanes) s =
      .next (peerJudged (peerNamed (lanesSet s k lanes serial die) k serial die) k serial die) := by
  show execIdentify k lanes s = _
  unfold execIdentify
  rw [if_pos identifying, peer]
  rfl

section
variable (s : State) {k : Nat} (index : k < 16) (serial die : Nat)
include index

theorem fieldsBut_lanesSet (lanes : List LaneIdent) : FieldsBut identifyKeys s (lanesSet s k lanes serial die) := by
  have fault : faultKeys ⊆ identifyKeys := List.subset_append_left ..
  unfold lanesSet
  dsimp only
  split_ifs
  · exact (fieldsBut_setGood s index _).trans (fieldsBut_fixLanes _ index _)
  · exact ((fieldsBut_setGood s index _).trans (fieldsBut_fixLanes _ index _)).trans ((fieldsBut_linkFault _ index ..).mono fault)

/-- The fields, by their first instances, that name the peer. -/
def peerKeys : List Nat := serialKeys Reg.LNK_PEER_ID ++ [Reg.LNK_PEER_DIE.key 0 0]

theorem fieldsBut_peerNamed : FieldsBut peerKeys s (peerNamed s k serial die) :=
  ((fieldsBut_setSerial s Reg.LNK_PEER_ID serial (by omega)).mono (List.subset_append_left ..)).trans
    (fieldsBut_setF _ _ (by omega) (List.mem_append_right _ (List.mem_singleton.2 rfl)))

theorem peerNamed_gives (bound : serial < 2 ^ 128) (low : die < 16) :
    serialOf (peerNamed s k serial die) Reg.LNK_PEER_ID k = serial ∧ getF (peerNamed s k serial die) Reg.LNK_PEER_DIE k = die := by
  have named : FieldsBut [Reg.LNK_PEER_DIE.key 0 0] (setSerial s Reg.LNK_PEER_ID k serial) (peerNamed s k serial die) :=
    fieldsBut_setF _ _ (by omega) (List.mem_singleton.2 rfl)
  refine ⟨?_, ?_⟩
  · rw [serialOf_congr named (by omega) (by decide +kernel), serialOf_setSerial s bound]
  · unfold peerNamed
    rw [getF_setF_same]
    exact Nat.mod_eq_of_lt low

/-- The fields, by their first instances, that judging a peer writes. -/
def judgeKeys : List Nat := faultKeys ++ phaseKeys ++ [Reg.LNK_STAT_STORED.key 0 0]

theorem fieldsBut_refuseLink : FieldsBut phaseKeys s (refuseLink s k) :=
  (FieldsBut.of_regs (regs_modLink ..)).trans (fieldsBut_setPhase _ index _)

theorem fieldsBut_peerJudged : FieldsBut judgeKeys s (peerJudged s k serial die) := by
  have fault : faultKeys ⊆ judgeKeys := List.Subset.trans (List.subset_append_left ..) (List.subset_append_left ..)
  have phases : phaseKeys ⊆ judgeKeys := List.Subset.trans (List.subset_append_right ..) (List.subset_append_left ..)
  unfold peerJudged
  split_ifs
  · exact ((fieldsBut_linkFault s index ..).mono fault).trans ((fieldsBut_refuseLink _ index).mono phases)
  · exact (fieldsBut_refuseLink s index).mono phases
  · exact (fieldsBut_setF s _ (by omega) (List.mem_append_right _ (List.mem_singleton.2 rfl))).trans
      ((fieldsBut_setPhase _ index _).mono phases)

theorem phase_refuseLink : phase (refuseLink s k) k = Phase.down := phase_setPhase _ index (by decide)

theorem phase_peerJudged : phase (peerJudged s k serial die) k =
    (if peerWrong s k serial die = true ∨ (serial = moduleSerial s ∧ onF s Reg.LNK_CTL_LOOPBACK k = false)
      then Phase.down else Phase.equalise) := by
  unfold peerJudged
  by_cases wrong : peerWrong s k serial die = true
  · rw [if_pos wrong, if_pos (.inl wrong)]
    exact phase_refuseLink _ index
  · rw [if_neg wrong]
    by_cases self : serial = moduleSerial s ∧ onF s Reg.LNK_CTL_LOOPBACK k = false
    · rw [if_pos (by simpa using self), if_pos (.inr self)]
      exact phase_refuseLink _ index
    · rw [if_neg (by simpa using self), if_neg (by simp [wrong, self])]
      exact phase_setPhase _ index (by decide)

end

theorem identify_gives {k : LinkId} {s : State} {lanes : List LaneIdent} {serial die : Nat} (identifying : phase s k = Phase.identify)
    (peer : mainPeer lanes = some (serial, die)) (bound : serial < 2 ^ 128) (low : die < 16) :
    Gives (.identify k lanes) s fun t => serialOf t Reg.LNK_PEER_ID k = serial ∧ getF t Reg.LNK_PEER_DIE k = die ∧
      phase t k = (if peerWrong s k serial die = true ∨ (serial = moduleSerial s ∧ onF s Reg.LNK_CTL_LOOPBACK k = false)
        then Phase.down else Phase.equalise) := by
  have before : FieldsBut (identifyKeys ++ peerKeys) s (peerNamed (lanesSet s k lanes serial die) k serial die) :=
    ((fieldsBut_lanesSet s k.isLt serial die lanes).mono (List.subset_append_left ..)).trans
      ((fieldsBut_peerNamed _ k.isLt serial die).mono (List.subset_append_right ..))
  obtain ⟨named, numbered⟩ := peerNamed_gives (lanesSet s k lanes serial die) k.isLt serial die bound low
  have after := fieldsBut_peerJudged (peerNamed (lanesSet s k lanes serial die) k serial die) k.isLt serial die
  have loop : onF (peerNamed (lanesSet s k lanes serial die) k serial die) Reg.LNK_CTL_LOOPBACK k = onF s Reg.LNK_CTL_LOOPBACK k :=
    onF_congr (before.same _ k 0 (by omega) (by decide +kernel))
  have own : moduleSerial (peerNamed (lanesSet s k lanes serial die) k serial die) = moduleSerial s :=
    serialOf_congr before (by decide) (by decide +kernel)
  refine ⟨_, exec_identify identifying peer, ?_, ?_, ?_⟩
  · rw [serialOf_congr after (by omega) (by decide +kernel), named]
  · rw [after.same _ k 0 (by omega) (by decide +kernel), numbered]
  · rw [phase_peerJudged _ k.isLt, loop, own,
      peerWrong_congr before k.isLt (by decide +kernel) (by decide +kernel) (by decide +kernel)]

end Sys2Proof.Machine

end

section
/-! Spared lanes, the negotiation and the retraining of a link (R500, R503 to R506; O49). -/

namespace Sys2Proof.Machine

/-! ### Retraining -/

theorem fieldsBut_phase {ks : List Nat} {s t : State} (same : FieldsBut ks s t) {k : Nat} (index : k < 16)
    (apart : Reg.LNK_STAT_PHASE.key 0 0 ∉ ks) : phase t k = phase s k := same.same _ k 0 (by omega) apart

theorem retrainFrom_gives (s : State) {k ph : Nat} (index : k < 16) (code : ph < 16) :
    phase (retrainFrom s k ph) k = ph ∧
    getLink (retrainFrom s k ph) k = { getLink s k with nakRuns := 0, retrainAt := some s.lampTime } ∧
    getF (retrainFrom s k ph) Reg.LNK_RETRAINS k =
      min (getF s Reg.LNK_RETRAINS k + 1) (2 ^ Reg.LNK_RETRAINS.width - 1) := by
  have time : (linkFault (addF s Reg.LNK_RETRAINS 1 k) k Err.LNK_RETRAIN [ph]).lampTime = s.lampTime :=
    lampTime_of_offLog (offLog_logFault ..)
  have link : getLink (linkFault (addF s Reg.LNK_RETRAINS 1 k) k Err.LNK_RETRAIN [ph]) k = getLink s k := getLink_linkFault ..
  have fault := fieldsBut_linkFault (addF s Reg.LNK_RETRAINS 1 k) index Err.LNK_RETRAIN [ph]
  unfold retrainFrom
  dsimp only
  refine ⟨phase_setPhase _ index code, ?_, ?_⟩
  · rw [getLink_setPhase, getLink_modLink, link, time]
  · rw [(fieldsBut_setPhase _ index ph).same _ k 0 (by omega) (by decide +kernel), getF_congr (regs_modLink ..),
      fault.same _ k 0 (by omega) (by decide +kernel), getF_addF_same]

theorem retrain_gives {k : LinkId} {s : State} {v : Nat} (enable : v / 2 ^ 31 = 1) (start : v / 2 ^ 30 % 2 = 1)
    (up : answers s (linkPage k) = true) : Gives (.retrain k v) s fun t =>
      phase t k = Phase.detect ∧ (getLink t k).refused = false ∧
      getF t Reg.LNK_RETRAINS k = min (getF s Reg.LNK_RETRAINS k + 1) (2 ^ Reg.LNK_RETRAINS.width - 1) ∧
      (getLink t k).retrainAt = some s.lampTime := by
  let u := setF s Reg.LNK_CTL_ENABLE (v / 2 ^ 31) k
  let w := if pageLocked u (linkPage k) then u else setF u Reg.LNK_CTL_LOOPBACK (v / 2 ^ 29) k
  have kept : FieldsBut [Reg.LNK_CTL_LOOPBACK.key 0 0] u w := by
    unfold w
    split_ifs
    · exact .refl _ u
    · exact fieldsBut_setF u _ (by omega) (List.mem_singleton.2 rfl)
  have time : w.lampTime = s.lampTime := by
    unfold w
    split_ifs <;> rfl
  have enabled : onF w Reg.LNK_CTL_ENABLE k = true := by
    rw [onF, kept.same _ k 0 (by omega) (by decide)]
    show onF (setF s Reg.LNK_CTL_ENABLE (v / 2 ^ 31) k) Reg.LNK_CTL_ENABLE k = true
    rw [onF_setF_same, enable]
    rfl
  have run : exec (.retrain k v) s =
      .next (if v / 2 ^ 30 % 2 = 1 ∧ onF w Reg.LNK_CTL_ENABLE k = true then
        retrainFrom (modLink w k (fun x => { x with refused := false })) k Phase.detect else w) :=
    congrArg _ (regWrite_answers up _)
  rw [if_pos ⟨start, enabled⟩] at run
  obtain ⟨at_, link, count⟩ := retrainFrom_gives (modLink w k (fun x => { x with refused := false })) k.isLt
    (ph := Phase.detect) (by decide)
  rw [getLink_modLink] at link
  refine ⟨_, run, at_, ?_, ?_, ?_⟩
  · rw [link]
  · rw [count, getF_congr (regs_modLink ..), kept.same _ k 0 (by omega) (by decide)]
    rw [show getF u Reg.LNK_RETRAINS k = getF s Reg.LNK_RETRAINS k from getF_setF_other _ _ _ (by decide)]
  · rw [link]
    exact congrArg some time

/-! ### Spared lanes -/

section
variable {k : LinkId} {lane : Fin 32} {s : State} (up : phase s k = Phase.up) (logical : lane.val ∈ (getLink s k).logical)
include up logical

theorem laneSpared_guard :
    ¬ (phase s k ≠ Phase.up ∨ (!((getLink s k).logical ++ (getLink s k).spares).contains lane.val) = true) := by
  have listed : ((getLink s k).logical ++ (getLink s k).spares).contains lane.val = true :=
    List.contains_iff_mem.2 (List.mem_append_left _ logical)
  rw [listed]
  exact fun h => h.elim (fun h => h up) (fun h => Bool.false_ne_true h)

theorem laneSpared_spare {sp : Nat} {rest : List Nat} (spares : (getLink s k).spares = sp :: rest) :
    Gives (.lnkLaneSpared k lane) s fun t =>
      (getLink t k).logical = (getLink s k).logical.map (fun l => if l = lane.val then sp else l) ∧
      (getLink t k).spares = rest ∧ (getLink t k).good = (getLink s k).good.filter (· != lane.val) ∧ phase t k = Phase.up := by
  let ls := (getLink s k).logical.map (fun l => if l = lane.val then sp else l)
  let u := modLink (setGood s k ((getLink s k).good.filter (· != lane.val))) k (fun x => { x with logical := ls, spares := rest })
  let w := setF (addF u Reg.LNK_SPARE_SWAPS 1 k) Reg.LNK_LANE_ACTIVE (laneMask ls) k
  have run : exec (.lnkLaneSpared k lane) s = .next (linkFault w k Err.LNK_LANE_SPARED [lane.val, sp]) := by
    show execLnkLaneSpared k lane s = _
    unfold execLnkLaneSpared
    dsimp only
    rw [if_neg (laneSpared_guard up logical), if_pos (List.contains_iff_mem.2 logical), spares]
  have link : getLink u k = { getLink s k with
      good := (getLink s k).good.filter (· != lane.val), logical := ls, spares := rest } := by
    unfold u
    rw [getLink_modLink, getLink_setGood]
  have same : getLink (linkFault w k Err.LNK_LANE_SPARED [lane.val, sp]) k = getLink u k := getLink_linkFault ..
  refine ⟨_, run, ?_, ?_, ?_, ?_⟩
  · rw [same, link]
  · rw [same, link]
  · rw [same, link]
  · have good : FieldsBut identifyKeys s u :=
      (fieldsBut_setGood s k.isLt _).trans (.of_regs (regs_modLink ..))
    have swapped : phase w k = phase u k := by
      unfold phase w
      rw [getF_setF_other _ _ _ (by decide), getF_addF_other _ _ _ (by decide)]
    rw [fieldsBut_phase (fieldsBut_linkFault w k.isLt ..) k.isLt (by decide +kernel), swapped,
      fieldsBut_phase good k.isLt (by decide +kernel), up]

theorem laneSpared_narrows (spares : (getLink s k).spares = []) : Gives (.lnkLaneSpared k lane) s fun t => phase t k = Phase.select ∧
    (getLink t k).good = (getLink s k).good.filter (· != lane.val) ∧ (getLink t k).retrainAt = some s.lampTime := by
  let u := setGood s k ((getLink s k).good.filter (· != lane.val))
  let w := linkFault u k Err.LNK_NARROWED [linkWidth ((getLink s k).good.filter (· != lane.val)).length]
  have run : exec (.lnkLaneSpared k lane) s = .next (retrainFrom w k Phase.select) := by
    show execLnkLaneSpared k lane s = _
    unfold execLnkLaneSpared
    dsimp only
    rw [if_neg (laneSpared_guard up logical), if_pos (List.contains_iff_mem.2 logical), spares]
  have same : getLink w k = getLink u k := getLink_linkFault ..
  have time : w.lampTime = u.lampTime := lampTime_of_offLog (offLog_logFault ..)
  obtain ⟨at_, link, -⟩ := retrainFrom_gives w k.isLt (ph := Phase.select) (by decide)
  refine ⟨_, run, at_, ?_, ?_⟩
  · rw [link, same]
    show (getLink u k).good = _
    rw [getLink_setGood]
  · rw [link]
    exact congrArg some time

end

/-! ### The negotiation -/

theorem getLink_negotiated (s : State) (k : Nat) : getLink (negotiated s k) k = getLink s k := by
  unfold negotiated
  dsimp only
  split_ifs
  · exact getLink_setPhase ..
  · rfl

theorem phase_negotiated {s : State} {k : Nat} (index : k < 16) (at_ : phase s k = Phase.negotiate) :
    phase (negotiated s k) k =
      (if (getLink s k).gotIdent = true ∧ (getLink s k).gotVersion = true then Phase.sync else Phase.negotiate) := by
  unfold negotiated
  dsimp only
  split_ifs with both done done
  · exact phase_setPhase s index (by decide)
  · exact absurd both.2 done
  · exact absurd ⟨at_, done⟩ both
  · exact at_

theorem fieldsBut_negotiated (s : State) {k : Nat} (index : k < 16) : FieldsBut phaseKeys s (negotiated s k) := by
  unfold negotiated
  dsimp only
  split_ifs
  · exact fieldsBut_setPhase s index _
  · exact .refl _ s

/-- What the partner can take, noted where the peer is the partner. -/
def partnerNoted (s : State) (serial : Nat) : State :=
  if serial = serialOf s Reg.ERR_PARTNER_ID 0 then
    { (nextFree (nextFree s).2).2 with partner := { (nextFree (nextFree s).2).2.partner with
      capacityOk := (nextFree s).1 % 2 == 1, ringsOk := (nextFree (nextFree s).2).1 % 2 == 1 } }
  else s

theorem partnerNoted_keeps (s : State) (serial : Nat) :
    (partnerNoted s serial).regs = s.regs ∧ (partnerNoted s serial).links = s.links := by
  unfold partnerNoted
  split_ifs <;> exact ⟨rfl, rfl⟩

theorem ident_gives {k : LinkId} {s : State} (serial die grade cores : Nat) (idents : List (List Byte))
    (at_ : phase s k = Phase.negotiate) : Gives (.ident k serial die grade cores idents) s fun t =>
      (getLink t k).gotIdent = true ∧ (getLink t k).peerIdents = idents ∧ (getLink t k).peerCores = cores ∧
      phase t k = (if (getLink s k).gotVersion = true then Phase.sync else Phase.negotiate) := by
  let u := modLink (peerNamed s k serial die) k
    (fun x => { x with gotIdent := true, peerGrade := grade, peerCores := cores, peerIdents := idents })
  have run : exec (.ident k serial die grade cores idents) s = .next (negotiated (partnerNoted u serial) k) :=
    congrArg _ (if_neg (by rw [at_]; decide))
  obtain ⟨regs, links⟩ := partnerNoted_keeps u serial
  have named : phase (peerNamed s k serial die) k = Phase.negotiate :=
    (fieldsBut_phase (fieldsBut_peerNamed s k.isLt serial die) k.isLt (by decide +kernel)).trans at_
  have still : phase (partnerNoted u serial) k = Phase.negotiate := (getF_congr regs ..).trans named
  have before : getLink (peerNamed s k serial die) k = getLink s k := getLink_congr rfl k
  have link : getLink (partnerNoted u serial) k = { getLink s k with
      gotIdent := true, peerGrade := grade, peerCores := cores, peerIdents := idents } := by
    rw [getLink_congr links, getLink_modLink, before]
  refine ⟨_, run, ?_, ?_, ?_, ?_⟩
  · rw [getLink_negotiated, link]
  · rw [getLink_negotiated, link]
  · rw [getLink_negotiated, link]
  · rw [phase_negotiated k.isLt still, link]
    simp only [true_and]

section
variable {k : LinkId} {s : State} {offers : List (Nat × Nat)} (at_ : phase s k = Phase.negotiate)
include at_

theorem version_agreed {m : Nat} (best : ((offers.filter (fun o => o.1 == 1)).map (·.2)).max? = some m) :
    Gives (.version k offers) s fun t =>
      getF t Reg.LNK_STAT_VER_MAJOR k = 1 ∧ getF t Reg.LNK_STAT_VER_MINOR k = min 1 m ∧
      phase t k = (if (getLink s k).gotIdent = true then Phase.sync else Phase.negotiate) := by
  let u := setF (setF s Reg.LNK_STAT_VER_MAJOR 1 k) Reg.LNK_STAT_VER_MINOR (min 1 m) k
  let w := modLink u k (fun x => { x with gotVersion := true })
  have run : exec (.version k offers) s = .next (negotiated w k) := by
    show execVersion k offers s = _
    unfold execVersion
    rw [if_neg (not_not.2 at_), best]
  have still : phase w k = Phase.negotiate := by
    refine (getF_congr (regs_modLink ..) ..).trans ?_
    refine (getF_setF_other _ _ _ (by decide)).trans ((getF_setF_other _ _ _ (by decide)).trans at_)
  have link : getLink w k = { getLink s k with gotVersion := true } := getLink_modLink ..
  have kept := fieldsBut_negotiated w k.isLt
  refine ⟨_, run, ?_, ?_, ?_⟩
  · rw [kept.same _ k 0 (by omega) (by decide +kernel), getF_congr (regs_modLink ..), getF_setF_other _ _ _ (by decide), getF_setF_same]
    rfl
  · rw [kept.same _ k 0 (by omega) (by decide +kernel), getF_congr (regs_modLink ..), getF_setF_same]
    exact Nat.mod_eq_of_lt (Nat.lt_of_le_of_lt (Nat.min_le_left 1 m) (by decide))
  · rw [phase_negotiated k.isLt still, link]
    simp only [and_true]

theorem version_refused (other : ∀ o ∈ offers, o.1 ≠ 1) :
    Gives (.version k offers) s fun t => phase t k = Phase.down ∧ (getLink t k).refused = true := by
  have nothing : ((offers.filter (fun o => o.1 == 1)).map (·.2)).max? = none := by
    have empty : offers.filter (fun o => o.1 == 1) = [] := List.filter_eq_nil_iff.2 fun o mem => by simpa using other o mem
    rw [empty]
    rfl
  have run : exec (.version k offers) s = .next (refuseLink (linkFault s k Err.LNK_VERSION
      [((((offers.map (·.1)).dedup).filter (· < 32)).map (fun m => 2 ^ m)).sum]) k) := by
    show execVersion k offers s = _
    unfold execVersion
    rw [if_neg (not_not.2 at_), nothing]
  refine ⟨_, run, phase_refuseLink _ k.isLt, ?_⟩
  unfold refuseLink
  rw [getLink_setPhase, getLink_modLink]

end

/-- Settles O49. Each step of the training leaves its phase for the next one, or goes down. -/
theorem linkTraining : Obligations.LinkTraining := fun _ _ =>
  ⟨fun detecting enabled lanes => detect_gives detecting enabled lanes,
    fun down enabled beacon b => exec_signalLook down enabled beacon b,
    fun _ _ _ identifying peer bound low => identify_gives identifying peer bound low,
    fun equalising cs => exec_equalise equalising cs,
    fun good locking => lock_gives good locking,
    fun _ _ _ up logical => ⟨laneSpared_spare up logical, laneSpared_narrows up logical⟩,
    fun serial die grade cores idents at_ => ident_gives serial die grade cores idents at_,
    fun _ at_ => ⟨fun _ best => version_agreed at_ best, version_refused at_⟩,
    fun _ _ enable start up => retrain_gives enable start up⟩

end Sys2Proof.Machine

end

section
/-! Time over the links (R467, R509; O50). -/

namespace Sys2Proof.Machine

/-! ### The source of time -/

/-- The state but its registers, its slew and whether the open usage interval is synchronised. -/
def offTime (s : State) : State := { s with regs := [], slew := 0, tele := { s.tele with openSynced := false } }

theorem offTime_setF (s : State) (f : Fld) (v i k : Nat) : offTime (setF s f v i k) = offTime s := rfl

theorem offTime_flagF (s : State) (f : Fld) (b : Bool) (i k : Nat) : offTime (flagF s f b i k) = offTime s := offTime_setF ..

theorem offTime_flags (s : State) (f : Fld) (b : State → Nat → Bool) (l : List Nat) :
    offTime (l.foldl (fun s k => flagF s f (b s k) k) s) = offTime s := by
  induction l generalizing s with
  | nil => rfl
  | cons k l ih => rw [List.foldl_cons, ih, offTime_flagF]

theorem offTime_setSynced (s : State) (b : Bool) : offTime (setSynced s b) = offTime s := by
  have lapsed : ∀ s : State, offTime { s with tele := { s.tele with openSynced := false } } = offTime s := fun _ => rfl
  unfold setSynced
  dsimp only
  split_ifs
  · exact (offTime_flags ..).trans (offTime_flagF ..)
  · exact (lapsed _).trans ((offTime_flags ..).trans (offTime_flagF ..))

theorem offTime_chooseSource (s : State) : offTime (chooseSource s) = offTime s := by
  have stopped : ∀ s : State, offTime { s with slew := 0 } = offTime s := fun _ => rfl
  unfold chooseSource
  dsimp only
  split_ifs
  · exact offTime_flagF ..
  · rw [offTime_setSynced, stopped]
    exact (offTime_flags _ _ (fun s k => _) _).trans (offTime_flagF ..)

/-- What the choice of a source leaves as it was. -/
theorem chooseSource_keeps (s : State) : (chooseSource s).links = s.links ∧ (chooseSource s).lampTime = s.lampTime ∧
    (chooseSource s).mem = s.mem ∧ (chooseSource s).serve = s.serve := by
  have same := offTime_chooseSource s
  have links : (offTime (chooseSource s)).links = (offTime s).links := by rw [same]
  have time : (offTime (chooseSource s)).lampTime = (offTime s).lampTime := by rw [same]
  have mem : (offTime (chooseSource s)).mem = (offTime s).mem := by rw [same]
  have serve : (offTime (chooseSource s)).serve = (offTime s).serve := by rw [same]
  exact ⟨links, time, mem, serve⟩

theorem setSynced_keeps (s : State) (b : Bool) : (setSynced s b).lampTime = s.lampTime ∧ (setSynced s b).slew = s.slew := by
  have flags : ∀ (f : Fld) (b : State → Nat → Bool) (l : List Nat) (s : State),
      (l.foldl (fun s k => flagF s f (b s k) k) s).slew = s.slew := fun f b l s => by
    induction l generalizing s with
    | nil => rfl
    | cons k l ih =>
      rw [List.foldl_cons, ih]
      rfl
  have same := offTime_setSynced s b
  have time : (offTime (setSynced s b)).lampTime = (offTime s).lampTime := by rw [same]
  refine ⟨time, ?_⟩
  unfold setSynced
  dsimp only
  split_ifs
  · exact (flags _ _ _ _).trans rfl
  · exact (flags _ _ _ _).trans rfl

/-- The fields, by their first instances, that steering lamp time writes. -/
def syncKeys : List Nat := [Reg.LAMP_TIME_CTL_SYNCED, Reg.LNK_STAT_TIME_SYNCED].map (fun f => f.key 0 0)

theorem fieldsBut_flags {ks : List Nat} {f : Fld} (mem : f.key 0 0 ∈ ks) (b : State → Nat → Bool) (s : State) :
    FieldsBut ks s ((List.range 16).foldl (fun s k => flagF s f (b s k) k) s) := by
  have low : ∀ k ∈ List.range 16, k < 131072 := fun k hk => by
    have := List.mem_range.1 hk
    omega
  generalize List.range 16 = l at low ⊢
  exact FieldsBut.foldl (f := fun s k => flagF s f (b s k) k) (fun s k hk => fieldsBut_setF s _ (low k hk) mem) s

theorem fieldsBut_setSynced (s : State) (b : Bool) : FieldsBut syncKeys s (setSynced s b) := by
  have flagged : FieldsBut syncKeys s (flagF s Reg.LAMP_TIME_CTL_SYNCED b 0) := fieldsBut_setF s _ (by decide) (by decide)
  have all := flagged.trans (fieldsBut_flags (f := Reg.LNK_STAT_TIME_SYNCED) (by decide)
    (fun s k => b && onF s Reg.LNK_STAT_TIME_PATH k) _)
  unfold setSynced
  dsimp only
  split_ifs with h
  · exact all
  · exact all.trans (.of_regs rfl)

theorem onF_flagF_same (s : State) {f : Fld} (b : Bool) (i : Nat) (one : f.width = 1) : onF (flagF s f b i) f i = b := by
  unfold flagF
  rw [onF_setF_same, one]
  cases b <;> rfl

theorem onF_setSynced (s : State) (b : Bool) : onF (setSynced s b) Reg.LAMP_TIME_CTL_SYNCED 0 = b := by
  have flags := fieldsBut_flags (ks := [Reg.LNK_STAT_TIME_SYNCED.key 0 0]) (f := Reg.LNK_STAT_TIME_SYNCED) (by decide)
    (fun s k => b && onF s Reg.LNK_STAT_TIME_PATH k) (flagF s Reg.LAMP_TIME_CTL_SYNCED b 0)
  have same := flags.same Reg.LAMP_TIME_CTL_SYNCED 0 0 (by decide) (by decide)
  refine Eq.trans ?_ ((onF_congr same).trans (onF_flagF_same s b 0 rfl))
  unfold setSynced
  dsimp only
  split_ifs <;> rfl

theorem onF_chooseSource (s : State) : onF (chooseSource s) Reg.LAMP_TIME_CTL_SOURCE 0 = (bestSource s).link.isNone := by
  have flagged := onF_flagF_same s (f := Reg.LAMP_TIME_CTL_SOURCE) (bestSource s).link.isNone 0 rfl
  have paths := fieldsBut_flags (ks := [Reg.LNK_STAT_TIME_PATH.key 0 0]) (f := Reg.LNK_STAT_TIME_PATH) (by decide)
    (fun _ k => (bestSource s).link == some k) (flagF s Reg.LAMP_TIME_CTL_SOURCE (bestSource s).link.isNone 0)
  unfold chooseSource
  dsimp only
  split_ifs
  · exact flagged
  · refine (onF_congr ?_).trans flagged
    rw [(fieldsBut_setSynced _ false).same _ 0 0 (by decide) (by decide)]
    exact paths.same _ 0 0 (by decide) (by decide)

/-! ### The source chosen is one that no candidate is preferred to -/

theorem Source.before_irrefl (a : Source) : a.before a = false := by
  unfold Source.before
  exact decide_eq_false (by omega)

theorem Source.not_before_trans {a b c : Source} (h : a.before b = false) (k : b.before c = false) : a.before c = false := by
  unfold Source.before at h k ⊢
  have h := of_decide_eq_false h
  have k := of_decide_eq_false k
  exact decide_eq_false (by omega)

theorem Source.not_before_of_before {a b : Source} (h : a.before b = true) : b.before a = false := by
  unfold Source.before at h ⊢
  have h := of_decide_eq_true h
  exact decide_eq_false (by omega)

theorem foldl_best (cs : List Source) (o : Source) :
    o.before (cs.foldl (fun b c => if c.before b then c else b) o) = false ∧
      ∀ c ∈ cs, c.before (cs.foldl (fun b c => if c.before b then c else b) o) = false := by
  induction cs generalizing o with
  | nil => exact ⟨o.before_irrefl, fun _ mem => absurd mem List.not_mem_nil⟩
  | cons c cs ih =>
    rw [List.foldl_cons]
    obtain ⟨best, all⟩ := ih (if c.before o then c else o)
    have first : o.before (if c.before o then c else o) = false ∧ c.before (if c.before o then c else o) = false := by
      cases h : c.before o with
      | true => exact ⟨Source.not_before_of_before h, c.before_irrefl⟩
      | false => exact ⟨o.before_irrefl, h⟩
    refine ⟨Source.not_before_trans first.1 best, fun d mem => ?_⟩
    rcases List.mem_cons.1 mem with rfl | mem
    · exact Source.not_before_trans first.2 best
    · exact all d mem

/-! ### Exchanges and announcements -/

theorem exec_pdelay {k : LinkId} {s : State} (offset : Int) (delay : Nat) (synced : Phase.sync ≤ phase s k) :
    let u := modLink (setF (setF s Reg.LNK_TIME_OFFSET (signedWord offset) k) Reg.LNK_PATH_DELAY delay k) k
      (fun x => { x with lastExchange := some s.lampTime })
    let v := if phase s k = Phase.sync then bringUp u k else u
    exec (.pdelay k offset delay) s = .next (if timePath v = some k.val then followTime v k offset else v) := by
  intro u v
  have still : phase u k = phase s k :=
    (getF_setF_other _ _ _ (by decide)).trans (getF_setF_other _ _ _ (by decide))
  have known : v = if phase u k = Phase.sync then bringUp u k else u := by rw [still]
  rw [known]
  exact congrArg _ (if_neg (Nat.not_lt.2 synced))

theorem followTime_gives {k : Nat} (offset : Int) (s : State) :
    ((1000000000 < offset → (followTime s k offset).lampTime = s.lampTime ∧ (followTime s k offset).slew = 0) ∧
    (offset < -1000000 → (followTime s k offset).lampTime = s.lampTime + offset.natAbs ∧ (followTime s k offset).slew = 0) ∧
    (-1000000 ≤ offset → offset ≤ 1000000000 →
      (followTime s k offset).lampTime = s.lampTime ∧ (followTime s k offset).slew = -offset)) ∧
    onF (followTime s k offset) Reg.LAMP_TIME_CTL_SYNCED 0 = decide (offset.natAbs ≤ 50) := by
  have ahead : ∀ (s : State) (xs : List Nat), (linkFault s k Err.LNK_TIME_AHEAD xs).lampTime = s.lampTime ∧
      (linkFault s k Err.LNK_TIME_AHEAD xs).slew = s.slew := fun s xs => by
    have same := offLog_logFault s (blockItem Err.LNK_TIME_AHEAD (identOf 0x22 k) xs)
    have slew : (offLog (linkFault s k Err.LNK_TIME_AHEAD xs)).slew = (offLog s).slew := congrArg State.slew same
    exact ⟨lampTime_of_offLog same, slew⟩
  unfold followTime
  dsimp only
  refine ⟨⟨fun far => ?_, fun behind => ?_, fun low high => ?_⟩, onF_setSynced ..⟩
  · rw [if_pos far, (setSynced_keeps ..).1, (setSynced_keeps ..).2, (ahead ..).1, (ahead ..).2]
    exact ⟨rfl, rfl⟩
  · rw [if_neg (by omega), if_pos behind, (setSynced_keeps ..).1, (setSynced_keeps ..).2]
    exact ⟨rfl, rfl⟩
  · rw [if_neg (by omega), if_neg (by omega), (setSynced_keeps ..).1, (setSynced_keeps ..).2]
    exact ⟨rfl, rfl⟩

theorem sendFrame_rest (s : State) (j channel : Nat) (fs : List (List Byte)) :
    (sendFrame s j channel fs).mem = s.mem ∧ (sendFrame s j channel fs).lampTime = s.lampTime ∧
      ∀ k ≠ j, getLink (sendFrame s j channel fs) k = getLink s k := by
  have others : ∀ (x : Link), ∀ k ≠ j, getLink (setLink s j x) k = getLink s k := fun x k other => kgetD_kset_ne _ _ _ other
  unfold sendFrame
  dsimp only
  split_ifs
  · exact ⟨rfl, rfl, fun k other => others _ k other⟩
  · exact ⟨rfl, rfl, fun k other => others _ k other⟩

theorem sendFlits_rest (s : State) (j channel : Nat) (fs : List (List Byte)) :
    (sendFlits s j channel fs).mem = s.mem ∧ (sendFlits s j channel fs).lampTime = s.lampTime ∧
      ∀ k ≠ j, getLink (sendFlits s j channel fs) k = getLink s k := by
  unfold sendFlits
  induction List.range ((fs.length + 3) / 4) generalizing s with
  | nil => exact ⟨rfl, rfl, fun _ _ => rfl⟩
  | cons i l ih =>
    obtain ⟨mem, time, others⟩ := sendFrame_rest s j channel ((fs.drop (4 * i)).take 4)
    obtain ⟨mem', time', others'⟩ := ih (sendFrame s j channel ((fs.drop (4 * i)).take 4))
    exact ⟨mem'.trans mem, time'.trans time, fun k other => (others' k other).trans (others k other)⟩

/-- Announcements on other links leave a link, lamp time and the memories as they were. -/
theorem sendAnnounces_rest (s : State) (k p n hops : Nat) {js : List Nat} (others : ∀ j ∈ js, j ≠ k) :
    (js.foldl (fun s j => sendAnnounce s j p n hops) s).mem = s.mem ∧
      (js.foldl (fun s j => sendAnnounce s j p n hops) s).lampTime = s.lampTime ∧
      getLink (js.foldl (fun s j => sendAnnounce s j p n hops) s) k = getLink s k := by
  induction js generalizing s with
  | nil => exact ⟨rfl, rfl, rfl⟩
  | cons j js ih =>
    obtain ⟨mem, time, link⟩ := sendFlits_rest s j 1 (msgFlits (linkMsg 0x03 0 (freeBytes 0x0509 [p, n, hops] 68)))
    obtain ⟨mem', time', link'⟩ := ih (sendAnnounce s j p n hops) fun i mem => others i (List.mem_cons_of_mem _ mem)
    exact ⟨mem'.trans mem, time'.trans time, link'.trans (link k (others j List.mem_cons_self).symm)⟩

theorem announce_gives {k : LinkId} {s : State} (p n : Nat) {hops : Nat} (synced : Phase.sync ≤ phase s k) (near : hops < 16) :
    Gives (.announce k p n hops) s fun t => (getLink t k).ann = some ⟨p, n, hops⟩ ∧ t.lampTime = s.lampTime ∧ t.mem = s.mem := by
  let u := modLink s k (fun x => { x with ann := some ⟨p, n, hops⟩ })
  let w := if hops + 1 < 16 then ((List.range 16).filter (fun j => j != k.val && linkUp u j)).foldl
    (fun s j => sendAnnounce s j p n (hops + 1)) u else u
  have run : exec (.announce k p n hops) s = .next (chooseSource w) :=
    congrArg _ (if_neg (fun h => h.elim (Nat.not_lt.2 synced) (by omega)))
  have kept : w.mem = u.mem ∧ w.lampTime = u.lampTime ∧ getLink w k = getLink u k := by
    unfold w
    split_ifs
    · exact sendAnnounces_rest u k p n (hops + 1) fun j mem => by
        have apart := (List.mem_filter.1 mem).2
        simp only [Bool.and_eq_true, bne_iff_ne] at apart
        exact apart.1
    · exact ⟨rfl, rfl, rfl⟩
  obtain ⟨mem, time, link⟩ := kept
  obtain ⟨links, time', mem', -⟩ := chooseSource_keeps w
  refine ⟨_, run, ?_, time'.trans time, mem'.trans mem⟩
  rw [getLink_congr links, link]
  exact congrArg Link.ann (getLink_modLink s k _)

theorem exec_timeSourceLoss_own {s : State} (own : timePath s = none) : exec .timeSourceLoss s = .next s := by
  show execTimeSourceLoss s = _
  unfold execTimeSourceLoss
  rw [own]

theorem exec_timeSourceLoss_link {s : State} {k : Nat} (path : timePath s = some k) :
    exec .timeSourceLoss s = .next (chooseSource (modLink s k (fun x => { x with ann := none }))) := by
  show execTimeSourceLoss s = _
  unfold execTimeSourceLoss
  rw [path]

theorem exec_pdelayTimer {k : LinkId} {s : State} (synced : Phase.sync ≤ phase s k) :
    exec (.pdelayTimer k) s = .next (linkSend s k (openMsg s k 0x04)) := congrArg _ (if_neg (Nat.not_lt.2 synced))

end Sys2Proof.Machine

end

section
/-! Frames, split packets, the loss of a link and of a peer, what the partner hands over (R407, R408, R501, R502, R507, R510;
O50). -/

namespace Sys2Proof.Machine

/-! ### Frames -/

theorem exec_linkFrame_short (k : LinkId) {fr : List Byte} (bad : Bool) (s : State) (short : fr.length ≠ 336) :
    exec (.linkFrame k fr bad) s = .fault (.illFormed "LINK_FRAME") := if_pos short

section
variable {k : LinkId} {s : State} {fr : List Byte} (whole : fr.length = 336) (open_ : Phase.negotiate ≤ phase s k)
include whole open_

theorem exec_linkFrame : exec (.linkFrame k fr false) s = .next (
    if (leAt fr 328 4 != crc32c (fr.take 328) || leAt fr 0 2 != (getLink s k).rxSeq) = true then
      if (getLink s k).nak then s else sendFrame (setLink s k { getLink s k with nak := true }) k 1 []
    else if leAt fr 4 1 % 2 = 1 then
      takeNak (takeAck (setLink s k { getLink s k with rxSeq := ((getLink s k).rxSeq + 1) % 65536, nak := false }) k (leAt fr 2 2)) k
    else takeAck (setLink s k { getLink s k with rxSeq := ((getLink s k).rxSeq + 1) % 65536, nak := false }) k (leAt fr 2 2)) := by
  show execLinkFrame k fr false s = _
  unfold execLinkFrame
  rw [if_neg (not_not.2 whole), if_neg (Nat.not_lt.2 open_)]
  dsimp only
  rw [if_neg Bool.false_ne_true, Bool.false_or]

theorem exec_linkFrame_good (sound : leAt fr 328 4 = crc32c (fr.take 328)) (next_ : leAt fr 0 2 = (getLink s k).rxSeq) :
    let u := takeAck (setLink s k { getLink s k with rxSeq := ((getLink s k).rxSeq + 1) % 65536, nak := false }) k (leAt fr 2 2)
    exec (.linkFrame k fr false) s = .next (if leAt fr 4 1 % 2 = 1 then takeNak u k else u) := by
  intro u
  rw [exec_linkFrame whole open_, sound, next_, bne_self_eq_false, bne_self_eq_false, Bool.or_self, if_neg Bool.false_ne_true]

theorem exec_linkFrame_bad (bad : leAt fr 328 4 ≠ crc32c (fr.take 328) ∨ leAt fr 0 2 ≠ (getLink s k).rxSeq) :
    exec (.linkFrame k fr false) s = .next (if (getLink s k).nak = true then s
      else sendFrame (setLink s k { getLink s k with nak := true }) k 1 []) := by
  rw [exec_linkFrame whole open_, if_pos (by simpa using bad)]

end

/-! ### Packets of a split forme -/



theorem enterFabric_gives (s : State) (r : RouterRef) (input : Nat) (f : Flit) (queued : Bool) (goal : Option (Int × Int)) :
    enterFabric s r input f queued goal = { s with fabric := (enterFabric s r input f queued goal).fabric } ∧
      ∃ x, (enterFabric s r input f queued goal).fabric = s.fabric ++ [x] ∧ x.flit = f := ⟨rfl, _, rfl, rfl⟩

/-- A flit with another route. -/
def rerouted (f : Flit) (r : BitVec 32) : Flit := { f with route := r }

theorem rerouted_gives (f : Flit) (r : BitVec 32) :
    (rerouted f r).payload = f.payload ∧ (rerouted f r).stamp = f.stamp ∧ (rerouted f r).route = r := ⟨rfl, rfl, rfl⟩

/-- The route to the first core of the part. -/
def splitRoute (f : Flit) (c : CoreRef) : BitVec 32 :=
  BitVec.ofNat 32 (f.route.toNat / 2 ^ 21 * 2 ^ 21 + c.row.val * 2 ^ 11 + c.lcol.val)

theorem splitRoute_low (f : Flit) (c : CoreRef) : (splitRoute f c).toNat % 2 ^ 21 = c.row.val * 2 ^ 11 + c.lcol.val := by
  have row := c.row.isLt
  have col := c.lcol.isLt
  unfold splitRoute
  rw [BitVec.toNat_ofNat]
  omega

/-- The router at which a link's packets enter. -/
def splitRouter (s : State) (k : Nat) : RouterRef :=
  ⟨Fin.ofNat 1024 (secondGate s (k / 4) (4 * (k % 4) + 1)).r0.toNat,
    Fin.ofNat 1056 (secondGate s (k / 4) (4 * (k % 4) + 1)).c0.toNat⟩

theorem exec_splitPacket {k : LinkId} {s : State} {f : Flit} {c : CoreRef} (up : phase s k = Phase.up)
    (split : onF s Reg.LNK_SPLIT_CTL_SPLIT_EN k = true) (dst : splitCore s f (getF s Reg.LNK_SPLIT_CTL_SPLIT_FORME k) = some c) :
    exec (.splitPacket k f) s = .next (enterFabric s (splitRouter s k) (k.val / 4) (rerouted f (splitRoute f c)) true none) := by
  show execSplitPacket k f s = _
  unfold execSplitPacket splitRouter rerouted splitRoute
  dsimp only
  rw [if_neg (not_not.2 up), if_pos split, dst]

theorem splitPacket_gives {k : LinkId} {s : State} {f : Flit} {c : CoreRef} (up : phase s k = Phase.up)
    (split : onF s Reg.LNK_SPLIT_CTL_SPLIT_EN k = true) (dst : splitCore s f (getF s Reg.LNK_SPLIT_CTL_SPLIT_FORME k) = some c) :
    Gives (.splitPacket k f) s fun t => t = { s with fabric := t.fabric } ∧ ∃ x, t.fabric = s.fabric ++ [x] ∧
      x.flit.payload = f.payload ∧ x.flit.stamp = f.stamp ∧ x.flit.route.toNat % 2 ^ 21 = c.row.val * 2 ^ 11 + c.lcol.val := by
  obtain ⟨rest, x, last, flit⟩ := enterFabric_gives s (splitRouter s k) (k.val / 4) (rerouted f (splitRoute f c)) true none
  obtain ⟨payload, stamp, route⟩ := rerouted_gives f (splitRoute f c)
  refine ⟨_, exec_splitPacket up split dst, rest, x, last, ?_, ?_, ?_⟩
  · rw [flit, payload]
  · rw [flit, stamp]
  · rw [flit, route, splitRoute_low]

/-! ### Loss of a link and of a peer -/

theorem exec_lnkDown_early {k : LinkId} {s : State} (early : agedAt s (getLink s k).retrainAt 250000000 = false) (n : Nat) :
    exec (.lnkDown k n) s = .next s := congrArg _ (if_pos (by rw [early]; rfl))

theorem exec_peerLost_early {k : LinkId} {s : State} (early : agedAt s (getLink s k).downAt 2000000000 = false) :
    exec (.peerLost k) s = .next s := congrArg _ (if_pos (by rw [early]; rfl))

theorem exec_peerLost {k : LinkId} {s : State} (late : agedAt s (getLink s k).downAt 2000000000 = true) :
    exec (.peerLost k) s = .next (checkRecoveries 64 (modLink
      (((s.serve.streams.filter (fun e => e.2.live && e.2.forme == getF s Reg.LNK_SPLIT_CTL_SPLIT_FORME k)).map (·.1)).foldl
        (fun s e => endStream s e Sts.PEER_LOST 5 0) s) k (fun x => { x with downAt := none }))) :=
  congrArg _ (if_neg (by rw [late]; exact Bool.false_ne_true))

/-- A link that is lost. -/
def Link.lost (x : Link) (downAt : Option Nat) : Link :=
  { x with
    replay := [], txSeq := 0, rxSeq := 0, nak := false, nakRuns := 0, retrainAt := none, ann := none
    lastExchange := none, downAt := downAt }

/-- The fields, by their first instances, that the choice of a source writes. -/
def sourceKeys : List Nat :=
  [Reg.LAMP_TIME_CTL_SOURCE, Reg.LNK_STAT_TIME_PATH, Reg.LAMP_TIME_CTL_SYNCED, Reg.LNK_STAT_TIME_SYNCED].map (fun f => f.key 0 0)



theorem fieldsBut_chooseSource (s : State) : FieldsBut sourceKeys s (chooseSource s) := by
  have flagged : FieldsBut sourceKeys s (flagF s Reg.LAMP_TIME_CTL_SOURCE (bestSource s).link.isNone 0) :=
    fieldsBut_setF s _ (by decide) (by decide)
  have paths := flagged.trans (fieldsBut_flags (ks := sourceKeys) (f := Reg.LNK_STAT_TIME_PATH) (by decide)
    (fun _ k => (bestSource s).link == some k) (flagF s Reg.LAMP_TIME_CTL_SOURCE (bestSource s).link.isNone 0))

  unfold chooseSource
  dsimp only
  split_ifs
  · exact flagged
  · have sub : syncKeys ⊆ sourceKeys := by decide
    refine ⟨fun f i l small apart => ?_⟩
    rw [(fieldsBut_setSynced _ false).same f i l small fun mem => apart (sub mem)]
    exact paths.same f i l small apart

theorem loads_of_offLog {s t : State} (same : offLog t = offLog s) : t.loads = s.loads := by
  have loads : (offLog t).loads = (offLog s).loads := by rw [same]
  exact loads

theorem rest_of_offPage {s t : State} (same : offPage t = offPage s) : t.loads = s.loads ∧ t.serve = s.serve := by
  have loads : (offPage t).loads = (offPage s).loads := by rw [same]
  have serve : (offPage t).serve = (offPage s).serve := by rw [same]
  exact ⟨loads, serve⟩

/-- A link that went down, reported with the frames lost. -/
def linkLost (s : State) (k n : Nat) : State :=
  linkFault (setPhase (setLink s k ((getLink s k).lost none)) k Phase.down) k Err.LNK_DOWN [fabricFrames (getLink s k) + n]

theorem linkLost_keeps (s : State) (k n : Nat) : (linkLost s k n).loads = s.loads ∧ (linkLost s k n).serve = s.serve ∧
    getLink (linkLost s k n) k = (getLink s k).lost none := by
  have kept : getLink (setLink s k ((getLink s k).lost none)) k = (getLink s k).lost none := kgetD_kset_same ..
  have set : (setLink s k ((getLink s k).lost none)).loads = s.loads ∧ (setLink s k ((getLink s k).lost none)).serve = s.serve :=
    ⟨rfl, rfl⟩
  unfold linkLost
  generalize setLink s k ((getLink s k).lost none) = u at kept set ⊢
  obtain ⟨loads, serve⟩ := rest_of_offPage (offPage_setPhase u k Phase.down)
  have faulted := offLog_logFault (setPhase u k Phase.down) (blockItem Err.LNK_DOWN (identOf 0x22 k) [fabricFrames (getLink s k) + n])
  refine ⟨(loads_of_offLog faulted).trans (loads.trans set.1), (serve_of_offLog faulted).trans (serve.trans set.2), ?_⟩
  rw [getLink_linkFault, getLink_setPhase, kept]

theorem phase_linkLost (s : State) {k : Nat} (index : k < 16) (n : Nat) : phase (linkLost s k n) k = Phase.down :=
  (fieldsBut_phase (fieldsBut_linkFault _ index ..) index (by decide +kernel)).trans (phase_setPhase _ index (by decide))

theorem lnkDown_whole {k : LinkId} {s : State} (late : agedAt s (getLink s k).retrainAt 250000000 = true) (loads : s.loads = [])
    (whole : onF s Reg.LNK_SPLIT_CTL_SPLIT_EN k = false) (n : Nat) :
    Gives (.lnkDown k n) s fun t => phase t k = Phase.down ∧ (getLink t k).replay = [] ∧ (getLink t k).retrainAt = none ∧
      (getLink t k).ann = none ∧ (getLink t k).good = (getLink s k).good ∧ t.serve = s.serve := by
  obtain ⟨noLoads, serve, kept⟩ := linkLost_keeps s k n
  have run : exec (.lnkDown k n) s = .next (chooseSource (linkLost s k n)) := by
    have lost : linkFault (setPhase (setLink s k { getLink s k with
        replay := [], txSeq := 0, rxSeq := 0, nak := false, nakRuns := 0, retrainAt := none, ann := none
        lastExchange := none, downAt := none }) k Phase.down) k Err.LNK_DOWN [fabricFrames (getLink s k) + n] = linkLost s k n := rfl
    show execLnkDown k n s = _
    unfold execLnkDown
    rw [late, if_neg (by decide)]
    dsimp only
    rw [whole, if_neg Bool.false_ne_true, if_neg Bool.false_ne_true, lost, noLoads, loads, List.filter_nil, List.foldl_nil]
  obtain ⟨links, -, -, same⟩ := chooseSource_keeps (linkLost s k n)
  refine ⟨_, run, ?_, ?_⟩
  · rw [fieldsBut_phase (fieldsBut_chooseSource _) k.isLt (by decide), phase_linkLost s k.isLt]
  · rw [getLink_congr links, kept, same, serve]
    exact ⟨rfl, rfl, rfl, rfl, rfl⟩

/-! ### What the partner hands over -/

/-- A message of the partner kept as it came. -/
def partnerGot (s : State) (n : Nat) (data : List Byte) : State :=
  { s with partner := { s.partner with received := s.partner.received ++ [(n, data)] } }

section
variable {k : LinkId} {s : State}

theorem exec_mirror_shut (shut : phase s k ≠ Phase.up) (data : List Byte) : exec (.mirror k data) s = .next s :=
  congrArg _ (if_neg shut)

theorem exec_handover_shut (shut : phase s k ≠ Phase.up) (h : Handed) : exec (.handover k h) s = .next s := congrArg _ (if_neg shut)

variable (up : phase s k = Phase.up)
include up

theorem exec_mirror (data : List Byte) : exec (.mirror k data) s = .next (partnerGot s 0x20 data) := congrArg _ (if_pos up)

theorem exec_handover_stream (h : HandedStream) :
    exec (.handover k (.stream h)) s = .next (adoptStream (partnerGot s 0x21 h.record) h) := congrArg _ (if_pos up)

theorem exec_handover_conv (h : HandedConv) : exec (.handover k (.conv h)) s = .next (adoptConv s h) := congrArg _ (if_pos up)

omit up in
theorem getQ_adoptQueue (s : State) (h : HandedQueue) (q : Nat) : getQ (adoptQueue s h) q =
    if q = h.queue then { getQ s q with
      sqHead := h.sqHead, sqTail := h.sqTail, rqHead := h.rqHead, rqTail := h.rqTail
      used := (h.rqTail + 2 ^ h.rqLog2 - h.rqHead) % 2 ^ h.rqLog2, phase := h.phase } else getQ s q := by
  have regs : ∀ (s : State) (f : Fld) (v i q : Nat), getQ (setF s f v i) q = getQ s q := fun _ _ _ _ _ => rfl
  unfold adoptQueue
  dsimp only
  unfold modQ
  split_ifs with here
  · subst here
    rw [getQ_setQ, regs, regs, regs, regs, regs, regs]
  · rw [getQ_setQ_ne _ _ here, regs, regs, regs, regs, regs, regs]

omit up in
theorem adoptQueue_keeps (s : State) (h : HandedQueue) :
    (adoptQueue s h).mem = s.mem ∧ (adoptQueue s h).serve.streams = s.serve.streams := by
  have modded : ∀ (s : State) (g : Queue → Queue), (modQ s h.queue g).mem = s.mem ∧
      (modQ s h.queue g).serve.streams = s.serve.streams := fun _ _ => ⟨rfl, rfl⟩
  have noted : ∀ (s : State) (f : Fld) (v i : Nat), (setF s f v i).mem = s.mem ∧
      (setF s f v i).serve.streams = s.serve.streams := fun _ _ _ _ => ⟨rfl, rfl⟩
  unfold adoptQueue
  dsimp only
  rw [(modded ..).1, (modded ..).2]
  simp only [noted, and_self]

theorem handover_queue (h : HandedQueue) : Gives (.handover k (.queue h)) s fun t =>
    t.mem = s.mem ∧ t.serve.streams = s.serve.streams ∧
    (getQ t h.queue).sqHead = h.sqHead ∧ (getQ t h.queue).sqTail = h.sqTail ∧ (getQ t h.queue).rqHead = h.rqHead ∧
    (getQ t h.queue).rqTail = h.rqTail ∧ (getQ t h.queue).phase = h.phase ∧ ∀ q, q ≠ h.queue → getQ t q = getQ s q := by
  have run : exec (.handover k (.queue h)) s = .next (adoptQueue s h) := congrArg _ (if_pos up)
  obtain ⟨mem, streams⟩ := adoptQueue_keeps s h
  refine ⟨_, run, mem, streams, ?_⟩
  rw [getQ_adoptQueue, if_pos rfl]
  refine ⟨rfl, rfl, rfl, rfl, rfl, fun q other => ?_⟩
  rw [getQ_adoptQueue, if_neg other]

end

/-- Settles O50. Lamp time follows the exchanges on the path to its source; a frame is taken by its number and check. -/
theorem linkTimeAndTraffic : Obligations.LinkTimeAndTraffic := by
  refine ⟨⟨fun k offset delay s synced => exec_pdelay offset delay synced, fun k offset s _ => ?_,
    fun k p n hops s synced near => announce_gives p n synced near,
    fun s => ⟨onF_chooseSource s, foldl_best (heardSources s) (ownSource s)⟩,
    fun s => ⟨exec_timeSourceLoss_own, fun k path => exec_timeSourceLoss_link path⟩, fun k s synced => exec_pdelayTimer synced⟩,
    fun k s => ⟨fun fr bad short => exec_linkFrame_short k bad s short,
      fun fr whole open_ sound next_ => exec_linkFrame_good whole open_ sound next_,
      fun fr whole open_ bad => exec_linkFrame_bad whole open_ bad, fun f c up split dst => splitPacket_gives up split dst,
      fun n early => exec_lnkDown_early early n, exec_peerLost_early,
      fun late loads whole n => lnkDown_whole late loads whole n, fun _ _ n => ⟨_, rfl⟩, exec_peerLost,
      fun shut => ⟨exec_mirror_shut shut, exec_handover_shut shut⟩,
      fun up => ⟨exec_mirror up, exec_handover_stream up, exec_handover_conv up, handover_queue up⟩⟩⟩
  obtain ⟨⟨ahead, behind, near⟩, synced⟩ := followTime_gives (k := k) offset s
  exact ⟨ahead, behind, near, synced⟩

end Sys2Proof.Machine

end

section
/-! The mailbox (R541, R554; O51). -/

namespace Sys2Proof.Machine

/-! ### The words of a reply -/

theorem getF_kmbData_first (s : State) (g : Nat) {bs : List Byte} (long : 4 ≤ bs.length) :
    getF (kmbData s g bs) Reg.KMB_OUT_DATA g 0 = leAt bs 0 4 % 2 ^ 32 := by
  have member : 0 ∈ List.range ((bs.length + 3) / 4) := List.mem_range.2 (by omega)
  unfold kmbData
  generalize List.range ((bs.length + 3) / 4) = words at member ⊢
  exact foldl_read_of_mem (fun t a => kgetD t.regs a 0) (f := fun s k => setF s Reg.KMB_OUT_DATA (leAt bs (4 * k) 4) g k)
    (addr := fun k => Reg.KMB_OUT_DATA.key g k) (x := 0) (fun t _ apart => getF_setF_ne t _ apart) member
    (fun j _ same => by
      have same : Reg.KMB_OUT_DATA.key g j = Reg.KMB_OUT_DATA.key g 0 := same
      rw [Fld.key_word _ _ j] at same
      omega) (fun t => getF_setF_same t Reg.KMB_OUT_DATA (leAt bs 0 4) g 0) s

theorem offRegs_kmbData (s : State) (g : Nat) (bs : List Byte) : offRegs (kmbData s g bs) = offRegs s := by
  unfold kmbData
  generalize List.range ((bs.length + 3) / 4) = words
  induction words generalizing s with
  | nil => rfl
  | cons k l ih => exact (ih _).trans (offRegs_setF ..)

/-- The first word of a reply. -/
theorem leAt_reply {kind status : Nat} (small : kind < 256) (half : status < 65536) (tail : List Byte) :
    leAt (leBytes 1 kind ++ [0] ++ leBytes 2 status ++ tail) 0 4 = kind + 65536 * status := by
  have start : slice (leBytes 1 kind ++ [0] ++ leBytes 2 status ++ tail) 0 4 = leBytes 1 kind ++ [0] ++ leBytes 2 status := rfl
  unfold leAt
  rw [start]
  have zero : BitVec.toNat (0 : Byte) = 0 := rfl
  simp only [leNat, leBytes, List.cons_append, List.nil_append, List.foldr_cons, List.foldr_nil, BitVec.toNat_ofNat, zero]
  omega

/-- The reply stands in the mailbox, which is free again. -/
theorem kmbPut_gives (s : State) (g : Nat) {kind status : Nat} (asked : kmbKind s g = kind) (half : status < 65536) (tail : List Byte) :
    getF (kmbPut s g status tail) Reg.KMB_OUT_DATA g 0 = kind + 65536 * status ∧
      onF (kmbPut s g status tail) Reg.KMB_OUT_STAT_VALID g = true ∧ onF (kmbPut s g status tail) Reg.KMB_IN_CTL_BUSY g = false ∧
      (kmbPut s g status tail).serve = s.serve ∧ (kmbPut s g status tail).mem = s.mem := by
  have small : kind < 256 := asked ▸ Nat.mod_lt _ (by decide)
  have long : 4 ≤ (leBytes 1 kind ++ [0] ++ leBytes 2 status ++ tail).length := by
    simp only [List.length_append, leBytes_length, List.length_singleton]
    omega
  have word := getF_kmbData_first s g long
  rw [leAt_reply small half, Nat.mod_eq_of_lt (by omega)] at word
  have rest := offRegs_kmbData s g (leBytes 1 kind ++ [0] ++ leBytes 2 status ++ tail)
  have marked : ∀ (u : State) (n : Nat), (setF (setF (setF u Reg.KMB_OUT_STAT_OUT_LEN n g) Reg.KMB_OUT_STAT_VALID 1 g)
      Reg.KMB_IN_CTL_BUSY 0 g).serve = u.serve ∧ (setF (setF (setF u Reg.KMB_OUT_STAT_OUT_LEN n g) Reg.KMB_OUT_STAT_VALID 1 g)
      Reg.KMB_IN_CTL_BUSY 0 g).mem = u.mem := fun _ _ => ⟨rfl, rfl⟩
  obtain ⟨-, -, mem, serve⟩ := same_of_offRegs rest
  unfold kmbPut
  rw [asked]
  dsimp only
  rw [(marked ..).1, (marked ..).2, serve, mem]
  refine ⟨?_, ?_, ?_, rfl, rfl⟩
  · rw [getF_setF_other _ _ _ (by decide), getF_setF_other _ _ _ (by decide), getF_setF_other _ _ _ (by decide), word]
  · rw [onF, getF_setF_other _ _ _ (by decide), getF_setF_same]
    rfl
  · rw [onF, getF_setF_same]
    rfl

theorem kmbFree_gives (s : State) (g : Nat) {kind status : Nat} (asked : kmbKind s g = kind) (half : status < 65536) :
    getF (kmbFree s g status) Reg.KMB_OUT_DATA g 0 = kind + 65536 * status ∧
      onF (kmbFree s g status) Reg.KMB_OUT_STAT_VALID g = true ∧ onF (kmbFree s g status) Reg.KMB_IN_CTL_BUSY g = false ∧
      (kmbFree s g status).serve = s.serve ∧ (kmbFree s g status).mem = s.mem :=
  kmbPut_gives (nextFree (nextFree s).2).2 g asked half _

/-! ### Messages -/

/-- The state with a message's kind in the mailbox, which is busy. -/
def messageSent (s : State) (g kind : Nat) : State :=
  setF (setF s Reg.KMB_IN_DATA (getF s Reg.KMB_IN_DATA g 0 / 256 * 256 + kind) g 0) Reg.KMB_IN_CTL_BUSY 1 g

theorem getF_messageSent (s : State) (g kind : Nat) {f : Fld} {k : Nat} (data : f.key 0 k ≠ Reg.KMB_IN_DATA.key 0 0)
    (busy : f.key 0 k ≠ Reg.KMB_IN_CTL_BUSY.key 0 0) : getF (messageSent s g kind) f g k = getF s f g k :=
  (getF_setF_other _ _ _ busy).trans (getF_setF_other _ _ _ data)

theorem messageSent_gives (s : State) (g : Nat) {kind : Nat} (small : kind < 256) :
    kmbKind (messageSent s g kind) g = kind ∧ kmbMajor (messageSent s g kind) g = getF s Reg.KMB_IN_DATA g 0 / 256 % 256 ∧
      onF (messageSent s g kind) Reg.KMB_IN_CTL_BUSY g = true := by
  have word : getF (messageSent s g kind) Reg.KMB_IN_DATA g 0 = (getF s Reg.KMB_IN_DATA g 0 / 256 * 256 + kind) % 2 ^ 32 :=
    (getF_setF_other _ _ _ (by decide)).trans (getF_setF_same ..)
  unfold kmbKind kmbMajor
  rw [word]
  refine ⟨by omega, by omega, ?_⟩
  unfold messageSent
  rw [onF_setF_same]
  rfl

section
variable {s : State} {g : GroupId} (up : answers s (2048 + g.val) = true)
include up

theorem kmbSend_free (free : onF s Reg.KMB_IN_CTL_BUSY g = false) (kind : Nat) :
    kmbSend s g kind = kmbServe (messageSent s g kind) g := by
  have still : ¬ onF (setF s Reg.KMB_IN_DATA (getF s Reg.KMB_IN_DATA g 0 / 256 * 256 + kind) g 0) Reg.KMB_IN_CTL_BUSY g = true := by
    rw [onF, getF_setF_other _ _ _ (by decide)]
    exact Bool.eq_false_iff.1 free
  unfold kmbSend
  rw [regWrite_answers (p := kmbPage g) up, if_neg (Bool.eq_false_iff.1 free)]
  unfold kmbGo
  rw [if_neg still]
  rfl

theorem kmbSend_busy (busy : onF s Reg.KMB_IN_CTL_BUSY g = true) (kind : Nat) : kmbSend s g kind = s := by
  unfold kmbSend
  rw [regWrite_answers (p := kmbPage g) up, if_pos busy]

end

theorem groupUp_congr {s t : State} {g : Nat} (same : getF t Reg.KPR_STATE 0 g = getF s Reg.KPR_STATE 0 g) :
    groupUp t g = groupUp s g := by
  unfold groupUp
  rw [same]

/-- The group's state lies apart from the mailbox. -/
theorem groupUp_setF_kmb (s : State) {f : Fld} (v : Nat) {g : Nat} (low : g < 4)
    (apart : ∀ k < 4, Reg.KPR_STATE.key 0 k ≠ f.key 0 0) : groupUp (setF s f v g) g = groupUp s g :=
  groupUp_congr (getF_setF_apart _ _ (apart g low) (by omega) (by omega))

theorem groupUp_messageSent (s : State) {g : Nat} (kind : Nat) (low : g < 4) : groupUp (messageSent s g kind) g = groupUp s g :=
  (groupUp_setF_kmb _ _ low (by decide)).trans (groupUp_setF_kmb _ _ low (by decide))

/-- The status with which the group answers a message of a kind. -/
def kmbStatus (s : State) (g kind : Nat) : Nat :=
  if kind = 3 ∧ (s.serve.streams.find? (fun e => e.2.req == some (getF s Reg.KMB_IN_DATA g 1))) = none then Sts.NOT_FOUND
  else if kind = 1 ∧ 2 ≤ getF s Reg.KMB_IN_CTL_LEN g ∧ getF s Reg.KMB_IN_DATA g 0 / 256 % 256 ≠ 1 then Sts.VERSION_UNSUPPORTED
  else Sts.OK

/-- What the mailbox holds once a message is answered with a status. -/
structure Answered (s t : State) (g kind status : Nat) : Prop where
  word : getF t Reg.KMB_OUT_DATA g 0 = kind + 65536 * status
  valid : onF t Reg.KMB_OUT_STAT_VALID g = true
  free : onF t Reg.KMB_IN_CTL_BUSY g = false
  serve : t.serve = s.serve
  mem : t.mem = s.mem

section
variable (s : State) (g : Nat) (long : getF s Reg.KMB_IN_CTL_LEN g ≠ 0)
include long

theorem kmbAnswer_version : Answered s (kmbAnswer (messageSent s g 1) g) g 1 (kmbStatus s g 1) := by
  obtain ⟨kind, major, -⟩ := messageSent_gives s g (kind := 1) (by decide)
  have len : getF (messageSent s g 1) Reg.KMB_IN_CTL_LEN g = getF s Reg.KMB_IN_CTL_LEN g := getF_messageSent s g 1 (by decide) (by decide)
  have status : (if getF s Reg.KMB_IN_CTL_LEN g < 2 ∨ getF s Reg.KMB_IN_DATA g 0 / 256 % 256 = kapiMajor then Sts.OK
      else Sts.VERSION_UNSUPPORTED) = kmbStatus s g 1 := by
    unfold kmbStatus kapiMajor
    by_cases fits : getF s Reg.KMB_IN_CTL_LEN g < 2 ∨ getF s Reg.KMB_IN_DATA g 0 / 256 % 256 = 1
    · rw [if_pos fits, if_neg (fun h => absurd h.1 (by decide)), if_neg (by omega)]
    · rw [if_neg fits, if_neg (fun h => absurd h.1 (by decide)), if_pos (by omega)]
  have small : kmbStatus s g 1 < 65536 := by
    unfold kmbStatus
    split_ifs <;> decide
  unfold kmbAnswer
  rw [len, if_neg long, kind, major, status]
  obtain ⟨word, valid, free, serve, mem⟩ := kmbFree_gives (messageSent s g 1) g kind small
  exact ⟨word, valid, free, serve, mem⟩

theorem kmbAnswer_state : Answered s (kmbAnswer (messageSent s g 2) g) g 2 (kmbStatus s g 2) := by
  obtain ⟨kind, -, -⟩ := messageSent_gives s g (kind := 2) (by decide)
  have len : getF (messageSent s g 2) Reg.KMB_IN_CTL_LEN g = getF s Reg.KMB_IN_CTL_LEN g := getF_messageSent s g 2 (by decide) (by decide)
  have status : kmbStatus s g 2 = Sts.OK := by
    unfold kmbStatus
    rw [if_neg (fun h => absurd h.1 (by decide)), if_neg (fun h => absurd h.1 (by decide))]
  unfold kmbAnswer
  rw [len, if_neg long, kind]
  obtain ⟨word, valid, free, serve, mem⟩ := kmbFree_gives (messageSent s g 2) g kind (status := Sts.OK) (by decide)
  rw [status]
  exact ⟨word, valid, free, serve, mem⟩

theorem kmbAnswer_query : Answered s (kmbAnswer (messageSent s g 3) g) g 3 (kmbStatus s g 3) := by
  obtain ⟨kind, -, -⟩ := messageSent_gives s g (kind := 3) (by decide)
  have len : getF (messageSent s g 3) Reg.KMB_IN_CTL_LEN g = getF s Reg.KMB_IN_CTL_LEN g := getF_messageSent s g 3 (by decide) (by decide)
  have asked : getF (messageSent s g 3) Reg.KMB_IN_DATA g 1 = getF s Reg.KMB_IN_DATA g 1 := getF_messageSent s g 3 (by decide) (by decide)
  have streams : (messageSent s g 3).serve = s.serve := rfl
  have answer : kmbAnswer (messageSent s g 3) g = (s.serve.streams.find? (fun e => e.2.req == some (getF s Reg.KMB_IN_DATA g 1))).elim
      (kmbFree (messageSent s g 3) g Sts.NOT_FOUND) (fun e => kmbPut (messageSent s g 3) g Sts.OK
        (List.replicate 12 0 ++ replayRecord (messageSent s g 3) e.1 e.2)) := by
    unfold kmbAnswer
    rw [len, if_neg long, kind, asked, streams]
    cases s.serve.streams.find? (fun e => e.2.req == some (getF s Reg.KMB_IN_DATA g 1)) <;> rfl
  rw [answer]
  unfold kmbStatus
  cases found : s.serve.streams.find? (fun e => e.2.req == some (getF s Reg.KMB_IN_DATA g 1)) with
  | none =>
    rw [if_pos ⟨rfl, rfl⟩]
    obtain ⟨word, valid, free, serve, mem⟩ := kmbFree_gives (messageSent s g 3) g kind (status := Sts.NOT_FOUND) (by decide)
    exact ⟨word, valid, free, serve, mem⟩
  | some e =>
    rw [if_neg (fun h => Option.some_ne_none _ h.2), if_neg (fun h => absurd h.1 (by decide))]
    obtain ⟨word, valid, free, serve, mem⟩ := kmbPut_gives (messageSent s g 3) g kind (status := Sts.OK) (by decide)
      (List.replicate 12 0 ++ replayRecord (messageSent s g 3) e.1 e.2)
    exact ⟨word, valid, free, serve, mem⟩

end

section
variable {s : State} {g : GroupId} {c : Instr} {kind : Nat} (up : answers s (2048 + g.val) = true)
  (free : onF s Reg.KMB_IN_CTL_BUSY g = false) (small : kind < 256) (run : exec c s = .next (kmbSend s g kind))
include up free small run

theorem message_answered (serves : groupUp s g = true) (empty : onF s Reg.KMB_OUT_STAT_VALID g = false)
    (answer : Answered s (kmbAnswer (messageSent s g kind) g) g kind (kmbStatus s g kind)) : Gives c s fun t =>
      getF t Reg.KMB_OUT_DATA g 0 = kind + 65536 * kmbStatus s g kind ∧
      onF t Reg.KMB_OUT_STAT_VALID g = true ∧ onF t Reg.KMB_IN_CTL_BUSY g = false ∧ t.serve = s.serve ∧ t.mem = s.mem := by
  obtain ⟨-, -, busy⟩ := messageSent_gives s g small
  have unread : onF (messageSent s g kind) Reg.KMB_OUT_STAT_VALID g = false :=
    (onF_congr (getF_messageSent s g kind (by decide) (by decide))).trans empty
  have serve : kmbServe (messageSent s g kind) g = kmbAnswer (messageSent s g kind) g := by
    unfold kmbServe
    rw [busy, groupUp_messageSent s kind g.isLt, serves, unread]
    exact if_pos rfl
  rw [kmbSend_free up free, serve] at run
  exact ⟨_, run, answer.word, answer.valid, answer.free, answer.serve, answer.mem⟩

theorem message_waits (shut : groupUp s g = false ∨ onF s Reg.KMB_OUT_STAT_VALID g = true) : Gives c s fun t =>
    onF t Reg.KMB_IN_CTL_BUSY g = true ∧ RegsOnly s t [Reg.KMB_IN_CTL_BUSY.key g 0, Reg.KMB_IN_DATA.key g 0] := by
  obtain ⟨-, -, busy⟩ := messageSent_gives s g small
  have valid : onF (messageSent s g kind) Reg.KMB_OUT_STAT_VALID g = onF s Reg.KMB_OUT_STAT_VALID g :=
    onF_congr (getF_messageSent s g kind (by decide) (by decide))
  have serve : kmbServe (messageSent s g kind) g = messageSent s g kind := by
    unfold kmbServe
    rw [busy, groupUp_messageSent s kind g.isLt, valid]
    exact if_neg (by rcases shut with h | h <;> simp [h])
  rw [kmbSend_free up free, serve] at run
  exact ⟨_, run, busy, setF_regsOnly (setF_regsOnly (regsOnly_refl _ _) _ _ _ _ (List.mem_cons_of_mem _ List.mem_cons_self)) _ _ _ _
    List.mem_cons_self⟩

end

section
variable {s : State} {g : GroupId} (up : answers s (2048 + g.val) = true)
include up

theorem exec_ack : exec (.ack g) s = .next (kmbServe (setF s Reg.KMB_OUT_STAT_VALID 0 g) g) := congrArg _ (regWrite_answers up _)

theorem ack_free (free : onF s Reg.KMB_IN_CTL_BUSY g = false) : Gives (.ack g) s fun t =>
    onF t Reg.KMB_OUT_STAT_VALID g = false ∧ RegsOnly s t [Reg.KMB_OUT_STAT_VALID.key g 0] := by
  have still : onF (setF s Reg.KMB_OUT_STAT_VALID 0 g) Reg.KMB_IN_CTL_BUSY g = false :=
    (onF_congr (getF_setF_other _ _ _ (by decide))).trans free
  have serve : kmbServe (setF s Reg.KMB_OUT_STAT_VALID 0 g) g = setF s Reg.KMB_OUT_STAT_VALID 0 g := by
    unfold kmbServe
    rw [still, Bool.false_and, Bool.false_and]
    exact if_neg Bool.false_ne_true
  refine ⟨_, exec_ack up, ?_⟩
  rw [serve]
  refine ⟨?_, setF_regsOnly (regsOnly_refl _ _) _ _ _ _ List.mem_cons_self⟩
  rw [onF_setF_same]
  rfl

end

end Sys2Proof.Machine

end

section
/-! Votes, splits, boots and rebuilds of the keeper groups (R400 to R404, R468, R469, R482, R553; O51). -/

namespace Sys2Proof.Machine

theorem kprItem_page (code : Nat) {g : Nat} (low : g < 4) (xs : List Nat) :
    ∀ b, (blockItem code (kprIdent g) xs).block = some b → pageOfIdent b < 4096 := by
  rintro b hb
  obtain rfl : kprIdent g = b := Option.some.inj hb
  have ty : (0x0A * 65536 + g) / 65536 = 0x0A := by omega
  unfold pageOfIdent kprIdent identOf
  rw [ty]
  show 9 < 4096
  decide

theorem kprState_congr {ks : List Nat} {s t : State} (same : FieldsBut ks s t) {g : Nat}
    (apart : Reg.KPR_STATE.key 0 g ∉ ks) : kprState t g = kprState s g := same.same _ 0 g (by decide) apart

theorem keepers_of_offLog {s t : State} (same : offLog t = offLog s) : t.keepers = s.keepers := by
  have keepers : (offLog t).keepers = (offLog s).keepers := by rw [same]
  exact keepers

theorem kprState_faultKeys {g : Nat} (low : g < 4) : Reg.KPR_STATE.key 0 g ∉ faultKeys := by
  have all : ∀ k < 4, Reg.KPR_STATE.key 0 k ∉ faultKeys := by decide +kernel
  exact all g low

theorem kprFenced_faultKeys {g : Nat} (low : g < 4) : Reg.KPR_FENCED.key 0 g ∉ faultKeys := by
  have all : ∀ k < 4, Reg.KPR_FENCED.key 0 k ∉ faultKeys := by decide +kernel
  exact all g low

/-! ### Votes -/

/-- The votes lost within a day, with the one lost now. -/
def votesLost (s : State) (g core : Nat) : List (Nat × Nat × Nat) :=
  s.keepers.minor.filter (fun x => decide (s.lampTime < x.2.2 + 86400000000000)) ++ [(g, core, s.lampTime)]

/-- A lost vote counted and recorded. -/
def voteCounted (s : State) (g core : Nat) : State :=
  logFault (addF s Reg.ERR_KPR_MINORITY 1 0) (blockItem Err.KPR_VOTE_MINORITY (kprIdent g) [g, core])

/-- The votes lost, noted. -/
def votesNoted (s : State) (l : List (Nat × Nat × Nat)) : State := { s with keepers := { s.keepers with minor := l } }

theorem votesNoted_keeps (s : State) (l : List (Nat × Nat × Nat)) :
    (votesNoted s l).keepers.minor = l ∧ (votesNoted s l).regs = s.regs := ⟨rfl, rfl⟩

/-- A core fenced, which leaves a pair. -/
def coreFenced (s : State) (g core : Nat) : State :=
  logFault (setKpr (setF s Reg.KPR_FENCED (getF s Reg.KPR_FENCED 0 g ||| 2 ^ core) 0 g) g 3)
    (blockItem Err.KPR_CORE_FENCED (kprIdent g) [g, core])

section
variable (s : State) {g : Nat} (low : g < 4) (core : Nat)
include low

theorem fieldsBut_voteCounted : FieldsBut (Reg.ERR_KPR_MINORITY.key 0 0 :: faultKeys) s (voteCounted s g core) :=
  (fieldsBut_setF s _ (by decide) List.mem_cons_self).trans
    ((fieldsBut_logFault _ (kprItem_page _ low _)).mono (List.subset_cons_self ..))

theorem minority_voteCounted :
    getF (voteCounted s g core) Reg.ERR_KPR_MINORITY 0 = min (getF s Reg.ERR_KPR_MINORITY 0 + 1) (2 ^ 32 - 1) := by
  unfold voteCounted
  rw [(fieldsBut_logFault _ (kprItem_page _ low _)).same _ 0 0 (by decide) (by decide +kernel)]
  exact getF_addF_same ..

theorem kprState_voteCounted : kprState (voteCounted s g core) g = kprState s g := by
  refine kprState_congr (fieldsBut_voteCounted s low core) ?_
  rw [List.mem_cons, not_or]
  have all : ∀ k < 4, Reg.KPR_STATE.key 0 k ≠ Reg.ERR_KPR_MINORITY.key 0 0 := by decide
  exact ⟨all g low, kprState_faultKeys low⟩

theorem fenced_voteCounted : getF (voteCounted s g core) Reg.KPR_FENCED 0 g = getF s Reg.KPR_FENCED 0 g := by
  refine (fieldsBut_voteCounted s low core).same _ 0 g (by decide) ?_
  rw [List.mem_cons, not_or]
  have all : ∀ k < 4, Reg.KPR_FENCED.key 0 k ≠ Reg.ERR_KPR_MINORITY.key 0 0 := by decide
  exact ⟨all g low, kprFenced_faultKeys low⟩

theorem coreFenced_gives : kprState (coreFenced s g core) g = 3 ∧
    getF (coreFenced s g core) Reg.KPR_FENCED 0 g = (getF s Reg.KPR_FENCED 0 g ||| 2 ^ core) % 8 ∧
    (coreFenced s g core).keepers.minor = s.keepers.minor ∧
    getF (coreFenced s g core) Reg.ERR_KPR_MINORITY 0 = getF s Reg.ERR_KPR_MINORITY 0 := by
  have kept := fieldsBut_logFault (setKpr (setF s Reg.KPR_FENCED (getF s Reg.KPR_FENCED 0 g ||| 2 ^ core) 0 g) g 3)
    (kprItem_page Err.KPR_CORE_FENCED low [g, core])
  have keepers : (coreFenced s g core).keepers = s.keepers := keepers_of_offLog ((offLog_logFault ..).trans rfl)
  have apart : ∀ k < 4, Reg.KPR_FENCED.key 0 k ≠ Reg.KPR_STATE.key 0 k ∧ Reg.ERR_KPR_MINORITY.key 0 0 ≠ Reg.KPR_STATE.key 0 k ∧
      Reg.ERR_KPR_MINORITY.key 0 0 ≠ Reg.KPR_FENCED.key 0 k := by decide
  obtain ⟨fenced, state, field⟩ := apart g low
  refine ⟨?_, ?_, by rw [keepers], ?_⟩
  · refine (kprState_congr kept (kprState_faultKeys low)).trans ?_
    exact getF_setF_same ..
  · refine (kept.same _ 0 g (by decide) (kprFenced_faultKeys low)).trans ?_
    exact (getF_setF_ne _ _ fenced).trans (getF_setF_same ..)
  · refine (kept.same _ 0 0 (by decide) (by decide +kernel)).trans ?_
    exact (getF_setF_ne _ _ state).trans (getF_setF_ne _ _ field)

end

section
variable {g : GroupId} {s : State} (core : Fin 3)

theorem exec_voteMinority (at_ : kprState s g = 2) : exec (.kprVoteMinority g core) s = .next (
    if 3 ≤ (votesLost s g core).countP (fun x => x.1 == g.val && x.2.1 == core.val)
    then coreFenced (votesNoted (voteCounted s g core) (votesLost s g core)) g core
    else votesNoted (voteCounted s g core) (votesLost s g core)) := by
  have same : offLog (voteCounted s g core) = offLog s := (offLog_logFault ..).trans (offLog_addF ..)
  have votes : votesLost (voteCounted s g core) g core = votesLost s g core := by
    unfold votesLost
    rw [keepers_of_offLog same, lampTime_of_offLog same]
  rw [← votes]
  show execKprVoteMinority g core s = _
  unfold execKprVoteMinority
  rw [if_neg (by rw [at_]; decide), if_neg (not_not.2 at_)]
  rfl

theorem voteMinority_gives (at_ : kprState s g = 2) : Gives (.kprVoteMinority g core) s fun t =>
    t.keepers.minor = votesLost s g core ∧
    getF t Reg.ERR_KPR_MINORITY 0 = min (getF s Reg.ERR_KPR_MINORITY 0 + 1) (2 ^ 32 - 1) ∧
    (if 3 ≤ (votesLost s g core).countP (fun x => x.1 == g.val && x.2.1 == core.val) then kprState t g = 3 ∧
      getF t Reg.KPR_FENCED 0 g = (getF s Reg.KPR_FENCED 0 g ||| 2 ^ core.val) % 8 else kprState t g = 2) := by
  have counted := minority_voteCounted s g.isLt core
  have state := kprState_voteCounted s g.isLt core
  have fenced := fenced_voteCounted s g.isLt core
  obtain ⟨votes, regs⟩ := votesNoted_keeps (voteCounted s g core) (votesLost s g core)
  refine ⟨_, exec_voteMinority core at_, ?_⟩
  split_ifs with many <;> beta_reduce
  · obtain ⟨three, mask, minor, count⟩ := coreFenced_gives (votesNoted (voteCounted s g core) (votesLost s g core)) g.isLt core
    rw [minor, count, votes, getF_congr regs, counted, mask, getF_congr regs, fenced]
    exact ⟨rfl, rfl, three, rfl⟩
  · rw [votes, getF_congr regs, counted]
    exact ⟨rfl, rfl, (getF_congr regs ..).trans (state.trans at_)⟩

theorem exec_voteMinority_pair (at_ : kprState s g = 3) : exec (.kprVoteMinority g core) s =
    .next (splitGroup (logFault s (blockItem Err.KPR_VOTE_SPLIT (kprIdent g) [g.val])) g) := congrArg _ (if_pos at_)

variable (up : groupUp s g = true)
include up

theorem exec_voteSplit : exec (.kprVoteSplit g) s =
    .next (splitGroup (logFault s (blockItem Err.KPR_VOTE_SPLIT (kprIdent g) [g.val])) g) := congrArg _ (if_pos up)

theorem exec_rstWatchdog : exec (.rstWatchdog g) s = .next (resetGroup (logFault (addF s Reg.KPR_WDOG_MISSES 1 0)
    (blockItem Err.RST_WATCHDOG (identOf 0x03 0) [g.val])) g 3) := by
  show execRstWatchdog g s = _
  unfold execRstWatchdog
  rw [if_pos up]

theorem exec_rstLockup : exec (.rstLockup g) s =
    .next (resetGroup (logFault s (blockItem Err.RST_LOCKUP (identOf 0x03 0) [1, g.val])) g 7) := by
  show execRstLockup g s = _
  unfold execRstLockup
  rw [if_pos up]

end

/-! ### Splits -/

theorem settleHold_recovery (x : Stream) : (settleHold x).holdRecovery = x.holdRecovery := by
  unfold settleHold
  split_ifs <;> rfl

theorem rebuildGroup_gives (s : State) (g : Nat) : kprState (rebuildGroup s g) g = 4 ∧
    (rebuildGroup s g).keepers = s.keepers ∧ (rebuildGroup s g).faults.log = s.faults.log ∧ (rebuildGroup s g).mem = s.mem ∧
    (g < 2 → ∀ e x, (e, x) ∈ (rebuildGroup s g).serve.streams → x.live = true → x.holdRecovery = true) := by
  have state : kprState (setKpr s g 4) g = 4 := getF_setF_same ..
  unfold rebuildGroup
  dsimp only
  split_ifs with first second
  · refine ⟨state, rfl, rfl, rfl, fun _ e x mem live => ?_⟩
    obtain ⟨y, -, same⟩ := List.mem_map.1 mem
    obtain ⟨rfl, rfl⟩ := Prod.mk.inj same
    cases alive : y.2.live with
    | true => rw [if_pos rfl, settleHold_recovery]
    | false =>
      rw [alive, if_neg Bool.false_ne_true] at live
      rw [alive] at live
      exact absurd live Bool.false_ne_true
  · exact ⟨state, rfl, rfl, rfl, fun h => absurd h first⟩
  · exact ⟨state, rfl, rfl, rfl, fun h => absurd h first⟩

/-- The splits within a minute before now. -/
def recentSplits (s : State) : List (Nat × Nat) := s.keepers.splits.filter (fun x => decide (s.lampTime < x.2 + 60000000000))

/-- The state with a split noted. -/
def splitNoted (s : State) (g : Nat) : State := { s with keepers := { s.keepers with splits := recentSplits s ++ [(g, s.lampTime)] } }

theorem splitGroup_first {s : State} {g : Nat} (old : ∀ x ∈ s.keepers.splits, x.2 + 60000000000 ≤ s.lampTime) :
    recentSplits s = [] ∧ splitGroup s g = rebuildGroup (splitNoted s g) g := by
  have none_ : recentSplits s = [] := List.filter_eq_nil_iff.2 fun x mem => by
    rw [decide_eq_true_eq]
    exact Nat.not_lt.2 (old x mem)
  exact ⟨none_, if_pos none_⟩

theorem splitGroup_second {s : State} {g : Nat} {x : Nat × Nat} (mem : x ∈ s.keepers.splits) (recent : s.lampTime < x.2 + 60000000000) :
    splitGroup s g = fatalModule (rebuildGroup (splitNoted s g) g)
      (blockItem Err.KPR_DOUBLE (kprIdent g) [(((((recentSplits s).map (·.1)) ++ [g]).dedup).map (2 ^ ·)).sum]) 3 := by
  have some_ : recentSplits s ≠ [] := List.ne_nil_of_mem (List.mem_filter.2 ⟨mem, decide_eq_true recent⟩)
  exact if_neg some_

/-! ### Boots, rebuilds and minutes -/

section
variable {g : GroupId} {s : State}

theorem exec_keeperBooted (at_ : kprState s g = 1) :
    let u := setF (setKpr s g (kprServing s g)) Reg.KPR_FW_VER (Config.firmwareVersion 1 % 2 ^ 32) 0
    exec (.keeperBooted g) s =
      .next (kmbServe (retryHeld (if g.val = 0 then setF (setF u Reg.KPR_KAPI_MAJOR 1 0) Reg.KPR_KAPI_MINOR 0 0 else u)) g) :=
  congrArg _ (if_neg (not_not.2 at_))

theorem exec_keeperRebuilt (at_ : kprState s g = 4) :
    let u := setKpr s g (kprServing s g)
    exec (.keeperRebuilt g) s =
      .next (kmbServe (retryHeld (releaseAll (if g.val = 0 then flushGroupHeld (rewriteLast u) else u))) g) :=
  congrArg _ (if_neg (not_not.2 at_))

end

/-- A minute's marks taken off the streams. -/
def minuteOver (s : State) : State :=
  { s with serve := { s.serve with streams := s.serve.streams.map (fun e => (e.1, { e.2 with minuteFault := false })) } }

theorem minuteOver_keeps (s : State) : (minuteOver s).regs = s.regs ∧ (minuteOver s).mem = s.mem := ⟨rfl, rfl⟩

theorem streamMinute_gives (s : State) :
    let mine := s.serve.streams.filter (fun e => e.2.live && e.2.mooring != 0)
    Gives .streamMinute s fun t =>
      getF t Reg.ERR_STREAM_MIN 0 = min (getF s Reg.ERR_STREAM_MIN 0 + mine.length) (2 ^ Reg.ERR_STREAM_MIN.width - 1) ∧
      getF t Reg.ERR_FAULT_MIN 0 = min (getF s Reg.ERR_FAULT_MIN 0 + mine.countP (fun e => e.2.minuteFault)) (2 ^ Reg.ERR_FAULT_MIN.width - 1) ∧
      (∀ e x, getSt s e = some x → getSt t e = some { x with minuteFault := false }) ∧ t.mem = s.mem := by
  intro mine
  have run : exec .streamMinute s = .next (minuteOver (addF (addF s Reg.ERR_STREAM_MIN mine.length 0) Reg.ERR_FAULT_MIN
      (mine.countP (fun e => e.2.minuteFault)) 0)) := by
    show execStreamMinute s = _
    unfold execStreamMinute minuteOver
    rfl
  let u := addF (addF s Reg.ERR_STREAM_MIN mine.length 0) Reg.ERR_FAULT_MIN (mine.countP (fun e => e.2.minuteFault)) 0
  obtain ⟨regs, mem⟩ := minuteOver_keeps u
  refine ⟨_, run, ?_, ?_, fun e x held => ?_, mem⟩
  · refine (getF_congr regs ..).trans ?_
    exact (getF_setF_ne _ _ (by decide)).trans (getF_addF_same ..)
  · refine (getF_congr regs ..).trans ((getF_addF_same ..).trans ?_)
    rw [getF_addF_other _ _ _ (by decide)]
  · refine (kget?_mapVal s.serve.streams (fun y => { y with minuteFault := false }) e).trans ?_
    have held : kget? s.serve.streams e = some x := held
    rw [held]
    rfl

/-- Settles O51. A message is answered once its group runs and the last reply is freed; a split group rebuilds. -/
theorem keepersAndMailbox : Obligations.KeepersAndMailbox := by
  refine ⟨fun g s up => ⟨fun free => ?_, fun busy => ?_, exec_ack up, ack_free up⟩,
    fun g s => ⟨fun core at_ => voteMinority_gives core at_, fun core at_ => exec_voteMinority_pair core at_,
      fun up => ⟨exec_voteSplit up, exec_rstWatchdog up, exec_rstLockup up⟩, fun old => ?_,
      fun x mem recent => splitGroup_second mem recent, exec_keeperBooted, exec_keeperRebuilt, streamMinute_gives s⟩⟩
  · refine List.forall_mem_cons.2 ⟨?_, List.forall_mem_cons.2 ⟨?_, List.forall_mem_singleton.2 ?_⟩⟩
    · exact ⟨fun serves empty long => message_answered (kind := 1) up free (by decide) rfl serves empty (kmbAnswer_version s g long),
        fun shut => message_waits up free (kind := 1) (by decide) rfl shut⟩
    · exact ⟨fun serves empty long => message_answered (kind := 2) up free (by decide) rfl serves empty (kmbAnswer_state s g long),
        fun shut => message_waits up free (kind := 2) (by decide) rfl shut⟩
    · exact ⟨fun serves empty long => message_answered (kind := 3) up free (by decide) rfl serves empty (kmbAnswer_query s g long),
        fun shut => message_waits up free (kind := 3) (by decide) rfl shut⟩
  · simp only [List.forall_mem_cons, List.not_mem_nil, false_imp_iff, implies_true, and_true]
    exact ⟨congrArg _ (kmbSend_busy up busy 1), congrArg _ (kmbSend_busy up busy 2), congrArg _ (kmbSend_busy up busy 3)⟩
  · obtain ⟨none_, split⟩ := splitGroup_first (g := g.val) old
    obtain ⟨state, keepers, log, mem, holds⟩ := rebuildGroup_gives (splitNoted s g) g
    intro t
    have made : t = rebuildGroup (splitNoted s g) g := split
    rw [made, keepers, log, mem]
    refine ⟨state, ?_, rfl, rfl, holds⟩
    show recentSplits s ++ [(g.val, s.lampTime)] = _
    rw [none_]
    rfl

end Sys2Proof.Machine

end

section
/-! Memory stacks (R406, R511 to R516; O53). -/

namespace Sys2Proof.Machine

theorem pageOfIdent_identOf (ty : Nat) {inst : Nat} (small : inst < 65536) : pageOfIdent (identOf ty inst) = pageNo ty inst := by
  have page : (ty * 65536 + inst) / 65536 = ty := by omega
  have number : (ty * 65536 + inst) % 65536 = inst := by omega
  unfold pageOfIdent identOf
  rw [page, number]

theorem blockItem_page (code : Nat) {ty inst : Nat} (xs : List Nat) (small : inst < 65536) (page : pageNo ty inst < 4096) :
    ∀ b, (blockItem code (identOf ty inst) xs).block = some b → pageOfIdent b < 4096 := by
  rintro b hb
  obtain rfl : identOf ty inst = b := Option.some.inj hb
  rwa [pageOfIdent_identOf ty small]

/-- A stack's page number. -/
theorem stackItem_page (code : Nat) {n : Nat} (low : n < 32) (xs : List Nat) :
    ∀ b, (blockItem code (identOf 0x23 n) xs).block = some b → pageOfIdent b < 4096 :=
  blockItem_page code xs (by omega) (by show 784 + n < 4096; omega)

/-! ### The state of a stack -/

/-- The fields, by their first instances, that a stack's state writes. -/
def stateKeys : List Nat := Reg.STK_STAT_STATE.key 0 0 :: beaconKeys

theorem offPage_setStkState (s : State) (n st : Nat) : offPage (setStkState s n st) = offPage s := by
  unfold setStkState
  rw [offPage_setBeacon, offPage_setF]

theorem stks_of_offPage {s t : State} (same : offPage t = offPage s) : t.stks = s.stks := by
  have stks : (offPage t).stks = (offPage s).stks := by rw [same]
  exact stks

theorem getStk_congr {s t : State} (stks : t.stks = s.stks) (n : Nat) : getStk t n = getStk s n := by
  rw [getStk, stks, getStk]

theorem getStk_setStkState (s : State) (n st m : Nat) : getStk (setStkState s n st) m = getStk s m :=
  getStk_congr (stks_of_offPage (offPage_setStkState s n st)) m

theorem getStk_setStk (s : State) (n : Nat) (x : Stack) : getStk (setStk s n x) n = x := kgetD_kset_same ..

theorem setStk_keeps (s : State) (n : Nat) (x : Stack) :
    (setStk s n x).regs = s.regs ∧ (setStk s n x).mem = s.mem ∧ (setStk s n x).serve = s.serve := ⟨rfl, rfl, rfl⟩

section
variable (s : State) {n : Nat} (low : n < 32)
include low

theorem fieldsBut_setStkState (st : Nat) : FieldsBut stateKeys s (setStkState s n st) := by
  have beacon : beaconKeys ⊆ stateKeys := List.subset_cons_self ..
  unfold setStkState
  exact (fieldsBut_setF s _ (by omega) List.mem_cons_self).trans ((fieldsBut_setBeacon _ _ (by omega)).mono beacon)

theorem stkState_setStkState {st : Nat} (code : st < 8) : stkState (setStkState s n st) n = st := by
  unfold stkState setStkState
  rw [(fieldsBut_setBeacon _ _ (by omega)).same Reg.STK_STAT_STATE n 0 (by omega) (by decide), getF_setF_same]
  exact Nat.mod_eq_of_lt code

theorem stkState_setStkState_ne {st m : Nat} (index : m < 32) (other : m ≠ n) : stkState (setStkState s n st) m = stkState s m := by
  unfold stkState setStkState
  rw [(fieldsBut_setBeacon _ _ (by omega)).same Reg.STK_STAT_STATE m 0 (by omega) (by decide)]
  refine getF_setF_ne _ _ ?_
  rw [Fld.key_inst _ m, Fld.key_inst _ n]
  omega

end

/-! ### Failure -/

/-- A stack failed: its state, its count and its time and cause, recorded. -/
def stackFailed (s : State) (n cause : Nat) : State :=
  logFault (setStk (setStkState (addF s Reg.STK_FAILS 1 n) n 3) n { getStk s n with failedAt := s.lampTime, cause := cause })
    (blockItem Err.STK_FAILED (identOf 0x23 n) [n, cause])

theorem lampTime_setStkState (s : State) (n st : Nat) : (setStkState s n st).lampTime = s.lampTime := by
  have same := offPage_setStkState s n st
  have time : (offPage (setStkState s n st)).lampTime = (offPage s).lampTime := by rw [same]
  exact time

theorem failStack_eq (s : State) (n cause : Nat) : failStack s n cause =
    if groupDown (stackFailed s n cause) n then repairBudget (stackFailed s n cause) else stackFailed s n cause := by
  have stack : getStk (setStkState (addF s Reg.STK_FAILS 1 n) n 3) n = getStk s n := getStk_setStkState ..
  have time : (setStkState (addF s Reg.STK_FAILS 1 n) n 3).lampTime = s.lampTime := lampTime_setStkState ..
  unfold failStack
  dsimp only
  rw [stack, time]
  rfl

theorem stks_of_offLog {s t : State} (same : offLog t = offLog s) :
    t.stks = s.stks ∧ t.serve = s.serve ∧ t.mem.stack = s.mem.stack ∧ t.mem.store = s.mem.store := by
  have stks : (offLog t).stks = (offLog s).stks := by rw [same]
  have serve : (offLog t).serve = (offLog s).serve := by rw [same]
  have stack : (offLog t).mem.stack = (offLog s).mem.stack := by rw [same]
  have store : (offLog t).mem.store = (offLog s).mem.store := by rw [same]
  exact ⟨stks, serve, stack, store⟩

theorem kept_setStkState (s : State) (n st : Nat) : (setStkState s n st).mem = s.mem ∧ (setStkState s n st).serve = s.serve :=
  ⟨mem_of_offPage (offPage_setStkState ..), (rest_of_offPage (offPage_setStkState ..)).2⟩

section
variable (s : State) {n : Nat} (low : n < 32) (cause : Nat)
include low

theorem stkState_stackFailed : stkState (stackFailed s n cause) n = 3 := by
  unfold stackFailed
  refine ((fieldsBut_logFault _ (stackItem_page _ low _)).same _ n 0 (by omega) (by decide +kernel)).trans ?_
  exact stkState_setStkState _ low (by decide)

theorem stkState_stackFailed_ne {m : Nat} (index : m < 32) (other : m ≠ n) : stkState (stackFailed s n cause) m = stkState s m := by
  unfold stackFailed
  refine ((fieldsBut_logFault _ (stackItem_page _ low _)).same _ m 0 (by omega) (by decide +kernel)).trans ?_
  refine (stkState_setStkState_ne _ low index other).trans ?_
  exact getF_setF_apart _ _ (by decide) (by omega) (by omega)

theorem fails_stackFailed : getF (stackFailed s n cause) Reg.STK_FAILS n = min (getF s Reg.STK_FAILS n + 1) (2 ^ 16 - 1) := by
  unfold stackFailed
  refine ((fieldsBut_logFault _ (stackItem_page _ low _)).same _ n 0 (by omega) (by decide +kernel)).trans ?_
  refine (getF_congr (setStk_keeps ..).1 ..).trans ?_
  refine ((fieldsBut_setStkState _ low 3).same _ n 0 (by omega) (by decide +kernel)).trans ?_
  exact getF_addF_same ..

omit low in
theorem stackFailed_keeps : (stackFailed s n cause).mem.stack = s.mem.stack ∧ (stackFailed s n cause).serve = s.serve ∧
    getStk (stackFailed s n cause) n = { getStk s n with failedAt := s.lampTime, cause := cause } := by
  obtain ⟨stks, serve, stack, -⟩ := stks_of_offLog (offLog_logFault (setStk (setStkState (addF s Reg.STK_FAILS 1 n) n 3) n
    { getStk s n with failedAt := s.lampTime, cause := cause }) (blockItem Err.STK_FAILED (identOf 0x23 n) [n, cause]))
  obtain ⟨-, mem', serve'⟩ := setStk_keeps (setStkState (addF s Reg.STK_FAILS 1 n) n 3) n
    { getStk s n with failedAt := s.lampTime, cause := cause }
  obtain ⟨mem, kept⟩ := kept_setStkState (addF s Reg.STK_FAILS 1 n) n 3
  unfold stackFailed
  rw [getStk_congr stks, getStk_setStk, serve, serve', kept, stack, mem', mem]
  exact ⟨rfl, rfl, rfl⟩

theorem groupDown_stackFailed : groupDown (stackFailed s n cause) n = true ↔
    ∃ m < 32, m ≠ n ∧ m % 4 = n % 4 ∧ (stkState s m = 3 ∨ stkState s m = 4) := by
  unfold groupDown
  simp only [List.any_eq_true, List.mem_range, Bool.and_eq_true, bne_iff_ne, beq_iff_eq, Bool.or_eq_true]
  refine exists_congr fun m => and_congr_right fun index => ?_
  rw [and_assoc]
  refine and_congr_right fun other => ?_
  rw [stkState_stackFailed_ne s low cause index other]

end

/-! ### Training, failures, retraining and rebuilds -/

section
variable {n : StackId} {s : State}

theorem exec_stackTrained (training : stkState s n = 1) (minor ident : Nat) : exec (.stackTrained n 1 minor ident) s =
    .next (retryHeld (setStkState (setF (setF s Reg.STK_STAT_PROF_MAJOR 1 n) Reg.STK_STAT_PROF_MINOR minor n) n 2)) := by
  show execStackTrained n 1 minor ident s = _
  unfold execStackTrained
  rw [if_neg (not_not.2 training), if_neg (not_not.2 rfl)]

theorem exec_stackTrained_other (training : stkState s n = 1) {major : Nat} (minor ident : Nat) (other : major ≠ 1) :
    exec (.stackTrained n major minor ident) s = .next (retryHeld (failStack
      (logFault s (blockItem Err.STK_PROFILE (identOf 0x23 n) [n.val, ident % 2 ^ 32])) n 2)) := by
  show execStackTrained n major minor ident s = _
  unfold execStackTrained
  rw [if_neg (not_not.2 training), if_pos other]

theorem exec_stkFailed_few (few : stackWorn s n = false) : exec (.stkFailed n 3) s = .next s := by
  show execStkFailed n 3 s = _
  unfold execStkFailed
  rw [if_neg (fun h => absurd (h.2 rfl) (Bool.eq_false_iff.1 few))]

theorem exec_stkFailed {cause : Nat} (plain : cause ≠ 2) (worn : cause = 3 → stackWorn s n = true)
    (serving : stkState s n ∈ [1, 2, 4, 5]) : exec (.stkFailed n cause) s = .next (retryHeld (failStack s n cause)) := by
  show execStkFailed n cause s = _
  unfold execStkFailed
  rw [if_pos ⟨serving, worn⟩, if_neg plain]

theorem exec_stackRetrain_early (early : retrainDue s n = false) (ok : Bool) : exec (.stackRetrain n ok) s = .next s := by
  show execStackRetrain n ok s = _
  unfold execStackRetrain
  rw [early]
  exact congrArg _ (if_pos rfl)

theorem stackRetrain_succeeds (due : retrainDue s n = true) : Gives (.stackRetrain n true) s fun t => stkState t n = 4 ∧
    getF t Reg.STK_REBUILT n = 0 ∧ getStk t n = ⟨0, s.lampTime, (getStk s n).failedAt, (getStk s n).cause, [], 0⟩ ∧ t.mem = s.mem := by
  have run : exec (.stackRetrain n true) s = .next (setStkState (setStk (setF s Reg.STK_REBUILT 0 n) n
      ⟨0, s.lampTime, (getStk s n).failedAt, (getStk s n).cause, [], 0⟩) n 4) := by
    show execStackRetrain n true s = _
    unfold execStackRetrain
    rw [due, if_neg (by decide), if_pos rfl]
  obtain ⟨regs, mem, -⟩ := setStk_keeps (setF s Reg.STK_REBUILT 0 n) n
    ⟨0, s.lampTime, (getStk s n).failedAt, (getStk s n).cause, [], 0⟩
  refine ⟨_, run, stkState_setStkState _ n.isLt (by decide), ?_, ?_, ?_⟩
  · rw [(fieldsBut_setStkState _ n.isLt 4).same _ n 0 (by omega) (by decide +kernel), getF_congr regs, getF_setF_same]
    rfl
  · rw [getStk_setStkState, getStk_setStk]
  · rw [(kept_setStkState ..).1, mem]
    rfl

/-- A retraining that failed, for good where it is the third. -/
def retrainFailed (s : State) (n : Nat) : State :=
  if 3 ≤ (getStk s n).retrains + 1
  then setF (setStk s n { getStk s n with retrains := (getStk s n).retrains + 1, failedAt := s.lampTime }) Reg.STK_STAT_FAILED_PERM 1 n
  else setStk s n { getStk s n with retrains := (getStk s n).retrains + 1, failedAt := s.lampTime }

theorem stackRetrain_fails (due : retrainDue s n = true) : Gives (.stackRetrain n false) s fun t =>
    getStk t n = { getStk s n with retrains := (getStk s n).retrains + 1, failedAt := s.lampTime } ∧ stkState t n = 3 ∧
      t.mem = s.mem ∧ (onF t Reg.STK_STAT_FAILED_PERM n = true ↔ 3 ≤ (getStk s n).retrains + 1) := by
  have run : exec (.stackRetrain n false) s = .next (retrainFailed s n) := by
    show execStackRetrain n false s = _
    unfold execStackRetrain
    rw [due, if_neg (by decide), if_neg Bool.false_ne_true]
    rfl
  have due' := due
  unfold retrainDue at due'
  simp only [Bool.and_eq_true, decide_eq_true_eq, Bool.not_eq_true'] at due'
  obtain ⟨⟨⟨⟨state, -⟩, fresh⟩, -⟩, -⟩ := due'
  obtain ⟨regs, mem, -⟩ := setStk_keeps s n { getStk s n with retrains := (getStk s n).retrains + 1, failedAt := s.lampTime }
  have stack := getStk_setStk s n { getStk s n with retrains := (getStk s n).retrains + 1, failedAt := s.lampTime }
  refine ⟨_, run, ?_⟩
  unfold retrainFailed
  generalize setStk s n { getStk s n with retrains := (getStk s n).retrains + 1, failedAt := s.lampTime } = u at regs mem stack ⊢
  split_ifs with third
  · refine ⟨stack, ?_, mem, iff_of_true ?_ third⟩
    · exact (getF_setF_other _ _ _ (by decide)).trans ((getF_congr regs ..).trans state)
    · rw [onF_setF_same]
      rfl
  · refine ⟨stack, (getF_congr regs ..).trans state, mem, iff_of_false ?_ third⟩
    rw [onF_congr (getF_congr regs ..), fresh]
    exact Bool.false_ne_true

theorem stkRebuilt_done (rebuilding : stkState s n = 4) (share : getF s Reg.STK_CTL_REBUILD_SHARE n ≠ 0) :
    Gives (.stkRebuilt n) s fun t => stkState t n = 2 ∧ getF t Reg.STK_REBUILT n = 23437500 ∧ t.mem.stack = s.mem.stack := by
  let u := setStkState (setF s Reg.STK_REBUILT stackStripes n) n 2
  have run : exec (.stkRebuilt n) s = .next (logFault u (blockItem Err.STK_REBUILT (identOf 0x23 n)
      [n.val, (u.lampTime - (getStk u n).rebuildAt) / 1000000000])) := by
    show execStkRebuilt n s = _
    unfold execStkRebuilt
    rw [if_neg (fun h => h.elim (fun h => h rebuilding) share)]
  have logged := fieldsBut_logFault u (stackItem_page Err.STK_REBUILT n.isLt
    [n.val, (u.lampTime - (getStk u n).rebuildAt) / 1000000000])
  obtain ⟨-, -, stack, -⟩ := stks_of_offLog (offLog_logFault u (blockItem Err.STK_REBUILT (identOf 0x23 n)
    [n.val, (u.lampTime - (getStk u n).rebuildAt) / 1000000000]))
  have mem : u.mem = (setF s Reg.STK_REBUILT stackStripes n).mem := (kept_setStkState ..).1
  refine ⟨_, run, ?_, ?_, ?_⟩
  · exact (logged.same _ n 0 (by omega) (by decide +kernel)).trans (stkState_setStkState _ n.isLt (by decide))
  · rw [logged.same _ n 0 (by omega) (by decide +kernel),
      (fieldsBut_setStkState _ n.isLt 2).same _ n 0 (by omega) (by decide +kernel), getF_setF_same]
    rfl
  · rw [stack, mem]
    rfl

theorem exec_stkRebuilt_held (share : getF s Reg.STK_CTL_REBUILD_SHARE n = 0) : exec (.stkRebuilt n) s = .next s := by
  show execStkRebuilt n s = _
  unfold execStkRebuilt
  rw [if_pos (.inr share)]

end

end Sys2Proof.Machine

end

section
/-! Host ports and the end of a handover (R408, R482, R491 to R495, R498; O53). -/

namespace Sys2Proof.Machine

/-! ### The port of a queue -/

theorem portFor_some {s : State} {q p : Nat} (h : portFor s q = some p) : p < 4 ∧ onF s Reg.HST_PORT_STAT_UP p = true ∧
    ∃ i < 4, p = (q + i) % 4 ∧ ∀ j < i, onF s Reg.HST_PORT_STAT_UP ((q + j) % 4) = false := by
  unfold portFor at h
  rw [List.find?_map, Option.map_eq_some_iff] at h
  obtain ⟨i, found, rfl⟩ := h
  obtain ⟨up, index, first⟩ := List.find?_range_eq_some.1 found
  refine ⟨Nat.mod_lt _ (by decide), up, i, List.mem_range.1 index, rfl, fun j before => ?_⟩
  exact (Bool.not_eq_eq_eq_not ..).1 (first j before)

theorem portFor_none {s : State} (down : ∀ p < 4, onF s Reg.HST_PORT_STAT_UP p = false) (q : Nat) : portFor s q = none := by
  unfold portFor
  rw [List.find?_eq_none]
  intro p mem
  obtain ⟨i, -, rfl⟩ := List.mem_map.1 mem
  rw [down _ (Nat.mod_lt _ (by decide))]
  exact Bool.false_ne_true

/-! ### Ports that come up and go down -/

theorem exec_hostLinkUp {h : PortId} (w v : Nat) (cxl : Bool) {s : State} (released : portReleased s h = true)
    (attached : s.pins.surpriseDown = false) :
    let u := setF (setF (setF s Reg.HST_PORT_STAT_UP 1 h) Reg.HST_PORT_STAT_WIDTH w h) Reg.HST_PORT_STAT_SPEED v h
    let u := flagF (flagF u Reg.HST_PORT_STAT_FLIT (v == 6) h) Reg.HST_PORT_STAT_CXL (cxl && decide (h.val < 2)) h
    let r := if (portFor s h).isNone then portsBack s u h else routeQueues u
    let x := (r.serve.queues.map (·.1)).foldl (fun s q => settleRing (drainRing s q) q) r
    exec (.hostLinkUp h w v cxl) s = .next (if cxlUp x = true then scrubT2 x else x) := by
  intro u u r x
  show execHostLinkUp h w v cxl s = _
  unfold execHostLinkUp
  rw [released, attached]
  exact congrArg _ (if_neg (by decide))

theorem exec_hstLinkDown {h : PortId} {s : State} (up : onF s Reg.HST_PORT_STAT_UP h = true) :
    exec (.hstLinkDown h) s = .next (portDown (logFault s (blockItem Err.HST_LINK_DOWN (identOf 0x0B h) [h.val])) h) := by
  show execHstLinkDown h s = _
  unfold execHstLinkDown
  exact congrArg _ (if_pos up)

/-- The fields, by their first instances, that a failover writes. -/
def failoverKeys : List Nat := Reg.HST_WR_BYTES.key 0 0 :: Reg.HST_FAILOVERS.key 0 0 :: faultKeys

/-- What a failover of queues keeps: the other fields, the store and the stack tier. -/
structure FailoverKeeps (s t : State) : Prop where
  fields : FieldsBut failoverKeys s t
  store : t.mem.store = s.mem.store
  stack : t.mem.stack = s.mem.stack

theorem FailoverKeeps.trans {s t u : State} (h : FailoverKeeps s t) (k : FailoverKeeps t u) : FailoverKeeps s u :=
  ⟨h.fields.trans k.fields, k.store.trans h.store, k.stack.trans h.stack⟩

theorem FailoverKeeps.foldl {α : Type} {f : State → α → State} (h : ∀ s a, FailoverKeeps s (f s a)) (l : List α) (s : State) :
    FailoverKeeps s (l.foldl f s) := by
  induction l generalizing s with
  | nil => exact ⟨.refl _ s, rfl, rfl⟩
  | cons a l ih => exact (h s a).trans (ih _)

theorem failoverKeeps_hostWrite (s : State) (a : Nat) (bs : List Byte) : FailoverKeeps s (hostWrite s a bs) := by
  have memory : FieldsBut failoverKeys s { s with mem := { s.mem with host := memWriteBytes s.mem.host a bs } } := .of_regs rfl
  unfold hostWrite addF
  exact ⟨memory.trans (fieldsBut_setF _ _ (by decide) List.mem_cons_self), rfl, rfl⟩

theorem failoverKeeps_raiseQueue (s : State) (q : Nat) : FailoverKeeps s (raiseQueue s q) := ⟨.of_regs rfl, rfl, rfl⟩

theorem failoverKeeps_routeQueues (s : State) : FailoverKeeps s (routeQueues s) := ⟨.of_regs rfl, rfl, rfl⟩

theorem failoverKeeps_rewriteRing (s : State) (q : Nat) : FailoverKeeps s (rewriteRing s q) := by
  unfold rewriteRing
  exact (FailoverKeeps.foldl (fun _ _ => failoverKeeps_hostWrite ..) _ s).trans (failoverKeeps_raiseQueue ..)

theorem failoverKeeps_logFault (s : State) {it : FaultItem} (page : ∀ b, it.block = some b → pageOfIdent b < 4096) :
    FailoverKeeps s (logFault s it) := by
  obtain ⟨-, -, stack, store⟩ := stks_of_offLog (offLog_logFault s it)
  exact ⟨(fieldsBut_logFault s page).mono fun _ mem => List.mem_cons_of_mem _ (List.mem_cons_of_mem _ mem), store, stack⟩

theorem failoverKeeps_failOver (s : State) {h : Nat} (low : h < 4) (p : Nat) (mine : List Nat) :
    FailoverKeeps s (failOver s h p mine) := by
  have counted : ∀ u : State, FailoverKeeps u (addF u Reg.HST_FAILOVERS 1 h) := fun u =>
    ⟨fieldsBut_setF u _ (by omega) (List.mem_cons_of_mem _ List.mem_cons_self), rfl, rfl⟩
  unfold failOver
  refine (FailoverKeeps.foldl (f := rewriteRing) failoverKeeps_rewriteRing mine s).trans ((counted _).trans ?_)
  exact failoverKeeps_logFault _ (blockItem_page _ _ (by omega) (by show 10 < 4096; decide))

/-- A port's state, cleared. -/
def portCleared (s : State) (h : Nat) : State :=
  [Reg.HST_PORT_STAT_UP, Reg.HST_PORT_STAT_FLIT, Reg.HST_PORT_STAT_CXL, Reg.HST_PORT_STAT_WIDTH,
    Reg.HST_PORT_STAT_SPEED].foldl (fun s f => setF s f 0 h) s

theorem up_portCleared (s : State) {h p : Nat} (low : h < 4) (small : p < 4) :
    onF (portCleared s h) Reg.HST_PORT_STAT_UP p = onF (setF s Reg.HST_PORT_STAT_UP 0 h) Reg.HST_PORT_STAT_UP p := by
  unfold portCleared
  simp only [List.foldl_cons, List.foldl_nil]
  have other : ∀ (u : State) (f : Fld), Reg.HST_PORT_STAT_UP.key 0 0 ≠ f.key 0 0 →
      getF (setF u f 0 h) Reg.HST_PORT_STAT_UP p = getF u Reg.HST_PORT_STAT_UP p :=
    fun u f apart => getF_setF_apart u 0 apart (by omega) (by omega)
  refine onF_congr ?_
  rw [other _ _ (by decide), other _ _ (by decide), other _ _ (by decide), other _ _ (by decide)]

theorem up_portCleared_same (s : State) {h : Nat} (low : h < 4) : onF (portCleared s h) Reg.HST_PORT_STAT_UP h = false := by
  rw [up_portCleared s low low, onF_setF_same]
  rfl

theorem portCleared_down {s : State} {h : Nat} (port : h < 4) (others : ∀ p < 4, p ≠ h → onF s Reg.HST_PORT_STAT_UP p = false) :
    ∀ p < 4, onF (portCleared s h) Reg.HST_PORT_STAT_UP p = false := by
  intro p low
  by_cases same : p = h
  · rw [same, up_portCleared_same s port]
  · rw [up_portCleared s port low, onF_congr (getF_setF_ne _ _ ?_), others p low same]
    rw [Fld.key_inst _ p, Fld.key_inst _ h]
    omega

theorem mem_portCleared (s : State) (h : Nat) : (portCleared s h).mem = s.mem := rfl

/-- The streams and queues of a module without a port. -/
def portsLost (s : State) (h : Nat) : State :=
  { s with serve := { s.serve with
    queues := s.serve.queues.map (fun x => (x.1, { x.2 with port := h }))
    streams := s.serve.streams.map (fun e =>
      (e.1, if e.2.live then settleHold { e.2 with holdRing := true } else e.2)) } }

theorem portsLost_keeps (s : State) (h : Nat) : (portsLost s h).regs = s.regs ∧ (portsLost s h).mem = s.mem := ⟨rfl, rfl⟩

theorem settleHold_ring (x : Stream) : (settleHold x).holdRing = x.holdRing := by
  unfold settleHold
  split_ifs <;> rfl

theorem portsLost_holds {s : State} {h e : Nat} {x : Stream} (mem : (e, x) ∈ (portsLost s h).serve.streams) (live : x.live = true) :
    x.holdRing = true := by
  obtain ⟨y, -, same⟩ := List.mem_map.1 mem
  obtain ⟨-, rfl⟩ := Prod.mk.inj same
  split_ifs at live ⊢ with was
  · exact settleHold_ring _
  · exact absurd live was

theorem portDown_eq {s : State} {h : Nat} (up : onF s Reg.HST_PORT_STAT_UP h = true) : portDown s h =
    (portFor (portCleared s h) h).elim (portsLost (portCleared s h) h)
      fun p => failOver (routeQueues (portCleared s h)) h p (queuesOn s h) := by
  have cleared : portDown s h = match portFor (portCleared s h) h with
      | some p => failOver (routeQueues (portCleared s h)) h p (queuesOn s h)
      | none => portsLost (portCleared s h) h := by
    unfold portDown
    rw [up]
    rfl
  rw [cleared]
  cases portFor (portCleared s h) h <;> rfl

theorem portDown_gives {h : PortId} {s : State} (up : onF s Reg.HST_PORT_STAT_UP h = true) :
    let t := portDown s h
    onF t Reg.HST_PORT_STAT_UP h = false ∧ t.mem.store = s.mem.store ∧ t.mem.stack = s.mem.stack ∧
    ((∀ p < 4, p ≠ h.val → onF s Reg.HST_PORT_STAT_UP p = false) →
      ∀ e x, (e, x) ∈ t.serve.streams → x.live = true → x.holdRing = true) := by
  have low := h.isLt
  rw [portDown_eq up]
  cases found : portFor (portCleared s h) h with
  | none =>
    obtain ⟨regs, mem⟩ := portsLost_keeps (portCleared s h) h
    refine ⟨(onF_congr (getF_congr regs ..)).trans (up_portCleared_same s low), ?_, ?_, fun _ e x => portsLost_holds⟩
    · rw [Option.elim_none, mem, mem_portCleared]
    · rw [Option.elim_none, mem, mem_portCleared]
  | some p =>
    have kept := (failoverKeeps_routeQueues (portCleared s h)).trans (failoverKeeps_failOver _ low p (queuesOn s h))
    refine ⟨?_, ?_, ?_, fun others => ?_⟩
    · rw [Option.elim_some, onF_congr (kept.fields.same _ h.val 0 (by omega) (by decide +kernel)), up_portCleared_same s low]
    · rw [Option.elim_some, kept.store, mem_portCleared]
    · rw [Option.elim_some, kept.stack, mem_portCleared]
    · rw [portFor_none (portCleared_down low others)] at found
      exact absurd found (Option.some_ne_none p).symm

/-! ### The end of a handover -/

theorem exec_handoverComplete_none {s : State} (idle : s.partner.sending = none) : exec .handoverComplete s = .next s := by
  show execHandoverComplete s = _
  unfold execHandoverComplete
  rw [idle]

theorem exec_handoverComplete {s : State} {cause : Nat} (sending : s.partner.sending = some cause) :
    let u := sendGalleys s
    let v := u.serve.convs.foldl handConv u
    let w := (openStreams v).foldl handStream v
    let x := surpriseDown { w with partner := { w.partner with sending := none } }
    exec .handoverComplete s = .next (if cause = 5 then moduleReset x 4 else if cause = 1 then stopShutdown x else x) := by
  show execHandoverComplete s = _
  unfold execHandoverComplete
  rw [sending]

/-- Settles O53: a failing stack's state, count and record come before its parity group is looked at, and a port that goes
down either moves its queues to the next port that is up, which writes host memory only, or is the last one, and every live
stream holds. -/
theorem stacksAndPorts : Obligations.StacksAndPorts := by
  unfold Obligations.StacksAndPorts
  refine ⟨fun n s => ⟨fun training => ⟨exec_stackTrained training, fun major minor ident => exec_stackTrained_other training minor ident⟩,
    fun _ few => exec_stkFailed_few few, fun cause plain worn => exec_stkFailed plain worn, fun cause sound => ?_,
    fun cause m index other group down => ?_, exec_stackRetrain_early, fun due => ⟨stackRetrain_succeeds due, stackRetrain_fails due⟩,
    stkRebuilt_done, fun _ => exec_stkRebuilt_held⟩, fun s q p => portFor_some, fun h w v cxl s => exec_hostLinkUp w v cxl,
    fun h s => exec_hstLinkDown, fun h s => portDown_gives, fun s => ⟨exec_handoverComplete_none, fun cause => exec_handoverComplete⟩⟩
  · have up : groupDown (stackFailed s n cause) n = false := by
      rw [Bool.eq_false_iff, Ne, groupDown_stackFailed s n.isLt]
      rintro ⟨m, index, other, group, down⟩
      exact down.elim (sound m index other group).1 (sound m index other group).2
    obtain ⟨stack, serve, failed⟩ := stackFailed_keeps s cause (n := n.val)
    have one : failStack s n cause = stackFailed s n cause := by
      rw [failStack_eq, up, if_neg Bool.false_ne_true]
    rw [one]
    exact ⟨stkState_stackFailed s n.isLt cause, fails_stackFailed s n.isLt cause, stack, serve, failed⟩
  · rw [failStack_eq, if_pos ((groupDown_stackFailed s n.isLt cause).2 ⟨m, index, other, group, down⟩)]
    rfl

end Sys2Proof.Machine

end

section
/-! Core rails (R424, R425): a ramp that ends while a forme whose number is no forme's runs on the chase (O54). -/

namespace Sys2Proof.Machine

/-- A part of a forme on chase 0. -/
def partOnZero : Placed :=
  { layer := 0, layout := 0, part := 0, chase := 0, row := 0, col := 0, rows := 0, cols := 0, flags := 0, schedLen := 0
    posOffset := 0, weightOff := 0, weightLen := 0, descOff := 0, sends := [], links := [], start := 0, waiting := false }

/-- The rail of chase 0 has ramped for 64 µs, its clock limit is out of date, and a forme runs there whose number is so high
that its report would stand in the word of the chase's rail. -/
def wideForme : State :=
  { setF (setF State.reset Reg.CPW_STATE_RAIL Rail.ramping 0) Reg.CPW_CLK_LIMIT 700 0 with
    lampTime := 64000
    formes := [(Reg.CPW_STATE_RAIL.key 0 0 - Reg.SRV_F_SHAPE_B.key 0 0, { bareForme with parts := [partOnZero] })] }

theorem rail_wideForme : rail wideForme 0 = Rail.ramping ∧ (getChase wideForme 0).rampAt + 64000 ≤ wideForme.lampTime := by
  decide +kernel

theorem rail_rampsEnd_wideForme : rail (rampsEnd wideForme) 0 = Rail.off := by decide +kernel

/-- Refutes O54: a rail that has ramped for 64 µs need not stand ON. The chase's new clock limit has the formes that run
there timed and reported again; no clause bounds a forme's number, and the report of one far enough out of range falls on
the state of the rail. -/
theorem not_clocksAndRails : ¬ Obligations.ClocksAndRails := by
  intro h
  obtain ⟨-, rails⟩ := h
  obtain ⟨-, -, ends, -⟩ := rails 0 wideForme
  obtain ⟨on, -⟩ := ends rail_wideForme.1 rail_wideForme.2
  exact absurd (rail_rampsEnd_wideForme.symm.trans on) (by decide)

end Sys2Proof.Machine

end

section
/-! Banks, the current latch, retention and its exit (R431 to R437, R439; O55). -/

namespace Sys2Proof.Machine

/-! ### Banks -/

theorem memRead_loseStore (s : State) (n : Nat) (p : Nat → Bool) (a : Nat) : memRead (loseStore s n p).mem.store a =
    if keyChase (a / coreBytes) = n ∧ p (a % coreBytes) = true then 0 else memRead s.mem.store a := by
  have kept : kget? (loseStore s n p).mem.store a = _ :=
    kget?_filter_key s.mem.store (fun k => !(keyChase (k / coreBytes) == n && p (k % coreBytes))) a
  unfold memRead kgetD
  rw [kept]
  by_cases lost : keyChase (a / coreBytes) = n ∧ p (a % coreBytes) = true
  · simp [lost]
  · rw [if_neg lost, if_pos]
    rw [Bool.not_eq_true', Bool.eq_false_iff]
    exact fun h => lost (by simpa using h)

theorem memRead_lost {s : State} {n : Nat} {p : Nat → Bool} {a : Nat} (chase : keyChase (a / coreBytes) = n)
    (mem : p (a % coreBytes) = true) : memRead (loseStore s n p).mem.store a = 0 := by
  rw [memRead_loseStore, if_pos ⟨chase, mem⟩]

theorem memRead_kept {s : State} {n : Nat} {p : Nat → Bool} {a : Nat}
    (away : keyChase (a / coreBytes) ≠ n ∨ p (a % coreBytes) = false) :
    memRead (loseStore s n p).mem.store a = memRead s.mem.store a := by
  rw [memRead_loseStore, if_neg]
  rintro ⟨chase, mem⟩
  exact away.elim (absurd chase) (fun out => Bool.false_ne_true (out.symm.trans mem))

theorem mem_refuseRemote (s : State) (c src : CoreRef) (stamp : Word64) (a : Nat) :
    (refuseRemote s c src stamp a false).mem = s.mem := by
  unfold refuseRemote sendTo
  rw [emitPacket_mem]
  rfl

theorem mem_refuseWrites (s : State) (n : Nat) (p : WBuf → Bool) : (refuseWrites s n p).mem = s.mem := by
  have refused : ∀ (c : CoreRef) (ws : List WBuf) (s : State),
      (ws.foldl (fun s w => refuseRemote s c w.src (BitVec.ofNat 64 w.stamp) w.addr false) s).mem = s.mem := by
    intro c ws
    induction ws with
    | nil => exact fun s => rfl
    | cons w ws ih => exact fun s => (ih _).trans (mem_refuseRemote ..)
  unfold refuseWrites
  generalize chaseCores s n = ks
  induction ks generalizing s with
  | nil => rfl
  | cons k ks ih => exact (ih _).trans (refused ..)

theorem getChase_modChase (s : State) (n : Nat) (f : Chase → Chase) : getChase (modChase s n f) n = f (getChase s n) :=
  kgetD_kset_same ..

theorem getChase_setF (s : State) (f : Fld) (v i k m : Nat) : getChase (setF s f v i k) m = getChase s m := rfl

theorem getChase_loseStore (s : State) (n : Nat) (p : Nat → Bool) (m : Nat) : getChase (loseStore s n p) m = getChase s m := rfl

theorem mem_modChase (s : State) (n : Nat) (f : Chase → Chase) : (modChase s n f).mem = s.mem := rfl



section
variable {n : ChaseId} {b : Fin 36} {s : State}

theorem exec_bankGate_early (early : s.lampTime < (getChase s n).vacatedAt + 1000000000) : exec (.bankGate n b) s = .next s := by
  show execBankGate n b s = _
  unfold execBankGate
  rw [decide_eq_true early, Bool.or_true]
  exact congrArg _ (if_pos rfl)

theorem exec_bankGate (idle : bankUsed s n b = false) (shown : kget? (getChase s n).banks b = none) (on : railOn s n = true)
    (late : (getChase s n).vacatedAt + 1000000000 ≤ s.lampTime) : exec (.bankGate n b) s =
    .next (refuseWrites (modChase s n (fun ch => { ch with banks := kset ch.banks b (.closing ch.clk) })) n
      (fun w => inBank b w.addr && !w.counted)) := by
  show execBankGate n b s = _
  unfold execBankGate
  rw [idle, shown, on, decide_eq_false (Nat.not_lt.2 late)]
  exact congrArg _ (if_neg (by decide))

theorem exec_bankGated_early {c : Nat} (closing : kget? (getChase s n).banks b = some (.closing c))
    (early : (getChase s n).clk < c + 64) : exec (.bankGated n b) s = .next s := by
  show execBankGated n b s = _
  unfold execBankGated
  rw [closing]
  exact congrArg _ (if_pos early)

theorem bankGated_loses {c : Nat} (closing : kget? (getChase s n).banks b = some (.closing c))
    (late : c + 64 ≤ (getChase s n).clk) : Gives (.bankGated n b) s fun t =>
      kget? (getChase t n).banks b = some .gated ∧
      (∀ a, keyChase (a / coreBytes) = n.val → inBank b (a % coreBytes) = true → memRead t.mem.store a = 0) ∧
      (∀ a, keyChase (a / coreBytes) ≠ n.val ∨ inBank b (a % coreBytes) = false →
        memRead t.mem.store a = memRead s.mem.store a) := by
  let u := refuseWrites s n (fun w => inBank b w.addr)
  have mem : u.mem = s.mem := mem_refuseWrites ..
  have run : exec (.bankGated n b) s = .next (showGated (modChase (loseStore u n (inBank b)) n
      (fun ch => { ch with banks := kset ch.banks b .gated })) n) := by
    show execBankGated n b s = _
    unfold execBankGated
    rw [closing]
    exact congrArg _ (if_neg (Nat.not_lt.2 late))
  refine ⟨_, run, ?_, fun a chase inside => ?_, fun a away => ?_⟩
  · unfold showGated
    rw [getChase_setF, getChase_modChase]
    exact kget?_kset_same ..
  · unfold showGated
    rw [setF_mem, mem_modChase, memRead_lost chase inside]
  · unfold showGated
    rw [setF_mem, mem_modChase, memRead_kept away, mem]

theorem exec_bankOpen (gated : kget? (getChase s n).banks b = some .gated) : exec (.bankOpen n b) s =
    .next (modChase s n (fun ch => { ch with banks := kset ch.banks b (.opening ch.clk) })) := by
  show execBankOpen n b s = _
  unfold execBankOpen
  rw [gated]

end

theorem openBank_eq {s : State} {n b : Nat} (shown : (kget? (getChase s n).banks b).isSome = true) : openBank s n b =
    showGated (modChase (loseStore s n (inBank b)) n (fun ch => { ch with banks := kdel ch.banks b })) n := by
  unfold openBank
  exact if_pos shown

theorem banks_openBank (s : State) (n b c : Nat) : kget? (getChase (openBank s n b) n).banks c =
    if c = b then none else kget? (getChase s n).banks c := by
  by_cases shown : (kget? (getChase s n).banks b).isSome = true
  · rw [openBank_eq shown]
    unfold showGated
    rw [getChase_setF, getChase_modChase, getChase_loseStore]
    exact kget?_kdel ..
  · have gone : kget? (getChase s n).banks b = none := by simpa using shown
    have same : openBank s n b = s := by
      unfold openBank
      rw [if_neg shown]
    rw [same]
    split_ifs with h
    · rw [h, gone]
    · rfl

theorem banks_openAll {l : List (Nat × BankState)} {s : State} {n c : Nat}
    (gone : kget? (getChase s n).banks c = none ∨ ∃ e ∈ l, e.1 = c) :
    kget? (getChase (l.foldl (fun s e => openBank s n e.1) s) n).banks c = none := by
  induction l generalizing s with
  | nil => exact gone.resolve_right (by simp)
  | cons e l ih =>
    refine ih ?_
    rw [banks_openBank]
    split_ifs with same
    · exact .inl rfl
    · refine gone.imp id ?_
      rintro ⟨d, mem, rfl⟩
      exact ⟨d, (List.mem_cons.1 mem).resolve_left fun h => same (by rw [h]), rfl⟩

theorem banks_banksOpen {s : State} {n b c : Nat} (opening : kget? (getChase s n).banks b = some (.opening c))
    (late : c + 256 ≤ (getChase s n).clk) : kget? (getChase (banksOpen s n) n).banks b = none := by
  refine banks_openAll (.inr ⟨(b, .opening c), List.mem_filter.2 ⟨mem_of_kget? opening, ?_⟩, rfl⟩)
  exact decide_eq_true late

theorem openBank_gives {s : State} {n b c : Nat} (opening : kget? (getChase s n).banks b = some (.opening c))
    (late : c + 256 ≤ (getChase s n).clk) :
    let t := openBank s n b
    kget? (getChase t n).banks b = none ∧ kget? (getChase (banksOpen s n) n).banks b = none ∧
      (∀ a, keyChase (a / coreBytes) = n → inBank b (a % coreBytes) = true → memRead t.mem.store a = 0) ∧
      (∀ a, keyChase (a / coreBytes) ≠ n ∨ inBank b (a % coreBytes) = false →
        memRead t.mem.store a = memRead s.mem.store a) := by
  have shown : (kget? (getChase s n).banks b).isSome = true := by rw [opening]; rfl
  refine ⟨(banks_openBank ..).trans (if_pos rfl), banks_banksOpen opening late, fun a chase inside => ?_, fun a away => ?_⟩
  · rw [openBank_eq shown, showGated, setF_mem, mem_modChase, memRead_lost chase inside]
  · rw [openBank_eq shown, showGated, setF_mem, mem_modChase, memRead_kept away]

/-! ### The current latch -/

/-- A fold over indices that writes a field at each of them, and at no other, leaves each one's value there. -/
theorem getF_foldl_index {F : Fld} {g : State → Nat → State} {val : Nat → Nat} {l : List Nat}
    (write : ∀ s, ∀ n ∈ l, getF (g s n) F n = val n)
    (keep : ∀ s, ∀ n ∈ l, ∀ m ∈ l, m ≠ n → getF (g s n) F m = getF s F m) (s : State) {m : Nat}
    (mem : m ∈ l) : getF (l.foldl g s) F m = val m := by
  suffices every : ∀ ks, ks ⊆ l → ∀ s : State, getF s F m = val m ∨ m ∈ ks → getF (ks.foldl g s) F m = val m from
    every l (List.Subset.refl l) s (.inr mem)
  intro ks
  induction ks with
  | nil => exact fun _ s h => h.resolve_right (by simp)
  | cons k ks ih =>
    intro sub s h
    refine ih (fun x hx => sub (List.mem_cons_of_mem _ hx)) _ ?_
    have known : k ∈ l := sub List.mem_cons_self
    by_cases same : m = k
    · exact .inl (by rw [same, write s k known])
    · rw [keep s k known m mem same]
      exact h.imp id fun h => (List.mem_cons.1 h).resolve_left same

/-- The readings of one chase. -/
def latchChase (r : CurrentReading) (v : Nat) (s : State) (n : Nat) : State :=
  setF (latchF (latchF (latchF s Reg.CPW_I_CORE_AVG (r.coreAvg.getD n 0) n) Reg.CPW_I_CORE_PEAK (r.corePeak.getD n 0) n)
    Reg.CPW_I_TRANSIT_AVG (r.transitAvg.getD n 0) n) Reg.CPW_VMEAS (Config.freeResult 0x0443 [v, n] % 1024) n

/-- The readings of the module. -/
def latchModule (r : CurrentReading) (s : State) : State :=
  latchF (latchF (latchF (latchF (latchF (latchF (setF s Reg.PWR_MS_SEQ ((getF s Reg.PWR_MS_SEQ 0 + 1) % 2 ^ 32) 0)
    Reg.PWR_INPUT_V r.inputMv 0) Reg.PWR_INPUT_I r.inputI 0) Reg.PWR_MODULE_P r.moduleW 0)
    Reg.PWR_I_STACKS r.stackI 0) Reg.PWR_I_PORTS r.portI 0) Reg.PWR_I_LAMP r.lampI 0

theorem exec_currentLatch (r : CurrentReading) (s : State) : exec (.currentLatch r) s =
    .next ((List.range 256).foldl (latchChase r (nextFree (latchModule r s)).1) (nextFree (latchModule r s)).2) := rfl

/-- The fields, by their first instances, that a chase's readings stand in. -/
def chaseReadings : List Nat :=
  [Reg.CPW_I_CORE_AVG, Reg.CPW_I_CORE_PEAK, Reg.CPW_I_TRANSIT_AVG, Reg.CPW_VMEAS].map (fun f => f.key 0 0)

section
variable (r : CurrentReading) (v : Nat) (s : State) {n : Nat}

theorem fieldsBut_latchChase (low : n < 256) : FieldsBut chaseReadings s (latchChase r v s n) := by
  unfold latchChase latchF
  exact (((fieldsBut_setF s _ (by omega) (by decide)).trans (fieldsBut_setF _ _ (by omega) (by decide))).trans
    (fieldsBut_setF _ _ (by omega) (by decide))).trans (fieldsBut_setF _ _ (by omega) (by decide))

theorem offRegs_latchChase (n : Nat) : offRegs (latchChase r v s n) = offRegs s := by
  unfold latchChase latchF
  rw [offRegs_setF, offRegs_setF, offRegs_setF, offRegs_setF]

theorem getF_latchF_same (f : Fld) (x i : Nat) : getF (latchF s f x i) f i = min x (2 ^ f.width - 1) := by
  have positive : 0 < 2 ^ f.width := Nat.two_pow_pos _
  rw [latchF, getF_setF_same]
  exact Nat.mod_eq_of_lt (by omega)

theorem avg_latchChase (n : Nat) : getF (latchChase r v s n) Reg.CPW_I_CORE_AVG n = min (r.coreAvg.getD n 0) 4095 := by
  unfold latchChase
  refine (getF_setF_other _ _ _ (by decide)).trans ((getF_setF_other _ _ _ (by decide)).trans
    ((getF_setF_other _ _ _ (by decide)).trans ?_))
  exact getF_latchF_same ..

theorem peak_latchChase (n : Nat) : getF (latchChase r v s n) Reg.CPW_I_CORE_PEAK n = min (r.corePeak.getD n 0) 4095 := by
  unfold latchChase
  refine (getF_setF_other _ _ _ (by decide)).trans ((getF_setF_other _ _ _ (by decide)).trans ?_)
  exact getF_latchF_same ..

theorem latchChase_other (F : Fld) {m : Nat} (low : n < 256) (small : m < 256) (other : m ≠ n) :
    getF (latchChase r v s n) F m = getF s F m := by
  have apart : ∀ (f : Fld), F.key m 0 ≠ f.key n 0 := fun f h => by
    rw [Fld.key_inst F m, Fld.key_inst f n] at h
    unfold Fld.key at h
    omega
  unfold latchChase latchF
  rw [getF_setF_ne _ _ (apart _), getF_setF_ne _ _ (apart _), getF_setF_ne _ _ (apart _), getF_setF_ne _ _ (apart _)]

theorem fields_latchModule : getF (latchModule r s) Reg.PWR_MS_SEQ 0 = (getF s Reg.PWR_MS_SEQ 0 + 1) % 2 ^ 32 ∧
    getF (latchModule r s) Reg.PWR_INPUT_V 0 = min r.inputMv 65535 ∧
    getF (latchModule r s) Reg.PWR_MODULE_P 0 = min r.moduleW 65535 := by
  have other : ∀ (u : State) (f g : Fld) (x : Nat), g.key 0 0 ≠ f.key 0 0 → getF (latchF u f x 0) g 0 = getF u g 0 :=
    fun u f g x apart => getF_setF_other u _ 0 apart
  unfold latchModule
  refine ⟨?_, ?_, ?_⟩
  · rw [other _ _ _ _ (by decide), other _ _ _ _ (by decide), other _ _ _ _ (by decide), other _ _ _ _ (by decide),
      other _ _ _ _ (by decide), other _ _ _ _ (by decide), getF_setF_same]
    exact Nat.mod_mod ..
  · rw [other _ _ _ _ (by decide), other _ _ _ _ (by decide), other _ _ _ _ (by decide), other _ _ _ _ (by decide),
      other _ _ _ _ (by decide), getF_latchF_same]
    rfl
  · rw [other _ _ _ _ (by decide), other _ _ _ _ (by decide), other _ _ _ _ (by decide), getF_latchF_same]
    rfl

theorem offRegs_latchModule : offRegs (latchModule r s) = offRegs s := by
  unfold latchModule latchF
  rw [offRegs_setF, offRegs_setF, offRegs_setF, offRegs_setF, offRegs_setF, offRegs_setF, offRegs_setF]

theorem offRegs_latchChases (l : List Nat) : offRegs (l.foldl (latchChase r v) s) = offRegs s := by
  induction l generalizing s with
  | nil => rfl
  | cons n l ih => exact (ih _).trans (offRegs_latchChase r v s n)

/-- A step that changes registers, after one that took a free value, after another one that changes registers. -/
theorem regsAndFree_of {s t u : State} (first : offRegs t = offRegs s) (second : offRegs u = offRegs (nextFree t).2) :
    u = { s with regs := u.regs, free := u.free } := by
  have drawn : (nextFree t).2 = { t with free := t.free + 1 } := rfl
  rw [eq_of_offRegs second, drawn, eq_of_offRegs first]

end

theorem currentLatch_gives (r : CurrentReading) (s : State) : Gives (.currentLatch r) s fun t =>
    getF t Reg.PWR_MS_SEQ 0 = (getF s Reg.PWR_MS_SEQ 0 + 1) % 2 ^ 32 ∧ getF t Reg.PWR_INPUT_V 0 = min r.inputMv 65535 ∧
    getF t Reg.PWR_MODULE_P 0 = min r.moduleW 65535 ∧
    (∀ n < 256, getF t Reg.CPW_I_CORE_AVG n = min (r.coreAvg.getD n 0) 4095 ∧
      getF t Reg.CPW_I_CORE_PEAK n = min (r.corePeak.getD n 0) 4095) ∧
    t = { s with regs := t.regs, free := t.free } := by
  have chases : ∀ u v, FieldsBut chaseReadings u ((List.range 256).foldl (latchChase r v) u) := fun u v =>
    FieldsBut.foldl (fun s n mem => fieldsBut_latchChase r v s (List.mem_range.1 mem)) u
  have regs : (nextFree (latchModule r s)).2.regs = (latchModule r s).regs := rfl
  obtain ⟨seq, volts, watts⟩ := fields_latchModule r s
  refine ⟨_, exec_currentLatch r s, ?_, ?_, ?_, fun n low => ⟨?_, ?_⟩, ?_⟩
  · rw [(chases _ _).same _ 0 0 (by decide) (by decide), getF_congr regs, seq]
  · rw [(chases _ _).same _ 0 0 (by decide) (by decide), getF_congr regs, volts]
  · rw [(chases _ _).same _ 0 0 (by decide) (by decide), getF_congr regs, watts]
  · exact getF_foldl_index (fun s n _ => avg_latchChase r _ s n)
      (fun s k known m near other => latchChase_other r _ s _ (List.mem_range.1 known) (List.mem_range.1 near) other)
      _ (List.mem_range.2 low)
  · exact getF_foldl_index (fun s n _ => peak_latchChase r _ s n)
      (fun s k known m near other => latchChase_other r _ s _ (List.mem_range.1 known) (List.mem_range.1 near) other)
      _ (List.mem_range.2 low)
  · exact regsAndFree_of (offRegs_latchModule r s) (offRegs_latchChases ..)

/-! ### Retention -/

theorem retentionOk_asked (s : State) : retentionOk (setF s Reg.PWR_RETAIN_CTL_REQ 1 0) = retentionOk s := by
  have busy : onF (setF s Reg.PWR_RETAIN_CTL_REQ 1 0) Reg.LOAD_STAT_BUSY 0 = onF s Reg.LOAD_STAT_BUSY 0 :=
    onF_congr (getF_setF_other _ _ _ (by decide))
  have state : getF (setF s Reg.PWR_RETAIN_CTL_REQ 1 0) Reg.PWR_RETAIN_STAT_STATE 0 = getF s Reg.PWR_RETAIN_STAT_STATE 0 :=
    getF_setF_other _ _ _ (by decide)
  unfold retentionOk
  rw [busy, state]
  rfl

theorem exec_retentionRequest {s : State} (up : answers s 4 = true) : exec .retentionRequest s = .next (requestRetention s) := by
  show execRetentionRequest s = _
  exact congrArg _ (regWrite_answers up _)

theorem exec_retentionExit_host {s : State} (up : answers s 4 = true) :
    exec (.retentionExit true) s = .next (beginExit (setF s Reg.PWR_RETAIN_CTL_REQ 0 0)) := by
  show execRetentionExit true s = _
  unfold execRetentionExit
  rw [if_pos rfl]
  exact congrArg _ (regWrite_answers up _)

theorem retentionRequest_granted {s : State} (up : answers s 4 = true) (ok : retentionOk s = true) :
    Gives .retentionRequest s fun t => getF t Reg.PWR_RETAIN_STAT_STATE 0 = 2 := by
  refine ⟨_, exec_retentionRequest up, ?_⟩
  unfold requestRetention
  dsimp only
  rw [retentionOk_asked, ok]
  exact getF_setF_same ..

theorem retentionRequest_refused {s : State} (up : answers s 4 = true) (no : retentionOk s = false)
    (idle : getF s Reg.PWR_RETAIN_STAT_STATE 0 = 0) : Gives .retentionRequest s fun t =>
      getF t Reg.PWR_RETAIN_STAT_REFUSED 0 = 1 ∧
      RegsOnly s t [Reg.PWR_RETAIN_CTL_REQ.key 0 0, Reg.PWR_RETAIN_STAT_REFUSED.key 0 0] := by
  have state : getF (setF s Reg.PWR_RETAIN_CTL_REQ 1 0) Reg.PWR_RETAIN_STAT_STATE 0 = 0 :=
    (getF_setF_other _ _ _ (by decide)).trans idle
  have run : requestRetention s = setF (setF s Reg.PWR_RETAIN_CTL_REQ 1 0) Reg.PWR_RETAIN_STAT_REFUSED 1 0 := by
    unfold requestRetention
    dsimp only
    rw [retentionOk_asked, no, state]
    rfl
  refine ⟨_, exec_retentionRequest up, ?_⟩
  rw [run]
  refine ⟨getF_setF_same .., ?_⟩
  exact setF_regsOnly (setF_regsOnly (regsOnly_refl _ _) _ _ _ _ List.mem_cons_self) _ _ _ _
    (List.mem_cons_of_mem _ List.mem_cons_self)

/-- The stacks taken from one state to another. -/
def stackMoved (a b : Nat) (s : State) (n : Nat) : State :=
  if getF s Reg.STK_STAT_STATE n = a then setF s Reg.STK_STAT_STATE b n else s

theorem moveStacks_keeps (s : State) (a b : Nat) : FieldsBut [Reg.STK_STAT_STATE.key 0 0] s (moveStacks s a b) ∧
    offRegs (moveStacks s a b) = offRegs s := by
  have fields : ∀ s, ∀ n ∈ List.range 32, FieldsBut [Reg.STK_STAT_STATE.key 0 0] s (stackMoved a b s n) := by
    intro s n mem
    have low := List.mem_range.1 mem
    unfold stackMoved
    split_ifs
    · exact fieldsBut_setF s _ (by omega) List.mem_cons_self
    · exact .refl _ s
  have rest : ∀ (l : List Nat) (s : State), offRegs (l.foldl (stackMoved a b) s) = offRegs s := by
    intro l
    induction l with
    | nil => exact fun s => rfl
    | cons n l ih =>
      refine fun s => (ih _).trans ?_
      unfold stackMoved
      split_ifs <;> rfl
  exact ⟨FieldsBut.foldl fields s, rest _ s⟩



theorem mem_of_offRegs {s t : State} (same : offRegs t = offRegs s) : t.mem = s.mem ∧ t.power = s.power := by
  have mem : (offRegs t).mem = (offRegs s).mem := by rw [same]
  have power : (offRegs t).power = (offRegs s).power := by rw [same]
  exact ⟨mem, power⟩

theorem beginExit_gives {s : State} (ready : getF s Reg.PWR_RETAIN_STAT_STATE 0 = 2 ∨
    (getF s Reg.PWR_RETAIN_STAT_STATE 0 = 4 ∧ onF s Reg.CLT_STAT_IN_SPEC 0 = true)) :
    getF (beginExit s) Reg.PWR_RETAIN_STAT_STATE 0 = 3 ∧
      getF (beginExit s) Reg.PWR_RETAIN_CTL_REQ 0 = getF s Reg.PWR_RETAIN_CTL_REQ 0 ∧
      (beginExit s).power.wave = 0 ∧ (beginExit s).mem = s.mem := by
  have run : beginExit s = setF (moveStacks { s with power := { s.power with wave := 0 } } 5 2) Reg.PWR_RETAIN_STAT_STATE 3 0 := by
    unfold beginExit
    exact if_pos ready
  obtain ⟨fields, rest⟩ := moveStacks_keeps { s with power := { s.power with wave := 0 } } 5 2
  obtain ⟨mem, power⟩ := mem_of_offRegs rest
  rw [run]
  refine ⟨getF_setF_same .., ?_, ?_, (setF_mem ..).trans mem⟩
  · exact (getF_setF_other _ _ _ (by decide)).trans (fields.same _ 0 0 (by decide) (by decide))
  · rw [setF_power, power]

theorem retentionExit_host {s : State} (up : answers s 4 = true) (ready : getF s Reg.PWR_RETAIN_STAT_STATE 0 = 2 ∨
    (getF s Reg.PWR_RETAIN_STAT_STATE 0 = 4 ∧ onF s Reg.CLT_STAT_IN_SPEC 0 = true)) :
    Gives (.retentionExit true) s fun t => getF t Reg.PWR_RETAIN_STAT_STATE 0 = 3 ∧ getF t Reg.PWR_RETAIN_CTL_REQ 0 = 0 ∧
      t.power.wave = 0 ∧ t.mem = s.mem := by
  have state : getF (setF s Reg.PWR_RETAIN_CTL_REQ 0 0) Reg.PWR_RETAIN_STAT_STATE 0 = getF s Reg.PWR_RETAIN_STAT_STATE 0 :=
    getF_setF_other _ _ _ (by decide)
  have spec : onF (setF s Reg.PWR_RETAIN_CTL_REQ 0 0) Reg.CLT_STAT_IN_SPEC 0 = onF s Reg.CLT_STAT_IN_SPEC 0 :=
    onF_congr (getF_setF_other _ _ _ (by decide))
  rw [← state, ← spec] at ready
  obtain ⟨exiting, request, wave, mem⟩ := beginExit_gives ready
  exact ⟨_, exec_retentionExit_host up, exiting, request.trans (getF_setF_same ..), wave, mem⟩

theorem retentionExit_queued {e : Nat} {x : Stream} {s : State} (retained : getF s Reg.PWR_RETAIN_STAT_STATE 0 = 2)
    (stream : (e, x) ∈ s.serve.streams) (queued : x.state = 0) : Gives (.retentionExit false) s fun t =>
      getF t Reg.PWR_RETAIN_STAT_STATE 0 = 3 ∧ t.power.wave = 0 ∧ t.mem = s.mem := by
  have waiting : s.serve.streams.any (fun e => e.2.state == 0 && !e.2.ended) = true := by
    refine List.any_eq_true.2 ⟨(e, x), stream, ?_⟩
    unfold Stream.ended
    rw [queued]
    rfl
  have run : exec (.retentionExit false) s = .next (beginExit s) := by
    show execRetentionExit false s = _
    unfold execRetentionExit
    rw [if_neg Bool.false_ne_true, if_pos ⟨retained, waiting⟩]
  obtain ⟨exiting, -, wave, mem⟩ := beginExit_gives (.inl retained)
  exact ⟨_, run, exiting, wave, mem⟩

/-- The memories and the power unit's state stand as they were. -/
structure PowerKeeps (s t : State) : Prop where
  mem : t.mem = s.mem
  power : t.power = s.power

theorem PowerKeeps.refl (s : State) : PowerKeeps s s := ⟨rfl, rfl⟩

theorem PowerKeeps.trans {s t u : State} (h : PowerKeeps s t) (k : PowerKeeps t u) : PowerKeeps s u :=
  ⟨k.mem.trans h.mem, k.power.trans h.power⟩

theorem PowerKeeps.foldl {α : Type} {f : State → α → State} (h : ∀ s a, PowerKeeps s (f s a)) (l : List α) (s : State) :
    PowerKeeps s (l.foldl f s) := by
  induction l generalizing s with
  | nil => exact .refl s
  | cons a l ih => exact (h s a).trans (ih _)

theorem powerKeeps_setF (s : State) (f : Fld) (v i k : Nat) : PowerKeeps s (setF s f v i k) := ⟨rfl, rfl⟩

theorem powerKeeps_reportForme (s : State) (fi : Nat) : PowerKeeps s (reportForme s fi) := by
  unfold reportForme
  split
  · exact ((((((powerKeeps_setF ..).trans (powerKeeps_setF ..)).trans (powerKeeps_setF ..)).trans (powerKeeps_setF ..)).trans
      (powerKeeps_setF ..)).trans (powerKeeps_setF ..)).trans (powerKeeps_setF ..)
  · exact PowerKeeps.foldl (fun s r => powerKeeps_setF s r 0 fi 0) _ s

theorem powerKeeps_rebindForme (s : State) (fi : Nat) (f : Forme) : PowerKeeps s (rebindForme s fi f) := by
  have kept : ∀ (l : KMap Stream) (x : State × List Binding), PowerKeeps x.1 (l.foldl (rebindOne fi f) x).1 := by
    intro l
    induction l with
    | nil => exact fun x => .refl _
    | cons e l ih =>
      refine fun x => PowerKeeps.trans ?_ (ih _)
      unfold rebindOne
      split_ifs
      · exact ⟨rfl, rfl⟩
      · exact .refl _
  exact kept s.serve.streams (s, [])

theorem powerKeeps_adjForme (s : State) (fi : Nat) (g : Forme → Forme) : PowerKeeps s (adjForme s fi g) := ⟨rfl, rfl⟩

theorem powerKeeps_refixForme (s : State) (fi : Nat) : PowerKeeps s (refixForme s fi) := by
  have repriced : ∀ u : State, PowerKeeps u (repriceForme u fi) := by
    intro u
    unfold repriceForme
    split
    next f _ =>
      dsimp only
      refine PowerKeeps.trans (PowerKeeps.trans ?_ (powerKeeps_rebindForme _ fi f)) (powerKeeps_reportForme _ fi)
      exact ⟨rfl, rfl⟩
    · exact powerKeeps_reportForme u fi
  unfold refixForme
  exact (powerKeeps_adjForme ..).trans (repriced _)

theorem powerKeeps_setClock (s : State) (n f : Nat) : PowerKeeps s (setClock s n f) := ⟨rfl, rfl⟩

theorem powerKeeps_updateLimit (s : State) (n : Nat) : PowerKeeps s (updateLimit s n) := by
  unfold updateLimit refixChase
  dsimp only
  split_ifs
  · exact .refl s
  · exact ((powerKeeps_setF ..).trans (powerKeeps_setClock ..)).trans (PowerKeeps.foldl powerKeeps_refixForme _ _)
  · exact (powerKeeps_setF ..).trans (PowerKeeps.foldl powerKeeps_refixForme _ _)

theorem powerKeeps_railUp (s : State) (n : Nat) : PowerKeeps s (railUp s n) := by
  unfold railUp setRail
  exact (((powerKeeps_setF ..).trans (powerKeeps_setF ..)).trans (powerKeeps_updateLimit ..)).trans (powerKeeps_setClock ..)

/-- The chases of a wave of the exit that held something. -/
def exitChases (s : State) (w : Nat) : List Nat :=
  (List.range 256).filter (fun n => chaseWave n == w && rail s n == Rail.retention && chaseClaimed s n)

theorem retentionWave_gives {s : State} (exiting : getF s Reg.PWR_RETAIN_STAT_STATE 0 = 3) : Gives .retentionWave s fun t =>
    (s.power.wave < 15 → t.power.wave = s.power.wave + 1 ∧ t.mem = s.mem) ∧
    (15 ≤ s.power.wave → getF t Reg.PWR_RETAIN_STAT_STATE 0 = 0) := by
  let u := (exitChases s s.power.wave).foldl railUp s
  have kept : PowerKeeps s u := PowerKeeps.foldl powerKeeps_railUp _ s
  have run : exec .retentionWave s = .next (if s.power.wave < 15 then { u with power := { u.power with wave := s.power.wave + 1 } }
      else setF ((List.range 256).foldl wakeChase (reloadFormes (checkFars u))) Reg.PWR_RETAIN_STAT_STATE 0 0) := by
    show execRetentionWave s = _
    unfold execRetentionWave
    exact congrArg _ (if_neg (not_not.2 exiting))
  refine ⟨_, run, fun more => ?_, fun last => ?_⟩
  · rw [if_pos more]
    exact ⟨rfl, kept.mem⟩
  · rw [if_neg (Nat.not_lt.2 last)]
    exact getF_setF_same ..

theorem state_forceRetention (s : State) : getF (forceRetention s) Reg.PWR_RETAIN_STAT_STATE 0 = 4 := getF_setF_same ..

/-- Settles O55: a bank's bytes leave the store when it is gated and again when it opens, and every phase of retention ends
in the write of its state. -/
theorem banksLatchRetention : Obligations.BanksLatchRetention := by
  unfold Obligations.BanksLatchRetention
  exact ⟨fun n b s => ⟨fun idle shown on => ⟨exec_bankGate_early, exec_bankGate idle shown on⟩,
      fun c closing => ⟨exec_bankGated_early closing, bankGated_loses closing⟩, exec_bankOpen,
      fun c opening late => openBank_gives opening late⟩,
    currentLatch_gives,
    fun s up => ⟨retentionRequest_granted up, retentionRequest_refused up, retentionExit_host up⟩,
    fun e x s => retentionExit_queued, fun s => retentionWave_gives, state_forceRetention⟩

end Sys2Proof.Machine

end

section
/-! Sensor pairs and the trip; tray readings and sudden stops (R444 to R449, R454, R455, R522; O56). -/

namespace Sys2Proof.Machine

/-! ### Sensor pairs -/

theorem next_agree {p : Pair} (agree : p.st = .agree) (near : p.far < 20) (close : p.apart < 200) : p.next = .agree := by
  unfold Pair.next
  rw [agree]
  simp only
  rw [if_neg (Nat.not_le.2 near), if_neg (Nat.not_le.2 close)]

theorem moved_agree {p : Pair} (agree : p.st = .agree) (near : p.far < 20) (close : p.apart < 200) :
    p.moved.st = .agree ∧ p.moved.used = max p.a p.b ∧ p.moved.a = p.a ∧ p.moved.b = p.b := by
  unfold Pair.moved
  rw [next_agree agree near close, agree]
  exact ⟨rfl, rfl, rfl, rfl⟩

theorem runOf_of_not {q : Prop} [Decidable q] (h : ¬ q) (n : Nat) : runOf (decide q) n = 0 := by
  rw [decide_eq_false h]
  rfl

theorem moved_sampled {p : Pair} {a b : Int} (agree : p.st = .agree) (near : (a - b).natAbs ≤ 64) :
    (p.sampled a b).moved.st = .agree ∧ (p.sampled a b).moved.used = max a b ∧ (p.sampled a b).moved.a = a ∧
      (p.sampled a b).moved.b = b := by
  have far : (p.sampled a b).far = 0 := runOf_of_not (by omega) _
  have apart : (p.sampled a b).apart = 0 := runOf_of_not (by omega) _
  exact moved_agree agree (by omega) (by omega)

section
variable {p : Pair}

theorem moved_suspect (st : p.st = .agree ∨ p.st = .flagged ∨ p.st = .oneFailed) (far : 20 ≤ p.far) :
    p.moved.st = .suspect ∧ p.moved.used = p.used := by
  have next : p.next = .suspect := by
    unfold Pair.next
    rcases st with st | st | st <;> rw [st] <;> exact if_pos far
  unfold Pair.moved
  rw [next]
  rcases st with st | st | st <;> rw [st] <;> exact ⟨rfl, rfl⟩

theorem moved_flagged (st : p.st = .agree) (near : p.far < 20) (apart : 200 ≤ p.apart) :
    p.moved.st = .flagged ∧ p.moved.used = max p.a p.b := by
  have next : p.next = .flagged := by
    unfold Pair.next
    rw [st]
    simp only
    rw [if_neg (Nat.not_le.2 near), if_pos apart]
  unfold Pair.moved
  rw [next, st]
  exact ⟨rfl, rfl⟩

/-- The sensor with the lower reading has failed, so the higher one is used. -/
theorem moved_oneFailed (st : p.st = .flagged) (near : p.far < 20) (apart : 200000 ≤ p.apart) :
    p.moved.st = .oneFailed ∧ (p.failedA = false → p.failedB = false → p.moved.used = max p.a p.b) := by
  have next : p.next = .oneFailed := by
    unfold Pair.next
    rw [st]
    simp only
    rw [if_neg (Nat.not_le.2 near), if_pos apart]
  refine ⟨rfl.trans next, fun a b => ?_⟩
  unfold Pair.moved
  rw [next, st, a, b]
  by_cases lower : p.a < p.b
  · simp [lower, max_eq_right (Int.le_of_lt lower)]
  · simp [lower, max_eq_left (Int.not_lt.1 lower)]

theorem moved_used_oneFailed (st : p.st = .oneFailed) (near : p.far < 20) :
    p.moved.used = if p.failedA then p.b else p.a := by
  have next : p.next = .oneFailed := by
    unfold Pair.next
    rw [st]
    exact if_neg (Nat.not_le.2 near)
  unfold Pair.moved
  rw [next, st]
  rfl

theorem moved_bothFailed (st : p.st = .bothFailed) :
    p.moved.st = .bothFailed ∧ p.moved.failedA = true ∧ p.moved.failedB = true := by
  have next : p.next = .bothFailed := by
    unfold Pair.next
    rw [st]
  unfold Pair.moved
  rw [next, st]
  exact ⟨rfl, rfl, rfl⟩

end

theorem getPair_setPair (s : State) (i : Nat) (p : Pair) : getPair (setPair s i p) i = p := kgetD_kset_same ..

theorem pairLimit_of_agree {s : State} {i : Nat} (agree : (getPair s i).st = .agree) : pairLimit s i = 1400 := by
  unfold pairLimit
  unfold getPair kgetD at agree
  cases known : kget? s.pairs i with
  | none => rfl
  | some p =>
    rw [known] at agree
    obtain agree : p.st = .agree := agree
    rw [Option.any_some, agree]
    rfl

theorem tripPair_cool {s : State} {i : Nat} (cool : (getPair s i).used < 1680) :
    tripPair s i = setPair s i { getPair s i with hot := 0 } := by
  have cold : ¬ 1680 ≤ (getPair s i).used := Int.not_le.2 cool
  unfold tripPair
  dsimp only
  rw [runOf_of_not cold]
  exact if_neg (fun h => absurd h.1 (by decide))

theorem tripPair_hot {s : State} {i : Nat} (hot : 1680 ≤ (getPair s i).used) (before : 1 ≤ (getPair s i).hot) :
    let u := setPair s i { getPair s i with hot := min ((getPair s i).hot + 1) 2 }
    tripPair s i = if s.power.shut then u else thermalTrip u i (getPair s i).used := by
  intro u
  unfold tripPair runOf
  dsimp only
  rw [decide_eq_true hot, if_pos rfl]
  by_cases shut : s.power.shut = true
  · rw [if_pos shut, if_neg]
    rintro ⟨-, open_⟩
    exact absurd (show (!s.power.shut) = true from open_) (by rw [shut]; decide)
  · have open_ : s.power.shut = false := Bool.eq_false_iff.2 shut
    rw [if_neg shut, if_pos]
    exact ⟨by omega, by show (!s.power.shut) = true; rw [open_]; rfl⟩

section
variable {i : Nat} {a b : Int} {s : State}

theorem samplePair_agree (agree : (getPair s i).st = .agree) (near : (a - b).natAbs ≤ 64) :
    samplePair s ⟨i, a, b⟩ = setPair s i ((getPair s i).sampled a b).moved := by
  unfold samplePair pairRecord
  dsimp only
  exact if_pos (agree.trans (moved_sampled agree near).1.symm)

theorem estimatePair_agree (agree : (getPair s i).st = .agree) : estimatePair s i = s := by
  unfold estimatePair
  dsimp only
  rw [agree]

theorem exec_sensorSample_agree (chase : i < 256) (agree : (getPair s i).st = .agree) (near : (a - b).natAbs ≤ 64)
    (cool : max a b < 1680) : exec (.sensorSample [⟨i, a, b⟩]) s =
      .next (setPair (setPair s i ((getPair s i).sampled a b).moved) i { ((getPair s i).sampled a b).moved with hot := 0 }) := by
  obtain ⟨st, used, -⟩ := moved_sampled agree near
  obtain ⟨u, made⟩ : ∃ u, setPair s i ((getPair s i).sampled a b).moved = u := ⟨_, rfl⟩
  have shown : getPair u i = ((getPair s i).sampled a b).moved := by rw [← made, getPair_setPair]
  have agree' : (getPair u i).st = .agree := by rw [shown, st]
  have limit : pairLimit u i = pairLimit s i := (pairLimit_of_agree agree').trans (pairLimit_of_agree agree).symm
  have trip : tripPair u i = setPair u i { getPair u i with hot := 0 } := tripPair_cool (by rw [shown, used]; exact cool)
  have below : i < 306 := by omega
  have known : [(⟨i, a, b⟩ : PairReading)].filter (fun r => decide (r.pair < 306)) = [⟨i, a, b⟩] :=
    List.filter_eq_self.2 fun r mem => by
      obtain rfl := List.mem_singleton.1 mem
      exact decide_eq_true below
  have late : [i].filter (304 ≤ ·) = [] := List.filter_eq_nil_iff.2 fun r mem => by
    obtain rfl := List.mem_singleton.1 mem
    simpa using by omega
  have early : [i].filter (· < 304) = [i] := List.filter_eq_self.2 fun r mem => by
    obtain rfl := List.mem_singleton.1 mem
    simpa using by omega
  have same : [i].filter (fun j => decide (j < 256 ∧ pairLimit u j ≠ pairLimit s j)) = [] :=
    List.filter_eq_nil_iff.2 fun r mem => by
      obtain rfl := List.mem_singleton.1 mem
      simp [limit]
  show execSensorSample [⟨i, a, b⟩] s = _
  unfold execSensorSample
  rw [known]
  have other : ¬ [i].contains outletPair = true := by
    unfold outletPair
    simpa using by omega
  simp only [List.map_cons, List.map_nil, List.foldl_cons, List.foldl_nil, late, early, samplePair_agree agree near, made,
    estimatePair_agree agree', same, trip, shown, if_neg other]

theorem sensorSample_agree (chase : i < 256) (agree : (getPair s i).st = .agree) (near : (a - b).natAbs ≤ 64)
    (cool : max a b < 1680) : Gives (.sensorSample [⟨i, a, b⟩]) s fun t =>
      (getPair t i).st = .agree ∧ usedOf t i = max a b ∧ (getPair t i).a = a ∧ (getPair t i).b = b ∧
      t = { s with pairs := t.pairs } ∧ AgreeBut s.pairs t.pairs [i] := by
  obtain ⟨st, used, first, second⟩ := moved_sampled agree near
  refine ⟨_, exec_sensorSample_agree chase agree near cool, ?_, ?_, ?_, ?_, rfl, ?_⟩
  · exact (congrArg Pair.st (getPair_setPair ..)).trans st
  · exact (congrArg Pair.used (getPair_setPair ..)).trans used
  · exact (congrArg Pair.a (getPair_setPair ..)).trans first
  · exact (congrArg Pair.b (getPair_setPair ..)).trans second
  · exact agreeBut_kset (agreeBut_kset (agreeBut_refl _ _) _ (List.mem_singleton.2 rfl)) _ (List.mem_singleton.2 rfl)

end

/-! ### The tray -/

section
variable {s : State}

theorem exec_trayRead (x : TrayReading) (up : onF s Reg.MGT_BUS_STAT_TRAY_ISOLATED 0 = false) :
    exec (.trayRead x) s = .next (readTray s x) := by
  show execTrayRead x s = _
  unfold execTrayRead
  rw [up, if_neg Bool.false_ne_true]

theorem exec_trayRead_isolated (x : TrayReading) (isolated : onF s Reg.MGT_BUS_STAT_TRAY_ISOLATED 0 = true) :
    exec (.trayRead x) s = .next s := by
  show execTrayRead x s = _
  unfold execTrayRead
  rw [if_pos isolated]

theorem readTray_lost {x : TrayReading} (lacks : x.supply = none ∨ x.return_ = none ∨ x.flow = none) (s : State) :
    readTray s x = trayLost s := by
  obtain ⟨sup, ret, flow⟩ := x
  unfold readTray
  cases sup <;> cases ret <;> cases flow <;> simp at lacks <;> rfl

/-- The state when the flow is unknown, before it is recorded. -/
def flowUnknown (s : State) : State :=
  setF (setF (setF { s with thermal := { s.thermal with tray := none, lowFlow := 0, cross := 0, specRuns := 0 } } Reg.CLT_FLOW
    0xFFFF 0) Reg.CLT_STAT_IN_SPEC 0 0) Reg.CLT_STAT_SLOW_FLOW 0 0

theorem trayLost_eq (s : State) : trayLost s = if onF (flowUnknown s) Reg.CLT_STAT_TRAY_LOST 0 then flowUnknown s
    else logFault (setF (flowUnknown s) Reg.CLT_STAT_TRAY_LOST 1 0) (blockItem Err.CLT_TRAY_LOST cltIdent []) := rfl

/-- The fields, by their first instances, that the loss of the tray writes besides a record. -/
def trayKeys : List Nat :=
  [Reg.CLT_FLOW, Reg.CLT_STAT_IN_SPEC, Reg.CLT_STAT_SLOW_FLOW, Reg.CLT_STAT_TRAY_LOST].map (fun f => f.key 0 0)

theorem fieldsBut_flowUnknown (s : State) : FieldsBut trayKeys s (flowUnknown s) := by
  have off : FieldsBut trayKeys s
      { s with thermal := { s.thermal with tray := none, lowFlow := 0, cross := 0, specRuns := 0 } } := .of_regs rfl
  unfold flowUnknown
  exact ((off.trans (fieldsBut_setF _ _ (by decide) (by decide))).trans (fieldsBut_setF _ _ (by decide) (by decide))).trans
    (fieldsBut_setF _ _ (by decide) (by decide))

theorem flow_flowUnknown (s : State) : getF (flowUnknown s) Reg.CLT_FLOW 0 = 0xFFFF ∧
    onF (flowUnknown s) Reg.CLT_STAT_IN_SPEC 0 = false := by
  unfold flowUnknown
  refine ⟨?_, ?_⟩
  · refine (getF_setF_other _ _ _ (by decide)).trans ((getF_setF_other _ _ _ (by decide)).trans ?_)
    exact getF_setF_same ..
  · rw [onF_congr (getF_setF_other _ _ _ (by decide)), onF_setF_same]
    rfl

theorem flowUnknown_keeps (s : State) : (flowUnknown s).thermal.tray = none ∧ (flowUnknown s).serve = s.serve := ⟨rfl, rfl⟩

theorem thermal_of_offLog {s t : State} (same : offLog t = offLog s) : t.thermal = s.thermal := by
  have thermal : (offLog t).thermal = (offLog s).thermal := by rw [same]
  exact thermal

theorem cltItem_page (code : Nat) (xs : List Nat) : ∀ b, (blockItem code cltIdent xs).block = some b → pageOfIdent b < 4096 :=
  blockItem_page code xs (by decide) (by decide)

/-- What the loss of the tray leaves, and the other fields stand but for the record's. -/
theorem trayLost_gives (s : State) : (getF (trayLost s) Reg.CLT_FLOW 0 = 0xFFFF ∧ onF (trayLost s) Reg.CLT_STAT_IN_SPEC 0 = false ∧
    onF (trayLost s) Reg.CLT_STAT_TRAY_LOST 0 = true ∧ (trayLost s).thermal.tray = none ∧ (trayLost s).serve = s.serve) ∧
    FieldsBut (trayKeys ++ faultKeys) s (trayLost s) := by
  obtain ⟨flow, spec⟩ := flow_flowUnknown s
  obtain ⟨tray, serve⟩ := flowUnknown_keeps s
  have first : FieldsBut (trayKeys ++ faultKeys) s (flowUnknown s) := (fieldsBut_flowUnknown s).mono (List.subset_append_left ..)
  rw [trayLost_eq]
  split_ifs with lost
  · exact ⟨⟨flow, spec, lost, tray, serve⟩, first⟩
  · have logged := fieldsBut_logFault (setF (flowUnknown s) Reg.CLT_STAT_TRAY_LOST 1 0) (cltItem_page Err.CLT_TRAY_LOST [])
    have rest := offLog_logFault (setF (flowUnknown s) Reg.CLT_STAT_TRAY_LOST 1 0) (blockItem Err.CLT_TRAY_LOST cltIdent [])
    have noted : FieldsBut (trayKeys ++ faultKeys) (flowUnknown s) (setF (flowUnknown s) Reg.CLT_STAT_TRAY_LOST 1 0) :=
      fieldsBut_setF _ _ (by decide) (List.mem_append_left _ (by decide))
    refine ⟨⟨?_, ?_, ?_, ?_, ?_⟩, first.trans (noted.trans (logged.mono (List.subset_append_right ..)))⟩
    · rw [logged.same _ 0 0 (by decide) (by decide +kernel), getF_setF_other _ _ _ (by decide), flow]
    · rw [onF_congr (logged.same _ 0 0 (by decide) (by decide +kernel)), onF_congr (getF_setF_other _ _ _ (by decide)), spec]
    · rw [onF_congr (logged.same _ 0 0 (by decide) (by decide +kernel)), onF_setF_same]
      rfl
    · rw [thermal_of_offLog rest]
      exact tray
    · rw [(stks_of_offLog rest).2.1]
      exact serve

theorem trayRead_lost {x : TrayReading} (up : onF s Reg.MGT_BUS_STAT_TRAY_ISOLATED 0 = false)
    (lacks : x.supply = none ∨ x.return_ = none ∨ x.flow = none) :
    Gives (.trayRead x) s fun t => getF t Reg.CLT_FLOW 0 = 0xFFFF ∧ onF t Reg.CLT_STAT_IN_SPEC 0 = false ∧
      onF t Reg.CLT_STAT_TRAY_LOST 0 = true ∧ t.thermal.tray = none ∧ t.serve = s.serve := by
  refine ⟨_, exec_trayRead x up, ?_⟩
  rw [readTray_lost lacks]
  exact (trayLost_gives s).1

theorem mgtTrayShort_gives (n : Nat) (up : onF s Reg.MGT_BUS_STAT_TRAY_ISOLATED 0 = false) : Gives (.mgtTrayShort n) s fun t =>
    onF t Reg.MGT_BUS_STAT_TRAY_ISOLATED 0 = true ∧ getF t Reg.CLT_FLOW 0 = 0xFFFF ∧ t.thermal.tray = none := by
  let u := logFault (setF s Reg.MGT_BUS_STAT_TRAY_ISOLATED 1 0) (blockItem Err.MGT_TRAY_SHORT (identOf 0x12 0) [n])
  have run : exec (.mgtTrayShort n) s = .next (trayLost u) := by
    show execMgtTrayShort n s = _
    unfold execMgtTrayShort
    rw [up, if_neg Bool.false_ne_true]
  obtain ⟨⟨flow, -, -, tray, -⟩, fields⟩ := trayLost_gives u
  have logged := fieldsBut_logFault (setF s Reg.MGT_BUS_STAT_TRAY_ISOLATED 1 0)
    (blockItem_page Err.MGT_TRAY_SHORT [n] (ty := 0x12) (inst := 0) (by decide) (by decide))
  refine ⟨_, run, ?_, flow, tray⟩
  rw [onF_congr (fields.same _ 0 0 (by decide) (by decide +kernel)), onF_congr (logged.same _ 0 0 (by decide) (by decide +kernel)),
    onF_setF_same]
  rfl

theorem exec_trayProbe (isolated : onF s Reg.MGT_BUS_STAT_TRAY_ISOLATED 0 = true) (x : TrayReading) :
    exec (.trayProbe true x) s = .next s ∧
    exec (.trayProbe false x) s = .next (readTray (setF s Reg.MGT_BUS_STAT_TRAY_ISOLATED 0 0) x) := by
  refine ⟨?_, ?_⟩
  · show execTrayProbe true x s = _
    unfold execTrayProbe
    rw [Bool.or_true, if_pos rfl]
  · show execTrayProbe false x s = _
    unfold execTrayProbe
    rw [isolated, if_neg (by decide)]

/-! ### Sudden stops -/

theorem exec_stopTimeout_early (early : s.lampTime < s.thermal.stoppedAt + 2000000000) : exec .stopTimeout s = .next s := by
  show execStopTimeout s = _
  unfold execStopTimeout
  rw [if_neg (Nat.not_le.2 early)]

/-- What the shutdown sequence leaves: the rails are down and nothing is held. -/
structure ShutDown (t : State) : Prop where
  shut : t.power.shut = true
  down : t.pins.surpriseDown = true
  cores : t.cores = []
  formes : t.formes = []

theorem shutDown_setF {s : State} (h : ShutDown s) (f : Fld) (v i k : Nat) : ShutDown (setF s f v i k) :=
  ⟨h.shut, h.down, h.cores, h.formes⟩





theorem shutDown_pulled {s : State} (h : ShutDown s) (low : Bool) (f : Fld) (v i : Nat) :
    ShutDown (if low then s else setF s f v i) := by
  split_ifs
  · exact h
  · exact shutDown_setF h ..

theorem shutDown_shutdownSeq (s : State) (cause : Nat) : ShutDown (shutdownSeq s cause) := by
  unfold shutdownSeq addF
  exact shutDown_setF (shutDown_setF (shutDown_pulled ⟨rfl, rfl, rfl, rfl⟩ _ _ _ _) ..) ..

theorem stopTimeout_shuts (stopped : onF s Reg.CLT_STAT_STOPPED 0 = true) (open_ : s.power.shut = false)
    (late : s.thermal.stoppedAt + 2000000000 ≤ s.lampTime) : Gives .stopTimeout s fun t =>
      t.power.shut = true ∧ t.pins.surpriseDown = true ∧ t.cores = [] ∧ t.formes = [] := by
  have run : exec .stopTimeout s = .next (shutdownSeq (nextFree s).2 ((nextFree s).1 % 8)) := by
    show execStopTimeout s = _
    unfold execStopTimeout stopShutdown
    rw [if_pos late, if_pos ⟨stopped, by rw [open_]; rfl⟩]
  obtain ⟨shut, down, cores, formes⟩ := shutDown_shutdownSeq (nextFree s).2 ((nextFree s).1 % 8)
  exact ⟨_, run, shut, down, cores, formes⟩

theorem suddenStop_eq (cause v : Nat) (running : onF s Reg.CLT_STAT_STOPPED 0 = false) (open_ : s.power.shut = false) :
    suddenStop s cause v = fatalModule (addF (addF (setF { s with thermal := { s.thermal with stoppedAt := s.lampTime } }
      Reg.CLT_STAT_STOPPED 1 0) Reg.CLT_STOPS 1 0) Reg.LAMP_NV_WRITES 1 0) (blockItem Err.CLT_STOP cltIdent [cause, v]) 1 := by
  unfold suddenStop
  rw [running, open_]
  exact if_neg (by decide)

end

theorem flowSteps_falls {f g : Nat} (h : f ≤ g) : flowSteps g ≤ flowSteps f := by
  unfold flowSteps
  split_ifs <;> omega

theorem flowSteps_zero {f : Nat} (h : 5400 ≤ f) : flowSteps f = 0 := if_neg (Nat.not_lt.2 h)

theorem flowSteps_pos {f : Nat} (h : f < 5400) : 1 ≤ flowSteps f := by
  unfold flowSteps
  rw [if_pos h]
  omega

/-- Settles O56: a pair that agrees is moved, neither estimated nor limited nor tripped, and a lost tray writes its fields
before its record. -/
theorem sensorsAndTray : Obligations.SensorsAndTray := by
  unfold Obligations.SensorsAndTray
  exact ⟨⟨fun rs s => ⟨_, rfl⟩, fun i a b s => sensorSample_agree,
      fun p => ⟨moved_suspect, moved_flagged, moved_oneFailed, moved_used_oneFailed, moved_bothFailed⟩,
      fun i s => tripPair_hot⟩,
    fun sup ret flow s up => exec_trayRead _ up, fun x s => trayRead_lost, fun x s => exec_trayRead_isolated x,
    fun n s => mgtTrayShort_gives n, fun x s isolated => exec_trayProbe isolated x,
    fun s stopped open_ => ⟨exec_stopTimeout_early, stopTimeout_shuts stopped open_⟩, fun cause v s => suddenStop_eq cause v,
    fun f => ⟨flowSteps_zero, flowSteps_pos, fun g => flowSteps_falls⟩⟩

end Sys2Proof.Machine

end

section
/-! The clock ceiling (R451): streams that stand out of order when their forme is timed again (O57). -/

namespace Sys2Proof.Machine

/-- A stream in PREFILL under mooring 1. -/
def mooredStream : Stream := { oneTokenStream with state := 1, cmd := [0, 0, 0, 0, 1] ++ List.replicate 59 0 }

/-- The module's clock ceiling is 1,000 MHz, forme 0 runs on chase 0, and its two streams stand out of order. -/
def streamsOutOfOrder : State :=
  { setF State.reset Reg.THM_F_MOD 1000 0 with
    formes := [(0, { bareForme with parts := [partOnZero] })]
    serve := { State.reset.serve with streams := [(5, mooredStream), (3, mooredStream)] } }

/-- How many stream entries the next state has, where there is one. -/
def streamsAfter : Host.Outcome State Fault Refusal → Option Nat
  | .next t => some t.serve.streams.length
  | _ => none

theorem streamsAfter_fModStep : streamsAfter (exec (.fModStep 40000) streamsOutOfOrder) = some 3 := by decide +kernel

/-- Refutes O57: a step of the clock ceiling need not keep the number of stream entries. It has the formes timed again and
their streams bound again, which writes each entry by its number; where the entries do not stand in rising order, which no
clause says, the write puts in a further one. -/
theorem not_thermalControl : ¬ Obligations.ThermalControl := by
  intro h
  obtain ⟨-, ceiling, -⟩ := h
  obtain ⟨t, run, -, -, -, -, -, -, same⟩ := ceiling 40000 streamsOutOfOrder (by decide +kernel) (by decide +kernel)
  have after := streamsAfter_fModStep
  rw [run] at after
  exact absurd (same.symm.trans (Option.some.inj after)) (by decide)

end Sys2Proof.Machine

end

section
/-! Kindling (R483): a chase that kindles while a forme whose number is no forme's runs there (O58). -/

namespace Sys2Proof.Machine

theorem width_wideForme : 0 < widthOf wideForme 0 := by decide +kernel

theorem railOn_kindleChase_wideForme : railOn (kindleChase wideForme 0) 0 = false := by decide +kernel

/-- Refutes O58: the rail of a chase that kindles need not stand ON. Its new clock limit has the formes that run on the
chase timed and reported again; no clause bounds a forme's number, and the report of one far enough out of range falls on
the state of the rail. -/
theorem not_resetsAndBlockReset : ¬ Obligations.ResetsAndBlockReset := by
  intro h
  obtain ⟨-, -, -, -, -, -, -, -, -, kindled, -⟩ := h
  obtain ⟨-, on, -⟩ := kindled 0 wideForme width_wideForme
  exact absurd (railOn_kindleChase_wideForme.symm.trans on) (by decide)

end Sys2Proof.Machine

end

section
/-! The release order, PLLs and the clock monitor (R464 to R467, R469, R472 to R476, R487; O59). -/

namespace Sys2Proof.Machine

/-! ### Beacons -/

theorem release_of_offPage {s t : State} (same : offPage t = offPage s) : t.release = s.release ∧ t.mem = s.mem ∧ t.serve = s.serve := by
  have release : (offPage t).release = (offPage s).release := by rw [same]
  have mem : (offPage t).mem = (offPage s).mem := by rw [same]
  have serve : (offPage t).serve = (offPage s).serve := by rw [same]
  exact ⟨release, mem, serve⟩

theorem release_of_offLog {s t : State} (same : offLog t = offLog s) : t.release = s.release ∧ t.tele = s.tele := by
  have release : (offLog t).release = (offLog s).release := by rw [same]
  have tele : (offLog t).tele = (offLog s).tele := by rw [same]
  exact ⟨release, tele⟩

section
variable (s : State) {p : Nat} {st : Nat}

theorem beacon_setBeacon (code : st < 8) : getF (setBeacon s p st) Reg.PAGE_BEACON_STATE p = st := by
  unfold setBeacon
  split_ifs with already
  · exact already
  · rw [getF_congr (regs_refreshIrq ..)]
    unfold pageEvent
    rw [getF_setF_other _ _ _ (by decide), getF_setF_other _ _ _ (by decide), getF_setF_other _ _ _ (by decide),
      getF_setF_same]
    exact Nat.mod_eq_of_lt code

theorem beacon_setBeacon_ne {q : Nat} (page : p < 131072) (index : q < 131072) (other : q ≠ p) :
    getF (setBeacon s p st) Reg.PAGE_BEACON_STATE q = getF s Reg.PAGE_BEACON_STATE q := by
  have apart : ∀ (u : State) (f : Fld) (v : Nat), getF (setF u f v p) Reg.PAGE_BEACON_STATE q = getF u Reg.PAGE_BEACON_STATE q := by
    refine fun u f v => getF_setF_ne _ _ fun h => other ?_
    rw [Fld.key_inst _ q, Fld.key_inst _ p] at h
    unfold Fld.key at h
    omega
  unfold setBeacon
  split_ifs
  · rfl
  · rw [getF_congr (regs_refreshIrq ..)]
    unfold pageEvent
    rw [apart, apart, apart, apart]

end

theorem chaseBeacon_setChaseBeacon (s : State) {n st : Nat} (chase : n < 256) (code : st < 8) :
    chaseBeacon (setChaseBeacon s n st) n = st := by
  unfold chaseBeacon beaconOf setChaseBeacon
  rw [if_neg (by omega), if_neg (by omega), if_neg (by omega),
    beacon_setBeacon_ne _ (by omega) (by omega) (by omega), beacon_setBeacon _ code]

theorem beaconOf_setBeacon (s : State) {p st : Nat} (plain : p < 512 ∨ 768 ≤ p ∧ p < 1024) (code : st < 8) :
    beaconOf (setBeacon s p st) p = st := by
  unfold beaconOf
  rw [if_neg (by omega), if_neg (by omega), if_neg (by omega), beacon_setBeacon _ code]

/-! ### Steps of the release -/

/-- A step's work keeps the step reached, the instances released, the serving state and the store. -/
structure StepKeeps (s t : State) : Prop where
  step : getF t Reg.RST_STAGE_STEP 0 = getF s Reg.RST_STAGE_STEP 0
  released : t.release.released = s.release.released
  serve : t.serve = s.serve
  store : t.mem.store = s.mem.store

theorem StepKeeps.refl (s : State) : StepKeeps s s := ⟨rfl, rfl, rfl, rfl⟩

theorem StepKeeps.trans {s t u : State} (h : StepKeeps s t) (k : StepKeeps t u) : StepKeeps s u :=
  ⟨k.step.trans h.step, k.released.trans h.released, k.serve.trans h.serve, k.store.trans h.store⟩

theorem StepKeeps.foldl {α : Type} {f : State → α → State} {l : List α} (h : ∀ s, ∀ a ∈ l, StepKeeps s (f s a)) (s : State) :
    StepKeeps s (l.foldl f s) := by
  induction l generalizing s with
  | nil => exact .refl s
  | cons a l ih => exact (h s a List.mem_cons_self).trans (ih (fun s b mem => h s b (List.mem_cons_of_mem _ mem)) _)

theorem StepKeeps.of_offPage {ks : List Nat} {s t : State} (fields : FieldsBut ks s t) (apart : Reg.RST_STAGE_STEP.key 0 0 ∉ ks)
    (rest : offPage t = offPage s) : StepKeeps s t := by
  obtain ⟨release, mem, serve⟩ := release_of_offPage rest
  exact ⟨fields.same _ 0 0 (by decide) apart, congrArg Release.released release, serve, congrArg Mem.store mem⟩

theorem stepKeeps_setF (s : State) {f : Fld} (v : Nat) {i k : Nat} (small : i < 131072)
    (apart : Reg.RST_STAGE_STEP.key 0 0 ≠ f.key 0 k) : StepKeeps s (setF s f v i k) :=
  ⟨getF_setF_apart s v apart small (by decide), rfl, rfl, rfl⟩

theorem stepKeeps_setBeacon (s : State) {p : Nat} (st : Nat) (page : p < 131072) : StepKeeps s (setBeacon s p st) :=
  .of_offPage (fieldsBut_setBeacon s st page) (by decide) (offPage_setBeacon ..)

theorem stepKeeps_setPhase (s : State) {k : Nat} (index : k < 16) (ph : Nat) : StepKeeps s (setPhase s k ph) :=
  .of_offPage (fieldsBut_setPhase s index ph) (by decide) (offPage_setPhase ..)

theorem stepKeeps_setStkState (s : State) {n : Nat} (low : n < 32) (st : Nat) : StepKeeps s (setStkState s n st) :=
  .of_offPage (fieldsBut_setStkState s low st) (by decide) (offPage_setStkState ..)

theorem stepKeeps_logFault (s : State) {it : FaultItem} (page : ∀ b, it.block = some b → pageOfIdent b < 4096) :
    StepKeeps s (logFault s it) := by
  have rest := offLog_logFault s it
  obtain ⟨-, serve, -, store⟩ := stks_of_offLog rest
  exact ⟨(fieldsBut_logFault s page).same _ 0 0 (by decide) (by decide +kernel),
    congrArg Release.released (release_of_offLog rest).1, serve, store⟩

theorem rstItem_page (code : Nat) (xs : List Nat) : ∀ b, (blockItem code (identOf 0x03 0) xs).block = some b → pageOfIdent b < 4096 :=
  blockItem_page code xs (by decide) (by decide)

/-- The lamp domain's pages lit and its buses in service. -/
def lampLit (s : State) : State :=
  setF (setF (lampPages.foldl (fun s p => setBeacon s p Beacon.lit) s) Reg.MGT_BUS_STAT_I3C_OK 1 0) Reg.MGT_BUS_STAT_SMB_OK 1 0

/-- MOD_FAULT_N released. -/
def faultReleased (s : State) : State := { s with pins := { s.pins with modFaultN := true } }

/-- No cause of a reset waits for its record. -/
def causesTaken (s : State) : State := { s with release := { s.release with causes := [] } }

theorem releaseBlock_lamp (s : State) (i : Nat) : releaseBlock s 1 i =
    (faultReleased (lampLit s)).release.causes.foldl (fun s c => causeRecord s c []) (causesTaken (faultReleased (lampLit s))) := by
  unfold releaseBlock causesTaken faultReleased lampLit
  rfl

theorem stepKeeps_faultReleased (s : State) : StepKeeps s (faultReleased s) := ⟨getF_congr rfl .., rfl, rfl, rfl⟩

theorem stepKeeps_causesTaken (s : State) : StepKeeps s (causesTaken s) := ⟨getF_congr rfl .., rfl, rfl, rfl⟩

theorem stepKeeps_pages (s : State) (st : Nat) {l : List Nat} (low : ∀ p ∈ l, p < 131072) :
    StepKeeps s (l.foldl (fun s p => setBeacon s p st) s) :=
  StepKeeps.foldl (fun s p mem => stepKeeps_setBeacon s st (low p mem)) s

theorem stepKeeps_lampLit (s : State) : StepKeeps s (lampLit s) :=
  ((stepKeeps_pages s _ (by decide)).trans (stepKeeps_setF _ _ (by decide) (by decide))).trans
    (stepKeeps_setF _ _ (by decide) (by decide))

theorem stepKeeps_releaseBlock (s : State) {k i : Nat} (size : i < stepSize k) : StepKeeps s (releaseBlock s k i) := by
  by_cases lamp : k = 1
  · rw [lamp, releaseBlock_lamp]
    refine (((stepKeeps_lampLit s).trans (stepKeeps_faultReleased _)).trans (stepKeeps_causesTaken _)).trans ?_
    exact StepKeeps.foldl (fun s c _ => stepKeeps_logFault s (rstItem_page _ _)) _
  unfold releaseBlock
  split
  · exact absurd rfl lamp
  · exact (((stepKeeps_setF _ _ (by decide) (by decide)).trans (stepKeeps_setF _ _ (by decide) (by decide))).trans
      (stepKeeps_setF _ _ (by decide) (by decide))).trans (stepKeeps_setF _ _ (by decide) (by decide))
  · exact stepKeeps_setBeacon s _ (by decide)
  · refine (stepKeeps_pages s Beacon.lit (l := keeperPages) (by decide)).trans ?_
    have apart : ∀ g ∈ [0, 1, 2, 3], Reg.RST_STAGE_STEP.key 0 0 ≠ Reg.KPR_STATE.key 0 g := by decide
    exact StepKeeps.foldl (fun s g mem => stepKeeps_setF s 1 (by decide) (apart g mem)) _
  · exact stepKeeps_setBeacon s _ (by decide)
  · exact stepKeeps_setStkState s size _
  · exact stepKeeps_setPhase s size _
  · exact .refl s

theorem mem_addOnce_self {α : Type} [DecidableEq α] (l : List α) (x : α) : x ∈ addOnce l x := (mem_addOnce ..).2 (.inr rfl)

theorem stepReady_size {s : State} {k i : Nat} (ready : stepReady s k i = true) : 1 ≤ k ∧ i < stepSize k := by
  unfold stepReady at ready
  simp only [Bool.and_eq_true, decide_eq_true_eq] at ready
  tauto

theorem stepPlls_small {k i : Nat} (size : i < stepSize k) : ∀ x ∈ stepPlls k i, pllNo x.1 x.2 < 131072 := by
  have few : i < 256 := by
    unfold stepSize at size
    split_ifs at size <;> omega
  intro x mem
  unfold stepPlls at mem
  unfold pllNo
  split at mem <;> simp at mem
  · subst mem; decide
  · subst mem; simp only; omega
  · subst mem; simp only; omega
  · subst mem; simp only; omega
  · rcases mem with rfl | rfl <;> simp only <;> omega

/-- One of a step's instances entered as released. -/
def instanceReleased (s : State) (k i : Nat) : State :=
  { s with release := { s.release with
    released := addOnce s.release.released (k, i)
    stepAt := if s.release.released.all (fun x => x.1 != k) then (k, s.lampTime) :: s.release.stepAt.filter (fun x => x.1 != k)
      else s.release.stepAt } }

/-- One of a step's instances released, its clocks let through and its block started. -/
def blockReleased (s : State) (k i : Nat) : State :=
  releaseBlock ((stepPlls k i).foldl (fun s x => setF s Reg.CLK_PLL_STAT_GATED 0 (pllNo x.1 x.2)) (instanceReleased s k i)) k i

theorem exec_releaseStep {k : Fin 11} {i : Nat} {s : State} (ready : stepReady s k i = true) : exec (.releaseStep k i) s =
    .next (if s.release.released.all (fun x => x.1 != k.val)
      then setF (setF (blockReleased s k i) Reg.RST_STAGE_STEP (max k.val (getF (blockReleased s k i) Reg.RST_STAGE_STEP 0)) 0)
        Reg.RST_STEP_TIME (((blockReleased s k i).lampTime - (blockReleased s k i).release.poweredAt) / 1000) 0 (k.val - 1)
      else setF (blockReleased s k i) Reg.RST_STAGE_STEP (max k.val (getF (blockReleased s k i) Reg.RST_STAGE_STEP 0)) 0) := by
  show execReleaseStep k i s = _
  unfold execReleaseStep blockReleased instanceReleased
  rw [ready]
  exact congrArg _ (if_neg (by decide))

theorem exec_releaseStep_waits {k : Fin 11} {i : Nat} {s : State} (waits : stepReady s k i = false) :
    exec (.releaseStep k i) s = .next s := by
  show execReleaseStep k i s = _
  unfold execReleaseStep
  rw [waits]
  rfl

theorem instanceReleased_keeps (s : State) (k i : Nat) : getF (instanceReleased s k i) Reg.RST_STAGE_STEP 0 =
    getF s Reg.RST_STAGE_STEP 0 ∧ (k, i) ∈ (instanceReleased s k i).release.released ∧
    (instanceReleased s k i).serve = s.serve ∧ (instanceReleased s k i).mem.store = s.mem.store :=
  ⟨getF_congr rfl .., mem_addOnce_self .., rfl, rfl⟩

theorem stepKeeps_blockReleased (s : State) {k i : Nat} (size : i < stepSize k) :
    StepKeeps (instanceReleased s k i) (blockReleased s k i) := by
  unfold blockReleased
  refine StepKeeps.trans ?_ (stepKeeps_releaseBlock _ size)
  exact StepKeeps.foldl (fun s x mem => stepKeeps_setF s 0 (stepPlls_small size x mem) (by decide)) _

theorem releaseStep_gives {k : Fin 11} {i : Nat} {s : State} (ready : stepReady s k i = true) :
    Gives (.releaseStep k i) s fun t => (k.val, i) ∈ t.release.released ∧
      getF t Reg.RST_STAGE_STEP 0 = max k.val (getF s Reg.RST_STAGE_STEP 0) % 16 ∧ t.serve = s.serve ∧ t.mem.store = s.mem.store := by
  obtain ⟨first, size⟩ := stepReady_size ready
  obtain ⟨step, known, serve, store⟩ := instanceReleased_keeps s k i
  have kept := stepKeeps_blockReleased s size
  have released : (k.val, i) ∈ (blockReleased s k i).release.released := by rw [kept.released]; exact known
  have reached : getF (setF (blockReleased s k i) Reg.RST_STAGE_STEP (max k.val (getF (blockReleased s k i) Reg.RST_STAGE_STEP 0)) 0)
      Reg.RST_STAGE_STEP 0 = max k.val (getF s Reg.RST_STAGE_STEP 0) % 16 := by
    rw [getF_setF_same, kept.step, step]
    rfl
  have apart : ∀ j < 11, Reg.RST_STAGE_STEP.key 0 0 ≠ Reg.RST_STEP_TIME.key 0 (j - 1) := by decide
  refine ⟨_, exec_releaseStep ready, ?_⟩
  split_ifs
  · exact ⟨released, (getF_setF_other _ _ _ (apart k.val k.isLt)).trans reached, kept.serve.trans serve, kept.store.trans store⟩
  · exact ⟨released, reached, kept.serve.trans serve, kept.store.trans store⟩

/-! ### PLLs -/

section
variable {d i : Nat} {s : State}

/-- A PLL that has counted. -/
def pllCounted (s : State) (d i : Nat) : State :=
  setF (setF (setF { s with release := { s.release with counted := addOnce s.release.counted (d, i) } } Reg.CLK_PLL_STAT_LOCKED 1
    (pllNo d i)) Reg.CLK_PLL_STAT_COUNTED 1 (pllNo d i)) Reg.CLK_PLL_STAT_FREQ (pllMhz s d i) (pllNo d i)

theorem exec_pllCountDone (known : i < pllCount d) (up : s.power.shut = false) : exec (.pllCountDone d i) s =
    .next (if d = 1 then setF (pllCounted s d i) Reg.CLK_REF_STAT_REFCLK_OK
      (getF (pllCounted s d i) Reg.CLK_REF_STAT_REFCLK_OK 0 ||| 2 ^ i) 0 else pllCounted s d i) := by
  show execPllCountDone d i s = _
  unfold execPllCountDone
  rw [up, decide_eq_false (Nat.not_le.2 known)]
  exact congrArg _ (if_neg (by decide))

theorem pllCounted_fields (s : State) (d i : Nat) : (d, i) ∈ (pllCounted s d i).release.counted ∧
    onF (pllCounted s d i) Reg.CLK_PLL_STAT_LOCKED (pllNo d i) = true ∧
    onF (pllCounted s d i) Reg.CLK_PLL_STAT_COUNTED (pllNo d i) = true ∧
    (d = 5 → getF (pllCounted s d i) Reg.CLK_PLL_STAT_FREQ (pllNo d i) = 600) ∧ (pllCounted s d i).serve = s.serve := by
  unfold pllCounted
  refine ⟨mem_addOnce_self .., ?_, ?_, fun chase => ?_, rfl⟩
  · rw [onF_congr ((getF_setF_other _ _ _ (by decide)).trans (getF_setF_other _ _ _ (by decide))), onF_setF_same]
    rfl
  · rw [onF_congr (getF_setF_other _ _ _ (by decide)), onF_setF_same]
    rfl
  · rw [getF_setF_same, chase]
    rfl

theorem pllNo_small (known : i < pllCount d) : pllNo d i < 131072 := by
  have domains : d < 6 := by
    by_contra more
    have none : pllCount d = 0 := by
      unfold pllCount
      exact List.getD_eq_default _ _ (by simpa using more)
    omega
  have few : ∀ j < 6, pllCount j ≤ 256 := by decide
  have := few d domains
  unfold pllNo
  omega

theorem pllCountDone_gives (known : i < pllCount d) (up : s.power.shut = false) :
    Gives (.pllCountDone d i) s fun t => (d, i) ∈ t.release.counted ∧ onF t Reg.CLK_PLL_STAT_LOCKED (pllNo d i) = true ∧
      onF t Reg.CLK_PLL_STAT_COUNTED (pllNo d i) = true ∧ (d = 5 → getF t Reg.CLK_PLL_STAT_FREQ (pllNo d i) = 600) ∧
      t.serve = s.serve := by
  obtain ⟨counted, locked, done, freq, serve⟩ := pllCounted_fields s d i
  have small := pllNo_small known
  refine ⟨_, exec_pllCountDone known up, ?_⟩
  split_ifs
  · have kept : ∀ f : Fld, f.key 0 0 ≠ Reg.CLK_REF_STAT_REFCLK_OK.key 0 0 → getF (setF (pllCounted s d i)
        Reg.CLK_REF_STAT_REFCLK_OK (getF (pllCounted s d i) Reg.CLK_REF_STAT_REFCLK_OK 0 ||| 2 ^ i) 0) f (pllNo d i) =
        getF (pllCounted s d i) f (pllNo d i) := fun f apart => getF_setF_apart _ _ apart (by decide) small
    refine ⟨counted, ?_, ?_, fun chase => ?_, serve⟩
    · rw [onF_congr (kept _ (by decide)), locked]
    · rw [onF_congr (kept _ (by decide)), done]
    · rw [kept _ (by decide), freq chase]
  · exact ⟨counted, locked, done, freq, serve⟩

/-- What the loss of a PLL's lock at its start does to its block. -/
def lockFault (s : State) (d i : Nat) : State :=
  match d with
  | 0 => keeperPages.foldl (fun s p => setBeacon s p Beacon.fault) s
  | 2 => setBeacon s (784 + i) Beacon.fault
  | 3 => setBeacon s (768 + i) Beacon.fault
  | 4 => setBeacon s (768 + i) Beacon.fault
  | 5 => setChaseBeacon (modChase (setF s Reg.FAB_DETOUR (getF s Reg.FAB_DETOUR 0 (i / 32) ||| 2 ^ (i % 32)) 0 (i / 32)) i
      (fun ch => { ch with pllOk := false })) i Beacon.fault
  | _ => s

theorem exec_rstPllNoLock (known : i < pllCount d) (up : s.power.shut = false) (fresh : (d, i) ∉ s.release.counted)
    (sound : (d, i) ∉ s.release.pllFailed) (late : stepPast s (if d = 0 then 4 else 5) 10000000 = true) :
    exec (.rstPllNoLock d i) s = .next (lockFault (logFault { s with release := { s.release with
      pllFailed := addOnce s.release.pllFailed (d, i) } } (blockItem Err.RST_PLL_NO_LOCK (identOf 0x03 0) [d, i])) d i) := by
  have counted : s.release.counted.contains (d, i) = false := by simpa using fresh
  have failed : s.release.pllFailed.contains (d, i) = false := by simpa using sound
  show execRstPllNoLock d i s = _
  unfold execRstPllNoLock
  rw [decide_eq_false (Nat.not_le.2 known), counted, failed, up, late]
  refine congrArg _ ((if_neg (by decide)).trans ?_)
  unfold lockFault
  rfl

theorem release_setBeacons (l : List Nat) (st : Nat) (s : State) :
    (l.foldl (fun s p => setBeacon s p st) s).release = s.release := by
  induction l generalizing s with
  | nil => rfl
  | cons p l ih => exact (ih _).trans (release_of_offPage (offPage_setBeacon ..)).1

theorem release_lockFault (s : State) (d i : Nat) : (lockFault s d i).release = s.release := by
  unfold lockFault
  split
  · exact release_setBeacons ..
  · exact (release_of_offPage (offPage_setBeacon ..)).1
  · exact (release_of_offPage (offPage_setBeacon ..)).1
  · exact (release_of_offPage (offPage_setBeacon ..)).1
  · unfold setChaseBeacon
    exact (release_of_offPage (offPage_setBeacon ..)).1.trans (release_of_offPage (offPage_setBeacon ..)).1
  · rfl

theorem keeperPages_fault (s : State) :
    beaconOf (keeperPages.foldl (fun s p => setBeacon s p Beacon.fault) s) 11 = Beacon.fault := by
  have small : ∀ p ∈ keeperPages, p < 131072 := by decide
  exact getF_foldl_index (F := Reg.PAGE_BEACON_STATE) (val := fun _ => Beacon.fault) (l := keeperPages)
    (fun s p _ => beacon_setBeacon s (by decide))
    (fun s p mem q near other => beacon_setBeacon_ne s (small p mem) (small q near) other) s (m := 11) (by decide)

theorem beacon_lockFault_keepers (s : State) (i : Nat) : beaconOf (lockFault s 0 i) 11 = Beacon.fault := keeperPages_fault s

theorem beacon_lockFault_stack (s : State) (few : i < 32) : beaconOf (lockFault s 2 i) (784 + i) = Beacon.fault :=
  beaconOf_setBeacon s (by omega) (by decide)

theorem beacon_lockFault_link (s : State) (link : d = 3 ∨ d = 4) (few : i < 16) :
    beaconOf (lockFault s d i) (768 + i) = Beacon.fault := by
  rcases link with rfl | rfl
  · exact beaconOf_setBeacon s (by omega) (by decide)
  · exact beaconOf_setBeacon s (by omega) (by decide)

theorem beacon_lockFault_chase (s : State) (few : i < 256) : chaseBeacon (lockFault s 5 i) i = Beacon.fault :=
  chaseBeacon_setChaseBeacon _ few (by decide)

theorem rstPllNoLock_gives (known : i < pllCount d) (up : s.power.shut = false) (fresh : (d, i) ∉ s.release.counted)
    (sound : (d, i) ∉ s.release.pllFailed) (late : stepPast s (if d = 0 then 4 else 5) 10000000 = true) :
    Gives (.rstPllNoLock d i) s fun t =>
      (d, i) ∈ t.release.pllFailed ∧ (d = 0 → beaconOf t 11 = Beacon.fault) ∧ (d = 2 → beaconOf t (784 + i) = Beacon.fault) ∧
      (d = 3 ∨ d = 4 → beaconOf t (768 + i) = Beacon.fault) ∧ (d = 5 → chaseBeacon t i = Beacon.fault) := by
  refine ⟨_, exec_rstPllNoLock known up fresh sound late, ?_, ?_, ?_, ?_, ?_⟩
  · rw [release_lockFault, (release_of_offLog (offLog_logFault ..)).1]
    exact mem_addOnce_self ..
  · rintro rfl
    exact beacon_lockFault_keepers ..
  · rintro rfl
    exact beacon_lockFault_stack _ known
  · intro link
    have few : i < 16 := by
      rcases link with rfl | rfl
      · exact known
      · exact known
    exact beacon_lockFault_link _ link few
  · rintro rfl
    exact beacon_lockFault_chase _ known

end

theorem exec_rstStepTimeout {k : Nat} {s : State} (step : k = 3 ∨ k = 4) (next : getF s Reg.RST_STAGE_STEP 0 + 1 = k)
    (running : s.release.stopped = false) (late : stepPast s (k - 1) 50010240 = true) : exec (.rstStepTimeout k) s =
      .next (logFault { s with release := { s.release with stopped := true } }
        (blockItem Err.RST_STEP_TIMEOUT (identOf 0x03 0) [k])) := by
  show execRstStepTimeout k s = _
  unfold execRstStepTimeout
  rw [if_pos ⟨step, next, by rw [running]; rfl, late⟩]

/-! ### A forced step -/

/-- One of a step's instances marked as forced, and recorded. -/
def forcedEarly (k : Nat) (s : State) (i : Nat) : State :=
  logFault { s with release := { s.release with forced := s.release.forced ++ [16 * i + k] } }
    (blockItem Err.RST_FORCED_EARLY (identOf 0x03 0) [stepIdent k i])

/-- The instances of a step whose PLLs have not counted and that are neither released nor marked. -/
def forcedInstances (s : State) (k : Nat) : List Nat :=
  (List.range (stepSize k)).filter (fun i => !(stepPlls k i).all (fun x => s.release.counted.contains x) &&
    !s.release.released.contains (k, i) && !s.release.forced.contains (16 * i + k))

theorem exec_forceStep {v : Nat} {s : State} (up : answers s 2 = true) (open_ : pageLocked s 2 = false) :
    exec (.forceStep v) s = .next ((forcedInstances s (v % 16)).foldl (forcedEarly (v % 16)) (setF s Reg.RST_FORCE_FORCE_STEP (v % 16) 0)) := by
  show execForceStep v s = _
  unfold execForceStep
  refine congrArg _ ((regWrite_answers up _).trans ?_)
  rw [open_]
  rfl

theorem forcedEarly_keeps (k : Nat) (l : List Nat) (s : State) :
    getF (l.foldl (forcedEarly k) s) Reg.RST_FORCE_FORCE_STEP 0 = getF s Reg.RST_FORCE_FORCE_STEP 0 ∧
    (l.foldl (forcedEarly k) s).release.released = s.release.released ∧
    ∀ x, x ∈ s.release.forced ∨ (∃ i ∈ l, x = 16 * i + k) → x ∈ (l.foldl (forcedEarly k) s).release.forced := by
  induction l generalizing s with
  | nil => exact ⟨rfl, rfl, fun x h => h.resolve_right (by simp)⟩
  | cons j l ih =>
    obtain ⟨step, released, forced⟩ := ih (forcedEarly k s j)
    have rest : (forcedEarly k s j).release = { s.release with forced := s.release.forced ++ [16 * j + k] } :=
      (release_of_offLog (offLog_logFault ..)).1
    have field : getF (forcedEarly k s j) Reg.RST_FORCE_FORCE_STEP 0 = getF s Reg.RST_FORCE_FORCE_STEP 0 := by
      unfold forcedEarly
      rw [(fieldsBut_logFault _ (rstItem_page _ _)).same _ 0 0 (by decide) (by decide +kernel)]
      rfl
    refine ⟨step.trans field, released.trans (by rw [rest]), fun x h => forced x ?_⟩
    rw [rest]
    rcases h with h | ⟨i, mem, rfl⟩
    · exact .inl (List.mem_append_left _ h)
    · rcases List.mem_cons.1 mem with rfl | mem
      · exact .inl (List.mem_append_right _ List.mem_cons_self)
      · exact .inr ⟨i, mem, rfl⟩

theorem forceStep_gives {v : Nat} {s : State} (up : answers s 2 = true) (open_ : pageLocked s 2 = false) :
    Gives (.forceStep v) s fun t => getF t Reg.RST_FORCE_FORCE_STEP 0 = v % 16 ∧ t.release.released = s.release.released ∧
      ∀ i < stepSize (v % 16), (v % 16, i) ∉ s.release.released → (∃ x ∈ stepPlls (v % 16) i, x ∉ s.release.counted) →
        16 * i + v % 16 ∈ t.release.forced := by
  obtain ⟨step, released, forced⟩ := forcedEarly_keeps (v % 16) (forcedInstances s (v % 16)) (setF s Reg.RST_FORCE_FORCE_STEP (v % 16) 0)
  refine ⟨_, exec_forceStep up open_, ?_, released, fun i size held early => forced _ ?_⟩
  · rw [step, getF_setF_same]
    exact Nat.mod_mod ..
  · by_cases marked : 16 * i + v % 16 ∈ s.release.forced
    · exact .inl marked
    · refine .inr ⟨i, List.mem_filter.2 ⟨List.mem_range.2 size, ?_⟩, rfl⟩
      have uncounted : (stepPlls (v % 16) i).all (fun x => s.release.counted.contains x) = false := by
        obtain ⟨x, mem, out⟩ := early
        exact List.all_eq_false.2 ⟨x, mem, by simpa using out⟩
      have away : s.release.released.contains (v % 16, i) = false := by simpa using held
      have unmarked : s.release.forced.contains (16 * i + v % 16) = false := by simpa using marked
      rw [uncounted, away, unmarked]
      rfl

/-! ### The clock monitor and lost clocks -/

theorem clockFailed_absent {r : ClockReading} (absent : r.present = false) : clockFailed r = true := by
  unfold clockFailed
  rw [absent]
  rfl

theorem clockFailed_iff {r : ClockReading} (present : r.present = true) : clockFailed r = true ↔
    (if r.slewing then 4 else 1) * r.commandedKhz < 100 * ((r.khz : Int) - r.commandedKhz).natAbs := by
  unfold clockFailed
  rw [present]
  exact decide_eq_true_iff

theorem monitorClock_sound {r : ClockReading} {s : State} (counted : (r.domain, r.inst) ∈ s.release.counted)
    (sound : clockFailed r = false) :
    monitorClock s r = setF s Reg.CLK_PLL_STAT_FREQ (min (r.khz / 1000) 2047) (pllNo r.domain r.inst) := by
  have known : s.release.counted.contains (r.domain, r.inst) = true := by simpa using counted
  unfold monitorClock
  rw [known, sound]
  rfl

/-- A port's reference that is back: noted, and its PLL counted. -/
def refclkBack (s : State) (h : Nat) : State :=
  let u := setF s Reg.CLK_REF_STAT_REFCLK_OK (getF s Reg.CLK_REF_STAT_REFCLK_OK 0 ||| 2 ^ h) 0
  setF (setF { u with release := { u.release with counted := addOnce u.release.counted (1, h) } } Reg.CLK_PLL_STAT_LOCKED 1
    (pllNo 1 h)) Reg.CLK_PLL_STAT_COUNTED 1 (pllNo 1 h)

theorem exec_refclkRecovered (h : PortId) (s : State) :
    exec (.refclkRecovered h) s = .next (releasePort (refclkBack s h) h) := by
  show execRefclkRecovered h s = _
  unfold execRefclkRecovered refclkBack
  rfl

theorem refclkBack_keeps (s : State) (h : Nat) : (refclkBack s h).release.counted = addOnce s.release.counted (1, h) ∧
    (refclkBack s h).pins = s.pins ∧ (refclkBack s h).power = s.power := ⟨rfl, rfl, rfl⟩

theorem bit_setOr (x : Nat) {h w : Nat} (inside : h < w) : (x ||| 2 ^ h) % 2 ^ w / 2 ^ h % 2 = 1 := by
  have bit : ((x ||| 2 ^ h) % 2 ^ w).testBit h = true := by
    rw [Nat.testBit_mod_two_pow, Nat.testBit_or, Nat.testBit_two_pow_self]
    simp [inside]
  rwa [Nat.testBit_eq_decide_div_mod_eq, decide_eq_true_eq] at bit

section
variable {h : PortId} {s : State}

theorem ok_refclkBack (s : State) (h : PortId) : getF (refclkBack s h) Reg.CLK_REF_STAT_REFCLK_OK 0 / 2 ^ h.val % 2 = 1 := by
  have small : pllNo 1 h < 131072 := by
    have := h.isLt
    unfold pllNo
    omega
  have written : getF (refclkBack s h) Reg.CLK_REF_STAT_REFCLK_OK 0 =
      (getF s Reg.CLK_REF_STAT_REFCLK_OK 0 ||| 2 ^ h.val) % 2 ^ 4 := by
    unfold refclkBack
    rw [getF_setF_apart _ _ (by decide) small (by decide), getF_setF_apart _ _ (by decide) small (by decide)]
    exact getF_setF_same ..
  rw [written]
  exact bit_setOr _ h.isLt

theorem releasePort_keeps (u : State) {n : Nat} (small : n < 4) :
    getF (releasePort u n) Reg.CLK_REF_STAT_REFCLK_OK 0 = getF u Reg.CLK_REF_STAT_REFCLK_OK 0 ∧
    (releasePort u n).release.counted = u.release.counted := by
  unfold releasePort
  split_ifs
  · exact ⟨rfl, rfl⟩
  · exact ⟨(getF_setF_apart _ _ (by decide) (by omega) (by decide)).trans (getF_congr rfl ..), rfl⟩

theorem portReleased_releasePort {n : Nat} {u : State} (out : u.pins.perst.getD n true = false) (counted : (1, n) ∈ u.release.counted)
    (step : 5 ≤ getF u Reg.RST_STAGE_STEP 0) (up : u.power.shut = false) : portReleased (releasePort u n) n = true := by
  have known : u.release.counted.contains (1, n) = true := by simpa using counted
  unfold releasePort
  rw [out, known, up, decide_eq_false (Nat.not_lt.2 step), if_neg (by decide)]
  unfold portReleased
  simpa using mem_addOnce_self u.release.released (6, n)

theorem refclkRecovered_gives (h : PortId) (s : State) : Gives (.refclkRecovered h) s fun t =>
    getF t Reg.CLK_REF_STAT_REFCLK_OK 0 / 2 ^ h.val % 2 = 1 ∧ (1, h.val) ∈ t.release.counted ∧
    (s.pins.perst.getD h true = false → 5 ≤ getF s Reg.RST_STAGE_STEP 0 → s.power.shut = false → portReleased t h = true) := by
  obtain ⟨counted, pins, power⟩ := refclkBack_keeps s h
  obtain ⟨ok, keeps⟩ := releasePort_keeps (refclkBack s h) h.isLt
  have known : (1, h.val) ∈ (refclkBack s h).release.counted := by rw [counted]; exact mem_addOnce_self ..
  have step : getF (refclkBack s h) Reg.RST_STAGE_STEP 0 = getF s Reg.RST_STAGE_STEP 0 := by
    have small : pllNo 1 h < 131072 := by
      have := h.isLt
      unfold pllNo
      omega
    unfold refclkBack
    rw [getF_setF_apart _ _ (by decide) small (by decide), getF_setF_apart _ _ (by decide) small (by decide)]
    exact getF_setF_other _ _ _ (by decide)
  refine ⟨_, exec_refclkRecovered h s, ?_, ?_, fun out late up => portReleased_releasePort ?_ known ?_ ?_⟩
  · rw [ok, ok_refclkBack]
  · rw [keeps]
    exact known
  · rw [pins, out]
  · rwa [step]
  · rw [power, up]

end

section
variable {s : State}

/-- The lamp domain on its internal clock. -/
def crystalLost (s : State) : State :=
  { setF (setF s Reg.CLK_REF_STAT_LAMP_INTERNAL 1 0) Reg.CLK_REF_STAT_LAMP_XTAL_OK 0 0 with
    tele := { s.tele with openSynced := false } }

theorem crystalLost_fields (s : State) : onF (crystalLost s) Reg.CLK_REF_STAT_LAMP_INTERNAL 0 = true ∧
    onF (crystalLost s) Reg.CLK_REF_STAT_LAMP_XTAL_OK 0 = false ∧ (crystalLost s).tele.openSynced = false ∧
    (crystalLost s).serve = s.serve := by
  have regs : (crystalLost s).regs = (setF (setF s Reg.CLK_REF_STAT_LAMP_INTERNAL 1 0) Reg.CLK_REF_STAT_LAMP_XTAL_OK 0 0).regs := rfl
  refine ⟨?_, ?_, rfl, rfl⟩
  · rw [onF_congr (getF_congr regs ..), onF_congr (getF_setF_other _ _ _ (by decide)), onF_setF_same]
    rfl
  · rw [onF_congr (getF_congr regs ..), onF_setF_same]
    rfl

theorem exec_rstLampXtal (crystal : onF s Reg.CLK_REF_STAT_LAMP_INTERNAL 0 = false) : exec .rstLampXtal s =
    .next (logFault (crystalLost s) (blockItem Err.RST_LAMP_XTAL (identOf 0x03 0) [])) := by
  show execRstLampXtal s = _
  unfold execRstLampXtal
  rw [crystal]
  exact congrArg _ (if_neg Bool.false_ne_true)

theorem rstLampXtal_gives (crystal : onF s Reg.CLK_REF_STAT_LAMP_INTERNAL 0 = false) : Gives .rstLampXtal s fun t =>
    onF t Reg.CLK_REF_STAT_LAMP_INTERNAL 0 = true ∧ onF t Reg.CLK_REF_STAT_LAMP_XTAL_OK 0 = false ∧ t.tele.openSynced = false ∧
    t.serve = s.serve := by
  obtain ⟨internal, lost, synced, serve⟩ := crystalLost_fields s
  have rest := offLog_logFault (crystalLost s) (blockItem Err.RST_LAMP_XTAL (identOf 0x03 0) [])
  have fields := fieldsBut_logFault (crystalLost s) (rstItem_page Err.RST_LAMP_XTAL [])
  refine ⟨_, exec_rstLampXtal crystal, ?_, ?_, ?_, ?_⟩
  · rw [onF_congr (fields.same _ 0 0 (by decide) (by decide +kernel)), internal]
  · rw [onF_congr (fields.same _ 0 0 (by decide) (by decide +kernel)), lost]
  · rw [(release_of_offLog rest).2, synced]
  · rw [(stks_of_offLog rest).2.1, serve]

/-- The first oscillator lost, and recorded. -/
def firstLost (s : State) : State :=
  logFault (setF s Reg.CLK_REF_STAT_FREF_A_OK 0 0) (blockItem Err.RST_FABRIC_REF (identOf 0x03 0) [0])

theorem exec_rstFabricRef (first : onF s Reg.CLK_REF_STAT_FREF_SEL 0 = false) (good : Bool) : exec (.rstFabricRef good) s =
    .next (if good then addF (setF (firstLost s) Reg.CLK_REF_STAT_FREF_SEL 1 0) Reg.CLK_FREF_SWITCHES 1 0
      else resetNow (loseLocks (setF (firstLost s) Reg.CLK_REF_STAT_FREF_B_OK 0 0)) 6) := by
  show execRstFabricRef good s = _
  unfold execRstFabricRef
  rw [first]
  exact congrArg _ (if_neg Bool.false_ne_true)

theorem rstFabricRef_switches (first : onF s Reg.CLK_REF_STAT_FREF_SEL 0 = false) : Gives (.rstFabricRef true) s fun t =>
    onF t Reg.CLK_REF_STAT_FREF_SEL 0 = true ∧ onF t Reg.CLK_REF_STAT_FREF_A_OK 0 = false ∧
    getF t Reg.CLK_FREF_SWITCHES 0 = min (getF s Reg.CLK_FREF_SWITCHES 0 + 1) (2 ^ 32 - 1) ∧ t.serve = s.serve := by
  have logged := fieldsBut_logFault (setF s Reg.CLK_REF_STAT_FREF_A_OK 0 0) (rstItem_page Err.RST_FABRIC_REF [0])
  have serve : (firstLost s).serve = s.serve := (stks_of_offLog (offLog_logFault ..)).2.1
  have lost : onF (firstLost s) Reg.CLK_REF_STAT_FREF_A_OK 0 = false := by
    refine (onF_congr (logged.same _ 0 0 (by decide) (by decide +kernel))).trans ?_
    rw [onF_setF_same]
    rfl
  have switches : getF (firstLost s) Reg.CLK_FREF_SWITCHES 0 = getF s Reg.CLK_FREF_SWITCHES 0 :=
    (logged.same _ 0 0 (by decide) (by decide +kernel)).trans (getF_setF_other _ _ _ (by decide))
  refine ⟨_, (exec_rstFabricRef first true).trans (congrArg _ (if_pos rfl)), ?_, ?_, ?_, serve⟩
  · rw [onF_congr (getF_addF_other _ _ _ (by decide)), onF_setF_same]
    rfl
  · rw [onF_congr (getF_addF_other _ _ _ (by decide)), onF_congr (getF_setF_other _ _ _ (by decide)), lost]
  · rw [getF_addF_same, getF_setF_other _ _ _ (by decide), switches]
    rfl

theorem exec_timeSyncPoint {cs : List Nat} (none : s.syncs = []) : exec (.timeSyncPoint cs) s =
    .next (setF { s with syncs := [(s.lampTime, cs.foldl max 0)] } Reg.CLK_SYNC_ERR (min 255 (cs.foldl max 0)) 0) := by
  show execTimeSyncPoint cs s = _
  unfold execTimeSyncPoint
  rw [none]
  simp only [List.filter_nil, List.nil_append, List.map_cons, List.map_nil, List.foldl_cons, List.foldl_nil, Nat.zero_max]

theorem timeSyncPoint_gives {cs : List Nat} (none : s.syncs = []) : Gives (.timeSyncPoint cs) s fun t =>
    getF t Reg.CLK_SYNC_ERR 0 = min 255 (cs.foldl max 0) ∧ t.syncs = [(s.lampTime, cs.foldl max 0)] ∧
    RegsOnly { s with syncs := t.syncs } t [Reg.CLK_SYNC_ERR.key 0 0] := by
  refine ⟨_, exec_timeSyncPoint none, ?_, rfl, setF_regsOnly (regsOnly_refl _ _) _ _ _ _ List.mem_cons_self⟩
  rw [getF_setF_same]
  exact Nat.mod_eq_of_lt (by show min 255 _ < 2 ^ 8; omega)

end

/-- Settles O59: the work of a step and the record of a lost clock leave the step reached and the released instances as
they are. -/
theorem releaseAndClocks : Obligations.ReleaseAndClocks := by
  unfold Obligations.ReleaseAndClocks
  exact ⟨fun k i s => ⟨releaseStep_gives, exec_releaseStep_waits⟩,
    fun d i s known up => ⟨pllCountDone_gives known up, rstPllNoLock_gives known up⟩, fun k s => exec_rstStepTimeout,
    fun v s => forceStep_gives, fun rs s => rfl, fun r => ⟨clockFailed_absent, clockFailed_iff⟩, fun r s => monitorClock_sound,
    refclkRecovered_gives, fun s => rstLampXtal_gives,
    fun s first => ⟨rstFabricRef_switches first, (exec_rstFabricRef first false).trans (congrArg _ (if_neg Bool.false_ne_true))⟩,
    fun cs s => timeSyncPoint_gives⟩

end Sys2Proof.Machine

end

section
/-! Fault items that reach keeper group 2, the start of a recovery and its steps (R388 to R391, R398; O60). -/

namespace Sys2Proof.Machine

/-! ### Fault items -/

/-- The waiting items without the one that has been delivered, its packet taken. -/
def itemTaken (s : State) (i : Nat) (it : FaultItem) : State :=
  let u0 := { s with faults := { s.faults with items := s.faults.items.eraseIdx i } }
  if it.sent then dropFlit u0 (fun f => flitKind f == Kind.event && f.stamp == BitVec.ofNat 64 (it.stamp.getD 0)) else u0

/-- What keeper group 2 does for a recorded item that is no defect. -/
def itemActs (v : State) (x : FaultItem) : State :=
  match x.chase with
  | some n =>
    if startsRecovery x then startRecovery v n (itemChases n x) [x] 1 [] []
    else if x.code = Err.STORE_UNCORRECTABLE ∧ stillPoisoned v x then
      { v with faults := { v.faults with evidence := v.faults.evidence ++ [x] } }
    else v
  | none => v

section
variable {i : Nat} {it : FaultItem} {s : State}

theorem exec_event (found : s.faults.items[i]? = some it) :
    let u := itemTaken s i it
    let x := markReplay u it
    exec (.event i) s = .next (if firstOnly x.code && isRepeat u x then formeDefect (logFault u x) x
      else itemActs (logFault u x) x) := by
  intro u x
  show execEvent i s = _
  unfold execEvent
  rw [found]
  rfl

theorem exec_event_none (beyond : s.faults.items.length ≤ i) : exec (.event i) s = .next s := by
  show execEvent i s = _
  unfold execEvent
  rw [List.getElem?_eq_none beyond]

section
variable {v : State} {x : FaultItem} {n : Nat}

theorem itemActs_none (chase : x.chase = none) : itemActs v x = v := by
  unfold itemActs
  rw [chase]

theorem itemActs_recovery (chase : x.chase = some n) (starts : startsRecovery x = true) :
    itemActs v x = startRecovery v n (itemChases n x) [x] 1 [] [] := by
  unfold itemActs
  rw [chase]
  exact if_pos starts

theorem itemActs_other (chase : x.chase = some n) (quiet : startsRecovery x = false) (other : x.code ≠ Err.STORE_UNCORRECTABLE) :
    itemActs v x = v := by
  unfold itemActs
  rw [chase]
  exact (if_neg (Bool.eq_false_iff.1 quiet)).trans (if_neg fun h => other h.1)

theorem itemActs_uncorrectable (chase : x.chase = some n) (quiet : startsRecovery x = false)
    (code : x.code = Err.STORE_UNCORRECTABLE) : itemActs v x = if stillPoisoned v x = true
      then { v with faults := { v.faults with evidence := v.faults.evidence ++ [x] } } else v := by
  unfold itemActs
  rw [chase]
  refine (if_neg (Bool.eq_false_iff.1 quiet)).trans ?_
  by_cases poisoned : stillPoisoned v x = true
  · rw [if_pos poisoned, if_pos ⟨code, poisoned⟩]
  · rw [if_neg poisoned, if_neg fun h => poisoned h.2]

end

theorem event_gives (found : s.faults.items[i]? = some it) :
    let u := itemTaken s i it
    let x := markReplay u it
    let v := logFault u x
    (firstOnly x.code = true → isRepeat u x = true → exec (.event i) s = .next (formeDefect v x)) ∧
    (∀ n, firstOnly x.code = false ∨ isRepeat u x = false → x.chase = some n → startsRecovery x = true →
      exec (.event i) s = .next (startRecovery v n (itemChases n x) [x] 1 [] [])) ∧
    (firstOnly x.code = false ∨ isRepeat u x = false → x.chase = none → exec (.event i) s = .next v) ∧
    (∀ n, firstOnly x.code = false ∨ isRepeat u x = false → x.chase = some n → startsRecovery x = false →
      (x.code ≠ Err.STORE_UNCORRECTABLE → exec (.event i) s = .next v) ∧
      (x.code = Err.STORE_UNCORRECTABLE → exec (.event i) s = .next (if stillPoisoned v x = true
        then { v with faults := { v.faults with evidence := v.faults.evidence ++ [x] } } else v))) := by
  have run := exec_event found
  intro u x v
  have first : firstOnly x.code = false ∨ isRepeat u x = false → exec (.event i) s = .next (itemActs v x) := fun new =>
    run.trans (congrArg _ (if_neg (by
      rw [Bool.and_eq_true]
      exact fun h => new.elim (fun new => Bool.false_ne_true (new.symm.trans h.1)) fun new => Bool.false_ne_true (new.symm.trans h.2))))
  refine ⟨fun only again => run.trans (congrArg _ (if_pos (Bool.and_eq_true_iff.2 ⟨only, again⟩))), fun n new chase starts => ?_,
    fun new chase => ?_, fun n new chase quiet => ⟨fun other => ?_, fun code => ?_⟩⟩
  · rw [first new, itemActs_recovery chase starts]
  · rw [first new, itemActs_none chase]
  · rw [first new, itemActs_other chase quiet other]
  · rw [first new, itemActs_uncorrectable chase quiet code]

end

/-! ### Suspect cores -/

theorem exec_suspectDecay_early {g : Fin 16384} {s : State} (early : s.lampTime < (errataAt s g).since + 86400000000000) :
    exec (.suspectDecay g) s = .next s := by
  show execSuspectDecay g s = _
  unfold execSuspectDecay
  exact congrArg _ (if_pos (.inr early))

/-- A segment's suspicion, one lower. -/
def suspicionFallen (s : State) (g : Nat) : State :=
  { s with errata := { s.errata with
    entries := kset s.errata.entries g { errataAt s g with suspect := (errataAt s g).suspect - 1, since := s.lampTime } } }

theorem suspicionFallen_gives (s : State) (g : Nat) : (errataAt (suspicionFallen s g) g).suspect = (errataAt s g).suspect - 1 ∧
    (∀ j, j ≠ g → errataAt (suspicionFallen s g) j = errataAt s j) ∧
    suspicionFallen s g = { s with errata := (suspicionFallen s g).errata } :=
  ⟨congrArg Errata.suspect (kgetD_kset_same ..), fun _ other => kgetD_kset_ne _ _ _ other, rfl⟩

theorem exec_suspectDecay {g : Fin 16384} {s : State} (late : (errataAt s g).since + 86400000000000 ≤ s.lampTime)
    (suspect : (errataAt s g).suspect ≠ 0) : exec (.suspectDecay g) s = .next (suspicionFallen s g) := by
  show execSuspectDecay g s = _
  unfold execSuspectDecay
  exact congrArg _ (if_neg fun h => h.elim suspect (Nat.not_lt.2 late))

theorem exec_suspectDecay_clear {g : Fin 16384} {s : State} (clear : (errataAt s g).suspect = 0) :
    exec (.suspectDecay g) s = .next s := by
  show execSuspectDecay g s = _
  unfold execSuspectDecay
  exact congrArg _ (if_pos (.inl clear))

theorem suspectDecay_gives {g : Fin 16384} {s : State} (late : (errataAt s g).since + 86400000000000 ≤ s.lampTime) :
    Gives (.suspectDecay g) s fun t => (errataAt t g).suspect = (errataAt s g).suspect - 1 ∧
      (∀ j, j ≠ g.val → errataAt t j = errataAt s j) ∧ t = { s with errata := t.errata } := by
  by_cases clear : (errataAt s g).suspect = 0
  · refine ⟨s, exec_suspectDecay_clear clear, ?_, fun j other => rfl, rfl⟩
    rw [clear]
  · exact ⟨_, exec_suspectDecay late clear, suspicionFallen_gives s g⟩

/-! ### The steps of a recovery -/

section
variable {i : Nat} {r : Recovery} {s : State} (found : s.faults.recoveries[i]? = some r)
include found

theorem exec_fabricDrained (phase : r.phase = .halting)
    (stand : ∀ n ∈ r.chases, schedules s n = false ∨ onF s Reg.CHS_SCHED_CTL_HALTED n = true)
    (clear : fabricClear s r.formes r.chases = true) :
    let u := r.chases.foldl (fun s n => modCores (finishStackWrites s n) n Core.drained) (clearRim s r.formes)
    exec (.fabricDrained i) s = .next (if r.selfTest = [] ∧ (∀ it ∈ r.items, retested it.code = false) then placeStep u i r
      else setRecovery u i { r with phase := .retesting }) := by
  intro u
  have stands : r.chases.all (fun n => !schedules s n || onF s Reg.CHS_SCHED_CTL_HALTED n) = true :=
    List.all_eq_true.2 fun n mem => by
      rcases stand n mem with idle | halted
      · rw [idle]; rfl
      · rw [halted, Bool.or_true]
  have none : r.items.all (fun it => !retested it.code) = true ↔ ∀ it ∈ r.items, retested it.code = false := by
    simp only [List.all_eq_true, Bool.not_eq_true']
  show execFabricDrained i s = _
  unfold execFabricDrained
  rw [found]
  refine congrArg _ ((if_pos ⟨phase, stands, clear⟩).trans ?_)
  by_cases named : r.selfTest = [] ∧ ∀ it ∈ r.items, retested it.code = false
  · rw [if_pos named]
    exact if_pos ⟨named.1, none.2 named.2⟩
  · rw [if_neg named]
    exact if_neg fun h => named ⟨h.1, none.1 h.2⟩

theorem exec_fabricDrained_other (phase : r.phase ≠ .halting) : exec (.fabricDrained i) s = .next s := by
  show execFabricDrained i s = _
  unfold execFabricDrained
  rw [found]
  exact congrArg _ (if_neg fun h => phase h.1)

theorem exec_retestDone_named (phase : r.phase = .retesting) (named : r.selfTest = []) (rs : List CoreResult) :
    exec (.retestDone i rs) s = .next (retestNamed s i r rs) := by
  show execRetestDone i rs s = _
  unfold execRetestDone
  rw [found]
  exact congrArg _ ((if_neg (not_not.2 phase)).trans (if_neg (not_not.2 named)))

theorem exec_retestDone_whole (phase : r.phase = .retesting) (whole : r.selfTest ≠ []) (rs : List CoreResult) :
    let bad := rs.filter (fun x => (x.coreFails || x.routerFails) && r.selfTest.contains (chaseOfRouter x.place))
    exec (.retestDone i rs) s = .next (placeStep (bad.foldl failSelfTest (r.items.foldl rewriteWord s)) i
      { r with cores := r.cores ++ poisonedCores r.items }) := by
  intro bad
  show execRetestDone i rs s = _
  unfold execRetestDone
  rw [found]
  exact congrArg _ ((if_neg (not_not.2 phase)).trans (if_pos whole))

theorem exec_retestDone_other (phase : r.phase ≠ .retesting) (rs : List CoreResult) : exec (.retestDone i rs) s = .next s := by
  show execRetestDone i rs s = _
  unfold execRetestDone
  rw [found]
  exact congrArg _ (if_pos phase)

theorem exec_reloadDone (phase : r.phase = .reloading) :
    let a := r.chases.foldl restartMember (reloadAll s r)
    let fresh := a.formes.flatMap (fun f => f.2.parts.filter (fun p => p.live && !r.chases.contains p.chase
      && r.parts.contains (f.1, p.layer, p.part)))
    let b := startChases a fresh
    let back := (b.serve.streams.filter (fun e => e.2.lostState && e.2.live && r.formes.contains e.2.forme)).map (fun e => (e.1, e.2.order))
    exec (.reloadDone i) s = .next (checkRecoveries 64 (r.formes.foldl refixForme
      (releaseFormes (setRecovery b i { r with phase := .replaying, replays := back }) r.formes))) := by
  intro a fresh b back
  show execReloadDone i s = _
  unfold execReloadDone
  rw [found]
  exact congrArg _ (if_pos phase)

theorem exec_reloadDone_other (phase : r.phase ≠ .reloading) : exec (.reloadDone i) s = .next s := by
  show execReloadDone i s = _
  unfold execReloadDone
  rw [found]
  exact congrArg _ (if_neg phase)

end

/-! ### The set of a recovery -/

theorem growSet_subset (s : State) (k : Nat) (cs : List Nat) : cs ⊆ (growSet s k cs).2 := by
  induction k generalizing cs with
  | zero => exact List.Subset.refl cs
  | succ k ih => exact List.Subset.trans (List.subset_append_left ..) (ih _)

theorem growSet_formes (s : State) (k : Nat) (cs : List Nat) : (growSet s k cs).1 = formesOn s (growSet s k cs).2 := by
  induction k generalizing cs with
  | zero => rfl
  | succ k ih => exact ih _

theorem mem_growSet (s : State) (k n : Nat) : n ∈ (growSet s k [n]).2 := growSet_subset s k [n] List.mem_cons_self

theorem mem_growSet_formes {s : State} {k n f : Nat} {cs : List Nat} {x : Forme} (chase : n ∈ cs) (forme : (f, x) ∈ s.formes)
    (part : ∃ p ∈ x.parts, p.live = true ∧ p.chase = n) : f ∈ (growSet s k cs).1 := by
  obtain ⟨p, mem, live, rfl⟩ := part
  rw [growSet_formes]
  refine List.mem_map.2 ⟨(f, x), List.mem_filter.2 ⟨forme, List.any_eq_true.2 ⟨p, mem, ?_⟩⟩, rfl⟩
  rw [live, Bool.true_and]
  exact List.contains_iff_mem.2 (growSet_subset s k cs chase)

/-! ### Streams that hold -/

/-- A stream's command and visible length stand, and so does that it is live; and once it holds for a recovery, it does. -/
structure Abandons (x y : Stream) : Prop where
  cmd : y.cmd = x.cmd
  vlen : y.vlen = x.vlen
  live : y.live = x.live

theorem live_hold {x : Stream} (live : x.live = true) (hold : x.holdRecovery = true) : (settleHold x).live = true := by
  have held : (x.holdRing || x.holdBarrier || x.holdRecovery) = true := by rw [hold, Bool.or_true]
  unfold settleHold
  split_ifs
  · exact live
  · exact live
  · rfl

theorem settleHold_same (x : Stream) : (settleHold x).cmd = x.cmd ∧ (settleHold x).vlen = x.vlen ∧ (settleHold x).step = x.step := by
  unfold settleHold
  split_ifs <;> exact ⟨rfl, rfl, rfl⟩

theorem abandons_abandon {x : Stream} (live : x.live = true) : Abandons x x.abandon := by
  unfold Stream.abandon
  obtain ⟨cmd, vlen, -⟩ := settleHold_same { x with holdRecovery := true, step := none, tlen := x.vlen }
  exact ⟨cmd, vlen, (live_hold (x := { x with holdRecovery := true, step := none, tlen := x.vlen }) live rfl).trans live.symm⟩

theorem abandon_holds (x : Stream) : x.abandon.holdRecovery = true ∧ x.abandon.step = none := by
  unfold Stream.abandon
  exact ⟨settleHold_recovery _, (settleHold_same _).2.2⟩

/-- What a stream becomes when the streams of one forme hold. -/
def heldFor (fi : Nat) (x : Stream) : Stream := if x.live && x.forme == fi then x.abandon else x

theorem abandons_heldFor (fi : Nat) (x : Stream) : Abandons x (heldFor fi x) := by
  unfold heldFor
  split_ifs with h
  · exact abandons_abandon (Bool.and_eq_true_iff.1 h).1
  · exact ⟨rfl, rfl, rfl⟩

theorem heldFor_keeps {fi : Nat} {x : Stream} (hold : x.holdRecovery = true ∧ x.step = none) :
    (heldFor fi x).holdRecovery = true ∧ (heldFor fi x).step = none := by
  unfold heldFor
  split_ifs
  · exact abandon_holds x
  · exact hold

/-- The registers, memories, streams, chases and fault records stand as they were. -/
structure PassKeeps (s t : State) : Prop where
  regs : t.regs = s.regs
  mem : t.mem = s.mem
  faults : t.faults = s.faults
  streams : t.serve.streams = s.serve.streams

theorem PassKeeps.trans {s t u : State} (h : PassKeeps s t) (k : PassKeeps t u) : PassKeeps s u :=
  ⟨k.regs.trans h.regs, k.mem.trans h.mem, k.faults.trans h.faults, k.streams.trans h.streams⟩

theorem passKeeps_endPass (s : State) (e : Nat) (x : Stream) : PassKeeps s (endPass s e x) := ⟨rfl, rfl, rfl, rfl⟩

theorem passKeeps_endPasses (s : State) (fi : Nat) : PassKeeps s (endPasses s fi) := by
  have ended : ∀ (l : List (Nat × Stream)) (u : State), PassKeeps u (l.foldl (fun s e => endPass s e.1 e.2) u) := by
    intro l
    induction l with
    | nil => exact fun u => ⟨rfl, rfl, rfl, rfl⟩
    | cons e l ih => exact fun u => (passKeeps_endPass u e.1 e.2).trans (ih _)
  exact ended _ s

/-- One forme's streams held. -/
def formeHeld (s : State) (fi : Nat) : State := stopStreaming (mapForme (endPasses s fi) fi Stream.abandon) (· == fi)

theorem formeHeld_keeps (s : State) (fi : Nat) : (formeHeld s fi).regs = s.regs ∧ (formeHeld s fi).mem = s.mem ∧
    (formeHeld s fi).faults = s.faults ∧ ∀ e, getSt (formeHeld s fi) e = (getSt s e).map (heldFor fi) := by
  obtain ⟨regs, mem, faults, streams⟩ := passKeeps_endPasses s fi
  refine ⟨regs, mem, faults, fun e => ?_⟩
  have mapped : getSt (formeHeld s fi) e = (kget? (endPasses s fi).serve.streams e).map (heldFor fi) :=
    kget?_mapVal (endPasses s fi).serve.streams (heldFor fi) e
  rw [mapped, streams]
  rfl

theorem holdFormes_keeps (s : State) (fs : List Nat) : (holdFormes s fs).regs = s.regs ∧ (holdFormes s fs).mem = s.mem ∧
    (holdFormes s fs).faults = s.faults := by
  have held : ∀ (l : List Nat) (u : State), (l.foldl formeHeld u).regs = u.regs ∧ (l.foldl formeHeld u).mem = u.mem ∧
      (l.foldl formeHeld u).faults = u.faults := by
    intro l
    induction l with
    | nil => exact fun u => ⟨rfl, rfl, rfl⟩
    | cons fi l ih =>
      intro u
      obtain ⟨regs, mem, faults⟩ := ih (formeHeld u fi)
      obtain ⟨regs', mem', faults', -⟩ := formeHeld_keeps u fi
      exact ⟨regs.trans regs', mem.trans mem', faults.trans faults'⟩
  exact held fs s

theorem getSt_held {l : List Nat} {s : State} {e : Nat} {x : Stream} (stream : getSt s e = some x) :
    ∃ y, getSt (l.foldl formeHeld s) e = some y ∧ Abandons x y ∧
      ((x.holdRecovery = true ∧ x.step = none) ∨ (x.live = true ∧ x.forme ∈ l) → y.holdRecovery = true ∧ y.step = none) := by
  induction l generalizing s x with
  | nil => exact ⟨x, stream, ⟨rfl, rfl, rfl⟩, fun h => h.resolve_right fun h => absurd h.2 List.not_mem_nil⟩
  | cons fi l ih =>
    obtain ⟨-, -, -, next⟩ := formeHeld_keeps s fi
    obtain ⟨y, later, same, holds⟩ := ih ((next e).trans (congrArg _ stream))
    have here := abandons_heldFor fi x
    have forme : (heldFor fi x).forme = x.forme := congrArg genForme here.cmd
    refine ⟨y, later, ⟨same.cmd.trans here.cmd, same.vlen.trans here.vlen, same.live.trans here.live⟩, fun h => holds ?_⟩
    rcases h with h | ⟨live, mem⟩
    · exact .inl (heldFor_keeps h)
    · rcases List.mem_cons.1 mem with mine | mem
      · refine .inl ?_
        unfold heldFor
        rw [if_pos (by rw [live, mine, beq_self_eq_true]; rfl)]
        exact abandon_holds x
      · exact .inr ⟨here.live.trans live, by rwa [forme]⟩

/-! ### Chases that halt -/

/-- A halted chase changes registers, its slips and the free values only. -/
structure HaltKeeps (s t : State) : Prop where
  mem : t.mem = s.mem
  faults : t.faults = s.faults
  serve : t.serve = s.serve

theorem HaltKeeps.trans {s t u : State} (h : HaltKeeps s t) (k : HaltKeeps t u) : HaltKeeps s u :=
  ⟨k.mem.trans h.mem, k.faults.trans h.faults, k.serve.trans h.serve⟩

theorem haltKeeps_setF (s : State) (f : Fld) (v i k : Nat) : HaltKeeps s (setF s f v i k) := ⟨rfl, rfl, rfl⟩

theorem haltKeeps_nextFree (s : State) : HaltKeeps s (nextFree s).2 := ⟨rfl, rfl, rfl⟩

theorem haltKeeps_setChase (s : State) (n : Nat) (ch : Chase) : HaltKeeps s (setChase s n ch) := ⟨rfl, rfl, rfl⟩

theorem haltKeeps_noteSlip (s : State) (n source : Nat) : HaltKeeps s (noteSlip s n source none) := by
  unfold noteSlip addF
  exact (((((haltKeeps_setF ..).trans (haltKeeps_setF ..)).trans (haltKeeps_setF ..)).trans (haltKeeps_nextFree _)).trans
    (haltKeeps_setF ..)).trans (haltKeeps_setF ..)

theorem haltKeeps_haltChase (s : State) (n : Nat) : HaltKeeps s (haltChase s n) := by
  unfold haltChase
  split_ifs
  · exact ⟨rfl, rfl, rfl⟩
  · unfold openSlip
    exact ((haltKeeps_setF ..).trans (haltKeeps_setChase ..)).trans (haltKeeps_noteSlip ..)

theorem haltKeeps_haltChases (l : List Nat) (s : State) : HaltKeeps s (l.foldl haltChase s) := by
  induction l generalizing s with
  | nil => exact ⟨rfl, rfl, rfl⟩
  | cons n l ih =>
    obtain ⟨mem, faults, serve⟩ := ih (haltChase s n)
    obtain ⟨mem', faults', serve'⟩ := haltKeeps_haltChase s n
    exact ⟨mem.trans mem', faults.trans faults', serve.trans serve'⟩

theorem haltChase_asks (s : State) (n : Nat) : onF (haltChase s n) Reg.CHS_SCHED_CTL_HALT_REQ n = true := by
  unfold haltChase
  split_ifs with asked
  · exact asked
  · rw [onF_congr (getF_openSlip _ _ _ _ _ (by decide) (by decide) (by decide) (by decide) (by decide)), onF_setF_same]
    rfl

/-- The record of a slip of any chase, whatever its number, leaves the halt request of one of the 256: the words it writes
stand behind the control words. -/
theorem haltReq_noteSlip (s : State) (m : Nat) {n : Nat} (chase : n < 256) :
    getF (noteSlip s m Src.keeperHalt none) Reg.CHS_SCHED_CTL_HALT_REQ n = getF s Reg.CHS_SCHED_CTL_HALT_REQ n := by
  have behind : ∀ (u : State) (f : Fld) (v k : Nat), Reg.CHS_SCHED_CTL_HALT_REQ.key 255 0 < f.key 0 k →
      getF (setF u f v m k) Reg.CHS_SCHED_CTL_HALT_REQ n = getF u Reg.CHS_SCHED_CTL_HALT_REQ n := by
    intro u f v k later
    refine getF_setF_ne _ _ ?_
    rw [Fld.key_inst _ 255] at later
    rw [Fld.key_inst _ n, Fld.key_inst _ m]
    omega
  have drawn : ∀ u : State, getF (nextFree u).2 Reg.CHS_SCHED_CTL_HALT_REQ n = getF u Reg.CHS_SCHED_CTL_HALT_REQ n :=
    fun u => getF_congr rfl ..
  unfold noteSlip addF
  dsimp only
  rw [behind _ _ _ _ (by decide), behind _ _ _ _ (by decide), drawn, behind _ _ _ _ (by decide), behind _ _ _ _ (by decide),
    behind _ _ _ _ (by decide)]

theorem haltChase_other (s : State) {m n : Nat} (chase : n < 256) (other : m ≠ n) :
    getF (haltChase s m) Reg.CHS_SCHED_CTL_HALT_REQ n = getF s Reg.CHS_SCHED_CTL_HALT_REQ n := by
  unfold haltChase
  split_ifs
  · rfl
  · unfold openSlip
    rw [haltReq_noteSlip _ m chase, getF_congr (setChase_regs ..)]
    refine getF_setF_ne _ _ ?_
    rw [Fld.key_inst _ n, Fld.key_inst _ m]
    omega

theorem haltChases_ask {l : List Nat} {s : State} {n : Nat} (chase : n < 256)
    (asked : onF s Reg.CHS_SCHED_CTL_HALT_REQ n = true ∨ n ∈ l) : onF (l.foldl haltChase s) Reg.CHS_SCHED_CTL_HALT_REQ n = true := by
  induction l generalizing s with
  | nil => exact asked.resolve_right List.not_mem_nil
  | cons m l ih =>
    refine ih ?_
    by_cases same : m = n
    · exact .inl (by rw [same, haltChase_asks])
    · rw [onF_congr (haltChase_other s chase same)]
      exact asked.imp id fun h => (List.mem_cons.1 h).resolve_left (Ne.symm same)

/-! ### The start of a recovery -/

/-- The recovery that a fault item starts where none holds its chase. -/
def newRecovery (s : State) (n : Nat) (items : List FaultItem) (kind : Nat) (self move : List Nat) : Recovery :=
  { Recovery.empty n with
    chases := (growSet s 17 [n]).2.dedup, formes := (growSet s 17 [n]).1.dedup
    items := items ++ s.faults.evidence.filter (fun it => it.chase.any (fun c => (growSet s 17 [n]).2.contains c))
    since := s.lampTime, kind := max 1 kind, selfTest := self.dedup, move := move.dedup }

/-- The recoveries with a new one. -/
def recoveryEntered (s : State) (n : Nat) (items : List FaultItem) (kind : Nat) (self move : List Nat) : State :=
  { s with faults := { s.faults with
    evidence := s.faults.evidence.filter (fun it => !it.chase.any (fun c => (growSet s 17 [n]).2.contains c))
    recoveries := s.faults.recoveries ++ [newRecovery s n items kind self move] } }

section
variable {s : State} {n : Nat} (items : List FaultItem) (kind : Nat) (self move : List Nat)

theorem schedules_of_regs {u : State} (same : u.regs = s.regs) (m : Nat) : schedules u m = schedules s m := by
  unfold schedules chaseBeacon beaconOf railOn rail
  rw [getF_congr same, getF_congr same]

/-- The streams of some formes held, and those of some chases that run asked to halt. -/
def heldAndHalted (u : State) (fs cs : List Nat) : State :=
  (cs.filter (schedules (holdFormes u fs))).foldl haltChase (holdFormes u fs)

theorem heldAndHalted_gives (u : State) (fs cs : List Nat) (chase : n < 256) (known : n ∈ cs) :
    (heldAndHalted u fs cs).faults = u.faults ∧ (heldAndHalted u fs cs).mem = u.mem ∧
    (schedules u n = true → onF (heldAndHalted u fs cs) Reg.CHS_SCHED_CTL_HALT_REQ n = true) ∧
    ∀ e x, getSt u e = some x → x.live = true → x.forme ∈ fs →
      ∃ y, getSt (heldAndHalted u fs cs) e = some y ∧ y.holdRecovery = true ∧ y.step = none ∧ y.vlen = x.vlen ∧ y.cmd = x.cmd := by
  obtain ⟨-, mem, faults⟩ := holdFormes_keeps u fs
  have kept := haltKeeps_haltChases (cs.filter (schedules (holdFormes u fs))) (holdFormes u fs)
  refine ⟨kept.faults.trans faults, kept.mem.trans mem, fun running => ?_, fun e x stream live affected => ?_⟩
  · refine haltChases_ask chase (.inr (List.mem_filter.2 ⟨known, ?_⟩))
    rw [schedules_of_regs (holdFormes_keeps u fs).1, running]
  · obtain ⟨y, held, same, holds⟩ := getSt_held (l := fs) stream
    obtain ⟨hold, step⟩ := holds (.inr ⟨live, affected⟩)
    have streams : getSt (heldAndHalted u fs cs) e = getSt (holdFormes u fs) e :=
      congrArg (fun x : Serve => kget? x.streams e) kept.serve
    exact ⟨y, streams.trans held, hold, step, same.vlen, same.cmd⟩

theorem startRecovery_eq (free : ∀ r ∈ s.faults.recoveries, n ∉ r.chases) : startRecovery s n [n] items kind self move =
    heldAndHalted (recoveryEntered s n items kind self move) (newRecovery s n items kind self move).formes
      (newRecovery s n items kind self move).chases := by
  have none : s.faults.recoveries.findIdx (fun r => r.chases.contains n) = s.faults.recoveries.length :=
    List.findIdx_eq_length.2 fun r mem => by simpa using free r mem
  unfold startRecovery heldAndHalted recoveryEntered newRecovery Recovery.empty
  simp only [none, List.getElem?_eq_none (Nat.le_refl _), if_neg (Nat.lt_irrefl _), Option.getD_none, List.nil_append]

theorem recoveryEntered_keeps (s : State) (n : Nat) : (recoveryEntered s n items kind self move).regs = s.regs ∧
    (recoveryEntered s n items kind self move).mem = s.mem ∧ (recoveryEntered s n items kind self move).serve = s.serve ∧
    (recoveryEntered s n items kind self move).faults.recoveries =
      s.faults.recoveries ++ [newRecovery s n items kind self move] := ⟨rfl, rfl, rfl, rfl⟩

theorem newRecovery_fields (s : State) (n : Nat) : (newRecovery s n items kind self move).phase = .halting ∧
    (newRecovery s n items kind self move).chase = n ∧ n ∈ (newRecovery s n items kind self move).chases ∧
    (newRecovery s n items kind self move).since = s.lampTime ∧ (∀ it ∈ items, it ∈ (newRecovery s n items kind self move).items) ∧
    ∀ f x, (f, x) ∈ s.formes → (∃ p ∈ x.parts, p.live = true ∧ p.chase = n) →
      f ∈ (newRecovery s n items kind self move).formes := by
  unfold newRecovery
  dsimp only
  generalize 17 = k
  refine ⟨rfl, rfl, ?_, rfl, ?_, ?_⟩
  · exact List.mem_dedup.2 (mem_growSet s k n)
  · exact fun _ => List.mem_append_left _
  · exact fun f x forme part => List.mem_dedup.2 (mem_growSet_formes List.mem_cons_self forme part)

theorem startRecovery_gives (chase : n < 256) (free : ∀ r ∈ s.faults.recoveries, n ∉ r.chases) :
    let t := startRecovery s n [n] items kind self move
    ∃ r, t.faults.recoveries = s.faults.recoveries ++ [r] ∧ r.phase = .halting ∧ r.chase = n ∧ n ∈ r.chases ∧
      r.since = s.lampTime ∧ (∀ it ∈ items, it ∈ r.items) ∧
      (∀ f x, (f, x) ∈ s.formes → (∃ p ∈ x.parts, p.live = true ∧ p.chase = n) → f ∈ r.formes) ∧
      (∀ e x, getSt s e = some x → x.live = true → x.forme ∈ r.formes →
        ∃ y, getSt t e = some y ∧ y.holdRecovery = true ∧ y.step = none ∧ y.vlen = x.vlen ∧ y.cmd = x.cmd) ∧
      (schedules s n = true → onF t Reg.CHS_SCHED_CTL_HALT_REQ n = true) ∧ t.mem = s.mem := by
  obtain ⟨regs, mem, serve, entered⟩ := recoveryEntered_keeps items kind self move s n
  obtain ⟨phase, mine, known, since, items', formes⟩ := newRecovery_fields items kind self move s n
  have started := startRecovery_eq items kind self move free
  intro t
  have result : t = _ := started
  clear_value t
  clear started
  generalize newRecovery s n items kind self move = r at *
  generalize recoveryEntered s n items kind self move = u at *
  subst result
  obtain ⟨faults, mem', asks, holds⟩ := heldAndHalted_gives u r.formes r.chases chase known
  refine ⟨r, (congrArg Faults.recoveries faults).trans entered, phase, mine, known, since, items',
    formes, fun e x stream => holds e x ?_, fun running => asks ?_, mem'.trans mem⟩
  · exact (congrArg (fun x : Serve => kget? x.streams e) serve).trans stream
  · rw [schedules_of_regs regs, running]

end

/-- Settles O60: a started recovery enters its record, holds the streams of its formes and asks every running chase of its
set to halt, and none of these undoes another. -/
theorem recoverySteps : Obligations.RecoverySteps := by
  unfold Obligations.RecoverySteps
  exact ⟨⟨⟨fun i it s => event_gives, fun i s => exec_event_none, fun g s => exec_suspectDecay_early, fun g s => suspectDecay_gives⟩,
      fun i r s found => ⟨exec_fabricDrained found, exec_fabricDrained_other found, exec_retestDone_named found,
        exec_retestDone_whole found, exec_retestDone_other found, exec_reloadDone found, exec_reloadDone_other found⟩⟩,
    fun n items kind self move s => startRecovery_gives items kind self move⟩

end Sys2Proof.Machine

end

section
/-! The scalar sequencer (R141, R164, R170, R176, R177, R192 to R195; O17). -/

namespace Sys2Proof.Machine

/-! ### When a core executes an operation -/

section
variable {s : State} {c : CoreRef} (op : Nat)

theorem runs_of_opDue (h : opDue s c op = false) : runs s c op = false := by
  unfold runs
  rw [h, Bool.and_false]

theorem runs_next {x : NextOp} (next : nextOp s c = some x) (other : opCode x.word.unit x.word.fn ≠ op ∨
    reached (getChase s (chaseOf c)).time (getCore s c).lag x.due = false) : runs s c op = false := by
  refine runs_of_opDue op ?_
  unfold opDue
  rw [next, Option.all_some, Bool.and_eq_false_iff]
  exact other.imp beq_false_of_ne id

theorem runs_frozen (frozen : (getChase s (chaseOf c)).frozen = true) (level : (getCore s c).lag = 0) : runs s c op = false := by
  unfold runs
  dsimp only
  rw [frozen, level]
  simp

theorem runs_stuck (stuck : (getCore s c).stuck (getChase s (chaseOf c)).time = true) : runs s c op = false := by
  unfold runs
  dsimp only
  rw [stuck]
  simp

theorem runs_fenced {f : Nat × Nat × Nat} (mem : f ∈ (getCore s c).fences)
    (past : reached (getChase s (chaseOf c)).time (getCore s c).lag f.2.2 = true) : runs s c op = false := by
  refine runs_stuck op ?_
  unfold Core.stuck
  rw [Bool.or_eq_true]
  exact .inr (List.any_eq_true.2 ⟨f, mem, past⟩)

theorem runs_gated {u : Nat × Nat} (mem : u ∈ (getCore s c).uses)
    (past : reached (getChase s (chaseOf c)).time (getCore s c).lag u.2 = true) (open_ : (getGate s c u.1).st ≠ .complete) :
    runs s c op = false := by
  refine runs_stuck op ?_
  unfold Core.stuck
  rw [Bool.or_eq_true]
  refine .inl (List.any_eq_true.2 ⟨u, List.mem_filter.2 ⟨mem, past⟩, ?_⟩)
  unfold getGate kgetD at open_
  cases gate : kget? (getCore s c).gates u.1 with
  | none => rfl
  | some g =>
    rw [gate] at open_
    exact bne_iff_ne.2 open_

end

/-! ### Operations -/

section
variable {s : State} {c : CoreRef}

theorem asOp_waits {op : Nat} (f : State → State) (waits : runs s c op = false) : asOp s c op f = s := by
  unfold asOp
  rw [waits]
  exact if_neg Bool.false_ne_true

theorem exec_endOp (ready : runs s c (opCode 0 1) = true) : exec (.endOp c) s =
    .next (endSlots (modCore s c (fun k => { k with pass := k.pass + 1, op := 0, loops := [] })) c) := by
  show execEndOp c s = _
  unfold execEndOp
  rw [if_pos ready]

theorem endSlots_plain (plain : ∀ x, partOfCore s c = some x → x.2.2.flags / 4 % 2 ≠ 1) : endSlots s c = s := by
  unfold endSlots
  cases part : partOfCore s c with
  | none => rfl
  | some x => exact if_neg (plain x part)

theorem exec_endOp_plain (ready : runs s c (opCode 0 1) = true)
    (plain : ∀ x, partOfCore s c = some x → x.2.2.flags / 4 % 2 ≠ 1) : exec (.endOp c) s =
      .next (modCore s c (fun k => { k with pass := k.pass + 1, op := 0, loops := [] })) := by
  have same : partOfCore (modCore s c (fun k => { k with pass := k.pass + 1, op := 0, loops := [] })) c = partOfCore s c := rfl
  rw [exec_endOp ready, endSlots_plain fun x part => plain x (same.symm.trans part)]

/-- What a LOOP enters with: its cycle, its count, its body's cycles and words, by the program's word where there is one. -/
def loopGiven (s : State) (c : CoreRef) (n cyc w : Nat) : Nat × Nat × Nat × Nat :=
  (nextOp s c).elim (0, n, cyc, w) fun x => (x.word.cycle, loopCount x.word, loopCycles x.word, loopWords x.word)

theorem setCore_enterLoop (s : State) (c : CoreRef) (k : Core) (g : Nat × Nat × Nat × Nat) :
    setCore s c (k.enterLoop g.1 g.2.1 g.2.2.1 g.2.2.2) =
      if g.2.1 = 0 ∨ g.2.2.2 = 0 then setCore s c (k.goto (k.op + 1 + g.2.2.2))
      else setCore s c { k with
        op := k.op + 1, loops := ⟨k.op + 1, k.loopBase + g.1, g.2.2.2, g.2.2.1, g.2.1⟩ :: k.loops } := by
  unfold Core.enterLoop
  split_ifs <;> rfl

theorem exec_loop (ready : runs s c (opCode 0 2) = true) (n cyc w : Nat) :
    let k := getCore s c
    let g := loopGiven s c n cyc w
    exec (.loop c n cyc w) s = .next (if 4 ≤ k.loops.length then s
      else if g.2.1 = 0 ∨ g.2.2.2 = 0 then setCore s c (k.goto (k.op + 1 + g.2.2.2))
      else setCore s c { k with
        op := k.op + 1, loops := ⟨k.op + 1, k.loopBase + g.1, g.2.2.2, g.2.2.1, g.2.1⟩ :: k.loops }) := by
  intro k g
  show execLoop c n cyc w s = _
  unfold execLoop modCore
  by_cases deep : 4 ≤ k.loops.length
  · rw [if_pos deep, if_neg fun h => absurd h.2 (Nat.not_lt.2 deep)]
  · rw [if_neg deep, if_pos ⟨ready, Nat.not_le.1 deep⟩, ← setCore_enterLoop]
    refine congrArg _ (congrArg (setCore s c) ?_)
    show _ = k.enterLoop (loopGiven s c n cyc w).1 (loopGiven s c n cyc w).2.1 (loopGiven s c n cyc w).2.2.1
      (loopGiven s c n cyc w).2.2.2
    unfold loopGiven
    cases nextOp s c <;> rfl

theorem passOp_keeps (s : State) (c : CoreRef) : (getCore (passOp s c) c).flags = (getCore s c).flags ∧
    (getCore (passOp s c) c).issued = (getCore s c).issued ∧ (getCore (passOp s c) c).descs = (getCore s c).descs ∧
    (getCore (passOp s c) c).fences = (getCore s c).fences ∧ useCycle (passOp s c) c = useCycle s c := by
  have core : getCore (passOp s c) c = (getCore s c).goto ((getCore s c).op + 1) := getCore_modCore ..
  have chase : getChase (passOp s c) (chaseOf c) = getChase s (chaseOf c) := rfl
  have use : useCycle (passOp s c) c = useCycle s c := by
    unfold useCycle
    rw [core, chase]
    rfl
  rw [core]
  exact ⟨rfl, rfl, rfl, rfl, use⟩

theorem exec_waitEvent (ready : runs s c (opCode 0 9) = true) (f : Fin 64) : exec (.waitEvent c f) s =
    .next (if f.val ∈ (getCore s c).flags then passOp s c
      else modCore (passOp s c) c (fun k => { k with waiting := some f.val })) := by
  obtain ⟨flags, -⟩ := passOp_keeps s c
  show execWaitEvent c f s = _
  unfold execWaitEvent
  rw [asOp_runs _ ready, flags]

theorem fence_runs {kind : Nat} (ready : runs s c (opCode 0 (5 + kind)) = true) :
    let f := (kind, (getCore s c).issued, useCycle s c)
    let u := passOp s c
    fence s c kind = if fenceMet (getCore s c) f then u
      else openSlip (setCore u c { getCore u c with fences := (getCore s c).fences ++ [f] }) (chaseOf c) Src.fenceWait
        (some c) (fenceNo f) := by
  obtain ⟨-, issued, descs, fences, use⟩ := passOp_keeps s c
  have met : ∀ f, fenceMet (getCore (passOp s c) c) f = fenceMet (getCore s c) f := fun f => by
    unfold fenceMet
    rw [descs]
  intro f u
  unfold fence
  rw [asOp_runs _ ready]
  dsimp only
  rw [issued, use, met, fences]

theorem fenceMet_iff (k : Core) (f : Nat × Nat × Nat) : fenceMet k f = true ↔ ∀ x ∈ k.descs, x.2.seq < f.2.1 →
    (f.1 = 0 ∧ (x.2.kind = 3 → x.2.settled = true)) ∨ (f.1 = 1 ∧ (x.2.kind = 5 → x.2.settled = true)) := by
  unfold fenceMet
  rw [List.all_eq_true]
  refine forall₂_congr fun x _ => ?_
  simp only [Bool.or_eq_true, decide_eq_true_eq, Bool.and_eq_true, beq_iff_eq, bne_iff_ne]
  rw [or_assoc, or_iff_not_imp_left, Nat.not_le]
  simp only [ne_eq, or_iff_not_imp_left, not_not]

end

/-! ### The end of a loop's body -/

section
variable {k : Core} {l : LoopAt} {r : List LoopAt} (inside : k.loops = l :: r) (last : k.op + 1 = l.word + l.words)
include inside last

theorem goto_again (more : 1 < l.left) : k.goto (k.op + 1) = { k with
    op := l.word, loops := { l with base := l.base + l.cycles, left := l.left - 1 } :: r } := by
  have ended : endLoops (l :: r) (k.op + 1) = ({ l with base := l.base + l.cycles, left := l.left - 1 } :: r, l.word) :=
    (if_neg (by omega)).trans (if_pos more)
  unfold Core.goto
  rw [inside, ended]

theorem goto_out (done : l.left ≤ 1) (outer : r = []) : k.goto (k.op + 1) = { k with op := k.op + 1, loops := [] } := by
  have ended : endLoops (l :: r) (k.op + 1) = ([], k.op + 1) := by
    refine (if_neg (by omega)).trans ((if_neg (by omega)).trans ?_)
    rw [outer]
    rfl
  unfold Core.goto
  rw [inside, ended]

end

/-- Settles O17: each operation of the sequencer is its core's next one, and what a core that stands lacks is one conjunct
of the condition on which it runs. -/
theorem sequencerOperations : Obligations.SequencerOperations := by
  unfold Obligations.SequencerOperations
  refine ⟨fun c s => ⟨fun ready => ⟨exec_endOp ready, exec_endOp_plain ready⟩, fun ready n cyc w => ?_, exec_waitEvent, ?_,
      fenceMet_iff (getCore s c)⟩,
    fun k l r inside last => ⟨goto_again inside last, goto_out inside last⟩, fun c s => ⟨?_, fun op x => runs_next op,
      fun op => runs_frozen op, fun op f => runs_fenced op, fun op u => runs_gated op⟩⟩
  · intro k g
    have given : loopGiven s c n cyc w = g := by
      unfold loopGiven
      dsimp only [g]
      cases nextOp s c <;> rfl
    have run := exec_loop ready n cyc w
    rw [given] at run
    exact run
  · refine List.forall_mem_cons.2 ⟨fun ready => ?_, List.forall_mem_cons.2 ⟨fun ready => ?_, List.forall_mem_cons.2
      ⟨fun ready => ?_, by simp⟩⟩⟩
    · exact congrArg _ (fence_runs ready)
    · exact congrArg _ (fence_runs ready)
    · exact congrArg _ (fence_runs ready)
  · refine List.forall_mem_cons.2 ⟨fun waits => ?_, List.forall_mem_cons.2 ⟨fun waits => ?_, List.forall_mem_cons.2
      ⟨fun waits => ?_, List.forall_mem_cons.2 ⟨fun waits => ?_, List.forall_mem_cons.2 ⟨fun waits => ?_, by simp⟩⟩⟩⟩⟩
    · show execEndOp c s = _
      unfold execEndOp
      rw [if_neg (Bool.eq_false_iff.1 waits)]
    · exact congrArg _ (asOp_waits _ waits)
    · exact congrArg _ (asOp_waits _ waits)
    · exact congrArg _ (asOp_waits _ waits)
    · exact congrArg _ (asOp_waits _ waits)

end Sys2Proof.Machine

end

section
/-! Messages to the management endpoint and their replies (R410, R517 to R521, R523, R556; O52). -/

namespace Sys2Proof.Machine

/-! ### What a fault record leaves of the pins and the bus state -/

/-- THERMTRIP_N and the buses that are ignored stand as they were. -/
structure AlarmKeeps (s t : State) : Prop where
  pin : t.pins.thermtripN = s.pins.thermtripN
  ignored : t.mgmt.ignored = s.mgmt.ignored

theorem AlarmKeeps.refl (s : State) : AlarmKeeps s s := ⟨rfl, rfl⟩

theorem AlarmKeeps.trans {s t u : State} (h : AlarmKeeps s t) (k : AlarmKeeps t u) : AlarmKeeps s u :=
  ⟨k.pin.trans h.pin, k.ignored.trans h.ignored⟩

theorem alarmKeeps_setF (s : State) (f : Fld) (v i k : Nat) : AlarmKeeps s (setF s f v i k) := ⟨rfl, rfl⟩

theorem alarmKeeps_pageEvent (s : State) (p : Nat) : AlarmKeeps s (pageEvent s p) :=
  (alarmKeeps_setF ..).trans (alarmKeeps_setF ..)

theorem alarmKeeps_refreshIrq (s : State) (p : Nat) : AlarmKeeps s (refreshIrq s p) := by
  unfold refreshIrq
  dsimp only
  split_ifs <;> exact ⟨rfl, rfl⟩

theorem alarmKeeps_setPageErr (s : State) (p : Nat) (f : Fld) (v : Nat) : AlarmKeeps s (setPageErr s p f v) := by
  rw [setPageErr_eq]
  refine AlarmKeeps.trans ?_ (alarmKeeps_refreshIrq ..)
  unfold errorNoted
  split_ifs
  · exact alarmKeeps_setF ..
  · exact (alarmKeeps_setF ..).trans (alarmKeeps_pageEvent ..)

theorem alarmKeeps_ringFault (s : State) (r : FaultRec) : AlarmKeeps s (ringFault s r) := by
  have room : AlarmKeeps s (ringRoomed s errRing) := by
    unfold ringRoomed
    split_ifs
    · exact (alarmKeeps_setF ..).trans (alarmKeeps_setF ..)
    · exact .refl s
  have written : ∀ (u : State) (a : Nat) (bs : List Byte), AlarmKeeps u (hostWrite u a bs) := fun _ _ _ => ⟨rfl, rfl⟩
  have signalled : ∀ (u : State) (v : Nat), AlarmKeeps u (msix u v) := fun _ _ => ⟨rfl, rfl⟩
  unfold ringFault
  split_ifs
  · rw [ringPut_eq]
    exact ((room.trans (written ..)).trans (alarmKeeps_setF ..)).trans (signalled ..)
  · exact .refl s

theorem alarmKeeps_modFault (s : State) (code : Nat) : AlarmKeeps s (modFault s code) := by
  unfold modFault
  split_ifs
  · exact ⟨rfl, rfl⟩
  · exact .refl s

theorem alarmKeeps_pldmEvent (s : State) (r : FaultRec) : AlarmKeeps s (pldmEvent s r) := by
  unfold pldmEvent
  dsimp only
  split_ifs <;> exact ⟨rfl, rfl⟩

theorem alarmKeeps_pageNoted (s : State) (it : FaultItem) : AlarmKeeps s (pageNoted s it) := by
  unfold pageNoted
  split
  · exact alarmKeeps_setPageErr ..
  · exact .refl s

theorem alarmKeeps_remembered (s : State) (it : FaultItem) : AlarmKeeps s (remembered (logged s it) it) := ⟨rfl, rfl⟩

theorem alarmKeeps_logFault (s : State) (it : FaultItem) : AlarmKeeps s (logFault s it) := by
  cases again : suppressed s it with
  | true =>
    rw [logFault_suppressed s it again]
    exact (alarmKeeps_setF ..).trans (alarmKeeps_setF ..)
  | false =>
    rw [logFault_logged s it again]
    exact ((((alarmKeeps_remembered s it).trans (alarmKeeps_pageNoted ..)).trans (alarmKeeps_ringFault ..)).trans
      (alarmKeeps_modFault ..)).trans (alarmKeeps_pldmEvent ..)

theorem pins_logFault_suppressed {s : State} {it : FaultItem} (again : suppressed s it = true) : (logFault s it).pins = s.pins := by
  rw [logFault_suppressed s it again]
  rfl

/-! ### Messages on a bus that serves -/

section
variable {b : Nat} {s : State}

theorem served_up (up : busOk s b = true) (f : State → State) : served s b f = f (addF s Reg.MGT_MESSAGES 1 0) := by
  unfold served
  exact if_pos up

theorem served_down (down : busOk s b = false) (f : State → State) : served s b f = s := by
  unfold served
  exact if_neg (Bool.eq_false_iff.1 down)

theorem servedAny_up {b : Fin 2} (up : busOk s b = true) (f : State → State) : servedAny s f = f (addF s Reg.MGT_MESSAGES 1 0) := by
  unfold servedAny
  refine served_up ?_ f
  split_ifs with first
  · exact first
  · have second : b.val = 1 := by
      by_contra other
      have zero : b.val = 0 := by omega
      exact first (zero ▸ up)
    rw [← second, up]

/-- One free byte is sent as the reply. -/
theorem replyFree_gives (s : State) (b : Nat) : (∃ x, (replyFree s b).io.mgmtOut = s.io.mgmtOut ++ [(b, [x])]) ∧
    (replyFree s b).regs = s.regs ∧ (replyFree s b).mgmt = s.mgmt := ⟨⟨_, rfl⟩, rfl, rfl⟩

end

section
variable {b : Fin 2} {s : State} (up : busOk s b = true)
include up

theorem mctpControl_gives (eid : Nat) : Gives (.mctpControl b eid) s fun t =>
    getF t (if b.val = 0 then Reg.MGT_EID_EID_I3C else Reg.MGT_EID_EID_SMB) 0 = eid % 256 ∧
      ∃ x, t.io.mgmtOut = s.io.mgmtOut ++ [(b.val, [x])] := by
  let u := addF s Reg.MGT_MESSAGES 1 0
  have run : exec (.mctpControl b eid) s = .next (replyFree (if b.val = 0 then setF u Reg.MGT_EID_EID_I3C eid 0
      else setF u Reg.MGT_EID_EID_SMB eid 0) b) := congrArg _ (served_up up _)
  refine ⟨_, run, ?_⟩
  split_ifs
  · obtain ⟨reply, regs, -⟩ := replyFree_gives (setF u Reg.MGT_EID_EID_I3C eid 0) b
    exact ⟨(getF_congr regs ..).trans (getF_setF_same ..), reply⟩
  · obtain ⟨reply, regs, -⟩ := replyFree_gives (setF u Reg.MGT_EID_EID_SMB eid 0) b
    exact ⟨(getF_congr regs ..).trans (getF_setF_same ..), reply⟩

theorem pldmBase_gives (cmd : Nat) : Gives (.pldmBase b cmd) s fun t =>
    (∃ x, t.io.mgmtOut = s.io.mgmtOut ++ [(b.val, [x])]) ∧ t.regs = (addF s Reg.MGT_MESSAGES 1 0).regs := by
  have run : exec (.pldmBase b cmd) s = .next (replyFree (addF s Reg.MGT_MESSAGES 1 0) b) := congrArg _ (served_up up _)
  obtain ⟨reply, regs, -⟩ := replyFree_gives (addF s Reg.MGT_MESSAGES 1 0) b
  exact ⟨_, run, reply, regs⟩

theorem monitoring_receiver (arg : Nat) : Gives (.pldmMonitoring b 0x04 arg) s fun t => t.mgmt.receiver = decide (arg ≠ 0) := by
  have run : exec (.pldmMonitoring b 0x04 arg) s = .next (replyFree { addF s Reg.MGT_MESSAGES 1 0 with
      mgmt := { s.mgmt with receiver := decide (arg ≠ 0) } } b) := by
    show execPldmMonitoring b 0x04 arg s = _
    unfold execPldmMonitoring
    rw [served_up up, if_pos rfl]
    rfl
  exact ⟨_, run, congrArg Mgmt.receiver (replyFree_gives ..).2.2⟩

theorem exec_monitoring_event (arg : Nat) :
    exec (.pldmMonitoring b 0x0B arg) s = .next (readEvent (addF s Reg.MGT_MESSAGES 1 0) b) := by
  show execPldmMonitoring b 0x0B arg s = _
  unfold execPldmMonitoring
  rw [served_up up, if_neg (show ¬ 0x0B = 0x04 by decide), if_pos rfl]

theorem exec_monitoring_numeric (i v : Nat) (sensor : numericSensor (addF s Reg.MGT_MESSAGES 1 0) i = some v) :
    exec (.pldmMonitoring b 0x11 i) s = .next (reply (addF s Reg.MGT_MESSAGES 1 0) b (leBytes 4 v)) := by
  show execPldmMonitoring b 0x11 i s = _
  unfold execPldmMonitoring
  rw [served_up up, if_neg (show ¬ 0x11 = 0x04 by decide), if_neg (show ¬ 0x11 = 0x0B by decide), if_pos rfl, sensor]

theorem exec_monitoring_state (i v : Nat) (sensor : stateSensor (addF s Reg.MGT_MESSAGES 1 0) i = some v) :
    exec (.pldmMonitoring b 0x21 i) s = .next (reply (addF s Reg.MGT_MESSAGES 1 0) b (leBytes 1 v)) := by
  show execPldmMonitoring b 0x21 i s = _
  unfold execPldmMonitoring
  rw [served_up up, if_neg (show ¬ 0x21 = 0x04 by decide), if_neg (show ¬ 0x21 = 0x0B by decide),
    if_neg (show ¬ 0x21 = 0x11 by decide), if_pos rfl, sensor]

theorem exec_readRegTimeout {addr : Nat} (other : lampAnswers addr = false) :
    exec (.readRegTimeout b addr) s = .next (reply (addF s Reg.MGT_MESSAGES 1 0) b [1]) := by
  show execReadRegTimeout b addr s = _
  unfold execReadRegTimeout
  rw [if_neg (Bool.eq_false_iff.1 other), served_up up]

theorem exec_readFaultLog {i : Nat} {r : FaultRec} (logged : s.faults.log[i]? = some r) :
    exec (.readFaultLog b i) s = .next (reply (addF s Reg.MGT_MESSAGES 1 0) b (recordBytes r)) := by
  have same : (addF s Reg.MGT_MESSAGES 1 0).faults.log[i]? = some r := logged
  refine congrArg _ ((served_up up _).trans ?_)
  rw [same]
  rfl

theorem exec_readUsage {n : Nat} {r : UsageRec} (stored : s.tele.store.find? (fun r => r.seq == n) = some r) :
    exec (.readUsage b n) s = .next (reply (addF s Reg.MGT_MESSAGES 1 0) b r.bytes) := by
  have same : (addF s Reg.MGT_MESSAGES 1 0).tele.store.find? (fun r => r.seq == n) = some r := stored
  refine congrArg _ ((served_up up _).trans ?_)
  rw [same]
  rfl

omit up in
theorem mem_staged_replaced {c : Nat} {img : List Byte} (l : List (Nat × List Byte)) :
    (∀ x, (c, x) ∈ l.filter (fun y => y.1 != c) ++ [(c, img)] ↔ x = img) ∧
      ∀ d x, d ≠ c → ((d, x) ∈ l.filter (fun y => y.1 != c) ++ [(c, img)] ↔ (d, x) ∈ l) := by
  refine ⟨fun x => ?_, fun d x other => ?_⟩
  · simp
  · simp [other]

theorem firmwareUpdate_gives {c : Nat} (img : List Byte) (component : c < 4) : Gives (.pldmFirmwareUpdate c img true) s fun t =>
    (∀ x, (c, x) ∈ t.mgmt.staged ↔ x = img) ∧ (∀ d x, d ≠ c → ((d, x) ∈ t.mgmt.staged ↔ (d, x) ∈ s.mgmt.staged)) ∧
      exec (.pldmFirmwareUpdate c img false) s = .next (addF s Reg.MGT_MESSAGES 1 0) := by
  have staged : exec (.pldmFirmwareUpdate c img true) s = .next { addF s Reg.MGT_MESSAGES 1 0 with mgmt := { s.mgmt with
      staged := s.mgmt.staged.filter (fun y => y.1 != c) ++ [(c, img)] } } := by
    show execPldmFirmwareUpdate c img true s = _
    unfold execPldmFirmwareUpdate
    rw [servedAny_up up, decide_eq_true component, if_pos (by decide)]
    rfl
  have refused : exec (.pldmFirmwareUpdate c img false) s = .next (addF s Reg.MGT_MESSAGES 1 0) := by
    show execPldmFirmwareUpdate c img false s = _
    unfold execPldmFirmwareUpdate
    rw [servedAny_up up, Bool.false_and, if_neg Bool.false_ne_true]
  obtain ⟨mine, others⟩ := mem_staged_replaced (c := c) (img := img) s.mgmt.staged
  exact ⟨_, staged, mine, others, refused⟩

end

/-! ### Buses that are shorted, and stuck pins -/

section
variable {b : Fin 2} {s : State}

/-- A shorted bus: it serves no more, and is ignored from now on. -/
def busShorted (s : State) (b : Nat) : State :=
  { setBus s b false with mgmt := { s.mgmt with
    ignored := s.mgmt.ignored.filter (fun x => x.1 != b) ++ [(b, s.lampTime)] } }

theorem setBus_keeps (s : State) (b : Nat) : (setBus s b false).mgmt = s.mgmt ∧ (setBus s b false).lampTime = s.lampTime ∧
    (setBus s b false).faults = s.faults ∧ (setBus s b false).mem = s.mem := by
  unfold setBus flagF
  split_ifs <;> exact ⟨rfl, rfl, rfl, rfl⟩

theorem busOk_setBus (s : State) (b : Nat) : busOk (setBus s b false) b = false := by
  unfold busOk setBus
  split_ifs
  · exact onF_flagF_same (one := rfl) ..
  · exact onF_flagF_same (one := rfl) ..

theorem exec_mgtBusShort (b : Fin 2) (s : State) : exec (.mgtBusShort b) s =
    .next (if s.mgmt.ignored.any (fun x => x.1 == b.val) then busShorted s b
      else logFault (busShorted s b) (blockItem Err.MGT_BUS_SHORT (identOf 0x12 0) [b.val + 1])) := by
  obtain ⟨mgmt, time, -⟩ := setBus_keeps s b
  show execMgtBusShort b s = _
  unfold execMgtBusShort busShorted
  dsimp only
  rw [mgmt, time]

theorem busOk_of_regs {t : State} (regs : t.regs = s.regs) (n : Nat) : busOk t n = busOk s n := by
  unfold busOk
  rw [onF_congr (getF_congr regs ..), onF_congr (getF_congr regs ..)]

theorem busShorted_gives (s : State) (b : Nat) : busOk (busShorted s b) b = false ∧ (b, s.lampTime) ∈ (busShorted s b).mgmt.ignored ∧
    (busShorted s b).mem = s.mem ∧ (busShorted s b).faults = s.faults := by
  obtain ⟨-, -, faults, mem⟩ := setBus_keeps s b
  have regs : (busShorted s b).regs = (setBus s b false).regs := rfl
  exact ⟨(busOk_of_regs regs b).trans (busOk_setBus s b), List.mem_append_right _ List.mem_cons_self, mem, faults⟩

theorem mgtItem_page (code : Nat) (xs : List Nat) : ∀ x, (blockItem code (identOf 0x12 0) xs).block = some x → pageOfIdent x < 4096 :=
  blockItem_page code xs (by decide) (by decide)

theorem busOk_logFault {s : State} {it : FaultItem} (page : ∀ x, it.block = some x → pageOfIdent x < 4096) (n : Nat) :
    busOk (logFault s it) n = busOk s n := by
  have fields := fieldsBut_logFault s page
  unfold busOk
  rw [onF_congr (fields.same _ 0 0 (by decide) (by decide +kernel)), onF_congr (fields.same _ 0 0 (by decide) (by decide +kernel))]

theorem mgtBusShort_gives (b : Fin 2) (s : State) : Gives (.mgtBusShort b) s fun t => busOk t b = false ∧
    (b.val, s.lampTime) ∈ t.mgmt.ignored ∧ t.mem.store = s.mem.store ∧
      ((∃ x ∈ s.mgmt.ignored, x.1 = b.val) → t.faults = s.faults) := by
  obtain ⟨down, ignored, mem, faults⟩ := busShorted_gives s b
  refine ⟨_, exec_mgtBusShort b s, ?_⟩
  split_ifs with before
  · exact ⟨down, ignored, congrArg Mem.store mem, fun _ => faults⟩
  · refine ⟨(busOk_logFault (mgtItem_page _ _) b).trans down, ?_, ?_, ?_⟩
    · rw [(alarmKeeps_logFault ..).ignored]
      exact ignored
    · rw [(logFault_rest ..).1, mem]
    · rintro ⟨x, known, same⟩
      exact absurd (List.any_eq_true.2 ⟨x, known, (beq_iff_eq (a := x.1)).2 same⟩) before

/-- The pin that a stuck line is let go of by. -/
def pinReleased (s : State) (p : Nat) : State :=
  match p with
  | 1 => { s with pins := { s.pins with thermtripN := true } }
  | 2 => { s with pins := { s.pins with alertN := true } }
  | _ => s

theorem exec_mgtPinStuck {p : Fin 3} (due : p.val = 0 → agedAt s s.pins.lowSince 10000000000 = true) : exec (.mgtPinStuck p) s =
    .next (logFault (pinReleased s p) (blockItem Err.MGT_PIN_STUCK (identOf 0x12 0) [p.val + 1])) := by
  have late : ¬ (p.val = 0 ∧ (!agedAt s s.pins.lowSince 10000000000) = true) := fun h => by
    rw [due h.1] at h
    exact absurd h.2 (by decide)
  show execMgtPinStuck p s = _
  unfold execMgtPinStuck
  refine congrArg _ ((if_neg late).trans ?_)
  unfold pinReleased
  rfl

theorem exec_mgtPinStuck_early (early : agedAt s s.pins.lowSince 10000000000 = false) : exec (.mgtPinStuck 0) s = .next s := by
  show execMgtPinStuck 0 s = _
  unfold execMgtPinStuck
  exact congrArg _ (if_pos ⟨rfl, by rw [early]; rfl⟩)

theorem pinReleased_keeps (s : State) (p : Nat) : (pinReleased s p).mem = s.mem ∧ (pinReleased s p).serve = s.serve := by
  unfold pinReleased
  split <;> exact ⟨rfl, rfl⟩

theorem suppressed_pinReleased (s : State) (it : FaultItem) : suppressed (pinReleased s 2) it = suppressed s it := rfl

theorem mgtPinStuck_gives {p : Fin 3} (due : p.val = 0 → agedAt s s.pins.lowSince 10000000000 = true) :
    Gives (.mgtPinStuck p) s fun t => (p.val = 1 → t.pins.thermtripN = true) ∧
      (p.val = 2 → (suppressed s (blockItem Err.MGT_PIN_STUCK (identOf 0x12 0) [3]) = true → t.pins.alertN = true)) ∧
      t.mem.store = s.mem.store ∧ t.serve = s.serve := by
  obtain ⟨mem, serve⟩ := pinReleased_keeps s p
  obtain ⟨store, -, serve', -⟩ := logFault_rest (pinReleased s p) (blockItem Err.MGT_PIN_STUCK (identOf 0x12 0) [p.val + 1])
  refine ⟨_, exec_mgtPinStuck due, fun trip => ?_, fun alert again => ?_, ?_, ?_⟩
  · rw [(alarmKeeps_logFault ..).pin, trip]
    rfl
  · rw [alert, pins_logFault_suppressed ((suppressed_pinReleased ..).trans again)]
    rfl
  · rw [store, mem]
  · rw [serve', serve]

/-! ### Addresses, and buses that do not serve -/

theorem exec_setdasa (up : busOk s 0 = true) (a : Nat) :
    exec (.setdasa a) s = .next { s with mgmt := { s.mgmt with dynAddr := a % 128 } } := by
  show execSetdasa a s = _
  unfold execSetdasa
  rw [if_pos up]

theorem exec_entdaa (up : busOk s 0 = true) (a : Nat) :
    exec (.entdaa a) s = .next { s with mgmt := { s.mgmt with dynAddr := a % 128 } } := by
  show execEntdaa a s = _
  unfold execEntdaa
  rw [if_pos up]

theorem exec_readRegTimeout_down (down : busOk s b = false) (addr : Nat) : exec (.readRegTimeout b addr) s = .next s := by
  show execReadRegTimeout b addr s = _
  unfold execReadRegTimeout
  rw [served_down down, ite_self]

theorem exec_unserved (down : busOk s b = false) (x y : Nat) : ∀ c ∈ [Instr.mctpControl b x, .pldmBase b x, .pldmMonitoring b x y,
    .pldmFru b, .readReg b x, .readRegTimeout b x, .readFaultLog b x, .readUsage b x], exec c s = .next s := by
  have idle : ∀ f, served s b f = s := served_down down
  refine List.forall_mem_cons.2 ⟨congrArg _ (idle _), List.forall_mem_cons.2 ⟨congrArg _ (idle _), List.forall_mem_cons.2
    ⟨congrArg _ (idle _), List.forall_mem_cons.2 ⟨congrArg _ (idle _), List.forall_mem_cons.2 ⟨congrArg _ (idle _),
    List.forall_mem_cons.2 ⟨exec_readRegTimeout_down down x, List.forall_mem_cons.2 ⟨congrArg _ (idle _),
    List.forall_mem_cons.2 ⟨congrArg _ (idle _), fun c none => absurd none List.not_mem_nil⟩⟩⟩⟩⟩⟩⟩⟩

end

/-- Settles O52: a bus that serves counts a message and hands it to its command's reply; a record of a fault leaves
THERMTRIP_N and the ignored buses alone. -/
theorem managementMessages : Obligations.ManagementMessages := by
  intro b s
  exact ⟨fun up => ⟨mctpControl_gives up, pldmBase_gives up, monitoring_receiver up, exec_monitoring_event up,
      exec_monitoring_numeric up, exec_monitoring_state up, congrArg _ (served_up up _), fun addr => congrArg _ (served_up up _),
      fun addr => exec_readRegTimeout up, fun i r => exec_readFaultLog up, fun n r => exec_readUsage up,
      congrArg _ (servedAny_up up _), fun f => congrArg _ (servedAny_up up _), fun c img => firmwareUpdate_gives up img⟩,
    fun up a => List.forall_mem_cons.2 ⟨exec_setdasa up a, List.forall_mem_cons.2 ⟨exec_entdaa up a,
      fun c none => absurd none List.not_mem_nil⟩⟩,
    fun down x y => exec_unserved down x y, mgtBusShort_gives b s, fun p => mgtPinStuck_gives, exec_mgtPinStuck_early⟩

end Sys2Proof.Machine

end
